-- ==== Sys2Proof/Word.lean ====
section
/-! DEFINITION. The words of the module: registers are 64 bits wide, flits 512, bytes 8. -/

namespace Sys2Proof

/-- A register of the module (R7: every register is 64 bits wide). -/
abbrev Word := BitVec 64

/-- A byte of payload, flash or descriptor. -/
abbrev Byte := BitVec 8

/-- The LINKCTL/header and body parts of a flit (R56): a 32-bit link control word and 448 bits of body. -/
abbrev Ctrl := BitVec 32
abbrev Body := BitVec 448

end Sys2Proof
end

