-- ==== Sys2Proof/Types.lean ====
section
/-! DEFINITION. What commands carry: access paths, packets, messages of the on-die network. -/

namespace Sys2Proof

/-- The path of a register access (Table 19-1). -/
inductive Path where
  | firmware
  | mgmt
  | jtag
  /-- the register window of physical function 0 of host port h -/
  | host (h : Fin 4)
  | ring
  | fwMsg
  /-- BAR 2b and 2b+1 of function f of host port h (Table 9-2); h = 4 is the management port, with f = b = 0. Addresses are offsets in
  the BAR. -/
  | bar (h : Fin 5) (f : Fin 256) (b : Fin 3)
deriving DecidableEq, Repr

/-- How a register access comes: its path, and whether it has the whole 64 bits that R10 asks of it. -/
structure Via where
  path : Path
  whole : Bool
deriving DecidableEq, Repr

/-- A packet as an engine or module firmware builds it and an endpoint reads it (Tables 4-1 to 4-4). -/
structure Machine.Packet where
  type : Nat
  tc : Nat
  epoch : Nat
  cmark : Bool
  enc : Bool
  conn : Bool
  dest : Nat
  src : Nat
  dconn : Nat
  opflags : Nat
  psn : Nat
  inc : Nat
  /-- true for the control form -/
  control : Bool
  /-- OPERAND bytes of a control packet (OPLEN of them), OPHDR bytes of a data packet (16) -/
  oper : List Byte
  payload : List Byte
  tag : Nat
deriving DecidableEq, Repr

/-- What a mesh message asks for. -/
inductive Machine.MeshUse where
  /-- a read or write of a register at a management address, for an access path; a write carries its data -/
  | regRead (addr : Nat) (path : Path)
  | regWrite (addr : Nat) (path : Path) (v : Word)
  /-- an answer, which the endpoint that asked sinks -/
  | answer (v : Word)
  /-- a Kiln pattern -/
  | test
  /-- any other transfer between the endpoints of the mesh, whose effect is the commands' own; a request may expect a response -/
  | transfer (expects : Bool)
deriving DecidableEq, Repr

/-- A message of the on-die network (R336): source and destination die and node, class (0 REQUEST, 1 RESPONSE, 2 MANAGEMENT,
3 TEST), data flits, transaction, poison mark. -/
structure Machine.MeshMsg where
  sdie : Fin 4
  snode : Fin 25
  ddie : Fin 4
  dnode : Fin 25
  cls : Fin 4
  flits : Fin 9
  txn : Fin 1024
  poison : Bool
  use : Machine.MeshUse
deriving DecidableEq, Repr

end Sys2Proof
end

