-- ==== Sys2Proof/Syntax.lean ====
section
/-! DEFINITION. The commands of the block: one constructor for each row of the table of operations and events, in its order. -/

namespace Sys2Proof

/-- A command: an access, a message, an event at a pin or timer, or the completion of something under way. Each
constructor names the rule of the spec that governs it. DESIGN CHOICE (log 4). -/
inductive Instr where
  /-- REGISTER_WRITE (R8) -/
  | registerWrite (via : Via) (a : Nat) (v : Word)
  /-- RC_READ (R8) -/
  | rcRead (via : Via) (a : Nat)
  /-- MODULE_RESET (R22) -/
  | moduleReset (ns : Nat)
  /-- DIE_RESET (R24) -/
  | dieReset (q : Fin 4)
  /-- REGION_RESET (R24) -/
  | regionReset (m : Fin 16)
  /-- CLUSTER_RESET (R24) -/
  | clusterReset (c : Fin 64)
  /-- UNIT_RESET (R24) -/
  | unitReset (q : Fin 4) (ukind : Nat) (n : Nat)
  /-- HOST_PORT_RESET (R22) -/
  | hostPortReset (q : Fin 4)
  /-- MGMT_PORT_RESET (R22) -/
  | mgmtPortReset
  /-- RESET_COMPLETE (R26) -/
  | resetComplete (level : Nat) (q : Fin 4) (ukind : Nat) (n : Nat)
  /-- BRIDGE_DOWN (R17) -/
  | bridgeDown (q : Fin 4) (e : Fin 2)
  /-- BRIDGE_FLIT_ARRIVAL (R15) -/
  | bridgeFlitArrival (q : Fin 4) (e : Fin 2)
  /-- CLUSTER_MAP_WRITE (R37) -/
  | clusterMapWrite (c : Fin 64) (v : Word)
  /-- TXEQ_WRITE (R39) -/
  | txeqWrite (l : Fin 512) (v : Word)
  /-- LANE_CTRL_WRITE (R33) -/
  | laneCtrlWrite (l : Fin 512) (v : Word)
  /-- LANE_TRAINING_FRAME (R44) -/
  | laneTrainingFrame (l : Fin 512) (ctl : Nat)
  /-- ACQUIRE_LOCK (R41) -/
  | acquireLock (l : Fin 512) (inverted : Bool) (peaking : Fin 16)
  /-- ACQUIRE_TIMEOUT (R41) -/
  | acquireTimeout (l : Fin 512)
  /-- ADAPT_CONVERGED (R41) -/
  | adaptConverged (l : Fin 512) (tap : Fin 256)
  /-- ADAPT_TIMEOUT (R41) -/
  | adaptTimeout (l : Fin 512)
  /-- LOSS_OF_SIGNAL (R41) -/
  | lossOfSignal (l : Fin 512) (signal : Bool)
  /-- RX_QUIET_ENTRY (R46) -/
  | rxQuietEntry (l : Fin 512)
  /-- RELOCK (R41) -/
  | relock (l : Fin 512)
  /-- RELOCK_TIMEOUT (R41) -/
  | relockTimeout (l : Fin 512)
  /-- TX_QUIET_ENTRY (R46) -/
  | txQuietEntry (p : Fin 512)
  /-- TX_WAKE_DONE (R46) -/
  | txWakeDone (p : Fin 512)
  /-- MAINT_BURST (R48) -/
  | maintBurst (p : Fin 512)
  /-- FEC_CODEWORD (R35) -/
  | fecCodeword (p : Fin 512) (result : Nat) (flits : Nat)
  /-- PARITY_ERROR (R35) -/
  | parityError (p : Fin 512)
  /-- LOOPBACK_WRITE (R50) -/
  | loopbackWrite (p : Fin 512) (v : Word)
  /-- PATTERN_CTRL_WRITE (R52) -/
  | patternCtrlWrite (l : Fin 512) (v : Word)
  /-- CHECKER_LOCK (R52) -/
  | checkerLock (l : Fin 512)
  /-- CHECKER_LOSS (R52) -/
  | checkerLoss (l : Fin 512) (errors : Nat)
  /-- EYE_SCAN_START (R54) -/
  | eyeScanStart (l : Fin 512) (v : Word)
  /-- EYE_SCAN_STOP (R54) -/
  | eyeScanStop (l : Fin 512)
  /-- EYE_SCAN_DONE (R54) -/
  | eyeScanDone (l : Fin 512) (errors : Nat)
  /-- DATA_FLIT_RECEIVED (R68) -/
  | dataFlitReceived (p : Fin 512) (c : Ctrl) (b : Body)
  /-- IDLE_FLIT_RECEIVED (R67) -/
  | idleFlitReceived (p : Fin 512) (c : Ctrl)
  /-- FLIT_CRC_ERROR (R68) -/
  | flitCrcError (p : Fin 512) (crc : Bool)
  /-- REPLAY_REQ (R69) -/
  | replayReq (p : Fin 512) (c : Ctrl) (b : Body)
  /-- REPLAY_START (R68) -/
  | replayStart (p : Fin 512) (c : Ctrl) (b : Body)
  /-- REPLAY_TIMEOUT (R69) -/
  | replayTimeout (p : Fin 512)
  /-- ACK_DUE (R67) -/
  | ackDue (p : Fin 512)
  /-- CREDIT_MESSAGE_DUE (R81) -/
  | creditMessageDue (p : Fin 512)
  /-- TRANSMIT_FLIT_SLOT (R84) -/
  | transmitFlitSlot (p : Fin 512)
  /-- TRAIN (R73) -/
  | trainReceived (p : Fin 512) (c : Ctrl) (b : Body)
  /-- TRAIN_SEND (R73) -/
  | trainSend (p : Fin 512)
  /-- LANE_PHASE_DONE (R73) -/
  | lanePhaseDone (p : Fin 512)
  /-- ALIGNMENT_DONE (R73) -/
  | alignmentDone (p : Fin 512)
  /-- TRAIN_TIMEOUT (R73) -/
  | trainTimeout (p : Fin 512)
  /-- RETRAIN_REQ (R77) -/
  | retrainReq (p : Fin 512) (c : Ctrl)
  /-- OOS_NOTICE (R79) -/
  | oosNotice (p : Fin 512) (c : Ctrl)
  /-- DRAINED (R79) -/
  | drainedReceived (p : Fin 512) (c : Ctrl)
  /-- WINDOW_DRAINED (R79) -/
  | windowDrained (p : Fin 512)
  /-- DRAIN_TIMEOUT (R79) -/
  | drainTimeout (p : Fin 512)
  /-- DOWN_PROBE (R77) -/
  | downProbe (p : Fin 512)
  /-- SIGNAL_DETECTED (R77) -/
  | signalDetected (p : Fin 512)
  /-- LINK_ENABLE (R77) -/
  | linkEnable (p : Fin 512) (v : Word)
  /-- LINK_DISABLE (R77) -/
  | linkDisable (p : Fin 512) (v : Word)
  /-- INTEG_WRITE (R63) -/
  | integWrite (p : Fin 512) (v : Word)
  /-- LNK_CMD_RETRAIN (R77) -/
  | lnkCmdRetrain (p : Fin 512)
  /-- LNK_CMD_OUT_OF_SERVICE (R79) -/
  | lnkCmdOutOfService (p : Fin 512)
  /-- LNK_CMD_IN_SERVICE (R77) -/
  | lnkCmdInService (p : Fin 512)
  /-- CREDIT (R81) -/
  | creditReceived (p : Fin 512) (c : Ctrl) (b : Body)
  /-- AUDIT (R82) -/
  | auditReceived (p : Fin 512) (c : Ctrl) (b : Body)
  /-- AUDIT_SEND (R82) -/
  | auditSend (p : Fin 512)
  /-- TIME (R86) -/
  | timeReceived (p : Fin 512) (c : Ctrl) (b : Body)
  /-- TIME_SEND (R86) -/
  | timeSend (p : Fin 512)
  /-- ADMIT_WAITING_PACKET (R164) -/
  | admitWaitingPacket (p : Fin 512)
  /-- INJECT_PACKET (R163) -/
  | injectPacket (q : Fin 4) (r : Fin 4) (fw : Bool) (k : Machine.Packet)
  /-- INJECTION_RELEASE (R179) -/
  | injectionRelease (q : Fin 4) (r : Fin 4)
  /-- CELL_FREE (R159) -/
  | cellFree (c : Nat)
  /-- DUNE_SEND (R117) -/
  | duneSend (q : Fin 4)
  /-- DUNE (R118) -/
  | duneReceived (p : Fin 512) (c : Ctrl) (b : Body)
  /-- EPOCH_VALIDATE (R122) -/
  | epochValidate (q : Fin 4) (bank : Fin 2)
  /-- BANK_CHECK_DONE (R122) -/
  | bankCheckDone (q : Fin 4)
  /-- EPOCH_RETIRE (R128) -/
  | epochRetire (q : Fin 4) (bank : Fin 2)
  /-- EPOCH_STAMP (R128) -/
  | epochStamp (q : Fin 4) (e : Fin 2)
  /-- ROUTE_TABLE_WRITE (R123) -/
  | routeTableWrite (q : Fin 4) (bank : Fin 2) (w : Nat) (v : Word)
  /-- PORT_SET_WRITE (R123) -/
  | portSetWrite (q : Fin 4) (bank : Fin 2) (n : Nat) (w : Fin 4) (v : Word)
  /-- EPOCH (R129) -/
  | epochReceived (p : Fin 512) (c : Ctrl) (b : Body)
  /-- COUNT_ROUND (R131) -/
  | countRound
  /-- PORT_DEAD_TIMEOUT (R134) -/
  | portDeadTimeout (p : Fin 512)
  /-- PRT_RELEASE_QUEUED (R136) -/
  | prtReleaseQueued (p : Fin 512)
  /-- PRT_RELEASE_HELD (R136) -/
  | prtReleaseHeld (p : Fin 512)
  /-- PRT_RELEASE_BOTH (R136) -/
  | prtReleaseBoth (p : Fin 512)
  /-- HELD_TRAFFIC_RELEASE (R136) -/
  | heldTrafficRelease (p : Fin 512)
  /-- LEDGER_AUDIT (R148) -/
  | ledgerAudit (q : Fin 4)
  /-- FWD_SHARE_WRITE (R161) -/
  | fwdShareWrite (l : Fin 512) (v : Word)
  /-- FWD_INJ_WRITE (R161) -/
  | fwdInjWrite (q : Fin 4) (v : Word)
  /-- SHAPER_ELIGIBLE (R172) -/
  | shaperEligible (p : Fin 512) (t : Fin 16)
  /-- WHEEL_TURN (R172) -/
  | wheelTurn (q : Fin 4)
  /-- SHAPE_WRITE (R173) -/
  | shapeWrite (p : Fin 512) (t : Fin 16) (v : Word)
  /-- SHAPE_APPLY (R173) -/
  | shapeApply (p : Fin 512) (t : Fin 16)
  /-- GATE_LIST_WRITE (R175) -/
  | gateListWrite (p : Fin 512) (l : Fin 2) (e : Fin 256) (v : Word)
  /-- COMMIT (R175) -/
  | gateCommit (p : Fin 512) (v : Word)
  /-- CANCEL (R175) -/
  | gateCancel (p : Fin 512) (v : Word)
  /-- GATE_TAKEOVER (R176) -/
  | gateTakeover (p : Fin 512)
  /-- GATE_ENTRY_END (R174) -/
  | gateEntryEnd (p : Fin 512)
  /-- GROUP_ENTRY_FETCH (R183) -/
  | groupEntryFetch (q : Fin 4) (g : Fin 65536)
  /-- GROUP_VALIDATE (R186) -/
  | groupValidate (q : Fin 4) (g : Fin 65536)
  /-- GROUP_INVALIDATE (R187) -/
  | groupInvalidate (q : Fin 4) (g : Fin 65536)
  /-- GROUP_FORCE (R187) -/
  | groupForce (q : Fin 4) (g : Fin 65536)
  /-- GROUP_ENTRY_WRITE (R188) -/
  | groupEntryWrite (q : Fin 4) (g : Fin 65536) (w : Fin 16) (v : Word)
  /-- MCAST (R194) -/
  | mcast (q : Fin 4) (member : Fin 256) (k : Machine.Packet)
  /-- RED_UP (R202) -/
  | redUp (q : Fin 4) (src : Nat) (k : Machine.Packet)
  /-- RED_DOWN (R191) -/
  | redDown (q : Fin 4) (k : Machine.Packet)
  /-- COL_GRANT (R201) -/
  | colGrant (q : Fin 4) (k : Machine.Packet)
  /-- BUFFER_ASSIGN (R201) -/
  | bufferAssign (q : Fin 4) (g : Fin 65536) (seq : Nat)
  /-- BARRIER_UP (R195) -/
  | barrierUp (q : Fin 4) (src : Nat) (k : Machine.Packet)
  /-- BARRIER_DOWN (R195) -/
  | barrierDown (q : Fin 4) (k : Machine.Packet)
  /-- EPOCH_COUNT (R195) -/
  | epochCount (q : Fin 4) (src : Nat) (k : Machine.Packet)
  /-- OPERATION_TIMEOUT (R218) -/
  | operationTimeout (q : Fin 4) (g : Fin 65536) (seq : Nat)
  /-- MEMBER_TIMEOUT (R219) -/
  | memberTimeout (q : Fin 4) (g : Fin 65536) (seq : Nat) (member : Fin 256)
  /-- FENCE (R213) -/
  | fenceReceived (p : Fin 512) (c : Ctrl) (b : Body)
  /-- FENCE_GO (R214) -/
  | fenceGo (q : Fin 4) (path : Path) (v : Word)
  /-- FENCE_REFRESH (R214) -/
  | fenceRefresh
  /-- PRODUCER_DOORBELL (R232) -/
  | producerDoorbell (q : Fin 4) (k : Fin 4) (f : Fin 256) (n : Fin 65536) (w : Word) (ok : Bool)
  /-- CONSUMER_DOORBELL (R235) -/
  | consumerDoorbell (q : Fin 4) (k : Fin 4) (f : Fin 256) (n : Fin 65536) (w : Word) (ok : Bool)
  /-- COUNTER_WRITE (R281) -/
  | counterWrite (q : Fin 4) (n : Fin 262144) (v : Word)
  /-- COUNTER_ATOMIC (R281) -/
  | counterAtomic (q : Fin 4) (n : Fin 262144) (op : Fin 4) (x : Word) (y : Word)
  /-- KEYRIGHTS_WRITE (R316) -/
  | keyrightsWrite (q : Fin 4) (n : Fin 65536) (v : Word)
  /-- DESCRIPTOR_START (R238) -/
  | descriptorStart (q : Fin 4) (k : Fin 4) (n : Fin 65536) (desc : BitVec 512) (shards : List (Word × Word)) (ok : Bool)
  /-- MODERATION_END (R243) -/
  | moderationEnd (q : Fin 4) (n : Fin 65536)
  /-- CREATE (R246) -/
  | queueCreate (q : Fin 4) (f : Fin 256)
  /-- PAUSE (R246) -/
  | queuePause (q : Fin 4) (f : Fin 256)
  /-- PAUSE_DONE (R246) -/
  | queuePauseDone (q : Fin 4) (k : Fin 4) (g : Fin 65536)
  /-- RESUME (R246) -/
  | queueResume (q : Fin 4) (f : Fin 256)
  /-- RECOVER (R246) -/
  | queueRecover (q : Fin 4) (f : Fin 256)
  /-- DESTROY (R246) -/
  | queueDestroy (q : Fin 4) (f : Fin 256)
  /-- QUERY (R246) -/
  | queueQuery (q : Fin 4) (f : Fin 256)
  /-- FLUSH_COMPLETE (R248) -/
  | flushComplete (q : Fin 4) (k : Fin 4) (g : Fin 65536)
  /-- CQ_STALL_TIMEOUT (R250) -/
  | cqStallTimeout (q : Fin 4) (g : Fin 65536)
  /-- FUNCTION_LEVEL_RESET (R227) -/
  | functionLevelReset (q : Fin 4) (f : Fin 256)
  /-- D3HOT_TO_D0 (R227) -/
  | d3hotToD0 (q : Fin 4) (f : Fin 256)
  /-- HOST_LINK_DOWN (R227) -/
  | hostLinkDown (q : Fin 4) (hot : Bool)
  /-- HOST_LINK_UP (R225) -/
  | hostLinkUp (q : Fin 4) (rate : Nat) (width : Nat) (flit : Bool) (sris : Bool)
  /-- FNQ_WRITE (R230) -/
  | fnqWrite (q : Fin 4) (f : Fin 256) (k : Fin 4) (v : Word)
  /-- OPEN (R258) -/
  | openConn (q : Fin 4) (f : Fin 256) (v : Word)
  /-- CLOSE (R259) -/
  | closeConn (q : Fin 4) (f : Fin 256) (v : Word)
  /-- CONNECTION_FREE (R259) -/
  | connectionFree (c : Nat)
  /-- QUERY_CONN (R257) -/
  | queryConn (q : Fin 4) (f : Fin 256) (v : Word)
  /-- REGISTER (R276) -/
  | registerRegion (q : Fin 4) (f : Fin 256) (v : Word)
  /-- REVOKE (R278) -/
  | revokeRegion (q : Fin 4) (f : Fin 256) (v : Word)
  /-- REVOKE_DONE (R278) -/
  | revokeDone (q : Fin 4) (n : Fin 262144)
  /-- QUERY_REG (R276) -/
  | queryReg (q : Fin 4) (f : Fin 256) (v : Word)
  /-- PUT (R267) -/
  | rmxPut (q : Fin 4) (k : Machine.Packet)
  /-- GET_REQ (R267) -/
  | getReq (q : Fin 4) (k : Machine.Packet)
  /-- ATOMIC (R267) -/
  | atomic (q : Fin 4) (k : Machine.Packet)
  /-- PUT_CTR (R267) -/
  | putCtr (q : Fin 4) (k : Machine.Packet)
  /-- HOST_READ_COMPLETE (R264) -/
  | hostReadComplete (tag : Nat) (ok : Bool) (data : List Byte)
  /-- HOST_ATOMIC_COMPLETE (R264) -/
  | hostAtomicComplete (tag : Nat) (ok : Bool) (data : List Byte)
  /-- ACK_DELAY_EXPIRY (R270) -/
  | ackDelayExpiry (c : Nat) (tc : Nat)
  /-- ACK (R271) -/
  | rmxAck (q : Fin 4) (k : Machine.Packet)
  /-- NACK (R271) -/
  | rmxNack (q : Fin 4) (k : Machine.Packet)
  /-- GET_RSP (R271) -/
  | getRsp (q : Fin 4) (k : Machine.Packet)
  /-- ATOMIC_RSP (R271) -/
  | atomicRsp (q : Fin 4) (k : Machine.Packet)
  /-- REQUEST_TIMEOUT (R273) -/
  | requestTimeout (c : Nat) (psn : Nat)
  /-- HINT_RETRY (R273) -/
  | hintRetry (c : Nat) (psn : Nat)
  /-- PACING_ELIGIBLE (R274) -/
  | pacingEligible (c : Nat)
  /-- SEND (R294) -/
  | mtcSend (q : Fin 4) (k : Machine.Packet)
  /-- SEND_DATA (R297) -/
  | sendData (q : Fin 4) (k : Machine.Packet)
  /-- RNDV_RTS (R294) -/
  | rndvRts (q : Fin 4) (k : Machine.Packet)
  /-- RNDV_FIN (R301) -/
  | rndvFin (q : Fin 4) (k : Machine.Packet)
  /-- UX_COPY_COMPLETE (R299) -/
  | uxCopyComplete (tag : Nat) (ok : Bool) (data : List Byte)
  /-- RNDV_REGION_FREE (R300) -/
  | rndvRegionFree (q : Fin 4) (f : Fin 256)
  /-- PURGE (R305) -/
  | mtcPurge (q : Fin 4) (f : Fin 256)
  /-- HANDLER_MISS (R321) -/
  | handlerMiss (q : Fin 4) (slot : Fin 256)
  /-- HANDLER_MARK (R322) -/
  | handlerMark (q : Fin 4) (slot : Fin 256) (found : Word)
  /-- WALK_READ_COMPLETE (R326) -/
  | walkReadComplete (tag : Nat) (ok : Bool) (x : Word)
  /-- RETRY (R320) -/
  | trapRetry (q : Fin 4) (id : Fin 65536)
  /-- NOT_PRESENT (R320) -/
  | trapNotPresent (q : Fin 4) (id : Fin 65536) (hint : Fin 65536)
  /-- WALK_ERROR (R320) -/
  | trapWalkError (q : Fin 4) (id : Fin 65536)
  /-- NOT_PERMITTED (R320) -/
  | trapNotPermitted (q : Fin 4) (id : Fin 65536)
  /-- TWAIT_TIMEOUT (R319) -/
  | twaitTimeout (q : Fin 4) (slot : Fin 256)
  /-- TRAP_HINT_RETRY (R319) -/
  | trapHintRetry (q : Fin 4) (slot : Fin 256)
  /-- LOAD (R312) -/
  | xltLoad (q : Fin 4)
  /-- REMOVE (R311) -/
  | xltRemove (q : Fin 4)
  /-- MAP (R329) -/
  | xltMap (q : Fin 4) (f : Fin 256)
  /-- UNMAP (R330) -/
  | xltUnmap (q : Fin 4) (f : Fin 256)
  /-- INVAL (R330) -/
  | xltInval (q : Fin 4) (f : Fin 256)
  /-- INVAL_SPACE (R330) -/
  | xltInvalSpace (q : Fin 4) (f : Fin 256)
  /-- INVAL_COMPLETE (R331) -/
  | xltInvalComplete (q : Fin 4) (f : Fin 256)
  /-- PGRESP (R324) -/
  | pgResp (q : Fin 4) (f : Fin 256)
  /-- PAGE_REQUEST_TIMEOUT (R324) -/
  | pageRequestTimeout (q : Fin 4) (id : Nat)
  /-- XLT_SPACE_WRITE (R309) -/
  | xltSpaceWrite (q : Fin 4) (n : Fin 4096) (root : Bool) (v : Word)
  /-- MESH_MESSAGE (R337) -/
  | meshMessage (m : Machine.MeshMsg) (ecc : Fin 3)
  /-- GATEWAY_MESSAGE (R347) -/
  | gatewayMessage (m : Machine.MeshMsg) (ecc : Fin 3)
  /-- SWITCH (R342) -/
  | meshSwitch (q : Fin 4) (v : Word)
  /-- MESH_QUIESCED (R342) -/
  | meshQuiesced (q : Fin 4)
  /-- HOLDMAX_TIMEOUT (R342) -/
  | holdmaxTimeout (q : Fin 4)
  /-- REGULATOR_RELEASE (R344) -/
  | regulatorRelease (q : Fin 4) (node : Fin 25) (cls : Fin 4)
  /-- CHALLENGE_READ (R355) -/
  | challengeRead (path : Path)
  /-- PRESENT (R355) -/
  | tokenPresent (q : Fin 4) (path : Path)
  /-- TOKEN_VERIFIED (R355) -/
  | tokenVerified
  /-- SET_OPKEY (R356) -/
  | setOpkey (q : Fin 4) (path : Path)
  /-- LOWER (R354) -/
  | debugLower (level : Fin 4)
  /-- INSTALL_CONN (R362) -/
  | installConn (q : Fin 4) (owner : Fin 257) (v : Word)
  /-- INSTALL_GROUP (R362) -/
  | installGroup (q : Fin 4) (owner : Fin 257) (v : Word)
  /-- ERASE (R362) -/
  | keyErase (q : Fin 4) (owner : Fin 257) (v : Word)
  /-- ENTROPY_FAIL (R351) -/
  | entropyFail (q : Fin 4)
  /-- ENTROPY_RECOVER (R351) -/
  | entropyRecover (q : Fin 4)
  /-- WIPE_DONE (R372) -/
  | wipeDone (scope : Nat) (die : Nat) (part : Nat)
  /-- FLASH_INIT (R375) -/
  | flashInit (ok : Bool)
  /-- CANDIDATE_CHOSEN (R382) -/
  | candidateChosen (unread : List Nat)
  /-- SAGGAR_IMAGE_LOADED (R384) -/
  | saggarImageLoaded (ok : Bool)
  /-- ZORURI_IMAGE_LOADED (R384) -/
  | zoruriImageLoaded (ok : Bool)
  /-- CALIBRATION_DONE (R449) -/
  | calibrationDone (q : Fin 4) (ports : List Nat) (lanes : Nat) (brgh : Nat) (brgv : Nat) (banks : List Nat) (chans : List Nat) (tables : Bool) (other : Bool)
  /-- PHASE_RUN (R384) -/
  | phaseRun (words : List Word)
  /-- DIRECTORY_UPDATE_DONE (R377) -/
  | directoryUpdateDone
  /-- TRIAL_A (R386) -/
  | slotTrialA
  /-- TRIAL_B (R386) -/
  | slotTrialB
  /-- SLOT_COMMIT (R387) -/
  | slotCommit (path : Path)
  /-- REVERT (R386) -/
  | slotRevert
  /-- REBOOT (R386) -/
  | slotReboot
  /-- TRIAL_WATCHDOG (R387) -/
  | trialWatchdog
  /-- AUTOCOMMIT (R387) -/
  | autocommit
  /-- FLASH_READ (R376) -/
  | flashRead (v : Word)
  /-- FLASH_PROGRAM (R376) -/
  | flashProgram (v : Word)
  /-- FLASH_ERASE (R376) -/
  | flashErase (v : Word)
  /-- FLASH_CMD_DONE (R376) -/
  | flashCmdDone
  /-- LINK_SEND (R390) -/
  | ergLinkSend
  /-- ERG_REFRESH (R390) -/
  | ergRefresh
  /-- LINK (R390) -/
  | ergLink (p : Fin 512) (c : Ctrl) (b : Body)
  /-- ASSIGN (R391) -/
  | ergAssign (p : Fin 512) (c : Ctrl) (b : Body)
  /-- CLAIM (R392) -/
  | ergClaim (p : Fin 512) (c : Ctrl) (b : Body)
  /-- LSA (R394) -/
  | ergLsa (p : Fin 512) (c : Ctrl) (b : Body)
  /-- GSUM (R394) -/
  | ergGsum (p : Fin 512) (c : Ctrl) (b : Body)
  /-- CLAIM_WAIT_EXPIRY (R392) -/
  | claimWaitExpiry
  /-- SETTLE_EXPIRY (R394) -/
  | settleExpiry (ok : Bool) (need : Nat) (routes : List (Nat × Nat)) (psets : List (Nat × Nat))
  /-- NEIGHBOUR_ABSENT (R390) -/
  | neighbourAbsent (p : Fin 512)
  /-- ORIGIN_EXPIRY (R390) -/
  | originExpiry (kind : Nat) (n : Nat)
  /-- MEMBER_LOST (R396) -/
  | memberLost (m : Fin 64)
  /-- FW_MSG (R397) -/
  | fwMsg (q : Fin 4) (k : Machine.Packet)
  /-- FW_RSP (R397) -/
  | fwRsp (q : Fin 4) (k : Machine.Packet)
  /-- CARAVAN_JOIN (R399) -/
  | caravanJoin
  /-- CARAVAN_LOCK_LOSS (R399) -/
  | caravanLockLoss
  /-- CARAVAN_LOCK_TIMEOUT (R401) -/
  | caravanLockTimeout
  /-- ELECT (R400) -/
  | caravanElect (f : BitVec 256)
  /-- POSITION (R400) -/
  | caravanPosition (f : BitVec 256)
  /-- CARAVAN_TIME (R402) -/
  | caravanTime (f : BitVec 256) (res : Nat)
  /-- CARAVAN_TIME_SEND (R402) -/
  | caravanTimeSend
  /-- CARAVAN_READ (R403) -/
  | caravanRead (f : BitVec 256)
  /-- CARAVAN_WRITE (R403) -/
  | caravanWrite (f : BitVec 256)
  /-- RESP (R403) -/
  | caravanResp (f : BitVec 256)
  /-- OOB_READ (R403) -/
  | oobRead (v : Word)
  /-- OOB_WRITE (R403) -/
  | oobWrite (v : Word)
  /-- OOB_TIMEOUT (R403) -/
  | oobTimeout
  /-- VIN_WARN (R407) -/
  | vinWarn (mv : Nat)
  /-- VIN_WARN_RELEASE (R411) -/
  | vinWarnRelease (mv : Nat)
  /-- VIN_RESET (R408) -/
  | vinReset
  /-- VIN_OVERVOLTAGE (R408) -/
  | vinOvervoltage (mv : Nat)
  /-- VIN_RETURN (R408) -/
  | vinReturn
  /-- VSTBY_CHANGE (R406) -/
  | vstbyChange (on : Bool)
  /-- OVERCURRENT (R407) -/
  | overcurrent
  /-- POWER_SAMPLE (R412) -/
  | powerSample (mv : Nat) (iin : Nat) (pin : Nat)
  /-- CONE_RISE (R411) -/
  | coneRise
  /-- CAPMISS (R412) -/
  | capmiss
  /-- THERMAL_FALL (R414) -/
  | thermalFall (tj : Nat) (die : Fin 4)
  /-- THERMAL_RISE (R414) -/
  | thermalRise (tj : Nat) (die : Fin 4)
  /-- THERMAL_SHUTDOWN (R415) -/
  | thermalShutdown (tj : Nat) (die : Fin 4)
  /-- THERMAL_RESTART (R415) -/
  | thermalRestart (tj : Nat)
  /-- STOP (R418) -/
  | domainStop (q : Fin 4) (scope : Nat)
  /-- WAKE (R421) -/
  | domainWake (q : Fin 4) (scope : Nat)
  /-- STOP_ENTRY_COMPLETE (R417) -/
  | stopEntryComplete (q : Fin 4)
  /-- STOP_ENTRY_TIMEOUT (R417) -/
  | stopEntryTimeout (q : Fin 4)
  /-- WAKE_COMPLETE (R422) -/
  | wakeComplete (q : Fin 4) (scope : Nat)
  /-- REFERENCE_LOSS (R428) -/
  | referenceLoss
  /-- REFERENCE_RETURN (R428) -/
  | referenceReturn
  /-- HOLDOVER_TIMEOUT (R428) -/
  | holdoverTimeout
  /-- FAULT_WINDOW_EXPIRY (R436) -/
  | faultWindowExpiry (slot : Nat) (unserviced : Bool)
  /-- ESCALATION_TIMEOUT (R436) -/
  | escalationTimeout (slot : Nat) (unserviced : Bool)
  /-- CLEAR (R436) -/
  | faultClear (id : Fin 65536)
  /-- ACT_NOW (R436) -/
  | faultActNow (id : Fin 65536)
  /-- CARRY_EXPIRY (R439) -/
  | carryExpiry (n : Nat)
  /-- RELEASE (R442) -/
  | faultnRelease
  /-- FAULTN_FORCE (R441) -/
  | faultnForce (on : Bool)
  /-- FAULTN_HOLD_END (R442) -/
  | faultnHoldEnd
  /-- STORE_ERASE (R446) -/
  | storeErase
  /-- ZORURI_WATCHDOG (R435) -/
  | zoruriWatchdog (q : Fin 4)
  /-- ZORURI_EXCEPTION (R435) -/
  | zoruriException (q : Fin 4)
  /-- SAGGAR_WATCHDOG (R435) -/
  | saggarWatchdog (q : Fin 4)
  /-- MEMORY_ERROR (R435) -/
  | memoryError (q : Fin 4) (kind : Nat) (x : Nat) (y : Nat) (z : Nat)
  /-- KILN_GO (R447) -/
  | kilnGo (q : Fin 4) (v : Word)
  /-- KILN_TEST_DONE (R447) -/
  | kilnTestDone (q : Fin 4) (fails : Nat) (first : Nat) (tx : Nat) (rx : Nat)
  /-- PMC_SEL_WRITE (R456) -/
  | pmcSelWrite (q : Fin 4) (k : Fin 256) (v : Word)
  /-- PMC_CNT_WRITE (R454) -/
  | pmcCntWrite (q : Fin 4) (k : Fin 256) (v : Word)
  /-- PMC_CNT_READ (R455) -/
  | pmcCntRead (path : Path) (q : Fin 4) (k : Fin 256)
  /-- COUNTER_WRAP (R454) -/
  | counterWrap (q : Fin 4) (k : Fin 256)
  /-- GO (R460) -/
  | pmcGo
  /-- SNAPSHOT_PERIOD (R460) -/
  | snapshotPeriod
  /-- SNAPSHOT_WRITTEN (R461) -/
  | snapshotWritten (ok : Bool)
  /-- RING_CI_WRITE (R459) -/
  | ringCiWrite (v : Word)
  /-- RING_ENABLE (R459) -/
  | ringEnable (v : Word)
  /-- WINDOW_DATA_READ (R467) -/
  | windowDataRead (w : Fin 5) (set : Option Word) (whole : Bool)
  /-- WINDOW_DATA_WRITE (R467) -/
  | windowDataWrite (w : Fin 5) (set : Option Word) (whole : Bool) (v : Word)
  /-- REGACC_UPDATE (R468) -/
  | regaccUpdate (op : Nat) (addr : Nat) (v : Word)
  /-- REGACC_CAPTURE (R468) -/
  | regaccCapture
  /-- SMBUS_READ (R491) -/
  | smbusRead (adr : Nat) (code : Nat)
  /-- INITIATOR_READ_COMPLETE (R252) -/
  | initiatorReadComplete (tag : Nat) (ok : Bool) (data : List Byte)
  /-- CONFIGURATION_REQUEST (R385) -/
  | configurationRequest (q : Fin 4)
  /-- REFCLK_ARRIVAL (R494) -/
  | refclkArrival
  /-- RMX_FNRES_WRITE (R257) -/
  | rmxFnresWrite (q : Fin 4) (f : Fin 256) (kind : Fin 3) (v : Word)
  /-- MTC_FNRNDV_WRITE (R300) -/
  | mtcFnrndvWrite (q : Fin 4) (f : Fin 256) (v : Word)
  /-- HOST_PORT_INTERNAL_ERROR (R435) -/
  | hostPortInternalError (q : Fin 4)
  /-- FALLBACK_TRAINING_PATTERN (R401) -/
  | fallbackTrainingPattern
deriving DecidableEq, Repr

end Sys2Proof
end

