-- ==== Sys2Proof/Config.lean ====
section
/-! DEFINITION. What the spec leaves to the part or leaves open. A constant without a body is a free value: nothing in
Lean can evaluate it, so a statement about it holds for every value it could take. -/

namespace Sys2Proof.Config

/-- Random values drawn by Saggar (R74 link incarnations, R355 challenge, R372 keys), one per draw. DESIGN CHOICE (log 9). -/
opaque random : Nat → Nat

/-- A value the spec leaves open after an operation that goes on, one per use (the free counter of the state).
DESIGN CHOICE (log 8). -/
opaque freeValue : Nat → Nat

/-- An outcome the spec leaves to the part, one per use: a pulse of 1 to 10 µs on MOD_RESET_N may or may not reset
the module (R489). DESIGN CHOICE (log 8). -/
opaque freeChoice : Nat → Bool

/-- How far the n-th open choice lets a Kiln test that is ended have come: whether it had tested an item (R448).
DESIGN CHOICE (log 122). -/
opaque kilnCome (n item : Nat) : Bool

/-- AES-256-GCM (R367, NIST SP 800-38D): sealing under a key and a nonce, of additional data and plain bytes; answers the
encrypted bytes and the 128-bit tag. DESIGN CHOICE (log 11). -/
opaque glazeSeal (key nonce : Nat) (aad plain : List Byte) : List Byte × Nat

/-- AES-256-GCM: the plain bytes of encrypted bytes. DESIGN CHOICE (log 11). -/
opaque glazeOpen (key nonce : Nat) (aad cipher : List Byte) : List Byte

/-- AES-256-GCM: the tag of additional data and encrypted bytes. DESIGN CHOICE (log 11). -/
opaque glazeTag (key nonce : Nat) (aad cipher : List Byte) : Nat

/-- SHA-384 (R355, FIPS 180) of bytes, as a number whose least significant byte is the first byte of the hash.
DESIGN CHOICE (log 11). -/
opaque sha384 : List Byte → Nat

/-- ECDSA over P-384 (R355, FIPS 186): public key of 96 bytes, hash, signature r and s of 48 bytes each.
DESIGN CHOICE (log 11). -/
opaque p384Verify : List Byte → Nat → List Byte → List Byte → Bool

/-- The production (0) and manufacturing (1) public keys in the mask ROM of every Saggar instance, and their fused hashes.
DESIGN CHOICE (log 12). -/
opaque odturKey : Nat → List Byte
/-- DESIGN CHOICE (log 12). -/
opaque odturHash : Nat → Nat

end Sys2Proof.Config
end

