-- ==== Sys2Proof/Machine/Regs.lean ====
section
/-! DEFINITION. The registers of the module: the names, places, fields, types and reset values that the register
tables of spec/02 to spec/19 give. One constructor of `Reg` per register definition; a family indexed in one table
(FWD_DROPPOISON to FWD_DROPBRIDGE, RTE_EPCNT0 and 1, the command buffers) is one constructor with an index. -/

namespace Sys2Proof.Machine

/-- The register definitions of the interface (R478, Table 19-5). -/
inductive Reg where
  | LAN_CTRL | LAN_TXEQ | LAN_RXEQ | LAN_RXSTAT | LAN_IDLE | LAN_LPBK | LAN_PATCTL | LAN_PATERR | LAN_ESCTL
  | LAN_ESSAMP | LAN_ESERR | LAN_FECSTAT | LAN_CLMAP | LNK_CTRL | LNK_TIMERS | LNK_TIMERS2 | LNK_AUDIT
  | LNK_CMD | LNK_STAT | LNK_INC | LNK_CRCERR | LNK_REPLAY | LNK_RETRAIN | LNK_HELDDROP | LNK_AUDITERR
  | LNK_PROTOERR | LNK_ACKERR | LNK_CREDIT | PRT_DEAD | PRT_RELEASE | PRT_STAT | RTE_CTRL | RTE_EPOCH
  | RTE_EPCNT | RTE_TBLERR | RTE_DUNE | RTE_NONMIN | RTE_REROUTE | RTE_DUNEUNK | RTE_LIVEREJ | RTE_EPCTL
  | RTE_DMEMB | RTE_PCLASS | FWD_CTRL | FWD_AUDIT | FWD_VCW | FWD_INJ | FWD_PART | FWD_DROP | FWD_STOMP
  | FWD_MARKED | FWD_INJWAIT | FWD_SHARE | FWD_OCC | SCH_PORTCFG | SCH_TCCFG | SCH_SHAPE | SCH_GATECTL
  | SCH_GATESTART | SCH_GATESTAT | MCG_CTRL | MCG_GCMD | MCG_TBLERR | MCG_FENCECMD | MCG_FENCECNT | MCG_REPL
  | MCG_FENCESKIP | MCG_CACHEMISS | MCG_LIVEWR | MCG_NOSPACE | MCG_NOPORT | MCG_GVALID | CLV_CTRL
  | CLV_TIMERS | CLV_BUF | CLV_DROPAUTH | CLV_CHUNKS | CLV_INCOMPLETE | CLV_PARTIAL | CLV_MISMATCH | CLV_LATE
  | CLV_WIDE | CLV_OVF | BRG_STAT | BRG_SPARE | BRG_RETRY | BRG_CHECKERR | NOC_MODECTL | NOC_STAT | NOC_MSG
  | NOC_REGWAIT | NOC_ECCCORR | NOC_ECCUNC | NOC_GWERR | NOC_MODESW | NOC_REG | QDC_STAT | QDC_ECCCORR
  | QDC_ECCUNC | HST_CTRL | HST_STAT | HST_DBERR | HST_DBIGN | HST_RDERR | HST_FLR | HST_BIND | HST_FNQ
  | QUE_CMD | QUE_CMDBUF | QUE_TIMERS | QUE_DESC | QUE_CQHELD | QUE_CQREFUSE | QUE_NRNACK | QUE_FLUSHED
  | QUE_EQHOLD | QUE_KEYRIGHTS | RMX_CTRL | RMX_STAT | RMX_PROFRATE | RMX_PROFCTL | RMX_CTRAPPLIED
  | RMX_CTRPLACED | RMX_DROPCONN | RMX_DROPAUTH | RMX_RETRY | RMX_TIMEOUT | RMX_NACKTX | RMX_NACKRX | RMX_DUP
  | RMX_STALERSP | RMX_CUT | RMX_TRIGFIRE | RMX_CONNERR | RMX_CMD | RMX_CMDBUF | RMX_FNRES | RMX_FNSTAT
  | MTC_CTRL | MTC_STAT | MTC_MATCH | MTC_UNEXP | MTC_ORDHOLD | MTC_ORDNACK | MTC_POOLNACK | MTC_NORES
  | MTC_ORDERR | MTC_STALEFIN | MTC_PURGED | MTC_FNCFG | MTC_FNRNDV | MTC_CMD | XLT_CTRL | XLT_TIMERS
  | XLT_STAT | XLT_SEWIN | XLT_LOAD | XLT_LOADCMD | XLT_TRAPPEND | XLT_RESOLVE | XLT_L1FILL | XLT_TRAP
  | XLT_MARKTRAP | XLT_TRAPFULL | XLT_STALERES | XLT_WALKRD | XLT_WALKERR | XLT_PGREQ | XLT_RINGERR
  | XLT_SPACE | XLT_SPACEROOT | XLT_CMD | XLT_CMDBUF | SAG_UID | SAG_LC | SAG_DBG | SAG_CHAL | SAG_WIPE
  | SAG_TOKBUF | SAG_TOKCMD | SAG_PUBKEY | SAG_TOKFAIL | SAG_KEYINST | SAG_KEYERASE | SAG_KEYMISS | SAG_WIPES
  | SAG_FNQUOTA | SAG_KEYCMD | SAG_KEYBUF | SAG_KEYSLOT | CFG_IDENT | CFG_BOOTSTATUS | CFG_VERSION
  | CFG_CFGVER | CFG_SLOTCMD | CFG_TRIAL | CFG_CTRL | CFG_ERG | CFG_ERGSTAT | CFG_FLASHCMD | CFG_FLASHBUF
  | CFG_PEER | MGT_CTRL | MGT_CARSTAT | MGT_OOBCMD | MGT_OOBTGT | MGT_OOBDATA | MGT_CARCRC | MGT_CARREFORM
  | MGT_OOBIN | PWR_CTRL | PWR_STAT | PWR_THERM | PWR_DOMSTAT | PWR_TIMERS | PWR_DOMCTL | PWR_WARNCNT
  | PWR_THROTTLE | PWR_CAPMISS | PWR_STOPOK | PWR_STOPABORT | PWR_WAKE | CLK_CTRL | CLK_STAT | CLK_REFLOSS
  | FLT_CTRL | FLT_STAT | FLT_ACK | FLT_FAULTN | FLT_ACCERR | FLT_STORECMD | FLT_STORESTAT | FLT_RAISED
  | FLT_MERGED | FLT_ACTIONS | FLT_NOSLOT | FLT_SRCCFG | KLN_CTRL | KLN_CMD | KLN_RESULT | KLN_BOOT
  | KLN_RUNS | KLN_FAILS | KLN_REFUSED | PMC_SEL | PMC_CNT | PMC_OVF | PMC_CHAINHI | PMC_SLOT | PMC_RINGCTL
  | PMC_RINGBASE | PMC_TRIG | PMC_RINGPI | PMC_RINGCI | PMC_SNAPS | PMC_SNAPDROP | PMC_SNAPMISS | PMC_SNAPERR
  | TIM_NOW | TIM_STAT | TIM_CORRCNT
deriving DecidableEq, Repr

/-- The access types of spec/00 (Table 0-2): RO, RW, RWS, W1C, WO, RC. -/
inductive Acc where
  | ro | rw | rws | w1c | wo | rc
deriving DecidableEq, Repr

/-- One field of a register: its register, lowest bit, width, access type and reset value. -/
structure Fld where
  reg : Reg
  lo : Nat
  w : Nat
  acc : Acc
  rst : Nat
deriving DecidableEq, Repr

/-- How a definition is instanced (R87, R404, R478): per lane slot, per port (the slot of the port's first lane),
per cluster, per die, or once per module on Q0. -/
inductive Kind where
  | lane | port | cluster | die | module
deriving DecidableEq, Repr

/-- The save attribute of a register (R471, Table 19-4). -/
inductive Save where
  | saved | notSaved
  /-- kept across every reset except module reset -/
  | kept
  /-- cleared by any reset whose scope includes the die -/
  | dieOnly
deriving DecidableEq, Repr

/-- The place of a definition: block index, offset of instance 0, two strides with their counts, instancing, save. -/
structure Place where
  blk : Nat
  base : Nat
  s1 : Nat
  n1 : Nat
  s2 : Nat
  n2 : Nat
  kind : Kind
  save : Save
deriving DecidableEq, Repr

def LAN_CTRL_RATE : Fld := ⟨.LAN_CTRL, 0, 2, .rws, 0⟩
def LAN_CTRL_TXEN : Fld := ⟨.LAN_CTRL, 2, 1, .rws, 1⟩
def LAN_CTRL_RXEN : Fld := ⟨.LAN_CTRL, 3, 1, .rws, 1⟩
def LAN_CTRL_TX_INV : Fld := ⟨.LAN_CTRL, 4, 1, .rws, 0⟩
def LAN_CTRL_RX_INV : Fld := ⟨.LAN_CTRL, 5, 1, .rws, 0⟩
def LAN_CTRL_POL_AUTO : Fld := ⟨.LAN_CTRL, 6, 1, .rws, 1⟩
def LAN_CTRL_TX_LANE : Fld := ⟨.LAN_CTRL, 7, 2, .rws, 0⟩
def LAN_CTRL_RX_LANE : Fld := ⟨.LAN_CTRL, 9, 2, .rws, 0⟩
def LAN_CTRL_ORDER_AUTO : Fld := ⟨.LAN_CTRL, 11, 1, .rws, 1⟩
def LAN_TXEQ_PRE : Fld := ⟨.LAN_TXEQ, 0, 4, .rws, 4⟩
def LAN_TXEQ_POST : Fld := ⟨.LAN_TXEQ, 8, 5, .rws, 8⟩
def LAN_TXEQ_OVR : Fld := ⟨.LAN_TXEQ, 17, 1, .rws, 0⟩
def LAN_TXEQ_MAIN : Fld := ⟨.LAN_TXEQ, 18, 7, .ro, 52⟩
def LAN_TXEQ_EQERR : Fld := ⟨.LAN_TXEQ, 32, 1, .w1c, 0⟩
def LAN_RXEQ_CTLE : Fld := ⟨.LAN_RXEQ, 0, 4, .rws, 8⟩
def LAN_RXEQ_CTLE_OVR : Fld := ⟨.LAN_RXEQ, 8, 1, .rws, 0⟩
def LAN_RXEQ_FREEZE : Fld := ⟨.LAN_RXEQ, 16, 1, .rws, 0⟩
def LAN_RXEQ_CTLE_CUR : Fld := ⟨.LAN_RXEQ, 24, 4, .ro, 8⟩
def LAN_RXEQ_DFE1 : Fld := ⟨.LAN_RXEQ, 32, 8, .ro, 0⟩
def LAN_RXSTAT_ADAPT_STATE : Fld := ⟨.LAN_RXSTAT, 0, 3, .ro, 0⟩
def LAN_RXSTAT_CDR_LOCK : Fld := ⟨.LAN_RXSTAT, 3, 1, .ro, 0⟩
def LAN_RXSTAT_SIG_DET : Fld := ⟨.LAN_RXSTAT, 4, 1, .ro, 0⟩
def LAN_RXSTAT_POL_INV : Fld := ⟨.LAN_RXSTAT, 5, 1, .ro, 0⟩
def LAN_RXSTAT_LOGICAL : Fld := ⟨.LAN_RXSTAT, 6, 2, .ro, 0⟩
def LAN_RXSTAT_ORDERR : Fld := ⟨.LAN_RXSTAT, 8, 1, .w1c, 0⟩
def LAN_RXSTAT_FAILED : Fld := ⟨.LAN_RXSTAT, 9, 1, .w1c, 0⟩
def LAN_IDLE_MODE : Fld := ⟨.LAN_IDLE, 0, 3, .rws, 0⟩
def LAN_IDLE_TXQ_DLY : Fld := ⟨.LAN_IDLE, 8, 8, .rws, 8⟩
def LAN_IDLE_RXQ_DLY : Fld := ⟨.LAN_IDLE, 16, 8, .rws, 16⟩
def LAN_IDLE_MAINT_INT : Fld := ⟨.LAN_IDLE, 24, 12, .rws, 500⟩
def LAN_IDLE_TX_STATE : Fld := ⟨.LAN_IDLE, 48, 2, .ro, 0⟩
def LAN_IDLE_RX_STATE : Fld := ⟨.LAN_IDLE, 50, 2, .ro, 0⟩
def LAN_LPBK_MODE : Fld := ⟨.LAN_LPBK, 0, 2, .rw, 0⟩
def LAN_LPBK_STATUS : Fld := ⟨.LAN_LPBK, 8, 8, .ro, 0⟩
def LAN_PATCTL_PATTERN : Fld := ⟨.LAN_PATCTL, 0, 3, .rw, 4⟩
def LAN_PATCTL_GEN_EN : Fld := ⟨.LAN_PATCTL, 4, 1, .rw, 0⟩
def LAN_PATCTL_CHK_EN : Fld := ⟨.LAN_PATCTL, 5, 1, .rw, 0⟩
def LAN_PATCTL_LOCK : Fld := ⟨.LAN_PATCTL, 6, 1, .ro, 0⟩
def LAN_PATERR_ERRORS : Fld := ⟨.LAN_PATERR, 0, 48, .rc, 0⟩
def LAN_ESCTL_PHASE : Fld := ⟨.LAN_ESCTL, 0, 7, .rw, 0⟩
def LAN_ESCTL_VOFF : Fld := ⟨.LAN_ESCTL, 16, 7, .rw, 0⟩
def LAN_ESCTL_EYE : Fld := ⟨.LAN_ESCTL, 32, 2, .rw, 1⟩
def LAN_ESCTL_DWELL : Fld := ⟨.LAN_ESCTL, 40, 6, .rw, 24⟩
def LAN_ESCTL_BUSY : Fld := ⟨.LAN_ESCTL, 47, 1, .ro, 0⟩
def LAN_ESCTL_DONE : Fld := ⟨.LAN_ESCTL, 48, 1, .ro, 0⟩
def LAN_ESCTL_ABORTED : Fld := ⟨.LAN_ESCTL, 49, 1, .ro, 0⟩
def LAN_ESCTL_STOP : Fld := ⟨.LAN_ESCTL, 62, 1, .wo, 0⟩
def LAN_ESCTL_START : Fld := ⟨.LAN_ESCTL, 63, 1, .wo, 0⟩
def LAN_ESSAMP_SAMPLES : Fld := ⟨.LAN_ESSAMP, 0, 48, .ro, 0⟩
def LAN_ESERR_ERRORS : Fld := ⟨.LAN_ESERR, 0, 48, .ro, 0⟩
def LAN_FECSTAT_CORR : Fld := ⟨.LAN_FECSTAT, 0, 32, .rc, 0⟩
def LAN_FECSTAT_UNCORR : Fld := ⟨.LAN_FECSTAT, 32, 32, .rc, 0⟩
def LAN_CLMAP_WIDTHS : Fld := ⟨.LAN_CLMAP, 0, 16, .rws, 771⟩
def LAN_CLMAP_STATUS : Fld := ⟨.LAN_CLMAP, 16, 8, .ro, 0⟩
def LNK_CTRL_EN : Fld := ⟨.LNK_CTRL, 0, 1, .rws, 1⟩
def LNK_CTRL_INTEG : Fld := ⟨.LNK_CTRL, 3, 1, .rws, 0⟩
def LNK_CTRL_REPLAY_MAX : Fld := ⟨.LNK_CTRL, 4, 4, .rws, 4⟩
def LNK_CTRL_RETRAIN_MAX : Fld := ⟨.LNK_CTRL, 8, 4, .rws, 2⟩
def LNK_CTRL_STATUS : Fld := ⟨.LNK_CTRL, 16, 8, .ro, 0⟩
def LNK_TIMERS_REPLAY : Fld := ⟨.LNK_TIMERS, 0, 17, .rws, 200⟩
def LNK_TIMERS_ACK_DLY : Fld := ⟨.LNK_TIMERS, 24, 8, .rws, 10⟩
def LNK_TIMERS_TRAIN : Fld := ⟨.LNK_TIMERS, 32, 7, .rws, 10⟩
def LNK_TIMERS2_DOWN_PROBE : Fld := ⟨.LNK_TIMERS2, 0, 14, .rws, 100⟩
def LNK_TIMERS2_DRAIN : Fld := ⟨.LNK_TIMERS2, 16, 17, .rws, 100⟩
def LNK_AUDIT_PERIOD : Fld := ⟨.LNK_AUDIT, 0, 20, .rws, 100⟩
def LNK_CMD_CMD : Fld := ⟨.LNK_CMD, 0, 2, .wo, 0⟩
def LNK_STAT_STATE : Fld := ⟨.LNK_STAT, 0, 3, .ro, 0⟩
def LNK_STAT_MODE : Fld := ⟨.LNK_STAT, 3, 1, .ro, 0⟩
def LNK_STAT_FAILS : Fld := ⟨.LNK_STAT, 4, 4, .ro, 0⟩
def LNK_STAT_REPLAYS : Fld := ⟨.LNK_STAT, 8, 4, .ro, 0⟩
def LNK_STAT_LAST_FAIL : Fld := ⟨.LNK_STAT, 12, 4, .ro, 0⟩
def LNK_STAT_CMD_STATUS : Fld := ⟨.LNK_STAT, 16, 8, .ro, 0⟩
def LNK_STAT_DRAINING : Fld := ⟨.LNK_STAT, 24, 1, .ro, 0⟩
def LNK_INC_LOCAL_INC : Fld := ⟨.LNK_INC, 0, 32, .ro, 0⟩
def LNK_INC_PEER_INC : Fld := ⟨.LNK_INC, 32, 32, .ro, 0⟩
def LNK_CRCERR_COUNT : Fld := ⟨.LNK_CRCERR, 0, 48, .rc, 0⟩
def LNK_REPLAY_COUNT : Fld := ⟨.LNK_REPLAY, 0, 48, .rc, 0⟩
def LNK_RETRAIN_COUNT : Fld := ⟨.LNK_RETRAIN, 0, 48, .rc, 0⟩
def LNK_HELDDROP_COUNT : Fld := ⟨.LNK_HELDDROP, 0, 48, .rc, 0⟩
def LNK_AUDITERR_COUNT : Fld := ⟨.LNK_AUDITERR, 0, 48, .rc, 0⟩
def LNK_PROTOERR_COUNT : Fld := ⟨.LNK_PROTOERR, 0, 48, .rc, 0⟩
def LNK_ACKERR_COUNT : Fld := ⟨.LNK_ACKERR, 0, 48, .rc, 0⟩
def LNK_CREDIT_AVAIL : Fld := ⟨.LNK_CREDIT, 0, 17, .ro, 0⟩
def LNK_CREDIT_ALLOC : Fld := ⟨.LNK_CREDIT, 17, 16, .ro, 0⟩
def LNK_CREDIT_OCC : Fld := ⟨.LNK_CREDIT, 33, 16, .ro, 0⟩
def PRT_DEAD_TIME : Fld := ⟨.PRT_DEAD, 0, 20, .rws, 1000⟩
def PRT_RELEASE_SCOPE : Fld := ⟨.PRT_RELEASE, 0, 2, .wo, 0⟩
def PRT_RELEASE_STATUS : Fld := ⟨.PRT_RELEASE, 8, 8, .ro, 0⟩
def PRT_STAT_ROUTABLE : Fld := ⟨.PRT_STAT, 0, 1, .ro, 0⟩
def PRT_STAT_DEAD : Fld := ⟨.PRT_STAT, 1, 1, .ro, 0⟩
def PRT_STAT_QUEUED : Fld := ⟨.PRT_STAT, 16, 18, .ro, 0⟩
def RTE_CTRL_OVERRIDE : Fld := ⟨.RTE_CTRL, 0, 1, .rws, 0⟩
def RTE_CTRL_NMIN_VN : Fld := ⟨.RTE_CTRL, 16, 3, .rws, 3⟩
def RTE_CTRL_BIAS : Fld := ⟨.RTE_CTRL, 32, 16, .rws, 64⟩
def RTE_EPOCH_STAMP : Fld := ⟨.RTE_EPOCH, 0, 1, .rw, 0⟩
def RTE_EPOCH_VALID : Fld := ⟨.RTE_EPOCH, 1, 2, .ro, 0⟩
def RTE_EPOCH_CHECKING : Fld := ⟨.RTE_EPOCH, 4, 1, .ro, 0⟩
def RTE_EPOCH_VALIDATE : Fld := ⟨.RTE_EPOCH, 8, 2, .wo, 0⟩
def RTE_EPOCH_RETIRE : Fld := ⟨.RTE_EPOCH, 12, 2, .wo, 0⟩
def RTE_EPOCH_STATUS : Fld := ⟨.RTE_EPOCH, 16, 8, .ro, 0⟩
def RTE_EPCNT_NET : Fld := ⟨.RTE_EPCNT, 0, 64, .ro, 0⟩
def RTE_TBLERR_INDEX : Fld := ⟨.RTE_TBLERR, 0, 17, .ro, 0⟩
def RTE_TBLERR_TABLE : Fld := ⟨.RTE_TBLERR, 25, 1, .ro, 0⟩
def RTE_TBLERR_BANK : Fld := ⟨.RTE_TBLERR, 26, 1, .ro, 0⟩
def RTE_TBLERR_REASON : Fld := ⟨.RTE_TBLERR, 28, 4, .ro, 0⟩
def RTE_TBLERR_VALID : Fld := ⟨.RTE_TBLERR, 32, 1, .w1c, 0⟩
def RTE_DUNE_EN : Fld := ⟨.RTE_DUNE, 0, 1, .rws, 1⟩
def RTE_DUNE_UNIT : Fld := ⟨.RTE_DUNE, 8, 8, .rws, 64⟩
def RTE_DUNE_AGE : Fld := ⟨.RTE_DUNE, 16, 16, .rws, 1000⟩
def RTE_DUNE_UPDATE : Fld := ⟨.RTE_DUNE, 32, 8, .ro, 0⟩
def RTE_NONMIN_COUNT : Fld := ⟨.RTE_NONMIN, 0, 48, .rc, 0⟩
def RTE_REROUTE_COUNT : Fld := ⟨.RTE_REROUTE, 0, 48, .rc, 0⟩
def RTE_DUNEUNK_COUNT : Fld := ⟨.RTE_DUNEUNK, 0, 48, .rc, 0⟩
def RTE_LIVEREJ_COUNT : Fld := ⟨.RTE_LIVEREJ, 0, 48, .rc, 0⟩
def RTE_EPCTL_ROUND : Fld := ⟨.RTE_EPCTL, 0, 20, .rws, 100⟩
def RTE_EPCTL_LOAD_WAIT : Fld := ⟨.RTE_EPCTL, 32, 16, .rws, 100⟩
def RTE_DMEMB_NODE : Fld := ⟨.RTE_DMEMB, 0, 17, .rws, 0⟩
def RTE_DMEMB_VALID : Fld := ⟨.RTE_DMEMB, 17, 1, .rws, 0⟩
def RTE_PCLASS_GIDX : Fld := ⟨.RTE_PCLASS, 0, 9, .rws, 0⟩
def RTE_PCLASS_CLASS : Fld := ⟨.RTE_PCLASS, 10, 2, .rws, 0⟩
def FWD_CTRL_CT_EN : Fld := ⟨.FWD_CTRL, 0, 1, .rws, 1⟩
def FWD_CTRL_MARK : Fld := ⟨.FWD_CTRL, 16, 16, .rws, 256⟩
def FWD_CTRL_INJTHR : Fld := ⟨.FWD_CTRL, 32, 16, .rws, 512⟩
def FWD_AUDIT_PERIOD : Fld := ⟨.FWD_AUDIT, 0, 20, .rws, 100⟩
def FWD_VCW_WEIGHTS : Fld := ⟨.FWD_VCW, 0, 54, .rws, 0⟩
def FWD_INJ_INJ : Fld := ⟨.FWD_INJ, 0, 16, .rws, 2048⟩
def FWD_INJ_BRG : Fld := ⟨.FWD_INJ, 16, 16, .rws, 512⟩
def FWD_INJ_STATUS : Fld := ⟨.FWD_INJ, 32, 8, .ro, 0⟩
def FWD_PART_COMMITTED : Fld := ⟨.FWD_PART, 0, 19, .ro, 148480⟩
def FWD_PART_FREE : Fld := ⟨.FWD_PART, 32, 19, .ro, 262144⟩
def FWD_DROP_COUNT : Fld := ⟨.FWD_DROP, 0, 48, .rc, 0⟩
def FWD_STOMP_COUNT : Fld := ⟨.FWD_STOMP, 0, 48, .rc, 0⟩
def FWD_MARKED_COUNT : Fld := ⟨.FWD_MARKED, 0, 48, .rc, 0⟩
def FWD_INJWAIT_COUNT : Fld := ⟨.FWD_INJWAIT, 0, 48, .rc, 0⟩
def FWD_SHARE_CELLS : Fld := ⟨.FWD_SHARE, 0, 14, .rws, 1024⟩
def FWD_SHARE_STATUS : Fld := ⟨.FWD_SHARE, 16, 8, .ro, 0⟩
def FWD_OCC_KIB : Fld := ⟨.FWD_OCC, 0, 16, .ro, 0⟩
def FWD_OCC_FULL : Fld := ⟨.FWD_OCC, 16, 1, .ro, 0⟩
def FWD_OCC_OVER_INJ : Fld := ⟨.FWD_OCC, 17, 1, .ro, 0⟩
def SCH_PORTCFG_PKT_OVH : Fld := ⟨.SCH_PORTCFG, 0, 8, .rws, 0⟩
def SCH_PORTCFG_FLIT_OVH : Fld := ⟨.SCH_PORTCFG, 8, 4, .rws, 0⟩
def SCH_PORTCFG_AGE_LIM : Fld := ⟨.SCH_PORTCFG, 16, 7, .rws, 32⟩
def SCH_PORTCFG_GUARD : Fld := ⟨.SCH_PORTCFG, 24, 1, .rws, 0⟩
def SCH_TCCFG_WEIGHT0 : Fld := ⟨.SCH_TCCFG, 0, 3, .rws, 1⟩
def SCH_TCCFG_STRICT0 : Fld := ⟨.SCH_TCCFG, 3, 1, .rws, 0⟩
def SCH_TCCFG_WEIGHT1 : Fld := ⟨.SCH_TCCFG, 4, 3, .rws, 1⟩
def SCH_TCCFG_STRICT1 : Fld := ⟨.SCH_TCCFG, 7, 1, .rws, 0⟩
def SCH_TCCFG_WEIGHT2 : Fld := ⟨.SCH_TCCFG, 8, 3, .rws, 1⟩
def SCH_TCCFG_STRICT2 : Fld := ⟨.SCH_TCCFG, 11, 1, .rws, 0⟩
def SCH_TCCFG_WEIGHT3 : Fld := ⟨.SCH_TCCFG, 12, 3, .rws, 1⟩
def SCH_TCCFG_STRICT3 : Fld := ⟨.SCH_TCCFG, 15, 1, .rws, 0⟩
def SCH_TCCFG_WEIGHT4 : Fld := ⟨.SCH_TCCFG, 16, 3, .rws, 1⟩
def SCH_TCCFG_STRICT4 : Fld := ⟨.SCH_TCCFG, 19, 1, .rws, 0⟩
def SCH_TCCFG_WEIGHT5 : Fld := ⟨.SCH_TCCFG, 20, 3, .rws, 1⟩
def SCH_TCCFG_STRICT5 : Fld := ⟨.SCH_TCCFG, 23, 1, .rws, 0⟩
def SCH_TCCFG_WEIGHT6 : Fld := ⟨.SCH_TCCFG, 24, 3, .rws, 1⟩
def SCH_TCCFG_STRICT6 : Fld := ⟨.SCH_TCCFG, 27, 1, .rws, 0⟩
def SCH_TCCFG_WEIGHT7 : Fld := ⟨.SCH_TCCFG, 28, 3, .rws, 1⟩
def SCH_TCCFG_STRICT7 : Fld := ⟨.SCH_TCCFG, 31, 1, .rws, 0⟩
def SCH_TCCFG_WEIGHT8 : Fld := ⟨.SCH_TCCFG, 32, 3, .rws, 1⟩
def SCH_TCCFG_STRICT8 : Fld := ⟨.SCH_TCCFG, 35, 1, .rws, 0⟩
def SCH_TCCFG_WEIGHT9 : Fld := ⟨.SCH_TCCFG, 36, 3, .rws, 1⟩
def SCH_TCCFG_STRICT9 : Fld := ⟨.SCH_TCCFG, 39, 1, .rws, 0⟩
def SCH_TCCFG_WEIGHT10 : Fld := ⟨.SCH_TCCFG, 40, 3, .rws, 1⟩
def SCH_TCCFG_STRICT10 : Fld := ⟨.SCH_TCCFG, 43, 1, .rws, 0⟩
def SCH_TCCFG_WEIGHT11 : Fld := ⟨.SCH_TCCFG, 44, 3, .rws, 1⟩
def SCH_TCCFG_STRICT11 : Fld := ⟨.SCH_TCCFG, 47, 1, .rws, 0⟩
def SCH_TCCFG_WEIGHT12 : Fld := ⟨.SCH_TCCFG, 48, 3, .rws, 1⟩
def SCH_TCCFG_STRICT12 : Fld := ⟨.SCH_TCCFG, 51, 1, .rws, 0⟩
def SCH_TCCFG_WEIGHT13 : Fld := ⟨.SCH_TCCFG, 52, 3, .rws, 1⟩
def SCH_TCCFG_STRICT13 : Fld := ⟨.SCH_TCCFG, 55, 1, .rws, 0⟩
def SCH_TCCFG_WEIGHT14 : Fld := ⟨.SCH_TCCFG, 56, 3, .rws, 1⟩
def SCH_TCCFG_STRICT14 : Fld := ⟨.SCH_TCCFG, 59, 1, .rws, 0⟩
def SCH_TCCFG_WEIGHT15 : Fld := ⟨.SCH_TCCFG, 60, 3, .rws, 1⟩
def SCH_TCCFG_STRICT15 : Fld := ⟨.SCH_TCCFG, 63, 1, .rws, 0⟩
def SCH_SHAPE_RATE : Fld := ⟨.SCH_SHAPE, 0, 20, .rws, 0⟩
def SCH_SHAPE_BURST : Fld := ⟨.SCH_SHAPE, 24, 24, .rws, 16384⟩
def SCH_SHAPE_CREDIT : Fld := ⟨.SCH_SHAPE, 48, 16, .ro, 64⟩
def SCH_GATECTL_COMMIT : Fld := ⟨.SCH_GATECTL, 1, 1, .wo, 0⟩
def SCH_GATECTL_CANCEL : Fld := ⟨.SCH_GATECTL, 2, 1, .wo, 0⟩
def SCH_GATECTL_EN : Fld := ⟨.SCH_GATECTL, 3, 1, .rws, 0⟩
def SCH_GATECTL_LEN : Fld := ⟨.SCH_GATECTL, 8, 9, .rws, 1⟩
def SCH_GATECTL_STATUS : Fld := ⟨.SCH_GATECTL, 24, 8, .ro, 0⟩
def SCH_GATECTL_ACTIVE : Fld := ⟨.SCH_GATECTL, 32, 1, .ro, 0⟩
def SCH_GATECTL_PENDING : Fld := ⟨.SCH_GATECTL, 33, 1, .ro, 0⟩
def SCH_GATECTL_RUNNING : Fld := ⟨.SCH_GATECTL, 34, 1, .ro, 0⟩
def SCH_GATESTART_T : Fld := ⟨.SCH_GATESTART, 0, 64, .rws, 0⟩
def SCH_GATESTAT_ENTRY : Fld := ⟨.SCH_GATESTAT, 0, 8, .ro, 0⟩
def SCH_GATESTAT_OPEN : Fld := ⟨.SCH_GATESTAT, 8, 16, .ro, 65535⟩
def MCG_CTRL_EN : Fld := ⟨.MCG_CTRL, 0, 1, .rws, 1⟩
def MCG_CTRL_REFRESH : Fld := ⟨.MCG_CTRL, 32, 16, .rws, 100⟩
def MCG_GCMD_GROUP : Fld := ⟨.MCG_GCMD, 0, 16, .rw, 0⟩
def MCG_GCMD_CMD : Fld := ⟨.MCG_GCMD, 16, 2, .wo, 0⟩
def MCG_GCMD_STATUS : Fld := ⟨.MCG_GCMD, 24, 8, .ro, 0⟩
def MCG_TBLERR_GROUP : Fld := ⟨.MCG_TBLERR, 0, 16, .ro, 0⟩
def MCG_TBLERR_REASON : Fld := ⟨.MCG_TBLERR, 28, 4, .ro, 0⟩
def MCG_TBLERR_VALID : Fld := ⟨.MCG_TBLERR, 32, 1, .w1c, 0⟩
def MCG_FENCECMD_EP : Fld := ⟨.MCG_FENCECMD, 0, 25, .rw, 0⟩
def MCG_FENCECMD_NODE_SCOPE : Fld := ⟨.MCG_FENCECMD, 25, 1, .rw, 0⟩
def MCG_FENCECMD_SET : Fld := ⟨.MCG_FENCECMD, 26, 1, .rw, 0⟩
def MCG_FENCECMD_STATUS : Fld := ⟨.MCG_FENCECMD, 40, 8, .ro, 0⟩
def MCG_FENCECMD_GO : Fld := ⟨.MCG_FENCECMD, 63, 1, .wo, 0⟩
def MCG_FENCECNT_NODES : Fld := ⟨.MCG_FENCECNT, 0, 18, .ro, 0⟩
def MCG_FENCECNT_ENDPOINTS : Fld := ⟨.MCG_FENCECNT, 24, 24, .ro, 0⟩
def MCG_REPL_COUNT : Fld := ⟨.MCG_REPL, 0, 48, .rc, 0⟩
def MCG_FENCESKIP_COUNT : Fld := ⟨.MCG_FENCESKIP, 0, 48, .rc, 0⟩
def MCG_CACHEMISS_COUNT : Fld := ⟨.MCG_CACHEMISS, 0, 48, .rc, 0⟩
def MCG_LIVEWR_COUNT : Fld := ⟨.MCG_LIVEWR, 0, 48, .rc, 0⟩
def MCG_NOSPACE_COUNT : Fld := ⟨.MCG_NOSPACE, 0, 48, .rc, 0⟩
def MCG_NOPORT_COUNT : Fld := ⟨.MCG_NOPORT, 0, 48, .rc, 0⟩
def MCG_GVALID_BACKED : Fld := ⟨.MCG_GVALID, 0, 64, .ro, 0⟩
def CLV_CTRL_EN : Fld := ⟨.CLV_CTRL, 0, 1, .rws, 1⟩
def CLV_CTRL_FAST_EN : Fld := ⟨.CLV_CTRL, 1, 1, .rws, 1⟩
def CLV_TIMERS_OP : Fld := ⟨.CLV_TIMERS, 0, 24, .rws, 10000⟩
def CLV_TIMERS_MEMBER : Fld := ⟨.CLV_TIMERS, 32, 24, .rws, 20000⟩
def CLV_BUF_WINDOWS : Fld := ⟨.CLV_BUF, 0, 12, .ro, 0⟩
def CLV_BUF_GROUPS : Fld := ⟨.CLV_BUF, 32, 11, .ro, 0⟩
def CLV_DROPAUTH_COUNT : Fld := ⟨.CLV_DROPAUTH, 0, 48, .rc, 0⟩
def CLV_CHUNKS_COUNT : Fld := ⟨.CLV_CHUNKS, 0, 48, .rc, 0⟩
def CLV_INCOMPLETE_COUNT : Fld := ⟨.CLV_INCOMPLETE, 0, 48, .rc, 0⟩
def CLV_PARTIAL_COUNT : Fld := ⟨.CLV_PARTIAL, 0, 48, .rc, 0⟩
def CLV_MISMATCH_COUNT : Fld := ⟨.CLV_MISMATCH, 0, 48, .rc, 0⟩
def CLV_LATE_COUNT : Fld := ⟨.CLV_LATE, 0, 48, .rc, 0⟩
def CLV_WIDE_COUNT : Fld := ⟨.CLV_WIDE, 0, 48, .rc, 0⟩
def CLV_OVF_COUNT : Fld := ⟨.CLV_OVF, 0, 48, .rc, 0⟩
def BRG_STAT_UP : Fld := ⟨.BRG_STAT, 0, 1, .ro, 0⟩
def BRG_STAT_DOWN : Fld := ⟨.BRG_STAT, 1, 1, .ro, 0⟩
def BRG_SPARE_TXFAILED : Fld := ⟨.BRG_SPARE, 0, 5, .ro, 0⟩
def BRG_SPARE_RXFAILED : Fld := ⟨.BRG_SPARE, 32, 5, .ro, 0⟩
def BRG_RETRY_COUNT : Fld := ⟨.BRG_RETRY, 0, 48, .rc, 0⟩
def BRG_CHECKERR_COUNT : Fld := ⟨.BRG_CHECKERR, 0, 48, .rc, 0⟩
def NOC_MODECTL_TARGET : Fld := ⟨.NOC_MODECTL, 0, 1, .rw, 0⟩
def NOC_MODECTL_SWITCH : Fld := ⟨.NOC_MODECTL, 1, 1, .wo, 0⟩
def NOC_MODECTL_HOLD : Fld := ⟨.NOC_MODECTL, 3, 1, .ro, 0⟩
def NOC_MODECTL_MODE : Fld := ⟨.NOC_MODECTL, 4, 1, .ro, 0⟩
def NOC_MODECTL_STATUS : Fld := ⟨.NOC_MODECTL, 24, 8, .ro, 0⟩
def NOC_MODECTL_HOLDMAX : Fld := ⟨.NOC_MODECTL, 32, 16, .rw, 100⟩
def NOC_STAT_EMPTY : Fld := ⟨.NOC_STAT, 0, 1, .ro, 1⟩
def NOC_STAT_OUTSTANDING : Fld := ⟨.NOC_STAT, 32, 11, .ro, 0⟩
def NOC_MSG_COUNT : Fld := ⟨.NOC_MSG, 0, 48, .rc, 0⟩
def NOC_REGWAIT_COUNT : Fld := ⟨.NOC_REGWAIT, 0, 48, .rc, 0⟩
def NOC_ECCCORR_COUNT : Fld := ⟨.NOC_ECCCORR, 0, 48, .rc, 0⟩
def NOC_ECCUNC_COUNT : Fld := ⟨.NOC_ECCUNC, 0, 48, .rc, 0⟩
def NOC_GWERR_COUNT : Fld := ⟨.NOC_GWERR, 0, 48, .rc, 0⟩
def NOC_MODESW_COUNT : Fld := ⟨.NOC_MODESW, 0, 48, .rc, 0⟩
def NOC_REG_RATE : Fld := ⟨.NOC_REG, 0, 9, .rws, 256⟩
def NOC_REG_BURST : Fld := ⟨.NOC_REG, 16, 16, .rws, 64⟩
def QDC_STAT_READY : Fld := ⟨.QDC_STAT, 0, 1, .ro, 0⟩
def QDC_ECCCORR_COUNT : Fld := ⟨.QDC_ECCCORR, 0, 48, .rc, 0⟩
def QDC_ECCUNC_COUNT : Fld := ⟨.QDC_ECCUNC, 0, 48, .rc, 0⟩
def HST_CTRL_EN : Fld := ⟨.HST_CTRL, 0, 1, .rws, 1⟩
def HST_CTRL_MAXWIDTH : Fld := ⟨.HST_CTRL, 1, 2, .rws, 0⟩
def HST_CTRL_MAXRATE : Fld := ⟨.HST_CTRL, 4, 2, .rws, 0⟩
def HST_CTRL_RO_EN : Fld := ⟨.HST_CTRL, 8, 1, .rws, 1⟩
def HST_CTRL_ATOMIC_EN : Fld := ⟨.HST_CTRL, 9, 1, .rws, 1⟩
def HST_CTRL_NUMPF : Fld := ⟨.HST_CTRL, 16, 2, .rws, 0⟩
def HST_STAT_LINK_UP : Fld := ⟨.HST_STAT, 0, 1, .ro, 0⟩
def HST_STAT_WIDTH : Fld := ⟨.HST_STAT, 1, 3, .ro, 0⟩
def HST_STAT_RATE : Fld := ⟨.HST_STAT, 4, 2, .ro, 0⟩
def HST_STAT_FLIT : Fld := ⟨.HST_STAT, 6, 1, .ro, 0⟩
def HST_STAT_SRIS : Fld := ⟨.HST_STAT, 7, 1, .ro, 0⟩
def HST_STAT_DEGRADED : Fld := ⟨.HST_STAT, 8, 1, .ro, 0⟩
def HST_DBERR_COUNT : Fld := ⟨.HST_DBERR, 0, 48, .rc, 0⟩
def HST_DBIGN_COUNT : Fld := ⟨.HST_DBIGN, 0, 48, .rc, 0⟩
def HST_RDERR_COUNT : Fld := ⟨.HST_RDERR, 0, 48, .rc, 0⟩
def HST_FLR_COUNT : Fld := ⟨.HST_FLR, 0, 48, .rc, 0⟩
def HST_BIND_VALID : Fld := ⟨.HST_BIND, 0, 1, .rws, 0⟩
def HST_BIND_VF : Fld := ⟨.HST_BIND, 2, 6, .rws, 0⟩
def HST_BIND_PF : Fld := ⟨.HST_BIND, 8, 2, .rws, 0⟩
def HST_BIND_MC_EN : Fld := ⟨.HST_BIND, 10, 1, .rws, 0⟩
def HST_BIND_MC_RQ : Fld := ⟨.HST_BIND, 16, 16, .rws, 0⟩
def HST_FNQ_COUNT : Fld := ⟨.HST_FNQ, 0, 17, .rws, 0⟩
def HST_FNQ_BASE : Fld := ⟨.HST_FNQ, 32, 16, .rws, 0⟩
def HST_FNQ_STATUS : Fld := ⟨.HST_FNQ, 48, 8, .ro, 0⟩
def QUE_CMD_OP : Fld := ⟨.QUE_CMD, 0, 3, .wo, 0⟩
def QUE_CMD_STATUS : Fld := ⟨.QUE_CMD, 40, 8, .ro, 0⟩
def QUE_CMD_BUSY : Fld := ⟨.QUE_CMD, 48, 1, .ro, 0⟩
def QUE_CMDBUF_IMAGE : Fld := ⟨.QUE_CMDBUF, 0, 64, .rw, 0⟩
def QUE_TIMERS_CQSTALL : Fld := ⟨.QUE_TIMERS, 0, 14, .rws, 10⟩
def QUE_DESC_COUNT : Fld := ⟨.QUE_DESC, 0, 48, .rc, 0⟩
def QUE_CQHELD_COUNT : Fld := ⟨.QUE_CQHELD, 0, 48, .rc, 0⟩
def QUE_CQREFUSE_COUNT : Fld := ⟨.QUE_CQREFUSE, 0, 48, .rc, 0⟩
def QUE_NRNACK_COUNT : Fld := ⟨.QUE_NRNACK, 0, 48, .rc, 0⟩
def QUE_FLUSHED_COUNT : Fld := ⟨.QUE_FLUSHED, 0, 48, .rc, 0⟩
def QUE_EQHOLD_COUNT : Fld := ⟨.QUE_EQHOLD, 0, 48, .rc, 0⟩
def QUE_KEYRIGHTS_KEYS : Fld := ⟨.QUE_KEYRIGHTS, 0, 32, .rw, 0⟩
def RMX_CTRL_EN : Fld := ⟨.RMX_CTRL, 0, 1, .rws, 1⟩
def RMX_CTRL_ACKCOAL : Fld := ⟨.RMX_CTRL, 4, 4, .rws, 8⟩
def RMX_CTRL_ACKDLY : Fld := ⟨.RMX_CTRL, 8, 8, .rws, 5⟩
def RMX_CTRL_HINT_RQ : Fld := ⟨.RMX_CTRL, 16, 16, .rws, 100⟩
def RMX_CTRL_HINT_CQ : Fld := ⟨.RMX_CTRL, 32, 16, .rws, 2000⟩
def RMX_STAT_RSLOTS : Fld := ⟨.RMX_STAT, 0, 15, .ro, 0⟩
def RMX_STAT_TRACKERS : Fld := ⟨.RMX_STAT, 16, 16, .ro, 0⟩
def RMX_STAT_PARKED : Fld := ⟨.RMX_STAT, 32, 15, .ro, 0⟩
def RMX_PROFRATE_RSTART : Fld := ⟨.RMX_PROFRATE, 0, 20, .rws, 100000⟩
def RMX_PROFRATE_RMIN : Fld := ⟨.RMX_PROFRATE, 20, 20, .rws, 100⟩
def RMX_PROFRATE_RMAX : Fld := ⟨.RMX_PROFRATE, 40, 20, .rws, 800000⟩
def RMX_PROFCTL_TIMER : Fld := ⟨.RMX_PROFCTL, 0, 24, .rws, 50⟩
def RMX_PROFCTL_RETRY_MAX : Fld := ⟨.RMX_PROFCTL, 24, 3, .rws, 7⟩
def RMX_PROFCTL_MD : Fld := ⟨.RMX_PROFCTL, 28, 8, .rws, 64⟩
def RMX_PROFCTL_AI : Fld := ⟨.RMX_PROFCTL, 36, 20, .rws, 5000⟩
def RMX_PROFCTL_BURST : Fld := ⟨.RMX_PROFCTL, 56, 8, .rws, 16⟩
def RMX_CTRAPPLIED_TOTAL : Fld := ⟨.RMX_CTRAPPLIED, 0, 48, .ro, 0⟩
def RMX_CTRPLACED_TOTAL : Fld := ⟨.RMX_CTRPLACED, 0, 48, .ro, 0⟩
def RMX_DROPCONN_COUNT : Fld := ⟨.RMX_DROPCONN, 0, 48, .rc, 0⟩
def RMX_DROPAUTH_COUNT : Fld := ⟨.RMX_DROPAUTH, 0, 48, .rc, 0⟩
def RMX_RETRY_COUNT : Fld := ⟨.RMX_RETRY, 0, 48, .rc, 0⟩
def RMX_TIMEOUT_COUNT : Fld := ⟨.RMX_TIMEOUT, 0, 48, .rc, 0⟩
def RMX_NACKTX_COUNT : Fld := ⟨.RMX_NACKTX, 0, 48, .rc, 0⟩
def RMX_NACKRX_COUNT : Fld := ⟨.RMX_NACKRX, 0, 48, .rc, 0⟩
def RMX_DUP_COUNT : Fld := ⟨.RMX_DUP, 0, 48, .rc, 0⟩
def RMX_STALERSP_COUNT : Fld := ⟨.RMX_STALERSP, 0, 48, .rc, 0⟩
def RMX_CUT_COUNT : Fld := ⟨.RMX_CUT, 0, 48, .rc, 0⟩
def RMX_TRIGFIRE_COUNT : Fld := ⟨.RMX_TRIGFIRE, 0, 48, .rc, 0⟩
def RMX_CONNERR_COUNT : Fld := ⟨.RMX_CONNERR, 0, 48, .rc, 0⟩
def RMX_CMD_OP : Fld := ⟨.RMX_CMD, 0, 3, .wo, 0⟩
def RMX_CMD_INDEX : Fld := ⟨.RMX_CMD, 12, 18, .rw, 0⟩
def RMX_CMD_STATUS : Fld := ⟨.RMX_CMD, 40, 8, .ro, 0⟩
def RMX_CMD_BUSY : Fld := ⟨.RMX_CMD, 48, 1, .ro, 0⟩
def RMX_CMDBUF_IMAGE : Fld := ⟨.RMX_CMDBUF, 0, 64, .rw, 0⟩
def RMX_FNRES_COUNT : Fld := ⟨.RMX_FNRES, 0, 19, .rws, 0⟩
def RMX_FNRES_BASE : Fld := ⟨.RMX_FNRES, 32, 18, .rws, 0⟩
def RMX_FNRES_STATUS : Fld := ⟨.RMX_FNRES, 56, 8, .ro, 0⟩
def RMX_FNSTAT_OPEN : Fld := ⟨.RMX_FNSTAT, 0, 19, .ro, 0⟩
def RMX_FNSTAT_REVOKING : Fld := ⟨.RMX_FNSTAT, 32, 19, .ro, 0⟩
def MTC_CTRL_EN : Fld := ⟨.MTC_CTRL, 0, 1, .rws, 1⟩
def MTC_CTRL_HINT_POOL : Fld := ⟨.MTC_CTRL, 8, 16, .rws, 100⟩
def MTC_CTRL_HINT_ORD : Fld := ⟨.MTC_CTRL, 24, 8, .rws, 2⟩
def MTC_CTRL_EAGER : Fld := ⟨.MTC_CTRL, 32, 17, .rws, 8192⟩
def MTC_STAT_POSTED : Fld := ⟨.MTC_STAT, 0, 21, .ro, 0⟩
def MTC_STAT_UNEXP : Fld := ⟨.MTC_STAT, 21, 21, .ro, 0⟩
def MTC_STAT_REORDER : Fld := ⟨.MTC_STAT, 42, 21, .ro, 0⟩
def MTC_MATCH_COUNT : Fld := ⟨.MTC_MATCH, 0, 48, .rc, 0⟩
def MTC_UNEXP_COUNT : Fld := ⟨.MTC_UNEXP, 0, 48, .rc, 0⟩
def MTC_ORDHOLD_COUNT : Fld := ⟨.MTC_ORDHOLD, 0, 48, .rc, 0⟩
def MTC_ORDNACK_COUNT : Fld := ⟨.MTC_ORDNACK, 0, 48, .rc, 0⟩
def MTC_POOLNACK_COUNT : Fld := ⟨.MTC_POOLNACK, 0, 48, .rc, 0⟩
def MTC_NORES_COUNT : Fld := ⟨.MTC_NORES, 0, 48, .rc, 0⟩
def MTC_ORDERR_COUNT : Fld := ⟨.MTC_ORDERR, 0, 48, .rc, 0⟩
def MTC_STALEFIN_COUNT : Fld := ⟨.MTC_STALEFIN, 0, 48, .rc, 0⟩
def MTC_PURGED_COUNT : Fld := ⟨.MTC_PURGED, 0, 48, .rc, 0⟩
def MTC_FNCFG_QUOTA : Fld := ⟨.MTC_FNCFG, 0, 21, .rws, 0⟩
def MTC_FNCFG_UXRQ : Fld := ⟨.MTC_FNCFG, 24, 16, .rws, 0⟩
def MTC_FNCFG_UX_EN : Fld := ⟨.MTC_FNCFG, 40, 1, .rws, 0⟩
def MTC_FNCFG_USED : Fld := ⟨.MTC_FNCFG, 42, 21, .ro, 0⟩
def MTC_FNRNDV_COUNT : Fld := ⟨.MTC_FNRNDV, 0, 13, .rws, 0⟩
def MTC_FNRNDV_BASE : Fld := ⟨.MTC_FNRNDV, 32, 18, .rws, 0⟩
def MTC_FNRNDV_STATUS : Fld := ⟨.MTC_FNRNDV, 56, 8, .ro, 0⟩
def MTC_CMD_OP : Fld := ⟨.MTC_CMD, 0, 2, .wo, 0⟩
def MTC_CMD_STATUS : Fld := ⟨.MTC_CMD, 40, 8, .ro, 0⟩
def MTC_CMD_BUSY : Fld := ⟨.MTC_CMD, 48, 1, .ro, 0⟩
def XLT_CTRL_EN : Fld := ⟨.XLT_CTRL, 0, 1, .rws, 1⟩
def XLT_CTRL_RA_EN : Fld := ⟨.XLT_CTRL, 1, 1, .rws, 1⟩
def XLT_CTRL_TWAIT : Fld := ⟨.XLT_CTRL, 16, 16, .rws, 4⟩
def XLT_CTRL_HINT : Fld := ⟨.XLT_CTRL, 32, 16, .rws, 10⟩
def XLT_CTRL_PRHINT : Fld := ⟨.XLT_CTRL, 48, 16, .rws, 50⟩
def XLT_TIMERS_PRTIME : Fld := ⟨.XLT_TIMERS, 0, 20, .rws, 1000⟩
def XLT_STAT_L2USED : Fld := ⟨.XLT_STAT, 0, 15, .ro, 0⟩
def XLT_STAT_SLOTS : Fld := ⟨.XLT_STAT, 15, 9, .ro, 0⟩
def XLT_STAT_LOCKED : Fld := ⟨.XLT_STAT, 32, 11, .ro, 0⟩
def XLT_STAT_BACKED : Fld := ⟨.XLT_STAT, 43, 21, .ro, 0⟩
def XLT_SEWIN_EN : Fld := ⟨.XLT_SEWIN, 0, 1, .rws, 0⟩
def XLT_SEWIN_LOG2SIZE : Fld := ⟨.XLT_SEWIN, 6, 6, .rws, 12⟩
def XLT_SEWIN_BASE : Fld := ⟨.XLT_SEWIN, 12, 52, .rws, 0⟩
def XLT_LOAD_IMAGE : Fld := ⟨.XLT_LOAD, 0, 64, .rw, 0⟩
def XLT_LOADCMD_OP : Fld := ⟨.XLT_LOADCMD, 0, 2, .wo, 0⟩
def XLT_LOADCMD_STATUS : Fld := ⟨.XLT_LOADCMD, 8, 8, .ro, 0⟩
def XLT_TRAPPEND_PENDING : Fld := ⟨.XLT_TRAPPEND, 0, 64, .ro, 0⟩
def XLT_RESOLVE_ID : Fld := ⟨.XLT_RESOLVE, 0, 16, .wo, 0⟩
def XLT_RESOLVE_ACTION : Fld := ⟨.XLT_RESOLVE, 16, 2, .wo, 0⟩
def XLT_RESOLVE_HINT : Fld := ⟨.XLT_RESOLVE, 32, 16, .wo, 0⟩
def XLT_L1FILL_COUNT : Fld := ⟨.XLT_L1FILL, 0, 48, .rc, 0⟩
def XLT_TRAP_COUNT : Fld := ⟨.XLT_TRAP, 0, 48, .rc, 0⟩
def XLT_MARKTRAP_COUNT : Fld := ⟨.XLT_MARKTRAP, 0, 48, .rc, 0⟩
def XLT_TRAPFULL_COUNT : Fld := ⟨.XLT_TRAPFULL, 0, 48, .rc, 0⟩
def XLT_STALERES_COUNT : Fld := ⟨.XLT_STALERES, 0, 48, .rc, 0⟩
def XLT_WALKRD_COUNT : Fld := ⟨.XLT_WALKRD, 0, 48, .rc, 0⟩
def XLT_WALKERR_COUNT : Fld := ⟨.XLT_WALKERR, 0, 48, .rc, 0⟩
def XLT_PGREQ_COUNT : Fld := ⟨.XLT_PGREQ, 0, 48, .rc, 0⟩
def XLT_RINGERR_COUNT : Fld := ⟨.XLT_RINGERR, 0, 48, .rc, 0⟩
def XLT_SPACE_EN : Fld := ⟨.XLT_SPACE, 0, 1, .rws, 0⟩
def XLT_SPACE_WALK_EN : Fld := ⟨.XLT_SPACE, 1, 1, .rws, 0⟩
def XLT_SPACE_OWNER : Fld := ⟨.XLT_SPACE, 2, 8, .rws, 0⟩
def XLT_SPACE_PREQ_EQ : Fld := ⟨.XLT_SPACE, 16, 10, .rws, 0⟩
def XLT_SPACE_STATUS : Fld := ⟨.XLT_SPACE, 56, 8, .ro, 0⟩
def XLT_SPACEROOT_ROOT : Fld := ⟨.XLT_SPACEROOT, 12, 52, .rws, 0⟩
def XLT_CMD_OP : Fld := ⟨.XLT_CMD, 0, 3, .wo, 0⟩
def XLT_CMD_STATUS : Fld := ⟨.XLT_CMD, 40, 8, .ro, 0⟩
def XLT_CMD_BUSY : Fld := ⟨.XLT_CMD, 48, 1, .ro, 0⟩
def XLT_CMDBUF_IMAGE : Fld := ⟨.XLT_CMDBUF, 0, 64, .rw, 0⟩
def SAG_UID_UID : Fld := ⟨.SAG_UID, 0, 64, .ro, 0⟩
def SAG_LC_STATE : Fld := ⟨.SAG_LC, 0, 3, .ro, 0⟩
def SAG_LC_BUSY : Fld := ⟨.SAG_LC, 8, 1, .ro, 0⟩
def SAG_LC_PRIMARY : Fld := ⟨.SAG_LC, 9, 1, .ro, 0⟩
def SAG_LC_OPKEY : Fld := ⟨.SAG_LC, 10, 1, .ro, 0⟩
def SAG_DBG_LEVEL : Fld := ⟨.SAG_DBG, 0, 2, .ro, 0⟩
def SAG_DBG_MAX : Fld := ⟨.SAG_DBG, 4, 2, .ro, 0⟩
def SAG_DBG_SIGNER : Fld := ⟨.SAG_DBG, 8, 2, .ro, 0⟩
def SAG_DBG_LOWER : Fld := ⟨.SAG_DBG, 16, 2, .wo, 0⟩
def SAG_CHAL_CHALLENGE : Fld := ⟨.SAG_CHAL, 0, 64, .rc, 0⟩
def SAG_WIPE_ACTIVE : Fld := ⟨.SAG_WIPE, 0, 1, .ro, 0⟩
def SAG_WIPE_SCOPE : Fld := ⟨.SAG_WIPE, 1, 3, .ro, 0⟩
def SAG_WIPE_PROGRESS : Fld := ⟨.SAG_WIPE, 8, 8, .ro, 0⟩
def SAG_WIPE_LASTDUR : Fld := ⟨.SAG_WIPE, 32, 32, .ro, 0⟩
def SAG_TOKBUF_IMAGE : Fld := ⟨.SAG_TOKBUF, 0, 64, .rw, 0⟩
def SAG_TOKCMD_OP : Fld := ⟨.SAG_TOKCMD, 0, 2, .wo, 0⟩
def SAG_TOKCMD_STATUS : Fld := ⟨.SAG_TOKCMD, 40, 8, .ro, 0⟩
def SAG_TOKCMD_BUSY : Fld := ⟨.SAG_TOKCMD, 48, 1, .ro, 0⟩
def SAG_PUBKEY_KEY : Fld := ⟨.SAG_PUBKEY, 0, 64, .rw, 0⟩
def SAG_TOKFAIL_COUNT : Fld := ⟨.SAG_TOKFAIL, 0, 48, .rc, 0⟩
def SAG_KEYINST_COUNT : Fld := ⟨.SAG_KEYINST, 0, 48, .rc, 0⟩
def SAG_KEYERASE_COUNT : Fld := ⟨.SAG_KEYERASE, 0, 48, .rc, 0⟩
def SAG_KEYMISS_COUNT : Fld := ⟨.SAG_KEYMISS, 0, 48, .rc, 0⟩
def SAG_WIPES_COUNT : Fld := ⟨.SAG_WIPES, 0, 48, .rc, 0⟩
def SAG_FNQUOTA_QUOTA : Fld := ⟨.SAG_FNQUOTA, 0, 17, .rws, 0⟩
def SAG_FNQUOTA_USED : Fld := ⟨.SAG_FNQUOTA, 32, 17, .ro, 0⟩
def SAG_KEYCMD_OP : Fld := ⟨.SAG_KEYCMD, 0, 3, .wo, 0⟩
def SAG_KEYCMD_SLOT : Fld := ⟨.SAG_KEYCMD, 16, 16, .rw, 0⟩
def SAG_KEYCMD_STATUS : Fld := ⟨.SAG_KEYCMD, 40, 8, .ro, 0⟩
def SAG_KEYCMD_BUSY : Fld := ⟨.SAG_KEYCMD, 48, 1, .ro, 0⟩
def SAG_KEYBUF_KEY : Fld := ⟨.SAG_KEYBUF, 0, 64, .wo, 0⟩
def SAG_KEYSLOT_CTX : Fld := ⟨.SAG_KEYSLOT, 0, 18, .ro, 0⟩
def SAG_KEYSLOT_OWNER : Fld := ⟨.SAG_KEYSLOT, 20, 9, .ro, 0⟩
def SAG_KEYSLOT_STATE : Fld := ⟨.SAG_KEYSLOT, 29, 3, .ro, 0⟩
def SAG_KEYSLOT_LASTINC : Fld := ⟨.SAG_KEYSLOT, 32, 32, .ro, 0⟩
def CFG_IDENT_FORM : Fld := ⟨.CFG_IDENT, 0, 1, .ro, 0⟩
def CFG_IDENT_STEPPING : Fld := ⟨.CFG_IDENT, 8, 8, .ro, 0⟩
def CFG_IDENT_PARTNO : Fld := ⟨.CFG_IDENT, 32, 16, .ro, 1298⟩
def CFG_BOOTSTATUS_PHASE : Fld := ⟨.CFG_BOOTSTATUS, 0, 3, .ro, 0⟩
def CFG_BOOTSTATUS_SLOT : Fld := ⟨.CFG_BOOTSTATUS, 6, 2, .ro, 3⟩
def CFG_BOOTSTATUS_TRIAL : Fld := ⟨.CFG_BOOTSTATUS, 8, 1, .ro, 0⟩
def CFG_BOOTSTATUS_BISQUE : Fld := ⟨.CFG_BOOTSTATUS, 32, 3, .ro, 0⟩
def CFG_BOOTSTATUS_FAIL_A : Fld := ⟨.CFG_BOOTSTATUS, 44, 4, .ro, 0⟩
def CFG_BOOTSTATUS_FAIL_B : Fld := ⟨.CFG_BOOTSTATUS, 48, 4, .ro, 0⟩
def CFG_BOOTSTATUS_FAIL_FACTORY : Fld := ⟨.CFG_BOOTSTATUS, 52, 4, .ro, 0⟩
def CFG_VERSION_SAGGAR : Fld := ⟨.CFG_VERSION, 0, 32, .ro, 0⟩
def CFG_VERSION_ZORURI : Fld := ⟨.CFG_VERSION, 32, 32, .ro, 0⟩
def CFG_CFGVER_CONFIG : Fld := ⟨.CFG_CFGVER, 0, 32, .ro, 0⟩
def CFG_CFGVER_FABRIC : Fld := ⟨.CFG_CFGVER, 32, 32, .ro, 0⟩
def CFG_SLOTCMD_OP : Fld := ⟨.CFG_SLOTCMD, 0, 3, .wo, 0⟩
def CFG_SLOTCMD_STATUS : Fld := ⟨.CFG_SLOTCMD, 40, 8, .ro, 0⟩
def CFG_SLOTCMD_BUSY : Fld := ⟨.CFG_SLOTCMD, 48, 1, .ro, 0⟩
def CFG_TRIAL_REMAIN : Fld := ⟨.CFG_TRIAL, 0, 16, .ro, 0⟩
def CFG_TRIAL_TIMEOUT : Fld := ⟨.CFG_TRIAL, 16, 16, .ro, 120⟩
def CFG_TRIAL_AUTOCOMMIT : Fld := ⟨.CFG_TRIAL, 32, 1, .ro, 0⟩
def CFG_CTRL_REMOTE_EN : Fld := ⟨.CFG_CTRL, 0, 1, .rws, 0⟩
def CFG_CTRL_FLASH_WE : Fld := ⟨.CFG_CTRL, 1, 1, .rws, 0⟩
def CFG_ERG_HELLO_INT : Fld := ⟨.CFG_ERG, 0, 16, .rws, 1000⟩
def CFG_ERG_CLAIM_WAIT : Fld := ⟨.CFG_ERG, 16, 16, .rws, 10⟩
def CFG_ERG_SETTLE : Fld := ⟨.CFG_ERG, 32, 16, .rws, 20⟩
def CFG_ERG_LOST_WAIT : Fld := ⟨.CFG_ERG, 48, 16, .rws, 5⟩
def CFG_ERGSTAT_NODE : Fld := ⟨.CFG_ERGSTAT, 0, 17, .ro, 0⟩
def CFG_ERGSTAT_VALID : Fld := ⟨.CFG_ERGSTAT, 17, 1, .ro, 0⟩
def CFG_ERGSTAT_TDIST : Fld := ⟨.CFG_ERGSTAT, 18, 8, .ro, 255⟩
def CFG_ERGSTAT_MEMBERS : Fld := ⟨.CFG_ERGSTAT, 55, 7, .ro, 0⟩
def CFG_ERGSTAT_LEADER : Fld := ⟨.CFG_ERGSTAT, 62, 1, .ro, 0⟩
def CFG_ERGSTAT_COORD : Fld := ⟨.CFG_ERGSTAT, 63, 1, .ro, 0⟩
def CFG_FLASHCMD_OP : Fld := ⟨.CFG_FLASHCMD, 0, 2, .wo, 0⟩
def CFG_FLASHCMD_BUSY : Fld := ⟨.CFG_FLASHCMD, 16, 1, .ro, 0⟩
def CFG_FLASHCMD_STATUS : Fld := ⟨.CFG_FLASHCMD, 24, 8, .ro, 0⟩
def CFG_FLASHCMD_ADDR : Fld := ⟨.CFG_FLASHCMD, 32, 27, .rw, 0⟩
def CFG_FLASHBUF_DATA : Fld := ⟨.CFG_FLASHBUF, 0, 64, .rw, 0⟩
def CFG_PEER_NODE : Fld := ⟨.CFG_PEER, 0, 17, .ro, 0⟩
def CFG_PEER_NODE_VALID : Fld := ⟨.CFG_PEER, 17, 1, .ro, 0⟩
def CFG_PEER_PORT : Fld := ⟨.CFG_PEER, 18, 9, .ro, 0⟩
def CFG_PEER_SEEN : Fld := ⟨.CFG_PEER, 31, 1, .ro, 0⟩
def CFG_PEER_FABRIC : Fld := ⟨.CFG_PEER, 32, 32, .ro, 0⟩
def MGT_CTRL_CAR_EN : Fld := ⟨.MGT_CTRL, 0, 1, .rws, 1⟩
def MGT_CTRL_OOB_EN : Fld := ⟨.MGT_CTRL, 1, 1, .rws, 0⟩
def MGT_CTRL_FORCE_SLOW : Fld := ⟨.MGT_CTRL, 2, 1, .rws, 0⟩
def MGT_CARSTAT_SEEDED : Fld := ⟨.MGT_CARSTAT, 34, 1, .ro, 0⟩
def MGT_CARSTAT_RATE : Fld := ⟨.MGT_CARSTAT, 35, 1, .ro, 0⟩
def MGT_CARSTAT_SLOWIN : Fld := ⟨.MGT_CARSTAT, 36, 1, .ro, 0⟩
def MGT_CARSTAT_MASTER : Fld := ⟨.MGT_CARSTAT, 37, 1, .ro, 0⟩
def MGT_CARSTAT_STATE : Fld := ⟨.MGT_CARSTAT, 38, 2, .ro, 0⟩
def MGT_CARSTAT_POSITION : Fld := ⟨.MGT_CARSTAT, 48, 8, .ro, 255⟩
def MGT_CARSTAT_COUNT : Fld := ⟨.MGT_CARSTAT, 56, 8, .ro, 0⟩
def MGT_OOBCMD_ADDR : Fld := ⟨.MGT_OOBCMD, 0, 36, .rw, 0⟩
def MGT_OOBCMD_OP : Fld := ⟨.MGT_OOBCMD, 36, 2, .wo, 0⟩
def MGT_OOBCMD_BUSY : Fld := ⟨.MGT_OOBCMD, 55, 1, .ro, 0⟩
def MGT_OOBCMD_STATUS : Fld := ⟨.MGT_OOBCMD, 56, 8, .ro, 0⟩
def MGT_OOBTGT_TARGET : Fld := ⟨.MGT_OOBTGT, 0, 17, .rw, 0⟩
def MGT_OOBTGT_PATH : Fld := ⟨.MGT_OOBTGT, 17, 1, .rw, 0⟩
def MGT_OOBDATA_DATA : Fld := ⟨.MGT_OOBDATA, 0, 64, .rw, 0⟩
def MGT_CARCRC_COUNT : Fld := ⟨.MGT_CARCRC, 0, 48, .rc, 0⟩
def MGT_CARREFORM_COUNT : Fld := ⟨.MGT_CARREFORM, 0, 48, .rc, 0⟩
def MGT_OOBIN_COUNT : Fld := ⟨.MGT_OOBIN, 0, 48, .rc, 0⟩
def PWR_CTRL_VIN_WARN : Fld := ⟨.PWR_CTRL, 0, 16, .rws, 8500⟩
def PWR_CTRL_WARNLVL : Fld := ⟨.PWR_CTRL, 16, 3, .rws, 5⟩
def PWR_CTRL_CONE_MAX : Fld := ⟨.PWR_CTRL, 20, 3, .rws, 7⟩
def PWR_CTRL_RISE : Fld := ⟨.PWR_CTRL, 32, 8, .rws, 1⟩
def PWR_CTRL_AVG : Fld := ⟨.PWR_CTRL, 40, 16, .rws, 100⟩
def PWR_STAT_VIN : Fld := ⟨.PWR_STAT, 0, 16, .ro, 0⟩
def PWR_STAT_PIN : Fld := ⟨.PWR_STAT, 16, 16, .ro, 0⟩
def PWR_STAT_CONE : Fld := ⟨.PWR_STAT, 32, 3, .ro, 7⟩
def PWR_STAT_LIMIT_SRC : Fld := ⟨.PWR_STAT, 35, 3, .ro, 0⟩
def PWR_STAT_WARN : Fld := ⟨.PWR_STAT, 38, 1, .ro, 0⟩
def PWR_STAT_CAPMISS : Fld := ⟨.PWR_STAT, 39, 1, .w1c, 0⟩
def PWR_STAT_VSTBY_OK : Fld := ⟨.PWR_STAT, 40, 1, .ro, 0⟩
def PWR_STAT_LIMIT_OC : Fld := ⟨.PWR_STAT, 41, 1, .ro, 0⟩
def PWR_STAT_IIN : Fld := ⟨.PWR_STAT, 48, 8, .ro, 0⟩
def PWR_THERM_TJ : Fld := ⟨.PWR_THERM, 0, 10, .ro, 0⟩
def PWR_THERM_THERMLVL : Fld := ⟨.PWR_THERM, 12, 3, .ro, 7⟩
def PWR_THERM_THROTTLE : Fld := ⟨.PWR_THERM, 15, 1, .ro, 0⟩
def PWR_THERM_HOTDIE : Fld := ⟨.PWR_THERM, 16, 2, .ro, 0⟩
def PWR_DOMSTAT_REGION : Fld := ⟨.PWR_DOMSTAT, 0, 32, .ro, 0⟩
def PWR_DOMSTAT_DIE : Fld := ⟨.PWR_DOMSTAT, 32, 8, .ro, 0⟩
def PWR_TIMERS_ENTRY : Fld := ⟨.PWR_TIMERS, 0, 20, .rws, 1000⟩
def PWR_DOMCTL_OP : Fld := ⟨.PWR_DOMCTL, 0, 2, .wo, 0⟩
def PWR_DOMCTL_SCOPE : Fld := ⟨.PWR_DOMCTL, 2, 3, .rw, 0⟩
def PWR_DOMCTL_STATUS : Fld := ⟨.PWR_DOMCTL, 8, 8, .ro, 0⟩
def PWR_DOMCTL_BUSY : Fld := ⟨.PWR_DOMCTL, 16, 1, .ro, 0⟩
def PWR_WARNCNT_COUNT : Fld := ⟨.PWR_WARNCNT, 0, 48, .rc, 0⟩
def PWR_THROTTLE_COUNT : Fld := ⟨.PWR_THROTTLE, 0, 48, .rc, 0⟩
def PWR_CAPMISS_COUNT : Fld := ⟨.PWR_CAPMISS, 0, 48, .rc, 0⟩
def PWR_STOPOK_COUNT : Fld := ⟨.PWR_STOPOK, 0, 48, .rc, 0⟩
def PWR_STOPABORT_COUNT : Fld := ⟨.PWR_STOPABORT, 0, 48, .rc, 0⟩
def PWR_WAKE_COUNT : Fld := ⟨.PWR_WAKE, 0, 48, .rc, 0⟩
def CLK_CTRL_HOLDOVER : Fld := ⟨.CLK_CTRL, 0, 16, .rws, 1000⟩
def CLK_STAT_REF_OK : Fld := ⟨.CLK_STAT, 0, 1, .ro, 0⟩
def CLK_STAT_PLL_LOCK : Fld := ⟨.CLK_STAT, 1, 1, .ro, 0⟩
def CLK_STAT_HOLDOVER : Fld := ⟨.CLK_STAT, 2, 1, .ro, 0⟩
def CLK_STAT_RUNNING : Fld := ⟨.CLK_STAT, 4, 10, .ro, 1023⟩
def CLK_REFLOSS_COUNT : Fld := ⟨.CLK_REFLOSS, 0, 48, .rc, 0⟩
def FLT_CTRL_IRQ_EN : Fld := ⟨.FLT_CTRL, 0, 1, .rws, 1⟩
def FLT_CTRL_STORE_RUNG : Fld := ⟨.FLT_CTRL, 8, 3, .rws, 0⟩
def FLT_CTRL_FN_RUNG : Fld := ⟨.FLT_CTRL, 12, 3, .rws, 4⟩
def FLT_CTRL_VEC : Fld := ⟨.FLT_CTRL, 16, 5, .rws, 0⟩
def FLT_CTRL_REPEAT : Fld := ⟨.FLT_CTRL, 32, 16, .rws, 60⟩
def FLT_STAT_OPEN : Fld := ⟨.FLT_STAT, 0, 9, .ro, 0⟩
def FLT_STAT_ACTING : Fld := ⟨.FLT_STAT, 16, 9, .ro, 0⟩
def FLT_STAT_OVERFLOW : Fld := ⟨.FLT_STAT, 32, 1, .w1c, 0⟩
def FLT_STAT_ISOLATED : Fld := ⟨.FLT_STAT, 33, 1, .ro, 0⟩
def FLT_ACK_ID : Fld := ⟨.FLT_ACK, 0, 16, .wo, 0⟩
def FLT_ACK_ACTION : Fld := ⟨.FLT_ACK, 16, 2, .wo, 0⟩
def FLT_ACK_STATUS : Fld := ⟨.FLT_ACK, 24, 8, .ro, 0⟩
def FLT_FAULTN_FORCE : Fld := ⟨.FLT_FAULTN, 0, 1, .rw, 0⟩
def FLT_FAULTN_RELEASE : Fld := ⟨.FLT_FAULTN, 1, 1, .wo, 0⟩
def FLT_FAULTN_LATCH : Fld := ⟨.FLT_FAULTN, 4, 1, .ro, 0⟩
def FLT_FAULTN_ISOLATE : Fld := ⟨.FLT_FAULTN, 5, 1, .ro, 0⟩
def FLT_FAULTN_SHUTDOWN : Fld := ⟨.FLT_FAULTN, 6, 1, .ro, 0⟩
def FLT_FAULTN_PIN : Fld := ⟨.FLT_FAULTN, 7, 1, .ro, 0⟩
def FLT_ACCERR_ADDR : Fld := ⟨.FLT_ACCERR, 0, 36, .ro, 0⟩
def FLT_ACCERR_COUNT : Fld := ⟨.FLT_ACCERR, 36, 16, .ro, 0⟩
def FLT_ACCERR_REASON : Fld := ⟨.FLT_ACCERR, 57, 3, .ro, 0⟩
def FLT_ACCERR_PATH : Fld := ⟨.FLT_ACCERR, 60, 3, .ro, 0⟩
def FLT_ACCERR_VALID : Fld := ⟨.FLT_ACCERR, 63, 1, .w1c, 0⟩
def FLT_STORECMD_ERASE : Fld := ⟨.FLT_STORECMD, 0, 1, .wo, 0⟩
def FLT_STORECMD_BUSY : Fld := ⟨.FLT_STORECMD, 48, 1, .ro, 0⟩
def FLT_STORECMD_STATUS : Fld := ⟨.FLT_STORECMD, 56, 8, .ro, 0⟩
def FLT_STORESTAT_VALID : Fld := ⟨.FLT_STORESTAT, 0, 13, .ro, 0⟩
def FLT_STORESTAT_NEXT : Fld := ⟨.FLT_STORESTAT, 32, 12, .ro, 0⟩
def FLT_STORESTAT_DROPPED : Fld := ⟨.FLT_STORESTAT, 48, 16, .ro, 0⟩
def FLT_RAISED_COUNT : Fld := ⟨.FLT_RAISED, 0, 48, .rc, 0⟩
def FLT_MERGED_COUNT : Fld := ⟨.FLT_MERGED, 0, 48, .rc, 0⟩
def FLT_ACTIONS_COUNT : Fld := ⟨.FLT_ACTIONS, 0, 48, .rc, 0⟩
def FLT_NOSLOT_COUNT : Fld := ⟨.FLT_NOSLOT, 0, 48, .rc, 0⟩
def FLT_SRCCFG_START : Fld := ⟨.FLT_SRCCFG, 4, 3, .rws, 0⟩
def FLT_SRCCFG_CEILING : Fld := ⟨.FLT_SRCCFG, 8, 3, .rws, 0⟩
def FLT_SRCCFG_MAXCEIL : Fld := ⟨.FLT_SRCCFG, 12, 3, .ro, 0⟩
def FLT_SRCCFG_FAULTN : Fld := ⟨.FLT_SRCCFG, 15, 1, .rws, 0⟩
def FLT_SRCCFG_WINDOW : Fld := ⟨.FLT_SRCCFG, 32, 16, .rws, 0⟩
def FLT_SRCCFG_ESC : Fld := ⟨.FLT_SRCCFG, 48, 16, .rws, 0⟩
def KLN_CTRL_EN : Fld := ⟨.KLN_CTRL, 0, 1, .rws, 1⟩
def KLN_CTRL_BOOT_BANK : Fld := ⟨.KLN_CTRL, 1, 1, .rws, 0⟩
def KLN_CTRL_BOOT_SRAM : Fld := ⟨.KLN_CTRL, 2, 1, .rws, 0⟩
def KLN_CMD_TEST : Fld := ⟨.KLN_CMD, 0, 4, .rw, 0⟩
def KLN_CMD_TARGET : Fld := ⟨.KLN_CMD, 16, 9, .rw, 0⟩
def KLN_CMD_PARAM : Fld := ⟨.KLN_CMD, 32, 16, .rw, 10⟩
def KLN_CMD_GO : Fld := ⟨.KLN_CMD, 63, 1, .wo, 0⟩
def KLN_RESULT_FIRST : Fld := ⟨.KLN_RESULT, 0, 32, .ro, 0⟩
def KLN_RESULT_FAILS : Fld := ⟨.KLN_RESULT, 32, 16, .ro, 0⟩
def KLN_RESULT_STATE : Fld := ⟨.KLN_RESULT, 54, 2, .ro, 0⟩
def KLN_RESULT_STATUS : Fld := ⟨.KLN_RESULT, 56, 8, .ro, 0⟩
def KLN_BOOT_BRGH : Fld := ⟨.KLN_BOOT, 8, 5, .ro, 0⟩
def KLN_BOOT_BRGV : Fld := ⟨.KLN_BOOT, 16, 5, .ro, 0⟩
def KLN_BOOT_LANESFAILED : Fld := ⟨.KLN_BOOT, 24, 8, .ro, 0⟩
def KLN_BOOT_PASSED : Fld := ⟨.KLN_BOOT, 32, 1, .ro, 0⟩
def KLN_RUNS_COUNT : Fld := ⟨.KLN_RUNS, 0, 48, .rc, 0⟩
def KLN_FAILS_COUNT : Fld := ⟨.KLN_FAILS, 0, 48, .rc, 0⟩
def KLN_REFUSED_COUNT : Fld := ⟨.KLN_REFUSED, 0, 48, .rc, 0⟩
def PMC_SEL_EVENT : Fld := ⟨.PMC_SEL, 0, 8, .rw, 0⟩
def PMC_SEL_BLOCK : Fld := ⟨.PMC_SEL, 8, 8, .rw, 0⟩
def PMC_SEL_INSTANCE : Fld := ⟨.PMC_SEL, 16, 9, .rw, 0⟩
def PMC_SEL_FILTER : Fld := ⟨.PMC_SEL, 32, 18, .rw, 0⟩
def PMC_SEL_OVF_SNAP : Fld := ⟨.PMC_SEL, 53, 1, .rw, 0⟩
def PMC_SEL_CHAIN : Fld := ⟨.PMC_SEL, 54, 1, .rw, 0⟩
def PMC_SEL_EN : Fld := ⟨.PMC_SEL, 55, 1, .rw, 0⟩
def PMC_SEL_STATUS : Fld := ⟨.PMC_SEL, 56, 8, .ro, 0⟩
def PMC_CNT_VALUE : Fld := ⟨.PMC_CNT, 0, 48, .rw, 0⟩
def PMC_OVF_WRAPPED : Fld := ⟨.PMC_OVF, 0, 64, .w1c, 0⟩
def PMC_CHAINHI_VALUE : Fld := ⟨.PMC_CHAINHI, 0, 48, .ro, 0⟩
def PMC_SLOT_SLOTS : Fld := ⟨.PMC_SLOT, 0, 48, .ro, 0⟩
def PMC_RINGCTL_EN : Fld := ⟨.PMC_RINGCTL, 0, 1, .rw, 0⟩
def PMC_RINGCTL_PATH : Fld := ⟨.PMC_RINGCTL, 1, 3, .rws, 0⟩
def PMC_RINGCTL_LOG2SIZE : Fld := ⟨.PMC_RINGCTL, 8, 5, .rws, 10⟩
def PMC_RINGCTL_SLOTS : Fld := ⟨.PMC_RINGCTL, 32, 1, .rws, 1⟩
def PMC_RINGCTL_OVF_IRQ : Fld := ⟨.PMC_RINGCTL, 33, 1, .rws, 0⟩
def PMC_RINGCTL_SNAP_IRQ : Fld := ⟨.PMC_RINGCTL, 34, 1, .rws, 0⟩
def PMC_RINGCTL_VEC : Fld := ⟨.PMC_RINGCTL, 35, 5, .rws, 0⟩
def PMC_RINGCTL_XSPACE : Fld := ⟨.PMC_RINGCTL, 40, 16, .rws, 0⟩
def PMC_RINGCTL_STATUS : Fld := ⟨.PMC_RINGCTL, 56, 8, .ro, 0⟩
def PMC_RINGBASE_BASE : Fld := ⟨.PMC_RINGBASE, 12, 52, .rws, 0⟩
def PMC_TRIG_PERIOD : Fld := ⟨.PMC_TRIG, 0, 24, .rws, 0⟩
def PMC_TRIG_GO : Fld := ⟨.PMC_TRIG, 63, 1, .wo, 0⟩
def PMC_RINGPI_PI : Fld := ⟨.PMC_RINGPI, 0, 32, .ro, 0⟩
def PMC_RINGCI_CI : Fld := ⟨.PMC_RINGCI, 0, 32, .rw, 0⟩
def PMC_SNAPS_COUNT : Fld := ⟨.PMC_SNAPS, 0, 48, .rc, 0⟩
def PMC_SNAPDROP_COUNT : Fld := ⟨.PMC_SNAPDROP, 0, 48, .rc, 0⟩
def PMC_SNAPMISS_COUNT : Fld := ⟨.PMC_SNAPMISS, 0, 48, .rc, 0⟩
def PMC_SNAPERR_COUNT : Fld := ⟨.PMC_SNAPERR, 0, 48, .rc, 0⟩
def TIM_NOW_NOW : Fld := ⟨.TIM_NOW, 0, 64, .ro, 0⟩
def TIM_STAT_SRCPORT : Fld := ⟨.TIM_STAT, 0, 9, .ro, 0⟩
def TIM_STAT_SRCVALID : Fld := ⟨.TIM_STAT, 9, 1, .ro, 0⟩
def TIM_STAT_HOLD : Fld := ⟨.TIM_STAT, 10, 1, .ro, 0⟩
def TIM_STAT_LASTCORR : Fld := ⟨.TIM_STAT, 48, 16, .ro, 0⟩
def TIM_CORRCNT_COUNT : Fld := ⟨.TIM_CORRCNT, 0, 48, .rc, 0⟩

/-- The fields of each register that are not reserved, by its register table. -/
def Reg.flds : Reg → List Fld
  | .LAN_CTRL => [LAN_CTRL_RATE, LAN_CTRL_TXEN, LAN_CTRL_RXEN, LAN_CTRL_TX_INV, LAN_CTRL_RX_INV, LAN_CTRL_POL_AUTO, LAN_CTRL_TX_LANE, LAN_CTRL_RX_LANE, LAN_CTRL_ORDER_AUTO]
  | .LAN_TXEQ => [LAN_TXEQ_PRE, LAN_TXEQ_POST, LAN_TXEQ_OVR, LAN_TXEQ_MAIN, LAN_TXEQ_EQERR]
  | .LAN_RXEQ => [LAN_RXEQ_CTLE, LAN_RXEQ_CTLE_OVR, LAN_RXEQ_FREEZE, LAN_RXEQ_CTLE_CUR, LAN_RXEQ_DFE1]
  | .LAN_RXSTAT => [LAN_RXSTAT_ADAPT_STATE, LAN_RXSTAT_CDR_LOCK, LAN_RXSTAT_SIG_DET, LAN_RXSTAT_POL_INV, LAN_RXSTAT_LOGICAL, LAN_RXSTAT_ORDERR, LAN_RXSTAT_FAILED]
  | .LAN_IDLE => [LAN_IDLE_MODE, LAN_IDLE_TXQ_DLY, LAN_IDLE_RXQ_DLY, LAN_IDLE_MAINT_INT, LAN_IDLE_TX_STATE, LAN_IDLE_RX_STATE]
  | .LAN_LPBK => [LAN_LPBK_MODE, LAN_LPBK_STATUS]
  | .LAN_PATCTL => [LAN_PATCTL_PATTERN, LAN_PATCTL_GEN_EN, LAN_PATCTL_CHK_EN, LAN_PATCTL_LOCK]
  | .LAN_PATERR => [LAN_PATERR_ERRORS]
  | .LAN_ESCTL => [LAN_ESCTL_PHASE, LAN_ESCTL_VOFF, LAN_ESCTL_EYE, LAN_ESCTL_DWELL, LAN_ESCTL_BUSY, LAN_ESCTL_DONE, LAN_ESCTL_ABORTED, LAN_ESCTL_STOP, LAN_ESCTL_START]
  | .LAN_ESSAMP => [LAN_ESSAMP_SAMPLES]
  | .LAN_ESERR => [LAN_ESERR_ERRORS]
  | .LAN_FECSTAT => [LAN_FECSTAT_CORR, LAN_FECSTAT_UNCORR]
  | .LAN_CLMAP => [LAN_CLMAP_WIDTHS, LAN_CLMAP_STATUS]
  | .LNK_CTRL => [LNK_CTRL_EN, LNK_CTRL_INTEG, LNK_CTRL_REPLAY_MAX, LNK_CTRL_RETRAIN_MAX, LNK_CTRL_STATUS]
  | .LNK_TIMERS => [LNK_TIMERS_REPLAY, LNK_TIMERS_ACK_DLY, LNK_TIMERS_TRAIN]
  | .LNK_TIMERS2 => [LNK_TIMERS2_DOWN_PROBE, LNK_TIMERS2_DRAIN]
  | .LNK_AUDIT => [LNK_AUDIT_PERIOD]
  | .LNK_CMD => [LNK_CMD_CMD]
  | .LNK_STAT => [LNK_STAT_STATE, LNK_STAT_MODE, LNK_STAT_FAILS, LNK_STAT_REPLAYS, LNK_STAT_LAST_FAIL, LNK_STAT_CMD_STATUS, LNK_STAT_DRAINING]
  | .LNK_INC => [LNK_INC_LOCAL_INC, LNK_INC_PEER_INC]
  | .LNK_CRCERR => [LNK_CRCERR_COUNT]
  | .LNK_REPLAY => [LNK_REPLAY_COUNT]
  | .LNK_RETRAIN => [LNK_RETRAIN_COUNT]
  | .LNK_HELDDROP => [LNK_HELDDROP_COUNT]
  | .LNK_AUDITERR => [LNK_AUDITERR_COUNT]
  | .LNK_PROTOERR => [LNK_PROTOERR_COUNT]
  | .LNK_ACKERR => [LNK_ACKERR_COUNT]
  | .LNK_CREDIT => [LNK_CREDIT_AVAIL, LNK_CREDIT_ALLOC, LNK_CREDIT_OCC]
  | .PRT_DEAD => [PRT_DEAD_TIME]
  | .PRT_RELEASE => [PRT_RELEASE_SCOPE, PRT_RELEASE_STATUS]
  | .PRT_STAT => [PRT_STAT_ROUTABLE, PRT_STAT_DEAD, PRT_STAT_QUEUED]
  | .RTE_CTRL => [RTE_CTRL_OVERRIDE, RTE_CTRL_NMIN_VN, RTE_CTRL_BIAS]
  | .RTE_EPOCH => [RTE_EPOCH_STAMP, RTE_EPOCH_VALID, RTE_EPOCH_CHECKING, RTE_EPOCH_VALIDATE, RTE_EPOCH_RETIRE, RTE_EPOCH_STATUS]
  | .RTE_EPCNT => [RTE_EPCNT_NET]
  | .RTE_TBLERR => [RTE_TBLERR_INDEX, RTE_TBLERR_TABLE, RTE_TBLERR_BANK, RTE_TBLERR_REASON, RTE_TBLERR_VALID]
  | .RTE_DUNE => [RTE_DUNE_EN, RTE_DUNE_UNIT, RTE_DUNE_AGE, RTE_DUNE_UPDATE]
  | .RTE_NONMIN => [RTE_NONMIN_COUNT]
  | .RTE_REROUTE => [RTE_REROUTE_COUNT]
  | .RTE_DUNEUNK => [RTE_DUNEUNK_COUNT]
  | .RTE_LIVEREJ => [RTE_LIVEREJ_COUNT]
  | .RTE_EPCTL => [RTE_EPCTL_ROUND, RTE_EPCTL_LOAD_WAIT]
  | .RTE_DMEMB => [RTE_DMEMB_NODE, RTE_DMEMB_VALID]
  | .RTE_PCLASS => [RTE_PCLASS_GIDX, RTE_PCLASS_CLASS]
  | .FWD_CTRL => [FWD_CTRL_CT_EN, FWD_CTRL_MARK, FWD_CTRL_INJTHR]
  | .FWD_AUDIT => [FWD_AUDIT_PERIOD]
  | .FWD_VCW => [FWD_VCW_WEIGHTS]
  | .FWD_INJ => [FWD_INJ_INJ, FWD_INJ_BRG, FWD_INJ_STATUS]
  | .FWD_PART => [FWD_PART_COMMITTED, FWD_PART_FREE]
  | .FWD_DROP => [FWD_DROP_COUNT]
  | .FWD_STOMP => [FWD_STOMP_COUNT]
  | .FWD_MARKED => [FWD_MARKED_COUNT]
  | .FWD_INJWAIT => [FWD_INJWAIT_COUNT]
  | .FWD_SHARE => [FWD_SHARE_CELLS, FWD_SHARE_STATUS]
  | .FWD_OCC => [FWD_OCC_KIB, FWD_OCC_FULL, FWD_OCC_OVER_INJ]
  | .SCH_PORTCFG => [SCH_PORTCFG_PKT_OVH, SCH_PORTCFG_FLIT_OVH, SCH_PORTCFG_AGE_LIM, SCH_PORTCFG_GUARD]
  | .SCH_TCCFG => [SCH_TCCFG_WEIGHT0, SCH_TCCFG_STRICT0, SCH_TCCFG_WEIGHT1, SCH_TCCFG_STRICT1, SCH_TCCFG_WEIGHT2, SCH_TCCFG_STRICT2, SCH_TCCFG_WEIGHT3, SCH_TCCFG_STRICT3, SCH_TCCFG_WEIGHT4, SCH_TCCFG_STRICT4, SCH_TCCFG_WEIGHT5, SCH_TCCFG_STRICT5, SCH_TCCFG_WEIGHT6, SCH_TCCFG_STRICT6, SCH_TCCFG_WEIGHT7, SCH_TCCFG_STRICT7, SCH_TCCFG_WEIGHT8, SCH_TCCFG_STRICT8, SCH_TCCFG_WEIGHT9, SCH_TCCFG_STRICT9, SCH_TCCFG_WEIGHT10, SCH_TCCFG_STRICT10, SCH_TCCFG_WEIGHT11, SCH_TCCFG_STRICT11, SCH_TCCFG_WEIGHT12, SCH_TCCFG_STRICT12, SCH_TCCFG_WEIGHT13, SCH_TCCFG_STRICT13, SCH_TCCFG_WEIGHT14, SCH_TCCFG_STRICT14, SCH_TCCFG_WEIGHT15, SCH_TCCFG_STRICT15]
  | .SCH_SHAPE => [SCH_SHAPE_RATE, SCH_SHAPE_BURST, SCH_SHAPE_CREDIT]
  | .SCH_GATECTL => [SCH_GATECTL_COMMIT, SCH_GATECTL_CANCEL, SCH_GATECTL_EN, SCH_GATECTL_LEN, SCH_GATECTL_STATUS, SCH_GATECTL_ACTIVE, SCH_GATECTL_PENDING, SCH_GATECTL_RUNNING]
  | .SCH_GATESTART => [SCH_GATESTART_T]
  | .SCH_GATESTAT => [SCH_GATESTAT_ENTRY, SCH_GATESTAT_OPEN]
  | .MCG_CTRL => [MCG_CTRL_EN, MCG_CTRL_REFRESH]
  | .MCG_GCMD => [MCG_GCMD_GROUP, MCG_GCMD_CMD, MCG_GCMD_STATUS]
  | .MCG_TBLERR => [MCG_TBLERR_GROUP, MCG_TBLERR_REASON, MCG_TBLERR_VALID]
  | .MCG_FENCECMD => [MCG_FENCECMD_EP, MCG_FENCECMD_NODE_SCOPE, MCG_FENCECMD_SET, MCG_FENCECMD_STATUS, MCG_FENCECMD_GO]
  | .MCG_FENCECNT => [MCG_FENCECNT_NODES, MCG_FENCECNT_ENDPOINTS]
  | .MCG_REPL => [MCG_REPL_COUNT]
  | .MCG_FENCESKIP => [MCG_FENCESKIP_COUNT]
  | .MCG_CACHEMISS => [MCG_CACHEMISS_COUNT]
  | .MCG_LIVEWR => [MCG_LIVEWR_COUNT]
  | .MCG_NOSPACE => [MCG_NOSPACE_COUNT]
  | .MCG_NOPORT => [MCG_NOPORT_COUNT]
  | .MCG_GVALID => [MCG_GVALID_BACKED]
  | .CLV_CTRL => [CLV_CTRL_EN, CLV_CTRL_FAST_EN]
  | .CLV_TIMERS => [CLV_TIMERS_OP, CLV_TIMERS_MEMBER]
  | .CLV_BUF => [CLV_BUF_WINDOWS, CLV_BUF_GROUPS]
  | .CLV_DROPAUTH => [CLV_DROPAUTH_COUNT]
  | .CLV_CHUNKS => [CLV_CHUNKS_COUNT]
  | .CLV_INCOMPLETE => [CLV_INCOMPLETE_COUNT]
  | .CLV_PARTIAL => [CLV_PARTIAL_COUNT]
  | .CLV_MISMATCH => [CLV_MISMATCH_COUNT]
  | .CLV_LATE => [CLV_LATE_COUNT]
  | .CLV_WIDE => [CLV_WIDE_COUNT]
  | .CLV_OVF => [CLV_OVF_COUNT]
  | .BRG_STAT => [BRG_STAT_UP, BRG_STAT_DOWN]
  | .BRG_SPARE => [BRG_SPARE_TXFAILED, BRG_SPARE_RXFAILED]
  | .BRG_RETRY => [BRG_RETRY_COUNT]
  | .BRG_CHECKERR => [BRG_CHECKERR_COUNT]
  | .NOC_MODECTL => [NOC_MODECTL_TARGET, NOC_MODECTL_SWITCH, NOC_MODECTL_HOLD, NOC_MODECTL_MODE, NOC_MODECTL_STATUS, NOC_MODECTL_HOLDMAX]
  | .NOC_STAT => [NOC_STAT_EMPTY, NOC_STAT_OUTSTANDING]
  | .NOC_MSG => [NOC_MSG_COUNT]
  | .NOC_REGWAIT => [NOC_REGWAIT_COUNT]
  | .NOC_ECCCORR => [NOC_ECCCORR_COUNT]
  | .NOC_ECCUNC => [NOC_ECCUNC_COUNT]
  | .NOC_GWERR => [NOC_GWERR_COUNT]
  | .NOC_MODESW => [NOC_MODESW_COUNT]
  | .NOC_REG => [NOC_REG_RATE, NOC_REG_BURST]
  | .QDC_STAT => [QDC_STAT_READY]
  | .QDC_ECCCORR => [QDC_ECCCORR_COUNT]
  | .QDC_ECCUNC => [QDC_ECCUNC_COUNT]
  | .HST_CTRL => [HST_CTRL_EN, HST_CTRL_MAXWIDTH, HST_CTRL_MAXRATE, HST_CTRL_RO_EN, HST_CTRL_ATOMIC_EN, HST_CTRL_NUMPF]
  | .HST_STAT => [HST_STAT_LINK_UP, HST_STAT_WIDTH, HST_STAT_RATE, HST_STAT_FLIT, HST_STAT_SRIS, HST_STAT_DEGRADED]
  | .HST_DBERR => [HST_DBERR_COUNT]
  | .HST_DBIGN => [HST_DBIGN_COUNT]
  | .HST_RDERR => [HST_RDERR_COUNT]
  | .HST_FLR => [HST_FLR_COUNT]
  | .HST_BIND => [HST_BIND_VALID, HST_BIND_VF, HST_BIND_PF, HST_BIND_MC_EN, HST_BIND_MC_RQ]
  | .HST_FNQ => [HST_FNQ_COUNT, HST_FNQ_BASE, HST_FNQ_STATUS]
  | .QUE_CMD => [QUE_CMD_OP, QUE_CMD_STATUS, QUE_CMD_BUSY]
  | .QUE_CMDBUF => [QUE_CMDBUF_IMAGE]
  | .QUE_TIMERS => [QUE_TIMERS_CQSTALL]
  | .QUE_DESC => [QUE_DESC_COUNT]
  | .QUE_CQHELD => [QUE_CQHELD_COUNT]
  | .QUE_CQREFUSE => [QUE_CQREFUSE_COUNT]
  | .QUE_NRNACK => [QUE_NRNACK_COUNT]
  | .QUE_FLUSHED => [QUE_FLUSHED_COUNT]
  | .QUE_EQHOLD => [QUE_EQHOLD_COUNT]
  | .QUE_KEYRIGHTS => [QUE_KEYRIGHTS_KEYS]
  | .RMX_CTRL => [RMX_CTRL_EN, RMX_CTRL_ACKCOAL, RMX_CTRL_ACKDLY, RMX_CTRL_HINT_RQ, RMX_CTRL_HINT_CQ]
  | .RMX_STAT => [RMX_STAT_RSLOTS, RMX_STAT_TRACKERS, RMX_STAT_PARKED]
  | .RMX_PROFRATE => [RMX_PROFRATE_RSTART, RMX_PROFRATE_RMIN, RMX_PROFRATE_RMAX]
  | .RMX_PROFCTL => [RMX_PROFCTL_TIMER, RMX_PROFCTL_RETRY_MAX, RMX_PROFCTL_MD, RMX_PROFCTL_AI, RMX_PROFCTL_BURST]
  | .RMX_CTRAPPLIED => [RMX_CTRAPPLIED_TOTAL]
  | .RMX_CTRPLACED => [RMX_CTRPLACED_TOTAL]
  | .RMX_DROPCONN => [RMX_DROPCONN_COUNT]
  | .RMX_DROPAUTH => [RMX_DROPAUTH_COUNT]
  | .RMX_RETRY => [RMX_RETRY_COUNT]
  | .RMX_TIMEOUT => [RMX_TIMEOUT_COUNT]
  | .RMX_NACKTX => [RMX_NACKTX_COUNT]
  | .RMX_NACKRX => [RMX_NACKRX_COUNT]
  | .RMX_DUP => [RMX_DUP_COUNT]
  | .RMX_STALERSP => [RMX_STALERSP_COUNT]
  | .RMX_CUT => [RMX_CUT_COUNT]
  | .RMX_TRIGFIRE => [RMX_TRIGFIRE_COUNT]
  | .RMX_CONNERR => [RMX_CONNERR_COUNT]
  | .RMX_CMD => [RMX_CMD_OP, RMX_CMD_INDEX, RMX_CMD_STATUS, RMX_CMD_BUSY]
  | .RMX_CMDBUF => [RMX_CMDBUF_IMAGE]
  | .RMX_FNRES => [RMX_FNRES_COUNT, RMX_FNRES_BASE, RMX_FNRES_STATUS]
  | .RMX_FNSTAT => [RMX_FNSTAT_OPEN, RMX_FNSTAT_REVOKING]
  | .MTC_CTRL => [MTC_CTRL_EN, MTC_CTRL_HINT_POOL, MTC_CTRL_HINT_ORD, MTC_CTRL_EAGER]
  | .MTC_STAT => [MTC_STAT_POSTED, MTC_STAT_UNEXP, MTC_STAT_REORDER]
  | .MTC_MATCH => [MTC_MATCH_COUNT]
  | .MTC_UNEXP => [MTC_UNEXP_COUNT]
  | .MTC_ORDHOLD => [MTC_ORDHOLD_COUNT]
  | .MTC_ORDNACK => [MTC_ORDNACK_COUNT]
  | .MTC_POOLNACK => [MTC_POOLNACK_COUNT]
  | .MTC_NORES => [MTC_NORES_COUNT]
  | .MTC_ORDERR => [MTC_ORDERR_COUNT]
  | .MTC_STALEFIN => [MTC_STALEFIN_COUNT]
  | .MTC_PURGED => [MTC_PURGED_COUNT]
  | .MTC_FNCFG => [MTC_FNCFG_QUOTA, MTC_FNCFG_UXRQ, MTC_FNCFG_UX_EN, MTC_FNCFG_USED]
  | .MTC_FNRNDV => [MTC_FNRNDV_COUNT, MTC_FNRNDV_BASE, MTC_FNRNDV_STATUS]
  | .MTC_CMD => [MTC_CMD_OP, MTC_CMD_STATUS, MTC_CMD_BUSY]
  | .XLT_CTRL => [XLT_CTRL_EN, XLT_CTRL_RA_EN, XLT_CTRL_TWAIT, XLT_CTRL_HINT, XLT_CTRL_PRHINT]
  | .XLT_TIMERS => [XLT_TIMERS_PRTIME]
  | .XLT_STAT => [XLT_STAT_L2USED, XLT_STAT_SLOTS, XLT_STAT_LOCKED, XLT_STAT_BACKED]
  | .XLT_SEWIN => [XLT_SEWIN_EN, XLT_SEWIN_LOG2SIZE, XLT_SEWIN_BASE]
  | .XLT_LOAD => [XLT_LOAD_IMAGE]
  | .XLT_LOADCMD => [XLT_LOADCMD_OP, XLT_LOADCMD_STATUS]
  | .XLT_TRAPPEND => [XLT_TRAPPEND_PENDING]
  | .XLT_RESOLVE => [XLT_RESOLVE_ID, XLT_RESOLVE_ACTION, XLT_RESOLVE_HINT]
  | .XLT_L1FILL => [XLT_L1FILL_COUNT]
  | .XLT_TRAP => [XLT_TRAP_COUNT]
  | .XLT_MARKTRAP => [XLT_MARKTRAP_COUNT]
  | .XLT_TRAPFULL => [XLT_TRAPFULL_COUNT]
  | .XLT_STALERES => [XLT_STALERES_COUNT]
  | .XLT_WALKRD => [XLT_WALKRD_COUNT]
  | .XLT_WALKERR => [XLT_WALKERR_COUNT]
  | .XLT_PGREQ => [XLT_PGREQ_COUNT]
  | .XLT_RINGERR => [XLT_RINGERR_COUNT]
  | .XLT_SPACE => [XLT_SPACE_EN, XLT_SPACE_WALK_EN, XLT_SPACE_OWNER, XLT_SPACE_PREQ_EQ, XLT_SPACE_STATUS]
  | .XLT_SPACEROOT => [XLT_SPACEROOT_ROOT]
  | .XLT_CMD => [XLT_CMD_OP, XLT_CMD_STATUS, XLT_CMD_BUSY]
  | .XLT_CMDBUF => [XLT_CMDBUF_IMAGE]
  | .SAG_UID => [SAG_UID_UID]
  | .SAG_LC => [SAG_LC_STATE, SAG_LC_BUSY, SAG_LC_PRIMARY, SAG_LC_OPKEY]
  | .SAG_DBG => [SAG_DBG_LEVEL, SAG_DBG_MAX, SAG_DBG_SIGNER, SAG_DBG_LOWER]
  | .SAG_CHAL => [SAG_CHAL_CHALLENGE]
  | .SAG_WIPE => [SAG_WIPE_ACTIVE, SAG_WIPE_SCOPE, SAG_WIPE_PROGRESS, SAG_WIPE_LASTDUR]
  | .SAG_TOKBUF => [SAG_TOKBUF_IMAGE]
  | .SAG_TOKCMD => [SAG_TOKCMD_OP, SAG_TOKCMD_STATUS, SAG_TOKCMD_BUSY]
  | .SAG_PUBKEY => [SAG_PUBKEY_KEY]
  | .SAG_TOKFAIL => [SAG_TOKFAIL_COUNT]
  | .SAG_KEYINST => [SAG_KEYINST_COUNT]
  | .SAG_KEYERASE => [SAG_KEYERASE_COUNT]
  | .SAG_KEYMISS => [SAG_KEYMISS_COUNT]
  | .SAG_WIPES => [SAG_WIPES_COUNT]
  | .SAG_FNQUOTA => [SAG_FNQUOTA_QUOTA, SAG_FNQUOTA_USED]
  | .SAG_KEYCMD => [SAG_KEYCMD_OP, SAG_KEYCMD_SLOT, SAG_KEYCMD_STATUS, SAG_KEYCMD_BUSY]
  | .SAG_KEYBUF => [SAG_KEYBUF_KEY]
  | .SAG_KEYSLOT => [SAG_KEYSLOT_CTX, SAG_KEYSLOT_OWNER, SAG_KEYSLOT_STATE, SAG_KEYSLOT_LASTINC]
  | .CFG_IDENT => [CFG_IDENT_FORM, CFG_IDENT_STEPPING, CFG_IDENT_PARTNO]
  | .CFG_BOOTSTATUS => [CFG_BOOTSTATUS_PHASE, CFG_BOOTSTATUS_SLOT, CFG_BOOTSTATUS_TRIAL, CFG_BOOTSTATUS_BISQUE, CFG_BOOTSTATUS_FAIL_A, CFG_BOOTSTATUS_FAIL_B, CFG_BOOTSTATUS_FAIL_FACTORY]
  | .CFG_VERSION => [CFG_VERSION_SAGGAR, CFG_VERSION_ZORURI]
  | .CFG_CFGVER => [CFG_CFGVER_CONFIG, CFG_CFGVER_FABRIC]
  | .CFG_SLOTCMD => [CFG_SLOTCMD_OP, CFG_SLOTCMD_STATUS, CFG_SLOTCMD_BUSY]
  | .CFG_TRIAL => [CFG_TRIAL_REMAIN, CFG_TRIAL_TIMEOUT, CFG_TRIAL_AUTOCOMMIT]
  | .CFG_CTRL => [CFG_CTRL_REMOTE_EN, CFG_CTRL_FLASH_WE]
  | .CFG_ERG => [CFG_ERG_HELLO_INT, CFG_ERG_CLAIM_WAIT, CFG_ERG_SETTLE, CFG_ERG_LOST_WAIT]
  | .CFG_ERGSTAT => [CFG_ERGSTAT_NODE, CFG_ERGSTAT_VALID, CFG_ERGSTAT_TDIST, CFG_ERGSTAT_MEMBERS, CFG_ERGSTAT_LEADER, CFG_ERGSTAT_COORD]
  | .CFG_FLASHCMD => [CFG_FLASHCMD_OP, CFG_FLASHCMD_BUSY, CFG_FLASHCMD_STATUS, CFG_FLASHCMD_ADDR]
  | .CFG_FLASHBUF => [CFG_FLASHBUF_DATA]
  | .CFG_PEER => [CFG_PEER_NODE, CFG_PEER_NODE_VALID, CFG_PEER_PORT, CFG_PEER_SEEN, CFG_PEER_FABRIC]
  | .MGT_CTRL => [MGT_CTRL_CAR_EN, MGT_CTRL_OOB_EN, MGT_CTRL_FORCE_SLOW]
  | .MGT_CARSTAT => [MGT_CARSTAT_SEEDED, MGT_CARSTAT_RATE, MGT_CARSTAT_SLOWIN, MGT_CARSTAT_MASTER, MGT_CARSTAT_STATE, MGT_CARSTAT_POSITION, MGT_CARSTAT_COUNT]
  | .MGT_OOBCMD => [MGT_OOBCMD_ADDR, MGT_OOBCMD_OP, MGT_OOBCMD_BUSY, MGT_OOBCMD_STATUS]
  | .MGT_OOBTGT => [MGT_OOBTGT_TARGET, MGT_OOBTGT_PATH]
  | .MGT_OOBDATA => [MGT_OOBDATA_DATA]
  | .MGT_CARCRC => [MGT_CARCRC_COUNT]
  | .MGT_CARREFORM => [MGT_CARREFORM_COUNT]
  | .MGT_OOBIN => [MGT_OOBIN_COUNT]
  | .PWR_CTRL => [PWR_CTRL_VIN_WARN, PWR_CTRL_WARNLVL, PWR_CTRL_CONE_MAX, PWR_CTRL_RISE, PWR_CTRL_AVG]
  | .PWR_STAT => [PWR_STAT_VIN, PWR_STAT_PIN, PWR_STAT_CONE, PWR_STAT_LIMIT_SRC, PWR_STAT_WARN, PWR_STAT_CAPMISS, PWR_STAT_VSTBY_OK, PWR_STAT_LIMIT_OC, PWR_STAT_IIN]
  | .PWR_THERM => [PWR_THERM_TJ, PWR_THERM_THERMLVL, PWR_THERM_THROTTLE, PWR_THERM_HOTDIE]
  | .PWR_DOMSTAT => [PWR_DOMSTAT_REGION, PWR_DOMSTAT_DIE]
  | .PWR_TIMERS => [PWR_TIMERS_ENTRY]
  | .PWR_DOMCTL => [PWR_DOMCTL_OP, PWR_DOMCTL_SCOPE, PWR_DOMCTL_STATUS, PWR_DOMCTL_BUSY]
  | .PWR_WARNCNT => [PWR_WARNCNT_COUNT]
  | .PWR_THROTTLE => [PWR_THROTTLE_COUNT]
  | .PWR_CAPMISS => [PWR_CAPMISS_COUNT]
  | .PWR_STOPOK => [PWR_STOPOK_COUNT]
  | .PWR_STOPABORT => [PWR_STOPABORT_COUNT]
  | .PWR_WAKE => [PWR_WAKE_COUNT]
  | .CLK_CTRL => [CLK_CTRL_HOLDOVER]
  | .CLK_STAT => [CLK_STAT_REF_OK, CLK_STAT_PLL_LOCK, CLK_STAT_HOLDOVER, CLK_STAT_RUNNING]
  | .CLK_REFLOSS => [CLK_REFLOSS_COUNT]
  | .FLT_CTRL => [FLT_CTRL_IRQ_EN, FLT_CTRL_STORE_RUNG, FLT_CTRL_FN_RUNG, FLT_CTRL_VEC, FLT_CTRL_REPEAT]
  | .FLT_STAT => [FLT_STAT_OPEN, FLT_STAT_ACTING, FLT_STAT_OVERFLOW, FLT_STAT_ISOLATED]
  | .FLT_ACK => [FLT_ACK_ID, FLT_ACK_ACTION, FLT_ACK_STATUS]
  | .FLT_FAULTN => [FLT_FAULTN_FORCE, FLT_FAULTN_RELEASE, FLT_FAULTN_LATCH, FLT_FAULTN_ISOLATE, FLT_FAULTN_SHUTDOWN, FLT_FAULTN_PIN]
  | .FLT_ACCERR => [FLT_ACCERR_ADDR, FLT_ACCERR_COUNT, FLT_ACCERR_REASON, FLT_ACCERR_PATH, FLT_ACCERR_VALID]
  | .FLT_STORECMD => [FLT_STORECMD_ERASE, FLT_STORECMD_BUSY, FLT_STORECMD_STATUS]
  | .FLT_STORESTAT => [FLT_STORESTAT_VALID, FLT_STORESTAT_NEXT, FLT_STORESTAT_DROPPED]
  | .FLT_RAISED => [FLT_RAISED_COUNT]
  | .FLT_MERGED => [FLT_MERGED_COUNT]
  | .FLT_ACTIONS => [FLT_ACTIONS_COUNT]
  | .FLT_NOSLOT => [FLT_NOSLOT_COUNT]
  | .FLT_SRCCFG => [FLT_SRCCFG_START, FLT_SRCCFG_CEILING, FLT_SRCCFG_MAXCEIL, FLT_SRCCFG_FAULTN, FLT_SRCCFG_WINDOW, FLT_SRCCFG_ESC]
  | .KLN_CTRL => [KLN_CTRL_EN, KLN_CTRL_BOOT_BANK, KLN_CTRL_BOOT_SRAM]
  | .KLN_CMD => [KLN_CMD_TEST, KLN_CMD_TARGET, KLN_CMD_PARAM, KLN_CMD_GO]
  | .KLN_RESULT => [KLN_RESULT_FIRST, KLN_RESULT_FAILS, KLN_RESULT_STATE, KLN_RESULT_STATUS]
  | .KLN_BOOT => [KLN_BOOT_BRGH, KLN_BOOT_BRGV, KLN_BOOT_LANESFAILED, KLN_BOOT_PASSED]
  | .KLN_RUNS => [KLN_RUNS_COUNT]
  | .KLN_FAILS => [KLN_FAILS_COUNT]
  | .KLN_REFUSED => [KLN_REFUSED_COUNT]
  | .PMC_SEL => [PMC_SEL_EVENT, PMC_SEL_BLOCK, PMC_SEL_INSTANCE, PMC_SEL_FILTER, PMC_SEL_OVF_SNAP, PMC_SEL_CHAIN, PMC_SEL_EN, PMC_SEL_STATUS]
  | .PMC_CNT => [PMC_CNT_VALUE]
  | .PMC_OVF => [PMC_OVF_WRAPPED]
  | .PMC_CHAINHI => [PMC_CHAINHI_VALUE]
  | .PMC_SLOT => [PMC_SLOT_SLOTS]
  | .PMC_RINGCTL => [PMC_RINGCTL_EN, PMC_RINGCTL_PATH, PMC_RINGCTL_LOG2SIZE, PMC_RINGCTL_SLOTS, PMC_RINGCTL_OVF_IRQ, PMC_RINGCTL_SNAP_IRQ, PMC_RINGCTL_VEC, PMC_RINGCTL_XSPACE, PMC_RINGCTL_STATUS]
  | .PMC_RINGBASE => [PMC_RINGBASE_BASE]
  | .PMC_TRIG => [PMC_TRIG_PERIOD, PMC_TRIG_GO]
  | .PMC_RINGPI => [PMC_RINGPI_PI]
  | .PMC_RINGCI => [PMC_RINGCI_CI]
  | .PMC_SNAPS => [PMC_SNAPS_COUNT]
  | .PMC_SNAPDROP => [PMC_SNAPDROP_COUNT]
  | .PMC_SNAPMISS => [PMC_SNAPMISS_COUNT]
  | .PMC_SNAPERR => [PMC_SNAPERR_COUNT]
  | .TIM_NOW => [TIM_NOW_NOW]
  | .TIM_STAT => [TIM_STAT_SRCPORT, TIM_STAT_SRCVALID, TIM_STAT_HOLD, TIM_STAT_LASTCORR]
  | .TIM_CORRCNT => [TIM_CORRCNT_COUNT]

/-- The place of each register (the offset line before each register table; Table 19-5). -/
def Reg.place : Reg → Place
  | .LAN_CTRL => ⟨0x01, 0x0, 0x100, 128, 0x0, 1, .lane, .saved⟩
  | .LAN_TXEQ => ⟨0x01, 0x8, 0x100, 128, 0x0, 1, .lane, .saved⟩
  | .LAN_RXEQ => ⟨0x01, 0x10, 0x100, 128, 0x0, 1, .lane, .saved⟩
  | .LAN_RXSTAT => ⟨0x01, 0x18, 0x100, 128, 0x0, 1, .lane, .notSaved⟩
  | .LAN_IDLE => ⟨0x01, 0x20, 0x100, 128, 0x0, 1, .lane, .saved⟩
  | .LAN_LPBK => ⟨0x01, 0x28, 0x100, 128, 0x0, 1, .lane, .notSaved⟩
  | .LAN_PATCTL => ⟨0x01, 0x30, 0x100, 128, 0x0, 1, .lane, .notSaved⟩
  | .LAN_PATERR => ⟨0x01, 0x38, 0x100, 128, 0x0, 1, .lane, .notSaved⟩
  | .LAN_ESCTL => ⟨0x01, 0x40, 0x100, 128, 0x0, 1, .lane, .notSaved⟩
  | .LAN_ESSAMP => ⟨0x01, 0x48, 0x100, 128, 0x0, 1, .lane, .notSaved⟩
  | .LAN_ESERR => ⟨0x01, 0x50, 0x100, 128, 0x0, 1, .lane, .notSaved⟩
  | .LAN_FECSTAT => ⟨0x01, 0x58, 0x100, 128, 0x0, 1, .lane, .notSaved⟩
  | .LAN_CLMAP => ⟨0x01, 0x10000, 0x8, 16, 0x0, 1, .cluster, .saved⟩
  | .LNK_CTRL => ⟨0x02, 0x0, 0x100, 128, 0x0, 1, .port, .saved⟩
  | .LNK_TIMERS => ⟨0x02, 0x8, 0x100, 128, 0x0, 1, .port, .saved⟩
  | .LNK_TIMERS2 => ⟨0x02, 0x10, 0x100, 128, 0x0, 1, .port, .saved⟩
  | .LNK_AUDIT => ⟨0x02, 0x18, 0x100, 128, 0x0, 1, .port, .saved⟩
  | .LNK_CMD => ⟨0x02, 0x20, 0x100, 128, 0x0, 1, .port, .notSaved⟩
  | .LNK_STAT => ⟨0x02, 0x28, 0x100, 128, 0x0, 1, .port, .notSaved⟩
  | .LNK_INC => ⟨0x02, 0x30, 0x100, 128, 0x0, 1, .port, .notSaved⟩
  | .LNK_CRCERR => ⟨0x02, 0x38, 0x100, 128, 0x0, 1, .port, .notSaved⟩
  | .LNK_REPLAY => ⟨0x02, 0x40, 0x100, 128, 0x0, 1, .port, .notSaved⟩
  | .LNK_RETRAIN => ⟨0x02, 0x48, 0x100, 128, 0x0, 1, .port, .notSaved⟩
  | .LNK_HELDDROP => ⟨0x02, 0x50, 0x100, 128, 0x0, 1, .port, .notSaved⟩
  | .LNK_AUDITERR => ⟨0x02, 0x58, 0x100, 128, 0x0, 1, .port, .notSaved⟩
  | .LNK_PROTOERR => ⟨0x02, 0x60, 0x100, 128, 0x0, 1, .port, .notSaved⟩
  | .LNK_ACKERR => ⟨0x02, 0x68, 0x100, 128, 0x0, 1, .port, .notSaved⟩
  | .LNK_CREDIT => ⟨0x02, 0x10000, 0x100, 128, 0x8, 18, .port, .notSaved⟩
  | .PRT_DEAD => ⟨0x03, 0x0, 0x100, 128, 0x0, 1, .port, .saved⟩
  | .PRT_RELEASE => ⟨0x03, 0x8, 0x100, 128, 0x0, 1, .port, .notSaved⟩
  | .PRT_STAT => ⟨0x03, 0x10, 0x100, 128, 0x0, 1, .port, .notSaved⟩
  | .RTE_CTRL => ⟨0x04, 0x0, 0x0, 1, 0x0, 1, .die, .saved⟩
  | .RTE_EPOCH => ⟨0x04, 0x8, 0x0, 1, 0x0, 1, .die, .notSaved⟩
  | .RTE_EPCNT => ⟨0x04, 0x10, 0x8, 2, 0x0, 1, .die, .kept⟩
  | .RTE_TBLERR => ⟨0x04, 0x20, 0x0, 1, 0x0, 1, .die, .notSaved⟩
  | .RTE_DUNE => ⟨0x04, 0x28, 0x0, 1, 0x0, 1, .die, .saved⟩
  | .RTE_NONMIN => ⟨0x04, 0x30, 0x0, 1, 0x0, 1, .die, .notSaved⟩
  | .RTE_REROUTE => ⟨0x04, 0x38, 0x0, 1, 0x0, 1, .die, .notSaved⟩
  | .RTE_DUNEUNK => ⟨0x04, 0x40, 0x0, 1, 0x0, 1, .die, .notSaved⟩
  | .RTE_LIVEREJ => ⟨0x04, 0x48, 0x0, 1, 0x0, 1, .die, .notSaved⟩
  | .RTE_EPCTL => ⟨0x04, 0x58, 0x0, 1, 0x0, 1, .die, .saved⟩
  | .RTE_DMEMB => ⟨0x04, 0x1000, 0x8, 64, 0x0, 1, .die, .saved⟩
  | .RTE_PCLASS => ⟨0x04, 0x2000, 0x8, 128, 0x0, 1, .port, .saved⟩
  | .FWD_CTRL => ⟨0x05, 0x0, 0x0, 1, 0x0, 1, .die, .saved⟩
  | .FWD_AUDIT => ⟨0x05, 0x8, 0x0, 1, 0x0, 1, .die, .saved⟩
  | .FWD_VCW => ⟨0x05, 0x10, 0x0, 1, 0x0, 1, .die, .saved⟩
  | .FWD_INJ => ⟨0x05, 0x18, 0x0, 1, 0x0, 1, .die, .saved⟩
  | .FWD_PART => ⟨0x05, 0x20, 0x0, 1, 0x0, 1, .die, .notSaved⟩
  | .FWD_DROP => ⟨0x05, 0x100, 0x8, 14, 0x0, 1, .die, .notSaved⟩
  | .FWD_STOMP => ⟨0x05, 0x170, 0x0, 1, 0x0, 1, .die, .notSaved⟩
  | .FWD_MARKED => ⟨0x05, 0x178, 0x0, 1, 0x0, 1, .die, .notSaved⟩
  | .FWD_INJWAIT => ⟨0x05, 0x180, 0x0, 1, 0x0, 1, .die, .notSaved⟩
  | .FWD_SHARE => ⟨0x05, 0x1000, 0x8, 128, 0x0, 1, .lane, .saved⟩
  | .FWD_OCC => ⟨0x05, 0x2000, 0x8, 128, 0x0, 1, .port, .notSaved⟩
  | .SCH_PORTCFG => ⟨0x06, 0x0, 0x100, 128, 0x0, 1, .port, .saved⟩
  | .SCH_TCCFG => ⟨0x06, 0x8, 0x100, 128, 0x0, 1, .port, .saved⟩
  | .SCH_SHAPE => ⟨0x06, 0x40, 0x100, 128, 0x8, 16, .port, .saved⟩
  | .SCH_GATECTL => ⟨0x06, 0xC0, 0x100, 128, 0x0, 1, .port, .saved⟩
  | .SCH_GATESTART => ⟨0x06, 0xC8, 0x100, 128, 0x0, 1, .port, .saved⟩
  | .SCH_GATESTAT => ⟨0x06, 0xD0, 0x100, 128, 0x0, 1, .port, .notSaved⟩
  | .MCG_CTRL => ⟨0x07, 0x0, 0x0, 1, 0x0, 1, .die, .saved⟩
  | .MCG_GCMD => ⟨0x07, 0x8, 0x0, 1, 0x0, 1, .die, .notSaved⟩
  | .MCG_TBLERR => ⟨0x07, 0x10, 0x0, 1, 0x0, 1, .die, .notSaved⟩
  | .MCG_FENCECMD => ⟨0x07, 0x18, 0x0, 1, 0x0, 1, .die, .notSaved⟩
  | .MCG_FENCECNT => ⟨0x07, 0x20, 0x0, 1, 0x0, 1, .die, .notSaved⟩
  | .MCG_REPL => ⟨0x07, 0x100, 0x0, 1, 0x0, 1, .die, .notSaved⟩
  | .MCG_FENCESKIP => ⟨0x07, 0x108, 0x0, 1, 0x0, 1, .die, .notSaved⟩
  | .MCG_CACHEMISS => ⟨0x07, 0x110, 0x0, 1, 0x0, 1, .die, .notSaved⟩
  | .MCG_LIVEWR => ⟨0x07, 0x118, 0x0, 1, 0x0, 1, .die, .notSaved⟩
  | .MCG_NOSPACE => ⟨0x07, 0x120, 0x0, 1, 0x0, 1, .die, .notSaved⟩
  | .MCG_NOPORT => ⟨0x07, 0x128, 0x0, 1, 0x0, 1, .die, .notSaved⟩
  | .MCG_GVALID => ⟨0x07, 0x1800000, 0x8, 1024, 0x0, 1, .die, .notSaved⟩
  | .CLV_CTRL => ⟨0x08, 0x0, 0x0, 1, 0x0, 1, .die, .saved⟩
  | .CLV_TIMERS => ⟨0x08, 0x8, 0x0, 1, 0x0, 1, .die, .saved⟩
  | .CLV_BUF => ⟨0x08, 0x10, 0x0, 1, 0x0, 1, .die, .notSaved⟩
  | .CLV_DROPAUTH => ⟨0x08, 0x100, 0x0, 1, 0x0, 1, .die, .notSaved⟩
  | .CLV_CHUNKS => ⟨0x08, 0x108, 0x0, 1, 0x0, 1, .die, .notSaved⟩
  | .CLV_INCOMPLETE => ⟨0x08, 0x110, 0x0, 1, 0x0, 1, .die, .notSaved⟩
  | .CLV_PARTIAL => ⟨0x08, 0x118, 0x0, 1, 0x0, 1, .die, .notSaved⟩
  | .CLV_MISMATCH => ⟨0x08, 0x120, 0x0, 1, 0x0, 1, .die, .notSaved⟩
  | .CLV_LATE => ⟨0x08, 0x128, 0x0, 1, 0x0, 1, .die, .notSaved⟩
  | .CLV_WIDE => ⟨0x08, 0x130, 0x0, 1, 0x0, 1, .die, .notSaved⟩
  | .CLV_OVF => ⟨0x08, 0x138, 0x0, 1, 0x0, 1, .die, .notSaved⟩
  | .BRG_STAT => ⟨0x09, 0x0, 0x100, 2, 0x0, 1, .die, .notSaved⟩
  | .BRG_SPARE => ⟨0x09, 0x8, 0x100, 2, 0x0, 1, .die, .notSaved⟩
  | .BRG_RETRY => ⟨0x09, 0x10, 0x100, 2, 0x0, 1, .die, .notSaved⟩
  | .BRG_CHECKERR => ⟨0x09, 0x18, 0x100, 2, 0x0, 1, .die, .notSaved⟩
  | .NOC_MODECTL => ⟨0x0A, 0x0, 0x0, 1, 0x0, 1, .die, .notSaved⟩
  | .NOC_STAT => ⟨0x0A, 0x8, 0x0, 1, 0x0, 1, .die, .notSaved⟩
  | .NOC_MSG => ⟨0x0A, 0x100, 0x0, 1, 0x0, 1, .die, .notSaved⟩
  | .NOC_REGWAIT => ⟨0x0A, 0x108, 0x0, 1, 0x0, 1, .die, .notSaved⟩
  | .NOC_ECCCORR => ⟨0x0A, 0x110, 0x0, 1, 0x0, 1, .die, .notSaved⟩
  | .NOC_ECCUNC => ⟨0x0A, 0x118, 0x0, 1, 0x0, 1, .die, .notSaved⟩
  | .NOC_GWERR => ⟨0x0A, 0x120, 0x0, 1, 0x0, 1, .die, .notSaved⟩
  | .NOC_MODESW => ⟨0x0A, 0x128, 0x0, 1, 0x0, 1, .die, .notSaved⟩
  | .NOC_REG => ⟨0x0A, 0x1000, 0x20, 25, 0x8, 4, .die, .saved⟩
  | .QDC_STAT => ⟨0x0B, 0x0, 0x100, 2, 0x0, 1, .die, .notSaved⟩
  | .QDC_ECCCORR => ⟨0x0B, 0x8, 0x100, 2, 0x0, 1, .die, .notSaved⟩
  | .QDC_ECCUNC => ⟨0x0B, 0x10, 0x100, 2, 0x0, 1, .die, .notSaved⟩
  | .HST_CTRL => ⟨0x10, 0x0, 0x0, 1, 0x0, 1, .die, .saved⟩
  | .HST_STAT => ⟨0x10, 0x8, 0x0, 1, 0x0, 1, .die, .notSaved⟩
  | .HST_DBERR => ⟨0x10, 0x100, 0x0, 1, 0x0, 1, .die, .notSaved⟩
  | .HST_DBIGN => ⟨0x10, 0x108, 0x0, 1, 0x0, 1, .die, .notSaved⟩
  | .HST_RDERR => ⟨0x10, 0x110, 0x0, 1, 0x0, 1, .die, .notSaved⟩
  | .HST_FLR => ⟨0x10, 0x118, 0x0, 1, 0x0, 1, .die, .notSaved⟩
  | .HST_BIND => ⟨0x10, 0x1000, 0x8, 64, 0x0, 1, .die, .saved⟩
  | .HST_FNQ => ⟨0x10, 0x10000, 0x20, 256, 0x8, 4, .die, .saved⟩
  | .QUE_CMD => ⟨0x11, 0x0, 0x100, 256, 0x0, 1, .die, .notSaved⟩
  | .QUE_CMDBUF => ⟨0x11, 0x8, 0x100, 256, 0x8, 8, .die, .notSaved⟩
  | .QUE_TIMERS => ⟨0x11, 0x100000, 0x0, 1, 0x0, 1, .die, .saved⟩
  | .QUE_DESC => ⟨0x11, 0x100100, 0x0, 1, 0x0, 1, .die, .notSaved⟩
  | .QUE_CQHELD => ⟨0x11, 0x100108, 0x0, 1, 0x0, 1, .die, .notSaved⟩
  | .QUE_CQREFUSE => ⟨0x11, 0x100110, 0x0, 1, 0x0, 1, .die, .notSaved⟩
  | .QUE_NRNACK => ⟨0x11, 0x100118, 0x0, 1, 0x0, 1, .die, .notSaved⟩
  | .QUE_FLUSHED => ⟨0x11, 0x100120, 0x0, 1, 0x0, 1, .die, .notSaved⟩
  | .QUE_EQHOLD => ⟨0x11, 0x100128, 0x0, 1, 0x0, 1, .die, .notSaved⟩
  | .QUE_KEYRIGHTS => ⟨0x11, 0x2000000, 0x8, 65536, 0x0, 1, .die, .notSaved⟩
  | .RMX_CTRL => ⟨0x12, 0x0, 0x0, 1, 0x0, 1, .die, .saved⟩
  | .RMX_STAT => ⟨0x12, 0x8, 0x0, 1, 0x0, 1, .die, .notSaved⟩
  | .RMX_PROFRATE => ⟨0x12, 0x40, 0x10, 4, 0x0, 1, .die, .saved⟩
  | .RMX_PROFCTL => ⟨0x12, 0x48, 0x10, 4, 0x0, 1, .die, .saved⟩
  | .RMX_CTRAPPLIED => ⟨0x12, 0x80, 0x0, 1, 0x0, 1, .die, .dieOnly⟩
  | .RMX_CTRPLACED => ⟨0x12, 0x88, 0x0, 1, 0x0, 1, .die, .dieOnly⟩
  | .RMX_DROPCONN => ⟨0x12, 0x100, 0x0, 1, 0x0, 1, .die, .notSaved⟩
  | .RMX_DROPAUTH => ⟨0x12, 0x108, 0x0, 1, 0x0, 1, .die, .notSaved⟩
  | .RMX_RETRY => ⟨0x12, 0x110, 0x0, 1, 0x0, 1, .die, .notSaved⟩
  | .RMX_TIMEOUT => ⟨0x12, 0x118, 0x0, 1, 0x0, 1, .die, .notSaved⟩
  | .RMX_NACKTX => ⟨0x12, 0x120, 0x0, 1, 0x0, 1, .die, .notSaved⟩
  | .RMX_NACKRX => ⟨0x12, 0x128, 0x0, 1, 0x0, 1, .die, .notSaved⟩
  | .RMX_DUP => ⟨0x12, 0x130, 0x0, 1, 0x0, 1, .die, .notSaved⟩
  | .RMX_STALERSP => ⟨0x12, 0x138, 0x0, 1, 0x0, 1, .die, .notSaved⟩
  | .RMX_CUT => ⟨0x12, 0x140, 0x0, 1, 0x0, 1, .die, .notSaved⟩
  | .RMX_TRIGFIRE => ⟨0x12, 0x148, 0x0, 1, 0x0, 1, .die, .notSaved⟩
  | .RMX_CONNERR => ⟨0x12, 0x150, 0x0, 1, 0x0, 1, .die, .notSaved⟩
  | .RMX_CMD => ⟨0x12, 0x10000, 0x100, 256, 0x0, 1, .die, .notSaved⟩
  | .RMX_CMDBUF => ⟨0x12, 0x10008, 0x100, 256, 0x8, 4, .die, .notSaved⟩
  | .RMX_FNRES => ⟨0x12, 0x20000, 0x20, 256, 0x8, 3, .die, .saved⟩
  | .RMX_FNSTAT => ⟨0x12, 0x30000, 0x8, 256, 0x0, 1, .die, .notSaved⟩
  | .MTC_CTRL => ⟨0x13, 0x0, 0x0, 1, 0x0, 1, .die, .saved⟩
  | .MTC_STAT => ⟨0x13, 0x8, 0x0, 1, 0x0, 1, .die, .notSaved⟩
  | .MTC_MATCH => ⟨0x13, 0x100, 0x0, 1, 0x0, 1, .die, .notSaved⟩
  | .MTC_UNEXP => ⟨0x13, 0x108, 0x0, 1, 0x0, 1, .die, .notSaved⟩
  | .MTC_ORDHOLD => ⟨0x13, 0x110, 0x0, 1, 0x0, 1, .die, .notSaved⟩
  | .MTC_ORDNACK => ⟨0x13, 0x118, 0x0, 1, 0x0, 1, .die, .notSaved⟩
  | .MTC_POOLNACK => ⟨0x13, 0x120, 0x0, 1, 0x0, 1, .die, .notSaved⟩
  | .MTC_NORES => ⟨0x13, 0x128, 0x0, 1, 0x0, 1, .die, .notSaved⟩
  | .MTC_ORDERR => ⟨0x13, 0x130, 0x0, 1, 0x0, 1, .die, .notSaved⟩
  | .MTC_STALEFIN => ⟨0x13, 0x138, 0x0, 1, 0x0, 1, .die, .notSaved⟩
  | .MTC_PURGED => ⟨0x13, 0x140, 0x0, 1, 0x0, 1, .die, .notSaved⟩
  | .MTC_FNCFG => ⟨0x13, 0x10000, 0x8, 256, 0x0, 1, .die, .saved⟩
  | .MTC_FNRNDV => ⟨0x13, 0x20000, 0x8, 256, 0x0, 1, .die, .saved⟩
  | .MTC_CMD => ⟨0x13, 0x30000, 0x8, 256, 0x0, 1, .die, .notSaved⟩
  | .XLT_CTRL => ⟨0x14, 0x0, 0x0, 1, 0x0, 1, .die, .saved⟩
  | .XLT_TIMERS => ⟨0x14, 0x8, 0x0, 1, 0x0, 1, .die, .saved⟩
  | .XLT_STAT => ⟨0x14, 0x10, 0x0, 1, 0x0, 1, .die, .notSaved⟩
  | .XLT_SEWIN => ⟨0x14, 0x100, 0x8, 16, 0x0, 1, .die, .saved⟩
  | .XLT_LOAD => ⟨0x14, 0x200, 0x8, 4, 0x0, 1, .die, .notSaved⟩
  | .XLT_LOADCMD => ⟨0x14, 0x220, 0x0, 1, 0x0, 1, .die, .notSaved⟩
  | .XLT_TRAPPEND => ⟨0x14, 0x300, 0x8, 4, 0x0, 1, .die, .notSaved⟩
  | .XLT_RESOLVE => ⟨0x14, 0x320, 0x0, 1, 0x0, 1, .die, .notSaved⟩
  | .XLT_L1FILL => ⟨0x14, 0x400, 0x0, 1, 0x0, 1, .die, .notSaved⟩
  | .XLT_TRAP => ⟨0x14, 0x408, 0x0, 1, 0x0, 1, .die, .notSaved⟩
  | .XLT_MARKTRAP => ⟨0x14, 0x410, 0x0, 1, 0x0, 1, .die, .notSaved⟩
  | .XLT_TRAPFULL => ⟨0x14, 0x418, 0x0, 1, 0x0, 1, .die, .notSaved⟩
  | .XLT_STALERES => ⟨0x14, 0x420, 0x0, 1, 0x0, 1, .die, .notSaved⟩
  | .XLT_WALKRD => ⟨0x14, 0x428, 0x0, 1, 0x0, 1, .die, .notSaved⟩
  | .XLT_WALKERR => ⟨0x14, 0x430, 0x0, 1, 0x0, 1, .die, .notSaved⟩
  | .XLT_PGREQ => ⟨0x14, 0x438, 0x0, 1, 0x0, 1, .die, .notSaved⟩
  | .XLT_RINGERR => ⟨0x14, 0x440, 0x0, 1, 0x0, 1, .die, .notSaved⟩
  | .XLT_SPACE => ⟨0x14, 0x10000, 0x10, 4096, 0x0, 1, .die, .saved⟩
  | .XLT_SPACEROOT => ⟨0x14, 0x10008, 0x10, 4096, 0x0, 1, .die, .saved⟩
  | .XLT_CMD => ⟨0x14, 0x40000, 0x100, 256, 0x0, 1, .die, .notSaved⟩
  | .XLT_CMDBUF => ⟨0x14, 0x40008, 0x100, 256, 0x8, 4, .die, .notSaved⟩
  | .SAG_UID => ⟨0x20, 0x0, 0x0, 1, 0x0, 1, .die, .notSaved⟩
  | .SAG_LC => ⟨0x20, 0x8, 0x0, 1, 0x0, 1, .die, .notSaved⟩
  | .SAG_DBG => ⟨0x20, 0x10, 0x0, 1, 0x0, 1, .die, .notSaved⟩
  | .SAG_CHAL => ⟨0x20, 0x18, 0x0, 1, 0x0, 1, .die, .notSaved⟩
  | .SAG_WIPE => ⟨0x20, 0x20, 0x0, 1, 0x0, 1, .die, .notSaved⟩
  | .SAG_TOKBUF => ⟨0x20, 0x100, 0x8, 16, 0x0, 1, .die, .notSaved⟩
  | .SAG_TOKCMD => ⟨0x20, 0x180, 0x0, 1, 0x0, 1, .die, .notSaved⟩
  | .SAG_PUBKEY => ⟨0x20, 0x200, 0x8, 12, 0x0, 1, .die, .notSaved⟩
  | .SAG_TOKFAIL => ⟨0x20, 0x300, 0x0, 1, 0x0, 1, .die, .notSaved⟩
  | .SAG_KEYINST => ⟨0x20, 0x308, 0x0, 1, 0x0, 1, .die, .notSaved⟩
  | .SAG_KEYERASE => ⟨0x20, 0x310, 0x0, 1, 0x0, 1, .die, .notSaved⟩
  | .SAG_KEYMISS => ⟨0x20, 0x318, 0x0, 1, 0x0, 1, .die, .notSaved⟩
  | .SAG_WIPES => ⟨0x20, 0x320, 0x0, 1, 0x0, 1, .die, .notSaved⟩
  | .SAG_FNQUOTA => ⟨0x20, 0x8000, 0x8, 257, 0x0, 1, .die, .saved⟩
  | .SAG_KEYCMD => ⟨0x20, 0x10000, 0x100, 257, 0x0, 1, .die, .notSaved⟩
  | .SAG_KEYBUF => ⟨0x20, 0x10008, 0x100, 257, 0x8, 4, .die, .notSaved⟩
  | .SAG_KEYSLOT => ⟨0x20, 0x1000000, 0x8, 65536, 0x0, 1, .die, .notSaved⟩
  | .CFG_IDENT => ⟨0x21, 0x0, 0x0, 1, 0x0, 1, .module, .notSaved⟩
  | .CFG_BOOTSTATUS => ⟨0x21, 0x8, 0x0, 1, 0x0, 1, .module, .notSaved⟩
  | .CFG_VERSION => ⟨0x21, 0x10, 0x0, 1, 0x0, 1, .module, .notSaved⟩
  | .CFG_CFGVER => ⟨0x21, 0x18, 0x0, 1, 0x0, 1, .module, .notSaved⟩
  | .CFG_SLOTCMD => ⟨0x21, 0x20, 0x0, 1, 0x0, 1, .module, .notSaved⟩
  | .CFG_TRIAL => ⟨0x21, 0x28, 0x0, 1, 0x0, 1, .module, .notSaved⟩
  | .CFG_CTRL => ⟨0x21, 0x30, 0x0, 1, 0x0, 1, .module, .saved⟩
  | .CFG_ERG => ⟨0x21, 0x38, 0x0, 1, 0x0, 1, .module, .saved⟩
  | .CFG_ERGSTAT => ⟨0x21, 0x40, 0x0, 1, 0x0, 1, .module, .notSaved⟩
  | .CFG_FLASHCMD => ⟨0x21, 0x100, 0x0, 1, 0x0, 1, .module, .notSaved⟩
  | .CFG_FLASHBUF => ⟨0x21, 0x200, 0x8, 32, 0x0, 1, .module, .notSaved⟩
  | .CFG_PEER => ⟨0x21, 0x1000, 0x8, 512, 0x0, 1, .module, .notSaved⟩
  | .MGT_CTRL => ⟨0x22, 0x0, 0x0, 1, 0x0, 1, .module, .saved⟩
  | .MGT_CARSTAT => ⟨0x22, 0x8, 0x0, 1, 0x0, 1, .module, .notSaved⟩
  | .MGT_OOBCMD => ⟨0x22, 0x10, 0x0, 1, 0x0, 1, .module, .notSaved⟩
  | .MGT_OOBTGT => ⟨0x22, 0x18, 0x0, 1, 0x0, 1, .module, .notSaved⟩
  | .MGT_OOBDATA => ⟨0x22, 0x20, 0x0, 1, 0x0, 1, .module, .notSaved⟩
  | .MGT_CARCRC => ⟨0x22, 0x100, 0x0, 1, 0x0, 1, .module, .notSaved⟩
  | .MGT_CARREFORM => ⟨0x22, 0x108, 0x0, 1, 0x0, 1, .module, .notSaved⟩
  | .MGT_OOBIN => ⟨0x22, 0x110, 0x0, 1, 0x0, 1, .module, .notSaved⟩
  | .PWR_CTRL => ⟨0x23, 0x0, 0x0, 1, 0x0, 1, .module, .saved⟩
  | .PWR_STAT => ⟨0x23, 0x8, 0x0, 1, 0x0, 1, .module, .notSaved⟩
  | .PWR_THERM => ⟨0x23, 0x10, 0x0, 1, 0x0, 1, .module, .notSaved⟩
  | .PWR_DOMSTAT => ⟨0x23, 0x18, 0x0, 1, 0x0, 1, .module, .notSaved⟩
  | .PWR_TIMERS => ⟨0x23, 0x20, 0x0, 1, 0x0, 1, .module, .saved⟩
  | .PWR_DOMCTL => ⟨0x23, 0x100, 0x0, 1, 0x0, 1, .die, .notSaved⟩
  | .PWR_WARNCNT => ⟨0x23, 0x200, 0x0, 1, 0x0, 1, .module, .notSaved⟩
  | .PWR_THROTTLE => ⟨0x23, 0x208, 0x0, 1, 0x0, 1, .module, .notSaved⟩
  | .PWR_CAPMISS => ⟨0x23, 0x210, 0x0, 1, 0x0, 1, .module, .notSaved⟩
  | .PWR_STOPOK => ⟨0x23, 0x218, 0x0, 1, 0x0, 1, .module, .notSaved⟩
  | .PWR_STOPABORT => ⟨0x23, 0x220, 0x0, 1, 0x0, 1, .module, .notSaved⟩
  | .PWR_WAKE => ⟨0x23, 0x228, 0x0, 1, 0x0, 1, .module, .notSaved⟩
  | .CLK_CTRL => ⟨0x24, 0x0, 0x0, 1, 0x0, 1, .module, .saved⟩
  | .CLK_STAT => ⟨0x24, 0x8, 0x0, 1, 0x0, 1, .die, .notSaved⟩
  | .CLK_REFLOSS => ⟨0x24, 0x100, 0x0, 1, 0x0, 1, .module, .notSaved⟩
  | .FLT_CTRL => ⟨0x25, 0x0, 0x0, 1, 0x0, 1, .module, .saved⟩
  | .FLT_STAT => ⟨0x25, 0x8, 0x0, 1, 0x0, 1, .module, .notSaved⟩
  | .FLT_ACK => ⟨0x25, 0x10, 0x0, 1, 0x0, 1, .module, .notSaved⟩
  | .FLT_FAULTN => ⟨0x25, 0x18, 0x0, 1, 0x0, 1, .module, .notSaved⟩
  | .FLT_ACCERR => ⟨0x25, 0x20, 0x0, 1, 0x0, 1, .module, .notSaved⟩
  | .FLT_STORECMD => ⟨0x25, 0x28, 0x0, 1, 0x0, 1, .module, .notSaved⟩
  | .FLT_STORESTAT => ⟨0x25, 0x30, 0x0, 1, 0x0, 1, .module, .notSaved⟩
  | .FLT_RAISED => ⟨0x25, 0x100, 0x0, 1, 0x0, 1, .module, .notSaved⟩
  | .FLT_MERGED => ⟨0x25, 0x108, 0x0, 1, 0x0, 1, .module, .notSaved⟩
  | .FLT_ACTIONS => ⟨0x25, 0x110, 0x0, 1, 0x0, 1, .module, .notSaved⟩
  | .FLT_NOSLOT => ⟨0x25, 0x118, 0x0, 1, 0x0, 1, .module, .notSaved⟩
  | .FLT_SRCCFG => ⟨0x25, 0x10000, 0x80, 32, 0x8, 16, .module, .saved⟩
  | .KLN_CTRL => ⟨0x26, 0x0, 0x0, 1, 0x0, 1, .die, .saved⟩
  | .KLN_CMD => ⟨0x26, 0x8, 0x0, 1, 0x0, 1, .die, .notSaved⟩
  | .KLN_RESULT => ⟨0x26, 0x10, 0x0, 1, 0x0, 1, .die, .notSaved⟩
  | .KLN_BOOT => ⟨0x26, 0x18, 0x0, 1, 0x0, 1, .die, .notSaved⟩
  | .KLN_RUNS => ⟨0x26, 0x100, 0x0, 1, 0x0, 1, .die, .notSaved⟩
  | .KLN_FAILS => ⟨0x26, 0x108, 0x0, 1, 0x0, 1, .die, .notSaved⟩
  | .KLN_REFUSED => ⟨0x26, 0x110, 0x0, 1, 0x0, 1, .die, .notSaved⟩
  | .PMC_SEL => ⟨0x27, 0x0, 0x10, 256, 0x0, 1, .die, .saved⟩
  | .PMC_CNT => ⟨0x27, 0x8, 0x10, 256, 0x0, 1, .die, .notSaved⟩
  | .PMC_OVF => ⟨0x27, 0x1000, 0x8, 4, 0x0, 1, .die, .notSaved⟩
  | .PMC_CHAINHI => ⟨0x27, 0x1020, 0x0, 1, 0x0, 1, .die, .notSaved⟩
  | .PMC_SLOT => ⟨0x27, 0x10000, 0x100, 128, 0x8, 5, .port, .notSaved⟩
  | .PMC_RINGCTL => ⟨0x27, 0x20000, 0x0, 1, 0x0, 1, .module, .saved⟩
  | .PMC_RINGBASE => ⟨0x27, 0x20008, 0x0, 1, 0x0, 1, .module, .saved⟩
  | .PMC_TRIG => ⟨0x27, 0x20010, 0x0, 1, 0x0, 1, .module, .saved⟩
  | .PMC_RINGPI => ⟨0x27, 0x20018, 0x0, 1, 0x0, 1, .module, .notSaved⟩
  | .PMC_RINGCI => ⟨0x27, 0x20020, 0x0, 1, 0x0, 1, .module, .notSaved⟩
  | .PMC_SNAPS => ⟨0x27, 0x20100, 0x0, 1, 0x0, 1, .module, .notSaved⟩
  | .PMC_SNAPDROP => ⟨0x27, 0x20108, 0x0, 1, 0x0, 1, .module, .notSaved⟩
  | .PMC_SNAPMISS => ⟨0x27, 0x20110, 0x0, 1, 0x0, 1, .module, .notSaved⟩
  | .PMC_SNAPERR => ⟨0x27, 0x20118, 0x0, 1, 0x0, 1, .module, .notSaved⟩
  | .TIM_NOW => ⟨0x28, 0x0, 0x0, 1, 0x0, 1, .die, .notSaved⟩
  | .TIM_STAT => ⟨0x28, 0x8, 0x0, 1, 0x0, 1, .die, .notSaved⟩
  | .TIM_CORRCNT => ⟨0x28, 0x100, 0x0, 1, 0x0, 1, .die, .notSaved⟩

/-- Every register definition, in the order of the constructors. -/
def Reg.list0 : List Reg := [
  .LAN_CTRL, .LAN_TXEQ, .LAN_RXEQ, .LAN_RXSTAT, .LAN_IDLE, .LAN_LPBK, .LAN_PATCTL, .LAN_PATERR, .LAN_ESCTL,
  .LAN_ESSAMP, .LAN_ESERR, .LAN_FECSTAT, .LAN_CLMAP, .LNK_CTRL, .LNK_TIMERS, .LNK_TIMERS2, .LNK_AUDIT,
  .LNK_CMD, .LNK_STAT, .LNK_INC, .LNK_CRCERR, .LNK_REPLAY, .LNK_RETRAIN, .LNK_HELDDROP, .LNK_AUDITERR,
  .LNK_PROTOERR, .LNK_ACKERR, .LNK_CREDIT, .PRT_DEAD, .PRT_RELEASE, .PRT_STAT, .RTE_CTRL, .RTE_EPOCH,
  .RTE_EPCNT, .RTE_TBLERR, .RTE_DUNE, .RTE_NONMIN, .RTE_REROUTE, .RTE_DUNEUNK, .RTE_LIVEREJ, .RTE_EPCTL,
  .RTE_DMEMB, .RTE_PCLASS, .FWD_CTRL, .FWD_AUDIT, .FWD_VCW, .FWD_INJ, .FWD_PART, .FWD_DROP, .FWD_STOMP,
  .FWD_MARKED, .FWD_INJWAIT, .FWD_SHARE, .FWD_OCC, .SCH_PORTCFG, .SCH_TCCFG, .SCH_SHAPE, .SCH_GATECTL,
  .SCH_GATESTART, .SCH_GATESTAT]
def Reg.list1 : List Reg := [
  .MCG_CTRL, .MCG_GCMD, .MCG_TBLERR, .MCG_FENCECMD, .MCG_FENCECNT, .MCG_REPL, .MCG_FENCESKIP, .MCG_CACHEMISS,
  .MCG_LIVEWR, .MCG_NOSPACE, .MCG_NOPORT, .MCG_GVALID, .CLV_CTRL, .CLV_TIMERS, .CLV_BUF, .CLV_DROPAUTH,
  .CLV_CHUNKS, .CLV_INCOMPLETE, .CLV_PARTIAL, .CLV_MISMATCH, .CLV_LATE, .CLV_WIDE, .CLV_OVF, .BRG_STAT,
  .BRG_SPARE, .BRG_RETRY, .BRG_CHECKERR, .NOC_MODECTL, .NOC_STAT, .NOC_MSG, .NOC_REGWAIT, .NOC_ECCCORR,
  .NOC_ECCUNC, .NOC_GWERR, .NOC_MODESW, .NOC_REG, .QDC_STAT, .QDC_ECCCORR, .QDC_ECCUNC, .HST_CTRL, .HST_STAT,
  .HST_DBERR, .HST_DBIGN, .HST_RDERR, .HST_FLR, .HST_BIND, .HST_FNQ, .QUE_CMD, .QUE_CMDBUF, .QUE_TIMERS,
  .QUE_DESC, .QUE_CQHELD, .QUE_CQREFUSE, .QUE_NRNACK, .QUE_FLUSHED, .QUE_EQHOLD, .QUE_KEYRIGHTS, .RMX_CTRL,
  .RMX_STAT, .RMX_PROFRATE]
def Reg.list2 : List Reg := [
  .RMX_PROFCTL, .RMX_CTRAPPLIED, .RMX_CTRPLACED, .RMX_DROPCONN, .RMX_DROPAUTH, .RMX_RETRY, .RMX_TIMEOUT,
  .RMX_NACKTX, .RMX_NACKRX, .RMX_DUP, .RMX_STALERSP, .RMX_CUT, .RMX_TRIGFIRE, .RMX_CONNERR, .RMX_CMD,
  .RMX_CMDBUF, .RMX_FNRES, .RMX_FNSTAT, .MTC_CTRL, .MTC_STAT, .MTC_MATCH, .MTC_UNEXP, .MTC_ORDHOLD,
  .MTC_ORDNACK, .MTC_POOLNACK, .MTC_NORES, .MTC_ORDERR, .MTC_STALEFIN, .MTC_PURGED, .MTC_FNCFG, .MTC_FNRNDV,
  .MTC_CMD, .XLT_CTRL, .XLT_TIMERS, .XLT_STAT, .XLT_SEWIN, .XLT_LOAD, .XLT_LOADCMD, .XLT_TRAPPEND,
  .XLT_RESOLVE, .XLT_L1FILL, .XLT_TRAP, .XLT_MARKTRAP, .XLT_TRAPFULL, .XLT_STALERES, .XLT_WALKRD,
  .XLT_WALKERR, .XLT_PGREQ, .XLT_RINGERR, .XLT_SPACE, .XLT_SPACEROOT, .XLT_CMD, .XLT_CMDBUF, .SAG_UID,
  .SAG_LC, .SAG_DBG, .SAG_CHAL, .SAG_WIPE, .SAG_TOKBUF, .SAG_TOKCMD]
def Reg.list3 : List Reg := [
  .SAG_PUBKEY, .SAG_TOKFAIL, .SAG_KEYINST, .SAG_KEYERASE, .SAG_KEYMISS, .SAG_WIPES, .SAG_FNQUOTA,
  .SAG_KEYCMD, .SAG_KEYBUF, .SAG_KEYSLOT, .CFG_IDENT, .CFG_BOOTSTATUS, .CFG_VERSION, .CFG_CFGVER,
  .CFG_SLOTCMD, .CFG_TRIAL, .CFG_CTRL, .CFG_ERG, .CFG_ERGSTAT, .CFG_FLASHCMD, .CFG_FLASHBUF, .CFG_PEER,
  .MGT_CTRL, .MGT_CARSTAT, .MGT_OOBCMD, .MGT_OOBTGT, .MGT_OOBDATA, .MGT_CARCRC, .MGT_CARREFORM, .MGT_OOBIN,
  .PWR_CTRL, .PWR_STAT, .PWR_THERM, .PWR_DOMSTAT, .PWR_TIMERS, .PWR_DOMCTL, .PWR_WARNCNT, .PWR_THROTTLE,
  .PWR_CAPMISS, .PWR_STOPOK, .PWR_STOPABORT, .PWR_WAKE, .CLK_CTRL, .CLK_STAT, .CLK_REFLOSS, .FLT_CTRL,
  .FLT_STAT, .FLT_ACK, .FLT_FAULTN, .FLT_ACCERR, .FLT_STORECMD, .FLT_STORESTAT, .FLT_RAISED, .FLT_MERGED,
  .FLT_ACTIONS, .FLT_NOSLOT, .FLT_SRCCFG, .KLN_CTRL, .KLN_CMD, .KLN_RESULT]
def Reg.list4 : List Reg := [
  .KLN_BOOT, .KLN_RUNS, .KLN_FAILS, .KLN_REFUSED, .PMC_SEL, .PMC_CNT, .PMC_OVF, .PMC_CHAINHI, .PMC_SLOT,
  .PMC_RINGCTL, .PMC_RINGBASE, .PMC_TRIG, .PMC_RINGPI, .PMC_RINGCI, .PMC_SNAPS, .PMC_SNAPDROP, .PMC_SNAPMISS,
  .PMC_SNAPERR, .TIM_NOW, .TIM_STAT, .TIM_CORRCNT]
def Reg.all : List Reg := Reg.list0 ++ Reg.list1 ++ Reg.list2 ++ Reg.list3 ++ Reg.list4

end Sys2Proof.Machine
end

