-- ==== Sys2Proof/Machine/Tab.lean ====
section
/-! DEFINITION. Sparse tables: a list of (key, value) pairs with strictly rising keys. Every register file, table window,
cell store and record store of the model is one of these; `Tab.set` also drops an entry equal to what an unlisted key
reads as, so that equal contents are equal lists. -/

namespace Sys2Proof.Machine

/-- A sparse table keyed by number. -/
abbrev Tab (α : Type) := List (Nat × α)

/-- The entry listed for a key. -/
def Tab.find {α : Type} : Tab α → Nat → Option α
  | [], _ => none
  | (a, v) :: t, k => if a = k then some v else Tab.find t k

/-- What a key reads as, given what an unlisted key reads as. -/
def Tab.get {α : Type} (t : Tab α) (dflt : α) (k : Nat) : α := (Tab.find t k).getD dflt

/-- Put an entry at its place. -/
def Tab.put {α : Type} : Tab α → Nat → α → Tab α
  | [], k, v => [(k, v)]
  | (a, w) :: t, k, v =>
    if k < a then (k, v) :: (a, w) :: t
    else if k = a then (k, v) :: t
    else (a, w) :: Tab.put t k v

/-- Remove a key. -/
def Tab.del {α : Type} (t : Tab α) (k : Nat) : Tab α := t.filter (fun e => e.1 ≠ k)

/-- Write a key in canonical form: the value an unlisted key reads as is not listed. -/
def Tab.set {α : Type} [DecidableEq α] (t : Tab α) (dflt : α) (k : Nat) (v : α) : Tab α :=
  if v = dflt then Tab.del t k else Tab.put t k v

/-- Strictly rising keys. -/
def Tab.rising {α : Type} : Tab α → Bool
  | [] => true
  | [_] => true
  | (a, _) :: (b, w) :: t => decide (a < b) && Tab.rising ((b, w) :: t)

/-- The canonical form: strictly rising keys and no entry equal to the default. -/
def Tab.wf {α : Type} [DecidableEq α] (t : Tab α) (dflt : α) : Bool :=
  Tab.rising t && t.all (fun e => decide (e.2 ≠ dflt))

/-- A table in canonical form whose default depends on the key. -/
def Tab.wfBy {α : Type} [DecidableEq α] (t : Tab α) (dflt : Nat → α) : Bool :=
  Tab.rising t && t.all (fun e => decide (e.2 ≠ dflt e.1))

/-- The keys listed, in rising order. -/
def Tab.keys {α : Type} (t : Tab α) : List Nat := t.map (·.1)

/-- The first number from `k`, within `fuel` tries, that the table does not list. -/
def Tab.free {α : Type} (t : Tab α) (k : Nat) : Nat → Nat
  | 0 => k
  | fuel + 1 => if (Tab.find t k).isSome then Tab.free t (k + 1) fuel else k

/-- How many entries have a property of key and value. -/
def Tab.count {α : Type} (t : Tab α) (p : Nat → α → Bool) : Nat := (t.filter (fun e => p e.1 e.2)).length

end Sys2Proof.Machine
end

