-- ==== Sys2Proof/Machine/State.lean ====
section
/-! DEFINITION. The state of the module as plain data: every register (one table keyed by definition, die and index),
table window, buffer, queue, record and mode that the spec gives it, the reasons a step can stop, and the state right
after reset. -/

namespace Sys2Proof.Machine

/-! ## Places -/

/-- An instance of a register: its die and its index there (k, c, f, ... of the register tables). -/
structure At where
  die : Nat
  idx : Nat
deriving DecidableEq, Repr

/-! ## Lanes (spec/02) -/

/-- What a lane holds beside its registers (R40, R41, R44). -/
structure LaneSt where
  /-- coefficients retained in OFF, HOLD or FAIL (R41): the next start is warm -/
  retained : Bool
  /-- the running ACQUIRE or ADAPT is a cold start -/
  cold : Bool
  /-- a training frame was decoded in this attempt (R44) -/
  decoded : Bool
  /-- ST_PRE and ST_POST, the answers to the partner's last requests (Table 3-10) -/
  stPre : Nat
  stPost : Nat
  /-- the line rate in force (R33, LAN_CTRL.RATE) -/
  rate : Nat
deriving DecidableEq, Repr

def LaneSt.init : LaneSt := ⟨false, true, false, 0, 0, 0⟩

/-! ## Packet buffer and router (spec/04, 05, 07) -/

/-- The owner of a packet-buffer cell (R158, R163): a receive allocation of a port, a channel of an injection point, or
a bridge allocation of a bridge end. -/
inductive Owner where
  | port (p v : Nat)
  | inject (d r v : Nat)
  | bridge (d e n : Nat)
deriving DecidableEq, Repr

/-- A cell that is not free (R150): flits written, references held, the poison mark of each slot (R103), its owner, and
how many of its flits were received in an earlier link life (R80). -/
structure Cell where
  written : Nat
  refs : Nat
  poison : Nat
  owner : Owner
  stale : Nat
deriving DecidableEq, Repr

/-- Where a flit of a packet is. -/
inductive FLoc where
  /-- in slot `s` of cell `c` -/
  | cell (c s : Nat)
  /-- accepted by a bridge -/
  | bridge
  /-- sent on, or released -/
  | gone
deriving DecidableEq, Repr

/-- A flit of a packet in the router: its body, its poison mark, its place, the dies that it passes from the one it entered on,
and how many bridge hops it has taken (its bridge class, R15). -/
structure PFlit where
  body : Body
  poison : Bool
  loc : FLoc
  path : List Nat
  hop : Nat
deriving DecidableEq, Repr

/-- Where a packet leaves a die's router. -/
inductive Egress where
  /-- not looked up yet -/
  | none
  /-- on a fabric port at a step -/
  | port (p step : Nat)
  /-- delivered on a die, for a host port or for module firmware -/
  | deliver (d : Nat)
deriving DecidableEq, Repr

/-- A packet in the router. `head` is its header as it now stands; `path` lists the dies from the one it entered on
to the one it leaves from, for the flits that are still to come; `seq` orders arrivals; `t0` is the time its head arrived.
DESIGN CHOICE (log 49). -/
structure Pkt where
  head : Body
  flits : List PFlit
  total : Nat
  owner : Owner
  fabric : Bool
  floor : Nat
  path : List Nat
  egress : Egress
  nonmin : Bool
  seq : Nat
  t0 : Nat
  /-- order in which the packet started on its egress port; none while it is not committed (R61) -/
  started : Option Nat
  /-- corruption was found after the head had left (R104) -/
  stomped : Bool
  /-- what a delivered packet is for: 512 a unicast packet, 0 to 255 that member of its group on this module, 256 module
  firmware as a member, 257 the reduction engine -/
  member : Nat
  /-- an engine of this module sends the group packet down the tree (Table 8-4) -/
  down : Bool
  /-- the copies of a group packet that has been replicated, which take its flits as they come (R165, R192) -/
  copies : Option (List Nat)
deriving DecidableEq, Repr

/-- What an egress port holds: its queued packets in admission order, the packets waiting for admission oldest first,
the deficits of the sixteen classes and the class visited by row 4 of Table 7-4. -/
structure EPort where
  q : List Nat
  wait : List Nat
  deficit : List Nat
  visit : Nat
  inVisit : Bool
  starts : Nat
  /-- the port-dead timer runs (R133) -/
  deadTimer : Bool
deriving DecidableEq, Repr

def EPort.init : EPort := ⟨[], [], List.replicate 16 0, 0, false, 0, false⟩

/-- A shaper (R170 to R173): the RATE (Mb/s) and BURST (bytes) in force, its credit in units of 1/8000 byte at elapsed
time `stamp`, its eligible time while it waits and whether that lies on the wheel or on the overflow list, and the wheel
boundary at which a written RATE and BURST apply. -/
structure Shaper where
  rate : Nat
  burst : Nat
  credit : Int
  stamp : Nat
  wait : Option Nat
  wheel : Bool
  applyAt : Option Nat
deriving DecidableEq, Repr

/-- A shaper after reset: off, its credit at BURST (R170, Table 7-13). -/
def Shaper.init : Shaper := ⟨0, 16384, 16384 * 8000, 0, none, false, none⟩

/-- The gate schedule of a port beside its registers and words (R174 to R176): the end of the current entry, the start
of the current cycle, the lengths of lists A and B as committed, and the pending takeover time T. -/
structure Gate where
  entryEnd : Nat
  cycleStart : Nat
  lenA : Nat
  lenB : Nat
  takeover : Nat
deriving DecidableEq, Repr

def Gate.init : Gate := ⟨0, 0, 0, 0, 0⟩

/-- A packet that waits to enter the router at an injection point (R116, R163, R179). -/
structure InjReq where
  die : Nat
  region : Nat
  fw : Bool
  pkt : Packet
  /-- the ports an engine names for its own group packet (R201), else empty -/
  ports : List Nat
  /-- counted in FWD_INJWAIT already -/
  counted : Bool
  /-- key and nonce that seal the packet as it enters the router (R367) -/
  glaze : Option (Nat × Nat)
deriving DecidableEq, Repr

/-- A packet delivered on a die and not yet taken by its engine, a reduction engine or module firmware.
DESIGN CHOICE (log 49). -/
structure Dlv where
  die : Nat
  /-- as `Pkt.member` -/
  member : Nat
  /-- the port on which it reached the module; 512 for a packet injected here -/
  port : Nat
  pkt : Packet
deriving DecidableEq, Repr

/-! ## The link layer (spec/03) -/

/-- The phase of a training attempt. -/
inductive Phase where
  | idle | lanes | alignment | params
deriving DecidableEq, Repr

/-- A sequenced flit that is sent and not acknowledged (R65): its control word without ACK, its body, and, for
DATA, the packet and the flit of it. -/
structure SentFlit where
  ctrl : Ctrl
  body : Body
  bypass : Bool
  pkt : Nat
  idx : Nat
deriving DecidableEq, Repr

/-- The receive side of a channel: no packet open, a packet open with flits left, or the rest of a dropped packet. -/
inductive Rx where
  | closed
  | packet (id left : Nat)
  | discard (left : Nat)
deriving DecidableEq, Repr

/-- One virtual channel of a port (R80 to R82). `tx` is the packet open on the send side and its next flit. -/
structure Chan where
  avail : Int
  alloc : Nat
  applied : Nat
  sent : Nat
  ret : Nat
  acc : Nat
  owed : Nat
  occ : Nat
  rx : Rx
  tx : Option (Nat × Nat)
deriving DecidableEq, Repr

def Chan.init : Chan := ⟨0, 0, 0, 0, 0, 0, 0, 0, .closed, none⟩

/-- The link layer of a port beside its registers. -/
structure Link where
  phase : Phase
  /-- a previous life exists (R74) -/
  prevLife : Bool
  /-- this end's incarnation when it last left UP (R74) -/
  incAtLeave : Nat
  /-- a TRAIN of the peer was received and checked in this attempt, and its contents (Table 3-11) -/
  gotTrain : Bool
  trainInc : Nat
  trainSeq : Nat
  trainAlloc : List Nat
  /-- the peer named by the last TRAIN: node, whether it is valid, port -/
  peerNode : Nat
  peerValid : Bool
  peerPort : Nat
  /-- send side: oldest unacknowledged number, the flits from there, the flits of a replay still to send -/
  oldest : Nat
  window : List SentFlit
  replay : List SentFlit
  /-- the start number of the last replay and the time it began (R70, R71) -/
  replayStart : Option Nat
  replayTime : Nat
  /-- receive side: next expected, incoming, discard mode (R68) -/
  expected : Nat
  incoming : Nat
  discarding : Bool
  /-- acknowledgement: the timer runs, the acknowledgement is due -/
  ackTimer : Bool
  ackDue : Bool
  /-- a CREDIT message is due (R81) -/
  creditDue : Bool
  /-- flits still to come that a codeword error marked (R35) -/
  marked : Nat
  /-- RX_MOSTLY: a maintenance burst is under way (R48) -/
  burst : Bool
  /-- LINKCTL messages waiting: subtype and body (Table 3-6) -/
  linkctl : List (Nat × Body)
  /-- BYPASS messages waiting: code and body (Table 3-13) -/
  bypass : List (Nat × Body)
  /-- bypass tokens and slots since the last token (R83) -/
  tokens : Nat
  slots : Nat
  auditRound : Nat
  /-- drain: this end commands it, the peer's DRAINED came, this end sent its own, the DRAIN timer runs (R79) -/
  commanding : Bool
  drainedRcvd : Bool
  drainedSent : Bool
  /-- T1 of the peer's last TIME and its arrival; the link delay and the offset they gave (R86) -/
  timeT2 : Nat
  timeT3 : Nat
  delay : Int
  offset : Int
  /-- share of the port in force, in cells (R161); 0 before its first link life, when it is that of the slots' reset value -/
  share : Nat
deriving DecidableEq, Repr

def Link.init : Link :=
  { phase := .idle, prevLife := false, incAtLeave := 0, gotTrain := false, trainInc := 0, trainSeq := 0,
    trainAlloc := [], peerNode := 0, peerValid := false, peerPort := 0, oldest := 0, window := [],
    replay := [], replayStart := none, replayTime := 0, expected := 0, incoming := 0, discarding := false,
    ackTimer := false, ackDue := false, creditDue := false, marked := 0, burst := false, linkctl := [], bypass := [], tokens := 0,
    slots := 0, auditRound := 0, commanding := false, drainedRcvd := false, drainedSent := false, timeT2 := 0,
    timeT3 := 0, delay := 0, offset := 0, share := 0 }

/-! ## Faults (spec/17) -/

/-- The location of a fault (Table 17-1): die, level, unit kind, index. -/
structure Loc where
  die : Nat
  level : Nat
  ukind : Nat
  index : Nat
  vc : Nat
deriving DecidableEq, Repr

/-- A fault record (Table 17-1), with what the ladder needs beside it: whether its window or escalation timer runs and
whether a merge has come since its last action (R436). `order` tells which closed record closed earliest. -/
structure FRec where
  gen : Nat
  source : Nat
  subtype : Nat
  rung : Nat
  ceiling : Nat
  state : Nat
  outcome : Nat
  count : Nat
  loc : Loc
  detail : Nat
  time : Nat
  elapsed : Nat
  merged : Bool
  order : Nat
deriving DecidableEq, Repr

/-- An entry of the Oasis fault store (Table 17-6); `rec` is the record's four words as written. -/
structure StoreEntry where
  seq : Nat
  uptime : Nat
  words : List Nat
  kind : Nat
  rung : Nat
  dropped : Nat
deriving DecidableEq, Repr

/-- An entry of the carry list (R439). -/
structure Carry where
  source : Nat
  subtype : Nat
  loc : Loc
  ceiling : Nat
deriving DecidableEq, Repr

/-! ## Outputs -/

/-- What the module does to the outside: flits, host and management-port traffic, pins, rings, replies.
DESIGN CHOICE (log 90). -/
inductive OutEv where
  /-- a flit leaves a port: control word, body, CRC (Table 3-1) -/
  | flit (p : Nat) (ctrl : Ctrl) (body : Body) (crc : Nat)
  /-- a lane changes its training control field (Table 3-10); symbols inverted (R43) -/
  | laneFrame (lane : Nat) (ctl : Nat) (inv : Bool)
  /-- what a lane drives changes, by the codes of `Dev.lineOut`; symbols inverted (R43) -/
  | line (lane out : Nat) (inv : Bool)
  /-- MSI-X of the management port: vector, message address and data -/
  | mgmtMsix (vec addr data : Nat)
  /-- an interrupt to module firmware for a fault record -/
  | fwIrq (id : Nat)
  /-- the interrupt of source PWR at VIN_WARN (Table 16-1) -/
  | pwrIrq
  /-- a value returned on a register path -/
  | readValue (path : Nat) (v : Word)
  /-- a write of the module into a host's memory: die, the function that issues it (R308), address, bytes, relaxed ordering -/
  | hostWrite (d f addr : Nat) (data : List Byte) (ro : Bool)
  /-- a write of the module through the management port: bus address, bytes -/
  | mgmtWrite (addr : Nat) (data : List Byte)
  /-- a read or atomic that the module issues to a host: die, function, address, length, tag, relaxed ordering -/
  | hostRead (d f addr len tag : Nat) (ro : Bool)
  /-- AtomicOp: 0 FADD, 1 SWAP, 2 CSWAP, with its operands -/
  | hostAtomic (d f addr tag op a b : Nat)
  /-- MSI-X of a function of a host port: vector, message address and data -/
  | msix (d f vec addr data : Nat)
  /-- an answer to a Configuration Request: normal (true) or Retry Status -/
  | cfgAnswer (h : Nat) (ok : Bool)
  /-- a frame on the Caravan ring: its 32 bytes (Table 15-13) -/
  | ring (frame : BitVec 256)
  /-- the fallback training pattern on ring-out (R401) -/
  | ringPattern
  /-- a reply on SMBus -/
  | smbus (data : List Nat)
  /-- the value captured by REGACC -/
  | jtag (result : Nat) (v : Word)
  /-- a power or reset pin changes -/
  | pin (name : String) (v : Bool)
deriving DecidableEq, Repr

/-! ## The block -/

/-- Table windows and buffers addressed by word. -/
structure Win where
  /-- route-table entries, key ((die*2 + bank)*131072 + node) (R110, R111) -/
  route : Tab Nat
  /-- port-set candidates, key (((die*2 + bank)*4096 + entry)*8 + slot) (R112) -/
  pset : Tab Nat
  /-- group entry words, key ((die*65536 + group)*16 + word) (Table 8-1) -/
  group : Tab Nat
  /-- gate list words, key ((port*2 + list)*256 + entry) (Table 7-6) -/
  gate : Tab Nat
deriving DecidableEq, Repr

/-- Time, outputs and the model's own counters of free values. -/
structure Env where
  /-- elapsed time in ns since the state began -/
  time : Nat
  /-- what fabric time adds to it (R395) -/
  fabric : Int
  out : List OutEv
  freeCtr : Nat
  rndCtr : Nat
deriving DecidableEq, Repr

/-- Lanes and link layers. -/
structure LinkG where
  lanes : Tab LaneSt
  links : Tab Link
  chans : Tab Chan
deriving DecidableEq, Repr

/-- The router of each die. -/
structure RtrG where
  pkts : Tab Pkt
  nextPkt : Nat
  /-- cells that are not free, key die*262144 + bank*65536 + number -/
  cells : Tab Cell
  /-- the partly filled cell of each owner, by owner code (R158) -/
  openCell : Tab Nat
  eports : Tab EPort
  shapers : Tab Shaper
  gates : Tab Gate
  /-- flits a bridge direction has accepted, by sending end die*2 + e: packet and flit (R17) -/
  bridges : Tab (List (Nat × Nat))
  /-- the credits that the sending end holds for a bridge allocation, and those that a cut of FWD_INJ.BRG still withholds (R161,
  R163), by receiving end and allocation (die*2 + e)*9 + n -/
  bcred : Tab (Nat × Nat)
  inj : List InjReq
  dlv : List Dlv
  /-- Dune levels and their arrival times, key (die*64 + slot)*512 + index (R118) -/
  dune : Tab (Nat × Nat)
  /-- bank under check on each die, and its number (R122) -/
  checking : Tab Nat
deriving DecidableEq, Repr

/-- The fault path (spec/17). -/
structure FltG where
  recs : Tab FRec
  closeOrder : Nat
  carry : List Carry
  /-- records whose rung action is due now, and actions due without a record (source, subtype, place): R433 -/
  due : List Nat
  dueNoSlot : List (Nat × Nat × Loc)
  store : Tab StoreEntry
  storeSeq : Nat
  storeNext : Nat
  /-- store write tokens of R445 and the time they were counted at -/
  tokens : Nat
  tokenStamp : Nat
  dropped : Nat
  /-- FAULT_N (R441, R442): latches, force, pending release, and whether the 1 ms hold runs -/
  latch : Bool
  isolate : Bool
  shutdown : Bool
  force : Bool
  holding : Bool
  pendRelease : Bool
  /-- resets in progress: level and place (R26) -/
  resets : List Loc
deriving DecidableEq, Repr

/-- What is fixed for the life of the part, and what the configuration image declares (spec/15). -/
structure SysG where
  /-- form S: host ports and their engines are fused off (R1, R2) -/
  formS : Bool
  /-- the stepping code of CFG_IDENT -/
  stepping : Nat
  /-- fused on Q0: the unique identifier, the life-cycle state (Table 14-1), the operator key hash (R356) -/
  uid : Nat
  lifeCycle : Nat
  opkey : Option Nat
  /-- fabric identifier and number of modules that the configuration image declares (R21, R63) -/
  fabricId : Nat
  sysModules : Nat
  /-- MODE MAP of the FABRIC record, and the NODEMAP entries: identifier and node (Table 15-6) -/
  mapMode : Bool
  nodeMap : List (Nat × Nat)
  /-- the straps SMB_ADDR2 to SMB_ADDR0 as sampled (R491) -/
  straps : Nat
deriving DecidableEq, Repr


/-! ## Groups and fences (spec/08) -/

/-- Group caches, packets that wait for an entry, and fence state of the dies. -/
structure McgG where
  /-- the groups in the cache of each die, most recently used first (R183) -/
  cache : Tab (List Nat)
  /-- packets that wait for the entry of a group: die, group, packet, ports its engine names -/
  waiting : List (Nat × Nat × Nat × List Nat)
  /-- the last applied pair (generation, originating node) of a node, key die*131072 + node (R213) -/
  pair : Tab (Nat × Nat)
  /-- node bits, same key, and endpoint bits, key die*2^25 + endpoint -/
  node : Tab Bool
  ep : Tab Bool
  /-- fences with SET = 1 that this module's firmware originated: endpoint, node scope, generation (R214) -/
  mine : List (Nat × Bool × Nat)
deriving DecidableEq, Repr

def McgG.init : McgG := ⟨[], [], [], [], [], []⟩

/-! ## The snapshot reader (spec/18) -/

/-- A snapshot that is sampled and not written yet: its fabric time, records, cause and dies (Tables 18-3, 18-4). -/
structure Snap where
  time : Nat
  records : List Nat
  cause : Nat
  dies : Nat
  /-- lines written, the header last; a translation trap stalls the writing -/
  written : Nat
  stalled : Bool
deriving DecidableEq, Repr

/-- The reader: the snapshot under way, SEQ of the next one, snapshots not written since the last. -/
structure PmcG where
  snap : Option Snap
  seq : Nat
  dropped : Nat
deriving DecidableEq, Repr

def PmcG.init : PmcG := ⟨none, 0, 0⟩

/-! ## Power (spec/16) -/

/-- The power unit beside its registers. DEDUCED (log 59). -/
structure PwrG where
  /-- how many throttles of R412 are in force, in its order -/
  throttle : Nat
  /-- the STOP (1) or WAKE (2) that runs on a die, and its scope -/
  cmd : Tab (Nat × Nat)
  /-- the register save area in Oasis: words of the domains in Stop (R425) -/
  save : Tab Word
  /-- the overcurrent limit (R411) -/
  ocLimit : Nat
  /-- why the module is held in reset: 0 not held, 1 VIN reset, 2 overvoltage, 3 thermal shutdown, 4 no reference yet -/
  off : Nat
  /-- after a thermal shutdown, MOD_RESET_N or VIN has gone and come back (R415) -/
  cycled : Bool
  /-- VIN and VSTBY are present (R406) -/
  vin : Bool
  vstby : Bool
  /-- the power-loss record: Oasis uptime at the loss of VIN (R409) -/
  loss : Option Nat
  /-- POWER_GOOD -/
  good : Bool
  /-- the 100 MHz reference is present (R428) -/
  ref : Bool
  /-- input-power samples of the last averaging window, W, newest first (R410) -/
  samples : List Nat
deriving DecidableEq, Repr

/-- DESIGN CHOICE (log 14). -/
def PwrG.init : PwrG := ⟨0, [], [], 7, 0, false, true, false, none, true, true, []⟩

/-! ## Translation (spec/12) -/

/-- A translation entry (Table 12-2). `leaf` is the leaf descriptor of a walked entry; `guard` lists the trap slots that
protect the entry (R311). -/
structure XEnt where
  space : Nat
  va : Nat
  size : Nat
  ba : Nat
  key : Nat
  r : Bool
  w : Bool
  atom : Bool
  se : Bool
  acc : Bool
  dirty : Bool
  lock : Bool
  walked : Bool
  desc : Nat
  leaf : Nat
  guard : List Nat
deriving DecidableEq, Repr

/-- An access to be translated (R314, Table 12-5). Kind: 0 read, 1 write, 2 atomic; class: 0 command, 1 payload; side: 0
initiator, 1 target. `slot` is the trap slot that it holds. -/
structure XAcc where
  space : Nat
  addr : Nat
  len : Nat
  kind : Nat
  cls : Nat
  side : Nat
  keys : Nat
  who : Nat
  region : Nat
  slot : Option Nat
deriving DecidableEq, Repr

/-- A descriptor as read from its ring, with the fragments of its shard table (R237). -/
structure RDesc where
  desc : Nat
  shards : List (Nat × Nat)
deriving DecidableEq, Repr

/-- What goes on when a trapped access is looked up again. -/
inductive Cont where
  /-- the fetch of a descriptor of a work or receive queue, by kind and global number -/
  | queue (k n : Nat)
  /-- ring writes of a completion or event queue -/
  | ring (k n : Nat)
  /-- the next piece of a descriptor in progress -/
  | op (i : Nat)
  /-- the source of a retransmission: connection and PSN -/
  | again (c psn : Nat)
  /-- the shard table of a descriptor that has fired -/
  | table (i : Nat)
  /-- a packet at its target, and the region whose INFLIGHT counts it, plus 1; 0 for none (R277) -/
  | target (p : Packet) (region : Nat)
  /-- the copy of a group packet for a member of a die -/
  | member (die member : Nat) (p : Packet)
  /-- a snapshot to be written to the ring of the reader -/
  | reader
deriving DecidableEq, Repr

/-- A trap slot in use (Table 12-5). -/
structure Trap where
  acc : XAcc
  cause : Nat
  cont : Cont
  /-- an initiator access answered NOT_PRESENT that looks up again after HINT (R319) -/
  hintWait : Bool
deriving DecidableEq, Repr

/-- An invalidating command under way (R331): space, range, and the tags of reads that use removed entries. -/
structure Inval where
  space : Nat
  lo : Nat
  hi : Nat
deriving DecidableEq, Repr

/-- The translation units of the four dies. -/
structure XltG where
  /-- second-level entries of a die, most recently used first -/
  l2 : Tab (List XEnt)
  /-- first-level copies, as (space, page address), by (die * 4 + region) * 2 + class, most recently used first -/
  l1 : Tab (List (Nat × Nat))
  /-- backing entries of a die -/
  backing : Tab (List XEnt)
  /-- trap slots, by die * 256 + slot, and their generations -/
  traps : Tab Trap
  gens : Tab Nat
  /-- initiator accesses that wait for a slot: die, access, cause, what goes on -/
  slotWait : List (Nat × XAcc × Nat × Cont)
  /-- walks under way, by slot: level and table address -/
  walks : Tab (Nat × Nat)
  /-- page requests outstanding, by die * 2^32 + REQID: space and page -/
  preqs : Tab (Nat × Nat)
  reqCtr : Tab Nat
  /-- failed pages: die, space, page -/
  failed : List (Nat × Nat × Nat)
  /-- invalidating commands under way, by die * 256 + function -/
  invals : Tab Inval
deriving DecidableEq, Repr

def XltG.init : XltG := ⟨[], [], [], [], [], [], [], [], [], [], []⟩

/-! ## Queues (spec/09) -/

/-- An event that waits: its source, its type, and its entry without PHASE. -/
structure Ev where
  src : Nat
  type : Nat
  entry : Nat
deriving DecidableEq, Repr

/-- A queue that is not FREE (Table 9-8); fields that a kind does not use are zero. -/
structure Queue where
  func : Nat
  qnum : Nat
  base : Nat
  log2 : Nat
  pi : Nat
  ci : Nat
  cqn : Nat
  eqn : Nat
  xspace : Nat
  vector : Nat
  limit : Nat
  state : Nat
  lasterr : Nat
  armed : Bool
  owed : Nat
  /-- of a work or receive queue: its share of what its completion queue owes (R152) -/
  owes : Nat
  /-- overflow entries, without PHASE (R249) -/
  held : List Nat
  /-- the completion stall timer runs (R250) -/
  stall : Bool
  /-- receive descriptors read and not yet taken by an arrival, with their indices -/
  ready : List (Nat × RDesc)
  /-- arrivals that wait for a receive descriptor to be read -/
  waiting : List Packet
  /-- a fetch, or the ring write, waits on a trap -/
  blocked : Bool
  /-- the read of the next descriptor, stopped by a trap, has been issued (R319) -/
  issued : Bool
  /-- a ring write failed translation (Table 12-4) -/
  failed : Bool
  /-- index of the last accepted doorbell -/
  bell : Nat
  /-- the command that runs on the queue: 0 none, 2 PAUSE, 5 DESTROY -/
  cmd : Nat
  /-- RQ_LIMIT is not armed (Table 9-7) -/
  below : Bool
  /-- receive descriptors consumed, with their completions when finished (R240) -/
  order : List (Nat × Option Nat)
  /-- events that wait (R244) -/
  evs : List Ev
  /-- events whose source holds them until its pending one is written (R244) -/
  later : List Ev
  /-- the moderation interval runs; an arm fell due in it (R243) -/
  modBusy : Bool
  irqDue : Bool
deriving DecidableEq, Repr

/-! ## Descriptors, connections, regions (spec/10) -/

/-- A descriptor that has started, or is parked, and is not completed. -/
structure Op where
  die : Nat
  kind : Nat
  qn : Nat
  func : Nat
  index : Nat
  desc : Nat
  /-- key-rights word sampled at the start (R316) -/
  keys : Nat
  xspace : Nat
  /-- fragments of the local buffer -/
  frags : List (Nat × Nat)
  /-- 0 in progress, 1 parked, 2 fired and not started yet -/
  stage : Nat
  /-- parking order, or the stamp of a posted receive (R283, R289) -/
  order : Nat
  /-- bytes of the transfer, and how many have been split into requests -/
  len : Nat
  off : Nat
  /-- the next piece waits for a trap, a read or a resource -/
  busy : Bool
  /-- every request has been split off -/
  split : Bool
  /-- requests split off and not resolved -/
  left : Nat
  status : Nat
  bytes : Nat
  data : Nat
  aux : Nat
  /-- SEND: the number of its start on its connection until its head leaves, then its MSN. `msg`: SEND: 0 head not prepared,
  1 prepared, 2 gone out; TRECV: message bound to it, 0 for none -/
  msn : Nat
  msg : Nat
  /-- rendezvous region number plus one, 0 for none -/
  rndv : Nat
  /-- TRECV by rendezvous: the connection and the sender's RKEY -/
  conn : Nat
  rkey : Nat
deriving DecidableEq, Repr

/-- A request packet of a connection, before and after its first departure. -/
structure Req where
  psn : Nat
  op : Nat
  pkt : Packet
  /-- place of its data in the buffer of its descriptor -/
  off : Nat
  len : Nat
  /-- where the response goes: bus addresses and lengths -/
  dst : List (Nat × Nat)
  /-- special slot, 4 for none -/
  slot : Nat
  /-- flits charged to the bucket (R274) -/
  cost : Nat
  tryN : Nat
  timed : Nat
  /-- waits for HINT (R273), or for its source to be read again -/
  hint : Bool
  rereading : Bool
deriving DecidableEq, Repr

/-- A special slot of a receive half: a stored ATOMIC value, or a pending PUT_CTR increment (R264). -/
structure Special where
  psn : Nat
  ctr : Bool
  value : Nat
  counter : Nat
  pending : Bool
  /-- TRY, and ECHO, of the copy to be answered -/
  tryN : Nat
  echo : Bool
deriving DecidableEq, Repr

/-- A connection context that is not FREE (Table 10-1). -/
structure Conn where
  func : Nat
  state : Nat
  peer : Nat
  peerConn : Nat
  enc : Bool
  profile : Nat
  rxwin : Nat
  peerRxwin : Nat
  inc : Nat
  keyslot : Nat
  mwin : Nat
  nextPsn : Nat
  dm : Nat
  rate : Nat
  lasterr : Nat
  cut : Nat
  round : Nat
  /-- bucket: credit in units of 1/8000 byte at elapsed time `stamp` -/
  credit : Int
  stamp : Nat
  /-- requests not yet sent, in order, and requests not resolved, by PSN -/
  sendQ : List Req
  reqs : List Req
  /-- PSNs done above DM -/
  done : List Nat
  special : Tab Special
  /-- in-order packets that wait for their ACK: count, PSN, TRY, ECHO (R270) -/
  ackN : Nat
  ackPsn : Nat
  ackTry : Nat
  ackEcho : Bool
  /-- the MSN of the next message whose head leaves, and how many messages have started (R292) -/
  sendMsn : Nat
  starts : Nat
  nextMsn : Nat
  /-- heads in reorder slots (R293) -/
  heads : List (Nat × Packet)
  /-- PSNs whose read or atomic is under way at this target -/
  serving : List Nat
deriving DecidableEq, Repr

/-- A region entry (Table 10-10). -/
structure Region where
  base : Nat
  len : Nat
  xspace : Nat
  ctrbase : Nat
  ctrcount : Nat
  owner : Nat
  gen : Nat
  state : Nat
  counter : Bool
  rights : Nat
  keyrights : Nat
  inflight : Nat
  /-- event queue named by REVOKE; none when no event is written -/
  eqn : Option Nat
deriving DecidableEq, Repr

/-- An unexpected or bound message (Table 11-1). -/
structure Msg where
  die : Nat
  func : Nat
  conn : Nat
  msn : Nat
  tag : Nat
  context : Nat
  src : Nat
  len : Nat
  stamp : Nat
  /-- 0 eager inline, 1 eager buffered, 2 rendezvous -/
  kind : Nat
  data : List Byte
  rkey : Nat
  /-- KIND 1: receive queue, index, buffer -/
  rq : Nat
  rindex : Nat
  rdesc : RDesc
  /-- bytes arrived or accounted, and bytes placed -/
  got : Nat
  placed : Nat
  /-- the TRECV that it is bound to, 0 for none -/
  bound : Nat
  /-- its connection has failed or closed since it arrived (R304) -/
  cut : Bool
deriving DecidableEq, Repr

/-- What a host read or atomic of the module is for. -/
inductive RdFor where
  /-- the data of a new request -/
  | piece (c : Nat) (r : Req)
  /-- the data of a retransmission -/
  | again (c psn : Nat)
  /-- a GET_REQ, or an ATOMIC, at this target: die, packet, region -/
  | serve (c : Nat) (p : Packet) (region : Nat)
  /-- the copy of an unexpected message to a TRECV buffer -/
  | copy (op msg : Nat)
  /-- the elements that a local member contributes to a chunk -/
  | contrib (die group seq chunk phase member : Nat)
  /-- the data of the next packet of an MCAST or BCAST -/
  | cast (op : Nat)
  /-- the shard table of a descriptor that has fired -/
  | table (op : Nat)
  /-- a descriptor of the host table, for the walk of a trap slot -/
  | walk (slot : Nat)
deriving DecidableEq, Repr

/-- A read or atomic issued to a host and not answered. -/
structure Rd where
  die : Nat
  len : Nat
  use : RdFor
  /-- space and page bounds of the entries it used (R331) -/
  ents : List (Nat × Nat × Nat)
deriving DecidableEq, Repr

/-- An entry of an MSI-X table: message address, message data, vector control with the mask in bit 0, which is 1 at reset. -/
structure MsixEnt where
  addr : Nat
  data : Nat
  ctl : Nat
deriving DecidableEq, Repr

def MsixEnt.init : MsixEnt := ⟨0, 0, 1⟩

/-- Queues, descriptors, connections, regions, counters and messages of the four host ports. -/
structure HostG where
  /-- queues, by (die * 4 + kind) * 65536 + global number -/
  queues : Tab Queue
  ops : Tab Op
  nextOp : Nat
  /-- descriptors that a counter has fired, in firing order (R283) -/
  fired : List Nat
  parkCtr : Nat
  /-- contexts, by die * 262144 + number, and LASTINC of each (R259) -/
  conns : Tab Conn
  lastInc : Tab Nat
  regions : Tab Region
  ctrs : Tab Nat
  msgs : Tab Msg
  nextMsg : Nat
  /-- posted receives, by die * 256 + function: descriptors in stamp order; stamps used -/
  posted : Tab (List Nat)
  stamps : Tab Nat
  reads : Tab Rd
  nextTag : Nat
  /-- MSI-X tables by (port * 256 + function) * 1024 + vector, port 4 the management port, and their pending bits -/
  msix : Tab MsixEnt
  pba : Tab Bool
  /-- NUMPF as it was at the last PERST, by die (Table 9-13) -/
  numpf : Tab Nat
deriving DecidableEq, Repr

def HostG.init : HostG := ⟨[], [], 1, [], 0, [], [], [], [], [], 1, [], [], [], 1, [], [], []⟩

/-! ## Saggar (spec/14) -/

/-- A wipe under way (Table 14-11): scope, die, function or region, and when it began. -/
structure Wipe where
  scope : Nat
  die : Nat
  part : Nat
  start : Nat
deriving DecidableEq, Repr

/-- A token whose verification runs (R355): the die it was presented on, its 128 bytes and the 96 bytes of SAG_PUBKEY. -/
structure Token where
  die : Nat
  bytes : List Byte
  pubkey : List Byte
deriving DecidableEq, Repr

/-- The security instances beside their registers: keys by die * 65536 + slot, the slots whose keys are cached on each
die, most recently used first (R360), the wipes under way, the challenge that was last read and not used (R355), the token under
verification, the debug level or life-cycle state that a running wipe leads to, the instances whose entropy source fails. -/
structure SagG where
  keys : Tab Nat
  cache : Tab (List Nat)
  wipes : List Wipe
  challenge : Option Nat
  token : Option Token
  raising : Option (Nat × Nat)
  changing : Option Nat
  noEntropy : List Nat
deriving DecidableEq, Repr

def SagG.init : SagG := ⟨[], [], [], none, none, none, none, []⟩

/-! ## Collectives (spec/08) -/

/-- An exact-partial block (Table 8-11): SCALE, WIDTH in bits, CLASS of each element, the integers. -/
structure Block where
  scale : Int
  width : Nat
  cls : List Nat
  elems : List Int
deriving DecidableEq, Repr

/-- What the contributions of a chunk have been combined to (Table 8-7): nothing yet, exact-partial blocks, FP64 exponent
records (M, CLASS), or native elements. -/
inductive Part where
  | none
  | blocks (l : List Block)
  | expo (l : List (Nat × Nat))
  | native (l : List Nat)
deriving DecidableEq, Repr

/-- A chunk buffer (R201): its chunk and phase, what it holds, the members counted, the child ports and local members that
it awaits. `sent` is the partial that waits to enter the router. -/
structure ChunkBuf where
  chunk : Nat
  phase : Nat
  nelem : Option Nat
  part : Part
  members : Nat
  ports : List Nat
  locals : List Nat
  sent : Option Packet
deriving DecidableEq, Repr

/-- A BARRIER stage of an operation (Table 8-5). -/
structure ColStage where
  opened : Bool
  members : Nat
  ports : List Nat
  locals : List Nat
  fenced : Bool
  up : Bool
  down : Bool
deriving DecidableEq, Repr

/-- An operation record (R184, R197). `params` holds KIND, OP, ETYPE and MODE once they are known, `total` the number of
chunks once it is known; `next0` and `next1` are the next chunks to be given a buffer in phase 0 and 1; `exps` the FP64
records that came down; `flags` the round of an EPOCH_COUNT (Table 8-8). -/
structure ColOp where
  seq : Nat
  flags : Nat
  params : Option (Nat × Nat × Nat × Nat)
  tc : Nat
  result : Nat
  total : Option Nat
  bufs : List ChunkBuf
  next0 : Nat
  next1 : Nat
  exps : List (Nat × List (Nat × Nat))
  grants : List (Nat × Nat)
  down : List (Nat × Nat)
  minMembers : Nat
  fenced : Bool
  epoch : Option ChunkBuf
  stages : List ColStage
  begun : Bool
  closed : Bool
deriving DecidableEq, Repr

/-- An operation of a local member: the engine's die, the group, the member, its OPSEQ, its descriptor; `held` while it waits
for operation n - 4; `chunks` lists the chunks that the member holds; `ovf` and `members` what they reported; `last` is the
packet of an MCAST that has not entered the router. -/
structure Mem where
  die : Nat
  group : Nat
  member : Nat
  seq : Nat
  op : Nat
  held : Bool
  chunks : List Nat
  ovf : Bool
  members : Nat
  next : Nat
  last : Option Packet
deriving DecidableEq, Repr

/-- The reduction engines of the four dies: operation records by (die * 65536 + group) * 4 + OPSEQ mod 4, the operations of
local members, and each member's operations since validation, by (die * 65536 + group) * 512 + member. -/
structure ClvG where
  recs : Tab ColOp
  mems : List Mem
  seqs : Tab Nat
deriving DecidableEq, Repr

def ClvG.init : ClvG := ⟨[], [], []⟩


/-! ## Kiln and the mesh (spec/17, spec/13) -/

/-- The Kiln engines: the test that runs on a die (TEST, TARGET, PARAM), the dies whose start-up calibration has not completed,
the ports that are held DISABLED because LANE_CAL failed (R449). -/
structure KlnG where
  run : Tab (Nat × Nat × Nat)
  booting : List Nat
  calFail : List Nat
deriving DecidableEq, Repr

/-- DESIGN CHOICE (log 109). -/
def KlnG.init : KlnG := ⟨[], [0, 1, 2, 3], []⟩

/-- The meshes: messages held by a regulator or by HOLD at their source, and whether NOC_REGWAIT counted them; the tokens of a
regulator in 1/2560 flit and the time they were counted at, by die * 100 + node * 4 + class. -/
structure MeshG where
  held : List (MeshMsg × Bool)
  tokens : Tab (Nat × Nat)
deriving DecidableEq, Repr

def MeshG.init : MeshG := ⟨[], []⟩

/-! ## Boot, flash and access paths (spec/15, spec/19) -/

/-- A directory copy (Table 15-3); PREVIOUS 255 is none, NODE holds VALID in bit 17. -/
structure DirRec where
  seq : Nat
  active : Nat
  previous : Nat
  trialSlot : Nat
  trialState : Nat
  reject : Nat
  fabric : Nat
  node : Nat
deriving DecidableEq, Repr

/-- Both copies invalid: FACTORY with no trial (R377). -/
def DirRec.blank : DirRec := ⟨0, 0, 255, 0, 0, 0, 0, 0⟩

/-- The boot sequence and the flash. `step` names the event awaited: 0 the end of the SCOPE 1 wipe, 1 FLASH_INIT, 2
CANDIDATE_CHOSEN, 3 SAGGAR_IMAGE_LOADED, 4 ZORURI_IMAGE_LOADED, 5 CALIBRATION_DONE, 6 PHASE_RUN, 7 none (RUN), 8 none (BLANK or
Bisque mode). -/
structure BootG where
  /-- the flash by byte address; an unlisted byte is erased and reads 255 -/
  flash : Tab Nat
  step : Nat
  /-- the candidates that have failed since the last boot that reached RUN or Bisque: slot and result (R381); in Oasis -/
  tried : List (Nat × Nat)
  /-- the slots whose firmware headers the flash did not return at step 3 (R381) -/
  unread : List Nat
  slot : Nat
  trial : Bool
  /-- the directory in force and the copy it stands in -/
  dir : DirRec
  copy : Nat
  /-- a directory update under way writes the directory in force; whether a module reset follows (R386) -/
  update : Option Bool
  /-- the flash command that runs: OP, address, and the bytes to program -/
  flashCmd : Option (Nat × Nat × List Byte)
  /-- when the trial watchdog expires -/
  watchdog : Option Nat
deriving DecidableEq, Repr

/-- DESIGN CHOICE (log 14, 18). -/
def BootG.init : BootG := ⟨[], 1, [], [], 3, false, DirRec.blank, 1, none, none, none⟩

/-- A register access by a path: its address, the data of a write, and, from the ring, the position and the tag to answer. -/
structure Access where
  path : Path
  addr : Nat
  data : Option Word
  src : Nat
  tag : Nat
deriving DecidableEq, Repr

/-- The access paths: ADDR and STATUS of the window of the management port (0) and of each host port (1 to 4); the last REGACC
access (R468): address, data, result code; the accesses that stall until a domain wakes (R422) or a mesh switch ends (R343), in
arrival order. -/
structure AccG where
  addr : Tab Nat
  status : Tab Nat
  jtag : Nat × Nat × Nat
  stalled : List Access
deriving DecidableEq, Repr

def AccG.init : AccG := ⟨[], [], (0, 0, 0), []⟩

/-! ## Erg and the epoch procedure (spec/15 R390 to R396, spec/05 R129 to R132) -/

/-- What the last LINK of a neighbour said (Table 15-11), with the node of its HELLO header. -/
structure ErgPeer where
  node : Nat
  nodeValid : Bool
  uid : Nat
  memNode : Nat
  memValid : Bool
  cls : Nat
  bisque : Nat
  tdist : Nat
  ver : Nat
  epoch : Nat
  tables : Bool
deriving DecidableEq, Repr

/-- A fragment of an ASSIGN held from a leader: its SEQ, group (65535 none yet) and entries (identifier, member). -/
structure ErgAssign where
  seq : Nat
  group : Nat
  entries : List (Nat × Nat)
deriving DecidableEq, Repr

/-- A fragment of an LSA: SEQ, LOCALUP, peer groups of the UP GLOBAL ports. -/
structure ErgLsa where
  seq : Nat
  localUp : Nat
  groups : List Nat
deriving DecidableEq, Repr

/-- Erg in module firmware: what it holds from others, its own roles and what it last sent. -/
structure ErgG where
  /-- by port -/
  peers : Tab ErgPeer
  /-- by (leader identifier * 32 + FRAG) -/
  assigns : Tab ErgAssign
  /-- by leader identifier: SEQ, group, member count -/
  claims : Tab (Nat × Nat × Nat)
  /-- by (origin node * 256 + FRAG) -/
  lsas : Tab ErgLsa
  /-- by (origin group * 8 + FRAG): SEQ and bitmap slice -/
  gsums : Tab (Nat × Nat)
  leading : Bool
  /-- the group number it claims as leader, and whether it is settled -/
  claim : Option (Nat × Bool)
  /-- its numbering as leader: member to identifier -/
  numbers : Tab Nat
  /-- the last SEQ and contents it originated of ASSIGN, CLAIM, LSA and GSUM -/
  assignSent : Nat × Nat × Tab Nat
  claimSent : Nat × Option (Nat × Nat)
  lsaSent : Nat × Nat × List Nat
  gsumSent : Nat × List Nat
  /-- the members it has declared lost (R396) -/
  lost : List Nat
  /-- an LSA or GSUM has changed since routes were computed -/
  changed : Bool
  /-- the tables last computed: route entries and port-set candidates by index; none when none could be computed -/
  tables : Option (Tab Nat × Tab Nat)
  /-- V of the banks in force and the epoch of the procedure's start -/
  ver : Nat
deriving DecidableEq, Repr

def ErgG.init : ErgG :=
  ⟨[], [], [], [], [], false, none, [], (0, 65535, []), (0, none), (0, 0, []), (0, []), [], false, none, 0⟩

/-- The epoch procedure: the newest V and phase seen; the epoch it moves to and whether it runs; why this module contributes
LOAD_FAILED or UNSURE; when PROPOSE was acted on; the number of the last count round of this procedure. -/
structure EpochG where
  ver : Nat
  phase : Nat
  target : Nat
  running : Bool
  failed : Bool
  unsure : Bool
  since : Nat
  round : Nat
  /-- the OPSEQ of the next round in the system group (R197) -/
  opseq : Nat
deriving DecidableEq, Repr

def EpochG.init : EpochG := ⟨0, 0, 0, false, false, false, 0, 0, 0⟩

/-! ## The Caravan ring (spec/15 R398 to R403) -/

/-- A register access over the ring or the fabric that this module has issued: its tag, whether it writes, and whether it went
over the fabric. -/
structure Oob where
  tag : Nat
  write : Bool
  fabric : Bool
deriving DecidableEq, Repr

/-- The ring beside its registers: its own ELECT has come back in this re-form; the access of MGT_OOBCMD that is outstanding; the
next tag, which is also the REQID of an FW_MSG. -/
structure CarG where
  elected : Bool
  oob : Option Oob
  nextTag : Nat
deriving DecidableEq, Repr

def CarG.init : CarG := ⟨false, none, 0⟩

/-- Everything the block holds but its command queue. -/
structure Dev where
  /-- registers, key by `regKey`; an unlisted register reads as its reset value -/
  regs : Tab Word
  win : Win
  env : Env
  lnk : LinkG
  rtr : RtrG
  flt : FltG
  sys : SysG
  mcg : McgG
  pmc : PmcG
  pwr : PwrG
  xlt : XltG
  hst : HostG
  sag : SagG
  clv : ClvG
  kln : KlnG
  noc : MeshG
  boot : BootG
  acc : AccG
  erg : ErgG
  ep : EpochG
  car : CarG
deriving DecidableEq, Repr

/-- The state: the block, and the commands that wait, first in first out. -/
structure State extends Dev where
  pending : List Instr
deriving DecidableEq, Repr

/-- Why a step stops with a fault. -/
inductive Fault where
  /-- a supply voltage beyond the ratings of spec/20 is applied: R485 states no behaviour there. Safe. -/
  | beyondRatings
deriving DecidableEq, Repr

/-- Why a step has no meaning. -/
inductive Refusal where
  /-- the model has no meaning for the command yet; safe -/
  | notModelled (mnemonic : String)
deriving DecidableEq, Repr

def Win.init : Win := ⟨[], [], [], []⟩
def Env.init : Env := ⟨0, 0, [], 0, 0⟩
def LinkG.init : LinkG := ⟨[], [], []⟩
def RtrG.init : RtrG := ⟨[], 1, [], [], [], [], [], [], [], [], [], [], []⟩
/-- DESIGN CHOICE (log 14). -/
def FltG.init : FltG :=
  ⟨[], 1, [], [], [], [], 0, 0, 64, 0, 0, false, false, false, false, false, false, []⟩

/-- Form N, stepping B0, SECURED, no operator key, no configuration applied. DESIGN CHOICE (log 13, 109). -/
def SysG.init : SysG := ⟨false, 4, 1, 2, none, 0, 0, false, [], 0⟩

def Dev.init : Dev :=
  { regs := [], win := Win.init, env := Env.init, lnk := LinkG.init, rtr := RtrG.init, flt := FltG.init, sys := SysG.init, mcg := McgG.init,
    pmc := PmcG.init, pwr := PwrG.init, xlt := XltG.init, hst := HostG.init, sag := SagG.init, clv := ClvG.init,
    kln := KlnG.init, noc := MeshG.init, boot := BootG.init, acc := AccG.init,
    erg := ErgG.init, ep := EpochG.init, car := CarG.init }

/-- The machine right after reset. DESIGN CHOICE (log 6, 10, 13, 14, 109). -/
def State.reset : State := { toDev := Dev.init, pending := [] }


end Sys2Proof.Machine
end

