-- ==== Sys2Proof/Machine/Ops.lean ====
section
/-! DEFINITION. Named operations over registers, tables and the small state groups: reading and writing a field, counting,
outputs, free values. Everything else of the model goes through these. -/

namespace Sys2Proof.Machine

/-! ## Fields of a register word -/

/-- The field's value in a register word. -/
def Fld.of (f : Fld) (x : Word) : Nat := (x.toNat >>> f.lo) % 2 ^ f.w

/-- The mask of a field. -/
def Fld.mask (f : Fld) : Word := BitVec.ofNat 64 ((2 ^ f.w - 1) <<< f.lo)

/-- The register word with the field set to the low bits of `v`. -/
def Fld.ins (f : Fld) (x : Word) (v : Nat) : Word :=
  (x &&& ~~~ f.mask) ||| BitVec.ofNat 64 ((v % 2 ^ f.w) <<< f.lo)

/-! ## Places of register instances -/

/-- The instance `i` of a register on die `d`. -/
abbrev ix (d i : Nat) : At := ⟨d, i⟩
/-- The instance of a register held once per die. -/
abbrev onDie (d : Nat) : At := ⟨d, 0⟩
/-- The instance of a register held once per module, on Q0 (R404). -/
abbrev onMod : At := ⟨0, 0⟩
/-- The slot of a lane or of a port's first lane (R12, R87). DESIGN CHOICE (log 49). -/
abbrev onLane (l : Nat) : At := ⟨l / 128, l % 128⟩

/-- The key of a register instance in the register table. DESIGN CHOICE (log 16). -/
def regKey (r : Reg) (a : At) : Nat := a.idx * 2048 + (a.die % 4) * 512 + r.ctorIdx

/-- Start, ceiling, highest ceiling, FAULT_N flag, window in ms and escalation in ms of a source and subtype
(Table 17-2). Pairs the table does not list read 0. DEDUCED (log 15). -/
def srcCfg (s t : Nat) : Nat × Nat × Nat × Nat × Nat × Nat :=
  match s, t with
  | 1, 1 => (0, 0, 0, 0, 100, 1000) | 1, 2 => (0, 0, 0, 0, 100, 1000) | 1, 3 => (0, 0, 0, 0, 100, 1000)
  | 2, 1 => (4, 5, 6, 1, 10000, 1000)
  | 3, 3 => (3, 3, 4, 0, 100, 1000) | 3, 4 => (3, 3, 4, 0, 100, 1000)
  | 3, 1 => (0, 0, 0, 0, 100, 1000) | 3, 2 => (0, 0, 0, 0, 100, 1000) | 3, 5 => (0, 0, 0, 0, 100, 1000)
  | 3, 6 => (0, 0, 0, 0, 100, 1000) | 3, 7 => (0, 0, 0, 0, 100, 1000)
  | 4, 1 => (0, 3, 4, 0, 100, 1000) | 4, 2 => (0, 4, 5, 0, 100, 1000) | 4, 3 => (4, 5, 6, 1, 100, 1000)
  | 5, 1 => (0, 4, 5, 0, 100, 1000)
  | 6, 1 => (0, 4, 4, 0, 100, 1000) | 6, 2 => (4, 6, 6, 1, 100, 1000)
  | 7, 1 => (0, 0, 0, 0, 100, 1000) | 7, 2 => (0, 0, 0, 0, 100, 1000) | 7, 3 => (0, 0, 0, 1, 100, 1000)
  | 7, 4 => (0, 0, 0, 0, 100, 1000)
  | 8, 1 => (5, 5, 5, 1, 0, 1000)
  | 9, 1 => (0, 0, 0, 0, 100, 1000)
  | 10, 1 => (0, 0, 0, 0, 100, 1000) | 10, 2 => (0, 0, 0, 0, 100, 1000)
  | 11, 1 => (4, 6, 6, 1, 100, 1000) | 11, 2 => (4, 6, 6, 1, 100, 1000)
  | 12, 1 => (0, 0, 1, 0, 100, 1000) | 12, 2 => (0, 0, 1, 0, 100, 1000)
  | 13, 1 => (0, 0, 0, 0, 100, 1000) | 13, 2 => (0, 0, 0, 0, 100, 1000) | 13, 3 => (0, 0, 0, 0, 100, 1000)
  | 13, 4 => (0, 0, 0, 0, 100, 1000) | 13, 5 => (0, 0, 0, 0, 100, 1000)
  | 14, 1 => (0, 0, 0, 0, 100, 1000) | 14, 2 => (0, 0, 0, 0, 100, 1000)
  | _, _ => (0, 0, 0, 0, 0, 0)

/-- The reset word of a register by its fields' reset values. DEDUCED (log 15). -/
def Reg.rstWord (r : Reg) : Word := r.flds.foldl (fun x f => f.ins x f.rst) 0

/-- The weights of Table 7-2, channel v in bits [3v+2:3v]. DEDUCED (log 15). -/
def vcwReset : Nat :=
  ([4, 4, 4, 4, 4, 1, 4, 4, 4, 4, 4, 1, 2, 2, 2, 2, 2, 1].zipIdx.map (fun p => p.1 <<< (3 * p.2))).sum

/-- The reset value of a register instance: the table's values, and the values that depend on the instance. DEDUCED (log 15). -/
def rstVal (r : Reg) (a : At) : Word :=
  match r with
  | .LAN_CTRL => LAN_CTRL_RX_LANE.ins (LAN_CTRL_TX_LANE.ins r.rstWord (a.idx % 4)) (a.idx % 4)
  | .HST_BIND => if a.idx = 0 then HST_BIND_VALID.ins r.rstWord 1 else r.rstWord
  | .HST_FNQ =>
    if a.idx / 4 = 0 then HST_FNQ_COUNT.ins r.rstWord (if a.idx % 4 = 3 then 1024 else 65536) else r.rstWord
  | .RMX_FNRES => if a.idx / 3 = 0 then RMX_FNRES_COUNT.ins r.rstWord 262144 else r.rstWord
  | .MTC_FNCFG => if a.idx = 0 then MTC_FNCFG_QUOTA.ins r.rstWord 1048576 else r.rstWord
  | .MTC_FNRNDV =>
    if a.idx = 0 then MTC_FNRNDV_BASE.ins (MTC_FNRNDV_COUNT.ins r.rstWord 1024) 261120 else r.rstWord
  | .XLT_SPACE => if a.idx = 0 then XLT_SPACE_EN.ins r.rstWord 1 else r.rstWord
  | .SAG_FNQUOTA => if a.idx = 0 ∨ a.idx = 256 then SAG_FNQUOTA_QUOTA.ins r.rstWord 65536 else r.rstWord
  | .SAG_LC => if a.die % 4 = 0 then SAG_LC_PRIMARY.ins r.rstWord 1 else r.rstWord
  | .FWD_VCW => BitVec.ofNat 64 vcwReset
  | .FLT_SRCCFG =>
    let c := srcCfg (a.idx / 16) (a.idx % 16)
    FLT_SRCCFG_ESC.ins (FLT_SRCCFG_WINDOW.ins (FLT_SRCCFG_FAULTN.ins (FLT_SRCCFG_MAXCEIL.ins (FLT_SRCCFG_CEILING.ins
      (FLT_SRCCFG_START.ins 0 c.1) c.2.1) c.2.2.1) c.2.2.2.1) c.2.2.2.2.1) c.2.2.2.2.2
  | _ => r.rstWord

/-! ## Registers -/

/-- The word a register instance holds. DESIGN CHOICE (log 16). -/
def Dev.rd (d : Dev) (r : Reg) (a : At) : Word := Tab.get d.regs (rstVal r a) (regKey r a)

/-- Write the word of a register instance. DESIGN CHOICE (log 16). -/
def Dev.wr (d : Dev) (r : Reg) (a : At) (x : Word) : Dev :=
  { d with regs := Tab.set d.regs (rstVal r a) (regKey r a) x }

/-- A field of a register instance. -/
def Dev.get (d : Dev) (f : Fld) (a : At) : Nat := f.of (d.rd f.reg a)

/-- Set a field of a register instance. -/
def Dev.put (d : Dev) (f : Fld) (a : At) (v : Nat) : Dev := d.wr f.reg a (f.ins (d.rd f.reg a) v)

/-- A one-bit field as a truth value. -/
def Dev.bit (d : Dev) (f : Fld) (a : At) : Bool := d.get f a = 1

/-- Set a one-bit field. -/
def Dev.putB (d : Dev) (f : Fld) (a : At) (b : Bool) : Dev := d.put f a b.toNat

/-- The word that a write leaves in one field (R8): RW and RWS take the written bits, W1C clears where a 1 is written,
the others do not change. -/
def Fld.write (f : Fld) (old v : Word) : Word :=
  match f.acc with
  | .rw => f.ins old (f.of v)
  | .rws => f.ins old (f.of v)
  | .w1c => old &&& ~~~ (v &&& f.mask)
  | _ => old

/-- The word that a write of v leaves in a register. -/
def Reg.written (r : Reg) (old v : Word) : Word := r.flds.foldl (fun x f => f.write x v) old

/-- A write that acts on nothing but the fields of the register (R8). -/
def Dev.wrFields (d : Dev) (r : Reg) (a : At) (v : Word) : Dev := d.wr r a (r.written (d.rd r a) v)

/-- Do a step when a condition holds. -/
def Dev.when (d : Dev) (c : Bool) (g : Dev → Dev) : Dev := if c then g d else d

/-- Do a step for every element of a list. -/
def Dev.each {α : Type} (d : Dev) (l : List α) (g : α → Dev → Dev) : Dev := l.foldl (fun d x => g x d) d

/-- Add to a fixed counter: [47:0], saturating at 2^48 - 1 (R476). -/
def Dev.incBy (d : Dev) (r : Reg) (a : At) (n : Nat) : Dev :=
  d.wr r a (BitVec.ofNat 64 (min (2 ^ 48 - 1) ((d.rd r a).toNat % 2 ^ 48 + n)))

/-- Add one to a fixed counter. -/
def Dev.inc (d : Dev) (r : Reg) (a : At) : Dev := d.incBy r a 1

/-- Add one to a field that saturates. -/
def Dev.incF (d : Dev) (f : Fld) (a : At) : Dev := d.put f a (min (2 ^ f.w - 1) (d.get f a + 1))

/-! ## Outputs, time, free values -/

/-- Put an event on the output list. DESIGN CHOICE (log 7). -/
def Dev.emit (d : Dev) (o : OutEv) : Dev := { d with env := { d.env with out := d.env.out ++ [o] } }

/-! ## MSI-X (R228, R243, R466) -/

/-- The place of a vector of function f of port q in the MSI-X tables; port 4 is the management port. -/
def msixKey (q f v : Nat) : Nat := (q * 256 + f) * 1024 + v
/-- PRESUMED (log 143). -/
def Dev.msixEnt (d : Dev) (q f v : Nat) : MsixEnt := Tab.get d.hst.msix MsixEnt.init (msixKey q f v)
/-- PRESUMED (log 143). -/
def Dev.msixPend (d : Dev) (q f v : Nat) (b : Bool) : Dev :=
  { d with hst := { d.hst with pba := Tab.set d.hst.pba false (msixKey q f v) b } }

/-- The message of a vector leaves; while the vector is masked it is pending (R243; PCI Express: PRESUMED).
PRESUMED (log 143). -/
def Dev.msixSend (d : Dev) (q f v : Nat) : Dev :=
  let e := d.msixEnt q f v
  if e.ctl % 2 = 1 then d.msixPend q f v true
  else d.emit (if q = 4 then .mgmtMsix v e.addr e.data else .msix q f v e.addr e.data)

/-- An entry of an MSI-X table is written: a pending message of a vector that is masked no longer leaves. -/
def Dev.msixSet (d : Dev) (q f v : Nat) (e : MsixEnt) : Dev :=
  let d := { d with hst := { d.hst with msix := Tab.set d.hst.msix MsixEnt.init (msixKey q f v) e } }
  if e.ctl % 2 = 0 && Tab.get d.hst.pba false (msixKey q f v) then (d.msixPend q f v false).msixSend q f v else d

/-- The MSI-X table of a function is cleared (R227). -/
def Dev.msixClear (d : Dev) (q f : Nat) : Dev :=
  { d with hst := { d.hst with msix := d.hst.msix.filter (fun e => e.1 / 1024 ≠ q * 256 + f),
                               pba := d.hst.pba.filter (fun e => e.1 / 1024 ≠ q * 256 + f) } }

/-- Elapsed time in ns. -/
def Dev.now (d : Dev) : Nat := d.env.time

/-- Local fabric time in ns, 64 bits (R395, TIM_NOW). -/
def Dev.fabricNow (d : Dev) : Nat := ((d.env.time + d.env.fabric) % (2 ^ 64 : Int)).toNat

/-- Use up one number of the random stream. DESIGN CHOICE (log 9). -/
def Dev.drawn (d : Dev) : Dev := { d with env := { d.env with rndCtr := d.env.rndCtr + 1 } }

/-- The next random number. DESIGN CHOICE (log 9). -/
def Dev.rnd (d : Dev) : Nat := Config.random d.env.rndCtr

/-- Use up one free value. DESIGN CHOICE (log 8). -/
def Dev.freed (d : Dev) : Dev := { d with env := { d.env with freeCtr := d.env.freeCtr + 1 } }

/-- The next free value. DESIGN CHOICE (log 8). -/
def Dev.freeVal (d : Dev) : Nat := Config.freeValue d.env.freeCtr

/-! ## Bytes and bits -/

/-- Bits [lo+w-1:lo] of a number. -/
def bits (x lo w : Nat) : Nat := (x >>> lo) % 2 ^ w

/-- A number as little-endian bytes (R6). -/
def toBytes : Nat → Nat → List Byte
  | 0, _ => []
  | n + 1, x => BitVec.ofNat 8 x :: toBytes n (x >>> 8)

/-- Little-endian bytes as a number. -/
def ofBytes : List Byte → Nat
  | [] => 0
  | b :: t => b.toNat + 256 * ofBytes t

/-- One bit step of CRC-32C, reflected (polynomial 0x1EDC6F41 reflected is 0x82F63B78; R57). -/
def crcBit (c : Nat) : Nat := if c % 2 = 1 then (c / 2) ^^^ 0x82F63B78 else c / 2

/-- One byte of CRC-32C. -/
def crcByte (c : Nat) (b : Byte) : Nat :=
  crcBit (crcBit (crcBit (crcBit (crcBit (crcBit (crcBit (crcBit (c ^^^ b.toNat))))))))

/-- CRC-32C of a byte list (R57). -/
def crc32c (l : List Byte) : Nat := (l.foldl crcByte 0xFFFFFFFF) ^^^ 0xFFFFFFFF

/-- The 56 bytes of a flit body. -/
def bodyBytes (b : Body) : List Byte := toBytes 56 b.toNat

/-- A body of 56 bytes. -/
def bodyOf (l : List Byte) : Body := BitVec.ofNat 448 (ofBytes l)

/-- Bits of a flit body. -/
def fb (b : Body) (lo w : Nat) : Nat := bits b.toNat lo w

/-- Set bits of a flit body. -/
def setFb (b : Body) (lo w v : Nat) : Body :=
  (b &&& ~~~ (BitVec.ofNat 448 ((2 ^ w - 1) <<< lo))) ||| BitVec.ofNat 448 ((v % 2 ^ w) <<< lo)

/-- A number in two's complement of width w. -/
def signed (w x : Nat) : Int := if x % 2 ^ w < 2 ^ (w - 1) then (x % 2 ^ w : Nat) else ((x % 2 ^ w : Nat) : Int) - (2 ^ w : Nat)

/-- The w low bits of an integer in two's complement. -/
def unsigned (w : Nat) (x : Int) : Nat := (x % (2 ^ w : Nat)).toNat

/-- Remove the first element equal to x. -/
def dropFirst {α : Type} [DecidableEq α] (x : α) : List α → List α
  | [] => []
  | a :: t => if a = x then t else a :: dropFirst x t

end Sys2Proof.Machine
end

