-- ==== Sys2Proof/Machine/Flags.lean ====
section
/-! DEFINITION. The status codes (Table 9-11), link states, drop reasons and fault codes that registers, completions and
records carry. -/

namespace Sys2Proof.Machine

/-! Status codes (Table 9-11). -/
def ST_OK : Nat := 0x00
def ST_PARTIAL : Nat := 0x01
def ST_TRUNCATED : Nat := 0x02
def ST_NOT_READY : Nat := 0x10
def ST_BUSY_IN_SERVICE : Nat := 0x11
def ST_INCOMPLETE : Nat := 0x20
def ST_FLUSHED : Nat := 0x21
def ST_TIMEOUT : Nat := 0x22
def ST_NOT_PERMITTED : Nat := 0x23
def ST_WALK_ERROR : Nat := 0x24
def ST_HOST_ERROR : Nat := 0x25
def ST_MEM_ERROR : Nat := 0x26
def ST_CONN_ERROR : Nat := 0x27
def ST_DOORBELL : Nat := 0x28
def ST_CQ_STALL : Nat := 0x29
def ST_NO_RESOURCE : Nat := 0x2A
def ST_BAD_PARAM : Nat := 0x30
def ST_BAD_STATE : Nat := 0x31
def ST_UNSUPPORTED : Nat := 0x32

/-! Link states (Table 3-19). -/
def DISABLED : Nat := 0
def TRAINING : Nat := 1
def UP : Nat := 2
def RETRAIN : Nat := 3
def DOWN : Nat := 4
def OUT_OF_SERVICE : Nat := 5

/-! Reasons of LNK_STAT.LAST_FAIL (Table 3-19). -/
def failTIMEOUT : Nat := 1
def failLANE : Nat := 2
def failORDER : Nat := 3
def failFABRIC : Nat := 4
def failMODE : Nat := 5
def failGREENWARE : Nat := 6
def failVERSION : Nat := 7
def failPEER_OOS : Nat := 8
def causeREPLAY_LIMIT : Nat := 9
def causeACK_RANGE : Nat := 10
def causeAUDIT_WINDOW : Nat := 11
def causeLANE_LOSS : Nat := 12
def causeCOMMAND : Nat := 13
def causePEER_REQUEST : Nat := 14

/-! Drop reasons (Table 4-6). -/
def dropPOISON : Nat := 1
def dropCRC : Nat := 2
def dropHEADER : Nat := 3
def dropHOPS : Nat := 4
def dropEPOCH : Nat := 5
def dropDISCARD : Nat := 6
def dropUNREACH : Nat := 7
def dropLADDER : Nat := 8
def dropGROUP : Nat := 9
def dropNOEP : Nat := 10
def dropLINKINC : Nat := 11
def dropRELEASE : Nat := 12
def dropRESET : Nat := 13
def dropBRIDGE : Nat := 14

/-! Receiver adaptation states (Table 2-12). -/
def aOFF : Nat := 0
def aACQUIRE : Nat := 1
def aADAPT : Nat := 2
def aTRACK : Nat := 3
def aHOLD : Nat := 4
def aFAIL : Nat := 5

/-! Domain states (Table 16-11). -/
def domRUN : Nat := 0
def domENTERING : Nat := 1
def domSTOP : Nat := 2
def domWAKING : Nat := 3

/-! Fault sources (Table 17-2). -/
def srcLINK : Nat := 1
def srcBRIDGE : Nat := 2
def srcCONSERVE : Nat := 3
def srcMEMORY : Nat := 4
def srcNOC : Nat := 5
def srcSAG : Nat := 6
def srcPWR : Nat := 7
def srcCLK : Nat := 8
def srcMGT : Nat := 9
def srcROUTE : Nat := 10
def srcZORURI : Nat := 11
def srcHOST : Nat := 12
def srcRESET : Nat := 13
def srcKILN : Nat := 14

end Sys2Proof.Machine
end

