-- ==== Sys2Proof/Machine/Operands.lean ====
section
/-! DEFINITION. The operand forms of the commands: lanes, ports and clusters under the cluster map, control words and flit
bodies, packet headers and whole packets, and the accessors of the records that lanes, ports, channels, packets and cells
have in the state. -/

namespace Sys2Proof.Machine

/-! ## Lanes, ports, clusters (R12, R36) -/

/-- The region of a lane within the module, 0 to 15 (Table 1-6). -/
def laneRegion (l : Nat) : Nat := l / 32
/-- The die of a lane or port. -/
def laneDie (l : Nat) : Nat := l / 128

/-- The lane code of Table 2-2 in a WIDTHS value. -/
def mapCode (widths i : Nat) : Nat := bits widths (2 * i) 2

/-- The number of lanes of a port by its lane code. -/
def codeWidth (c : Nat) : Nat := match c with | 1 => 1 | 2 => 2 | 3 => 4 | _ => 0

/-- A cluster map is valid (R36): walking the lanes, `left` lanes of the open port remain. -/
def mapValidFrom (widths : Nat) : Nat → Nat → Nat → Bool
  | 0, _, left => left = 0
  | n + 1, i, left =>
    let c := mapCode widths i
    if left > 0 then c = 0 && mapValidFrom widths n (i + 1) (left - 1)
    else c ≠ 0 && i % codeWidth c = 0 && mapValidFrom widths n (i + 1) (codeWidth c - 1)

/-- R36: a map of eight lanes is valid. -/
def mapValid (widths : Nat) : Bool := mapValidFrom widths 8 0 0

/-- The WIDTHS in force for a lane's cluster. -/
def Dev.widths (d : Dev) (l : Nat) : Nat := d.get LAN_CLMAP_WIDTHS ⟨l / 128, (l % 128) / 8⟩

/-- The width of the port that starts at a lane; 0 when no port starts there (R38). -/
def Dev.pwidth (d : Dev) (p : Nat) : Nat := if p < 512 then codeWidth (mapCode (d.widths p) (p % 8)) else 0

/-- R38: a port exists when the current map of its die's cluster starts one at its number. -/
def Dev.pexists (d : Dev) (p : Nat) : Bool := d.pwidth p ≠ 0

/-- The lanes of a port. -/
def Dev.plances (d : Dev) (p : Nat) : List Nat := (List.range (d.pwidth p)).map (p + ·)

/-- The port that contains a lane: the nearest port start at or below it. -/
def Dev.portOf (d : Dev) (l : Nat) : Nat :=
  if d.pexists l then l
  else if d.pexists (l - 1) && l % 8 ≥ 1 then l - 1
  else if d.pexists (l - 2) && l % 8 ≥ 2 then l - 2
  else l - 3

/-- The ports of a die in ascending order. -/
def Dev.portsOfDie (d : Dev) (q : Nat) : List Nat := ((List.range 128).map (q * 128 + ·)).filter d.pexists

/-- Every port of the module. -/
def Dev.ports (d : Dev) : List Nat := (List.range 512).filter d.pexists

/-! ## Link and channel records -/

/-- The link layer of a port. -/
def Dev.link (d : Dev) (p : Nat) : Link := Tab.get d.lnk.links Link.init p
/-- Replace the link layer of a port. -/
def Dev.setLink (d : Dev) (p : Nat) (l : Link) : Dev :=
  { d with lnk := { d.lnk with links := Tab.set d.lnk.links Link.init p l } }
/-- Change the link layer of a port. -/
def Dev.modLink (d : Dev) (p : Nat) (g : Link → Link) : Dev := d.setLink p (g (d.link p))

/-- A virtual channel of a port. -/
def Dev.chan (d : Dev) (p v : Nat) : Chan := Tab.get d.lnk.chans Chan.init (p * 18 + v)
/-- Replace a virtual channel. -/
def Dev.setChan (d : Dev) (p v : Nat) (c : Chan) : Dev :=
  { d with lnk := { d.lnk with chans := Tab.set d.lnk.chans Chan.init (p * 18 + v) c } }
/-- Change a virtual channel. -/
def Dev.modChan (d : Dev) (p v : Nat) (g : Chan → Chan) : Dev := d.setChan p v (g (d.chan p v))

/-- The record of a lane. -/
def Dev.lane (d : Dev) (l : Nat) : LaneSt := Tab.get d.lnk.lanes LaneSt.init l
/-- Change the record of a lane. -/
def Dev.modLane (d : Dev) (l : Nat) (g : LaneSt → LaneSt) : Dev :=
  { d with lnk := { d.lnk with lanes := Tab.set d.lnk.lanes LaneSt.init l (g (d.lane l)) } }

/-- The link state of a port (LNK_STAT.STATE). -/
def Dev.lstate (d : Dev) (p : Nat) : Nat := d.get LNK_STAT_STATE (onLane p)
/-- A drain is under way on a port. DEDUCED (log 113). -/
def Dev.draining (d : Dev) (p : Nat) : Bool := d.bit LNK_STAT_DRAINING (onLane p)
/-- Greenware is in force on a port (LNK_STAT.MODE). -/
def Dev.greenware (d : Dev) (p : Nat) : Bool := d.bit LNK_STAT_MODE (onLane p)

/-! ## Router records -/

/-- A packet of the router. -/
def Dev.pkt (d : Dev) (i : Nat) : Option Pkt := Tab.find d.rtr.pkts i
/-- Store a packet. -/
def Dev.setPkt (d : Dev) (i : Nat) (k : Pkt) : Dev := { d with rtr := { d.rtr with pkts := Tab.put d.rtr.pkts i k } }
/-- Forget a packet. -/
def Dev.delPkt (d : Dev) (i : Nat) : Dev := { d with rtr := { d.rtr with pkts := Tab.del d.rtr.pkts i } }
/-- Change a packet that exists. -/
def Dev.modPkt (d : Dev) (i : Nat) (g : Pkt → Pkt) : Dev :=
  match d.pkt i with
  | some k => d.setPkt i (g k)
  | none => d

/-- An egress port. -/
def Dev.eport (d : Dev) (p : Nat) : EPort := Tab.get d.rtr.eports EPort.init p
/-- Change an egress port. -/
def Dev.modEport (d : Dev) (p : Nat) (g : EPort → EPort) : Dev :=
  { d with rtr := { d.rtr with eports := Tab.set d.rtr.eports EPort.init p (g (d.eport p)) } }

/-- A cell that is not free. -/
def Dev.cell (d : Dev) (c : Nat) : Option Cell := Tab.find d.rtr.cells c
/-- Store a cell. -/
def Dev.setCell (d : Dev) (c : Nat) (x : Cell) : Dev := { d with rtr := { d.rtr with cells := Tab.put d.rtr.cells c x } }

/-! ## Control words (Table 3-2) -/

def ctlKind (c : Ctrl) : Nat := bits c.toNat 30 2
def ctlAck (c : Ctrl) : Nat := bits c.toNat 15 15
def ctlCcnt (c : Ctrl) : Nat := bits c.toNat 12 3
def ctlCvc (c : Ctrl) : Nat := bits c.toNat 7 5
def ctlFvc (c : Ctrl) : Nat := bits c.toNat 2 5
def ctlHead (c : Ctrl) : Bool := bits c.toNat 1 1 = 1
def ctlPoison (c : Ctrl) : Bool := bits c.toNat 0 1 = 1

/-- Build a control word. -/
def mkCtl (kind ack ccnt cvc fvc : Nat) (head poison : Bool) : Ctrl :=
  BitVec.ofNat 32 ((kind % 4) <<< 30 ||| (ack % 32768) <<< 15 ||| (ccnt % 8) <<< 12 ||| (cvc % 32) <<< 7 |||
    (fvc % 32) <<< 2 ||| head.toNat <<< 1 ||| poison.toNat)

/-- The index v of a virtual-channel code, when the code is not reserved (R59, Table 3-4). -/
def vcIndex (code : Nat) : Option Nat :=
  if code / 8 < 3 ∧ code % 8 < 6 then some (6 * (code / 8) + code % 8) else none

/-- The virtual-channel code of index v. -/
def vcCode (v : Nat) : Nat := (v / 6) * 8 + v % 6

/-! ## Header fields (Tables 4-3 and 4-4) -/

def hType (b : Body) : Nat := fb b 0 6
def hFlits (b : Body) : Nat := fb b 6 7
def hVn (b : Body) : Nat := fb b 13 2
def hStep (b : Body) : Nat := fb b 15 3
def hTc (b : Body) : Nat := fb b 18 4
def hEpoch (b : Body) : Nat := fb b 22 1
def hCmark (b : Body) : Nat := fb b 23 1
def hHops (b : Body) : Nat := fb b 24 4
def hMc (b : Body) : Nat := fb b 28 1
def hEnc (b : Body) : Nat := fb b 29 1
def hConn (b : Body) : Nat := fb b 30 1
def hDest (b : Body) : Nat := fb b 32 25
def hGroup (b : Body) : Nat := fb b 32 16
def hAge (b : Body) : Nat := fb b 57 7
def hSrc (b : Body) : Nat := fb b 64 25
def hDconn (b : Body) : Nat := fb b 96 20
def hOplen (b : Body) : Nat := fb b 116 5
def hOpflags (b : Body) : Nat := fb b 121 7
def hPsn (b : Body) : Nat := fb b 128 32
def hInc (b : Body) : Nat := fb b 160 32
def hPlen (b : Body) : Nat := fb b 192 13

/-- The header with the mutable fields STEP, CMARK, HOPS and AGE taken as zero (R93, R101). -/
def hImmutable (b : Body) : Body := setFb (setFb (setFb (setFb b 15 3 0) 23 1 0) 24 4 0) 57 7 0

/-- The virtual network that Table 4-5 gives for a type; none when the type is reserved. -/
def typeVn (t : Nat) : Option Nat :=
  if 1 ≤ t ∧ t ≤ 7 then some 0
  else if 0x10 ≤ t ∧ t ≤ 0x14 then some 1
  else if 0x20 ≤ t ∧ t ≤ 0x25 then some 2
  else none

/-- The control form is allowed for a type (Table 4-5). -/
def typeControl (t : Nat) : Bool := t ≠ 0x21
/-- The data form is allowed for a type (Table 4-5). -/
def typeData (t : Nat) : Bool :=
  t = 0x01 || t = 0x04 || t = 0x05 || t = 0x07 || t = 0x12 || t = 0x14 || t = 0x20 || t = 0x21 || t = 0x22
/-- The type is routed by GROUP (Table 4-5). -/
def typeMc (t : Nat) : Bool := 0x20 ≤ t
/-- CONN of the type (Table 4-5). -/
def typeConn (t : Nat) : Bool := t < 0x20 && t ≠ 0x07 && t ≠ 0x14

/-- R106, but for the channel on which the head arrived: the header is malformed. -/
def malformed (b : Body) : Bool :=
  hVn b = 3 || hStep b ≥ 6 || typeVn (hType b) ≠ some (hVn b) ||
  (hFlits b = 1 && !typeControl (hType b)) || (hFlits b ≥ 2 && !typeData (hType b)) ||
  (hFlits b ≥ 2 && (hPlen b > 4096 || hFlits b ≠ (hPlen b + 55) / 56 + 2)) ||
  (hFlits b = 1 && hOplen b > 24) ||
  (hMc b = 1) ≠ typeMc (hType b) || (hConn b = 1) ≠ typeConn (hType b)

/-- The PCRC of a packet given by its bodies (R101): the mutable fields count as zero, the last four bytes of the last
flit are left out. -/
def pcrcOf (bodies : List Body) : Nat :=
  match bodies with
  | [] => 0
  | h :: t =>
    let all := (bodyBytes (hImmutable h)) ++ (t.map bodyBytes).flatten
    crc32c (all.take (all.length - 4))

/-- The PCRC field, in bytes 52 to 55 of the last flit (Tables 4-1, 4-2). -/
def pcrcField (bodies : List Body) : Nat :=
  match bodies.getLast? with
  | some b => fb b 416 32
  | none => 0

/-! ## Whole packets -/

/-- The routing prefix of a packet as its source writes it (R91, R93: STEP, CMARK, HOPS and AGE are 0). -/
def Packet.prefixNat (k : Packet) (flits : Nat) : Nat :=
  (k.type % 64) ||| (flits % 128) <<< 6 ||| ((typeVn k.type).getD 3) <<< 13 ||| (k.tc % 16) <<< 18 |||
  (k.epoch % 2) <<< 22 ||| (typeMc k.type).toNat <<< 28 ||| k.enc.toNat <<< 29 |||
  k.conn.toNat <<< 30 ||| (k.dest % 2 ^ 25) <<< 32 ||| (k.src % 2 ^ 25) <<< 64

/-- Payload flits of a data packet (R89). -/
def Packet.pf (k : Packet) : Nat := (k.payload.length + 55) / 56

/-- FLITS of a packet (R88, R89). -/
def Packet.flitCount (k : Packet) : Nat := if k.control then 1 else k.pf + 2

/-- The payload bytes of flit i as a body. -/
def payloadBody (l : List Byte) (i : Nat) : Body := bodyOf ((l.drop (56 * i)).take 56)

/-- The bodies of a packet with PCRC zero (Tables 4-1, 4-2, 4-4). -/
def Packet.rawBodies (k : Packet) : List Body :=
  let short := k.prefixNat k.flitCount ||| (k.dconn % 2 ^ 20) <<< 96 ||| (k.opflags % 128) <<< 121 |||
    (k.psn % 2 ^ 32) <<< 128
  if k.control then
    [BitVec.ofNat 448 (short ||| (k.oper.length % 32) <<< 116 ||| (ofBytes (k.oper.take 24)) <<< 160 |||
      (k.tag % 2 ^ 64) <<< 352)]
  else
    [BitVec.ofNat 448 (short ||| (k.inc % 2 ^ 32) <<< 160 ||| (k.payload.length % 8192) <<< 192 |||
      (ofBytes (k.oper.take 16)) <<< 256)] ++
    (List.range k.pf).map (payloadBody k.payload) ++
    [BitVec.ofNat 448 (k.tag % 2 ^ 128)]

/-- Put the PCRC into the last body. -/
def withPcrc (bodies : List Body) : List Body :=
  bodies.dropLast ++ (bodies.getLast?.map (fun b => setFb b 416 32 (pcrcOf bodies))).toList

/-- The bodies of a packet as its source sends them. -/
def Packet.bodies (k : Packet) : List Body := withPcrc k.rawBodies

/-- A packet read back from its bodies. -/
def Packet.ofBodies (bodies : List Body) : Packet :=
  let h := bodies.headD 0
  let control := hFlits h = 1
  { type := hType h, tc := hTc h, epoch := hEpoch h, cmark := hCmark h = 1, enc := hEnc h = 1, conn := hConn h = 1,
    dest := hDest h, src := hSrc h, dconn := hDconn h, opflags := hOpflags h, psn := hPsn h,
    inc := if control then 0 else hInc h, control := control,
    oper := if control then toBytes (hOplen h) (fb h 160 192) else toBytes 16 (fb h 256 128),
    payload := if control then []
      else (((bodies.drop 1).dropLast.map bodyBytes).flatten).take (hPlen h),
    tag := if control then fb h 352 64 else fb (bodies.getLastD 0) 0 128 }

/-- Node, host port and function of an endpoint address (Table 1-8). -/
def epNode (e : Nat) : Nat := e / 256 % 131072
def epHport (e : Nat) : Nat := e / 64 % 4
def epFunc (e : Nat) : Nat := e % 64

end Sys2Proof.Machine
end

