-- ==== Sys2Proof/Machine/Records.lean ====
section
/-! DEFINITION. Fault records, the Oasis store, the carry list and FAULT_N (spec/17): raising a fault, merging, first and
next rungs, rendering a record. Performing a rung action is a reset and stands in Resets.lean. -/

namespace Sys2Proof.Machine

/-! ## Locations -/

def locUnit (d ukind i : Nat) : Loc := ⟨d, 1, ukind, i, 31⟩
def locLane (l : Nat) : Loc := locUnit (l / 128) 0 l
def locPort (p : Nat) : Loc := locUnit (p / 128) 1 p
def locChan (p v : Nat) : Loc := ⟨p / 128, 1, 1, p, v⟩
def locBridge (d e : Nat) : Loc := locUnit d 5 e
def locHost (d : Nat) : Loc := locUnit d 7 0
def locCluster (c : Nat) : Loc := ⟨c / 16, 2, 0, c, 31⟩
def locRegion (m : Nat) : Loc := ⟨m / 4, 3, 0, m, 31⟩
def locDie (d : Nat) : Loc := ⟨d, 4, 0, 0, 31⟩
def locModule : Loc := ⟨0, 5, 0, 0, 31⟩

/-- The levels that contain a location, its own first (R437, Table 17-4); 6 is the isolation of the module. -/
def Loc.levels (l : Loc) : List Nat :=
  match l.level with
  | 1 =>
    if l.ukind ≤ 1 then [1, 2, 3, 4, 5, 6]
    else if l.ukind ≤ 4 then [1, 3, 4, 5, 6]
    else [1, 4, 5, 6]
  | 2 => [2, 3, 4, 5, 6]
  | 3 => [3, 4, 5, 6]
  | 4 => [4, 5, 6]
  | _ => [5, 6]

/-- The region of the module that a location lies in: a lane, port, engine or reduction engine, a cluster, a region. -/
def Loc.region (l : Loc) : Option Nat :=
  match l.level with
  | 1 => if l.ukind ≤ 1 then some (l.index / 32) else if l.ukind ≤ 4 then some (l.die * 4 + l.index % 4) else none
  | 2 => some (l.index / 4)
  | 3 => some l.index
  | _ => none

/-- The cluster that a lane, a port or a cluster lies in. -/
def Loc.cluster (l : Loc) : Option Nat :=
  match l.level with
  | 1 => if l.ukind ≤ 1 then some (l.index / 8) else none
  | 2 => some l.index
  | _ => none

/-- The scope of a reset contains a location (R20, R437). -/
def Loc.contains (big small : Loc) : Bool :=
  match big.level with
  | 1 => small.level = 1 && small.die = big.die && small.ukind = big.ukind && small.index = big.index
  | 2 => small.cluster = some big.index
  | 3 => small.region = some big.index
  | 4 => small.level ≤ 4 && small.die = big.die
  | _ => true

/-- The rung that an action at rung `r` counts as: a rung-4 action on Q0 counts as rung 5 (R437). -/
def countedRung (l : Loc) (r : Nat) : Nat := if r = 4 ∧ l.die = 0 then 5 else r

/-- The first rung of a record by its start and ceiling (R437). -/
def firstRung (l : Loc) (start ceil : Nat) : Nat :=
  if start = 0 then 0
  else match l.levels.find? (start ≤ ·) with
    | some r => if countedRung l r ≤ ceil then r else 0
    | none => 0

/-- The next rung after `r`, at or below the ceiling (R437). -/
def nextRung (l : Loc) (r ceil : Nat) : Option Nat :=
  match l.levels.find? (countedRung l r < ·) with
  | some n => if countedRung l n ≤ ceil then some n else none
  | none => none

/-! ## Settings of a source (R435) -/

def Dev.srcField (d : Dev) (f : Fld) (s t : Nat) : Nat :=
  if s = 7 ∨ s = 8 then f.of (rstVal .FLT_SRCCFG ⟨0, s * 16 + t⟩) else d.get f ⟨0, s * 16 + t⟩

/-- The ceiling in force: a CEILING above MAXCEIL acts as MAXCEIL. -/
def Dev.srcCeil (d : Dev) (s t : Nat) : Nat := min (d.srcField FLT_SRCCFG_CEILING s t) (d.srcField FLT_SRCCFG_MAXCEIL s t)
/-- The start rung in force: a START above CEILING acts as CEILING. -/
def Dev.srcStart (d : Dev) (s t : Nat) : Nat := min (d.srcField FLT_SRCCFG_START s t) (d.srcCeil s t)
/-- The window acts at once (R435); source 8 takes its window from CLK_CTRL.HOLDOVER and never does. -/
def Dev.srcAtOnce (d : Dev) (s t : Nat) : Bool := s ≠ 8 && d.srcField FLT_SRCCFG_WINDOW s t = 0
def Dev.srcFaultN (d : Dev) (s t : Nat) : Bool := d.srcField FLT_SRCCFG_FAULTN s t = 1

/-! ## Records -/

/-- The record ID of a slot (Table 17-1). -/
def FRec.id (r : FRec) (slot : Nat) : Nat := slot % 256 + (r.gen % 256) * 256

/-- The four words of a record (Table 17-1). -/
def FRec.words (r : FRec) (slot : Nat) : List Nat :=
  [r.id slot ||| (r.source % 32) <<< 16 ||| (r.subtype % 16) <<< 24 ||| (r.rung % 8) <<< 28 ||| (r.ceiling % 8) <<< 32 |||
     (r.state % 4) <<< 36 ||| (r.outcome % 8) <<< 38 ||| (r.count % 65536) <<< 48,
   (r.loc.die % 4) ||| (r.loc.level % 8) <<< 2 ||| (r.loc.ukind % 8) <<< 5 ||| (r.loc.index % 1024) <<< 8 |||
     (r.loc.vc % 32) <<< 18 ||| (r.detail % 2 ^ 40) <<< 24,
   r.time % 2 ^ 64,
   r.elapsed % 2 ^ 32]

/-- A record that the ladder still holds: OPEN or ACTING. -/
def FRec.live (r : FRec) : Bool := r.state = 1 || r.state = 2

/-- The record of a slot; an unlisted slot is FREE. -/
def Dev.frec (d : Dev) (slot : Nat) : Option FRec := Tab.find d.flt.recs slot
def Dev.setRec (d : Dev) (slot : Nat) (r : FRec) : Dev :=
  { d with flt := { d.flt with recs := Tab.put d.flt.recs slot r } }

/-- The live record of a source, subtype and location (R432). -/
def Dev.liveRec (d : Dev) (s t : Nat) (l : Loc) : Option (Nat × FRec) :=
  d.flt.recs.find? (fun e => e.2.live && e.2.source = s && e.2.subtype = t && e.2.loc = l)

/-- The slot a new record takes (R432): the lowest FREE one, else the one that was CLOSED earliest. -/
def Dev.newSlot (d : Dev) : Option Nat :=
  match (List.range 256).find? (fun n => match d.frec n with | some r => r.state = 0 | none => true) with
  | some n => some n
  | none =>
    (d.flt.recs.filter (fun e => e.2.state = 3)).foldl
      (fun best e => match best with
        | some b => (match d.frec b with
          | some rb => if e.2.order < rb.order then some e.1 else some b
          | none => some e.1)
        | none => some e.1) none

/-! ## The Oasis store (R443 to R445) -/

/-- Store write tokens after the time that has passed: 1,000 a second, bursts of 64 (R445). -/
def Dev.storeTokens (d : Dev) : Nat := min 64 (d.flt.tokens + (d.now - d.flt.tokenStamp) / 1000000)

/-- Write a store entry of a record, or count it as dropped when the rate limit is reached (R445). -/
def Dev.storeWrite (d : Dev) (words : List Nat) (kind rung : Nat) : Dev :=
  let tk := d.storeTokens
  if tk = 0 then
    { d with flt := { d.flt with dropped := min 65535 (d.flt.dropped + 1) } }.incF FLT_STORESTAT_DROPPED onMod
  else
    { d with flt := { d.flt with
        store := Tab.put d.flt.store d.flt.storeNext
          ⟨d.flt.storeSeq + 1, d.now / 1000, words, kind, rung, d.flt.dropped⟩,
        storeSeq := d.flt.storeSeq + 1, storeNext := (d.flt.storeNext + 1) % 4096, dropped := 0,
        tokens := tk - 1,
        tokenStamp := if tk = 64 then d.now else d.flt.tokenStamp + (tk - d.flt.tokens) * 1000000 } }

/-! ## FAULT_N (R441, R442) -/

/-- The pin: the OR of the latches and FORCE, low for at least 1 ms after the latest cause (R441). -/
def FltG.pin (f : FltG) : Bool := f.latch || f.isolate || f.shutdown || f.force || f.holding

/-- Change the FAULT_N state, showing a change of the pin. -/
def Dev.faultN (d : Dev) (g : FltG → FltG) : Dev :=
  let f := g d.flt
  { d with flt := f }.when (f.pin ≠ d.flt.pin) (·.emit (.pin "FAULT_N" f.pin))

/-! ## Raising a fault (R432, R433, R439) -/

/-- A merge (R432): COUNT and ELAPSED; the condition is now present. -/
def FRec.merge (r : FRec) (now : Nat) : FRec :=
  { r with count := min 65535 (r.count + 1), elapsed := min (2 ^ 32 - 1) ((now - r.time) / 1000), merged := true }

/-- The carry entry that a raise matches (R439). -/
def Dev.carryMatch (d : Dev) (s t : Nat) (l : Loc) : Option Carry :=
  d.flt.carry.find? (fun c => c.source = s && c.subtype = t && c.loc = l)

/-- Interrupt module firmware, and the management port while IRQ_EN is 1 (R432). -/
def Dev.faultIrq (d : Dev) (id : Nat) : Dev :=
  (d.emit (.fwIrq id)).when (d.bit FLT_CTRL_IRQ_EN onMod) (·.msixSend 4 0 (d.get FLT_CTRL_VEC onMod))

/-- Write a new record into a slot (R432, R437, R439), interrupt, and store the raise when R445 selects it. A window of
0 makes the record due at once (R435). -/
def Dev.openRec (d : Dev) (slot s t : Nat) (l : Loc) (detail : Nat) : Dev :=
  let start := d.srcStart s t
  let ceil := d.srcCeil s t
  let carried := d.carryMatch s t l
  let rung := match carried with
    | some c => if c.ceiling = 6 then 6 else 5
    | none => firstRung l start ceil
  let gen := match d.frec slot with | some r => r.gen + 1 | none => 0
  let r : FRec := ⟨gen % 256, s, t, rung, ceil, 1, 0, 1, l, detail, d.fabricNow, 0, false, 0⟩
  let d := { d with flt := { d.flt with
      recs := Tab.put d.flt.recs slot r,
      carry := match carried with | some c => dropFirst c d.flt.carry | none => d.flt.carry,
      due := if d.srcAtOnce s t then d.flt.due ++ [slot] else d.flt.due } }
  ((d.inc .FLT_RAISED onMod).faultIrq (r.id slot)).when (d.get FLT_CTRL_STORE_RUNG onMod ≤ start)
    (·.storeWrite (r.words slot) 1 0)

/-- No slot is free (R433): counted, stored when selected, and the action of the start rung falls due without a window. -/
def Dev.noSlot (d : Dev) (s t : Nat) (l : Loc) (detail : Nat) : Dev :=
  let start := d.srcStart s t
  let rung := firstRung l start (d.srcCeil s t)
  let r : FRec := ⟨0, s, t, rung, d.srcCeil s t, 1, 0, 1, l, detail, d.fabricNow, 0, false, 0⟩
  (((d.inc .FLT_NOSLOT onMod).put FLT_STAT_OVERFLOW onMod 1).when (d.get FLT_CTRL_STORE_RUNG onMod ≤ start)
    (·.storeWrite (r.words 0) 1 0)).when (rung ≠ 0)
    (fun d => { d with flt := { d.flt with dueNoSlot := d.flt.dueNoSlot ++ [(s, t, l)] } })

/-- Raise a fault (R432): merge into the live record of the same source, subtype and location, or open a record. -/
def Dev.raise (d : Dev) (s t : Nat) (l : Loc) (detail : Nat) : Dev :=
  match d.liveRec s t l with
  | some (slot, r) => (d.setRec slot (r.merge d.fabricNow)).inc .FLT_MERGED onMod
  | none =>
    match d.newSlot with
    | some slot => d.openRec slot s t l detail
    | none => d.noSlot s t l detail

/-- Close a record with an outcome (Table 17-3). -/
def Dev.closeRec (d : Dev) (slot outcome : Nat) : Dev :=
  match d.frec slot with
  | some r =>
    { d.setRec slot { r with state := 3, outcome := outcome, order := d.flt.closeOrder } with
      flt := { (d.setRec slot { r with state := 3, outcome := outcome, order := d.flt.closeOrder }).flt with
        closeOrder := d.flt.closeOrder + 1 } }
  | none => d

/-- How many records are in a state (FLT_STAT.OPEN and ACTING). -/
def Dev.recCount (d : Dev) (st : Nat) : Nat := Tab.count d.flt.recs (fun _ r => r.state = st)

end Sys2Proof.Machine
end

