-- ==== Sys2Proof/Machine/Domains.lean ====
section
/-! DEFINITION. The states of the domains, regions and die cores (Tables 16-5 and 16-11): reading them, arrivals that abort an
entry, wakes; the dies in reset (R26). -/

namespace Sys2Proof.Machine

/-! ## Domains (Table 16-11) -/

/-- The state of region m, 0 to 15. -/
def Dev.regionState (d : Dev) (m : Nat) : Nat := bits (d.get PWR_DOMSTAT_REGION onMod) (2 * m) 2
/-- The state of the core of die q. -/
def Dev.dieState (d : Dev) (q : Nat) : Nat := bits (d.get PWR_DOMSTAT_DIE onMod) (2 * q) 2
def Dev.setRegionState (d : Dev) (m st : Nat) : Dev :=
  let x := d.get PWR_DOMSTAT_REGION onMod
  d.put PWR_DOMSTAT_REGION onMod (x - (bits x (2 * m) 2) * 4 ^ m + (st % 4) * 4 ^ m)
def Dev.setDieState (d : Dev) (q st : Nat) : Dev :=
  let x := d.get PWR_DOMSTAT_DIE onMod
  d.put PWR_DOMSTAT_DIE onMod (x - (bits x (2 * q) 2) * 4 ^ q + (st % 4) * 4 ^ q)

/-- Region m is in RUN. -/
def Dev.regionRun (d : Dev) (m : Nat) : Bool := d.regionState m = domRUN
/-- Region m is in Stop or waking: it has no bank (R28). -/
def Dev.regionOff (d : Dev) (m : Nat) : Bool := d.regionState m = domSTOP || d.regionState m = domWAKING
/-- The bridge ends of die q are off while the die is in Stop (R28). -/
def Dev.dieOff (d : Dev) (q : Nat) : Bool := d.dieState q = domSTOP || d.dieState q = domWAKING

/-- A reset of the die, or of the module, is under way (R26). -/
def Dev.dieInReset (d : Dev) (q : Nat) : Bool :=
  d.flt.resets.any (fun l => l.level ≥ 5 || (l.level = 4 && l.die = q))

/-- R25: a reset whose scope holds port p is under way: the port is dead. -/
def Dev.portInReset (d : Dev) (p : Nat) : Bool := d.flt.resets.any (fun l => l.contains (locPort p))

/-- Die q takes no flit over its bridges now: it is in Stop or in reset (R25, R28). -/
def Dev.dieAway (d : Dev) (q : Nat) : Bool := d.dieOff q || d.dieInReset q

/-! ## Commands of a die (R417 to R422) -/

/-- The command of a die ends with a status. -/
def Dev.domDone (d : Dev) (q st : Nat) : Dev :=
  ({ d with pwr := { d.pwr with cmd := Tab.del d.pwr.cmd q } }.put PWR_DOMCTL_BUSY ⟨q, 0⟩ 0).put PWR_DOMCTL_STATUS ⟨q, 0⟩ st

/-- The domains of a die that are entering return to RUN. DEDUCED (log 101). -/
def Dev.entryOff (d : Dev) (q : Nat) : Dev :=
  let d := d.each ((List.range 4).filter (fun r => d.regionState (q * 4 + r) = domENTERING)) (fun r d => d.setRegionState (q * 4 + r) domRUN)
  d.when (d.dieState q = domENTERING) (·.setDieState q domRUN)

/-- R417: the entry under way on a die is aborted. DEDUCED (log 101). -/
def Dev.abortEntry (d : Dev) (q : Nat) : Dev := ((d.entryOff q).domDone q ST_NOT_READY).inc .PWR_STOPABORT onMod

/-- R420: an event that would raise a counter of region m. -/
def Dev.arrival (d : Dev) (m : Nat) : Dev := if d.regionState m = domENTERING then d.abortEntry (m / 4) else d
/-- R420: an event that would raise a counter of the core of die q. -/
def Dev.arrivalDie (d : Dev) (q : Nat) : Dev := if d.dieState q = domENTERING then d.abortEntry q else d

/-- R421: the core of a die in Stop wakes. -/
def Dev.wakeDie (d : Dev) (q : Nat) : Dev :=
  if d.dieState q = domSTOP then ((d.setDieState q domWAKING).inc .PWR_WAKE onMod).put PWR_DOMCTL_BUSY ⟨q, 0⟩ 1 else d

/-- R421: a region in Stop wakes. -/
def Dev.wakeRegion (d : Dev) (m : Nat) : Dev :=
  if d.regionState m = domSTOP then ((d.setRegionState m domWAKING).inc .PWR_WAKE onMod).put PWR_DOMCTL_BUSY ⟨m / 4, 0⟩ 1 else d

end Sys2Proof.Machine
end

