-- ==== Sys2Proof/Machine/Pmc.lean ====
section
/-! DEFINITION. Programmable counters, slot accounting and the sampling of a snapshot (spec/18). -/

namespace Sys2Proof.Machine

/-! ## Sampling (R460) -/

/-- The programmable counters of a die that a listed PMC_SEL enables, in ascending order (R452). -/
def Dev.pmcEnabled (d : Dev) (q : Nat) : List Nat :=
  (d.regs.filter (fun e => e.1 % 512 = Reg.PMC_SEL.ctorIdx && e.1 / 512 % 4 = q % 4 && PMC_SEL_EN.of e.2 = 1)).map (·.1 / 2048)

/-- A snapshot record (Table 18-4). -/
def snapRecord (q kind index value : Nat) : Nat :=
  value % 2 ^ 48 ||| (index % 4096) <<< 48 ||| (kind % 2) <<< 60 ||| (q % 4) <<< 61

/-- The slot-accounting instance of a port and category. -/
def slotAt (p c : Nat) : At := ⟨p / 128, (p % 128) * 5 + c⟩

/-- The records of one die. DEDUCED (log 104). -/
def Dev.snapDie (d : Dev) (q : Nat) : List Nat :=
  (d.pmcEnabled q).map (fun k => snapRecord q 0 k (d.get PMC_CNT_VALUE ⟨q, k⟩)) ++
  (if d.bit PMC_RINGCTL_SLOTS onMod then
    ((d.portsOfDie q).map (fun p => (List.range 5).map (fun c =>
      snapRecord q 1 (8 * (p % 128) + c) (d.get PMC_SLOT_SLOTS (slotAt p c))))).flatten
   else [])

/-- The dies that a snapshot samples: those not in Stop and not in reset. -/
def Dev.snapDies (d : Dev) : List Nat := (List.range 4).filter (fun q => !d.dieOff q && !d.dieInReset q)

/-- R460: a trigger samples a snapshot, or is counted while one is under way. DEDUCED (log 104). -/
def Dev.snapTrigger (d : Dev) (cause : Nat) : Dev :=
  if !d.bit PMC_RINGCTL_EN onMod then d
  else if d.pmc.snap.isSome then d.inc .PMC_SNAPMISS onMod
  else
    let dies := d.snapDies
    { d with pmc := { d.pmc with snap := some ⟨d.fabricNow, (dies.map d.snapDie).flatten, cause,
        (dies.map (2 ^ ·)).sum, 0, false⟩ } }

/-! ## Counting (R452 to R455) -/

/-- R454: counter k of die q has wrapped: its bit in PMC_OVF, the interrupt, the snapshot. -/
def Dev.pmcWrap (d : Dev) (q k : Nat) : Dev :=
  let j := k / 64
  let was := bits (d.rd .PMC_OVF ⟨q, j⟩).toNat (k % 64) 1 = 1
  let d := d.wr .PMC_OVF ⟨q, j⟩ (d.rd .PMC_OVF ⟨q, j⟩ ||| BitVec.ofNat 64 (2 ^ (k % 64)))
  let d := d.when (!was && d.bit PMC_RINGCTL_OVF_IRQ onMod) (·.msixSend 4 0 (d.get PMC_RINGCTL_VEC onMod))
  d.when (d.bit PMC_SEL_OVF_SNAP ⟨q, k⟩) (·.snapTrigger 3)

/-- The counter k is chained to its even partner (R455). -/
def Dev.chained (d : Dev) (q k : Nat) : Bool := k % 2 = 1 && d.bit PMC_SEL_CHAIN ⟨q, k⟩

/-- Add to one counter; a wrap counts in a chained partner, else it sets its own PMC_OVF bit (R454, R455). DEDUCED (log 104). -/
def Dev.pmcAdd (d : Dev) (q k n : Nat) : Dev :=
  let v := d.get PMC_CNT_VALUE ⟨q, k⟩ + n
  let d := d.put PMC_CNT_VALUE ⟨q, k⟩ v
  if v < 2 ^ 48 then d
  else if k % 2 = 0 && d.chained q (k + 1) then
    let d := d.when (d.bit PMC_SEL_OVF_SNAP ⟨q, k⟩) (·.snapTrigger 3)
    if d.bit PMC_SEL_EN ⟨q, k + 1⟩ then
      let w := d.get PMC_CNT_VALUE ⟨q, k + 1⟩ + 1
      (d.put PMC_CNT_VALUE ⟨q, k + 1⟩ w).when (2 ^ 48 ≤ w) (·.pmcWrap q (k + 1))
    else d
  else d.pmcWrap q k

/-- The counter k of die q counts an event of an instance of a block; `mask` holds the FILTER bit of the event, 0 where
Table 18-1 gives no filter. DEDUCED (log 104). -/
def Dev.pmcTakes (d : Dev) (q k blk inst ev mask : Nat) : Bool :=
  let a : At := ⟨q, k⟩
  let f := d.get PMC_SEL_FILTER a
  !d.chained q k && d.get PMC_SEL_BLOCK a = blk && d.get PMC_SEL_INSTANCE a = inst && d.get PMC_SEL_EVENT a = ev &&
  (mask = 0 || f = 0 || f &&& mask ≠ 0)

/-- R453: n occurrences of an event on die q. -/
def Dev.event (d : Dev) (q blk inst ev mask n : Nat) : Dev :=
  d.each (d.pmcEnabled q) (fun k d => d.when (d.pmcTakes q k blk inst ev mask) (·.pmcAdd q k n))

/-! Block indices (Table 19-5). -/
def blkLAN : Nat := 1
def blkLNK : Nat := 2
def blkRTE : Nat := 4
def blkFWD : Nat := 5
def blkSCH : Nat := 6
def blkMCG : Nat := 7
def blkCLV : Nat := 8
def blkBRG : Nat := 9
def blkNOC : Nat := 0x0A
def blkQDC : Nat := 0x0B
def blkHST : Nat := 0x10
def blkQUE : Nat := 0x11
def blkRMX : Nat := 0x12
def blkMTC : Nat := 0x13
def blkXLT : Nat := 0x14
def blkPWR : Nat := 0x23

/-- An event of a port: its instance is the port's first lane mod 128. -/
def Dev.portEvent (d : Dev) (p blk ev mask n : Nat) : Dev := d.event (p / 128) blk (p % 128) ev mask n

/-! ## Slot accounting (R458) -/

/-- Slot categories (Table 18-2). -/
def slotPAYLOAD : Nat := 0
def slotCONTROL : Nat := 1
def slotRECOVERY : Nat := 2
def slotBLOCKED : Nat := 3
def slotEMPTY : Nat := 4

/-- Count one slot of a port; the counters wrap (Table 18-7). -/
def Dev.countSlot (d : Dev) (p c : Nat) : Dev := d.put PMC_SLOT_SLOTS (slotAt p c) (d.get PMC_SLOT_SLOTS (slotAt p c) + 1)

end Sys2Proof.Machine
end

