-- ==== Sys2Proof/Machine/Keys.lean ====
section
/-! DEFINITION. Key slots and their use (R360, R361, R365), and what a wipe under way covers (R373). -/

namespace Sys2Proof.Machine

/-! Key slot states (Table 14-6). -/
def keyFREE : Nat := 0
def keyCONN : Nat := 1
def keyBOUND : Nat := 2
def keyGROUP : Nat := 3
def keySPENT : Nat := 4

def Dev.keyState (d : Dev) (q slot : Nat) : Nat := d.get SAG_KEYSLOT_STATE ⟨q, slot⟩
def Dev.keyOwner (d : Dev) (q slot : Nat) : Nat := d.get SAG_KEYSLOT_OWNER ⟨q, slot⟩

/-- The key in a slot; zero when it holds none. -/
def Dev.keyIn (d : Dev) (q slot : Nat) : Nat := Tab.get d.sag.keys 0 (q * 65536 + slot)

/-- R360: use the key of a slot: a use that misses the cache of 4,096 keys is counted. -/
def Dev.useKey (d : Dev) (q slot : Nat) : Dev :=
  let l := Tab.get d.sag.cache [] q
  let d := d.when (!l.contains slot) (·.inc .SAG_KEYMISS (onDie q))
  { d with sag := { d.sag with cache := Tab.set d.sag.cache [] q ((slot :: l.filter (· ≠ slot)).take 4096) } }

/-- Set a slot's shown state. -/
def Dev.setKeySlot (d : Dev) (q slot state owner ctx lastinc : Nat) : Dev :=
  let a : At := ⟨q, slot⟩
  (((d.put SAG_KEYSLOT_STATE a state).put SAG_KEYSLOT_OWNER a owner).put SAG_KEYSLOT_CTX a ctx).put SAG_KEYSLOT_LASTINC a lastinc

/-- A slot becomes FREE: its key is gone (R360), its owner has one slot less. -/
def Dev.freeKey (d : Dev) (q slot : Nat) : Dev :=
  if d.keyState q slot = keyFREE then d
  else
    let o : At := ⟨q, d.keyOwner q slot⟩
    let d := (d.setKeySlot q slot keyFREE 0 0 0).put SAG_FNQUOTA_USED o (d.get SAG_FNQUOTA_USED o - 1)
    { d with sag := { d.sag with keys := Tab.del d.sag.keys (q * 65536 + slot),
                                 cache := d.sag.cache.map (fun (e : Nat × List Nat) =>
                                   if e.1 = q then (e.1, e.2.filter (· ≠ slot)) else e) } }.inc .SAG_KEYERASE (onDie q)

/-- The slots of a die that hold a key. -/
def Dev.keySlots (d : Dev) (q : Nat) : List Nat :=
  (d.sag.keys.filter (fun e => e.1 / 65536 = q)).map (·.1 % 65536)

/-- R373: the wipe covers state of function f of die q (f = 256: of no function). A SCOPE 4 wipe of every function of a host
port (R227) has part 257. -/
def Wipe.covers (w : Wipe) (q f : Nat) : Bool :=
  w.scope = 1 || w.scope ≥ 6 || (w.scope = 2 && w.die = q) ||
  (w.scope = 4 && w.die = q && (w.part = f || (w.part = 257 && f < 256)))

/-- A wipe under way covers state of function f of die q. -/
def Dev.wiping (d : Dev) (q f : Nat) : Bool := d.sag.wipes.any (fun w => w.covers q f)

/-- R373: a wipe under way covers the key slots of owner f on die q; SCOPE 5 with part 4 covers every die. -/
def Dev.wipingKeys (d : Dev) (q f : Nat) : Bool :=
  d.sag.wipes.any (fun w => w.covers q f || (w.scope = 5 && (w.part = 4 || w.die = q)))

end Sys2Proof.Machine
end

