-- ==== Sys2Proof/Machine/Glaze.lean ====
section
/-! DEFINITION. Glaze framing (R367 to R370): what a seal covers, the nonces, sealing and opening a packet. -/

namespace Sys2Proof.Machine

/-- The additional data of a packet (Table 14-8): header bytes with the mutable fields zero. -/
def Packet.aad (k : Packet) : List Byte := (bodyBytes (k.rawBodies.headD 0)).take (if k.control then 20 else 32)

/-- The bytes that Glaze encrypts (Table 14-8). -/
def Packet.covered (k : Packet) : List Byte := if k.control then k.oper else k.oper ++ k.payload

/-- Put covered bytes back in their places. -/
def Packet.recover (k : Packet) (l : List Byte) : Packet :=
  if k.control then { k with oper := l } else { k with oper := l.take 16, payload := l.drop 16 }

/-- Bring a byte list to the length of another. -/
def likeLen (l m : List Byte) : List Byte := (l ++ List.replicate m.length 0).take m.length

/-- Seal a packet. -/
def Packet.sealed (k : Packet) (key nonce : Nat) : Packet :=
  let c := Config.glazeSeal key nonce k.aad k.covered
  { k.recover (likeLen c.1 k.covered) with tag := c.2 % 2 ^ (if k.control then 64 else 128) }

/-- The tag of a packet passes under a key and nonce. -/
def Packet.tagOk (k : Packet) (key nonce : Nat) : Bool :=
  k.tag = Config.glazeTag key nonce k.aad k.covered % 2 ^ (if k.control then 64 else 128)

/-- The packet with its covered bytes in plain. -/
def Packet.opened (k : Packet) (key nonce : Nat) : Packet :=
  k.recover (likeLen (Config.glazeOpen key nonce k.aad k.covered) k.covered)

/-- R369: the nonce of a connection packet. -/
def connNonce (psn inc tryN : Nat) (rsp side : Bool) : Nat :=
  psn % 2 ^ 32 ||| (inc % 2 ^ 32) <<< 32 ||| (tryN % 8) <<< 64 ||| rsp.toNat <<< 67 ||| side.toNat <<< 68

/-- R370: the nonce of a group packet. DEDUCED (log 92). -/
def groupNonce (group opseq chunk phase stage type src : Nat) : Nat :=
  group % 65536 ||| (opseq % 65536) <<< 16 ||| (chunk % 4096) <<< 32 ||| (phase % 2) <<< 44 ||| (stage % 4) <<< 45 |||
  (type % 64) <<< 47 ||| (src % 2 ^ 25) <<< 53 ||| 1 <<< 95

/-- SIDE (R369): an end's pair of endpoint address and context number is greater than its peer's. -/
def sideOf (ep conn peer peerConn : Nat) : Bool := ep > peer || (ep = peer && conn > peerConn)

end Sys2Proof.Machine
end

