-- ==== Sys2Proof/Machine/Buffer.lean ====
section
/-! DEFINITION. The packet buffer: domains and banks, cells, their owners and references, credits returned when a cell is
freed (R158 to R164, R150, R151). -/

namespace Sys2Proof.Machine

/-! ## Shares (R160 to R162) -/

/-- The share that the lanes of a port would give it now, in cells (R160). -/
def Dev.portShare (d : Dev) (p : Nat) : Nat := ((d.plances p).map (fun l => d.get FWD_SHARE_CELLS (onLane l))).sum

/-- The commitment of die q (R161). -/
def Dev.commitment (d : Dev) (q : Nat) : Nat :=
  ((List.range 128).map (fun k => if d.regionOff (q * 4 + k / 32) then 0 else d.get FWD_SHARE_CELLS ⟨q, k⟩)).sum +
  ((List.range 4).map (fun r => if d.regionOff (q * 4 + r) then 0 else d.get FWD_INJ_INJ (onDie q))).sum +
  18 * d.get FWD_INJ_BRG (onDie q)

/-- The cells in banks of regions not in Stop (R161). -/
def Dev.bankCells (d : Dev) (q : Nat) : Nat :=
  ((List.range 4).map (fun r => if d.regionOff (q * 4 + r) then 0 else 65536)).sum

/-- The weight of channel v (FWD_VCW). -/
def Dev.weight (d : Dev) (q v : Nat) : Nat := bits (d.get FWD_VCW_WEIGHTS (onDie q)) (3 * v) 3

/-- The cells of channel v of a port with share S (R162). -/
def Dev.chanCells (d : Dev) (q s v : Nat) : Nat :=
  let w := ((List.range 18).map (d.weight q)).sum
  21 + (if w = 0 then 0 else (s - 378) * d.weight q v / w)

/-- The receive allocation A(v) of a port with share S, in flits (R162). -/
def Dev.allocOf (d : Dev) (q s v : Nat) : Nat := min 65535 (4 * (d.chanCells q s v - 1))

/-! ## Cells -/

/-- The number of an owner in the table of partly filled cells. -/
def Owner.code : Owner → Nat
  | .port p v => p * 18 + v
  | .inject d r v => 10000 + (d * 4 + r) * 18 + v
  | .bridge d e n => 20000 + (d * 2 + e) * 9 + n

/-- The die whose buffer an owner writes. -/
def Owner.die : Owner → Nat
  | .port p _ => p / 128
  | .inject d _ _ => d
  | .bridge d _ _ => d

/-- The cells that are not free in a bank of die q. -/
def Dev.ownedCells (d : Dev) (q b : Nat) : Nat := Tab.count d.rtr.cells (fun k _ => k / 65536 = q * 4 + b)
/-- The free cells of a bank. -/
def Dev.freeCells (d : Dev) (q b : Nat) : Nat := 65536 - d.ownedCells q b
/-- The cells charged to an owner's quota: an injection point's over all its channels (R163). -/
def Dev.chargedInject (d : Dev) (q r : Nat) : Nat :=
  Tab.count d.rtr.cells (fun _ c => match c.owner with | .inject a b _ => a = q && b = r | _ => false)
def Dev.chargedBridge (d : Dev) (q e n : Nat) : Nat := Tab.count d.rtr.cells (fun _ c => c.owner = .bridge q e n)

/-- R158: the bank may give a new cell. -/
def Dev.bankOpen (d : Dev) (q b : Nat) : Bool := d.regionRun (q * 4 + b) && 0 < d.freeCells q b

/-- R158: the bank of a new cell on die q, with the preferred region when there is one. -/
def Dev.pickBank (d : Dev) (q : Nat) (pref : Option Nat) : Option Nat :=
  match pref.filter (d.bankOpen q) with
  | some b => some b
  | none =>
    ((List.range 4).filter (d.bankOpen q)).foldl
      (fun best b => match best with
        | some a => if d.freeCells q a < d.freeCells q b then some b else some a
        | none => some b) none

/-- The preferred bank of an ingress port or injection point: its region's (R158). -/
def Owner.bank : Owner → Option Nat
  | .port p _ => some (p / 32 % 4)
  | .inject _ r _ => some (r % 4)
  | .bridge _ _ _ => none

/-! ## Credits of bridge allocations (R159, R161, R163) -/

/-- The key of bridge allocation n of end e of die q. -/
def bridgeKey (q e n : Nat) : Nat := (q * 2 + e) * 9 + n

/-- The flits that an allocation of `cells` cells takes: the partly filled cell is left out, as R162 leaves it out of A(v).
DESIGN CHOICE (log 26). -/
def bridgeFlits (cells : Nat) : Nat := 4 * (cells - 1)

/-- The credits of an allocation with the reset value of FWD_INJ.BRG. -/
def bridgeFull : Nat × Nat := (bridgeFlits 512, 0)

def Dev.bridgeCredit (d : Dev) (q e n : Nat) : Nat × Nat := Tab.get d.rtr.bcred bridgeFull (bridgeKey q e n)
def Dev.setBridgeCredit (d : Dev) (q e n : Nat) (x : Nat × Nat) : Dev :=
  { d with rtr := { d.rtr with bcred := Tab.set d.rtr.bcred bridgeFull (bridgeKey q e n) x } }

/-- R159, R161: n credits go back across a bridge; those that a cut of the share withholds do not. DESIGN CHOICE (log 26). -/
def Dev.bridgeReturn (d : Dev) (q e a n : Nat) : Dev :=
  let x := d.bridgeCredit q e a
  d.setBridgeCredit q e a (x.1 + (n - x.2), x.2 - n)

/-- Flits written in cells of a bridge allocation. -/
def Dev.bridgeWritten (d : Dev) (q e n : Nat) : Nat :=
  (d.rtr.cells.map (fun (k : Nat × Cell) => if k.2.owner = .bridge q e n then k.2.written else 0)).sum

/-- R17, R163: a bridge direction starts anew with nothing in flight: its allocations have what their cells leave.
DESIGN CHOICE (log 26). -/
def Dev.bridgeGrant (d : Dev) (q e : Nat) : Dev :=
  d.each (List.range 9) (fun n d =>
    let total := bridgeFlits (d.get FWD_INJ_BRG (onDie q))
    let used := d.bridgeWritten q e n
    d.setBridgeCredit q e n (total - used, used - total))

/-- R161: the share of the bridge allocations of a die changes from `old` cells: a raise goes to the sending ends at once, a cut
is withheld from what comes back. DESIGN CHOICE (log 26). -/
def Dev.bridgeShare (d : Dev) (q old : Nat) : Dev :=
  let new := d.get FWD_INJ_BRG (onDie q)
  d.each [0, 1] (fun e d => d.each (List.range 9) (fun n d =>
    let x := d.bridgeCredit q e n
    let up := bridgeFlits new - bridgeFlits old
    d.setBridgeCredit q e n (x.1 + (up - x.2), (x.2 - up) + (bridgeFlits old - bridgeFlits new))))

/-- Write a flit of an owner into its partly filled cell, or into a new one (R158). -/
def Dev.storeFlit (d : Dev) (o : Owner) (pref : Option Nat) (poison : Bool) : Dev × FLoc :=
  let add (d : Dev) (c : Nat) (x : Cell) : Dev × FLoc :=
    let y : Cell := { x with written := x.written + 1, refs := x.refs + 1,
                             poison := x.poison ||| poison.toNat <<< x.written }
    let d := d.setCell c y
    ({ d with rtr := { d.rtr with
        openCell := if y.written < 4 then Tab.put d.rtr.openCell o.code c else Tab.del d.rtr.openCell o.code } },
     .cell c x.written)
  match (Tab.find d.rtr.openCell o.code).bind (fun c => (d.cell c).map (fun x => (c, x))) with
  | some (c, x) => add d c x
  | none =>
    match d.pickBank o.die pref with
    | some b => add d (Tab.free d.rtr.cells ((o.die * 4 + b) * 65536) 65536) ⟨0, 0, 0, o, 0⟩
    | none => (d, .gone)

/-- R159, R163: credits of a freed cell go back upstream, one for each flit written in it; flits of an earlier link life
return none (R80). -/
def Dev.returnCredit (d : Dev) (x : Cell) : Dev :=
  match x.owner with
  | .port p v =>
    d.modChan p v (fun c => { c with occ := c.occ - x.written, owed := c.owed + (x.written - x.stale) })
  | .bridge q e n => d.bridgeReturn q e n x.written
  | .inject _ _ _ => d

/-- R80: the flits that the cells of a port hold belong to an earlier link life. DEDUCED (log 112). -/
def Dev.staleCells (d : Dev) (p : Nat) : Dev :=
  { d with rtr := { d.rtr with cells := d.rtr.cells.map (fun (k : Nat × Cell) =>
      match k.2.owner with
      | .port i _ => if i = p then (k.1, { k.2 with stale := k.2.written }) else k
      | _ => k) } }

/-- A cell goes back to the free list. -/
def Dev.dropCell (d : Dev) (c : Nat) (x : Cell) : Dev :=
  ({ d with rtr := { d.rtr with
      cells := Tab.del d.rtr.cells c,
      openCell := d.rtr.openCell.filter (fun e => e.2 ≠ c) } }).returnCredit x

/-- R151, R159: one reference of a cell is given up. At 0 the cell is freed; a free that would go below 0, or of a cell
that is already free, changes nothing and raises CONSERVE CELLREF. -/
def Dev.freeRef (d : Dev) (c : Nat) : Dev :=
  match d.cell c with
  | none => d.raise srcCONSERVE 4 (locRegion (c / 65536)) (c % 65536)
  | some x =>
    if x.refs = 0 then d.raise srcCONSERVE 4 (locRegion (c / 65536)) (c % 65536)
    else if x.refs = 1 then d.dropCell c x
    else d.setCell c { x with refs := x.refs - 1 }

/-- Give up the reference of a flit that is in a cell. -/
def Dev.freeLoc (d : Dev) : FLoc → Dev
  | .cell c _ => d.freeRef c
  | _ => d

/-- A further reference to the cell of a flit, for a multicast copy (R150). -/
def Dev.addRef (d : Dev) : FLoc → Dev
  | .cell c _ => match d.cell c with
    | some x => d.setCell c { x with refs := x.refs + 1 }
    | none => d
  | _ => d

/-- A flit slot carries the poison mark (R103). -/
def Dev.slotPoison (d : Dev) : FLoc → Bool
  | .cell c s => match d.cell c with
    | some x => bits x.poison s 1 = 1
    | none => false
  | _ => false

end Sys2Proof.Machine
end

