-- ==== Sys2Proof/Machine/Router.lean ====
section
/-! DEFINITION. The router of a die: bridge routes (R13 to R17), the choice of a port (R110 to R118), admission to egress
queues (R164, R178), drops (R105, R108), delivery (R102, R30), crossing bridges, stranded traffic (R133 to R136). -/

namespace Sys2Proof.Machine

/-! ## Bridges -/

/-- The bridge end of die a that leads to its neighbour b: 0 BRGH, 1 BRGV (chapter 13). -/
def bridgeEnd (a b : Nat) : Nat := if a ^^^ b = 1 then 0 else 1
/-- The die across bridge end e. -/
def acrossBridge (a e : Nat) : Nat := a ^^^ (if e = 0 then 1 else 2)

/-- A unit reset of bridge end e of die q is under way. -/
def Dev.bridgeInReset (d : Dev) (q e : Nat) : Bool := d.flt.resets.any (fun l => l = locBridge q e)

/-- The bridge between neighbours a and b carries traffic: it is not taken down (R17), and no reset of an end of it runs (R25). -/
def Dev.bridgeUp (d : Dev) (a b : Nat) : Bool :=
  let e := bridgeEnd a b
  !d.bit BRG_STAT_DOWN ⟨a, e⟩ && !d.bit BRG_STAT_DOWN ⟨b, e⟩ && !d.bridgeInReset a e && !d.bridgeInReset b e

/-- BRG_STAT.UP of both ends of a bridge: it carries data while it is up and both dies are there and calibrated (Table 19-3). -/
def Dev.bridgeSync (d : Dev) (q e : Nat) : Dev :=
  let b := acrossBridge q e
  let up := d.bridgeUp q b && !d.dieAway q && !d.dieAway b && !d.kln.booting.contains q && !d.kln.booting.contains b
  (d.putB BRG_STAT_UP ⟨q, e⟩ up).putB BRG_STAT_UP ⟨b, e⟩ up

/-- Both bridges of a die. -/
def Dev.bridgesSync (d : Dev) (q : Nat) : Dev := (d.bridgeSync q 0).bridgeSync q 1

/-- The number of ones in a 9-bit number. -/
def ones (x : Nat) : Nat := ((List.range 9).map (fun i => bits x i 1)).sum

/-- A list of dies is joined by bridges that are up, and no die in between is in Stop or in reset (R17, R25, R28). Traffic for
a die that is away waits for it. -/
def Dev.pathUp (d : Dev) : List Nat → Bool
  | a :: b :: t => d.bridgeUp a b && (t = [] || !d.dieAway b) && d.pathUp (b :: t)
  | _ => true

/-- R13, R17: the dies that traffic from die a to die b passes, by ingress and egress numbers; none when no route has the
bridge classes left (`hops` are used). DEDUCED (log 27). -/
def Dev.route (d : Dev) (a b ing eg hops : Nat) : Option (List Nat) :=
  let other (i : Nat) := 3 - i
  let cands : List (List Nat) :=
    if a = b then [[a]]
    else if a ^^^ b = 3 then
      let lo := if a = 0 ∨ a = 3 then 1 else 0
      let first := if ones (ing ^^^ eg) % 2 = 0 then lo else other lo
      [[a, first, b], [a, other first, b]]
    else [[a, b], [a, other b, other a, b]]
  (cands.find? (fun l => d.pathUp l && l.length - 1 + hops ≤ 3))

/-! ## Queues toward a port -/

/-- The bytes of a packet on a link. -/
def Pkt.bytes (k : Pkt) : Nat := 64 * k.total

/-- The packets queued for a port and not committed, those waiting for admission included (R133, R164). -/
def Dev.queuedIds (d : Dev) (p : Nat) : List Nat := (d.eport p).q ++ (d.eport p).wait

/-- Sum over packets of a list of those with a property. -/
def Dev.bytesOf (d : Dev) (l : List Nat) (c : Pkt → Bool) : Nat :=
  (l.map (fun i => match d.pkt i with | some k => if c k then k.bytes else 0 | none => 0)).sum

/-- local_kib of R114: bytes queued toward the port on a virtual network, in KiB, saturating. -/
def Dev.localKib (d : Dev) (p vn : Nat) : Nat :=
  min 65535 (d.bytesOf (d.queuedIds p) (fun k => hVn k.head = vn) / 1024)

/-- Flits of committed packets of a port that are not sent yet (R61). -/
def Dev.unsentFlits (d : Dev) (p : Nat) : Nat :=
  ((List.range 18).map (fun v => match (d.chan p v).tx with
    | some (i, n) => (match d.pkt i with | some k => k.total - n | none => 0)
    | none => 0)).sum

/-- DATA flits of a port that are sent and not acknowledged. -/
def Dev.heldFlits (d : Dev) (p : Nat) : Nat := ((d.link p).window.filter (fun f => !f.bypass)).length

/-- R164: the occupancy of an egress port in bytes. -/
def Dev.occupancy (d : Dev) (p : Nat) : Nat :=
  d.bytesOf (d.eport p).q (fun _ => true) + 64 * (d.heldFlits p + d.unsentFlits p)

/-- The share of a port in force, in cells: that of its last new life, before its first one the reset value of its slots (R160,
R161). DEDUCED (log 138). -/
def Dev.shareNow (d : Dev) (p : Nat) : Nat := if (d.link p).share = 0 then 1024 * d.pwidth p else (d.link p).share

/-- R164: a packet fits into the port's share in force. -/
def Dev.fits (d : Dev) (p : Nat) (k : Pkt) : Bool := d.occupancy p + k.bytes ≤ 256 * d.shareNow p

/-- FWD_CTRL.INJTHR in bytes; 0 acts as 1. -/
def Dev.injThr (d : Dev) (q : Nat) : Nat := max 1 (d.get FWD_CTRL_INJTHR (onDie q)) * 1024

/-- R114: a port is routable. -/
def Dev.routable (d : Dev) (p : Nat) : Bool :=
  d.pexists p && d.lstate p = UP && !d.draining p && d.regionRun (laneRegion p) && !d.bit PRT_STAT_DEAD (onLane p)

/-! ## Lookup -/

/-- A route-table entry (Table 5-1). -/
def Dev.routeEntry (d : Dev) (q bank node : Nat) : Nat := Tab.get d.win.route 0 ((q * 2 + bank) * 131072 + node)
/-- A port-set candidate (Table 5-2). -/
def Dev.cand (d : Dev) (q bank i slot : Nat) : Nat := Tab.get d.win.pset 0 (((q * 2 + bank) * 4096 + i) * 8 + slot)

def rtPinMin (e : Nat) : Bool := bits e 15 1 = 1
def rtUnreach (e : Nat) : Bool := bits e 14 1 = 1
def rtDiscard (e : Nat) : Bool := bits e 13 1 = 1
def rtLocal (e : Nat) : Bool := bits e 12 1 = 1
def rtPset (e : Nat) : Nat := bits e 0 12
def cValid (c : Nat) : Bool := bits c 12 1 = 1
def cStep (c : Nat) : Nat := bits c 9 3
def cPort (c : Nat) : Nat := bits c 0 9
def cDref (c : Nat) : Bool := bits c 13 1 = 1
def cMember (c : Nat) : Nat := bits c 14 6
def cGport (c : Nat) : Nat := bits c 20 9

/-- The bank of an epoch is valid on a die. -/
def Dev.bankValid (d : Dev) (q e : Nat) : Bool := bits (d.get RTE_EPOCH_VALID (onDie q)) e 1 = 1

/-- R118, R119: a Dune level; 15 when it was never stored or is older than AGE. -/
def Dev.duneLevel (d : Dev) (q slot g : Nat) : Nat :=
  match Tab.find d.rtr.dune ((q * 64 + slot) * 512 + g) with
  | some (lvl, t) => if d.now - t > max 250 (d.get RTE_DUNE_AGE (onDie q)) then 15 else lvl
  | none => 15

/-- KiB per Dune level; 0 acts as 1. -/
def Dev.duneUnit (d : Dev) (q : Nat) : Nat := max 1 (d.get RTE_DUNE_UNIT (onDie q))

/-- The outcome of a lookup. -/
inductive Choice where
  | drop (reason : Nat)
  | local
  /-- a routable port at a step, and whether it is non-minimal -/
  | go (p step : Nat) (nonmin : Bool)
  /-- no routable candidate: the fallback, as stranded traffic -/
  | strand (p step : Nat) (nonmin : Bool)
deriving DecidableEq, Repr

/-- The estimate of a candidate in KiB; none when it is not to be used (R114). -/
def Dev.estimate (d : Dev) (q vn slot c : Nat) : Option Nat :=
  let loc := d.localKib (cPort c) vn
  if slot < 4 then some loc
  else if cDref c then
    let lvl := d.duneLevel q (cMember c) (cGport c)
    if lvl = 15 then none else some (loc + lvl * d.duneUnit q + d.get RTE_CTRL_BIAS (onDie q))
  else some (loc + d.get RTE_CTRL_BIAS (onDie q))

/-- R114: the choice of the port among the eight slots of a port set. -/
def Dev.choosePort (d : Dev) (q bank ps vn floor : Nat) (nonmin : Bool) : Choice :=
  let slots := (List.range 8).filter (fun s =>
    let c := d.cand q bank ps s
    cValid c && floor ≤ cStep c && (s < 4 || nonmin))
  let best := slots.foldl (fun (b : Option (Nat × Nat)) s =>
    let c := d.cand q bank ps s
    if d.routable (cPort c) then
      match d.estimate q vn s c, b with
      | some est, some (be, bs) => if est < be then some (est, s) else some (be, bs)
      | some est, none => some (est, s)
      | none, b => b
    else b) none
  match best, slots with
  | some (_, s), _ => .go (cPort (d.cand q bank ps s)) (cStep (d.cand q bank ps s)) (4 ≤ s)
  | none, s :: _ => .strand (cPort (d.cand q bank ps s)) (cStep (d.cand q bank ps s)) (4 ≤ s)
  | none, [] => .drop dropLADDER

/-- R114: the lookup of a unicast packet on a die. -/
def Dev.lookup (d : Dev) (q : Nat) (h : Body) (floor : Nat) : Choice :=
  let bank := hEpoch h
  if !d.bankValid q bank then .drop dropEPOCH
  else
    let e := d.routeEntry q bank (epNode (hDest h))
    if rtLocal e then .local
    else if rtDiscard e then .drop dropDISCARD
    else if rtUnreach e then .drop dropUNREACH
    else d.choosePort q bank (rtPset e) (hVn h) floor
      (!rtPinMin e && bits (d.get RTE_CTRL_NMIN_VN (onDie q)) (hVn h) 1 = 1 && hVn h < 2)

/-! ## Leaving the router -/

/-- R127: the epoch count of a die changes by a packet with MC = 0. -/
def Dev.epochCount (d : Dev) (q : Nat) (h : Body) (delta : Int) : Dev :=
  if hMc h = 1 then d
  else d.wr .RTE_EPCNT ⟨q, hEpoch h⟩ (d.rd .RTE_EPCNT ⟨q, hEpoch h⟩ + BitVec.ofInt 64 delta)

/-- The place of a flit on its path, a flit that a bridge has accepted counted as across it. -/
def PFlit.at (f : PFlit) : Nat := if f.loc = .bridge then f.hop + 1 else f.hop
/-- The die where a flit is. -/
def PFlit.die (f : PFlit) : Nat := f.path.getD f.at 0

/-- The die where the head flit of a packet is. -/
def Pkt.headDie (k : Pkt) : Nat :=
  match k.flits.head? with
  | some f => f.die
  | none => k.owner.die

/-- Take a packet out of the queues of every port. -/
def Dev.unqueuePorts (d : Dev) (i : Nat) : Dev :=
  { d with rtr := { d.rtr with
      eports := d.rtr.eports.map (fun e => (e.1, { e.2 with q := e.2.q.filter (· ≠ i), wait := e.2.wait.filter (· ≠ i) })) } }

/-- The allocation of a bridge hop: 3 × network + class (R15). -/
def bridgeAlloc (vn cls : Nat) : Nat := 3 * vn + min cls 2

/-- A flit that a bridge has accepted is lost there; its credit goes back. -/
def Dev.offBridge (d : Dev) (k : Pkt) (f : PFlit) : Dev :=
  if f.loc = .bridge then
    d.bridgeReturn f.die (bridgeEnd (f.path.getD f.hop 0) f.die) (bridgeAlloc (hVn k.head) f.hop) 1
  else d

/-- Take a packet out of every queue of ports and bridges. -/
def Dev.unqueue (d : Dev) (i : Nat) : Dev :=
  let d := match d.pkt i with
    | some k => d.each k.flits (fun f d => d.offBridge k f)
    | none => d
  let d := d.unqueuePorts i
  { d with rtr := { d.rtr with bridges := d.rtr.bridges.map (fun e => (e.1, e.2.filter (·.1 ≠ i))) } }

/-- The rest of a packet that is still being received will be discarded as it comes (R105). -/
def Dev.cutReceive (d : Dev) (i : Nat) (k : Pkt) : Dev :=
  match k.owner with
  | .port p v =>
    d.modChan p v (fun c => match c.rx with
      | .packet j n => if j = i then { c with rx := .discard n } else c
      | _ => c)
  | _ => d

/-- Release what a packet holds and forget it (R108). -/
def Dev.retirePkt (d : Dev) (i : Nat) (k : Pkt) : Dev :=
  ((((d.cutReceive i k).unqueue i).each k.flits (fun f d => d.freeLoc f.loc))).delPkt i

/-- Count a drop under its reason on a die (Table 4-6). DEDUCED (log 40). -/
def Dev.countDrop (d : Dev) (q reason : Nat) : Dev :=
  (d.inc .FWD_DROP ⟨q, reason - 1⟩).event q blkFWD 128 0x07 (2 ^ reason) 1

/-- Drop one packet on a die for a reason: one count, its cells freed, its epoch count ended. DESIGN CHOICE (log 133). -/
def Dev.dropOne (d : Dev) (i q reason : Nat) : Dev :=
  match d.pkt i with
  | some k => ((d.retirePkt i k).countDrop q reason).epochCount q k.head (-1)
  | none => d

/-- R105, R108: drop a packet on a die for a reason. A group packet that has been replicated counts as one packet per copy (R107):
its copies that have not left whole are dropped, each counted, and the packet itself is forgotten. DESIGN CHOICE (log 133). -/
def Dev.dropPkt (d : Dev) (i q reason : Nat) : Dev :=
  match (d.pkt i).bind (·.copies) with
  | some l => match d.pkt i with
    | some k => (d.each l (fun j d => d.dropOne j q reason)).retirePkt i k
    | none => d
  | none => d.dropOne i q reason

/-- The packet has every flit. -/
def Pkt.complete (k : Pkt) : Bool := k.flits.length = k.total
/-- Its bodies, the header as it now stands. -/
def Pkt.bodies (k : Pkt) : List Body := k.head :: (k.flits.drop 1).map (·.body)

/-- R30: an endpoint is absent: an unbound function, a disabled host port, or form S. -/
def Dev.noEndpoint (d : Dev) (e : Nat) : Bool :=
  d.sys.formS || !d.bit HST_CTRL_EN (onDie (epHport e)) || !d.bit HST_BIND_VALID ⟨epHport e, epFunc e⟩

/-- A flit of the packet is poisoned (R103). -/
def Dev.pktPoison (d : Dev) (k : Pkt) : Bool := k.flits.any (fun f => f.poison || d.slotPoison f.loc)

/-- The endpoint that a delivery is for: the destination, or the member of a group that a copy is delivered to; none where module
firmware or a reduction engine takes the packet (R98, R191). -/
def Dev.endpointOf (d : Dev) (k : Pkt) : Option Nat :=
  if hMc k.head = 1 then (if k.member < 256 then some (d.get CFG_ERGSTAT_NODE onMod * 256 + k.member) else none)
  else if hType k.head = 0x07 || hType k.head = 0x14 then none
  else some (hDest k.head)

/-- Hand a whole packet to the die it is delivered on: POISON, CRC and NOEP are judged here (R102, R103, R30, R107);
FW_MSG and FW_RSP are never dropped as NOEP (R98). Module firmware consumes a copy for it as a member. DEDUCED (log 39). -/
def Dev.deliverPkt (d : Dev) (i q : Nat) : Dev :=
  match d.pkt i with
  | none => d
  | some k =>
    if d.pktPoison k then d.dropPkt i q dropPOISON
    else if pcrcOf k.bodies ≠ pcrcField k.bodies then d.dropPkt i q dropCRC
    else if (d.endpointOf k).any d.noEndpoint then d.dropPkt i q dropNOEP
    else
      let d := (d.retirePkt i k).epochCount q k.head (-1)
      if k.member = 256 then d
      else { d with rtr := { d.rtr with dlv := d.rtr.dlv ++ [⟨q, k.member, (match k.owner with | .port p _ => p | _ => 512), Packet.ofBodies k.bodies⟩] } }

/-! ## Crossing bridges -/

/-- R100, R163: the sending end holds a credit for allocation n of bridge end e of die q. DESIGN CHOICE (log 26). -/
def Dev.bridgeRoom (d : Dev) (q e n : Nat) : Bool := 0 < (d.bridgeCredit q e n).1

/-- Use up one credit of an allocation. -/
def Dev.bridgeSpend (d : Dev) (q e n : Nat) : Dev :=
  let x := d.bridgeCredit q e n
  d.setBridgeCredit q e n (x.1 - 1, x.2)

/-- Flit n has the flit before it still in a cell of the same die: it waits behind it. -/
def Pkt.behind (k : Pkt) (n : Nat) (f : PFlit) : Bool :=
  n ≠ 0 && (match k.flits[n - 1]? with
    | some g => (match g.loc with | .cell _ _ => g.die = f.die | _ => false)
    | none => false)

/-- One flit of a packet is accepted by the next bridge on its path, when the flit before it has gone ahead, the bridge carries
traffic and the sending end holds a credit of the allocation (R15, R17, R163). -/
def Dev.pumpFlit (d : Dev) (i n : Nat) : Dev :=
  match d.pkt i with
  | none => d
  | some k =>
    match k.flits[n]? with
    | none => d
    | some f =>
      match f.loc with
      | .cell c s =>
        let a := f.die
        let b := f.path.getD (f.hop + 1) 0
        let e := bridgeEnd a b
        let v := bridgeAlloc (hVn k.head) f.hop
        if f.hop + 1 < f.path.length && !k.behind n f && d.bridgeUp a b && !d.dieAway a && !d.dieAway b && d.bridgeRoom b e v then
          let poison := f.poison || d.slotPoison f.loc
          let d := ((d.freeLoc (.cell c s)).bridgeSpend b e v).setPkt i
            { k with flits := k.flits.set n { f with loc := .bridge, poison := poison } }
          { d with rtr := { d.rtr with
              bridges := Tab.put d.rtr.bridges (a * 2 + e) (Tab.get d.rtr.bridges [] (a * 2 + e) ++ [(i, n)]) } }.event
            a blkBRG e 0x01 0 1
        else d
      | _ => d

/-- The packet may move toward its egress: it is to be delivered, or it has been admitted to its port's queues. -/
def Dev.mayMove (d : Dev) (i : Nat) (k : Pkt) : Bool :=
  match k.egress with
  | .none => false
  | .deliver _ => true
  | .port p _ => k.started.isSome || (d.eport p).q.contains i

/-- Move the flits of a packet onto bridges as far as room allows. -/
def Dev.pumpPkt (d : Dev) (i : Nat) : Dev :=
  match d.pkt i with
  | some k => if d.mayMove i k then d.each (List.range k.flits.length) (fun n d => d.pumpFlit i n) else d
  | none => d

/-- Every packet in order of its number. DESIGN CHOICE (log 26). -/
def Dev.pumpAll (d : Dev) : Dev := d.each (Tab.keys d.rtr.pkts) (fun i d => d.pumpPkt i)

/-- The flits of a packet that are on the die it leaves from. -/
def Pkt.arrived (k : Pkt) : Nat :=
  (k.flits.takeWhile (fun f => f.hop + 1 ≥ f.path.length && f.loc ≠ .bridge)).length

/-- Deliver a packet whose last flit has reached the die of its delivery. -/
def Dev.deliverIfWhole (d : Dev) (i : Nat) : Dev :=
  match d.pkt i with
  | some k =>
    match k.egress with
    | .deliver q => if k.complete && k.arrived = k.total then d.deliverPkt i q else d
    | _ => d
  | none => d

/-! ## Admission (R164, R178) -/

/-- R178: the bytes admitted to a port's queues on the packet's network and step and not yet committed. -/
def Dev.markBytes (d : Dev) (p : Nat) (h : Body) (step : Nat) : Nat :=
  d.bytesOf (d.eport p).q (fun k => hVn k.head = hVn h && (match k.egress with | .port _ s => s = step | _ => false))

/-- R164, R178: a packet joins the queues of a port, is marked above the threshold, and starts to cross. -/
def Dev.admitPacket (d : Dev) (i p step : Nat) : Dev :=
  match d.pkt i with
  | none => d
  | some k =>
    let q := laneDie p
    let mark := d.markBytes p k.head step > d.get FWD_CTRL_MARK (onDie q) * 1024
    let head := setFb (if mark then setFb k.head 23 1 1 else k.head) 15 3 step
    let vc := 2 ^ (6 * hVn head + step)
    let d := (d.setPkt i { k with head := head, egress := .port p step }).when mark (fun d =>
      (d.inc .FWD_MARKED (onDie q)).portEvent p blkFWD 0x03 vc 1)
    let d := (d.arrival (laneRegion p)).portEvent p blkFWD 0x01 vc 1
    (d.modEport p (fun e => { e with q := e.q ++ [i], wait := e.wait.filter (· ≠ i) })).pumpPkt i

/-- A packet takes an egress port: admitted when it fits and nothing waits before it, else it waits in its ingress
channel's cells (R164). -/
def Dev.enqueue (d : Dev) (i p step : Nat) (nonmin : Bool) : Dev :=
  match d.pkt i with
  | none => d
  | some k =>
    let d := (d.setPkt i { k with egress := .port p step, nonmin := nonmin }).when nonmin
      (fun d => (d.inc .RTE_NONMIN (onDie k.headDie)).event k.headDie blkRTE 0 0x02 0 1)
    if d.fits p k && (d.eport p).wait = [] then d.admitPacket i p step
    else d.modEport p (fun e => { e with wait := e.wait ++ [i] })

/-- The number of an ingress for R13: the port, or the first lane of the region of an injection point; for a packet that
has crossed a bridge, the number it entered with is kept by its owner's die. -/
def Owner.number : Owner → Nat
  | .port p _ => p
  | .inject d r _ => d * 128 + r * 32
  | .bridge d _ _ => d * 128

/-- A flit that has not come yet: it will enter where its packet enters. -/
def Pkt.coming (k : Pkt) : PFlit := ⟨0, false, .gone, k.path, 0⟩

/-- R13: the path of a flit of a packet whose head goes on from die x by `r`: it follows the head to x, and goes on with it; where it
can no longer pass x it takes a route of its own. DEDUCED (log 27). -/
def Dev.flitPath (d : Dev) (k : Pkt) (x : Nat) (r : List Nat) (b eg : Nat) (f : PFlit) : Option (List Nat) :=
  let rest := f.path.drop f.at
  if rest.contains x then some (f.path.take f.at ++ rest.takeWhile (· ≠ x) ++ r)
  else (d.route f.die b k.owner.number eg f.at).map (f.path.take f.at ++ ·)

/-- Give every flit of a packet, and those still to come, the path that a function says; none when it says none for one.
DEDUCED (log 27). -/
def Pkt.repath (k : Pkt) (g : PFlit → Option (List Nat)) : Option Pkt := do
  let fl ← k.flits.mapM (fun f => (g f).map (fun l => { f with path := l }))
  if k.complete then some { k with flits := fl }
  else
    let l ← g k.coming
    some { k with flits := fl, path := l }

/-- R13, R17: fix the path of a packet from the die where its head is to die b; false when no route is left. DEDUCED (log 27). -/
def Dev.setPath (d : Dev) (i b eg : Nat) : Dev × Bool :=
  match d.pkt i with
  | none => (d, false)
  | some k =>
    match (d.route k.headDie b k.owner.number eg ((k.flits.head?.map (·.at)).getD 0)).bind (fun r =>
        k.repath (d.flitPath k k.headDie r b eg)) with
    | some k => (d.setPkt i k, true)
    | none => (d, false)

/-- Send a packet to a port at a step, or drop it as BRIDGE when no bridge route is left (R17). DEDUCED (log 27). -/
def Dev.toPort (d : Dev) (i p step : Nat) (nonmin : Bool) : Dev :=
  match d.pkt i with
  | none => d
  | some k =>
    let (d1, ok) := d.setPath i (laneDie p) p
    if ok then d1.enqueue i p step nonmin else d.dropPkt i k.headDie dropBRIDGE

/-- R13: the number of a delivery point: the first lane of its die, for a reduction engine of its region (R184). -/
def Pkt.deliveryNumber (k : Pkt) (q : Nat) : Nat := q * 128 + (if k.member = 257 then hGroup k.head % 4 * 32 else 0)

/-- Send a packet to the die that delivers it (R19). -/
def Dev.toDelivery (d : Dev) (i q : Nat) : Dev :=
  match d.pkt i with
  | none => d
  | some k =>
    let d := d.wakeDie q
    let (d1, ok) := d.setPath i q (k.deliveryNumber q)
    if ok then
      match d1.pkt i with
      | some k1 => ((d1.setPkt i { k1 with egress := .deliver q }).pumpPkt i).deliverIfWhole i
      | none => d1
    else d.dropPkt i k.headDie dropBRIDGE

/-- R114: look a unicast packet up on the die where its head is, and act on the outcome. -/
def Dev.routePkt (d : Dev) (i : Nat) : Dev :=
  match d.pkt i with
  | none => d
  | some k =>
    let d := d.event k.headDie blkRTE 0 0x01 0 1
    match d.lookup k.headDie k.head k.floor with
    | .drop r => d.dropPkt i k.headDie r
    | .local => d.toDelivery i (epHport (hDest k.head))
    | .go p s n => d.toPort i p s n
    | .strand p s n => d.toPort i p s n

/-- Admit waiting packets of a port, oldest first, as long as the oldest fits (R164). -/
def Dev.admitWaiting (d : Dev) (p : Nat) : Nat → Dev
  | 0 => d
  | n + 1 =>
    match (d.eport p).wait with
    | [] => d
    | i :: _ =>
      match d.pkt i with
      | none => (d.modEport p (fun e => { e with wait := e.wait.filter (· ≠ i) })).admitWaiting p n
      | some k =>
        match k.egress with
        | .port _ step => if d.fits p k then (d.admitPacket i p step).admitWaiting p n else d
        | _ => d

/-! ## Stranded traffic (R133 to R136) -/

/-- R134, R135: a queued packet is looked up again, in the tables of the die where its head is (DESIGN CHOICE); it moves only to
another routable candidate, and is dropped as EPOCH when its bank has been retired. DESIGN CHOICE (log 135). -/
def Dev.relook (d : Dev) (i p : Nat) : Dev :=
  match d.pkt i with
  | none => d
  | some k =>
    if hMc k.head = 1 then d
    else
    let d := d.event k.headDie blkRTE 0 0x03 0 1
    match d.lookup k.headDie k.head k.floor with
      | .go p2 s n =>
        if p2 = p then d
        else
          let d := (d.unqueuePorts i).setPkt i { k with egress := .none }
          (d.toPort i p2 s n).inc .RTE_REROUTE (onDie k.headDie)
      | .drop r => if r = dropEPOCH then d.dropPkt i k.headDie dropEPOCH else d
      | _ => d

/-- Look every packet queued for a port up again, in order. -/
def Dev.relookPort (d : Dev) (p : Nat) : Dev := d.each (d.queuedIds p) (fun i d => d.relook i p)

/-- R134: the port-dead timer of a port expires. -/
def Dev.portDead (d : Dev) (p : Nat) : Dev :=
  (((d.putB PRT_STAT_DEAD (onLane p) true).modEport p (fun e => { e with deadTimer := false }))).relookPort p

/-- R133: a port stops being routable; its port-dead timer starts. DEDUCED (log 114). -/
def Dev.portUnroutable (d : Dev) (p : Nat) : Dev :=
  d.modEport p (fun e => { e with deadTimer := !d.bit PRT_STAT_DEAD (onLane p) })

/-- R135: a port becomes routable: DEAD clears, its timer stops, and every held packet of the die, those of its dead
ports, is looked up again. -/
def Dev.portRoutable (d : Dev) (p : Nat) : Dev :=
  let held := (d.portsOfDie (laneDie p)).filter (fun x => d.bit PRT_STAT_DEAD (onLane x))
  let d := (d.putB PRT_STAT_DEAD (onLane p) false).modEport p (fun e => { e with deadTimer := false })
  d.each held (fun x d => d.relookPort x)

/-- Drop every packet queued for a port (PRT_RELEASE SCOPE 1, R136; R38). -/
def Dev.dropQueued (d : Dev) (p reason : Nat) : Dev :=
  d.each (d.queuedIds p) (fun i d => d.dropPkt i (laneDie p) reason)

end Sys2Proof.Machine
end

