-- ==== Sys2Proof/Machine/Sched.lean ====
section
/-! DEFINITION. Egress scheduling: cut-through (R165), arbitration (R167 to R169), shapers (R170 to R173), time gates
(R174 to R177). -/

namespace Sys2Proof.Machine

/-! ## Shapers -/

def Dev.shaper (d : Dev) (p t : Nat) : Shaper := Tab.get d.rtr.shapers Shaper.init (p * 16 + t)
def Dev.setShaper (d : Dev) (p t : Nat) (x : Shaper) : Dev :=
  { d with rtr := { d.rtr with shapers := Tab.set d.rtr.shapers Shaper.init (p * 16 + t) x } }

/-- The register instance of class t of port p. -/
def shapeAt (p t : Nat) : At := ⟨p / 128, (p % 128) * 16 + t⟩

/-- R170: the credit now, in 1/8000 byte: RATE Mb/s is RATE such units a nanosecond. -/
def Shaper.creditNow (x : Shaper) (now : Nat) : Int :=
  if x.rate = 0 then x.burst * 8000 else min (x.burst * 8000) (x.credit + x.rate * (now - x.stamp : Nat))

/-- Round up to a boundary of the calendar wheel (R172). -/
def wheelUp (t : Nat) : Nat := (t + 7) / 8 * 8

/-- The horizon of the calendar wheel in ns (R172). -/
def wheelHorizon : Nat := 32768

/-- R172: with a negative credit the class waits until the credit is back at 0, rounded up to a wheel boundary; with a
credit of 0 or more, or the shaper off, it is eligible. -/
def Shaper.rearm (x : Shaper) (fabric : Nat) : Shaper :=
  if x.rate = 0 ∨ 0 ≤ x.credit then { x with wait := none, wheel := false }
  else
    let t := wheelUp (fabric + ((-x.credit).toNat + x.rate - 1) / x.rate)
    { x with wait := some t, wheel := t ≤ fabric + wheelHorizon }

/-- The shaper lets its class start packets. -/
def Shaper.eligible (x : Shaper) : Bool := x.wait = none

/-- Charge a packet of length `len` bytes at its start (R170, R171). -/
def Shaper.charge (x : Shaper) (len now fabric : Nat) : Shaper :=
  if x.rate = 0 then x
  else { x with credit := x.creditNow now - len * 8000, stamp := now }.rearm fabric

/-- R171: the charged length of a packet of n flits on a port. -/
def Dev.chargedLen (d : Dev) (p n : Nat) : Nat :=
  64 * n + d.get SCH_PORTCFG_PKT_OVH (onLane p) + n * d.get SCH_PORTCFG_FLIT_OVH (onLane p)

/-! ## Gates -/

def Dev.gate (d : Dev) (p : Nat) : Gate := Tab.get d.rtr.gates Gate.init p
def Dev.setGate (d : Dev) (p : Nat) (g : Gate) : Dev :=
  { d with rtr := { d.rtr with gates := Tab.set d.rtr.gates Gate.init p g } }

/-- A word of a gate list (Table 7-6). -/
def Dev.gateWord (d : Dev) (p l e : Nat) : Nat := Tab.get d.win.gate 0 ((p * 2 + l) * 256 + e)
def gwDuration (w : Nat) : Nat := bits w 16 30
def gwOpen (w : Nat) : Nat := bits w 0 16

/-- The entries of a list. -/
def Dev.gateList (d : Dev) (p l n : Nat) : List Nat := (List.range n).map (d.gateWord p l)
/-- The cycle of a list: the sum of its durations. -/
def gateCycle (ws : List Nat) : Nat := (ws.map gwDuration).sum

/-- The active list's number and length. -/
def Dev.gateActive (d : Dev) (p : Nat) : Nat := d.get SCH_GATECTL_ACTIVE (onLane p)
def Dev.gateRunning (d : Dev) (p : Nat) : Bool := d.bit SCH_GATECTL_RUNNING (onLane p)
def Gate.len (g : Gate) (l : Nat) : Nat := if l = 0 then g.lenA else g.lenB
def Gate.setLen (g : Gate) (l n : Nat) : Gate := if l = 0 then { g with lenA := n } else { g with lenB := n }

/-- R174: the gate of class t is open: EN is 0, no list is active, or the current entry opens it. -/
def Dev.gateOpen (d : Dev) (p t : Nat) : Bool :=
  !d.bit SCH_GATECTL_EN (onLane p) || !d.gateRunning p || bits (d.get SCH_GATESTAT_OPEN (onLane p)) t 1 = 1

/-- How long the entries of a list keep class t open from their first on; none when every one does. DEDUCED (log 115). -/
def openFor (ws : List Nat) (t : Nat) : Option Nat :=
  let run := ws.takeWhile (fun w => bits (gwOpen w) t 1 = 1)
  if run.length = ws.length then none else some (gateCycle run)

/-- The time until the active list closes class t; none when it does not. -/
def Dev.activeLeft (d : Dev) (p t : Nat) : Option Nat :=
  if !d.gateRunning p then none
  else
    let g := d.gate p
    let l := d.gateActive p
    let n := g.len l
    let cur := d.get SCH_GATESTAT_ENTRY (onLane p)
    (openFor ((List.range n).map (fun i => d.gateWord p l ((cur + 1 + i) % n))) t).map (fun x => (g.entryEnd - d.fabricNow) + x)

/-- R176: the time at which a pending shadow takes over: the first cycle boundary of the active list at or after T, else
T plus whole cycles of its own. DEDUCED (log 48). -/
def Dev.takeoverTime (d : Dev) (p : Nat) : Nat :=
  let g := d.gate p
  if d.gateRunning p then
    let c := max 1 (gateCycle (d.gateList p (d.gateActive p) (g.len (d.gateActive p))))
    let start := max g.takeover g.cycleStart
    g.cycleStart + (start - g.cycleStart + c - 1) / c * c
  else g.takeover

/-- The shadow list: B while A is active, A while B is active or none is (R174). -/
def Dev.shadow (d : Dev) (p : Nat) : Nat := if d.gateRunning p then 1 - d.gateActive p else 0

/-- The time from now until the gate of class t closes, in ns, a pending takeover counted in; none when it does not close.
DEDUCED (log 115). -/
def Dev.gateLeft (d : Dev) (p t : Nat) : Option Nat :=
  if !d.bit SCH_GATECTL_EN (onLane p) then none
  else if !d.bit SCH_GATECTL_PENDING (onLane p) then d.activeLeft p t
  else
    let u := d.takeoverTime p - d.fabricNow
    match d.activeLeft p t with
    | some x => if x < u then some x else after u
    | none => after u
where
  /-- The close under the list that takes over. -/
  after (u : Nat) : Option Nat := (openFor (d.gateList p (d.shadow p) ((d.gate p).len (d.shadow p))) t).map (u + ·)

/-- The time n flits take on a port, in ps, rounded up (Table 2-1): 512 bits over w lanes of payload rate 200, 100 or 50 Gb/s, in
Greenware 516 line bits over the line rate. DESIGN CHOICE (log 130). -/
def Dev.flitsPs (d : Dev) (p n : Nat) : Nat :=
  let w := max 1 (d.pwidth p)
  let r := (d.lane p).rate
  if d.greenware p then (n * 516 * 100000 * 2 ^ r + 21250 * w - 1) / (21250 * w)
  else (n * 2560 * 2 ^ r + w - 1) / w

/-- R177: with GUARD = 1 a packet of n flits is sent completely before its gate closes. -/
def Dev.guardOk (d : Dev) (p t n : Nat) : Bool :=
  !d.bit SCH_PORTCFG_GUARD (onLane p) ||
  (match d.gateLeft p t with
   | some left => d.flitsPs p n ≤ left * 1000
   | none => true)

/-- Start entry `e` of list `l` at time `t` (R174, R176). -/
def Dev.gateEntry (d : Dev) (p l e t : Nat) : Dev :=
  let w := d.gateWord p l e
  ((d.put SCH_GATESTAT_ENTRY (onLane p) e).put SCH_GATESTAT_OPEN (onLane p) (gwOpen w)).setGate p
    { (d.gate p) with entryEnd := t + gwDuration w, cycleStart := if e = 0 then t else (d.gate p).cycleStart }

/-! ## Eligibility and age -/

/-- R165: the payload rate of a port, in arbitrary units. -/
def Dev.payloadRate (d : Dev) (p : Nat) : Nat :=
  d.pwidth p * (if d.greenware p then 21250 * 128 * 1000 / 129 else 20000 * 1000) / 2 ^ (d.lane p).rate

/-- R165: a queued packet is eligible for arbitration: by cut-through from its head, else once its tail is written. -/
def Dev.eligible (d : Dev) (p : Nat) (k : Pkt) : Bool :=
  (k.complete && k.arrived = k.total) ||
  (d.bit FWD_CTRL_CT_EN (onDie (laneDie p)) && k.fabric && hMc k.head = 0 && 0 < k.arrived &&
   (match k.owner with | .port i _ => d.payloadRate p ≤ d.payloadRate i | _ => false))

/-- The age of a packet at this router in units of 256 ns (R94, R168). DEDUCED (log 38). -/
def Dev.age (d : Dev) (k : Pkt) : Nat := min 127 (hAge k.head + (d.now - k.t0 + 255) / 256)

/-- The queue of a packet at its egress port: class, network, step (R167). -/
def Pkt.queueKey (k : Pkt) : Nat × Nat × Nat := (hTc k.head, hVn k.head, hStep k.head)

/-- The channel index of a packet at its egress. -/
def Pkt.channel (k : Pkt) : Nat := 6 * hVn k.head + hStep k.head

/-- The packets at the front of the queues of a port. -/
def Dev.fronts (d : Dev) (p : Nat) : List (Nat × Pkt) :=
  ((d.eport p).q.foldl (fun (acc : List (Nat × Pkt)) i =>
    match d.pkt i with
    | some k => if acc.any (fun x => x.2.queueKey = k.queueKey) then acc else acc ++ [(i, k)]
    | none => acc) [])

/-- Table 7-4, row 2: a new packet can start. -/
def Dev.canStart (d : Dev) (p : Nat) (k : Pkt) : Bool :=
  let c := d.chan p k.channel
  d.eligible p k && d.gateOpen p (hTc k.head) && (d.shaper p (hTc k.head)).eligible && 0 < c.avail && c.tx = none &&
  d.guardOk p (hTc k.head) k.total

/-- Table 7-4, rows 5 to 7: a is sent before b within a class. -/
def Dev.before (d : Dev) (lim : Nat) (a b : Pkt) : Bool :=
  let old (k : Pkt) : Bool := lim ≠ 0 && lim ≤ d.age k
  let vnRank (k : Pkt) : Nat := match hVn k.head with | 1 => 0 | 2 => 1 | _ => 2
  if old a || old b then
    if old a && old b then d.age a > d.age b || (d.age a = d.age b && a.seq < b.seq) else old a
  else if vnRank a ≠ vnRank b then vnRank a < vnRank b
  else if hStep a.head ≠ hStep b.head then hStep a.head > hStep b.head
  else d.age a > d.age b || (d.age a = d.age b && a.seq < b.seq)

/-- The packet that goes first among candidates of one class. -/
def Dev.firstOf (d : Dev) (lim : Nat) (l : List (Nat × Pkt)) : Option (Nat × Pkt) :=
  l.foldl (fun best x => match best with
    | some b => if d.before lim x.2 b.2 then some x else some b
    | none => some x) none

def Dev.strict (d : Dev) (p t : Nat) : Bool := bits (d.rd .SCH_TCCFG (onLane p)).toNat (4 * t + 3) 1 = 1
/-- The weight of a class; 0 counts as 1 (R169). -/
def Dev.tcWeight (d : Dev) (p t : Nat) : Nat := max 1 (bits (d.rd .SCH_TCCFG (onLane p)).toNat (4 * t) 3)

/-- R169: the deficit round robin: the class to serve and the port as the visits leave it. -/
def Dev.drr (d : Dev) (p : Nat) (cand : Nat → Option (Nat × Pkt)) : Nat → EPort → Option (Nat × Pkt) × EPort
  | 0, e => (none, e)
  | n + 1, e =>
    let t := e.visit
    let skip : EPort := { e with visit := (t + 1) % 16, inVisit := false }
    if d.strict p t then d.drr p cand n skip
    else match cand t with
      | none => d.drr p cand n { skip with deficit := e.deficit.set t 0 }
      | some x =>
        let df := e.deficit.getD t 0 + (if e.inVisit then 0 else d.tcWeight p t * 2048)
        let len := d.chargedLen p x.2.total
        if len ≤ df then (some x, { e with inVisit := true, deficit := e.deficit.set t (df - len) })
        else d.drr p cand n { skip with deficit := e.deficit.set t df }

/-- R168, rows 2 to 7: the new packet that starts, and the port with its deficits changed. DEDUCED (log 47). -/
def Dev.newStart (d : Dev) (p : Nat) : Option (Nat × Pkt) × EPort :=
  let cands := (d.fronts p).filter (fun x => d.canStart p x.2)
  let lim := d.get SCH_PORTCFG_AGE_LIM (onLane p)
  let cand (t : Nat) := d.firstOf lim (cands.filter (fun x => hTc x.2.head = t))
  match (List.range 16).reverse.find? (fun t => d.strict p t && (cand t).isSome) with
  | some t => (cand t, d.eport p)
  | none => if cands = [] then (none, d.eport p) else d.drr p cand 128 (d.eport p)

/-- R168, row 1: the started packet whose next flit is written and whose channel has a credit, the earliest started. -/
def Dev.continuing (d : Dev) (p : Nat) : Option (Nat × Nat × Nat) :=
  ((List.range 18).filterMap (fun v =>
    let c := d.chan p v
    match c.tx with
    | some (i, n) => match d.pkt i with
      | some k => if n < k.arrived ∧ 0 < c.avail then some (v, i, n, k.started.getD 0) else none
      | none => none
    | none => none)).foldl (fun best x => match best with
      | some b => if x.2.2.2 < b.2.2.2 then some x else some b
      | none => some x) none |>.map (fun x => (x.1, x.2.1, x.2.2.1))

end Sys2Proof.Machine
end

