-- ==== Sys2Proof/Machine/Multicast.lean ====
section
/-! DEFINITION. Group tables, the cache of entries, fences, replication of group packets (R182 to R194, R213 to R215). -/

namespace Sys2Proof.Machine

/-! ## Group entries (Table 8-1) -/

def Dev.groupWord (d : Dev) (q g w : Nat) : Nat := Tab.get d.win.group 0 ((q * 65536 + g) * 16 + w)
def Dev.gRoot (d : Dev) (q g : Nat) : Bool := bits (d.groupWord q g 0) 0 1 = 1
def Dev.gUpPort (d : Dev) (q g : Nat) : Nat := bits (d.groupWord q g 0) 1 9
def Dev.gUpStep (d : Dev) (q g : Nat) : Nat := bits (d.groupWord q g 0) 10 3
def Dev.gDownStep (d : Dev) (q g : Nat) : Nat := bits (d.groupWord q g 0) 13 3
def Dev.gFwmem (d : Dev) (q g : Nat) : Bool := bits (d.groupWord q g 0) 16 1 = 1
def Dev.gColl (d : Dev) (q g : Nat) : Bool := bits (d.groupWord q g 0) 17 1 = 1
def Dev.gEngdie (d : Dev) (q g : Nat) : Nat := bits (d.groupWord q g 0) 18 2
def Dev.gWindow (d : Dev) (q g : Nat) : Nat := bits (d.groupWord q g 0) 20 4
def Dev.gEnc (d : Dev) (q g : Nat) : Bool := bits (d.groupWord q g 0) 24 1 = 1
def Dev.gTotal (d : Dev) (q g : Nat) : Nat := bits (d.groupWord q g 0) 32 20
def Dev.gKeyslot (d : Dev) (q g : Nat) : Nat := bits (d.groupWord q g 1) 0 16
/-- Port p leads to a child. -/
def Dev.gDown (d : Dev) (q g p : Nat) : Bool := bits (d.groupWord q g (2 + p / 64)) (p % 64) 1 = 1
/-- Endpoint index i of this module is a member. -/
def Dev.gLocal (d : Dev) (q g i : Nat) : Bool := bits (d.groupWord q g (10 + i / 64)) (i % 64) 1 = 1
def Dev.gDownPorts (d : Dev) (q g : Nat) : List Nat := (List.range 512).filter (d.gDown q g)
def Dev.gLocals (d : Dev) (q g : Nat) : List Nat := (List.range 256).filter (d.gLocal q g)

/-- A group is backed on a die (R183). -/
def Dev.backed (d : Dev) (q g : Nat) : Bool := bits (d.rd .MCG_GVALID ⟨q, g / 64⟩).toNat (g % 64) 1 = 1

/-- Set or clear the backed bit of a group. -/
def Dev.setBacked (d : Dev) (q g : Nat) (b : Bool) : Dev :=
  d.put ⟨.MCG_GVALID, g % 64, 1, .ro, 0⟩ ⟨q, g / 64⟩ b.toNat

/-- The cache of a die, most recently used first. -/
def Dev.gcache (d : Dev) (q : Nat) : List Nat := Tab.get d.mcg.cache [] q
def Dev.setGcache (d : Dev) (q : Nat) (l : List Nat) : Dev :=
  { d with mcg := { d.mcg with cache := Tab.set d.mcg.cache [] q l } }
/-- Use an entry of the cache, or bring it in, dropping the least recently used beyond 1,024 (R183). -/
def Dev.useEntry (d : Dev) (q g : Nat) : Dev := d.setGcache q ((g :: (d.gcache q).filter (· ≠ g)).take 1024)

/-! ## Fences (R213 to R215) -/

/-- This module's node identifier, and whether it has one (CFG_ERGSTAT). -/
def Dev.nodeId (d : Dev) : Nat := d.get CFG_ERGSTAT_NODE onMod
def Dev.nodeValid (d : Dev) : Bool := d.bit CFG_ERGSTAT_VALID onMod

/-- The last applied pair of a node on a die. -/
def Dev.fencePair (d : Dev) (q n : Nat) : Nat × Nat := Tab.get d.mcg.pair (0, 0) (q * 131072 + n)
def Dev.nodeFenced (d : Dev) (q n : Nat) : Bool := Tab.get d.mcg.node false (q * 131072 + n)
def Dev.epFenced (d : Dev) (q e : Nat) : Bool := Tab.get d.mcg.ep false (q * 2 ^ 25 + e)

/-- R213: a pair supersedes another, compared generation first. -/
def pairAbove (a b : Nat × Nat) : Bool := a.1 > b.1 || (a.1 = b.1 && a.2 > b.2)

/-- Store a superseding fence on one die (R213). -/
def Dev.applyFence (d : Dev) (q e : Nat) (node set : Bool) (gen orig : Nat) : Dev :=
  let n := epNode e
  { d with mcg := { d.mcg with
      pair := Tab.set d.mcg.pair (0, 0) (q * 131072 + n) (gen, orig),
      node := if node then Tab.set d.mcg.node false (q * 131072 + n) set else d.mcg.node,
      ep := if node then d.mcg.ep else Tab.set d.mcg.ep false (q * 2 ^ 25 + e) set } }

/-- R215: the branch of a port is fenced: its peer node, learned in training, has its node bit set. -/
def Dev.branchFenced (d : Dev) (q p : Nat) : Bool := (d.link p).peerValid && d.nodeFenced q (d.link p).peerNode

/-- The endpoint address of endpoint index i of this module. -/
def Dev.localEp (d : Dev) (i : Nat) : Nat := d.nodeId * 256 + i

/-- R215: a local member is fenced: its endpoint bit or this module's node bit. -/
def Dev.memberFenced (d : Dev) (q i : Nat) : Bool := d.nodeFenced q d.nodeId || (i < 256 && d.epFenced q (d.localEp i))

/-! ## Replication -/

/-- R192: a copy of a packet with its own reference to each cell; the number of the copy, which takes the flits that are still to
come (R165). -/
def Dev.copyPkt (d : Dev) (i member : Nat) : Dev × Nat :=
  match d.pkt i with
  | none => (d, 0)
  | some k =>
    let j := d.rtr.nextPkt
    let d := (d.each k.flits (fun f d => d.addRef f.loc)).setPkt i { k with copies := some ((k.copies.getD []) ++ [j]) }
    ({ d with rtr := { d.rtr with
        pkts := Tab.put d.rtr.pkts j { k with member := member, egress := .none, copies := none },
        nextPkt := j + 1 } }, j)

/-- One copy of a group packet to a port at a step; below the floor it is dropped as LADDER (R142, R190). -/
def Dev.copyToPort (d : Dev) (i p step : Nat) : Dev :=
  match d.pkt i with
  | none => d
  | some k =>
    let (d, j) := d.copyPkt i 512
    if step < k.floor then d.dropPkt j k.headDie dropLADDER else d.toPort j p step false

/-- One delivery of a group packet on a die. -/
def Dev.copyToDie (d : Dev) (i q member : Nat) : Dev :=
  let (d, j) := d.copyPkt i member
  d.toDelivery j q

/-- Copies on the DOWNMASK ports (R191): none for a fenced branch (R215) or for a port that does not exist (R38).
DEDUCED (log 41, 116). -/
def Dev.replicatePorts (d : Dev) (q g i : Nat) (ports : List Nat) : Dev :=
  d.each ports (fun p d =>
    if !d.pexists p then d.inc .MCG_NOPORT (onDie q)
    else if d.branchFenced q p then d.inc .MCG_FENCESKIP (onDie q)
    else ((d.copyToPort i p (d.gDownStep q g)).inc .MCG_REPL (onDie q)).event q blkMCG 0 0x01 0 1)

/-- Deliveries to the members of this module (R191, R215); member 256 is module firmware. -/
def Dev.replicateMembers (d : Dev) (q g i : Nat) : Dev :=
  d.each (d.gLocals q g ++ (if d.gFwmem q g then [256] else [])) (fun m d =>
    if d.memberFenced q m then d.inc .MCG_FENCESKIP (onDie q)
    else ((d.copyToDie i (if m < 256 then m / 64 else q) m).inc .MCG_REPL (onDie q)).event q blkMCG 0 0x01 0 1)

/-- The deliveries of a packet that goes down to the members of this module, counted (R191, R215); the engine carries them out.
DEDUCED (log 41). -/
def Dev.countMembers (d : Dev) (q g : Nat) : Dev :=
  d.each (d.gLocals q g ++ (if d.gFwmem q g then [256] else [])) (fun m d =>
    if d.memberFenced q m then d.inc .MCG_FENCESKIP (onDie q) else (d.inc .MCG_REPL (onDie q)).event q blkMCG 0 0x01 0 1)

/-- The direction of a BARRIER packet: true for down (Table 8-10). -/
def barrierDown (h : Body) : Bool := fb h 160 1 = 1

/-- A group packet, in plain, that its engine sends down the tree: RED_DOWN, BARRIER with DIR = 1. DEDUCED (log 85). -/
def goesDown (h : Body) : Bool := hType h = 0x22 || (hType h = 0x23 && barrierDown h)

/-- The packet is forgotten once its copies have been made; this is no drop. -/
def Dev.endOriginal (d : Dev) (i : Nat) : Dev :=
  match d.pkt i with
  | some k => d.retirePkt i k
  | none => d

/-- Table 8-4: the handling of a group packet whose entry is at hand, when its head is in (R165). A router knows the direction of a
packet of another module by the port that it came on: its operand may be encrypted (R221). `named` lists the ports that an engine of
this module names for its own packet. DEDUCED (log 85). -/
def Dev.groupHandle (d : Dev) (i : Nat) (named : List Nat) : Dev :=
  match d.pkt i with
  | none => d
  | some k =>
    let q := k.headDie
    let g := hGroup k.head
    let t := hType k.head
    let d := (d.useEntry q g).setPkt i { k with copies := some [] }
    let injected := match k.owner with | .inject _ _ _ => true | _ => false
    let inPort := match k.owner with | .port p _ => p | _ => 512
    let root := d.gRoot q g
    let fromUp := !root && inPort = d.gUpPort q g
    let up (d : Dev) : Dev :=
      if d.pexists (d.gUpPort q g) then d.copyToPort i (d.gUpPort q g) (d.gUpStep q g) else d
    let engine (d : Dev) : Dev := d.copyToDie i (d.gEngdie q g) 257
    let d :=
      if injected && named ≠ [] then d.replicatePorts q g i named
      else if t = 0x20 then
        if root || fromUp then (d.replicatePorts q g i (d.gDownPorts q g)).replicateMembers q g i else up d
      else if k.down || (!injected && t = 0x22) || (t = 0x23 && fromUp) then
        let d := (d.replicatePorts q g i (d.gDownPorts q g)).countMembers q g
        engine d
      else if injected && !root then up d
      else engine d
    d.when k.complete (·.endOriginal i)

/-- Two packets came in at one ingress port or injection point. -/
def Owner.samePoint : Owner → Owner → Bool
  | .port a _, .port b _ => a = b
  | .inject a b _, .inject x y _ => a = x && b = y
  | _, _ => false

/-- R14, R167: an earlier packet of the same ingress point waits for its entry on die q. DEDUCED (log 85). -/
def Dev.groupBehind (d : Dev) (q : Nat) (o : Owner) : Bool :=
  d.mcg.waiting.any (fun w => w.1 = q && (match d.pkt w.2.2.1 with | some k => k.owner.samePoint o | none => false))

/-- R183, R191: a group packet whose entry may be at hand: dropped as GROUP when group routing is off or the group is not backed;
served from the cache; else it waits, behind the packets that wait. DEDUCED (log 85). -/
def Dev.groupTurn (d : Dev) (q g i : Nat) (named : List Nat) : Dev :=
  match d.pkt i with
  | none => d
  | some k =>
    if !d.bit MCG_CTRL_EN (onDie q) || !d.backed q g then d.dropPkt i q dropGROUP
    else if (d.gcache q).contains g && !d.groupBehind q k.owner then d.groupHandle i named
    else { d with mcg := { d.mcg with waiting := d.mcg.waiting ++ [(q, g, i, named)] } }

/-- R183: a group packet on the die it entered; a lookup that misses the cache is counted. -/
def Dev.groupArrive (d : Dev) (i : Nat) (named : List Nat) : Dev :=
  match d.pkt i with
  | none => d
  | some k =>
    let q := k.headDie
    let g := hGroup k.head
    let miss := d.bit MCG_CTRL_EN (onDie q) && d.backed q g && !(d.gcache q).contains g
    let d := d.groupTurn q g i named
    d.when miss (fun d => (d.inc .MCG_CACHEMISS (onDie q)).event q blkMCG 0 0x02 0 1)

end Sys2Proof.Machine
end

