-- ==== Sys2Proof/Machine/RouterIn.lean ====
section
/-! DEFINITION. Packets entering the router: flits of a link (R60 to R62, R101 to R107), injection (R116, R163, R179), flits
that arrive over a bridge (R15, R17). -/

namespace Sys2Proof.Machine

/-- A new packet with its head flit not stored yet. -/
def Dev.newPkt (d : Dev) (o : Owner) (fabric : Bool) (head : Body) (down : Bool) : Dev × Nat :=
  let i := d.rtr.nextPkt
  let k : Pkt :=
    { head := head, flits := [], total := hFlits head, owner := o, fabric := fabric,
      floor := if fabric then hStep head + 1 else hStep head, path := [o.die], egress := .none, nonmin := false,
      seq := i, t0 := d.now, started := none, stomped := false, member := 512, down := down, copies := none }
  ({ d with rtr := { d.rtr with pkts := Tab.put d.rtr.pkts i k, nextPkt := i + 1 } }, i)

/-- The copies of a replicated packet that are still there. -/
def Dev.copiesOf (d : Dev) (i : Nat) : List Nat := ((d.pkt i).bind (·.copies)).getD []

/-- A packet takes a flit. -/
def Dev.growPkt (d : Dev) (i : Nat) (b : Body) (poison : Bool) (loc : FLoc) : Dev :=
  match d.pkt i with
  | none => d
  | some k => d.setPkt i { k with flits := k.flits ++ [⟨b, poison || k.stomped, loc, k.path, 0⟩] }

/-- Store one more flit of a packet at its ingress (R158), and give each copy of it a reference of its own (R192). A packet known to
be corrupt after its head left goes on with POISON (R104). -/
def Dev.addFlit (d : Dev) (i : Nat) (b : Body) (poison : Bool) : Dev :=
  match d.pkt i with
  | none => d
  | some k =>
    let (d, loc) := d.storeFlit k.owner k.owner.bank (poison || k.stomped)
    let d := d.growPkt i b poison loc
    d.each ((d.copiesOf i).filter (fun j => (d.pkt j).isSome)) (fun j d => (d.addRef loc).growPkt j b poison loc)

/-- Corruption of a packet is found at its newest flit: before the head left it is dropped, afterwards the rest goes on
with POISON and FWD_STOMP counts it on the die where the packet entered (R102 to R104, DESIGN CHOICE).
DESIGN CHOICE (log 134). -/
def Dev.corruptOne (d : Dev) (i reason : Nat) : Dev :=
  match d.pkt i with
  | none => d
  | some k =>
    if k.started.isNone then d.dropOne i k.headDie reason
    else if k.stomped then d
    else
      let fl := k.flits.modify (k.flits.length - 1) (fun f => { f with poison := true })
      (d.setPkt i { k with stomped := true, flits := fl }).inc .FWD_STOMP (onDie k.owner.die)

/-- Corruption of a packet, or of every copy of a replicated one (R107). DESIGN CHOICE (log 134). -/
def Dev.corrupt (d : Dev) (i reason : Nat) : Dev :=
  match (d.pkt i).bind (·.copies) with
  | some l => (d.each l (fun j d => d.corruptOne j reason)).when (d.pkt i).isSome (fun d => match d.pkt i with
      | some k => d.setPkt i { k with stomped := true }
      | none => d)
  | none => d.corruptOne i reason

/-- A packet, or each copy of a replicated one, goes on as far as it can, and is delivered once it is whole there.
DEDUCED (log 85). -/
def Dev.goOn (d : Dev) (i : Nat) : Dev :=
  match (d.pkt i).bind (·.copies) with
  | some l => d.each l (fun j d => (d.pumpPkt j).deliverIfWhole j)
  | none => (d.pumpPkt i).deliverIfWhole i

/-- Every flit of a packet is in: the check of its PCRC (R102), then it goes on; a replicated packet is forgotten. -/
def Dev.tailIn (d : Dev) (i : Nat) : Dev :=
  match d.pkt i with
  | none => d
  | some k =>
    if !k.complete then d.goOn i
    else
      let d := if !k.stomped && pcrcOf k.bodies ≠ pcrcField k.bodies then d.corrupt i dropCRC else d
      let d := d.goOn i
      d.when k.copies.isSome (·.endOriginal i)

/-- The checks and the lookup at a head flit (R94, R106, R114, R191), in the order of Table 4-6 (R107); `named` lists the ports that
an engine of this module names for its own group packet. -/
def Dev.headIn (d : Dev) (i : Nat) (poison badChannel : Bool) (named : List Nat) : Dev :=
  match d.pkt i with
  | none => d
  | some k =>
    let q := k.owner.die
    if poison then d.dropPkt i q dropPOISON
    else if k.total = 1 && pcrcOf k.bodies ≠ pcrcField k.bodies then d.dropPkt i q dropCRC
    else if malformed k.head || badChannel then d.dropPkt i q dropHEADER
    else if k.fabric && hHops k.head = 15 then d.dropPkt i q dropHOPS
    else if hMc k.head = 1 then d.groupArrive i named
    else d.routePkt i

/-! ## From a link -/

/-- R60: a DATA flit breaks the framing of its channel. -/
def Dev.framingFault (d : Dev) (p v : Nat) (head : Bool) (b : Body) : Bool :=
  match (d.chan p v).rx, head with
  | .closed, false => true
  | .closed, true => hFlits b = 0 || hFlits b > 76
  | _, true => true
  | _, false => false

/-- A DATA flit accepted in order enters the router (R61, R62, R108). -/
def Dev.dataIn (d : Dev) (p v : Nat) (head poison : Bool) (b : Body) : Dev :=
  let d := d.modChan p v (fun c => { c with occ := c.occ + 1, acc := (c.acc + 1) % 65536 })
  match (d.chan p v).rx with
  | .closed =>
    if head then
      let (d, i) := d.newPkt (.port p v) true b false
      let n := hFlits b
      let d := d.modChan p v (fun c => { c with rx := if n ≤ 1 then .closed else .packet i (n - 1) })
      ((d.addFlit i b poison).headIn i poison (hVn b * 6 + hStep b ≠ v) []).tailIn i
    else d
  | .packet i n =>
    let d := d.modChan p v (fun c => { c with rx := if n ≤ 1 then .closed else .packet i (n - 1) })
    ((d.addFlit i b poison).when poison (·.corrupt i dropPOISON)).tailIn i
  | .discard n =>
    let d := d.modChan p v (fun c => { c with rx := if n ≤ 1 then .closed else .discard (n - 1) })
    let (d, loc) := d.storeFlit (.port p v) (some (p / 32 % 4)) poison
    d.freeLoc loc

/-! ## Injection -/

/-- The cells that an injection point needs for n flits of a channel: its partly filled cell holds some (R158, R163). -/
def Dev.injCellsNeeded (d : Dev) (q r v n : Nat) : Nat :=
  let room := match (Tab.find d.rtr.openCell (Owner.inject q r v).code).bind d.cell with
    | some c => 4 - c.written
    | none => 0
  (n - room + 3) / 4

/-- R163: the point has cells for all flits of the packet within its quota. -/
def Dev.injRoom (d : Dev) (q r v n : Nat) : Bool :=
  d.chargedInject q r + d.injCellsNeeded q r v n ≤ d.get FWD_INJ_INJ (onDie q)

/-- R116: the bank named by STAMP is valid, or the packet is routed by group (R192). -/
def Dev.stampOk (d : Dev) (q : Nat) (k : Packet) : Bool := typeMc k.type || d.bankValid q (d.get RTE_EPOCH_STAMP (onDie q))

/-- The ports that an injected group packet is to be copied to (Table 8-4). DEDUCED (log 116). -/
def Dev.groupPorts (d : Dev) (q : Nat) (b : Body) (named : List Nat) : List Nat :=
  let g := hGroup b
  if named ≠ [] then named
  else if goesDown b || (hType b = 0x20 && d.gRoot q g) then d.gDownPorts q g
  else if d.gRoot q g then []
  else [d.gUpPort q g]

/-- The occupancy of a port is above INJTHR (R179). -/
def Dev.overInj (d : Dev) (p : Nat) : Bool := d.pexists p && d.occupancy p > d.injThr (laneDie p)

/-- R179: a port that an injected packet would take has an occupancy above INJTHR. DEDUCED (log 116). -/
def Dev.injHeld (d : Dev) (q : Nat) (b : Body) (named : List Nat) : Bool :=
  if hMc b = 1 then d.backed q (hGroup b) && (d.groupPorts q b named).any (d.overInj)
  else match d.lookup q b 0 with
    | .go p _ _ => d.overInj p
    | .strand p _ _ => d.overInj p
    | _ => false

/-- The packet enters the router: stamped (R116), sealed (R367), counted (R127), checked (R106), stored and looked up. -/
def Dev.enterRouter (d : Dev) (q r : Nat) (k : Packet) (ports : List Nat) (glaze : Option (Nat × Nat)) : Dev :=
  let k := { k with epoch := d.get RTE_EPOCH_STAMP (onDie q) }
  let down := goesDown (k.bodies.headD 0)
  let k := match glaze with
    | some (key, nonce) => k.sealed key nonce
    | none => k
  let bodies := k.bodies
  let h := bodies.headD 0
  let d := d.epochCount q h 1
  let (d, i) := d.newPkt (.inject q r (6 * hVn h + hStep h)) false h down
  let d := (d.addFlit i h false).headIn i false false ports
  (d.each (bodies.drop 1) (fun b d => d.addFlit i b false)).tailIn i

/-- Take the first waiting request equal to x off the injection list. -/
def Dev.dropInj (d : Dev) (x : InjReq) : Dev := { d with rtr := { d.rtr with inj := dropFirst x d.rtr.inj } }

/-- R116, R163, R179: the packet of a request enters, or waits; a wait under R179 is counted once. -/
def Dev.tryInject (d : Dev) (x : InjReq) : Dev :=
  let k := { x.pkt with epoch := d.get RTE_EPOCH_STAMP (onDie x.die) }
  let b := k.bodies.headD 0
  let v := 6 * hVn b + hStep b
  if !d.stampOk x.die x.pkt || !d.injRoom x.die x.region v x.pkt.flitCount then d
  else if d.injHeld x.die b x.ports then
    if x.counted then d
    else { d with rtr := { d.rtr with inj := d.rtr.inj.map (fun y => if y = x then { y with counted := true } else y) } }.inc
      .FWD_INJWAIT (onDie x.die)
  else (d.dropInj x).enterRouter x.die x.region x.pkt x.ports x.glaze

/-- An engine or module firmware offers a packet at the injection point of a region. -/
def Dev.offerSealed (d : Dev) (q r : Nat) (fw : Bool) (k : Packet) (ports : List Nat) (glaze : Option (Nat × Nat)) : Dev :=
  { d with rtr := { d.rtr with inj := d.rtr.inj ++ [⟨q, r, fw, k, ports, false, glaze⟩] } }

/-- Offer a packet that carries no Glaze tag, or carries it already. -/
def Dev.offer (d : Dev) (q r : Nat) (fw : Bool) (k : Packet) (ports : List Nat) : Dev := d.offerSealed q r fw k ports none

/-- The requests that wait at an injection point, in order. -/
def Dev.waitingInj (d : Dev) (q r : Nat) : List InjReq := d.rtr.inj.filter (fun x => x.die = q && x.region = r)

/-- Try every waiting request of an injection point in order. -/
def Dev.retryInj (d : Dev) (q r : Nat) : Dev := d.each (d.waitingInj q r) (fun x d => d.tryInject x)

/-! ## Over a bridge -/

/-- The preferred bank of flits received over a bridge: the region of the egress port or delivery point on this die, that of the
group's reduction engine (R184) and region 0 for a point that serves the die (R13); none when they leave the die again (R158). -/
def Pkt.bridgeBank (k : Pkt) (q : Nat) : Option Nat :=
  match k.egress with
  | .port p _ => if laneDie p = q then some (p / 32 % 4) else none
  | .deliver x => if x = q then some (k.deliveryNumber q / 32 % 4) else none
  | .none => none

/-- The front flit that a bridge end of die q receives is buffered by network and class, and goes on (R15).
DESIGN CHOICE (log 26). -/
def Dev.bridgeArrive (d : Dev) (q e : Nat) : Dev :=
  let key := acrossBridge q e * 2 + e
  match Tab.get d.rtr.bridges [] key with
  | [] => d
  | (i, n) :: rest =>
    let d := { d with rtr := { d.rtr with bridges := Tab.set d.rtr.bridges [] key rest } }
    match d.pkt i with
    | none => d
    | some k =>
      match k.flits[n]? with
      | none => d
      | some f =>
        let (d, loc) := d.storeFlit (.bridge q e (bridgeAlloc (hVn k.head) f.hop)) (k.bridgeBank q) f.poison
        let d := d.setPkt i { k with flits := k.flits.set n { f with loc := loc, hop := f.hop + 1 } }
        ((d.pumpPkt i).deliverIfWhole i).event q blkBRG e 0x02 0 1

/-- R17: the packets that a bridge leaving end e of die q has accepted lose a flit and are dropped. -/
def Dev.dropOnBridge (d : Dev) (q e reason : Nat) : Dev :=
  d.each ((Tab.get d.rtr.bridges [] (q * 2 + e)).map (·.1)) (fun i d => d.dropPkt i q reason)

/-- The path from a hop on crosses the bridge between a and b. -/
def crosses (a b : Nat) : List Nat → Bool
  | x :: y :: t => (x = a && y = b) || (x = b && y = a) || crosses a b (y :: t)
  | _ => false

/-- The die that a packet leaves from, and the number of its egress (R13). -/
def Pkt.target (k : Pkt) : Nat × Nat :=
  match k.egress with
  | .port p _ => (laneDie p, p)
  | .deliver x => (x, k.deliveryNumber x)
  | .none => (k.headDie, k.headDie * 128)

/-- R17: every flit of a packet whose way ahead meets `bad` is routed on from the die where it is. Where a flit has no route left the
packet is dropped as BRIDGE, or waits for what was reset (`wait`, R25). -/
def Dev.reroute (d : Dev) (i : Nat) (bad : List Nat → Bool) (wait : Bool) : Dev :=
  match d.pkt i with
  | none => d
  | some k =>
    let hit (f : PFlit) : Bool := f.loc ≠ .gone && bad (f.path.drop f.at)
    let way (f : PFlit) : Option (List Nat) :=
      if bad (f.path.drop f.at) then (d.route f.die k.target.1 k.owner.number k.target.2 f.at).map (f.path.take f.at ++ ·)
      else some f.path
    if !(k.flits.any hit || (!k.complete && bad k.path)) then d
    else match k.repath way with
      | some k => (d.setPkt i k).pumpPkt i
      | none => if wait then d else d.dropPkt i k.headDie dropBRIDGE

/-- R17: the packets whose way crosses the bridge between a and b. DEDUCED (log 27). -/
def Dev.rerouteOver (d : Dev) (a b : Nat) (wait : Bool) : Dev :=
  d.each (Tab.keys d.rtr.pkts) (fun i d => d.reroute i (crosses a b) wait)

/-- R25, R28: the packets whose way passes die q, and neither starts nor ends there. -/
def Dev.rerouteAround (d : Dev) (q : Nat) (wait : Bool) : Dev :=
  d.each (Tab.keys d.rtr.pkts) (fun i d => d.reroute i (fun l => (l.drop 1).dropLast.contains q) wait)

/-- R17: take the bridge between die q and its neighbour at end e down: accepted flits drop, traffic is rerouted, and a
die-level fault is raised on both dies. -/
def Dev.takeBridgeDown (d : Dev) (q e : Nat) : Dev :=
  let b := acrossBridge q e
  let d := ((d.putB BRG_STAT_DOWN ⟨q, e⟩ true).putB BRG_STAT_DOWN ⟨b, e⟩ true).bridgeSync q e
  let d := (d.dropOnBridge q e dropBRIDGE).dropOnBridge b e dropBRIDGE
  let d := d.rerouteOver q b false
  (d.raise srcBRIDGE 1 (locBridge q e) 0).raise srcBRIDGE 1 (locBridge b e) 0

end Sys2Proof.Machine
end

