-- ==== Sys2Proof/Machine/Xlt.lean ====
section
/-! DEFINITION. Translation (spec/12): entries, the two levels of lookaside buffers, the check of an access (R314), trap
slots, the backing table. What goes on after a trap stands in Handler.lean. -/

namespace Sys2Proof.Machine

/-! ## Entries (R312, R313) -/

/-- The page of an entry covers an address of a space. -/
def XEnt.covers (e : XEnt) (space addr : Nat) : Bool := e.space = space && e.va ≤ addr && addr < e.va + 2 ^ e.size
/-- The page of an entry overlaps [lo, hi) of a space; an empty range overlaps nothing. -/
def XEnt.overlaps (e : XEnt) (space lo hi : Nat) : Bool := e.space = space && lo < hi && e.va < hi && lo < e.va + 2 ^ e.size
/-- A locked or protected entry is never replaced (R311). -/
def XEnt.kept (e : XEnt) : Bool := e.lock || e.guard ≠ []

/-- The entry that four words spell (Table 12-2). -/
def entOf (w0 w1 w2 w3 : Nat) : XEnt :=
  { space := bits w2 0 16, va := bits w0 12 52 * 4096, size := bits w0 6 6, ba := bits w1 12 52 * 4096,
    key := bits w2 16 4, r := bits w2 20 1 = 1, w := bits w2 21 1 = 1, atom := bits w2 22 1 = 1,
    se := bits w2 23 1 = 1, acc := bits w2 24 1 = 1, dirty := bits w2 25 1 = 1, lock := bits w2 26 1 = 1,
    walked := bits w2 28 1 = 1, desc := bits w3 3 61 * 8, leaf := 0, guard := [] }

/-- R313: four words spell a well-formed entry. -/
def entOk (w0 w1 w2 w3 : Nat) : Bool :=
  let n := bits w0 6 6
  12 ≤ n && n ≤ 52 && bits w0 0 6 = 0 && (bits w0 12 52 * 4096) % 2 ^ n = 0 && bits w0 57 7 = 0 &&
  bits w1 0 12 = 0 && (bits w1 12 52 * 4096) % 2 ^ n = 0 && bits w2 27 1 = 1 && bits w2 29 35 = 0 &&
  (if bits w2 28 1 = 1 then bits w3 0 3 = 0 else w3 = 0)

/-! ## The buffers -/

/-- The second level of a die, most recently used first. DEDUCED (log 87). -/
def Dev.l2 (d : Dev) (q : Nat) : List XEnt := Tab.get d.xlt.l2 [] q
def Dev.setL2 (d : Dev) (q : Nat) (l : List XEnt) : Dev := { d with xlt := { d.xlt with l2 := Tab.set d.xlt.l2 [] q l } }

/-- A first-level buffer: 0 command, 1 payload, of a region of a die. -/
def l1Key (q region cls : Nat) : Nat := (q * 4 + region) * 2 + cls
def l1Size (cls : Nat) : Nat := if cls = 0 then 64 else 256
def Dev.l1 (d : Dev) (k : Nat) : List (Nat × Nat) := Tab.get d.xlt.l1 [] k
def Dev.setL1 (d : Dev) (k : Nat) (l : List (Nat × Nat)) : Dev :=
  { d with xlt := { d.xlt with l1 := Tab.set d.xlt.l1 [] k l } }

/-- Empty the command and payload buffers of a region (R334). -/
def Dev.emptyL1 (d : Dev) (q region : Nat) : Dev := (d.setL1 (l1Key q region 0) []).setL1 (l1Key q region 1) []

/-- R311: remove the second-level entries of a die that have a property, with every first-level copy. -/
def Dev.removeEnts (d : Dev) (q : Nat) (p : XEnt → Bool) : Dev :=
  let gone := ((d.l2 q).filter p).map (fun e => (e.space, e.va))
  let d := d.setL2 q ((d.l2 q).filter (fun e => !p e))
  d.each (List.range 8) (fun i d => d.setL1 (q * 8 + i) ((d.l1 (q * 8 + i)).filter (fun x => !gone.contains x)))

/-- The trap slots of a die whose access an entry covers. -/
def Dev.trapsOn (d : Dev) (q : Nat) (e : XEnt) : List Nat :=
  (d.xlt.traps.filter (fun t => t.1 / 256 = q && e.covers t.2.acc.space t.2.acc.addr)).map (·.1 % 256)

/-- The list without its last element that may be replaced (R310). -/
def dropLru : List XEnt → List XEnt
  | l => match l.reverse.find? (fun e => !e.kept) with
    | some e => (dropFirst e l.reverse).reverse
    | none => l

/-- R311, R312: load an entry into the second level of a die: overlapping entries leave in the same step, the entry is
protected by the traps that wait on its page. -/
def Dev.loadEnt (d : Dev) (q : Nat) (e : XEnt) : Dev :=
  let d := d.removeEnts q (fun x => x.overlaps e.space e.va (e.va + 2 ^ e.size))
  let l := d.l2 q
  d.setL2 q ({ e with guard := d.trapsOn q e } :: (if l.length < 16384 then l else dropLru l))

/-- R311: one more lock is allowed on the die, not counting entries that the load removes. -/
def Dev.mayLock (d : Dev) (q : Nat) (e : XEnt) : Bool :=
  !e.lock || ((d.l2 q).filter (fun x => x.lock && !x.overlaps e.space e.va (e.va + 2 ^ e.size))).length < 1024

/-- R311: the slots in a list protect nothing any more. -/
def Dev.unguard (d : Dev) (q slot : Nat) : Dev :=
  d.setL2 q ((d.l2 q).map (fun e => { e with guard := e.guard.filter (· ≠ slot) }))

/-! ## Lookup and check -/

/-- R315: a key-rights word denies an access of a kind. -/
def keyDenied (keys key kind : Nat) : Bool := bits keys (2 * key) 1 = 1 || (bits keys (2 * key + 1) 1 = 1 && kind ≠ 0)

/-- R311: the entry of an address, by the first level, then by the second, which fills the first. The second level's LOOKUPS are the
misses of the first. DEDUCED (log 104). -/
def Dev.lookupEnt (d : Dev) (q : Nat) (a : XAcc) : Dev × Option XEnt :=
  let d := d.event q blkXLT a.region 0x01 0 1
  let k := l1Key q a.region a.cls
  match (d.l2 q).find? (fun e => e.covers a.space a.addr) with
  | none => ((d.event q blkXLT a.region 0x02 0 1).event q blkXLT 4 0x01 0 1, none)
  | some e =>
    let x := (e.space, e.va)
    if (d.l1 k).contains x then (d.setL1 k (x :: dropFirst x (d.l1 k)), some e)
    else
      let d := (d.setL1 k ((x :: d.l1 k).take (l1Size a.cls))).setL2 q (e :: dropFirst e (d.l2 q))
      (((d.inc .XLT_L1FILL (onDie q)).event q blkXLT a.region 0x02 0 1).event q blkXLT 4 0x01 0 1, some e)

/-- The outcome of a translation (R314). -/
inductive Tr where
  | ok (ba : Nat) (e : XEnt)
  | notPermitted
  | walkError
  | trap (cause : Nat)
deriving DecidableEq, Repr

/-- The entry denies the access. -/
def XEnt.denies (e : XEnt) (a : XAcc) : Bool :=
  (a.kind = 0 && !e.r) || (a.kind = 1 && !e.w) || (a.kind = 2 && !e.atom) ||
  (a.cls = 1 && keyDenied a.keys e.key a.kind)

/-- R314 for a demanded access. -/
def Dev.translate (d : Dev) (q : Nat) (a : XAcc) : Dev × Tr :=
  if !d.bit XLT_CTRL_EN (onDie q) || a.addr ≥ 2 ^ 57 then (d, .walkError)
  else match d.lookupEnt q a with
    | (d, none) => (d, .trap 0)
    | (d, some e) =>
      if e.denies a then (d, .notPermitted)
      else if !e.acc then (d, .trap 1)
      else if a.kind ≠ 0 && !e.dirty then (d, .trap 2)
      else
        let d := match a.slot with | some s => d.unguard q s | none => d
        (d, .ok (e.ba + (a.addr - e.va)) e)

/-- The outcome of a range: its parts as (bus address, length) with the entries used, and why it stopped early. -/
structure Trs where
  parts : List (Nat × Nat)
  ents : List (Nat × Nat × Nat)
  /-- the outcome and the access that met it; none when the whole range is translated -/
  stop : Option (Tr × XAcc)
deriving DecidableEq, Repr

/-- Translate a range part by part at page boundaries. -/
def Dev.translateRange (d : Dev) (q : Nat) (a : XAcc) : Nat → Dev × Trs
  | 0 => (d, ⟨[], [], none⟩)
  | fuel + 1 =>
    if a.len = 0 then (d, ⟨[], [], none⟩)
    else match d.translate q a with
      | (d, .ok ba e) =>
        let n := min a.len (e.va + 2 ^ e.size - a.addr)
        let (d, r) := d.translateRange q { a with addr := a.addr + n, len := a.len - n } fuel
        (d, { r with parts := (ba, n) :: r.parts, ents := (e.space, e.va, e.va + 2 ^ e.size) :: r.ents })
      | (d, t) => (d, ⟨[], [], some (t, { a with len := min a.len (4096 - a.addr % 4096) })⟩)

/-- Translate every fragment of a buffer. -/
def Dev.translateFrags (d : Dev) (q : Nat) (a : XAcc) : List (Nat × Nat) → Dev × Trs
  | [] => (d, ⟨[], [], none⟩)
  | (addr, len) :: t =>
    match d.translateRange q { a with addr := addr, len := len } (len / 4096 + 2) with
    | (d, r) =>
      if r.stop.isSome then (d, r)
      else
        let (d, s) := d.translateFrags q a t
        (d, ⟨r.parts ++ s.parts, r.ents ++ s.ents, s.stop⟩)

/-- The fragments of bytes [off, off + len) of a buffer given by its fragments. -/
def subFrags : List (Nat × Nat) → Nat → Nat → List (Nat × Nat)
  | [], _, _ => []
  | (addr, n) :: t, off, len =>
    if len = 0 then []
    else if off ≥ n then subFrags t (off - n) len
    else
      let m := min len (n - off)
      (addr + off, m) :: subFrags t 0 (len - m)

/-! ## Trap slots (R318) -/

/-- A trap record in a slot of a die. DEDUCED (log 87). -/
def Dev.trap (d : Dev) (q slot : Nat) : Option Trap := Tab.find d.xlt.traps (q * 256 + slot)
/-- The lowest free slot of a die. -/
def Dev.freeSlot (d : Dev) (q : Nat) : Option Nat := (List.range 256).find? (fun n => (d.trap q n).isNone)

/-- The bit of a slot in XLT_TRAPPEND. -/
def Dev.setPend (d : Dev) (q slot : Nat) (b : Bool) : Dev :=
  d.put ⟨.XLT_TRAPPEND, slot % 64, 1, .ro, 0⟩ ⟨q, slot / 64⟩ b.toNat

/-- R318, R320: an access takes a slot. DEDUCED (log 104). -/
def Dev.takeSlot (d : Dev) (q slot : Nat) (a : XAcc) (cause : Nat) (c : Cont) : Dev :=
  let g := (Tab.get d.xlt.gens 0 (q * 256 + slot) + 1) % 256
  let d := { d with xlt := { d.xlt with
      traps := Tab.put d.xlt.traps (q * 256 + slot) ⟨{ a with slot := some slot }, cause, c, false⟩,
      gens := Tab.set d.xlt.gens 0 (q * 256 + slot) g } }
  (((d.setPend q slot true).inc (if cause = 0 then .XLT_TRAP else .XLT_MARKTRAP) (onDie q)).event q blkXLT a.region 0x03 0 1).event q blkXLT 4 0x03 0 1

/-- R318: an initiator access traps: it takes a slot, or waits for one. An access that holds a slot keeps it: it is looked
up again and traps again (R331). -/
def Dev.trapInit (d : Dev) (q : Nat) (a : XAcc) (cause : Nat) (c : Cont) : Dev :=
  match a.slot.orElse (fun _ => d.freeSlot q) with
  | some s => d.takeSlot q s a cause c
  | none => { d with xlt := { d.xlt with slotWait := d.xlt.slotWait ++ [(q, a, cause, c)] } }

/-- A slot is freed: its walk and the read under way for it are given up; an initiator access that waits for a slot takes it (R318). -/
def Dev.freeTrap (d : Dev) (q slot : Nat) : Dev :=
  let d := { d with hst := { d.hst with reads := d.hst.reads.filter (fun e => !(e.2.die = q && e.2.use = RdFor.walk slot)) } }
  let d := ({ d with xlt := { d.xlt with traps := Tab.del d.xlt.traps (q * 256 + slot),
                                          walks := Tab.del d.xlt.walks (q * 256 + slot) } }.setPend q slot false).unguard q slot
  match d.xlt.slotWait.find? (fun w => w.1 = q) with
  | some w =>
    { d with xlt := { d.xlt with slotWait := dropFirst w d.xlt.slotWait } }.takeSlot q slot w.2.1 w.2.2.1 w.2.2.2
  | none => d

/-- The trap that an ID names (R320). -/
def Dev.trapOf (d : Dev) (q id : Nat) : Option (Nat × Trap) :=
  let slot := id % 256
  if Tab.get d.xlt.gens 0 (q * 256 + slot) = id / 256 % 256 then (d.trap q slot).map (fun t => (slot, t)) else none

/-- The four words of a trap record (Table 12-5). DEDUCED (log 87). -/
def Dev.trapWords (d : Dev) (q slot : Nat) : List Nat :=
  match d.trap q slot with
  | none => [0, 0, 0, 0]
  | some t =>
    [t.acc.addr % 2 ^ 64,
     (t.acc.space % 65536) ||| t.cause <<< 16 ||| t.acc.kind <<< 18 ||| t.acc.cls <<< 20 ||| t.acc.side <<< 21 |||
       (d.get XLT_SPACE_OWNER ⟨q, t.acc.space⟩) <<< 22 ||| slot <<< 32 ||| (Tab.get d.xlt.gens 0 (q * 256 + slot)) <<< 40,
     (t.acc.who % 2 ^ 32) ||| (min t.acc.len (4096 - t.acc.addr % 4096)) <<< 32, 0]

/-! ## The backing table (R329) -/

def Dev.backing (d : Dev) (q : Nat) : List XEnt := Tab.get d.xlt.backing [] q
def Dev.setBacking (d : Dev) (q : Nat) (l : List XEnt) : Dev :=
  { d with xlt := { d.xlt with backing := Tab.set d.xlt.backing [] q l } }

/-- R324: pages that an entry or range of a space covers are no longer failed. -/
def Dev.clearFailed (d : Dev) (q space lo hi : Nat) : Dev :=
  { d with xlt := { d.xlt with failed := d.xlt.failed.filter (fun f =>
      !(f.1 = q && f.2.1 = space && f.2.2 < hi && lo < f.2.2 + 4096)) } }

/-- Whether a page of a space is marked failed. -/
def Dev.pageFailed (d : Dev) (q space addr : Nat) : Bool := d.xlt.failed.contains (q, space, addr / 4096 * 4096)

end Sys2Proof.Machine
end

