-- ==== Sys2Proof/Machine/Conns.lean ====
section
/-! DEFINITION. Connections (spec/10): contexts, endpoint addresses, the packets that a context sends and answers. -/

namespace Sys2Proof.Machine

/-! ## Host memory -/

/-- Payload into a host's memory as function f (R308), part by part, with relaxed ordering while HST_CTRL.RO_EN is 1 (R224).
DESIGN CHOICE (log 90). -/
def Dev.hostPut (d : Dev) (q f : Nat) : List (Nat × Nat) → List Byte → Dev
  | [], _ => d
  | (ba, n) :: t, data =>
    ((d.emit (.hostWrite q f ba (data.take n) (d.bit HST_CTRL_RO_EN (onDie q)))).event q blkHST 0 0x02 0 n).hostPut q f t (data.drop n)

/-- One write of an entry or a line of a ring, with relaxed ordering clear (R240). DESIGN CHOICE (log 90). -/
def Dev.hostEntry (d : Dev) (q f ba n : Nat) (data : List Byte) : Dev :=
  (d.emit (.hostWrite q f ba (data.take n) false)).event q blkHST 0 0x02 0 n

/-- What a read fetches is payload; a walk and a shard table are not (R224). -/
def RdFor.payload : RdFor → Bool
  | .walk _ => false
  | .table _ => false
  | _ => true

/-- The bytes of a list of parts. -/
def partsLen : List (Nat × Nat) → Nat
  | [] => 0
  | (_, n) :: t => n + partsLen t

/-- Issue reads of a host's memory under a new tag. DESIGN CHOICE (log 90). -/
def Dev.hostGet (d : Dev) (q f : Nat) (parts : List (Nat × Nat)) (ents : List (Nat × Nat × Nat)) (use : RdFor) : Dev :=
  let tag := d.hst.nextTag
  let d := { d with hst := { d.hst with
      reads := Tab.put d.hst.reads tag ⟨q, partsLen parts, use, ents⟩, nextTag := tag + 1 } }
  d.each parts (fun (x : Nat × Nat) d => (d.emit (.hostRead q f x.1 x.2 tag (use.payload && d.bit HST_CTRL_RO_EN (onDie q)))).event q blkHST 0 0x01 0 x.2)

/-- Issue an AtomicOp under a new tag. -/
def Dev.hostAtom (d : Dev) (q f ba op a b : Nat) (ents : List (Nat × Nat × Nat)) (use : RdFor) : Dev :=
  let tag := d.hst.nextTag
  { d with hst := { d.hst with reads := Tab.put d.hst.reads tag ⟨q, 8, use, ents⟩, nextTag := tag + 1 } }.emit
    (.hostAtomic q f ba tag op a b)

/-! ## Functions, endpoints, engines -/

/-- The function of a port that FUNC i is bound to (R226). -/
def Dev.boundFunc (d : Dev) (q i : Nat) : Nat := 64 * d.get HST_BIND_PF ⟨q, i⟩ + d.get HST_BIND_VF ⟨q, i⟩

/-- The endpoint address of function f of port q: its lowest bound index (R226, Table 1-8). -/
def Dev.epOf (d : Dev) (q f : Nat) : Nat :=
  let i := ((List.range 64).find? (fun i => d.bit HST_BIND_VALID ⟨q, i⟩ && d.boundFunc q i = f)).getD 0
  d.nodeId * 256 + q * 64 + i

/-- The region whose engine cluster serves a queue or context of a die: its number mod 4, or the next one in RUN (R28).
DEDUCED (log 51). -/
def Dev.engine (d : Dev) (q n : Nat) : Nat :=
  (((List.range 4).map (fun i => (n + i) % 4)).find? (fun r => d.regionRun (q * 4 + r))).getD (n % 4)

/-- A number lies in the range of a function (R257): k 0 connections, 1 regions, 2 counters. -/
def Dev.inRange (d : Dev) (q f k n : Nat) : Bool :=
  let a : At := ⟨q, f * 3 + k⟩
  d.get RMX_FNRES_BASE a ≤ n && n < d.get RMX_FNRES_BASE a + d.get RMX_FNRES_COUNT a

/-! ## Contexts -/

/-- States of a context (Table 10-1). -/
def connOPEN : Nat := 1
def connERROR : Nat := 2
def connCLOSING : Nat := 3

def Dev.conn (d : Dev) (c : Nat) : Option Conn := Tab.find d.hst.conns c
def Dev.setConn (d : Dev) (c : Nat) (x : Conn) : Dev := { d with hst := { d.hst with conns := Tab.put d.hst.conns c x } }
def Dev.modConn (d : Dev) (c : Nat) (g : Conn → Conn) : Dev :=
  match d.conn c with
  | some x => d.setConn c (g x)
  | none => d

/-- The die of a context, by its number on the module (R255). -/
def connDie (c : Nat) : Nat := c / 262144

/-- The receive window of a code (Table 10-1). -/
def winOf (code : Nat) : Nat := 512 * 2 ^ code

/-- The distance of a PSN from a mark (R269). -/
def psnDist (psn mark : Nat) : Nat := (psn + 2 ^ 32 - mark % 2 ^ 32) % 2 ^ 32

/-- R269: a PSN is at or below a mark. -/
def atOrBelow (psn mark : Nat) : Bool := psnDist psn mark = 0 || psnDist psn mark ≥ 2 ^ 31

/-- R269: a PSN is done at this receive half. -/
def Conn.isDone (x : Conn) (psn : Nat) : Bool := atOrBelow psn x.dm || x.done.contains psn

/-- The oldest unresolved PSN (Table 10-1). -/
def Conn.oldest (x : Conn) : Nat := (x.reqs.head?.map (·.psn)).getD x.nextPsn

/-- R269: advance DM over the run of done PSNs. -/
def Conn.advance (x : Conn) : Nat → Conn
  | 0 => x
  | n + 1 =>
    let p := (x.dm + 1) % 2 ^ 32
    if x.done.contains p then { x with dm := p, done := x.done.filter (· ≠ p) }.advance n else x

/-- R269: mark a PSN done. -/
def Conn.markDone (x : Conn) (psn : Nat) : Conn :=
  if x.isDone psn then x else { x with done := psn :: x.done }.advance 4097

/-! ## Packets of a context -/

/-- A packet of context c: its addresses, class and tag settings; the PSN is that of the request. -/
def Dev.connPacket (d : Dev) (c : Nat) (x : Conn) (type tc psn tryN flags : Nat) (control : Bool) (oper payload : List Byte) :
    Packet :=
  { type := type, tc := tc, epoch := 0, cmark := false, enc := x.enc, conn := true, dest := x.peer,
    src := d.epOf (connDie c) x.func, dconn := x.peerConn, opflags := (tryN % 8) ||| flags <<< 3, psn := psn % 2 ^ 32,
    inc := if control then 0 else x.inc, control := control, oper := oper, payload := payload, tag := 0 }

/-- Inject a packet of context c, sealed when the connection has a key (R369). -/
def Dev.connSend (d : Dev) (c : Nat) (x : Conn) (k : Packet) (rsp : Bool) : Dev :=
  let q := connDie c
  let r := d.engine q c
  if x.enc then
    let side := sideOf k.src c x.peer x.peerConn
    let nonce := connNonce k.psn x.inc (k.opflags % 8) rsp side
    ((d.useKey q x.keyslot).offerSealed q r false k [] (some (d.keyIn q x.keyslot, nonce))).retryInj q r
  else (d.offer q r false k []).retryInj q r

/-! ## Answers (R262, R269, R270) -/

/-- Types of connection packets (Table 4-5). -/
def tPUT : Nat := 0x01
def tGET_REQ : Nat := 0x02
def tATOMIC : Nat := 0x03
def tPUT_CTR : Nat := 0x04
def tSEND : Nat := 0x05
def tRNDV_RTS : Nat := 0x06
def tFW_MSG : Nat := 0x07
def tACK : Nat := 0x10
def tNACK : Nat := 0x11
def tGET_RSP : Nat := 0x12
def tATOMIC_RSP : Nat := 0x13
def tFW_RSP : Nat := 0x14

/-- OPFLAGS above TRY of a response: ECHO and DUP. -/
def rspFlags (echo dup : Bool) (slot : Nat) : Nat := echo.toNat ||| dup.toNat <<< 1 ||| slot <<< 2

/-- Send an ACK for a PSN and TRY. -/
def Dev.sendAck (d : Dev) (c psn tryN tc : Nat) (echo dup : Bool) : Dev :=
  match d.conn c with
  | some x => d.connSend c x (d.connPacket c x tACK tc psn tryN (rspFlags echo dup 0) true (toBytes 4 x.dm) []) true
  | none => d

/-- The ACK that waits for in-order packets leaves with an answer (R270): nothing waits any more. -/
def Conn.ackSent (x : Conn) : Conn := { x with ackN := 0, ackEcho := false }

/-- R267: answer a NACK with a status and a hint. -/
def Dev.sendNack (d : Dev) (c : Nat) (k : Packet) (status hint : Nat) : Dev :=
  match d.conn c with
  | some x =>
    (d.connSend c x (d.connPacket c x tNACK k.tc k.psn (k.opflags % 8) (rspFlags k.cmark false 0) true
      (toBytes 4 x.dm ++ toBytes 1 status ++ [0] ++ toBytes 2 hint) []) true).inc .RMX_NACKTX (onDie (connDie c))
  | none => d

/-- An answer to a duplicate (R269). -/
def Dev.ackDup (d : Dev) (c : Nat) (k : Packet) : Dev := d.sendAck c k.psn (k.opflags % 8) k.tc k.cmark true

/-- Hints of a die in µs; 0 acts as 1. -/
def Dev.hintRq (d : Dev) (q : Nat) : Nat := max 1 (d.get RMX_CTRL_HINT_RQ (onDie q))
def Dev.hintCq (d : Dev) (q : Nat) : Nat := max 1 (d.get RMX_CTRL_HINT_CQ (onDie q))
def Dev.hintXlt (d : Dev) (q : Nat) : Nat := max 1 (d.get XLT_CTRL_HINT (onDie q))
def Dev.hintOrd (d : Dev) (q : Nat) : Nat := max 1 (d.get MTC_CTRL_HINT_ORD (onDie q))
def Dev.hintPool (d : Dev) (q : Nat) : Nat := max 1 (d.get MTC_CTRL_HINT_POOL (onDie q))

end Sys2Proof.Machine
end

