-- ==== Sys2Proof/Machine/Queues.lean ====
section
/-! DEFINITION. Queues (spec/09): contexts, events and interrupts (R242 to R244), completions (R239, R240, R249), entry to
ERROR (R248). -/

namespace Sys2Proof.Machine

/-! Queue states (Table 9-8) and kinds. -/
def qFREE : Nat := 0
def qACTIVE : Nat := 1
def qPAUSED : Nat := 2
def qERROR : Nat := 3
def qDRAINING : Nat := 4
def kWQ : Nat := 0
def kRQ : Nat := 1
def kCQ : Nat := 2
def kEQ : Nat := 3

def qKey (q k n : Nat) : Nat := (q * 4 + k) * 65536 + n
def Dev.queue (d : Dev) (q k n : Nat) : Option Queue := Tab.find d.hst.queues (qKey q k n)
def Dev.setQueue (d : Dev) (q k n : Nat) (x : Queue) : Dev :=
  { d with hst := { d.hst with queues := Tab.put d.hst.queues (qKey q k n) x } }
def Dev.modQueue (d : Dev) (q k n : Nat) (g : Queue → Queue) : Dev :=
  match d.queue q k n with
  | some x => d.setQueue q k n (g x)
  | none => d
def Dev.freeQueue (d : Dev) (q k n : Nat) : Dev :=
  { d with hst := { d.hst with queues := Tab.del d.hst.queues (qKey q k n) } }

/-- R230: the global number of a function's local queue number. -/
def Dev.globalOf (d : Dev) (q f k n : Nat) : Option Nat :=
  let a : At := ⟨q, f * 4 + k⟩
  if n < d.get HST_FNQ_COUNT a then some (d.get HST_FNQ_BASE a + n) else none

/-- R230: the function whose range holds a global number. -/
def Dev.funcOf (d : Dev) (q k n : Nat) : Option Nat :=
  (List.range 256).find? (fun f => d.get HST_FNQ_BASE ⟨q, f * 4 + k⟩ ≤ n &&
    n < d.get HST_FNQ_BASE ⟨q, f * 4 + k⟩ + d.get HST_FNQ_COUNT ⟨q, f * 4 + k⟩)

/-- The queue of a function by its local number, with its global number. -/
def Dev.localQueue (d : Dev) (q f k n : Nat) : Option (Nat × Queue) :=
  (d.globalOf q f k n).bind (fun g => (d.queue q k g).map (fun x => (g, x)))

/-! ## Indices (R231) -/

def Queue.size (x : Queue) : Nat := 2 ^ x.log2
def idx32 (a b : Nat) : Nat := (a + 2 ^ 32 - b % 2 ^ 32) % 2 ^ 32
/-- PI - CI. -/
def Queue.fill (x : Queue) : Nat := idx32 x.pi x.ci
/-- size - (PI - CI). -/
def Queue.room (x : Queue) : Nat := x.size - x.fill
/-- The address of the slot of an index, with entries of n bytes. -/
def Queue.slotAddr (x : Queue) (i n : Nat) : Nat := x.base + (i % x.size) * n
/-- PHASE of the entry at index i (Table 9-6). -/
def Queue.phase (x : Queue) (i : Nat) : Nat := if i / x.size % 2 = 0 then 1 else 0

/-! ## Interrupts (R243) -/

/-- The interrupt of an event queue fires, or falls due when the moderation interval ends. -/
def Dev.fireIrq (d : Dev) (q n : Nat) : Dev :=
  match d.queue q kEQ n with
  | none => d
  | some x =>
    if x.modBusy then d.setQueue q kEQ n { x with irqDue := true }
    else (d.msixSend q x.func x.vector).setQueue q kEQ n { x with modBusy := x.limit ≠ 0 }

/-- R243: the moderation interval ends. -/
def Dev.moderationEnd (d : Dev) (q n : Nat) : Dev :=
  match d.queue q kEQ n with
  | none => d
  | some x =>
    if !x.modBusy then d
    else
      let d := d.setQueue q kEQ n { x with modBusy := false, irqDue := false }
      d.when x.irqDue (·.fireIrq q n)

/-- An armed event queue that gains an entry, or holds one, is disarmed and interrupts. -/
def Dev.eqNotify (d : Dev) (q n : Nat) : Dev :=
  match d.queue q kEQ n with
  | some x => if x.armed then (d.setQueue q kEQ n { x with armed := false }).fireIrq q n else d
  | none => d

/-! ## Writing rings -/

/-- The access that writes the next entry of a completion or event ring. -/
def Dev.ringAccess (d : Dev) (q n : Nat) (x : Queue) : XAcc :=
  ⟨x.xspace, x.slotAddr x.pi 32, 32, 1, 0, 0, 0, x.qnum, d.engine q n, none⟩

/-- Write one entry at PI of a ring; false when the ring write waits or failed (Table 12-4). -/
def Dev.ringWrite (d : Dev) (q k n : Nat) (x : Queue) (entry : Nat) : Dev × Bool :=
  match d.translate q (d.ringAccess q n x) with
  | (d, .ok ba _) =>
    let w := entry ||| (x.phase x.pi) <<< 151
    ((d.hostEntry q x.func ba 32 (toBytes 32 w)).setQueue q k n { x with pi := (x.pi + 1) % 2 ^ 32 }, true)
  | (d, .trap c) => ((d.setQueue q k n { x with blocked := true }).trapInit q (d.ringAccess q n x) c (.ring k n), false)
  | (d, _) => ((d.setQueue q k n { x with failed := true }).inc .XLT_RINGERR (onDie q), false)

/-- The ring of a completion or event queue can take an entry now. -/
def Queue.open (x : Queue) : Bool := !x.blocked && !x.failed && 0 < x.room

/-- R342: a write of a ring on a die waits for the end of a mode switch of its mesh. DEDUCED (log 60). -/
def Dev.ringHeld (d : Dev) (q : Nat) : Bool := d.bit NOC_MODECTL_HOLD (onDie q)

/-- Two events of the kinds that do not merge have one source: the translation handler (type 5), or the RMX block (type 6).
DEDUCED (log 149). -/
def Ev.same (e f : Ev) : Bool := e.src = f.src && e.type = f.type

/-- R244: an event has been written: its source raises the next one that it held back. DEDUCED (log 149). -/
def Dev.raiseLater (d : Dev) (q n : Nat) (e : Ev) : Dev :=
  match d.queue q kEQ n with
  | none => d
  | some x =>
    match x.later.find? (e.same ·) with
    | none => d
    | some f =>
      (d.setQueue q kEQ n { x with evs := x.evs ++ [f], later := dropFirst f x.later }).when
        (!(x.open && x.evs.length < x.room)) (·.inc .QUE_EQHOLD (onDie q))

/-- R244: write the waiting events of an event queue, oldest first, while it has room. -/
def Dev.writeEvents (d : Dev) (q n : Nat) : Nat → Dev
  | 0 => d
  | fuel + 1 =>
    match d.queue q kEQ n with
    | none => d
    | some x =>
      match x.evs with
      | [] => d
      | e :: t =>
        if !x.open || d.ringHeld q then d
        else match d.ringWrite q kEQ n x e.entry with
          | (d, true) => (((d.modQueue q kEQ n (fun x => { x with evs := t })).raiseLater q n e).eqNotify q n).writeEvents q n fuel
          | (d, false) => d

/-- The number of waiting events of an event queue. -/
def Dev.evCount (d : Dev) (q n : Nat) : Nat := match d.queue q kEQ n with | some x => x.evs.length | none => 0

/-- Put an event among those that wait; one of the same source and type takes the latest data (R244). -/
def mergeEv (e : Ev) : List Ev → List Ev
  | [] => [e]
  | x :: t => if e.type ≤ 4 ∧ x.src = e.src ∧ x.type = e.type then e :: t else x :: mergeEv e t

/-- R244: raise an event to event queue n of a port: it is written, or it waits and is counted; one that does not merge is held by
its source while an earlier one of it waits. DEDUCED (log 149). -/
def Dev.raiseEvent (d : Dev) (q n : Nat) (e : Ev) : Dev :=
  match d.queue q kEQ n with
  | none => d
  | some x =>
    if 4 < e.type && x.evs.any (e.same ·) then d.setQueue q kEQ n { x with later := x.later ++ [e] }
    else
    let d := d.setQueue q kEQ n { x with evs := mergeEv e x.evs }
    let d := d.writeEvents q n 64
    d.when (d.evCount q n > x.evs.length && !d.ringHeld q) (·.inc .QUE_EQHOLD (onDie q))

/-- The 32 bytes of an event entry without PHASE (R242). -/
def eventEntry (lo qnum qkind status type hi : Nat) : Nat :=
  lo % 2 ^ 128 ||| (qnum % 65536) <<< 128 ||| (qkind % 4) <<< 144 ||| (status % 256) <<< 152 ||| (type % 256) <<< 160 |||
  (hi % 2 ^ 64) <<< 192

/-- An event about queue (k, n) goes to the event queue of its completion queue, or of itself for a completion queue. -/
def Dev.queueEvent (d : Dev) (q k n type lo status : Nat) : Dev :=
  match d.queue q k n with
  | none => d
  | some x =>
    let eq := if k = kCQ then d.globalOf q x.func kEQ x.eqn
      else (d.localQueue q x.func kCQ x.cqn).bind (fun c => d.globalOf q x.func kEQ c.2.eqn)
    match eq with
    | some e => d.raiseEvent q e ⟨k * 65536 + n, type, eventEntry lo x.qnum k status type 0⟩
    | none => d

/-- R243: an armed completion queue raises one CQ_NOTIFY and is disarmed. -/
def Dev.cqNotify (d : Dev) (q n : Nat) : Dev :=
  match d.queue q kCQ n with
  | some x => if x.armed then (d.setQueue q kCQ n { x with armed := false }).queueEvent q kCQ n 1 x.pi 0 else d
  | none => d

/-! ## Completions (R239, R240, R249) -/

/-- A completion entry without PHASE (Table 9-6). -/
def cqe (cookie bytes index qnum qkind status aux data : Nat) : Nat :=
  cookie % 2 ^ 64 ||| (bytes % 2 ^ 32) <<< 64 ||| (index % 2 ^ 32) <<< 96 ||| (qnum % 65536) <<< 128 |||
  (qkind % 4) <<< 144 ||| (status % 256) <<< 152 ||| (aux % 2 ^ 32) <<< 160 ||| (data % 2 ^ 64) <<< 192

/-- R152: a completion that is written is owed no more by the queue that it is of. -/
def Dev.paid (d : Dev) (q f e : Nat) : Dev :=
  match d.localQueue q f (bits e 144 2) (bits e 128 16) with
  | some (g, y) => d.setQueue q (bits e 144 2) g { y with owes := y.owes - 1 }
  | none => d

/-- Write held completions of a completion queue, oldest first, while its ring has room (R249). -/
def Dev.drainCq (d : Dev) (q n : Nat) : Nat → Dev
  | 0 => d
  | fuel + 1 =>
    match d.queue q kCQ n with
    | none => d
    | some x =>
      match x.held with
      | [] => d
      | e :: t =>
        if !x.open || d.ringHeld q then d
        else match d.ringWrite q kCQ n x e with
          | (d, true) =>
            (((d.modQueue q kCQ n (fun x => { x with held := t, owed := x.owed - 1 })).paid q x.func e).cqNotify q n).drainCq q n fuel
          | (d, false) => d

/-- R249: a completion is written to its ring, or held. -/
def Dev.writeCqe (d : Dev) (q n entry : Nat) : Dev :=
  match d.queue q kCQ n with
  | none => d
  | some x =>
    let was := x.held.length
    let d := (d.setQueue q kCQ n { x with held := x.held ++ [entry] }).drainCq q n 64
    match d.queue q kCQ n with
    | none => d
    | some y =>
      if y.held.length ≤ was || d.ringHeld q then d
      else
        let d := d.inc .QUE_CQHELD (onDie q)
        d.when (was = 0 && !y.blocked) (·.queueEvent q kCQ n 2 (y.pi ||| y.ci <<< 32) 0)

/-- Count a completion, and a flushed one (Table 9-19). -/
def Dev.countCompletion (d : Dev) (q status : Nat) : Dev :=
  (d.inc .QUE_DESC (onDie q)).when (status = ST_FLUSHED) (·.inc .QUE_FLUSHED (onDie q))

/-- R240: write the finished completions at the front of a receive queue's order. -/
def Dev.drainRq (d : Dev) (q n cq : Nat) : Nat → Dev
  | 0 => d
  | fuel + 1 =>
    match d.queue q kRQ n with
    | none => d
    | some x =>
      match x.order with
      | (_, some e) :: t => ((d.setQueue q kRQ n { x with order := t }).writeCqe q cq e).drainRq q n cq fuel
      | _ => d

/-- The completion of a descriptor of queue (k, n): its entry is built and written; a receive queue's entries leave in the
order of its descriptors. -/
def Dev.complete (d : Dev) (q k n index cookie bytes status aux data : Nat) : Dev :=
  match d.queue q k n with
  | none => d
  | some x =>
    let d := d.countCompletion q status
    match d.globalOf q x.func kCQ x.cqn with
    | none => d
    | some cq =>
      let e := cqe cookie bytes index x.qnum k status aux data
      if k = kRQ then
        (d.setQueue q k n { x with order := x.order.map (fun o => if o.1 = index then (o.1, some e) else o) }).drainRq q n cq
          (x.order.length + 1)
      else d.writeCqe q cq e

/-! ## Admission (R250) -/

/-- The completion queue of a work or receive queue. -/
def Dev.cqOf (d : Dev) (q : Nat) (x : Queue) : Option (Nat × Queue) := d.localQueue q x.func kCQ x.cqn

/-- R250: the completion queue of a queue admits one more completion. -/
def Dev.cqAdmits (d : Dev) (q : Nat) (x : Queue) : Bool :=
  match d.cqOf q x with
  | some (_, c) => c.owed < c.room + 64
  | none => false

/-- R250: an admission was refused: counted, the stall timer runs. -/
def Dev.cqRefuse (d : Dev) (q : Nat) (x : Queue) : Dev :=
  match d.cqOf q x with
  | some (n, _) => (d.inc .QUE_CQREFUSE (onDie q)).modQueue q kCQ n (fun c => { c with stall := true })
  | none => d

/-- R250, R152: an admission for a queue: one completion more is owed, the stall timer stops. -/
def Dev.cqAdmit (d : Dev) (q : Nat) (x : Queue) : Dev :=
  match d.cqOf q x with
  | some (n, _) => d.modQueue q kCQ n (fun c => { c with owed := c.owed + 1, stall := false })
  | none => d

/-! ## Descriptors in progress -/

def Dev.op (d : Dev) (i : Nat) : Option Op := Tab.find d.hst.ops i
def Dev.setOp (d : Dev) (i : Nat) (o : Op) : Dev := { d with hst := { d.hst with ops := Tab.put d.hst.ops i o } }
def Dev.modOp (d : Dev) (i : Nat) (g : Op → Op) : Dev :=
  match d.op i with
  | some o => d.setOp i (g o)
  | none => d
def Dev.delOp (d : Dev) (i : Nat) : Dev := { d with hst := { d.hst with ops := Tab.del d.hst.ops i } }

/-- The descriptors in progress of a queue. -/
def Dev.opsOf (d : Dev) (q k n : Nat) : List (Nat × Op) :=
  d.hst.ops.filter (fun e => e.2.die = q && e.2.kind = k && e.2.qn = n)

/-! Fields of a descriptor (Table 9-4). -/
def dOpcode (x : Nat) : Nat := bits x 0 8
def dShard (x : Nat) : Bool := bits x 8 1 = 1
def dInline (x : Nat) : Bool := bits x 9 1 = 1
def dFence (x : Nat) : Bool := bits x 10 1 = 1
def dTrig (x : Nat) : Bool := bits x 11 1 = 1
def dTc (x : Nat) : Nat := bits x 12 4
def dNshard (x : Nat) : Nat := bits x 16 8
def dLen (x : Nat) : Nat := bits x 32 32
def dCookie (x : Nat) : Nat := bits x 64 64
def dLaddr (x : Nat) : Nat := bits x 128 64
def dRaddr (x : Nat) : Nat := bits x 192 64
def dRkey (x : Nat) : Nat := bits x 256 32
def dTarget (x : Nat) : Nat := bits x 288 32
def dOpa (x : Nat) : Nat := bits x 320 64
def dOpb (x : Nat) : Nat := bits x 384 64
def dTrigger (x : Nat) : Nat := bits x 448 64
def dCtr (x : Nat) : Nat := bits x 448 18
def dThresh (x : Nat) : Nat := bits x 466 46
/-- The inline bytes of a descriptor. -/
def dInlineBytes (x : Nat) : List Byte := toBytes 24 (bits x 320 192)

/-- The fragments of a descriptor's local buffer (R237). -/
def RDesc.frags (r : RDesc) : List (Nat × Nat) := if dShard r.desc then r.shards else [(dLaddr r.desc, dLen r.desc)]

/-- The codes of Table 9-11 that send a queue to ERROR when a descriptor completes with them. -/
def statusErr (s : Nat) : Bool := s = ST_TIMEOUT || (ST_WALK_ERROR ≤ s && s ≤ ST_CQ_STALL)

/-! ## Entry to ERROR (R247, R248) -/

/-- The posted receives of function f of port q, in stamp order. -/
def Dev.posted (d : Dev) (q f : Nat) : List Nat := Tab.get d.hst.posted [] (q * 256 + f)
def Dev.setPosted (d : Dev) (q f : Nat) (l : List Nat) : Dev :=
  { d with hst := { d.hst with posted := Tab.set d.hst.posted [] (q * 256 + f) l } }

/-- DATA of a completion without a message or a fetched value: the TAG of a SEND or TRECV, else 0 (Table 9-6). -/
def descData (x : Nat) : Nat := if dOpcode x = 7 || dOpcode x = 8 then dRaddr x else 0

/-- A posted receive of a queue leaves the list and completes ST_FLUSHED (R248, R303). -/
def Dev.flushPosted (d : Dev) (i : Nat) (o : Op) : Dev :=
  ((d.setPosted o.die o.func ((d.posted o.die o.func).filter (· ≠ i))).delOp i).complete o.die o.kind o.qn o.index
    (dCookie o.desc) 0 ST_FLUSHED 0 (descData o.desc)

/-- R248: what a queue that enters ERROR or DRAINING gives up: its unmatched TRECVs, and receive descriptors that have been read and
that no arrival has taken, complete ST_FLUSHED; arrivals that waited for one are answered as if it were empty (R251). -/
def Dev.giveUp (d : Dev) (q k n : Nat) : Dev :=
  match d.queue q k n with
  | none => d
  | some x =>
    let d := d.setQueue q k n { x with ready := [], waiting := [] }
    let d := d.each ((d.opsOf q k n).filter (fun e => (d.posted q e.2.func).contains e.1)) (fun e d => d.flushPosted e.1 e.2)
    let d := d.each x.ready (fun e d => d.complete q k n e.1 (dCookie e.2.desc) 0 ST_FLUSHED 0 0)
    d.each x.waiting (fun p d =>
      if typeMc p.type then d.inc .MCG_NOSPACE (onDie q)
      else (d.inc .QUE_NRNACK (onDie q)).sendNack p.dconn p ST_NOT_READY (d.hintRq q))

/-- Table 9-10: a work or receive queue enters ERROR with a status; one QUEUE_ERROR event (R248). -/
def Dev.queueError (d : Dev) (q k n status index : Nat) : Dev :=
  match d.queue q k n with
  | none => d
  | some x =>
    if x.state ≠ qACTIVE && x.state ≠ qPAUSED then d
    else
      let d := d.setQueue q k n { x with state := qERROR, lasterr := status }
      (d.queueEvent q k n 3 index status).giveUp q k n

/-- A descriptor in progress finishes with a status: one completion, its record is gone, and its queue enters ERROR where
Table 9-11 says so or `bad` (R238), from ACTIVE (Table 9-10). -/
def Dev.finishOp (d : Dev) (i status bytes aux data : Nat) (bad : Bool) : Dev :=
  match d.op i with
  | none => d
  | some o =>
    let d := (d.delOp i).complete o.die o.kind o.qn o.index (dCookie o.desc) bytes status aux data
    d.when ((statusErr status || bad) && (match d.queue o.die o.kind o.qn with | some x => x.state = qACTIVE | none => false))
      (·.queueError o.die o.kind o.qn status o.index)

end Sys2Proof.Machine
end

