-- ==== Sys2Proof/Machine/RmxInit.lean ====
section
/-! DEFINITION. The initiator of connections (spec/10): requests, pacing and windows, responses, retries, connections that
fail, the pieces of a descriptor. -/

namespace Sys2Proof.Machine

/-- The context of a descriptor that names none. -/
def noConn : Nat := 2 ^ 30

/-! Opcodes (Table 9-5). -/
def opNOP : Nat := 0x00
def opPUT : Nat := 0x01
def opGET : Nat := 0x02
def opFADD : Nat := 0x03
def opSWAP : Nat := 0x04
def opCSWAP : Nat := 0x05
def opPUT_CTR : Nat := 0x06
def opSEND : Nat := 0x07
def opTRECV : Nat := 0x08
def opCOLL : Nat := 0x10
def opRECV : Nat := 0x20
def isAtomic (o : Nat) : Bool := o = opFADD || o = opSWAP || o = opCSWAP

/-! ## Regions -/

/-- Region states (Table 10-10). -/
def regFREE : Nat := 0
def regVALID : Nat := 1
/-- The model's own: an entry that an uncorrectable error was found in (Table 10-6, R432). -/
def regBAD : Nat := 3
def regREVOKING : Nat := 2

def Region.empty : Region := ⟨0, 0, 0, 0, 0, 0, 0, 0, false, 0, 0, 0, none⟩
def Dev.region (d : Dev) (q n : Nat) : Region := Tab.get d.hst.regions Region.empty (q * 262144 + n)
def Dev.setRegion (d : Dev) (q n : Nat) (r : Region) : Dev :=
  { d with hst := { d.hst with regions := Tab.set d.hst.regions Region.empty (q * 262144 + n) r } }
/-- The RKEY of a region (R276). -/
def rkeyOf (n gen : Nat) : Nat := n % 262144 ||| (gen % 16384) <<< 18

/-- R278, phase 2: a region in REVOKING with nothing in flight becomes FREE; REVOKE_DONE goes to the event queue that
REVOKE named; a SEND that waits for its rendezvous region completes (Table 11-5, step 6). -/
def Dev.revokeEnds (d : Dev) (q n : Nat) : Dev :=
  let r := d.region q n
  if r.state ≠ regREVOKING || r.inflight ≠ 0 then d
  else
    let d := d.setRegion q n { r with state := regFREE, eqn := none }
    match r.eqn.bind (fun e => d.globalOf q r.owner kEQ e), d.hst.ops.find? (fun e => e.2.die = q && e.2.rndv = n + 1) with
    | some e, _ => d.raiseEvent q e ⟨6 * 2 ^ 32, 6, eventEntry (rkeyOf n r.gen) 0 0 0 6 0⟩
    | none, some (i, o) => d.finishOp i ST_OK o.len 0 (dRaddr o.desc) false
    | none, none => d

/-- An access of a region begins (R277). -/
def Dev.regionIn (d : Dev) (q n : Nat) : Dev := d.setRegion q n { d.region q n with inflight := (d.region q n).inflight + 1 }
/-- An access of a region has finished. -/
def Dev.regionOut (d : Dev) (q n : Nat) : Dev := d.setRegion q n { d.region q n with inflight := (d.region q n).inflight - 1 }

/-- The sender's module revokes a rendezvous region, with no event (R300). -/
def Dev.revokeRndv (d : Dev) (q n : Nat) : Dev := d.setRegion q n { d.region q n with state := regREVOKING, eqn := none }

/-! ## Profiles (Table 10-8) -/

def clampTo (lo hi x : Nat) : Nat := max lo (min hi x)
def Dev.rstart (d : Dev) (q p : Nat) : Nat := clampTo 1 1000000 (d.get RMX_PROFRATE_RSTART ⟨q, p⟩)
def Dev.rmax (d : Dev) (q p : Nat) : Nat := clampTo 1 1000000 (d.get RMX_PROFRATE_RMAX ⟨q, p⟩)
def Dev.rmin (d : Dev) (q p : Nat) : Nat := clampTo 1 (d.rmax q p) (d.get RMX_PROFRATE_RMIN ⟨q, p⟩)
def Dev.profAi (d : Dev) (q p : Nat) : Nat := min 1000000 (d.get RMX_PROFCTL_AI ⟨q, p⟩)
def Dev.profMd (d : Dev) (q p : Nat) : Nat := d.get RMX_PROFCTL_MD ⟨q, p⟩
def Dev.profBurst (d : Dev) (q p : Nat) : Nat := max 1 (d.get RMX_PROFCTL_BURST ⟨q, p⟩) * 1024
def Dev.retryMax (d : Dev) (q p : Nat) : Nat := max 1 (d.get RMX_PROFCTL_RETRY_MAX ⟨q, p⟩)

/-- R274: the credit of a connection's bucket now, in units of 1/8000 byte. -/
def Dev.connCredit (d : Dev) (c : Nat) (x : Conn) : Int :=
  min ((d.profBurst (connDie c) x.profile * 8000 : Nat) : Int) (x.credit + ((d.now - x.stamp) * x.rate : Nat))

/-- Charge the bucket for flits. DEDUCED (log 86). -/
def Dev.chargeConn (d : Dev) (c cost : Nat) : Dev :=
  d.modConn c (fun x => { x with credit := d.connCredit c x - ((64 * cost * 8000 : Nat) : Int), stamp := d.now })

/-- One-sided requests are paced (R274). -/
def oneSided (t : Nat) : Bool := 1 ≤ t && t ≤ 4

/-- R275: a response to, or an expiry of, a one-sided request changes the rate. -/
def Dev.rateUpdate (d : Dev) (c : Nat) (r : Req) (marked : Bool) : Dev :=
  match d.conn c with
  | none => d
  | some x =>
    let q := connDie c
    if !oneSided r.pkt.type then d
    else if marked then
      if r.psn ≥ x.cut then
        (d.setConn c { x with rate := max (d.rmin q x.profile) ((x.rate * 256 - x.rate * d.profMd q x.profile) / 256),
                              cut := x.nextPsn, round := x.nextPsn, credit := d.connCredit c x, stamp := d.now }).inc
          .RMX_CUT (onDie q)
      else d
    else if r.psn ≥ x.round then
      d.setConn c { x with rate := min (d.rmax q x.profile) (x.rate + d.profAi q x.profile), round := x.nextPsn,
                           credit := d.connCredit c x, stamp := d.now }
    else d

/-! ## Descriptors that fail or end -/

/-- The pull of a TRECV is done: its completion, its message is gone, FIN goes out (Table 11-5, step 5). -/
def Dev.queueFin (d : Dev) (c tc msn rkey : Nat) : Dev :=
  match d.conn c with
  | none => d
  | some x =>
    let k := d.connPacket c x tRNDV_RTS tc 0 0 1 true (List.replicate 10 0 ++ toBytes 2 msn ++ List.replicate 4 0 ++ toBytes 4 rkey) []
    d.setConn c { x with sendQ := x.sendQ ++ [⟨0, 0, k, 0, 0, [], 4, 1, 0, 0, false, false⟩] }

def Dev.msg (d : Dev) (i : Nat) : Option Msg := Tab.find d.hst.msgs i
def Dev.setMsg (d : Dev) (i : Nat) (m : Msg) : Dev := { d with hst := { d.hst with msgs := Tab.put d.hst.msgs i m } }
def Dev.delMsg (d : Dev) (i : Nat) : Dev := { d with hst := { d.hst with msgs := Tab.del d.hst.msgs i } }

/-- Every piece of a descriptor has resolved: it completes (Tables 10-6a to 10-6d, 11-4, 11-5). -/
def Dev.opDone (d : Dev) (i : Nat) (o : Op) : Dev :=
  let oc := dOpcode o.desc
  if o.status ≠ ST_OK then
    let d := d.when (o.rndv ≠ 0) (fun d => d.revokeRndv o.die (o.rndv - 1))
    let d := d.when (oc = opTRECV) (·.delMsg o.msg)
    d.finishOp i o.status 0 o.aux o.data false
  else if oc = opSEND then
    if o.rndv ≠ 0 then d else d.finishOp i ST_OK o.len 0 (dRaddr o.desc) false
  else if oc = opTRECV then
    match d.msg o.msg with
    | some m =>
      let st := if m.len > dLen o.desc then ST_TRUNCATED else ST_OK
      (((d.delMsg o.msg).finishOp i st o.len m.src m.tag false)).queueFin o.conn (dTc o.desc) m.msn o.rkey
    | none => d.finishOp i ST_OK o.len o.aux o.data false
  else d.finishOp i ST_OK o.len 0 o.data false

/-- Complete a descriptor once nothing of it is outstanding. -/
def Dev.opCheck (d : Dev) (i : Nat) : Dev :=
  match d.op i with
  | some o => if o.split && o.left = 0 && !o.busy then d.opDone i o else d
  | none => d

/-- A request of a descriptor has resolved. -/
def Dev.reqDone (d : Dev) (i : Nat) : Dev := (d.modOp i (fun o => { o with left := o.left - 1 })).opCheck i

/-- Table 12-4, R279: a descriptor fails: nothing more is sent for it, packets already sent resolve before its completion. -/
def Dev.failOp (d : Dev) (i status : Nat) : Dev :=
  match d.op i with
  | none => d
  | some o =>
    let n := match d.conn o.conn with | some x => (x.sendQ.filter (fun r => r.op = i)).length | none => 0
    let d := d.modConn o.conn (fun x => { x with sendQ := x.sendQ.filter (fun r => r.op ≠ i) })
    (d.setOp i { o with status := if o.status = ST_OK then status else o.status, split := true, busy := false,
                        left := o.left - n }).opCheck i

/-! ## Connections that fail (Table 10-2, R304) -/

/-- The descriptors in progress that name a context. -/
def Dev.opsOn (d : Dev) (c : Nat) : List (Nat × Op) := d.hst.ops.filter (fun e => e.2.conn = c && e.2.stage = 0)

/-- R304: at the target, held heads are discarded, unfinished messages are removed, COMPLETE eager ones stay, bound TRECVs
complete ST_CONN_ERROR. DEDUCED (log 119). -/
def Dev.dropMsgs (d : Dev) (c : Nat) : Dev :=
  let q := connDie c
  let d := d.modConn c (fun x => { x with heads := [] })
  d.each (d.hst.msgs.filter (fun e => e.2.conn = c && e.2.die = q)) (fun e d =>
    let m := e.2
    let recv (d : Dev) : Dev := if m.kind = 1 then
        d.complete q kRQ m.rq m.rindex (dCookie m.rdesc.desc) 0 ST_FLUSHED m.src m.tag else d
    let d := if m.kind ≠ 2 && m.got = m.len then d.setMsg e.1 { m with bound := 0, cut := true } else (recv d).delMsg e.1
    d.when (m.bound ≠ 0) (·.finishOp m.bound ST_CONN_ERROR m.placed m.src m.tag false))

/-- Every outstanding descriptor of a context completes: one with its own status, the others ST_CONN_ERROR. -/
def Dev.failOps (d : Dev) (c own status : Nat) : Dev :=
  let d := d.modConn c (fun x => { x with sendQ := [], reqs := [] })
  let d := { d with hst := { d.hst with reads := d.hst.reads.filter (fun e => match e.2.use with
      | .piece c2 _ => c2 ≠ c
      | .again c2 _ => c2 ≠ c
      | _ => true) } }
  d.each (d.opsOn c) (fun e d =>
    let st := if e.2.status ≠ ST_OK then e.2.status else if e.1 = own then status else ST_CONN_ERROR
    let d := d.when (e.2.rndv ≠ 0) (fun d => d.revokeRndv e.2.die (e.2.rndv - 1))
    let d := d.when (dOpcode e.2.desc = opTRECV) (·.delMsg e.2.msg)
    d.finishOp e.1 st 0 e.2.aux e.2.data false)

/-- Table 10-2: a context enters ERROR. -/
def Dev.connError (d : Dev) (c own status : Nat) : Dev :=
  match d.conn c with
  | none => d
  | some x =>
    if x.state ≠ connOPEN then d
    else
      let d := (d.setConn c { x with state := connERROR, lasterr := status }).inc .RMX_CONNERR (onDie (connDie c))
      (d.failOps c own status).dropMsgs c

/-! ## Pieces of a descriptor (R263, R296) -/

/-- The next piece of a descriptor. -/
structure Plan where
  type : Nat
  control : Bool
  oper : List Byte
  flags : Nat
  off : Nat
  len : Nat
  cost : Nat
  last : Bool
  /-- data is read from the local buffer; data is placed into it -/
  reads : Bool
  places : Bool
deriving DecidableEq, Repr

/-- Flits of a packet with n payload bytes. -/
def flitsOf (control : Bool) (n : Nat) : Nat := if control then 1 else (n + 55) / 56 + 2

/-- Pad bytes to the 16 of OPHDR. -/
def ophdr (l : List Byte) : List Byte := (l ++ List.replicate 16 0).take 16

/-- A piece that writes: PUT, or the last piece of PUT_CTR. -/
def planPut (o : Op) : Plan :=
  let ctr := dOpcode o.desc = opPUT_CTR
  let n := min 4096 (o.len - o.off)
  let last := o.off + n = o.len
  let control := if ctr then o.len ≤ 8 else o.len ≤ 14
  let head := toBytes 4 (dRkey o.desc) ++ toBytes 6 (dRaddr o.desc + o.off)
  let withCtr := head ++ toBytes 2 (bits (dOpa o.desc) 0 16) ++ toBytes 4 (bits (dOpa o.desc) 32 32)
  let isCtr := ctr && last
  { type := if isCtr then tPUT_CTR else tPUT, control := control,
    oper := if control then (if isCtr then withCtr else head) else ophdr (if isCtr then withCtr else head), flags := 0,
    off := o.off, len := n, cost := flitsOf control n, last := last, reads := true, places := false }

/-- A piece that fetches: GET, or the pull of a rendezvous. -/
def planGet (o : Op) (rkey roff : Nat) : Plan :=
  let n := min 4096 (o.len - o.off)
  { type := tGET_REQ, control := true, oper := toBytes 4 rkey ++ toBytes 6 (roff + o.off) ++ toBytes 2 n, flags := 0,
    off := o.off, len := n, cost := flitsOf (n ≤ 24) n, last := o.off + n = o.len, reads := false, places := true }

/-- An ATOMIC (Table 10-4). -/
def planAtomic (o : Op) : Plan :=
  let c := dOpcode o.desc
  let aop := if c = opFADD then 0 else if c = opSWAP then 1 else 2
  { type := tATOMIC, control := true,
    oper := toBytes 4 (dRkey o.desc) ++ toBytes 4 (dRaddr o.desc / 8) ++ toBytes 8 (dOpa o.desc) ++
      (if c = opCSWAP then toBytes 8 (dOpb o.desc) else []),
    flags := aop, off := 0, len := 0, cost := 1, last := true, reads := false, places := false }

/-- A piece of an eager message (R296, Table 11-3): its head while `o.msg` is 0, then its data. -/
def planSend (o : Op) : Plan :=
  if o.msg = 0 then
    { type := tSEND, control := true,
      oper := toBytes 8 (dRaddr o.desc) ++ toBytes 2 (bits (dRkey o.desc) 0 16) ++ toBytes 2 o.msn ++ toBytes 4 o.len,
      flags := 0, off := 0, len := if o.len ≤ 8 then o.len else 0, cost := 1, last := o.len ≤ 8, reads := o.len ≤ 8,
      places := false }
  else
    let n := min 4096 (o.len - o.off)
    { type := tSEND, control := false, oper := ophdr (toBytes 2 o.msn ++ [0, 0] ++ toBytes 4 o.off), flags := 0,
      off := o.off, len := n, cost := flitsOf false n, last := o.off + n = o.len, reads := true, places := false }

/-- The RNDV_RTS of a rendezvous message (Table 11-3). -/
def Dev.planRts (d : Dev) (o : Op) : Plan :=
  { type := tRNDV_RTS, control := true,
    oper := toBytes 8 (dRaddr o.desc) ++ toBytes 2 (bits (dRkey o.desc) 0 16) ++ toBytes 2 o.msn ++ toBytes 4 o.len ++
      toBytes 4 (rkeyOf (o.rndv - 1) (d.region o.die (o.rndv - 1)).gen),
    flags := 0, off := 0, len := 0, cost := 1, last := true, reads := false, places := false }

/-- The plan of a descriptor's next piece. -/
def Dev.plan (d : Dev) (o : Op) : Plan :=
  let c := dOpcode o.desc
  if c = opPUT || c = opPUT_CTR then planPut o
  else if c = opGET then planGet o (dRkey o.desc) (dRaddr o.desc)
  else if c = opTRECV then planGet o o.rkey 0
  else if c = opSEND then (if o.rndv ≠ 0 then d.planRts o else planSend o)
  else planAtomic o

/-- Put the data of a piece into its packet. -/
def Packet.fill (k : Packet) (base : List Byte) (data : List Byte) : Packet :=
  if k.control then { k with oper := base ++ data } else { k with payload := data }

/-- A prepared request joins the send queue of its connection; its descriptor goes on to the next piece when it leaves.
DEDUCED (log 86). -/
def Dev.queueReq (d : Dev) (c : Nat) (r : Req) : Dev :=
  (d.modConn c (fun x => { x with sendQ := x.sendQ ++ [r] })).modOp r.op (fun o => { o with busy := false })

/-- The access of a descriptor to its local buffer. -/
def Dev.opAccess (d : Dev) (o : Op) (kind : Nat) : XAcc :=
  ⟨o.xspace, 0, 0, kind, 1, 0, o.keys, (match d.queue o.die o.kind o.qn with | some x => x.qnum | none => 0),
   d.engine o.die o.qn, none⟩

/-- R279: a translation of a descriptor's buffer stopped: it traps, or the descriptor fails (Table 12-4). -/
def Dev.opStop (d : Dev) (i : Nat) (o : Op) (t : Tr) (a : XAcc) : Dev :=
  match t with
  | .trap cause => (d.setOp i { o with busy := true }).trapInit o.die a cause (.op i)
  | .notPermitted => d.failOp i ST_NOT_PERMITTED
  | _ => d.failOp i ST_WALK_ERROR

/-- Prepare the next piece of a descriptor: translate its part of the local buffer, read it where the piece carries data,
and queue the request. -/
def Dev.prep (d : Dev) (i : Nat) : Dev :=
  match d.op i with
  | none => d
  | some o =>
    if o.split then d
    else match d.conn o.conn with
      | none => d
      | some x =>
        let p := d.plan o
        let k := d.connPacket o.conn x p.type (dTc o.desc) 0 0 p.flags p.control p.oper []
        let r : Req := ⟨0, i, k, p.off, p.len, [], 4, p.cost, 0, 0, false, false⟩
        let o2 := { o with off := if p.type = tSEND && p.control then o.off else o.off + p.len,
                           msg := if p.type = tSEND && o.msg = 0 then 1 else o.msg, split := p.last, left := o.left + 1 }
        if p.reads && p.len ≠ 0 && dInline o.desc then
          (d.setOp i o2).queueReq o.conn { r with pkt := k.fill p.oper (((dInlineBytes o.desc).drop p.off).take p.len) }
        else if (p.reads || p.places) && p.len ≠ 0 then
          match d.translateFrags o.die (d.opAccess o (if p.reads then 0 else 1)) (subFrags o.frags p.off p.len) with
          | (d, ⟨_, _, some (t, a)⟩) => d.opStop i o t a
          | (d, ⟨parts, ents, none⟩) =>
            if p.reads then (d.setOp i { o2 with busy := true }).hostGet o.die o.func parts ents (.piece o.conn r)
            else (d.setOp i o2).queueReq o.conn { r with dst := parts }
        else (d.setOp i o2).queueReq o.conn r

/-! ## Leaving (R256, R265, R272, R274) -/

/-- Unresolved matched requests of a connection (R272). -/
def Conn.matched (x : Conn) : Nat := (x.reqs.filter (fun r => r.pkt.type = tSEND || r.pkt.type = tRNDV_RTS)).length

/-- Response slots in use on a die (R265). -/
def Dev.rslots (d : Dev) (q : Nat) : Nat :=
  ((d.hst.conns.filter (fun e => connDie e.1 = q)).map (fun (e : Nat × Conn) =>
    (e.2.reqs.filter (fun r => r.pkt.type = tGET_REQ || r.pkt.type = tATOMIC)).length)).sum

/-- A special slot of the send half that no unresolved request holds (R265). -/
def Conn.freeSpecial (x : Conn) : Option Nat := (List.range 4).find? (fun s => x.reqs.all (fun r => r.slot ≠ s))

/-- A request may leave now. -/
def Dev.mayLeave (d : Dev) (c : Nat) (x : Conn) (r : Req) : Bool :=
  let t := r.pkt.type
  psnDist x.nextPsn x.oldest < winOf x.peerRxwin &&
  (!oneSided t || d.connCredit c x ≥ 0) &&
  (!(t = tSEND || t = tRNDV_RTS) || x.matched < x.mwin) &&
  (!(t = tGET_REQ || t = tATOMIC) || d.rslots (connDie c) < 16384) &&
  (!(t = tATOMIC || t = tPUT_CTR) || x.freeSpecial.isSome)

/-- A request is the head of a message: a SEND head, or RNDV_RTS with FIN = 0 (a FIN belongs to no descriptor). -/
def Req.isHead (r : Req) : Bool := r.op ≠ 0 && ((r.pkt.type = tSEND && r.pkt.control) || r.pkt.type = tRNDV_RTS)

/-- The SENDs of a context in progress. -/
def Dev.sendsOn (d : Dev) (c : Nat) : List (Nat × Op) := (d.opsOn c).filter (fun e => dOpcode e.2.desc = opSEND)

/-- R296: the SEND of a descriptor uses rendezvous. -/
def Dev.byRendezvous (d : Dev) (o : Op) : Bool :=
  !(dLen o.desc ≤ min 65536 (d.get MTC_CTRL_EAGER (onDie o.die)) || dShard o.desc ||
    d.get MTC_FNRNDV_COUNT ⟨o.die, o.func⟩ = 0)

/-- A SEND that waits for a rendezvous region number. -/
def Dev.sendWaits (d : Dev) (o : Op) : Bool := dOpcode o.desc = opSEND && o.stage = 0 && o.busy && o.rndv = 0 && d.byRendezvous o

/-- R292: heads leave in the order in which their messages started; a SEND that waits for its rendezvous region has not started its
message. DEDUCED (log 118). -/
def Dev.headTurn (d : Dev) (c : Nat) (r : Req) : Bool :=
  match d.op r.op with
  | some o => (d.sendsOn c).all (fun e => e.2.msg = 2 || e.1 = r.op || o.msn < e.2.msn || d.sendWaits e.2)
  | none => true

/-- R296: the eager message whose head has left and whose pieces have not all left: its PSNs are consecutive.
DEDUCED (log 118). -/
def Dev.midMessage (d : Dev) (c : Nat) (x : Conn) : Option Nat :=
  ((d.sendsOn c).find? (fun e => e.2.msg = 2 && e.2.rndv = 0 && (!e.2.split || e.2.busy || x.sendQ.any (fun r => r.op = e.1)))).map (·.1)

/-- The descriptor whose access a trap, or a wait for a slot, holds up. -/
def Dev.contOp (d : Dev) : Cont → Option Nat
  | .op i => some i
  | .table i => some i
  | .again c psn => ((d.conn c).bind (fun x => x.reqs.find? (fun r => r.psn = psn))).map (·.op)
  | .member q m k => (d.clv.mems.find? (fun x => x.group = k.dest % 65536 && x.member = m && x.seq = bits k.psn 0 16 && !x.held &&
      bits k.psn 16 3 ≠ 0 && (match d.op x.op with | some o => o.die = q | none => false))).map (·.op)
  | _ => none

/-- R279: an access of work queue n of a die has trapped: to its ring, or for one of its descriptors. DEDUCED (log 86). -/
def Dev.stalled (d : Dev) (q n : Nat) : Bool :=
  let holds (c : Cont) : Bool := (match c with
    | .queue k m => k = kWQ && m = n
    | _ => false) ||
    (match (d.contOp c).bind d.op with
     | some o => o.die = q && o.kind = kWQ && o.qn = n
     | none => false)
  d.xlt.traps.any (fun t => t.1 / 256 = q && holds t.2.cont) || d.xlt.slotWait.any (fun w => w.1 = q && holds w.2.2.2)

/-- R279: a packet not yet sent waits while its work queue is stalled. DEDUCED (log 86). -/
def Dev.reqWaits (d : Dev) (r : Req) : Bool :=
  match d.op r.op with
  | some o => o.kind = kWQ && d.stalled o.die o.qn
  | none => false

/-- The request that leaves next: the next piece of a message under way, else the earlier of the first one-sided request, the
first head in its turn and the first other one, where it may; the packets of a stalled work queue wait (R279).
DEDUCED (log 86). -/
def Dev.nextReq (d : Dev) (c : Nat) (x : Conn) : Option Req :=
  let l := x.sendQ.filter (fun r => !d.reqWaits r)
  match d.midMessage c x with
  | some i => l.find? (fun r => r.op = i && d.mayLeave c x r)
  | none =>
    let firsts := [l.find? (fun r => oneSided r.pkt.type),
      l.find? (fun r => !oneSided r.pkt.type && (!r.isHead || d.headTurn c r))]
    l.find? (fun r => firsts.contains (some r) && d.mayLeave c x r)

/-- A head leaves with the next MSN of its connection (R292). DEDUCED (log 118). -/
def Req.numbered (r : Req) (msn : Nat) : Req :=
  if r.isHead then { r with pkt := { r.pkt with oper := r.pkt.oper.take 10 ++ toBytes 2 msn ++ r.pkt.oper.drop 12 } } else r

/-- R260: a send half without a PSN left enters ERROR once its outstanding packets have resolved. DEDUCED (log 118). -/
def Dev.psnEnd (d : Dev) (c : Nat) : Dev :=
  match d.conn c with
  | some x => if 2 ^ 32 ≤ x.nextPsn && x.reqs = [] then d.connError c 0 ST_CONN_ERROR else d
  | none => d

/-- R260: no PSN is left: the descriptor completes ST_CONN_ERROR; the context enters ERROR once nothing is outstanding. -/
def Dev.psnSpent (d : Dev) (c i : Nat) : Dev :=
  (d.failOp i ST_CONN_ERROR).psnEnd c

/-- The next request of a connection leaves for the first time: it takes the next PSN and a special slot where it needs
one, and the bucket is charged. DEDUCED (log 118). -/
def Dev.sendNext (d : Dev) (c : Nat) : Dev :=
  match d.conn c with
  | none => d
  | some x =>
    if x.state ≠ connOPEN then d
    else match d.nextReq c x with
      | none => d
      | some r =>
        if x.nextPsn ≥ 2 ^ 32 then d.psnSpent c r.op
        else
          let t := r.pkt.type
          let slot := if t = tATOMIC || t = tPUT_CTR then x.freeSpecial.getD 4 else 4
          let flags := r.pkt.opflags ||| (if slot < 4 then slot <<< 5 else 0)
          let k := { (r.numbered x.sendMsn).pkt with psn := x.nextPsn, opflags := flags }
          let r2 := { r with psn := x.nextPsn, pkt := k, slot := slot }
          let d := d.setConn c { x with nextPsn := x.nextPsn + 1, sendQ := dropFirst r x.sendQ, reqs := x.reqs ++ [r2],
                                        sendMsn := if r.isHead then (x.sendMsn + 1) % 65536 else x.sendMsn }
          let d := d.when r.isHead (·.modOp r.op (fun o => { o with msn := x.sendMsn, msg := 2 }))
          let d := (d.when (oneSided t) (·.chargeConn c r.cost)).event (connDie c) blkRMX 0 0x01 0 1
          match d.conn c with
          | some y => (d.connSend c y k false).prep r.op
          | none => d

/-! ## Resolving (R271) -/

/-- An unresolved request by its PSN. -/
def Conn.req (x : Conn) (psn : Nat) : Option Req := x.reqs.find? (fun r => r.psn = psn)

/-- Change an unresolved request. -/
def Conn.modReq (x : Conn) (psn : Nat) (g : Req → Req) : Conn :=
  { x with reqs := x.reqs.map (fun r => if r.psn = psn then g r else r) }

/-- A request resolves. -/
def Dev.resolveReq (d : Dev) (c psn : Nat) : Dev :=
  match (d.conn c).bind (fun x => x.req psn) with
  | some r => ((d.modConn c (fun x => { x with reqs := x.reqs.filter (fun y => y.psn ≠ psn) })).reqDone r.op).psnEnd c
  | none => d

/-- R271: PUT, PUT_CTR and SEND requests at or below a DM resolve. -/
def Dev.resolveDm (d : Dev) (c dm : Nat) : Dev :=
  match d.conn c with
  | none => d
  | some x =>
    d.each ((x.reqs.filter (fun r => (r.pkt.type = tPUT || r.pkt.type = tPUT_CTR || r.pkt.type = tSEND) &&
      atOrBelow r.psn dm)).map (·.psn)) (fun p d => d.resolveReq c p)

/-! ## Retransmission (R262, R273) -/

/-- Send a copy of a request again, with the next TRY; it is charged to the bucket. There is no ninth copy (R262). -/
def Dev.resend (d : Dev) (c psn : Nat) : Dev :=
  match d.conn c with
  | none => d
  | some x =>
    match x.req psn with
    | none => d
    | some r =>
      if r.tryN ≥ 7 then d.setConn c (x.modReq psn (fun r => { r with hint := false, rereading := false }))
      else
      let t := r.tryN + 1
      let k := { r.pkt with opflags := (r.pkt.opflags / 8) * 8 + t % 8 }
      let d := d.setConn c (x.modReq psn (fun r => { r with tryN := t, pkt := k, hint := false, rereading := false }))
      let d := (d.when (oneSided k.type) (·.chargeConn c r.cost)).event (connDie c) blkRMX 0 0x02 0 1
      match d.conn c with
      | some y => d.connSend c y k false
      | none => d

/-- The bytes of a request's operand that are not data (Tables 10-4, 11-3). -/
def Req.base (r : Req) : List Byte := if r.pkt.control then r.pkt.oper.take (r.pkt.oper.length - r.len) else r.pkt.oper

/-- R262, R328: retransmit a request, reading its source again. DEDUCED (log 86, 152). -/
def Dev.retransmit (d : Dev) (c psn : Nat) : Dev :=
  match (d.conn c).bind (fun x => x.req psn) with
  | none => d
  | some r =>
    match d.op r.op with
    | none => d.resend c psn
    | some o =>
      let t := r.pkt.type
      if (t = tPUT || t = tPUT_CTR || t = tSEND) && r.len ≠ 0 && !dInline o.desc then
        match d.translateFrags o.die (d.opAccess o 0) (subFrags o.frags r.off r.len) with
        | (d, ⟨_, _, some (.trap cause, a)⟩) =>
          (d.modConn c (·.modReq psn (fun r => { r with rereading := true }))).trapInit o.die a cause (.again c psn)
        | (d, ⟨_, _, some (t, _)⟩) =>
          (d.failOp r.op (if t = .notPermitted then ST_NOT_PERMITTED else ST_WALK_ERROR)).resolveReq c psn
        | (d, ⟨parts, ents, none⟩) =>
          (d.modConn c (·.modReq psn (fun r => { r with rereading := true }))).hostGet o.die o.func parts ents (.again c psn)
      else d.resend c psn

/-- R273: a request's tries are used up: its descriptor completes with a status and the connection enters ERROR. -/
def Dev.triesUp (d : Dev) (c : Nat) (r : Req) (status : Nat) : Dev := d.connError c r.op status

/-- R273: the timer of a request expires. DEDUCED (log 152). -/
def Dev.requestTimeout (d : Dev) (c psn : Nat) : Dev :=
  match d.conn c with
  | none => d
  | some x =>
    match x.req psn with
    | none => d
    | some r =>
      let q := connDie c
      if r.hint || r.rereading then d
      else if r.timed < d.retryMax q x.profile && r.tryN < 7 then
        let d := (d.setConn c (x.modReq psn (fun r => { r with timed := r.timed + 1 }))).inc .RMX_RETRY (onDie q)
        (d.rateUpdate c r true).retransmit c psn
      else ((d.rateUpdate c r true).inc .RMX_TIMEOUT (onDie q)).triesUp c r ST_TIMEOUT

/-- R273: HINT has passed since a NACK ST_NOT_READY; a copy whose source is being read already leaves then. DEDUCED (log 152). -/
def Dev.hintRetry (d : Dev) (c psn : Nat) : Dev :=
  match (d.conn c).bind (fun x => x.req psn) with
  | some r => if r.hint && !r.rereading then d.retransmit c psn else d
  | none => d

/-! ## Packets that arrive for a context (R255, R259, R267) -/

/-- The context that a delivered packet is for. -/
def Dev.ctxOf (d : Dev) (q : Nat) (k : Packet) : Option Conn :=
  if connDie k.dconn ≠ q || !d.bit RMX_CTRL_EN (onDie q) then none
  else (d.conn k.dconn).bind (fun x => if x.state = connOPEN || x.state = connERROR then some x else none)

/-- Take the packet of a command off the list of delivered packets. DESIGN CHOICE (log 50). -/
def Dev.takeDlv (d : Dev) (q : Nat) (member : Nat) (k : Packet) : Dev :=
  match d.rtr.dlv.find? (fun x => x.die = q && x.member = member && x.pkt = k) with
  | some x => { d with rtr := { d.rtr with dlv := dropFirst x d.rtr.dlv } }
  | none => d

/-- The checks of context, Glaze and incarnation on a packet; what follows sees the packet in plain. -/
def Dev.connIn (d : Dev) (q : Nat) (k : Packet) (rsp : Bool) (act : Conn → Packet → Dev → Dev) : Dev :=
  match d.ctxOf q k with
  | none => d.inc .RMX_DROPCONN (onDie q)
  | some x =>
    if x.enc || k.enc then
      let nonce := connNonce k.psn x.inc (k.opflags % 8) rsp (sideOf x.peer x.peerConn (d.epOf q x.func) k.dconn)
      let key := d.keyIn q x.keyslot
      let d := d.useKey q x.keyslot
      if x.enc && k.enc && d.keyState q x.keyslot = keyBOUND && k.tagOk key nonce then act x (k.opened key nonce) d
      else d.inc .RMX_DROPAUTH (onDie q)
    else if !k.control && k.inc ≠ x.inc then d.inc .RMX_DROPCONN (onDie q)
    else act x k d

/-! ## Responses -/

def Packet.echo (k : Packet) : Bool := bits k.opflags 3 1 = 1

/-- A response to an outstanding request; any other is consumed and counted (R271). -/
def Dev.responseIn (d : Dev) (q : Nat) (k : Packet) (act : Req → Packet → Dev → Dev) : Dev :=
  (d.takeDlv q 512 k).connIn q k true (fun x k d =>
    match x.req k.psn with
    | some r => act r k d
    | none => d.inc .RMX_STALERSP (onDie q))

/-- An ACK. An ATOMIC that it resolves returns no value: what its completion shows is open. -/
def Dev.ackIn (d : Dev) (q : Nat) (k : Packet) : Dev :=
  d.responseIn q k (fun r k d =>
    let c := k.dconn
    let d := d.rateUpdate c r k.echo
    let d := if r.pkt.type = tATOMIC then (d.modOp r.op (fun o => { o with data := d.freeVal % 2 ^ 64 })).freed else d
    (d.resolveReq c r.psn).resolveDm c (ofBytes (k.oper.take 4)))

/-- A NACK (R271, R273, Table 10-6). ST_NOT_READY to the eighth copy ends the tries; to an earlier one, it asks for another copy while
one is left. -/
def Dev.nackIn (d : Dev) (q : Nat) (k : Packet) : Dev :=
  d.responseIn q k (fun r k d =>
    let c := k.dconn
    let st := ofBytes ((k.oper.drop 4).take 1)
    let d := (d.inc .RMX_NACKRX (onDie q)).when (st = ST_NOT_READY) (·.event q blkRMX 0 0x03 0 1)
    let d := (d.rateUpdate c r k.echo).resolveDm c (ofBytes (k.oper.take 4))
    if st ≠ ST_NOT_READY then d.connError c r.op st
    else if k.opflags % 8 = 7 then d.triesUp c r ST_NOT_READY
    else if r.tryN ≥ 7 then d
    else d.modConn c (·.modReq r.psn (fun r => { r with hint := true })))

/-- A GET_RSP is placed at once where its request reserved room (R265). -/
def Dev.getRspIn (d : Dev) (q : Nat) (k : Packet) : Dev :=
  d.responseIn q k (fun r k d =>
    let c := k.dconn
    let d := d.rateUpdate c r (k.echo || k.cmark)
    let d := d.hostPut q (match d.conn c with | some x => x.func | none => 0) r.dst ((if k.control then k.oper else k.payload).take r.len)
    let d := d.resolveReq c r.psn
    if k.control then d else d.resolveDm c (ofBytes (k.oper.take 4)))

/-- An ATOMIC_RSP returns the fetched value. -/
def Dev.atomicRspIn (d : Dev) (q : Nat) (k : Packet) : Dev :=
  d.responseIn q k (fun r k d =>
    let d := (d.rateUpdate k.dconn r k.echo).modOp r.op (fun o => { o with data := ofBytes (k.oper.take 8) })
    d.resolveReq k.dconn r.psn)

/-! ## Reads of the source -/

/-- The data of a request, or of a retransmission, has been read; a failed read fails the descriptor (Table 9-11).
DEDUCED (log 86). -/
def Dev.sourceRead (d : Dev) (u : RdFor) (ok : Bool) (data : List Byte) : Dev :=
  match u with
  | .piece c r =>
    match d.op r.op with
    | none => d
    | some o =>
      if ok && o.status = ST_OK then d.queueReq c { r with pkt := r.pkt.fill r.pkt.oper (data.take r.len) }
      else (d.setOp r.op { o with left := o.left - 1 }).failOp r.op ST_HOST_ERROR
  | .again c psn =>
    match (d.conn c).bind (fun x => x.req psn) with
    | some r =>
      if ok then (d.modConn c (·.modReq psn (fun r => { r with pkt := r.pkt.fill r.base (data.take r.len) }))).resend c psn
      else (d.failOp r.op ST_HOST_ERROR).resolveReq c psn
    | none => d
  | _ => d

end Sys2Proof.Machine
end

