-- ==== Sys2Proof/Machine/RmxTarget.lean ====
section
/-! DEFINITION. The target of connections (spec/10): acceptance (R267), regions, duplicates and answers (R269, R270),
counters and triggers (R281 to R283). -/

namespace Sys2Proof.Machine

/-! ## Counters (R281, R283) -/

def Dev.ctr (d : Dev) (q n : Nat) : Nat := Tab.get d.hst.ctrs 0 (q * 262144 + n)

/-- The parked descriptors of a die that a counter has reached, by threshold, then by parking order. -/
def Dev.reached (d : Dev) (q n : Nat) : List (Nat × Op) :=
  let l := d.hst.ops.filter (fun e => e.2.die = q && e.2.stage = 1 && dCtr e.2.desc = n && dThresh e.2.desc ≤ d.ctr q n)
  l.mergeSort (fun a b => dThresh a.2.desc < dThresh b.2.desc || (dThresh a.2.desc = dThresh b.2.desc && a.2.order ≤ b.2.order))

/-- R283: fire what a counter has reached. -/
def Dev.fireTriggers (d : Dev) (q n : Nat) : Dev :=
  d.each (d.reached q n) (fun e d =>
    { (d.setOp e.1 { e.2 with stage := 2 }) with hst := { (d.setOp e.1 { e.2 with stage := 2 }).hst with
        fired := d.hst.fired ++ [e.1] } }.inc .RMX_TRIGFIRE (onDie q))

/-- R281: a counter takes a value, modulo 2^64. -/
def Dev.setCtr (d : Dev) (q n v : Nat) : Dev :=
  { d with hst := { d.hst with ctrs := Tab.set d.hst.ctrs 0 (q * 262144 + n) (v % 2 ^ 64) } }.fireTriggers q n

/-- The value that an AtomicOp leaves: 0 FADD, 1 SWAP, 2 CSWAP. -/
def atomicNew (op old a b : Nat) : Nat :=
  if op = 0 then (old + a) % 2 ^ 64 else if op = 1 then a else if old = a then b else old

/-- A counter AtomicOp; the old value is what the operation answers. -/
def Dev.ctrAtomic (d : Dev) (q n op a b : Nat) : Dev := d.setCtr q n (atomicNew op (d.ctr q n) a b)

/-! ## Answers -/

/-- ACKCOAL and ACKDLY in force (Table 10-11). -/
def Dev.ackCoal (d : Dev) (q : Nat) : Nat := clampTo 1 8 (d.get RMX_CTRL_ACKCOAL (onDie q))

/-- The waiting ACK of a connection leaves (R270). -/
def Dev.flushAck (d : Dev) (c tc : Nat) : Dev :=
  match d.conn c with
  | some x =>
    if x.ackN = 0 then d else (d.setConn c x.ackSent).sendAck c x.ackPsn x.ackTry tc x.ackEcho false
  | none => d

/-- R264, R154: increments whose PSN the delivered mark has passed are applied, in ascending PSN order, each with its ACK. -/
def Dev.applyCtrs (d : Dev) (c tc : Nat) : Nat → Dev
  | 0 => d
  | n + 1 =>
    match d.conn c with
    | none => d
    | some x =>
      let due := x.special.filter (fun e => e.2.ctr && e.2.pending && atOrBelow e.2.psn x.dm)
      match due.foldl (fun (b : Option (Nat × Special)) e => match b with
          | some a => if e.2.psn < a.2.psn then some e else some a
          | none => some e) none with
      | none => d
      | some (s, v) =>
        let q := connDie c
        let d := (d.setConn c { x with special := Tab.put x.special s { v with pending := false } }).wr .RMX_CTRAPPLIED (onDie q)
          (BitVec.ofNat 64 ((d.get RMX_CTRAPPLIED_TOTAL (onDie q) + 1) % 2 ^ 48))
        ((d.setCtr q v.counter (d.ctr q v.counter + v.value)).sendAck c v.psn v.tryN tc v.echo false).applyCtrs c tc n

/-- A PSN is done at the receive half; increments that DM has passed apply. -/
def Dev.psnDone (d : Dev) (c psn tc : Nat) : Dev := (d.modConn c (·.markDone psn)).applyCtrs c tc 5

/-- R270: acknowledge an accepted PUT or SEND: in order, within ACKDLY or when ACKCOAL packets wait; otherwise at once. -/
def Dev.ackAccepted (d : Dev) (c : Nat) (k : Packet) (inOrder : Bool) : Dev :=
  if !inOrder then d.sendAck c k.psn (k.opflags % 8) k.tc k.cmark false
  else
    let d := d.modConn c (fun x => { x with ackN := x.ackN + 1, ackPsn := k.psn, ackTry := k.opflags % 8,
                                            ackEcho := x.ackEcho || k.cmark })
    match d.conn c with
    | some x => if x.ackN ≥ d.ackCoal (connDie c) then d.flushAck c k.tc else d
    | none => d

/-- Mark an accepted PUT or SEND done and acknowledge it. -/
def Dev.acceptDone (d : Dev) (c : Nat) (k : Packet) : Dev :=
  match d.conn c with
  | some x => (d.psnDone c k.psn k.tc).ackAccepted c k (psnDist k.psn x.dm = 1)
  | none => d

/-- R267, fail(s): a final refusal; the context enters ERROR. -/
def Dev.refuse (d : Dev) (c : Nat) (k : Packet) (status : Nat) : Dev := (d.sendNack c k status 0).connError c 0 status

/-- A refusal that leaves the PSN not done. -/
def Dev.notReady (d : Dev) (c : Nat) (k : Packet) (hint : Nat) : Dev := d.sendNack c k ST_NOT_READY hint

/-- R269: answer a duplicate that is no GET_REQ. -/
def Dev.answerDup (d : Dev) (c : Nat) (k : Packet) : Dev :=
  let d := d.inc .RMX_DUP (onDie (connDie c))
  let slot := bits k.opflags 5 2
  match (d.conn c).bind (fun x => (Tab.find x.special slot).map (fun s => (x, s))) with
  | some (x, s) =>
    if s.psn ≠ k.psn then d.ackDup c k
    else if k.type = tATOMIC && !s.ctr then
      d.connSend c x (d.connPacket c x tATOMIC_RSP k.tc k.psn (k.opflags % 8) (rspFlags k.cmark true slot) true
        (toBytes 8 s.value ++ toBytes 4 x.dm) []) true
    else if k.type = tPUT_CTR && s.ctr && s.pending then
      d.setConn c { x with special := Tab.put x.special slot { s with tryN := k.opflags % 8, echo := s.echo || k.cmark } }
    else d.ackDup c k
  | none => d.ackDup c k

/-! ## The region check (R277) -/

def kRkey (k : Packet) : Nat := ofBytes (k.oper.take 4)
def kRoff (k : Packet) : Nat := ofBytes ((k.oper.drop 4).take 6)
def kGetLen (k : Packet) : Nat := bits (ofBytes ((k.oper.drop 10).take 2)) 0 13
def kWoff (k : Packet) : Nat := ofBytes ((k.oper.drop 4).take 4)
def kCtr (k : Packet) : Nat := ofBytes ((k.oper.drop 10).take 2)
def kIncr (k : Packet) : Nat := ofBytes ((k.oper.drop 12).take 4)
def kAop (k : Packet) : Nat := bits k.opflags 3 2
def kSlot (k : Packet) : Nat := bits k.opflags 5 2
/-- The data of a PUT or PUT_CTR. -/
def kData (k : Packet) : List Byte := if k.control then k.oper.drop (if k.type = tPUT_CTR then 16 else 10) else k.payload

/-- R277: a request passes the region check for [off, off + len) under a right (bit of RIGHTS). -/
def Dev.regionOk (d : Dev) (q : Nat) (k : Packet) (off len right : Nat) : Bool :=
  let n := kRkey k % 262144
  let r := d.region q n
  let f := d.boundFunc q (epFunc k.dest)
  d.inRange q f 1 n && r.owner = f && r.gen = kRkey k / 262144 && r.state = regVALID && off + len ≤ r.len &&
  bits r.rights right 1 = 1 && (!(k.type = tPUT || k.type = tPUT_CTR) || !r.counter) &&
  (!(k.type = tPUT_CTR) || kCtr k < r.ctrcount)

/-- The region check of a request; one that waited in a trap slot has passed it before, and goes on (R319).
DEDUCED (log 87, 151). -/
def Dev.passes (d : Dev) (q : Nat) (k : Packet) (off len right : Nat) (again : Bool) : Bool :=
  again || d.regionOk q k off len right

/-- The status of a request whose region check fails (R267). -/
def Dev.regionStatus (d : Dev) (q : Nat) (k : Packet) : Nat :=
  if (d.region q (kRkey k % 262144)).state = regBAD then ST_MEM_ERROR else ST_NOT_PERMITTED

/-- A target access to a region. -/
def Dev.regionAccess (d : Dev) (q : Nat) (k : Packet) (off len kind : Nat) : XAcc :=
  let r := d.region q (kRkey k % 262144)
  ⟨r.xspace, r.base + off, len, kind, 1, 1, r.keyrights, k.dconn % 1048576, d.engine q k.dconn, none⟩

/-- A target access stopped (Table 12-4, R318): it parks in a trap slot, is answered ST_NOT_READY for want of one, or is
refused for good. One that parks is in flight on its region (R277); n is the region's number plus 1, 0 for none.
DEDUCED (log 151). -/
def Dev.targetStop (d : Dev) (q : Nat) (k : Packet) (t : Tr) (a : XAcc) (orig : Packet) (n : Nat) : Dev :=
  let c := k.dconn
  match t with
  | .trap cause =>
    match d.freeSlot q with
    | some s => (d.when (n ≠ 0) (·.regionIn q (n - 1))).takeSlot q s a cause (.target orig n)
    | none => (d.inc .XLT_TRAPFULL (onDie q)).notReady c k (d.hintXlt q)
  | .notPermitted => d.refuse c k ST_NOT_PERMITTED
  | _ => d.refuse c k ST_WALK_ERROR

/-! ## Execution (Tables 10-6a to 10-6d) -/

/-- Place the data of a write; parts before a stop are placed (R280). -/
def Dev.placeRegion (d : Dev) (q : Nat) (k orig : Packet) (act : Dev → Dev) : Dev :=
  let data := kData k
  let f := (d.region q (kRkey k % 262144)).owner
  match d.translateRange q (d.regionAccess q k (kRoff k) data.length 1) (data.length / 4096 + 2) with
  | (d, ⟨parts, _, some (t, a)⟩) => (d.hostPut q f parts data).targetStop q k t a orig (kRkey k % 262144 + 1)
  | (d, ⟨parts, _, none⟩) => act (d.hostPut q f parts data)

/-- PUT (Table 10-6a). -/
def Dev.execPutAt (d : Dev) (q : Nat) (k orig : Packet) (again : Bool) : Dev :=
  if !d.passes q k (kRoff k) (kData k).length 1 again then d.refuse k.dconn k (d.regionStatus q k)
  else d.placeRegion q k orig (·.acceptDone k.dconn k)

/-- A special slot of the receive half can take a packet: it holds nothing that is still needed. -/
def Conn.slotFree (x : Conn) (s : Nat) : Bool := match Tab.find x.special s with | some v => !v.pending | none => true

/-- PUT_CTR (Table 10-6d): the translation comes before the special slot (R267). -/
def Dev.execPutCtrAt (d : Dev) (q : Nat) (k orig : Packet) (x : Conn) (again : Bool) : Dev :=
  let c := k.dconn
  if !d.passes q k (kRoff k) (kData k).length 1 again then d.refuse c k (d.regionStatus q k)
  else if !x.slotFree (kSlot k) then
    (match d.translateRange q (d.regionAccess q k (kRoff k) (kData k).length 1) ((kData k).length / 4096 + 2) with
     | (d, ⟨_, _, some (t, a)⟩) => d.targetStop q k t a orig (kRkey k % 262144 + 1)
     | (d, ⟨_, _, none⟩) => d.notReady c k (d.hintRq q))
  else d.placeRegion q k orig (fun d =>
    let r := d.region q (kRkey k % 262144)
    let s : Special := ⟨k.psn, true, kIncr k, r.ctrbase + kCtr k, true, k.opflags % 8, k.cmark⟩
    let d := d.wr .RMX_CTRPLACED (onDie q) (BitVec.ofNat 64 ((d.get RMX_CTRPLACED_TOTAL (onDie q) + 1) % 2 ^ 48))
    (d.modConn c (fun x => { x with special := Tab.put x.special (kSlot k) s })).psnDone c k.psn k.tc)

/-- Answer a GET with its data; the PSN of a copy that is no duplicate is marked done. -/
def Dev.sendGetRsp (d : Dev) (c : Nat) (k : Packet) (dup : Bool) (data : List Byte) : Dev :=
  let d := if dup then d else d.psnDone c k.psn k.tc
  match d.conn c with
  | none => d
  | some x =>
    let control := data.length ≤ 24
    d.connSend c x (d.connPacket c x tGET_RSP k.tc k.psn (k.opflags % 8) (rspFlags k.cmark dup 0) control
      (if control then data else ophdr (toBytes 4 x.dm)) (if control then [] else data)) true

/-- The values of n counters from one on. -/
def Dev.ctrBytes (d : Dev) (q base off len : Nat) : List Byte :=
  (((List.range (len / 8 + 2)).map (fun i => toBytes 8 (d.ctr q (base + off / 8 + i)))).flatten.drop (off % 8)).take len

/-- GET_REQ (Table 10-6b): the region check, the translation, then the read. A duplicate counts once, when it is handled and not when
it parks. -/
def Dev.execGetAt (d : Dev) (q : Nat) (k orig : Packet) (x : Conn) (dup again : Bool) : Dev :=
  let c := k.dconn
  let n := kRkey k % 262144
  let r := d.region q n
  let counted (d : Dev) : Dev := d.when dup (·.inc .RMX_DUP (onDie q))
  if !d.passes q k (kRoff k) (kGetLen k) 0 again then (counted d).refuse c k (d.regionStatus q k)
  else if r.counter then (counted d).sendGetRsp c k dup (d.ctrBytes q r.ctrbase (kRoff k) (kGetLen k))
  else match d.translateRange q (d.regionAccess q k (kRoff k) (kGetLen k) 0) 3 with
    | (d, ⟨_, _, some (t, a)⟩) =>
      let parks := match t with | .trap _ => (d.freeSlot q).isSome | _ => false
      (if parks then d else counted d).targetStop q k t a orig (n + 1)
    | (d, ⟨parts, ents, none⟩) =>
      if x.serving.contains k.psn then (counted d).notReady c k (d.hintRq q)
      else (((counted d).regionIn q n).modConn c (fun x => { x with serving := k.psn :: x.serving })).hostGet q r.owner parts ents
        (.serve c k n)

/-- The value of an ATOMIC is known: it is stored in the special slot, the PSN is done, ATOMIC_RSP leaves. -/
def Dev.sendAtomicRsp (d : Dev) (c : Nat) (k : Packet) (v : Nat) : Dev :=
  let d := d.modConn c (fun x => { x with special := Tab.put x.special (kSlot k) ⟨k.psn, false, v, 0, false, 0, false⟩ })
  let d := d.psnDone c k.psn k.tc
  match d.conn c with
  | some x => d.connSend c x (d.connPacket c x tATOMIC_RSP k.tc k.psn (k.opflags % 8) (rspFlags k.cmark false (kSlot k)) true
      (toBytes 8 v ++ toBytes 4 x.dm) []) true
  | none => d

/-- ATOMIC (Table 10-6c). DEDUCED (log 88). -/
def Dev.execAtomicAt (d : Dev) (q : Nat) (k orig : Packet) (x : Conn) (again : Bool) : Dev :=
  let c := k.dconn
  let n := kRkey k % 262144
  let r := d.region q n
  let a := ofBytes ((k.oper.drop 8).take 8)
  let b := ofBytes ((k.oper.drop 16).take 8)
  if !d.passes q k (8 * kWoff k) 8 2 again then d.refuse c k (d.regionStatus q k)
  else if kAop k = 3 then d.refuse c k ST_BAD_PARAM
  else if r.counter then
    if !x.slotFree (kSlot k) then d.notReady c k (d.hintRq q)
    else (d.ctrAtomic q (r.ctrbase + kWoff k) (kAop k) a b).sendAtomicRsp c k (d.ctr q (r.ctrbase + kWoff k))
  else if !d.bit HST_CTRL_ATOMIC_EN (onDie q) then d.refuse c k ST_UNSUPPORTED
  else match d.translateRange q (d.regionAccess q k (8 * kWoff k) 8 2) 3 with
    | (d, ⟨_, _, some (t, a)⟩) => d.targetStop q k t a orig (n + 1)
    | (d, ⟨parts, ents, none⟩) =>
      if x.serving.contains k.psn || !x.slotFree (kSlot k) then d.notReady c k (d.hintRq q)
      else ((d.regionIn q n).modConn c (fun x => { x with serving := k.psn :: x.serving })).hostAtom q r.owner
        ((parts.headD (0, 0)).1) (kAop k) a b ents (.serve c k n)

/-! ## Acceptance (R267) -/

/-- R267: a request at its target, up to its execution. `execute` sees the packet in plain and whether it is a duplicate
(only a GET_REQ is executed again). -/
def Dev.requestIn (d : Dev) (q : Nat) (k : Packet) (execute : Conn → Packet → Bool → Dev → Dev) : Dev :=
  d.connIn q k false (fun x k d =>
    let c := k.dconn
    let dup := x.isDone k.psn
    let again := k.type = tGET_REQ
    if x.state = connERROR && !(dup && again) then (if dup then d.answerDup c k else d.sendNack c k x.lasterr 0)
    else if dup && !again then d.answerDup c k
    else if !dup && psnDist k.psn x.dm > winOf x.rxwin then d.refuse c k ST_BAD_STATE
    else execute x k dup d)

/-- A PUT, GET_REQ, ATOMIC or PUT_CTR at its target; `again` when it comes from a trap slot. -/
def Dev.rmxRequest (d : Dev) (q : Nat) (orig : Packet) (again : Bool) : Dev :=
  d.requestIn q orig (fun x k dup d =>
    if k.type = tPUT then d.execPutAt q k orig again
    else if k.type = tGET_REQ then d.execGetAt q k orig x dup again
    else if k.type = tATOMIC then d.execAtomicAt q k orig x again
    else if k.type = tPUT_CTR then d.execPutCtrAt q k orig x again
    else d)

/-- A request of a type reaches its target die. DEDUCED (log 60). -/
def Dev.rmxArrive (d : Dev) (q t : Nat) (k : Packet) : Dev := if k.type = t then (d.takeDlv q 512 k).rmxRequest q k false else d

/-! ## Reads and atomics of the target (Tables 10-6b, 10-6c) -/

/-- Take a read off the list of those outstanding. -/
def Dev.takeRead (d : Dev) (tag : Nat) : Dev := { d with hst := { d.hst with reads := Tab.del d.hst.reads tag } }

/-- A served access has finished: it is no longer in flight. -/
def Dev.served (d : Dev) (q c psn n : Nat) : Dev :=
  (d.modConn c (fun x => { x with serving := dropFirst psn x.serving })).regionOut q n

/-- The read for a GET, or the AtomicOp, of a target is answered; a failed one is refused with ST_HOST_ERROR.
DESIGN CHOICE (log 56). -/
def Dev.serveDone (d : Dev) (tag : Nat) (atomic ok : Bool) (data : List Byte) : Dev :=
  match Tab.find d.hst.reads tag with
  | some ⟨q, _, .serve c k n, _⟩ =>
    if (k.type = tATOMIC) ≠ atomic then d
    else
      let d := (d.takeRead tag).served q c k.psn n
      match d.conn c with
      | none => d
      | some x =>
        if x.state ≠ connOPEN && x.state ≠ connERROR then d
        else if !ok then (d.when (!atomic) (·.inc .HST_RDERR (onDie q))).refuse c k ST_HOST_ERROR
        else if atomic then d.sendAtomicRsp c k (ofBytes (data.take 8))
        else d.sendGetRsp c k (x.isDone k.psn) (data.take (kGetLen k))
  | _ => d

end Sys2Proof.Machine
end

