-- ==== Sys2Proof/Machine/Mtc.lean ====
section
/-! DEFINITION. Message matching (spec/11): the match key, the lists, heads in and out of turn, eager and rendezvous data,
unexpected messages. -/

namespace Sys2Proof.Machine

/-! ## The pool (R291) -/

/-- Unexpected and bound messages of a die. -/
def Dev.msgsOf (d : Dev) (q : Nat) : List (Nat × Msg) := d.hst.msgs.filter (fun e => e.2.die = q)

/-- Heads in reorder slots of the connections of a die that have a property. -/
def Dev.heldHeads (d : Dev) (q : Nat) (p : Conn → Bool) : Nat :=
  ((d.hst.conns.filter (fun e => connDie e.1 = q && p e.2)).map (fun (e : Nat × Conn) => e.2.heads.length)).sum

/-- Heads of unexpected messages that have an entry and wait for their receive descriptor, on the receive queues of a die that have a
property. DEDUCED (log 86). -/
def Dev.waitingHeads (d : Dev) (q : Nat) (p : Queue → Bool) : Nat :=
  ((d.hst.queues.filter (fun e => e.1 / 65536 = q * 4 + kRQ && p e.2)).map (fun (e : Nat × Queue) =>
    e.2.waiting.countP (fun k => k.type = tSEND))).sum

/-- Pool entries that a function holds. -/
def Dev.poolUsed (d : Dev) (q f : Nat) : Nat :=
  (d.posted q f).length + ((d.msgsOf q).filter (fun e => e.2.func = f)).length + d.heldHeads q (fun x => x.func = f) +
  d.waitingHeads q (fun x => x.func = f)

/-- Posted entries of a die. -/
def Dev.postedAll (d : Dev) (q : Nat) : Nat :=
  ((d.hst.posted.filter (fun e => e.1 / 256 = q)).map (fun (e : Nat × List Nat) => e.2.length)).sum

/-- Pool entries in use on a die. -/
def Dev.poolAll (d : Dev) (q : Nat) : Nat :=
  d.postedAll q + (d.msgsOf q).length + d.heldHeads q (fun _ => true) + d.waitingHeads q (fun _ => true)

/-- R291: a function can take one more entry. -/
def Dev.poolFree (d : Dev) (q f : Nat) : Bool :=
  d.poolUsed q f < min 1048576 (d.get MTC_FNCFG_QUOTA ⟨q, f⟩) && d.poolAll q < 1048576

/-- The next order stamp of a function (R289). -/
def Dev.stamp (d : Dev) (q f : Nat) : Nat := Tab.get d.hst.stamps 0 (q * 256 + f)
def Dev.stamped (d : Dev) (q f : Nat) : Dev :=
  { d with hst := { d.hst with stamps := Tab.set d.hst.stamps 0 (q * 256 + f) ((d.stamp q f + 1) % 2 ^ 64) } }

/-! ## The match key (R286, R287) -/

/-- R287: a message with a context, tag and source matches a TRECV. -/
def keyMatches (desc context tag src : Nat) : Bool :=
  bits (dRkey desc) 0 16 = context && (tag ^^^ dRaddr desc) &&& dOpa desc = 0 &&
  (src ^^^ bits (dOpb desc) 0 25) &&& bits (dOpb desc) 32 25 = 0

/-- The TRECV has a wildcard bit. -/
def wild (desc : Nat) : Bool := dOpa desc ≠ 2 ^ 64 - 1 || bits (dOpb desc) 32 25 ≠ 2 ^ 25 - 1

/-- R289: the posted receive with the lowest stamp that a message matches. -/
def Dev.postedMatch (d : Dev) (q f context tag src : Nat) : Option (Nat × Op) :=
  (d.posted q f).findSome? (fun i => match d.op i with
    | some o => if keyMatches o.desc context tag src then some (i, o) else none
    | none => none)

/-- Wildcard entries examined before the one chosen. -/
def Dev.wildExamined (d : Dev) (q f context tag src : Nat) : Nat :=
  ((d.posted q f).takeWhile (fun i => match d.op i with
    | some o => !keyMatches o.desc context tag src
    | none => true)).countP (fun i => match d.op i with | some o => wild o.desc | none => false)

/-- R289: the unexpected message with the lowest stamp that a TRECV of a function matches. -/
def Dev.unexpMatch (d : Dev) (q f desc : Nat) : Option (Nat × Msg) :=
  ((d.msgsOf q).filter (fun e => e.2.func = f && e.2.bound = 0 && keyMatches desc e.2.context e.2.tag e.2.src)).foldl
    (fun (b : Option (Nat × Msg)) e => match b with
      | some a => if e.2.stamp < a.2.stamp then some e else some a
      | none => some e) none

/-- The message of a connection, by its number, whose bytes have not all arrived. A message that is complete is none of the
connection's any more: it may outlive the incarnation (R304), and the numbers come round again. -/
def Dev.msgAt (d : Dev) (c msn : Nat) : Option (Nat × Msg) :=
  d.hst.msgs.find? (fun e => e.2.conn = c && e.2.msn = msn && e.2.die = connDie c && !e.2.cut && e.2.got < e.2.len)

/-! ## Head fields (Table 11-3) -/

def kTag (k : Packet) : Nat := ofBytes (k.oper.take 8)
def kContext (k : Packet) : Nat := ofBytes ((k.oper.drop 8).take 2)
def kMsn (k : Packet) : Nat := if k.control then ofBytes ((k.oper.drop 10).take 2) else ofBytes (k.oper.take 2)
def kMlen (k : Packet) : Nat := ofBytes ((k.oper.drop 12).take 4)
def kRts (k : Packet) : Bool := k.type = tRNDV_RTS
def kRndvKey (k : Packet) : Nat := ofBytes ((k.oper.drop 16).take 4)
def kFin (k : Packet) : Bool := kRts k && bits k.opflags 3 1 = 1
def kOff (k : Packet) : Nat := ofBytes ((k.oper.drop 4).take 4)

/-! ## Completing receives -/

/-- A bound message is complete: the TRECV completes and the entry is released (R297). -/
def Dev.trecvDone (d : Dev) (i : Nat) (m : Msg) (bytes : Nat) (cut : Bool) : Dev :=
  match d.op m.bound with
  | some o =>
    let st := if cut || m.len > dLen o.desc then ST_TRUNCATED else ST_OK
    (d.delMsg i).finishOp m.bound st bytes m.src m.tag false
  | none => d.delMsg i

/-- R299, KIND 1: the RECV completion returns the buffer. -/
def Dev.recvDone (d : Dev) (m : Msg) : Dev :=
  d.complete m.die kRQ m.rq m.rindex (dCookie m.rdesc.desc) m.placed
    (if m.len > dLen m.rdesc.desc then ST_TRUNCATED else ST_OK) m.src m.tag

/-- The access of a placement into, or the copy out of, a receive-queue buffer: no key applies (Table 12-3). -/
def Dev.rqAccess (d : Dev) (q rq kind c : Nat) : XAcc :=
  ⟨(match d.queue q kRQ rq with | some x => x.xspace | none => 0), 0, 0, kind, 1, 1, 0, c % 1048576, d.engine q c, none⟩

/-- R299: start the copy of a complete KIND 1 message into the buffer of the TRECV that it is bound to. DEDUCED (log 87). -/
def Dev.startCopy (d : Dev) (i : Nat) (m : Msg) : Dev :=
  match d.op m.bound with
  | none => d
  | some o =>
    let n := min m.placed (dLen o.desc)
    if n = 0 then ((d.recvDone m)).trecvDone i m 0 (m.len > m.placed)
    else
      let a : XAcc := { d.rqAccess m.die m.rq 0 m.conn with side := 0, who := (match d.queue o.die o.kind o.qn with
        | some x => x.qnum | none => 0) }
      match d.translateFrags m.die a (subFrags m.rdesc.frags 0 n) with
      | (d, ⟨_, _, some (t, a)⟩) => d.opStop m.bound o t a
      | (d, ⟨parts, ents, none⟩) => d.hostGet m.die m.func parts ents (.copy m.bound i)

/-- R299: the copy's reads have completed: its writes, then the RECV completion, then the TRECV completion. -/
def Dev.copyDone (d : Dev) (i : Nat) (ok : Bool) (data : List Byte) : Dev :=
  match d.msg i with
  | none => d
  | some m =>
    match d.op m.bound with
    | none => d
    | some o =>
      if !ok then (((d.inc .HST_RDERR (onDie m.die)).recvDone m).delMsg i).finishOp m.bound ST_HOST_ERROR 0 m.src m.tag false
      else match d.translateFrags o.die (d.opAccess o 1) (subFrags o.frags 0 data.length) with
        | (d, ⟨_, _, some (t, a)⟩) => (d.hostPut o.die o.func [] data).opStop m.bound o t a
        | (d, ⟨parts, _, none⟩) =>
          ((d.hostPut o.die o.func parts data).recvDone m).trecvDone i m data.length (m.len > m.placed)

/-! ## Placing message data (R297) -/

/-- Where the data of a message goes: the RQ buffer of a KIND 1 message, else the buffer of the TRECV it is bound to. -/
def Dev.msgBuffer (d : Dev) (m : Msg) : Option (XAcc × List (Nat × Nat) × Nat) :=
  if m.kind = 1 then some (d.rqAccess m.die m.rq 1 m.conn, m.rdesc.frags, dLen m.rdesc.desc)
  else (d.op m.bound).map (fun o => ({ d.opAccess o 1 with side := 1, who := m.conn % 1048576 }, o.frags, dLen o.desc))

/-- A message whose bytes have all arrived or been discarded is complete (R297). -/
def Dev.msgCheck (d : Dev) (i : Nat) : Dev :=
  match d.msg i with
  | none => d
  | some m =>
    if m.got < m.len || m.kind = 2 || m.bound = 0 then d
    else if m.kind = 1 then d.startCopy i m
    else d.trecvDone i m m.placed false

/-- R297: place a piece of a message at OFF; bytes beyond the buffer are discarded and accounted. -/
def Dev.placePiece (d : Dev) (q i : Nat) (m : Msg) (k orig : Packet) (off : Nat) (data : List Byte) : Dev :=
  match d.msgBuffer m with
  | none => d
  | some (a, frags, size) =>
    let n := min data.length (size - off)
    match d.translateFrags q a (subFrags frags off n) with
    | (d, ⟨parts, _, some (t, a)⟩) => (d.hostPut q m.func parts data).targetStop q k t a orig 0
    | (d, ⟨parts, _, none⟩) =>
      (((d.hostPut q m.func parts (data.take n)).setMsg i { m with got := m.got + data.length, placed := m.placed + n }).acceptDone
        k.dconn k).msgCheck i

/-- The data of the head of a bound eager message. -/
def Dev.placeHead (d : Dev) (q i : Nat) (m : Msg) (k orig : Packet) : Dev :=
  if k.oper.length ≤ 16 then (d.acceptDone k.dconn k).msgCheck i
  else d.placePiece q i m k orig 0 (k.oper.drop 16)

/-! ## Receive descriptors (R251) -/

/-- RQ_LIMIT (Table 9-7): raised when PI - CI falls below LIMIT, rearmed when it rises to it. -/
def Dev.rqLimit (d : Dev) (q n : Nat) : Dev :=
  match d.queue q kRQ n with
  | none => d
  | some x =>
    if x.limit = 0 || (x.fill < x.limit) = x.below then d
    else
      let d := d.setQueue q kRQ n { x with below := x.fill < x.limit }
      d.when (x.fill < x.limit) (·.queueEvent q kRQ n 4 x.fill 0)

/-- An arrival takes the receive descriptor that has been read for it. -/
def Dev.consumeRq (d : Dev) (q n : Nat) (x : Queue) : Dev := d.setQueue q kRQ n { x with ready := x.ready.drop 1 }

/-- What an arrival that needs a receive descriptor of a queue meets. -/
inductive RqGet where
  | none
  | refused
  | wait
  | got (i : Nat) (r : RDesc)
deriving DecidableEq, Repr

/-- R250, R251: look for a receive descriptor. One is read when an arrival needs it (R233): the arrival waits for the read. -/
def Dev.rqGet (d : Dev) (q : Nat) (x : Queue) : RqGet :=
  if x.state ≠ qACTIVE then .none
  else match x.ready with
    | (i, r) :: _ => .got i r
    | [] => if x.fill = 0 then .none else if !d.cqAdmits q x then .refused else .wait

/-! ## Heads (R292 to R294, R298) -/

/-- A pull starts: the TRECV fetches the message over the send half of its connection (Table 11-5, step 3). -/
def Dev.startPull (d : Dev) (i mi : Nat) (o : Op) (m : Msg) : Dev :=
  let n := min m.len (dLen o.desc)
  let d := d.setOp i { o with conn := m.conn, rkey := m.rkey, msg := mi, len := n, off := 0, split := n = 0, left := 0 }
  if n = 0 then d.opCheck i else d.prep i

/-- A message entry from a head. -/
def Dev.headMsg (d : Dev) (q : Nat) (x : Conn) (k : Packet) (kind bound : Nat) : Msg :=
  { die := q, func := x.func, conn := k.dconn, msn := kMsn k, tag := kTag k, context := kContext k, src := x.peer,
    len := kMlen k, stamp := d.stamp q x.func, kind := kind, data := k.oper.drop 16, rkey := kRndvKey k, rq := 0,
    rindex := 0, rdesc := ⟨0, []⟩, got := 0, placed := 0, bound := bound, cut := false }

/-- Store a message entry under a new number. -/
def Dev.newMsg (d : Dev) (m : Msg) : Dev × Nat :=
  let i := d.hst.nextMsg
  ({ d with hst := { d.hst with msgs := Tab.put d.hst.msgs i m, nextMsg := i + 1 } }, i)

/-- A head that is not SEND data is answered: RNDV_RTS at once, SEND as R270 states. -/
def Dev.answerHead (d : Dev) (k : Packet) : Dev :=
  if kRts k then (d.psnDone k.dconn k.psn k.tc).sendAck k.dconn k.psn (k.opflags % 8) k.tc k.cmark false
  else d.acceptDone k.dconn k

/-- NEXT_MSN advances. -/
def Dev.nextMessage (d : Dev) (c : Nat) : Dev := d.modConn c (fun x => { x with nextMsn := (x.nextMsn + 1) % 65536 })

/-- A copy of a head waits for a receive descriptor already. -/
def Dev.headWaits (d : Dev) (q c psn : Nat) : Bool :=
  d.hst.queues.any (fun e => e.1 / 65536 = q * 4 + kRQ && e.2.waiting.any (fun p => p.type = tSEND && p.dconn = c && p.psn = psn))

/-- R298: a message in turn is stored as unexpected, or refused; a KIND 1 message whose receive descriptor is not read yet
waits for it. -/
def Dev.storeUnexpected (d : Dev) (q : Nat) (x : Conn) (k orig : Packet) (held : Bool) : Dev :=
  let c := k.dconn
  let kind := if kRts k then 2 else if kMlen k ≤ 8 then 0 else 1
  let f := x.func
  let store (d : Dev) (m : Msg) : Dev :=
    let (d, _) := d.newMsg m
    (((d.stamped q f).inc .MTC_UNEXP (onDie q)).nextMessage c).answerHead k
  if !held && !d.headWaits q c k.psn && !d.poolFree q f then (d.inc .MTC_POOLNACK (onDie q)).notReady c k (d.hintPool q)
  else if kind ≠ 1 then
    store d { d.headMsg q x k kind 0 with got := if kind = 0 then kMlen k else 0 }
  else if !d.bit MTC_FNCFG_UX_EN ⟨q, f⟩ then (d.inc .MTC_POOLNACK (onDie q)).notReady c k (d.hintPool q)
  else match d.localQueue q f kRQ (d.get MTC_FNCFG_UXRQ ⟨q, f⟩) with
    | none => (d.inc .QUE_NRNACK (onDie q)).notReady c k (d.hintRq q)
    | some (n, y) =>
      match d.rqGet q y with
      | .none => (d.inc .QUE_NRNACK (onDie q)).notReady c k (d.hintRq q)
      | .refused => ((d.cqRefuse q y).inc .QUE_NRNACK (onDie q)).notReady c k (d.hintCq q)
      | .wait => d.setQueue q kRQ n { y with waiting :=
          (y.waiting.filter (fun p => !(p.dconn = orig.dconn && p.psn = orig.psn))) ++ [orig] }
      | .got i r => store (d.consumeRq q n y) { d.headMsg q x k 1 0 with rq := n, rindex := i, rdesc := r }

/-- R294: a head in turn is matched to a posted receive, or stored. -/
def Dev.headInTurn (d : Dev) (q : Nat) (x : Conn) (k orig : Packet) (held : Bool) : Dev :=
  let c := k.dconn
  let f := x.func
  let d := d.event q blkMTC 0 0x02 0 (d.wildExamined q f (kContext k) (kTag k) x.peer)
  match d.postedMatch q f (kContext k) (kTag k) x.peer with
  | none => d.storeUnexpected q x k orig held
  | some (i, o) =>
    let d := d.setPosted q f ((d.posted q f).filter (· ≠ i))
    let d := ((d.inc .MTC_MATCH (onDie q)).event q blkMTC 0 0x01 0 1).nextMessage c
    let (d, mi) := d.newMsg (d.headMsg q x k (if kRts k then 2 else 0) i)
    let d := d.setOp i { o with msg := mi }
    match d.msg mi with
    | none => d
    | some m => if kRts k then (d.answerHead k).startPull i mi { o with msg := mi } m else d.placeHead q mi m k orig

/-- R293: a head ahead of its turn is held in a reorder slot, or refused. -/
def Dev.holdHead (d : Dev) (q : Nat) (x : Conn) (k orig : Packet) (dist : Nat) : Dev :=
  let rest := x.heads.filter (fun h => h.1 ≠ kMsn k)
  let again := rest.length < x.heads.length
  if dist > 64 || (!again && (rest.length ≥ 64 || !d.poolFree q x.func)) then
    (d.inc .MTC_ORDNACK (onDie q)).notReady k.dconn k (d.hintOrd q)
  else (d.setConn k.dconn { x with heads := rest ++ [(kMsn k, orig)] }).when (!again) (·.inc .MTC_ORDHOLD (onDie q))

/-- R294: a message head that passed the checks of R267. `held` tells that it comes from its reorder slot, whose entry it
takes over (R302). -/
def Dev.onHead (d : Dev) (q : Nat) (x : Conn) (k orig : Packet) (held : Bool) : Dev :=
  let c := k.dconn
  let m := kMsn k
  if !d.bit MTC_CTRL_EN (onDie q) then d.refuse c k ST_UNSUPPORTED
  else match (d.msgAt c m).filter (fun e => e.2.bound ≠ 0) with
    | some (i, b) => d.placeHead q i b k orig
    | none =>
      let dist := (m + 65536 - x.nextMsn) % 65536
      if dist ≥ 32768 then (d.inc .MTC_ORDERR (onDie q)).answerDup c k
      else if dist > 0 then d.holdHead q x k orig dist
      else d.headInTurn q x k orig held

/-- R293: while the head of NEXT_MSN is held, take it from its slot and handle it. -/
def Dev.runHeld (d : Dev) (q c : Nat) : Nat → Dev
  | 0 => d
  | n + 1 =>
    match d.conn c with
    | none => d
    | some x =>
      match x.heads.find? (fun h => h.1 = x.nextMsn) with
      | none => d
      | some h =>
        ((d.setConn c { x with heads := dropFirst h x.heads }).requestIn q h.2 (fun y k _ d =>
          d.onHead q y k h.2 true)).runHeld q c n

/-- R297: a data piece of a message. -/
def Dev.sendPiece (d : Dev) (q : Nat) (k orig : Packet) : Dev :=
  match (d.msgAt k.dconn (kMsn k)).filter (fun e => e.2.bound ≠ 0 || e.2.kind = 1) with
  | some (i, m) => d.placePiece q i m k orig (kOff k) k.payload
  | none => (d.inc .MTC_ORDNACK (onDie q)).notReady k.dconn k (d.hintOrd q)

/-- R301: a FIN revokes the rendezvous region it names. -/
def Dev.finIn (d : Dev) (q : Nat) (k : Packet) : Dev :=
  let c := k.dconn
  let n := kRndvKey k % 262144
  let d2 := d.answerHead k
  match d.hst.ops.find? (fun e => e.2.die = q && e.2.conn = c && e.2.rndv = n + 1) with
  | some _ =>
    if (d.region q n).gen = kRndvKey k / 262144 then (d2.revokeRndv q n).revokeEnds q n else d2.inc .MTC_STALEFIN (onDie q)
  | none => d2.inc .MTC_STALEFIN (onDie q)

/-- A SEND or RNDV_RTS packet at its target. -/
def Dev.mtcRequest (d : Dev) (q : Nat) (orig : Packet) : Dev :=
  (d.requestIn q orig (fun x k _ d =>
    if kFin k then d.finIn q k
    else if k.control then d.onHead q x k orig false
    else d.sendPiece q k orig)).runHeld q orig.dconn 65

/-- A message packet of a type and form reaches its target die. DEDUCED (log 60). -/
def Dev.mtcArrive (d : Dev) (q t : Nat) (fin control : Bool) (k : Packet) : Dev :=
  if k.type = t && kFin k = fin && k.control = control then (d.takeDlv q 512 k).mtcRequest q k else d

/-! ## TRECV and SEND that start -/

/-- A TRECV starts (R289, R299, R302). -/
def Dev.startTrecv (d : Dev) (i : Nat) (o : Op) : Dev :=
  let q := o.die
  match d.unexpMatch q o.func o.desc with
  | none =>
    if !d.poolFree q o.func then (d.inc .MTC_NORES (onDie q)).finishOp i ST_NO_RESOURCE 0 0 0 false
    else ((d.setOp i { o with order := d.stamp q o.func }).setPosted q o.func (d.posted q o.func ++ [i])).stamped q o.func
  | some (mi, m) =>
    let d := (((d.inc .MTC_MATCH (onDie q)).event q blkMTC 0 0x01 0 1).setMsg mi { m with bound := i }).setOp i { o with msg := mi }
    if m.kind = 2 then d.startPull i mi { o with msg := mi } { m with bound := i }
    else if m.kind = 1 then d.msgCheck mi
    else
      let n := min m.len (dLen o.desc)
      match d.translateFrags q (d.opAccess o 1) (subFrags o.frags 0 n) with
      | (d, ⟨_, _, some (t, a)⟩) => d.opStop i { o with msg := mi } t a
      | (d, ⟨parts, _, none⟩) => (d.hostPut q o.func parts (m.data.take n)).trecvDone mi { m with bound := i } n false

/-- A TRECV whose buffer access trapped goes on: inline data, the copy, or the pull (R279). -/
def Dev.resumeTrecv (d : Dev) (i : Nat) (o : Op) : Dev :=
  match d.msg o.msg with
  | none => d
  | some m =>
    if m.kind = 2 then d.prep i
    else if m.kind = 1 then d.startCopy o.msg m
    else
      let n := min m.len (dLen o.desc)
      match d.translateFrags o.die (d.opAccess o 1) (subFrags o.frags 0 n) with
      | (d, ⟨_, _, some (t, a)⟩) => d.opStop i o t a
      | (d, ⟨parts, _, none⟩) => (d.hostPut o.die o.func parts (m.data.take n)).trecvDone o.msg m n false

/-- A free rendezvous region number of a function (R300). -/
def Dev.freeRndv (d : Dev) (q f : Nat) : Option Nat :=
  let b := d.get MTC_FNRNDV_BASE ⟨q, f⟩
  ((List.range (d.get MTC_FNRNDV_COUNT ⟨q, f⟩)).map (b + ·)).find? (fun n => (d.region q n).state = regFREE)

/-- A message starts: it takes its place among those of its connection; its MSN comes when its head leaves (R292). -/
def Dev.takeMsn (d : Dev) (i : Nat) (o : Op) : Dev :=
  match d.conn o.conn with
  | some x => (d.setConn o.conn { x with starts := x.starts + 1 }).setOp i { o with msn := x.starts, busy := false }
  | none => d

/-- A SEND starts: eager, or by a rendezvous region where one is free; else it waits (R296, R300). -/
def Dev.startSend (d : Dev) (i : Nat) (o : Op) : Dev :=
  if !d.byRendezvous o then (d.takeMsn i o).prep i
  else match d.freeRndv o.die o.func with
    | none => d.setOp i { o with busy := true }
    | some n =>
      let old := d.region o.die n
      let d := d.setRegion o.die n { Region.empty with
        base := dLaddr o.desc, len := dLen o.desc, xspace := o.xspace, owner := o.func, gen := (old.gen + 1) % 16384,
        state := regVALID, rights := 1, keyrights := o.keys }
      (d.takeMsn i { o with rndv := n + 1 }).prep i

/-- R300: a rendezvous region number of a function is free: the SEND that has waited longest takes it. -/
def Dev.rndvFree (d : Dev) (q f : Nat) : Dev :=
  match d.hst.ops.find? (fun e => e.2.die = q && e.2.func = f && d.sendWaits e.2) with
  | some (i, o) => d.startSend i o
  | none => d

/-- R305: PURGE. -/
def Dev.purge (d : Dev) (q f : Nat) : Dev :=
  let a : At := ⟨q, f⟩
  if d.wiping q f then d.put MTC_CMD_STATUS a ST_BAD_STATE
  else
    let l := (d.msgsOf q).filter (fun e => e.2.func = f && e.2.bound = 0 && e.2.kind ≠ 2)
    (d.each l (fun e d =>
      (((d.delMsg e.1).inc .MTC_PURGED (onDie q)).when (e.2.kind = 1) (fun d =>
        d.complete q kRQ e.2.rq e.2.rindex (dCookie e.2.rdesc.desc) 0 ST_FLUSHED e.2.src e.2.tag)))).put MTC_CMD_STATUS a ST_OK

end Sys2Proof.Machine
end

