-- ==== Sys2Proof/Machine/Reduce.lean ====
section
/-! DEFINITION. The arithmetic of collectives: element types, exact-partial blocks (R203 to R207), FP64 records (R208,
R209), fast mode and the other operators (R211, R212). Elements are bit patterns. -/

namespace Sys2Proof.Machine

/-! ## Element types (Table 8-8) -/

def etFP16 : Nat := 8
def etFP64 : Nat := 11

/-- Bytes of an element. -/
def esize (t : Nat) : Nat :=
  match t with
  | 0 => 1 | 1 => 2 | 2 => 4 | 3 => 8 | 4 => 1 | 5 => 2 | 6 => 4 | 7 => 8 | 8 => 2 | 9 => 2 | 10 => 4 | _ => 8

def isFloat (t : Nat) : Bool := 8 ≤ t
def isSigned (t : Nat) : Bool := t < 4

/-- Bits of the exponent and of the significand field of a floating-point type. -/
def fexp (t : Nat) : Nat := if t = 8 then 5 else if t = 11 then 11 else 8
def fman (t : Nat) : Nat := if t = 8 then 10 else if t = 9 then 7 else if t = 10 then 23 else 52
def fbias (t : Nat) : Nat := 2 ^ (fexp t - 1) - 1

def fSign (t x : Nat) : Bool := bits x (fexp t + fman t) 1 = 1
def fE (t x : Nat) : Nat := bits x (fman t) (fexp t)
def fM (t x : Nat) : Nat := bits x 0 (fman t)
def fSpecial (t x : Nat) : Bool := fE t x = 2 ^ fexp t - 1
def fNan (t x : Nat) : Bool := fSpecial t x && fM t x ≠ 0
/-- The integer significand. -/
def fSig (t x : Nat) : Nat := if fE t x = 0 then fM t x else 2 ^ fman t + fM t x
/-- The unit exponent (Table 8-12). -/
def fUnit (t x : Nat) : Int := (max (fE t x) 1 : Nat) - (fbias t + fman t : Nat)

/-- The canonical quiet NaN and the infinities (R206). -/
def fQnan (t : Nat) : Nat := (2 ^ (fexp t + 1) - 1) <<< (fman t - 1)
def fInf (t : Nat) (neg : Bool) : Nat := neg.toNat <<< (fexp t + fman t) ||| (2 ^ fexp t - 1) <<< fman t

/-- CLASS of an element (R204). -/
def fClass (t x : Nat) : Nat := if !fSpecial t x then 0 else if fNan t x then 3 else if fSign t x then 2 else 1

/-- The number of binary digits. -/
def bitLen (n : Nat) : Nat := if n = 0 then 0 else Nat.log2 n + 1

/-- Round a number to the nearest multiple of 2^s, ties to even, in units of 2^s. -/
def rne (a s : Nat) : Nat :=
  let q := a >>> s
  let r := a % 2 ^ s
  if s = 0 then a else if r * 2 > 2 ^ s || (r * 2 = 2 ^ s && q % 2 = 1) then q + 1 else q

/-- R206: k × 2^e rounded to a floating-point type, ties to even; an exact zero gives +0. -/
def fRound (t : Nat) (k : Int) (e : Int) : Nat :=
  if k = 0 then 0
  else
    let a := k.natAbs
    let sign := (decide (k < 0)).toNat <<< (fexp t + fman t)
    let low : Int := 1 - (fbias t + fman t : Nat)
    let u : Int := max ((bitLen a : Int) - 1 + e - fman t) low
    let q := if u ≤ e then a <<< (e - u).toNat else rne a (u - e).toNat
    let (q, u) := if q = 2 ^ (fman t + 1) then (2 ^ fman t, u + 1) else (q, u)
    if q < 2 ^ fman t then sign ||| q
    else
      let ee := (u + (fbias t + fman t : Nat)).toNat
      if ee ≥ 2 ^ fexp t - 1 then fInf t (k < 0) else sign ||| ee <<< fman t ||| (q - 2 ^ fman t)

/-- The exact value of a finite element: an integer at its unit exponent. -/
def fInt (t x : Nat) : Int := if fSign t x then -(fSig t x : Int) else fSig t x

/-- The value of an integer element. -/
def iVal (t x : Nat) : Int := if isSigned t then signed (8 * esize t) x else (x % 2 ^ (8 * esize t) : Nat)

/-! ## Exact-partial blocks -/

/-- k fits in w bits of two's complement. -/
def fits (w : Nat) (k : Int) : Bool := -((2 ^ (w - 1) : Nat) : Int) ≤ k && k < ((2 ^ (w - 1) : Nat) : Int)

/-- R204, R205: the least width that holds every element. -/
def leastWidth (l : List Int) : Nat := if l.all (fits 64) then 64 else if l.all (fits 128) then 128 else 320

/-- R204: a contributor's block of up to eight elements. -/
def toBlock (t : Nat) (l : List Nat) : Block :=
  if !isFloat t then
    let e := l.map (iVal t)
    ⟨0, leastWidth e, l.map (fun _ => 0), e⟩
  else
    let fin := l.filter (fun x => !fSpecial t x && fSig t x ≠ 0)
    let scale := match fin with
      | [] => 0
      | x :: r => r.foldl (fun m y => min m (fUnit t y)) (fUnit t x)
    let e := l.map (fun x => if fSpecial t x then 0 else fInt t x * ((2 ^ (fUnit t x - scale).toNat : Nat) : Int))
    ⟨scale, leastWidth e, l.map (fClass t), e⟩

/-- Split a list into groups of eight. -/
def eights {α : Type} : Nat → List α → List (List α)
  | 0, _ => []
  | n + 1, l => if l.isEmpty then [] else l.take 8 :: eights n (l.drop 8)

/-- R205: the sum of two blocks. -/
def Block.add (a b : Block) : Block :=
  let s := min a.scale b.scale
  let e := List.zipWith (fun x y => x * ((2 ^ (a.scale - s).toNat : Nat) : Int) + y * ((2 ^ (b.scale - s).toNat : Nat) : Int))
    a.elems b.elems
  ⟨s, leastWidth e, List.zipWith (· ||| ·) a.cls b.cls, e⟩

/-- The bytes of a block (Table 8-11); elements beyond COUNT are zero. -/
def Block.bytes (b : Block) : List Byte :=
  let code := if b.width = 64 then 0 else if b.width = 128 then 1 else 2
  let cls := (b.cls.zipIdx.map (fun p => p.1 <<< (2 * p.2))).sum
  toBytes 8 (unsigned 16 b.scale ||| code <<< 16 ||| (b.elems.length - 1) <<< 20 ||| cls <<< 32) ++
    ((b.elems ++ List.replicate (8 - b.elems.length) 0).map (fun k => toBytes (b.width / 8) (unsigned b.width k))).flatten

/-- Read blocks back from a payload. -/
def readBlocks : Nat → List Byte → List Block
  | 0, _ => []
  | n + 1, l =>
    if l.isEmpty then []
    else
      let h := ofBytes (l.take 8)
      let w := match bits h 16 2 with | 0 => 64 | 1 => 128 | _ => 320
      let c := bits h 20 3 + 1
      let e := (List.range c).map (fun i => signed w (ofBytes ((l.drop (8 + i * (w / 8))).take (w / 8))))
      ⟨signed 16 (bits h 0 16), w, (List.range c).map (fun i => bits h (32 + 2 * i) 2), e⟩ ::
        readBlocks n (l.drop (8 + w))

/-- R206, R207: an element of a complete sum, and whether an integer sum did not fit its type. -/
def sumElem (t : Nat) (scale : Int) (cls : Nat) (k : Int) : Nat × Bool :=
  if isFloat t then
    (if cls = 1 then fInf t false else if cls = 2 then fInf t true else if cls = 3 then fQnan t else fRound t k scale, false)
  else
    let n := 8 * esize t
    (unsigned n k, if isSigned t then !fits n k else k < 0 || k ≥ ((2 ^ n : Nat) : Int))

/-- The results of a block. -/
def Block.result (t : Nat) (b : Block) : List (Nat × Bool) :=
  List.zipWith (fun c k => sumElem t b.scale c k) b.cls b.elems

/-! ## FP64 in two phases (R208, R209) -/

/-- The exponent record of a group of up to eight elements. -/
def toExpo (l : List Nat) : Nat × Nat :=
  ((l.filter (fun x => !fSpecial etFP64 x)).foldl (fun m x => max m (fE etFP64 x)) 0,
   (l.zipIdx.map (fun p => fClass etFP64 p.1 <<< (2 * p.2))).sum)

/-- The bytes of a record, and a record back. -/
def expoBytes (r : Nat × Nat) : List Byte := toBytes 4 (r.1 % 2048 ||| (r.2 % 65536) <<< 16)
def readExpo : Nat → List Byte → List (Nat × Nat)
  | 0, _ => []
  | n + 1, l =>
    if l.isEmpty then []
    else (bits (ofBytes (l.take 4)) 0 11, bits (ofBytes (l.take 4)) 16 16) :: readExpo n (l.drop 4)

/-- Phase 1: the integer of an element under the record's M, truncated toward zero. -/
def fp64Int (m x : Nat) : Int :=
  if fSpecial etFP64 x then 0
  else
    let s : Int := (max (fE etFP64 x) 1 : Nat) - (max m 1 : Nat) + 139
    let a : Nat := if 0 ≤ s then fSig etFP64 x <<< s.toNat else fSig etFP64 x >>> (-s).toNat
    if fSign etFP64 x then -(a : Int) else a

/-- Phase 1: a contributor's block. -/
def toBlock64 (m : Nat) (l : List Nat) : Block :=
  ⟨(max m 1 : Nat) - 1214, 320, l.map (fClass etFP64), l.map (fp64Int m)⟩

/-! ## Native elements (R211, R212) -/

/-- IEEE 754 addition of two elements of a floating-point type, ties to even; any NaN gives the canonical NaN. -/
def fAdd (t x y : Nat) : Nat :=
  if fNan t x || fNan t y then fQnan t
  else if fSpecial t x && fSpecial t y then (if fSign t x = fSign t y then x else fQnan t)
  else if fSpecial t x then x
  else if fSpecial t y then y
  else if fSig t x = 0 && fSig t y = 0 && fSign t x && fSign t y then x
  else
    let u := min (fUnit t x) (fUnit t y)
    fRound t (fInt t x * ((2 ^ (fUnit t x - u).toNat : Nat) : Int) + fInt t y * ((2 ^ (fUnit t y - u).toNat : Nat) : Int)) u

/-- The order of elements: -0 below +0, infinities as numbers (R212). -/
def ordKey (t x : Nat) : Int :=
  if isFloat t then
    let mag : Int := (bits x 0 (fexp t + fman t) : Nat)
    if fSign t x then -mag - 1 else mag
  else iVal t x

/-- Combine two native elements under an operator (Table 8-6). -/
def combine (op t x y : Nat) : Nat :=
  let mask := 2 ^ (8 * esize t)
  if op = 0 then (if isFloat t then fAdd t x y else (x + y) % mask)
  else if op = 1 then
    (if isFloat t && (fNan t x || fNan t y) then fQnan t else if ordKey t y < ordKey t x then y else x)
  else if op = 2 then
    (if isFloat t && (fNan t x || fNan t y) then fQnan t else if ordKey t x < ordKey t y then y else x)
  else if op = 3 then x &&& y
  else if op = 4 then x ||| y
  else x ^^^ y

/-- Elements of a byte list. -/
def readElems (size : Nat) : Nat → List Byte → List Nat
  | 0, _ => []
  | n + 1, l => if l.isEmpty then [] else ofBytes (l.take size) :: readElems size n (l.drop size)

/-- The bytes of elements. -/
def elemBytes (size : Nat) (l : List Nat) : List Byte := (l.map (toBytes size)).flatten

/-! ## Chunks (R198, Table 8-7) -/

/-- MODE in force: fast applies to floating-point types only (R196). -/
def modeOf (t mode : Nat) : Nat := if isFloat t && mode = 1 then 1 else 0

/-- A SUM that is carried as exact-partial blocks or FP64 records. -/
def isExact (op t mode : Nat) : Bool := op = 0 && modeOf t mode = 0
/-- FP64 reproducible: two phases. -/
def twoPhase (op t mode : Nat) : Bool := isExact op t mode && t = etFP64

/-- Elements per chunk. -/
def perChunk (op t mode : Nat) : Nat :=
  if isExact op t mode then (if t = etFP16 then 448 else if isFloat t then 96 else 240) else 4096 / esize t

/-- Chunks of an operation of n elements. -/
def chunksOf (op t mode n : Nat) : Nat := (n + perChunk op t mode - 1) / perChunk op t mode

/-- R196: an operator and type combine. -/
def opAllowed (op t : Nat) : Bool := t < 12 && (if isFloat t then op ≤ 2 else op ≤ 5)

/-- A local member's contribution to a chunk, from its elements; `recs` are the FP64 records that came down. -/
def contribute (op t mode phase : Nat) (recs : List (Nat × Nat)) (l : List Nat) : Part :=
  let n := l.length / 8 + 1
  if !isExact op t mode then
    .native (if op = 0 || op = 1 || op = 2 then l.map (fun x => if isFloat t && fNan t x then fQnan t else x) else l)
  else if twoPhase op t mode then
    (if phase = 0 then .expo ((eights n l).map toExpo)
     else .blocks (List.zipWith (fun r g => toBlock64 r.1 g) recs (eights n l)))
  else .blocks ((eights n l).map (toBlock t))

/-- The contents of a RED_UP payload. -/
def readPart (op t mode phase : Nat) (b : List Byte) : Part :=
  if !isExact op t mode then .native (readElems (esize t) 4096 b)
  else if twoPhase op t mode && phase = 0 then .expo (readExpo 64 b)
  else .blocks (readBlocks 64 b)

/-- The payload of a partial. -/
def Part.bytes (t : Nat) : Part → List Byte
  | .none => []
  | .blocks l => (l.map Block.bytes).flatten
  | .expo l => (l.map expoBytes).flatten
  | .native l => elemBytes (esize t) l

/-- Combine two partials (R205, R208, R211, R212). -/
def Part.merge (op t : Nat) : Part → Part → Part
  | .none, b => b
  | .blocks a, .blocks b => .blocks (List.zipWith Block.add a b)
  | .expo a, .expo b => .expo (List.zipWith (fun x y => (max x.1 y.1, x.2 ||| y.2)) a b)
  | .native a, .native b => .native (List.zipWith (combine op t) a b)
  | a, _ => a

/-- The blocks of a partial carried at 320 bits (R205). -/
def Part.wide : Part → Nat
  | .blocks l => (l.filter (fun b => b.width = 320)).length
  | _ => 0

/-- What the root sends down for a partial: its bytes, and the elements whose integer sum did not fit. -/
def Part.result (t : Nat) : Part → List Byte × Nat
  | .blocks l =>
    let r := (l.map (Block.result t)).flatten
    (elemBytes (esize t) (r.map (·.1)), (r.filter (·.2)).length)
  | p => (p.bytes t, 0)

end Sys2Proof.Machine
end

