-- ==== Sys2Proof/Machine/Collect.lean ====
section
/-! DEFINITION. Collective operations (spec/08): operation records, chunk buffers and grants, contributions, stages, results,
members and their descriptors. A source is a child port (below 512) or local member m (512 + m; member 256 is module
firmware). -/

namespace Sys2Proof.Machine

/-! Packet types of the COL network (Table 4-5). -/
def tMCAST : Nat := 0x20
def tRED_UP : Nat := 0x21
def tRED_DOWN : Nat := 0x22
def tBARRIER : Nat := 0x23
def tCOL_GRANT : Nat := 0x24
def tEPOCH_COUNT : Nat := 0x25

/-! KIND (Table 8-5). -/
def kdMCAST : Nat := 0
def kdBCAST : Nat := 1
def kdREDUCE : Nat := 2
def kdALLREDUCE : Nat := 3
def kdBARRIER : Nat := 4

/-! ## Fields of COL packets (Tables 8-8 to 8-10) -/

def cSeq (k : Packet) : Nat := bits k.psn 0 16
def cKind (k : Packet) : Nat := bits k.psn 16 3
def cParams (k : Packet) : Nat × Nat × Nat × Nat := (cKind k, bits k.psn 19 3, bits k.psn 22 4, bits k.psn 26 2)
def cPhase (k : Packet) : Nat := bits k.psn 28 1
def cByte (k : Packet) (i : Nat) : Nat := ofBytes ((k.oper.drop i).take 1)
/-- CHUNK, or GFIRST of a COL_GRANT. -/
def cChunk (k : Packet) : Nat :=
  if (k.control && k.type = tMCAST) || k.type = tBARRIER || k.type = tEPOCH_COUNT then 0 else bits (ofBytes (k.oper.take 2)) 0 12
def cStatus (k : Packet) : Nat := if k.type = tBARRIER then cByte k 1 else cByte k 2
def cOvf (k : Packet) : Bool := !k.control && bits (cByte k 3) 0 1 = 1
def cNelem (k : Packet) : Nat := bits (ofBytes ((k.oper.drop 8).take 2)) 0 13
def cResult (k : Packet) : Nat := bits (ofBytes ((k.oper.drop 4).take 4)) 0 25
def cDir (k : Packet) : Nat := bits (cByte k 0) 0 1
def cFenced (k : Packet) : Bool := bits (cByte k 0) 1 1 = 1
def cStage (k : Packet) : Nat := if k.type = tBARRIER then bits (cByte k 0) 2 2 else 0

/-- Bytes 16-19 of a COL packet. -/
def colWord (seq : Nat) (p : Nat × Nat × Nat × Nat) (phase : Nat) : Nat :=
  seq % 65536 ||| (p.1 % 8) <<< 16 ||| (p.2.1 % 8) <<< 19 ||| (p.2.2.1 % 16) <<< 22 ||| (p.2.2.2 % 4) <<< 26 ||| (phase % 2) <<< 28

/-- OPHDR of a COL data packet (Table 8-9). -/
def colOphdr (chunk status : Nat) (ovf : Bool) (result nelem : Nat) : List Byte :=
  toBytes 2 chunk ++ toBytes 1 status ++ toBytes 1 ovf.toNat ++ toBytes 4 result ++ toBytes 2 nelem ++ List.replicate 6 0

/-! ## Sending and opening (R201, R221, R370) -/

/-- A COL packet of this module. -/
def Dev.colPacket (d : Dev) (q g type tc src members flags word : Nat) (control : Bool) (oper payload : List Byte) : Packet :=
  { type := type, tc := tc, epoch := 0, cmark := false, enc := d.gEnc q g, conn := false, dest := g, src := src,
    dconn := members, opflags := flags, psn := word, inc := 0, control := control, oper := oper, payload := payload, tag := 0 }

/-- The nonce of a group packet in plain (R370). -/
def Packet.colNonce (k : Packet) : Nat :=
  groupNonce (k.dest % 65536) (cSeq k) (cChunk k) (cPhase k) (cStage k) k.type k.src

/-- Inject a COL packet on die q, region r, sealed under the group key when the group has one. -/
def Dev.colInject (d : Dev) (q r : Nat) (k : Packet) (ports : List Nat) : Dev :=
  if k.enc then
    let s := d.gKeyslot q (k.dest % 65536)
    ((d.useKey q s).offerSealed q r false k ports (some (d.keyIn q s, k.colNonce))).retryInj q r
  else (d.offer q r false k ports).retryInj q r

/-- The packet still waits to enter the router on die q. -/
def Dev.stillOut (d : Dev) (q : Nat) (k : Packet) : Bool := d.rtr.inj.any (fun x => x.die = q && x.pkt = k)

/-- R221, R370: authenticate a group packet under the group key of die q: the packet in plain, whose CHUNK and STAGE are
those of a nonce that its tag passes. -/
def Dev.colOpen (d : Dev) (q g : Nat) (k : Packet) : Option Packet :=
  if !d.gEnc q g && !k.enc then some k
  else if d.gEnc q g ≠ k.enc || d.keyState q (d.gKeyslot q g) ≠ keyGROUP then none
  else
    let key := d.keyIn q (d.gKeyslot q g)
    let chunks := List.range (if k.type = tBARRIER || k.type = tEPOCH_COUNT then 1 else 4096)
    let stages := List.range (if k.type = tBARRIER then 4 else 1)
    (chunks.flatMap (fun c => stages.map (fun s => (c, s)))).findSome? (fun (cs : Nat × Nat) =>
      let n := groupNonce (k.dest % 65536) (cSeq k) cs.1 (cPhase k) cs.2 k.type k.src
      let o := k.opened key n
      if k.tagOk key n && cChunk o = cs.1 && cStage o = cs.2 then some o else none)

/-- The address that an engine of die e writes as SRC: endpoint index 0 of its host port. DEDUCED (log 91). -/
def Dev.engineSrc (d : Dev) (e : Nat) : Nat := d.nodeId * 256 + e * 64

/-! ## Records -/

def recKey (e g seq : Nat) : Nat := (e * 65536 + g) * 4 + seq % 4

def ChunkBuf.fresh (chunk phase : Nat) (ports locals : List Nat) : ChunkBuf := ⟨chunk, phase, none, .none, 0, ports, locals, none⟩
def ColStage.fresh : ColStage := ⟨false, 0, [], [], false, false, false⟩
def ColOp.fresh (seq tc : Nat) : ColOp :=
  { seq := seq, flags := 0, params := none, tc := tc, result := 0, total := none, bufs := [], next0 := 0, next1 := 0, exps := [],
    grants := [], down := [], minMembers := 2 ^ 20, fenced := false, epoch := none,
    stages := List.replicate 3 ColStage.fresh, begun := false, closed := false }

def Dev.crec (d : Dev) (e g seq : Nat) : Option ColOp := (Tab.find d.clv.recs (recKey e g seq)).filter (fun r => r.seq = seq)
def Dev.openCrec (d : Dev) (e g seq : Nat) : Option ColOp := (d.crec e g seq).filter (fun r => !r.closed)
def Dev.setCrec (d : Dev) (e g : Nat) (r : ColOp) : Dev :=
  { d with clv := { d.clv with recs := Tab.put d.clv.recs (recKey e g r.seq) r } }
def Dev.modCrec (d : Dev) (e g seq : Nat) (f : ColOp → ColOp) : Dev :=
  match d.openCrec e g seq with
  | some r => d.setCrec e g (f r)
  | none => d

def Dev.late (d : Dev) (e : Nat) : Dev := d.inc .CLV_LATE (onDie e)

/-- OPSEQ a comes after b. -/
def seqAfter (a b : Nat) : Bool := 0 < (a + 65536 - b) % 65536 && (a + 65536 - b) % 65536 < 32768

/-- R217: the root counts an operation that it completes short once, at its first short chunk. DEDUCED (log 117). -/
def Dev.countShort (d : Dev) (e g : Nat) (r : ColOp) (short : Bool) : Dev :=
  d.when (short && d.gTotal e g ≤ r.minMembers) (·.inc .CLV_INCOMPLETE (onDie e))

/-- R216: the child ports that a chunk or stage awaits now, and the local members. -/
def Dev.awaitPorts (d : Dev) (e g : Nat) : List Nat := (d.gDownPorts e g).filter (fun p => d.pexists p && !d.branchFenced e p)
def Dev.awaitLocals (d : Dev) (e g : Nat) : List Nat :=
  (d.gLocals e g ++ (if d.gFwmem e g then [256] else [])).filter (fun m => !d.memberFenced e m)
/-- A branch or local member of the group is fenced now. -/
def Dev.anyFenced (d : Dev) (e g : Nat) : Bool :=
  (d.gDownPorts e g).any (fun p => d.pexists p && d.branchFenced e p) ||
  (d.gLocals e g ++ (if d.gFwmem e g then [256] else [])).any (d.memberFenced e)

/-! ## Members -/

def Dev.memsOf (d : Dev) (e g seq : Nat) : List Mem :=
  d.clv.mems.filter (fun m => m.die = e && m.group = g && m.seq = seq && !m.held)
def Dev.delMem (d : Dev) (m : Mem) : Dev :=
  { d with clv := { d.clv with mems := d.clv.mems.filter (fun x => !(x.die = m.die && x.group = m.group && x.member = m.member && x.seq = m.seq)) } }
/-- Change the operation of a member. -/
def Dev.modMem (d : Dev) (m : Mem) (f : Mem → Mem) : Dev :=
  { d with clv := { d.clv with mems := d.clv.mems.map (fun x =>
      if x.die = m.die && x.group = m.group && x.member = m.member && x.seq = m.seq then f x else x) } }
/-- The operation of a member now. -/
def Dev.memNow (d : Dev) (m : Mem) : Option Mem :=
  d.clv.mems.find? (fun x => x.die = m.die && x.group = m.group && x.member = m.member && x.seq = m.seq)
def Dev.memOfOp (d : Dev) (i : Nat) : Option Mem := d.clv.mems.find? (fun x => x.op = i)

/-! Fields of a COLL descriptor (Table 9-4). -/
def coKind (desc : Nat) : Nat := bits (dRkey desc) 0 3
def coOp (desc : Nat) : Nat := bits (dRkey desc) 3 3
def coType (desc : Nat) : Nat := bits (dRkey desc) 6 4
def coMode (desc : Nat) : Nat := bits (dRkey desc) 10 2
def coGroup (desc : Nat) : Nat := bits (dTarget desc) 0 16
def coResult (desc : Nat) : Nat := bits (dOpa desc) 0 25
/-- KIND, OP, ETYPE and MODE in force. -/
def coParams (desc : Nat) : Nat × Nat × Nat × Nat :=
  (coKind desc, coOp desc, coType desc, if coKind desc = kdREDUCE || coKind desc = kdALLREDUCE then modeOf (coType desc) (coMode desc)
    else coMode desc)
/-- The bytes of the data. DEDUCED (log 91). -/
def coBytes (desc : Nat) : Nat := dLen desc * esize (coType desc)
/-- Chunks of a reduction, packets of an MCAST or BCAST. -/
def coChunks (desc : Nat) : Nat :=
  if coKind desc ≤ kdBCAST then (coBytes desc + 4095) / 4096
  else chunksOf (coOp desc) (coType desc) (coMode desc) (dLen desc)

/-- The fenced count that a completion reports (R217): TOTAL less the smallest MEMBERS. TOTAL stands in the root's entry alone
(Table 8-1): where this module's entry holds none, the group's TOTAL is open. DEDUCED (log 91). -/
def Dev.fencedCount (d : Dev) (e g members : Nat) (short : Bool) : Nat :=
  if !short then 0 else (if d.gTotal e g = 0 then d.freeVal % 2 ^ 20 else d.gTotal e g) - members

/-- Table 8-14: a member completes with a status and, where values were placed, its elements. -/
def Dev.memFinish (d : Dev) (m : Mem) (status bytes : Nat) : Dev :=
  let aux := d.fencedCount m.die m.group m.members (status ≠ ST_OK) % 2 ^ 20 ||| m.ovf.toNat <<< 20
  ((d.delMem m).when (status ≠ ST_OK && d.gTotal m.die m.group = 0) (·.freed)).finishOp m.op status bytes aux 0 false

/-- Every local member of an operation completes with a status. -/
def Dev.membersEnd (d : Dev) (e g seq status : Nat) : Dev := d.each (d.memsOf e g seq) (fun m d => d.memFinish m status 0)

/-- R153: grants of the operation are neither consumed nor returned. -/
def ColOp.tokensOut (r : ColOp) : Bool := r.bufs.any (fun b => b.ports ≠ [])

/-- R153, R218 to R220: an operation closes on a die: tokens still outstanding raise TOKEN, or are returned unused. -/
def Dev.closeOp (d : Dev) (e g : Nat) (r : ColOp) (token : Bool) : Dev :=
  let d := d.setCrec e g { r with closed := true, bufs := [], grants := [], epoch := none }
  d.when (token && r.tokensOut) (·.raise srcCONSERVE 6 (locUnit e 4 (g % 4)) r.seq)

/-- R153: a record that a later operation takes closes first; with tokens outstanding its members complete with no value.
DEDUCED (log 92). -/
def Dev.overtaken (d : Dev) (e g : Nat) (r : ColOp) : Dev :=
  if r.closed then d
  else if r.tokensOut then (d.closeOp e g r true).membersEnd e g r.seq ST_INCOMPLETE
  else d.closeOp e g r true

/-- The record for an operation, opened when its slot is free or holds an earlier operation, which is then over; false when
the operation is over itself. DEDUCED (log 117). -/
def Dev.openOp (d : Dev) (e g seq tc : Nat) : Dev × Bool :=
  if !d.bit CLV_CTRL_EN (onDie e) || !d.backed e g || !d.gColl e g || d.gEngdie e g ≠ e then (d, false)
  else match Tab.find d.clv.recs (recKey e g seq) with
    | none => (d.setCrec e g (ColOp.fresh seq tc), true)
    | some r =>
      if r.seq = seq then (d, !r.closed)
      else if seqAfter seq r.seq then ((d.overtaken e g r).setCrec e g (ColOp.fresh seq tc), true)
      else (d, false)

/-- R197: contributions differ: the operation closes ST_BAD_PARAM with no value. -/
def Dev.mismatch (d : Dev) (e g : Nat) (r : ColOp) : Dev :=
  (((d.inc .CLV_MISMATCH (onDie e)).closeOp e g r true).membersEnd e g r.seq ST_BAD_PARAM)

/-- The record agrees with the parameters of a contribution. -/
def ColOp.agrees (r : ColOp) (p : Nat × Nat × Nat × Nat) : Bool := match r.params with | some x => x = p | none => true

def ColOp.op (r : ColOp) : Nat := (r.params.getD (0, 0, 0, 0)).2.1
def ColOp.et (r : ColOp) : Nat := (r.params.getD (0, 0, 0, 0)).2.2.1
def ColOp.mode (r : ColOp) : Nat := (r.params.getD (0, 0, 0, 0)).2.2.2
/-- The last phase of the operation's chunks. -/
def ColOp.lastPhase (r : ColOp) : Nat := if twoPhase r.op r.et r.mode then 1 else 0

def ColOp.buf (r : ColOp) (chunk phase : Nat) : Option ChunkBuf := r.bufs.find? (fun b => b.chunk = chunk && b.phase = phase)
def ColOp.setBuf (r : ColOp) (b : ChunkBuf) : ColOp :=
  { r with bufs := r.bufs.map (fun x => if x.chunk = b.chunk && x.phase = b.phase then b else x) }
def ColOp.delBuf (r : ColOp) (chunk phase : Nat) : ColOp :=
  { r with bufs := r.bufs.filter (fun x => !(x.chunk = chunk && x.phase = phase)) }
/-- Every chunk has come down. -/
def ColOp.allDown (r : ColOp) : Bool :=
  match r.total with
  | some n => n ≤ (r.down.filter (fun x => x.2 = r.lastPhase)).length
  | none => false

/-! ## Results of chunks (R202, R206, R207, R217) -/

/-- A partial, or a result, leaves the engine; its buffer is freed when the packet has entered the router (R202). -/
def Dev.bufSend (d : Dev) (e g : Nat) (r : ColOp) (b : ChunkBuf) (k : Packet) : Dev :=
  let d := (d.setCrec e g (r.setBuf { b with sent := some k })).colInject e (g % 4) k []
  d.when (!d.stillOut e k) (fun d => d.modCrec e g r.seq (·.delBuf b.chunk b.phase))

/-- A non-root module sends its partial up, consuming the parent's grant. -/
def Dev.partialUp (d : Dev) (e g : Nat) (r : ColOp) (b : ChunkBuf) : Dev :=
  let k := d.colPacket e g tRED_UP r.tc (d.engineSrc e) b.members 0 (colWord r.seq (r.params.getD (0, 0, 0, 0)) b.phase) false
    (colOphdr b.chunk ST_OK false r.result (b.nelem.getD 0)) (b.part.bytes r.et)
  ((d.incBy .CLV_WIDE (onDie e) b.part.wide).event e blkCLV 0 0x03 0 b.part.wide).bufSend e g { r with grants := dropFirst (b.chunk, b.phase) r.grants } b k

/-- The root converts a complete chunk and sends it down; a short one carries no value (R217). -/
def Dev.chunkDown (d : Dev) (e g : Nat) (r : ColOp) (b : ChunkBuf) : Dev :=
  let short := b.members < d.gTotal e g
  let res := if b.phase < r.lastPhase then (b.part.bytes r.et, 0) else b.part.result r.et
  let word := colWord r.seq (r.params.getD (0, 0, 0, 0)) b.phase
  let k := if short then
      d.colPacket e g tRED_DOWN r.tc (d.engineSrc e) b.members 0 word true (toBytes 2 b.chunk ++ toBytes 1 ST_INCOMPLETE) []
    else
      d.colPacket e g tRED_DOWN r.tc (d.engineSrc e) b.members 0 word false
        (colOphdr b.chunk ST_OK (res.2 ≠ 0) r.result (b.nelem.getD 0)) res.1
  let d := d.countShort e g r short
  let r := { r with minMembers := min r.minMembers b.members }
  let last := b.phase = r.lastPhase
  let d := (d.when last (fun d => (d.inc .CLV_CHUNKS (onDie e)).event e blkCLV 0 0x02 0 1)).incBy .CLV_OVF (onDie e) (if short then 0 else res.2)
  d.bufSend e g r b k

/-- A chunk with nothing left to await goes on: at the root down, elsewhere up as soon as the parent's grant is held.
DEDUCED (log 92). -/
def Dev.chunkCheck (d : Dev) (e g seq chunk phase : Nat) : Dev :=
  match d.openCrec e g seq with
  | none => d
  | some r =>
    match r.buf chunk phase with
    | none => d
    | some b =>
      if b.ports ≠ [] || b.locals ≠ [] || b.sent.isSome then d
      else if d.gRoot e g then d.chunkDown e g r b
      else if r.grants.contains (chunk, phase) then d.partialUp e g r b
      else d

/-! ## Contributions (R201, R202) -/

/-- The bytes of a contribution: a child's partial as it is carried, a local member's elements (Table 18-1, CONTRIB_BYTES).
DEDUCED (log 127). -/
def contribBytes (src et nelem : Nat) (part : Part) : Nat := if src < 512 then (part.bytes et).length else nelem * esize et

/-- A contribution to a chunk from a source: combined into its buffer, or late (R220; R223 while the engines are off), or it closes
the operation (R197). -/
def Dev.contributes (d : Dev) (e g seq src : Nat) (p : Nat × Nat × Nat × Nat) (chunk phase nelem members : Nat) (part : Part) :
    Dev :=
  match (d.openCrec e g seq).filter (fun _ => d.bit CLV_CTRL_EN (onDie e)) with
  | none => d.late e
  | some r =>
    match (r.buf chunk phase).filter (fun b => if src < 512 then b.ports.contains src else b.locals.contains (src - 512)) with
    | none => d.late e
    | some b =>
      if !r.agrees p || (members ≠ 0 && b.nelem.isSome && b.nelem ≠ some nelem) then d.mismatch e g r
      else
        let r := { r with params := some p, begun := true,
                          total := if r.total.isNone && nelem < perChunk p.2.1 p.2.2.1 p.2.2.2 then some (chunk + 1) else r.total }
        let b := { b with ports := b.ports.filter (· ≠ src), locals := b.locals.filter (fun m => m + 512 ≠ src),
                          members := b.members + members, nelem := if members = 0 then b.nelem else some nelem,
                          part := if members = 0 then b.part else b.part.merge p.2.1 p.2.2.1 part }
        ((d.setCrec e g (r.setBuf b)).event e blkCLV 0 0x01 0 (if members = 0 then 0 else contribBytes src p.2.2.1 nelem part)).chunkCheck
          e g seq chunk phase

/-- The part of a local member's buffer for a chunk: its offset and elements. -/
def coPart (desc chunk : Nat) : Nat × Nat :=
  let per := perChunk (coOp desc) (coType desc) (coMode desc)
  (chunk * per * esize (coType desc), min per (dLen desc - chunk * per))

/-- A member's access failed for good: its descriptor completes with a status (Table 12-4). -/
def Dev.memFail (d : Dev) (m : Mem) (status : Nat) : Dev := d.memFinish m status 0

/-- A translation for a member's descriptor stopped. -/
def Dev.memStop (d : Dev) (m : Mem) (t : Tr) (a : XAcc) (c : Cont) : Dev :=
  match t, d.op m.op with
  | .trap cause, some o => d.trapInit o.die a cause c
  | .notPermitted, _ => d.memFail m ST_NOT_PERMITTED
  | _, _ => d.memFail m ST_WALK_ERROR

/-- R201: read the elements that a local member contributes to an assigned chunk, unless a read for them is under way. -/
def Dev.feed (d : Dev) (m : Mem) (b : ChunkBuf) : Dev :=
  let use : RdFor := .contrib m.die m.group m.seq b.chunk b.phase m.member
  match d.op m.op with
  | none => d
  | some o =>
    if m.held || !b.locals.contains m.member || d.hst.reads.any (fun x => x.2.use = use) then d
    else
      let p := coPart o.desc b.chunk
      match d.translateFrags o.die (d.opAccess o 0) (subFrags o.frags p.1 (p.2 * esize (coType o.desc))) with
      | (d, ⟨_, _, some (t, a)⟩) => d.memStop m t a (.op m.op)
      | (d, ⟨parts, ents, none⟩) => d.hostGet o.die o.func parts ents use

/-- Feed every assigned chunk of a member's operation. -/
def Dev.feedAll (d : Dev) (m : Mem) : Dev :=
  match d.openCrec m.die m.group m.seq with
  | some r => d.each r.bufs (fun b d => d.feed m b)
  | none => d

/-- The elements of a local contribution have been read. -/
def Dev.contribDone (d : Dev) (e g seq chunk phase member : Nat) (ok : Bool) (data : List Byte) : Dev :=
  match d.clv.mems.find? (fun m => m.die = e && m.group = g && m.seq = seq && m.member = member) with
  | none => d.late e
  | some m =>
    match d.op m.op with
    | none => d
    | some o =>
      if !ok then (d.inc .HST_RDERR (onDie o.die)).memFail m ST_HOST_ERROR
      else
        let p := coParams o.desc
        let recs := match d.openCrec e g seq with
          | some r => ((r.exps.find? (fun x => x.1 = chunk)).map (·.2)).getD []
          | none => []
        let l := readElems (esize p.2.2.1) 4096 data
        d.contributes e g seq (512 + member) p chunk phase l.length 1 (contribute p.2.1 p.2.2.1 p.2.2.2 phase recs l)

/-! ## Stages (Table 8-5, R216) -/

def ColOp.stage (r : ColOp) (s : Nat) : ColStage := r.stages.getD s ColStage.fresh
def ColOp.setStage (r : ColOp) (s : Nat) (x : ColStage) : ColOp := { r with stages := r.stages.set s x }

/-- A BARRIER packet of this engine. -/
def Dev.barrierPacket (d : Dev) (e g : Nat) (r : ColOp) (s members : Nat) (down fenced : Bool) (status : Nat) : Packet :=
  d.colPacket e g tBARRIER r.tc (d.engineSrc e) members 0 (colWord r.seq (r.params.getD (0, 0, 0, 0)) 0) true
    (toBytes 1 (down.toNat ||| fenced.toNat <<< 1 ||| s <<< 2) ++ (if down then toBytes 1 status else [])) []

/-- Table 8-14: the status of a stage at the root. -/
def stageStatus (members total : Nat) (fenced : Bool) : Nat :=
  if total ≤ members then ST_OK else if fenced then ST_PARTIAL else ST_INCOMPLETE

/-- A stage with nothing left to await goes up, or down from the root (R195). DEDUCED (log 92). -/
def Dev.stageCheck (d : Dev) (e g seq s : Nat) : Dev :=
  match d.openCrec e g seq with
  | none => d
  | some r =>
    let x := r.stage s
    if !x.opened || x.up || x.ports ≠ [] || x.locals ≠ [] then d
    else
      let r := r.setStage s { x with up := true }
      if d.gRoot e g then
        let st := stageStatus x.members (d.gTotal e g) (x.fenced || r.fenced)
        let r := { r with minMembers := min r.minMembers x.members }
        let final := s ≠ 1 || st = ST_INCOMPLETE
        let d := (d.when (final && st = ST_PARTIAL) (·.inc .CLV_PARTIAL (onDie e))).when (final && st = ST_INCOMPLETE)
          (·.inc .CLV_INCOMPLETE (onDie e))
        (d.setCrec e g { r with fenced := r.fenced || x.fenced }).colInject e (g % 4)
          (d.barrierPacket e g r s r.minMembers true x.fenced st) []
      else (d.setCrec e g r).colInject e (g % 4) (d.barrierPacket e g r s x.members false x.fenced 0) []

/-- A source reaches a stage (R216: a stage samples what it awaits when it opens). -/
def Dev.stageArrive (d : Dev) (e g seq src tc : Nat) (p : Nat × Nat × Nat × Nat) (s members : Nat) (fenced : Bool) : Dev :=
  match d.openOp e g seq tc with
  | (d, false) => d.late e
  | (d, true) =>
    match d.openCrec e g seq with
    | none => d
    | some r =>
      if !r.agrees p then d.mismatch e g r
      else
        let x := r.stage s
        let x := if x.opened then x
          else { x with opened := true, ports := d.awaitPorts e g, locals := d.awaitLocals e g, fenced := d.anyFenced e g }
        if !(if src < 512 then x.ports.contains src else x.locals.contains (src - 512)) then
          (d.setCrec e g (r.setStage s x)).late e
        else
          let x := { x with ports := x.ports.filter (· ≠ src), locals := x.locals.filter (fun m => m + 512 ≠ src),
                            members := x.members + members, fenced := x.fenced || fenced }
          (d.setCrec e g ({ r with params := some p, begun := true }.setStage s x)).stageCheck e g seq s

/-! ## MCAST and BCAST sources (R199) -/

/-- The source reads the data of its next packet. -/
def Dev.castNext (d : Dev) (m : Mem) : Dev :=
  match d.op m.op with
  | none => d
  | some o =>
    let len := coBytes o.desc
    let n := min 4096 (len - 4096 * m.next)
    if n = 0 then
      { d with hst := { d.hst with reads := Tab.put d.hst.reads d.hst.nextTag ⟨o.die, 0, .cast m.op, []⟩,
                                   nextTag := d.hst.nextTag + 1 } }
    else match d.translateFrags o.die (d.opAccess o 0) (subFrags o.frags (4096 * m.next) n) with
      | (d, ⟨_, _, some (t, a)⟩) => d.memStop m t a (.op m.op)
      | (d, ⟨parts, ents, none⟩) => d.hostGet o.die o.func parts ents (.cast m.op)

/-- The operation of a member ends; the operation that waited for it starts (R197): see `memStart`. -/
def Dev.castEnd (d : Dev) (m : Mem) : Dev :=
  match d.op m.op with
  | some o => if coKind o.desc = kdMCAST then d.memFinish m ST_OK (dLen o.desc) else d
  | none => d

/-- The data of a packet has been read: it is injected; after the last one an MCAST completes once that packet has entered
the router. -/
def Dev.castDone (d : Dev) (i : Nat) (ok : Bool) (data : List Byte) : Dev :=
  match d.memOfOp i, d.op i with
  | some m, some o =>
    if !ok then (d.inc .HST_RDERR (onDie o.die)).memFail m ST_HOST_ERROR
    else
      let g := coGroup o.desc
      let control := coKind o.desc = kdMCAST && coBytes o.desc ≤ 24
      let k := d.colPacket o.die g tMCAST (dTc o.desc) (d.epOf o.die o.func) 0 0 (colWord m.seq (coParams o.desc) 0) control
        (if control then data else colOphdr m.next ST_OK false 0 0) (if control then [] else data)
      let m2 := { m with next := m.next + 1 }
      let d := (d.modMem m (fun _ => m2)).colInject o.die (d.engine o.die o.qn) k []
      if 4096 * m2.next < coBytes o.desc then d.castNext m2
      else if d.stillOut o.die k then d.modMem m2 (fun x => { x with last := some k })
      else d.castEnd m2
  | _, _ => d

/-! ## Members start and end -/

/-- R357: an encrypted group whose slot on a die holds no group key: its descriptors complete ST_NOT_PERMITTED.
DEDUCED (log 91). -/
def Dev.groupKeyless (d : Dev) (q g : Nat) : Bool := d.gEnc q g && d.keyState q (d.gKeyslot q g) ≠ keyGROUP


/-- The operation of a local member begins: its record, its stage, its contributions or its packets; while the engines are off it
completes ST_BAD_STATE (R223). -/
def Dev.memBegin (d : Dev) (m : Mem) : Dev :=
  match d.op m.op with
  | none => d
  | some o =>
    let p := coParams o.desc
    let d := d.modMem m (fun x => { x with held := false })
    let m := { m with held := false }
    if !d.bit CLV_CTRL_EN (onDie m.die) then d.memFinish m ST_BAD_STATE 0
    else if d.groupKeyless o.die m.group then d.memFinish m ST_NOT_PERMITTED 0
    else if p.1 = kdMCAST then d.castNext m
    else if p.1 = kdBCAST then d.stageArrive m.die m.group m.seq (512 + m.member) (dTc o.desc) p 1 1 false
    else if p.1 = kdBARRIER then d.stageArrive m.die m.group m.seq (512 + m.member) (dTc o.desc) p 0 1 false
    else if dLen o.desc = 0 then d.memFinish m ST_OK 0
    else match d.openOp m.die m.group m.seq (dTc o.desc) with
      | (d, false) => d.memFinish m ST_INCOMPLETE 0
      | (d, true) =>
        match d.openCrec m.die m.group m.seq with
        | none => d
        | some r =>
          if !r.agrees p || (r.total.isSome && r.total ≠ some (coChunks o.desc)) then d.mismatch m.die m.group r
          else (d.setCrec m.die m.group { r with params := some p, tc := dTc o.desc, total := some (coChunks o.desc),
                                                 result := if p.1 = kdREDUCE then coResult o.desc else 0 }).feedAll m

/-- R197: start the operations of members that waited for an earlier one that is over. -/
def Dev.startHeld (d : Dev) : Dev :=
  d.each (d.clv.mems.filter (fun m => m.held && !d.clv.mems.any (fun x =>
    x.die = m.die && x.group = m.group && x.member = m.member && (x.seq + 4) % 65536 = m.seq))) (fun m d => d.memBegin m)

/-- R202, R240: what waited for a packet to enter the router: buffers are freed, an MCAST completes. -/
def Dev.colSettle (d : Dev) : Dev :=
  let d := { d with clv := { d.clv with recs := d.clv.recs.map (fun (e : Nat × ColOp) =>
      (e.1, { e.2 with bufs := e.2.bufs.filter (fun b => match b.sent with
        | some k => d.stillOut (e.1 / 4 / 65536) k
        | none => true) })) } }
  let d := d.each (d.clv.mems.filter (fun m => match m.last, d.op m.op with
      | some k, some o => !d.stillOut o.die k
      | _, _ => false)) (fun m d => (d.modMem m (fun x => { x with last := none })).castEnd m)
  d.startHeld

/-- A COLL descriptor starts (R195 to R197, R215, R223, R357, R365). What a member that is not named in its group gets is open.
DEDUCED (log 91). -/
def Dev.colStart (d : Dev) (i : Nat) (o : Op) : Dev :=
  let q := o.die
  let g := coGroup o.desc
  let e := d.gEngdie q g
  let ep := d.epOf q o.func
  let idx := ep % 256
  let key := (e * 65536 + g) * 512 + idx
  let n := Tab.get d.clv.seqs 0 key
  if !d.bit CLV_CTRL_EN (onDie e) then d.finishOp i ST_BAD_STATE 0 0 0 false
  else if d.memberFenced q idx then d.finishOp i ST_NOT_PERMITTED 0 0 0 false
  else if coKind o.desc ≠ kdMCAST && (!d.backed e g || !d.gColl e g || !d.gLocal q g idx) then
    d.freed.finishOp i (d.freeVal % 256) 0 0 0 false
  else if (d.gEnc q g && n ≥ 65536) || d.groupKeyless q g then d.finishOp i ST_NOT_PERMITTED 0 0 0 false
  else
    let m : Mem := ⟨e, g, idx, n % 65536, i, true, [], false, 2 ^ 20, 0, none⟩
    { d with clv := { d.clv with seqs := Tab.set d.clv.seqs 0 key (n + 1), mems := d.clv.mems ++ [m] } }.startHeld

/-- R238, R196, R198, R199: a COLL descriptor that fails its checks. DEDUCED (log 91). -/
def Dev.colBad (d : Dev) (q desc : Nat) : Bool :=
  let k := coKind desc
  let e := d.gEngdie q (coGroup desc)
  5 ≤ k || 2 ≤ coMode desc || 12 ≤ coType desc ||
  ((k = kdREDUCE || k = kdALLREDUCE) && (!opAllowed (coOp desc) (coType desc) ||
    (coMode desc = 1 && !d.bit CLV_CTRL_FAST_EN (onDie e)) || 4096 < coChunks desc)) ||
  (k ≤ kdBCAST && 16777216 < coBytes desc)

/-! ## Results at members -/

/-- A chunk of a reduction's result for a member: placed where KIND asks for it; the last chunk completes it. -/
def Dev.memDown (d : Dev) (m : Mem) (k : Packet) : Dev :=
  match d.op m.op, d.memNow m with
  | some o, some m =>
    let p := coParams o.desc
    let places := p.1 = kdALLREDUCE || (p.1 = kdREDUCE && coResult o.desc = d.epOf o.die o.func)
    let finish (d : Dev) (m : Mem) : Dev :=
      let m := { m with chunks := cChunk k :: m.chunks, ovf := m.ovf || cOvf k, members := min m.members k.dconn }
      let d := d.modMem m (fun _ => m)
      if coChunks o.desc ≤ m.chunks.length then d.memFinish m (cStatus k) (if places then dLen o.desc else 0) else d
    if m.chunks.contains (cChunk k) then d
    else if !places then finish d m
    else
      let part := coPart o.desc (cChunk k)
      match d.translateRange o.die { d.opAccess o 1 with addr := dRaddr o.desc + part.1, len := part.2 * esize p.2.2.1 } 3 with
      | (d, ⟨_, _, some (t, a)⟩) => d.memStop m t a (.member o.die m.member k)
      | (d, ⟨parts, _, none⟩) => finish (d.hostPut o.die o.func parts k.payload) m
  | _, _ => d

/-- A packet that goes down reaches an engine that has closed its operation: late (R220), unless the engine sent it itself, which it
does at the root alone. -/
def Dev.lateDown (d : Dev) (e g : Nat) : Dev := if d.gRoot e g then d else d.late e

/-- MEMBERS of a packet that goes down, at the local members of its operation (R217). -/
def Dev.tellMembers (d : Dev) (e g seq members : Nat) : Dev :=
  d.each (d.memsOf e g seq) (fun m d => d.modMem m (fun x => { x with members := min x.members members }))

/-- A RED_DOWN at the engine: the record, the local members (R191, R208, R217, R218). DEDUCED (log 91, 121). -/
def Dev.redDown (d : Dev) (e g : Nat) (k : Packet) : Dev :=
  let seq := cSeq k
  match d.openCrec e g seq with
  | none => d.lateDown e g
  | some r =>
    let at_ := (cChunk k, cPhase k)
    if r.down.contains at_ then d.late e
    else if k.control then
      ((d.tellMembers e g seq k.dconn).closeOp e g r true).membersEnd e g seq (if r.tokensOut then ST_INCOMPLETE else cStatus k)
    else
      let r := { r with down := r.down ++ [at_], minMembers := min r.minMembers k.dconn,
                        params := if r.params.isNone then some (cParams k) else r.params }
      if cPhase k < r.lastPhase then
        d.setCrec e g { r with exps := r.exps ++ [(cChunk k, readExpo 64 k.payload)] }
      else
        let r := { r with exps := r.exps.filter (fun x => x.1 ≠ cChunk k),
                          total := if r.total.isNone && cNelem k < perChunk r.op r.et r.mode then some (cChunk k + 1) else r.total }
        if r.allDown && r.tokensOut then ((d.tellMembers e g seq k.dconn).closeOp e g r true).membersEnd e g seq ST_INCOMPLETE
        else
        let d := d.setCrec e g r
        let d := d.each (d.memsOf e g seq) (fun m d => d.memDown m k)
        if r.allDown then
          (match d.openCrec e g seq with
           | some r => d.closeOp e g r true
           | none => d)
        else d

/-- A BARRIER down at the engine: the stage is released (Table 8-5). DEDUCED (log 121). -/
def Dev.barrierRelease (d : Dev) (e g : Nat) (k : Packet) : Dev :=
  let seq := cSeq k
  let s := cStage k
  match d.openCrec e g seq with
  | none => d.lateDown e g
  | some r =>
    if (r.stage s).down then d.late e
    else
      let d := (d.setCrec e g (r.setStage s { r.stage s with down := true })).tellMembers e g seq k.dconn
      if s = 1 && cStatus k ≠ ST_INCOMPLETE then
        d.each (d.memsOf e g seq) (fun m d => match d.op m.op with
          | some o =>
            if coBytes o.desc = 0 then d.stageArrive e g seq (512 + m.member) (dTc o.desc) (coParams o.desc) 2 1 false
            else if coResult o.desc = d.epOf o.die o.func then d.castNext m
            else d
          | none => d)
      else
        let d := match d.openCrec e g seq with
          | some r => d.closeOp e g r true
          | none => d
        if r.tokensOut then d.membersEnd e g seq ST_INCOMPLETE
        else d.each (d.memsOf e g seq) (fun m d =>
          d.memFinish m (cStatus k) (match d.op m.op with
            | some o => if s = 2 && cStatus k ≠ ST_INCOMPLETE then dLen o.desc else 0
            | none => 0))

/-! ## MCAST at members (R194, R195) -/

/-- KIND 1: a packet of BCAST data for a member. -/
def Dev.bcastPlace (d : Dev) (q member : Nat) (k : Packet) : Dev :=
  let g := k.dest % 65536
  let e := d.gEngdie q g
  match (d.memsOf e g (cSeq k)).find? (fun m => m.member = member) with
  | none => d.late e
  | some m =>
    match d.op m.op with
    | none => d
    | some o =>
      let n := min k.payload.length (coBytes o.desc - 4096 * cChunk k)
      if m.chunks.contains (cChunk k) || coKind o.desc ≠ kdBCAST then d.late e
      else match d.translateRange q { d.opAccess o 1 with addr := dRaddr o.desc + 4096 * cChunk k, len := n } 3 with
        | (d, ⟨_, _, some (t, a)⟩) => d.memStop m t a (.member q member k)
        | (d, ⟨parts, _, none⟩) =>
          let m := { m with chunks := cChunk k :: m.chunks }
          let d := (d.hostPut q o.func parts k.payload).modMem m (fun _ => m)
          if coChunks o.desc ≤ m.chunks.length then
            d.stageArrive e g m.seq (512 + member) (dTc o.desc) (coParams o.desc) 2 1 false
          else d

/-- KIND 0: a copy for endpoint index `member % 64` of a die is placed in its receive queue, or counted (R194, R251). -/
def Dev.mcastPlace (d : Dev) (q member : Nat) (k : Packet) : Dev :=
  let b : At := ⟨q, member % 64⟩
  let f := d.boundFunc q (member % 64)
  let none_ (d : Dev) : Dev := d.inc .MCG_NOSPACE (onDie q)
  if !d.bit HST_BIND_VALID b || !d.bit HST_BIND_MC_EN b then none_ d
  else match d.localQueue q f kRQ (d.get HST_BIND_MC_RQ b) with
    | none => none_ d
    | some (n, x) =>
      match d.rqGet q x with
      | .none => none_ d
      | .refused => none_ (d.cqRefuse q x)
      | .wait => d.setQueue q kRQ n { x with waiting := x.waiting ++ [{ k with inc := member }] }
      | .got i r =>
        let data := if k.control then k.oper else k.payload
        let len := min data.length (dLen r.desc)
        match d.translateFrags q (d.rqAccess q n 1 0) (subFrags r.frags 0 len) with
        | (d, ⟨_, _, some (.trap cause, a)⟩) =>
          (match d.freeSlot q with
           | some s => d.takeSlot q s a cause (.member q member k)
           | none => none_ (d.inc .XLT_TRAPFULL (onDie q)))
        | (d, ⟨_, _, some _⟩) => none_ d
        | (d, ⟨parts, _, none⟩) =>
          ((d.consumeRq q n x).hostPut q f parts (data.take len)).complete q kRQ n i (dCookie r.desc) len
            (if data.length > dLen r.desc then ST_TRUNCATED else ST_OK) k.src 0

/-- A copy delivered to a member that has been authenticated. -/
def Dev.memberIn (d : Dev) (q member : Nat) (k : Packet) : Dev :=
  if k.type = tRED_DOWN then
    (match (d.memsOf (d.gEngdie q (k.dest % 65536)) (k.dest % 65536) (cSeq k)).find? (fun m => m.member = member) with
     | some m => d.memDown m k
     | none => d)
  else if member ≥ 256 then d
  else if cKind k = kdBCAST then d.bcastPlace q member k
  else d.mcastPlace q member k

/-- R193: the oldest delivered packet for a member of the type, group and traffic class of a packet; the packet itself where none
waits. DESIGN CHOICE (log 50). -/
def Dev.oldestFor (d : Dev) (q member : Nat) (k : Packet) : Packet :=
  match d.rtr.dlv.find? (fun x => x.die = q && x.member = member && x.pkt.type = k.type && x.pkt.dest = k.dest && x.pkt.tc = k.tc) with
  | some x => x.pkt
  | none => k

/-- An MCAST copy for a member reaches its die: those of one group and class in the order of their delivery (R193).
DEDUCED (log 85). -/
def Dev.mcastIn (d : Dev) (q member : Nat) (k : Packet) : Dev :=
  if k.type ≠ tMCAST then d
  else
    let k := d.oldestFor q member k
    let d := d.takeDlv q member k
    match d.colOpen q (k.dest % 65536) k with
    | some o => (if o.enc then d.useKey q (d.gKeyslot q (k.dest % 65536)) else d).memberIn q member o
    | none => d.inc .RMX_DROPAUTH (onDie q)

/-! ## Packets at the engine -/

/-- R221: a packet that fails authentication at an engine; one that goes down fails at the endpoints of its local members too. -/
def Dev.engineAuth (d : Dev) (e g : Nat) (down : Bool) : Dev :=
  (d.inc .CLV_DROPAUTH (onDie e)).when down (fun d =>
    d.each ((d.gLocals e g).filter (fun m => !d.memberFenced e m)) (fun m d => d.inc .RMX_DROPAUTH (onDie (m / 64))))

/-- A packet of a type reaches the engine of its group: authenticated (R221), late when the engine is off (R223). -/
def Dev.engineIn (d : Dev) (e t : Nat) (down : Bool) (k : Packet) (act : Packet → Dev → Dev) : Dev :=
  if k.type ≠ t then d
  else
    let g := k.dest % 65536
    let d := d.takeDlv e 257 k
    if !d.bit CLV_CTRL_EN (onDie e) then d.late e
    else match d.colOpen e g k with
      | some o => act o (if k.enc then d.useKey e (d.gKeyslot e g) else d)
      | none => d.engineAuth e g down

/-- RED_UP. -/
def Dev.redUpIn (d : Dev) (e src : Nat) (k : Packet) : Dev :=
  d.engineIn e tRED_UP false k (fun k d =>
    let p := cParams k
    (d.modCrec e (k.dest % 65536) (cSeq k) (fun r =>
      { r with result := if r.result = 0 then cResult k else r.result, tc := if r.begun then r.tc else k.tc })).contributes
      e (k.dest % 65536) (cSeq k) src p (cChunk k) (cPhase k) (cNelem k) k.dconn
      (readPart p.2.1 p.2.2.1 p.2.2.2 (cPhase k) k.payload))

/-- RED_DOWN. -/
def Dev.redDownIn (d : Dev) (e : Nat) (k : Packet) : Dev :=
  d.engineIn e tRED_DOWN true k (fun k d => d.redDown e (k.dest % 65536) k)

/-- BARRIER with DIR = 0. -/
def Dev.barrierUpIn (d : Dev) (e src : Nat) (k : Packet) : Dev :=
  d.engineIn e tBARRIER false k (fun k d => if cDir k = 1 then d else
    d.stageArrive e (k.dest % 65536) (cSeq k) src k.tc (cParams k) (cStage k) k.dconn (cFenced k))

/-- BARRIER with DIR = 1. -/
def Dev.barrierDownIn (d : Dev) (e : Nat) (k : Packet) : Dev :=
  d.engineIn e tBARRIER true k (fun k d => if cDir k = 0 then d else d.barrierRelease e (k.dest % 65536) k)

/-- COL_GRANT: the parent's grants for GCOUNT chunks from GFIRST; chunks that wait for one go up (R201, R202). Those for chunks that
are over are not used; a packet with no other is late (R220). DEDUCED (log 92). -/
def Dev.grantIn (d : Dev) (e : Nat) (k : Packet) : Dev :=
  d.engineIn e tCOL_GRANT false k (fun k d =>
    let g := k.dest % 65536
    let ph := bits (ofBytes (k.oper.take 2)) 12 1
    match d.openOp e g (cSeq k) k.tc with
    | (d, false) => d.late e
    | (d, true) =>
      let past := match d.openCrec e g (cSeq k) with | some r => r.down | none => []
      let chunks := ((List.range (cByte k 2)).map (cChunk k + ·)).filter (fun c => !past.contains (c, ph))
      if chunks = [] then d.late e
      else
      let d := d.modCrec e g (cSeq k) (fun r => { r with grants := r.grants ++ chunks.map (fun c => (c, ph)) })
      d.each chunks (fun c d => d.chunkCheck e g (cSeq k) c ph))

/-! ## Buffers (R201) -/

/-- Buffers of a group in use on a die. -/
def Dev.bufsInUse (d : Dev) (e g : Nat) : Nat :=
  ((d.clv.recs.filter (fun x => x.1 / 4 = e * 65536 + g)).map (fun (x : Nat × ColOp) => x.2.bufs.length)).sum

/-- The chunk and phase that the next buffer of an operation is for. -/
def ColOp.nextBuf (r : ColOp) : Option (Nat × Nat) :=
  let more (n : Nat) : Bool := match r.total with | some t => n < t | none => n < 4096
  if r.lastPhase = 1 && r.down.contains (r.next1, 0) then some (r.next1, 1)
  else if more r.next0 then some (r.next0, 0)
  else none

/-- R201: a free buffer is assigned to the next chunk and phase: a COL_GRANT to each awaited child, the local members
contribute. DEDUCED (log 92). -/
def Dev.bufferAssign (d : Dev) (e g seq : Nat) : Dev :=
  if d.gWindow e g ≤ d.bufsInUse e g then d
  else match d.openOp e g seq 0 with
    | (d, false) => d
    | (d, true) =>
      match d.openCrec e g seq with
      | none => d
      | some r =>
        match r.nextBuf with
        | none => d
        | some (c, ph) =>
          let b := ChunkBuf.fresh c ph (d.awaitPorts e g) (d.awaitLocals e g)
          let r := { r with bufs := r.bufs ++ [b], next0 := if ph = 0 then c + 1 else r.next0, next1 := if ph = 1 then c + 1 else r.next1 }
          let k := d.colPacket e g tCOL_GRANT r.tc (d.engineSrc e) 0 0 (colWord seq (r.params.getD (0, 0, 0, 0)) ph) true
            (toBytes 2 (c ||| ph <<< 12) ++ toBytes 1 1) []
          let d := d.setCrec e g r
          let d := d.when (b.ports ≠ []) (fun d => d.colInject e (g % 4) k b.ports)
          let d := d.each (d.memsOf e g seq) (fun m d => d.feed m b)
          d.chunkCheck e g seq c ph

/-! ## EPOCH_COUNT (R130, R195) -/

/-- The three int64 elements of an EPOCH_COUNT. -/
def epochElems (k : Packet) : List Nat := (List.range 3).map (fun i => ofBytes ((k.oper.drop (8 * i)).take 8))

/-- An EPOCH_COUNT that awaits nothing more goes up, or the root returns the result. -/
def Dev.epochCheck (d : Dev) (e g seq : Nat) : Dev :=
  match d.openCrec e g seq with
  | none => d
  | some r =>
    match r.epoch.filter (fun b => b.ports = [] && b.locals = []) with
    | none => d
    | some b =>
      let word := colWord seq (r.params.getD (0, 0, 0, 0)) 0
      let data := b.part.bytes 3
      if d.gRoot e g then
        let short := b.members < d.gTotal e g
        let d := d.countShort e g r short
        let p := if short then
            d.colPacket e g tRED_DOWN r.tc (d.engineSrc e) b.members r.flags word true (toBytes 2 0 ++ toBytes 1 ST_INCOMPLETE) []
          else d.colPacket e g tRED_DOWN r.tc (d.engineSrc e) b.members r.flags word false (colOphdr 0 ST_OK false 0 3) data
        (d.setCrec e g { r with minMembers := b.members, epoch := none }).colInject e (g % 4) p []
      else
        (d.setCrec e g { r with epoch := none }).colInject e (g % 4)
          (d.colPacket e g tEPOCH_COUNT r.tc (d.engineSrc e) b.members r.flags word true data []) []

/-- An EPOCH_COUNT contribution is added into the record. One that comes once the round has gone on, or from a source that is not
awaited, is late (R220); one that differs closes the operation (R197). -/
def Dev.epochCountIn (d : Dev) (e src : Nat) (k : Packet) : Dev :=
  d.engineIn e tEPOCH_COUNT false k (fun k d =>
    let g := k.dest % 65536
    let seq := cSeq k
    match d.openOp e g seq k.tc with
    | (d, false) => d.late e
    | (d, true) =>
      match d.openCrec e g seq with
      | none => d
      | some r =>
        let b := r.epoch.getD (ChunkBuf.fresh 0 0 (d.awaitPorts e g) (d.awaitLocals e g))
        if r.begun && r.epoch.isNone then d.late e
        else if !r.agrees (cParams k) then d.mismatch e g r
        else if !(if src < 512 then b.ports.contains src else b.locals.contains (src - 512)) then
          (d.setCrec e g { r with epoch := some b }).late e
        else
          let b := { b with ports := b.ports.filter (· ≠ src), locals := b.locals.filter (fun m => m + 512 ≠ src),
                            members := b.members + k.dconn, part := b.part.merge 0 3 (.native (epochElems k)), nelem := some 3 }
          (d.setCrec e g { r with params := some (cParams k), flags := k.opflags, total := some 1, begun := true,
                                  epoch := some b }).epochCheck e g seq)

/-! ## Timers (R218, R219), FORCE, fences -/

/-- The stages of an operation, in order (Table 8-5). -/
def ColOp.stagesOf (r : ColOp) : List Nat :=
  match r.params with
  | some p => if p.1 = kdBARRIER then [0] else if p.1 = kdBCAST then [1, 2] else []
  | none => []

/-- R218: the packet that tells of an operation that the root's timer closes: for its first unfinished stage or chunk, with what that
had gathered. -/
def Dev.timeoutPacket (d : Dev) (e g : Nat) (r : ColOp) : Packet :=
  match r.stagesOf.find? (fun s => !(r.stage s).down) with
  | some s => d.barrierPacket e g r s (r.stage s).members true (r.stage s).fenced ST_INCOMPLETE
  | none =>
    let c := ((List.range 4096).find? (fun c => !r.down.contains (c, r.lastPhase))).getD 0
    let ph := if r.lastPhase = 1 && r.down.contains (c, 0) then 1 else 0
    let members := match r.epoch, r.buf c ph with
      | some b, _ => b.members
      | none, some b => b.members
      | none, none => 0
    d.colPacket e g tRED_DOWN r.tc (d.engineSrc e) members r.flags (colWord r.seq (r.params.getD (0, 0, 0, 0)) ph) true
      (toBytes 2 c ++ toBytes 1 ST_INCOMPLETE) []

/-- The operation timer of the root expires: the operation closes, its local members complete, and the first unfinished stage or chunk
goes down ST_INCOMPLETE (R218). -/
def Dev.operationTimeout (d : Dev) (e g seq : Nat) : Dev :=
  match d.openCrec e g seq with
  | none => d
  | some r =>
    if !d.gRoot e g || !r.begun then d
    else
      let k := d.timeoutPacket e g r
      let d := if r.stagesOf ≠ [] then d.inc .CLV_INCOMPLETE (onDie e) else d.countShort e g r true
      let d := ((d.closeOp e g r true).tellMembers e g seq k.dconn).membersEnd e g seq ST_INCOMPLETE
      d.colInject e (g % 4) k []

/-- A member's timer expires: its descriptor completes ST_INCOMPLETE; when no other local member is left in the operation, it
closes here. DEDUCED (log 92). -/
def Dev.memberTimeout (d : Dev) (e g seq member : Nat) : Dev :=
  match d.clv.mems.find? (fun m => m.die = e && m.group = g && m.seq = seq && m.member = member) with
  | none => d
  | some m =>
    let d := d.memFinish m ST_INCOMPLETE 0
    match d.openCrec e g seq with
    | some r => if (d.memsOf e g seq) = [] then d.closeOp e g r true else d
    | none => d

/-- The open operations of a group on a die. -/
def Dev.openOps (d : Dev) (e g : Nat) : List ColOp :=
  ((d.clv.recs.filter (fun x => x.1 / 4 = e * 65536 + g)).map (·.2)).filter (fun r => !r.closed)

/-- R187: close every open operation of a group as the member timer does, its grants returned unused. -/
def Dev.forceOps (d : Dev) (e g : Nat) : Dev :=
  let d := d.each (d.openOps e g) (fun r d => (d.closeOp e g r false).membersEnd e g r.seq ST_INCOMPLETE)
  d.each (d.clv.mems.filter (fun m => m.die = e && m.group = g)) (fun m d => d.memFinish m ST_INCOMPLETE 0)

/-- R216: newly fenced branches and members of a die's open operations are no longer awaited; a fence during a stage is
flagged. DEDUCED (log 117). -/
def Dev.fenceOps (d : Dev) (e : Nat) : Dev :=
  let l := d.clv.recs.filter (fun x => x.1 / 4 / 65536 = e && !x.2.closed)
  d.each l (fun (x : Nat × ColOp) d =>
    let g := x.1 / 4 % 65536
    let r := x.2
    let ps := d.awaitPorts e g
    let ls := d.awaitLocals e g
    let bufs := r.bufs.map (fun b => { b with ports := b.ports.filter ps.contains, locals := b.locals.filter ls.contains })
    let stages := r.stages.map (fun s => { s with ports := s.ports.filter ps.contains, locals := s.locals.filter ls.contains,
                                                  fenced := s.fenced || (s.opened && !s.up) })
    let epoch := r.epoch.map (fun b => { b with ports := b.ports.filter ps.contains, locals := b.locals.filter ls.contains })
    let d := (d.setCrec e g { r with bufs := bufs, stages := stages, epoch := epoch }).epochCheck e g r.seq
    let d := d.each bufs (fun b d => d.chunkCheck e g r.seq b.chunk b.phase)
    d.each (List.range 3) (fun s d => d.stageCheck e g r.seq s))

/-- R215: collective descriptors of a fenced endpoint complete ST_NOT_PERMITTED. -/
def Dev.fenceMembers (d : Dev) (e : Nat) : Dev :=
  d.each (d.clv.mems.filter (fun m => m.die = e && d.memberFenced e m.member)) (fun m d => d.memFinish m ST_NOT_PERMITTED 0)

end Sys2Proof.Machine
end

