-- ==== Sys2Proof/Machine/Kiln.lean ====
section
/-! DEFINITION. Kiln tests under way: what ends them early (R448), ports that start-up calibration holds (R449). -/

namespace Sys2Proof.Machine

/-- The test that runs on a die: TEST, TARGET, PARAM. -/
def Dev.kilnRun (d : Dev) (q : Nat) : Option (Nat × Nat × Nat) := Tab.find d.kln.run q

/-- What a channel that reads as zero held and nothing refers to, where the test has come: the group entries and module counters in
its 256-byte granules, and the fence state, the pairs taken as 8 bytes and the endpoints as bits (Table 1-4, R18; DESIGN CHOICE).
DEDUCED (log 101). DESIGN CHOICE (log 122, 141). -/
def Dev.sramZero (d : Dev) (q c : Nat) (come : Nat → Bool) : Dev :=
  { d with
    win := { d.win with group := d.win.group.filter (fun e => !(e.1 / 1048576 = q && e.1 / 32 % 2 = c && come (4 * e.1))) },
    hst := { d.hst with ctrs := d.hst.ctrs.filter (fun e => !(e.1 / 262144 = q && e.1 / 32 % 2 = c && come (4 * e.1 + 1))) },
    mcg := { d.mcg with pair := d.mcg.pair.filter (fun e => !(e.1 / 131072 = q && e.1 / 32 % 2 = c && come (4 * e.1 + 2))),
                        ep := d.mcg.ep.filter (fun e => !(e.1 / 2 ^ 25 = q && e.1 / 2048 % 2 = c && come (4 * e.1 + 3))) } }

/-- Tables that read as zero where the test has come: the route banks (0), or the TLBs and the group cache (1).
DESIGN CHOICE (log 122). -/
def Dev.tablesZero (d : Dev) (q x : Nat) (come : Nat → Bool) : Dev :=
  if x = 0 then
    { d with win := { d.win with route := d.win.route.filter (fun e => !(e.1 / 262144 = q && come (2 * e.1))),
                                 pset := d.win.pset.filter (fun e => !(e.1 / 65536 = q && come (2 * e.1 + 1))) } }
  else
    { d with xlt := { d.xlt with l2 := Tab.del d.xlt.l2 q, l1 := d.xlt.l1.filter (fun e => e.1 / 8 ≠ q) },
             mcg := { d.mcg with cache := Tab.del d.mcg.cache q } }

/-- R448: the test that runs on a die ends at once when its test and target are met, its counts kept; the memory that it has tested
reads as zero. How far it had come, and what it had counted, are free values. DESIGN CHOICE (log 122). -/
def Dev.kilnAbort (d : Dev) (q : Nat) (hit : Nat → Nat → Bool) : Dev :=
  match d.kilnRun q with
  | some (t, x, _) =>
    if hit t x then
      let come := Config.kilnCome d.env.freeCtr
      let n := d.freeVal % 65536
      let d := (({ d with kln := { d.kln with run := Tab.del d.kln.run q } }.put KLN_RESULT_FAILS (onDie q) n).put KLN_RESULT_FIRST
        (onDie q) (d.freed.freeVal % 2 ^ 32)).freed.freed
      let d := ((d.put KLN_RESULT_STATE (onDie q) 3).inc .KLN_RUNS (onDie q)).incBy .KLN_FAILS (onDie q) (min 1 n)
      if t = 5 then d.sramZero q x come else if t = 6 then d.tablesZero q x come else d
    else d
  | none => d

/-- A port returns to service or is reset: a test of it, or of its region's bank, ends. -/
def Dev.kilnPort (d : Dev) (p : Nat) : Dev :=
  d.kilnAbort (laneDie p) (fun t x => ((t = 1 || t = 2) && x = p) || (t = 4 && x = p / 32 % 4))

/-- The port makes no attempt: the boot sequence has not come to step 8 (Table 15-8), a reset of its scope runs (R25), or its lanes
failed LANE_CAL (R449). DEDUCED (log 33). -/
def Dev.portHeld (d : Dev) (p : Nat) : Bool :=
  d.get CFG_BOOTSTATUS_PHASE onMod < 4 || d.portInReset p || d.kln.calFail.contains p

end Sys2Proof.Machine
end

