-- ==== Sys2Proof/Machine/LinkOps.lean ====
section
/-! DEFINITION. The link layer: window and acknowledgement (R65 to R71), link lives (R74 to R76), states, training attempts
and drains (R73, R77 to R79), credits (R80 to R82), the reception of a flit (R60, R66 to R68). -/

namespace Sys2Proof.Machine

/-! ## Fields of the port registers -/

/-- Failed attempts before DOWN: 0 acts as 1, 8 to 15 as 7 (Table 3-15). -/
def Dev.retrainMax (d : Dev) (p : Nat) : Nat :=
  let n := d.get LNK_CTRL_RETRAIN_MAX (onLane p)
  if n = 0 then 1 else min n 7
/-- The module is in Bisque mode (R388). DEDUCED (log 35). -/
def Dev.inBisque (d : Dev) : Bool := d.get CFG_BOOTSTATUS_BISQUE onMod ≠ 0
/-- Replays per start number; 0 acts as 1 (Table 3-15). -/
def Dev.replayMax (d : Dev) (p : Nat) : Nat := max 1 (d.get LNK_CTRL_REPLAY_MAX (onLane p))
/-- The replay timer in ns (Table 3-16). -/
def Dev.replayNs (d : Dev) (p : Nat) : Nat := min 100000 (max 20 (d.get LNK_TIMERS_REPLAY (onLane p))) * 10
/-- The idle mode in force: reserved modes behave as FULL (Table 2-5). -/
def Dev.idleMode (d : Dev) (p : Nat) : Nat :=
  let m := d.get LAN_IDLE_MODE (onLane p)
  if m ≤ 2 then m else 0
def Dev.rxMostly (d : Dev) (p : Nat) : Bool := d.idleMode p = 2

/-! ## Messages waiting -/

/-- Queue a LINKCTL message behind the others. -/
def Dev.sendLinkctl (d : Dev) (p sub : Nat) (b : Body) : Dev := d.modLink p (fun l => { l with linkctl := l.linkctl ++ [(sub, b)] })
/-- Queue a LINKCTL message ahead of every other (R68, R77). -/
def Dev.sendLinkctlFirst (d : Dev) (p sub : Nat) (b : Body) : Dev := d.modLink p (fun l => { l with linkctl := (sub, b) :: l.linkctl })

def subTRAIN : Nat := 1
def subREPLAY_REQ : Nat := 2
def subREPLAY_START : Nat := 3
def subRETRAIN_REQ : Nat := 4
def subOOS_NOTICE : Nat := 5
def subDRAINED : Nat := 6

def byCREDIT : Nat := 1
def byAUDIT : Nat := 2
def byDUNE : Nat := 3
def byFENCE : Nat := 4
def byEPOCH : Nat := 5
def byTIME : Nat := 6
def byHELLO : Nat := 7

/-- Queue a BYPASS message (R84). -/
def Dev.sendBypass (d : Dev) (p code : Nat) (b : Body) : Dev := d.modLink p (fun l => { l with bypass := l.bypass ++ [(code, b)] })

/-- R48: the Dune messages of an earlier period that still wait on an RX_MOSTLY port go: only the latest map value is sent. -/
def Dev.dropOldDune (d : Dev) (p : Nat) : Dev :=
  d.when (d.rxMostly p) (·.modLink p (fun l => { l with bypass := l.bypass.filter (·.1 ≠ byDUNE) }))

/-! ## Window and acknowledgement -/

/-- The next sequence number to send (R65). -/
def Link.next (l : Link) : Nat := (l.oldest + l.window.length) % 65536

/-- A flit of a packet is done with at this router: its reference is given up, and the packet is forgotten when all its
flits are. -/
def Dev.flitDone (d : Dev) (i n : Nat) : Dev :=
  match d.pkt i with
  | none => d
  | some k =>
    match k.flits[n]? with
    | none => d
    | some f =>
      let d := d.freeLoc f.loc
      let k := { k with flits := k.flits.set n { f with loc := .gone } }
      if k.complete && k.flits.all (fun f => f.loc = .gone) then d.delPkt i else d.setPkt i k

/-- R66: the first n flits of the window are acknowledged. The replay count returns to 0 when the acknowledged point
passes its start number (R70), which is kept for R71; the replay timer restarts, or stops on an empty window (R69). -/
def Dev.ackFlits (d : Dev) (p n : Nat) : Dev :=
  let l := d.link p
  let acked := l.window.take n
  let passed := match l.replayStart with
    | some s => (s + 65536 - l.oldest) % 65536 < n
    | none => false
  let d := d.setLink p { l with
    oldest := (l.oldest + n) % 65536, window := l.window.drop n,
    replay := l.replay.drop (n - (l.window.length - l.replay.length)) }
  let d := d.when passed (·.put LNK_STAT_REPLAYS (onLane p) 0)
  d.each (acked.filter (fun f => !f.bypass)) (fun f d => d.flitDone f.pkt f.idx)

/-! ## Lanes at the start of an attempt (Table 2-3) -/

/-- DWELL in force. -/
def dwell (n : Nat) : Nat := min 40 (max 10 n)

/-- R41, R42: what background adaptation has come to in a receiver in TRACK: free coefficients, unless FREEZE is 1; the peaking only
while CTLE_OVR is 0. It is taken in where the coefficients are read, written or held. DESIGN CHOICE (log 30). -/
def Dev.background (d : Dev) (l : Nat) : Dev :=
  let a := onLane l
  if d.get LAN_RXSTAT_ADAPT_STATE a ≠ aTRACK || d.bit LAN_RXEQ_FREEZE a then d
  else
    let d := (d.put LAN_RXEQ_DFE1 a d.freeVal).freed
    if d.bit LAN_RXEQ_CTLE_OVR a then d else (d.put LAN_RXEQ_CTLE_CUR a d.freeVal).freed

/-- The reset coefficients of a receiver: the cold peaking is LAN_RXEQ.CTLE (Table 2-11). -/
def Dev.coldCoefs (d : Dev) (l : Nat) : Dev :=
  (d.put LAN_RXEQ_CTLE_CUR (onLane l) (d.get LAN_RXEQ_CTLE (onLane l))).put LAN_RXEQ_DFE1 (onLane l) (LAN_RXEQ_DFE1.rst)

/-- A receiver goes to OFF; coefficients are retained, or cleared by a reset or a rate change. -/
def Dev.laneOff (d : Dev) (l : Nat) (clear : Bool) : Dev :=
  let d := d.background l
  let st := d.get LAN_RXSTAT_ADAPT_STATE (onLane l)
  let d := d.modLane l (fun x => { x with retained := !clear && (x.retained || st ≠ aOFF), decoded := false })
  let d := (d.put LAN_RXSTAT_ADAPT_STATE (onLane l) aOFF).put LAN_RXSTAT_CDR_LOCK (onLane l) 0
  d.when clear (·.coldCoefs l)

/-- A receiver starts to acquire: warm from retained coefficients, else cold from the reset ones (R41). -/
def Dev.laneAcquire (d : Dev) (l : Nat) (warm : Bool) : Dev :=
  let d := (d.background l).modLane l (fun x => { x with cold := !warm, decoded := false })
  let d := (d.put LAN_RXSTAT_ADAPT_STATE (onLane l) aACQUIRE).put LAN_RXSTAT_CDR_LOCK (onLane l) 0
  d.when (!warm) (·.coldCoefs l)

/-- R53, R54: how far a running eye scan has come: a free number of further samples below 2^DWELL in all, a free number of
disagreements among them; none while the receiver is in HOLD. It is taken in where the counts are read or kept.
DESIGN CHOICE (log 30). -/
def Dev.scanRuns (d : Dev) (l : Nat) : Dev :=
  let a := onLane l
  if !d.bit LAN_ESCTL_BUSY a || d.get LAN_RXSTAT_ADAPT_STATE a ≠ aTRACK then d
  else
    let n := d.get LAN_ESSAMP_SAMPLES a
    let m := d.freeVal % max 1 (2 ^ dwell (d.get LAN_ESCTL_DWELL a) - n)
    let d := d.freed
    let e := d.freeVal % (m + 1)
    ((d.put LAN_ESSAMP_SAMPLES a (n + m)).put LAN_ESERR_ERRORS a (d.get LAN_ESERR_ERRORS a + e)).freed

/-- R54: a running eye scan ends early with ABORTED and DONE, its counts kept. -/
def Dev.abortScan (d : Dev) (l : Nat) : Dev :=
  d.when (d.bit LAN_ESCTL_BUSY (onLane l)) (fun d =>
    (((d.scanRuns l).put LAN_ESCTL_BUSY (onLane l) 0).put LAN_ESCTL_ABORTED (onLane l) 1).put LAN_ESCTL_DONE (onLane l) 1)

/-- A transmitter that is quiet or off wakes (R45): it is waking until TX_WAKE_DONE. DEDUCED (log 139). -/
def Dev.txWakes (d : Dev) (l : Nat) : Dev :=
  d.when (d.bit LAN_CTRL_TXEN (onLane l) && d.get LAN_IDLE_TX_STATE (onLane l) ≠ 0) (·.put LAN_IDLE_TX_STATE (onLane l) 3)

/-- A receiver leaves RX-OFF (R41, R45): it is waking until it is in TRACK. DEDUCED (log 139). -/
def Dev.rxWakes (d : Dev) (l : Nat) : Dev := (d.put LAN_IDLE_RX_STATE (onLane l) 3).laneAcquire l (d.lane l).retained

/-- The lane's part of a training attempt: a rate change clears it to OFF first; FAIL restarts cold; OFF with RXEN = 1
starts warm when coefficients are retained. Its answers to coefficient requests are those of this attempt (DESIGN CHOICE).
DESIGN CHOICE (log 131). -/
def Dev.laneAttempt (d : Dev) (l rate : Nat) : Dev :=
  let d := d.when ((d.lane l).rate ≠ rate) (fun d =>
    ((d.abortScan l).laneOff l true).modLane l (fun x => { x with rate := rate }))
  let st := d.get LAN_RXSTAT_ADAPT_STATE (onLane l)
  let d := (d.modLane l (fun x => { x with decoded := false, stPre := 0, stPost := 0 })).txWakes l
  if st = aFAIL then (d.put LAN_IDLE_RX_STATE (onLane l) 3).laneAcquire l false
  else if st = aHOLD then d.put LAN_IDLE_RX_STATE (onLane l) 3
  else if st = aOFF ∧ d.bit LAN_CTRL_RXEN (onLane l) then d.rxWakes l
  else d

/-- A half or both halves of the lanes of a port go off; coefficients are retained (R49, Table 2-3). -/
def Dev.lanesOff (d : Dev) (p : Nat) : Dev :=
  d.each (d.plances p) (fun l d =>
    (((d.abortScan l).laneOff l false).put LAN_IDLE_RX_STATE (onLane l) 2).put LAN_IDLE_TX_STATE (onLane l) 2)

/-- The lanes of a port that is DOWN stay in TX-QUIET and RX-QUIET between attempts (Table 3-12). -/
def Dev.lanesQuiet (d : Dev) (p : Nat) : Dev :=
  d.each (d.plances p) (fun l d =>
    let a := onLane l
    let d := d.when (d.get LAN_IDLE_TX_STATE a ≠ 2) (·.put LAN_IDLE_TX_STATE a 1)
    d.when (d.get LAN_RXSTAT_ADAPT_STATE a = aTRACK) (fun d =>
      ((((d.scanRuns l).background l).put LAN_RXSTAT_ADAPT_STATE a aHOLD).put LAN_RXSTAT_CDR_LOCK a 0).put LAN_IDLE_RX_STATE a 1))

/-! ## Leaving UP -/

/-- R74: the incarnation of this end advances. -/
def Dev.advanceInc (d : Dev) (p : Nat) : Dev :=
  d.put LNK_INC_LOCAL_INC (onLane p) (d.get LNK_INC_LOCAL_INC (onLane p) + 1)

/-- The flits that a port holds: those of its window, bypass flits among them, and those of committed packets not sent (R76, R78). -/
def Dev.heldAll (d : Dev) (p : Nat) : Nat := (d.link p).window.length + d.unsentFlits p

/-- The packets that are committed to a port: those with flits in the window and those open on a channel. -/
def Dev.committedIds (d : Dev) (p : Nat) : List Nat :=
  (((d.link p).window.filter (fun f => !f.bypass)).map (·.pkt) ++
    (List.range 18).filterMap (fun v => (d.chan p v).tx.map (·.1))).eraseDups

/-- R76, R78, R79: drop every held flit of a port, sent or not; LNK_HELDDROP counts them, and each packet is counted under
the reason. DEDUCED (log 112). -/
def Dev.dropHeld (d : Dev) (p reason : Nat) : Dev :=
  let n := d.heldAll p
  let ids := d.committedIds p
  let d := d.incBy .LNK_HELDDROP (onLane p) n
  let d := d.modLink p (fun l => { l with oldest := l.next, window := [], replay := [], replayStart := none })
  let d := d.each (List.range 18) (fun v d => d.modChan p v (fun c => { c with tx := none }))
  d.each ids (fun i d => d.dropPkt i (laneDie p) reason)

/-- R133, R74: the link layer tells routing that a port leaves UP; the incarnation at the leave is kept. -/
def Dev.leaveUp (d : Dev) (p : Nat) : Dev :=
  (d.modLink p (fun l => { l with incAtLeave := d.get LNK_INC_LOCAL_INC (onLane p), ackTimer := false, linkctl := [] })).portUnroutable p

/-- Set the link state. DEDUCED (log 31). -/
def Dev.setState (d : Dev) (p st : Nat) : Dev := d.put LNK_STAT_STATE (onLane p) st

/-- End a drain. -/
def Dev.endDrain (d : Dev) (p : Nat) : Dev :=
  (d.putB LNK_STAT_DRAINING (onLane p) false).modLink p
    (fun l => { l with commanding := false, drainedRcvd := false, drainedSent := false })

/-- Entry to OUT_OF_SERVICE (R74, R79): the incarnation advances and held flits are dropped as RELEASE. A DRAINED that waits
still leaves. -/
def Dev.enterOos (d : Dev) (p : Nat) : Dev :=
  let drained := (d.link p).linkctl.filter (·.1 = subDRAINED)
  let d := d.when (d.lstate p = UP) (·.leaveUp p)
  let d := (d.setState p OUT_OF_SERVICE).endDrain p
  let d := (d.advanceInc p).modLink p (fun l => { l with phase := .idle, linkctl := drained })
  (d.lanesOff p).dropHeld p dropRELEASE

/-- Entry to DOWN. -/
def Dev.enterDown (d : Dev) (p : Nat) : Dev :=
  let d := d.when (d.lstate p = UP) (·.leaveUp p)
  (((d.setState p DOWN).endDrain p).modLink p (fun l => { l with phase := .idle })).lanesQuiet p

/-! ## Order and isolation -/

/-- RX_LANE mod w over the lanes of a port is a permutation of 0 to w - 1 (R44). -/
def Dev.orderOk (d : Dev) (p : Nat) : Bool :=
  d.bit LAN_CTRL_ORDER_AUTO (onLane p) ||
  (let w := d.pwidth p
   (List.range w).all (fun i => ((d.plances p).map (fun l => d.get LAN_CTRL_RX_LANE (onLane l) % w)).contains i))

/-! ## Training attempts (R73) -/

/-- The module is isolated: it makes no training attempt (R438). -/
def Dev.isolated (d : Dev) : Bool := d.bit FLT_STAT_ISOLATED onMod

/-- R73, Table 3-12: an attempt starts, or the attempt under way fails with a reason, and what follows. `fuel` bounds the
attempts that fail at once for GREENWARE or ORDER, at most RETRAIN_MAX of them. -/
def Dev.attempt (d : Dev) (p : Nat) (fail : Option Nat) : Nat → Dev
  | 0 => d
  | fuel + 1 =>
    match fail with
    | none =>
      if d.isolated then d
      else
        let rate := d.get LAN_CTRL_RATE (onLane p)
        let d := d.put LNK_STAT_MODE (onLane p) (d.get LNK_CTRL_INTEG (onLane p))
        let d := d.modLink p (fun l => { l with phase := .lanes, gotTrain := false, marked := 0, linkctl := l.linkctl.filter (·.1 ≠ subTRAIN) })
        if d.greenware p && rate = 0 then d.attempt p (some failGREENWARE) fuel
        else
          let d := d.each (d.plances p) (fun l d => d.laneAttempt l rate)
          if d.orderOk p then d
          else (d.put LAN_RXSTAT_ORDERR (onLane p) 1).attempt p (some failORDER) fuel
    | some reason =>
      let d := (d.incF LNK_STAT_FAILS (onLane p)).put LNK_STAT_LAST_FAIL (onLane p) reason
      let d := d.modLink p (fun l => { l with phase := .idle, gotTrain := false })
      let max := d.retrainMax p ≤ d.get LNK_STAT_FAILS (onLane p)
      if d.lstate p = TRAINING then
        if max then d.enterDown p else d.attempt p none fuel
      else if d.lstate p = RETRAIN then
        if !max then d.attempt p none fuel
        else if d.draining p then
          if (d.link p).commanding then d.enterOos p
          else (d.enterDown p).put LNK_STAT_LAST_FAIL (onLane p) failPEER_OOS
        else (d.enterDown p).raise srcLINK 1 (locPort p) reason
      else d.lanesQuiet p

/-- Attempts that can fail in one event: a start and a failure each, at most seven in a row and one more. -/
def attemptFuel : Nat := 18

/-- A training attempt starts. -/
def Dev.startAttempt (d : Dev) (p : Nat) : Dev := d.attempt p none attemptFuel
/-- The attempt under way fails. -/
def Dev.failAttempt (d : Dev) (p reason : Nat) : Dev := d.attempt p (some reason) attemptFuel

/-- Entry to TRAINING from DISABLED, OUT_OF_SERVICE or at the end of a reset: FAILS is cleared (R77). A test of the port ends
(R448). A port that is held stays DISABLED until it is released. -/
def Dev.enterTraining (d : Dev) (p : Nat) : Dev :=
  let d := d.kilnPort p
  if d.isolated then d.setState p DOWN
  else if d.portHeld p then d.setState p DISABLED
  else ((d.setState p TRAINING).put LNK_STAT_FAILS (onLane p) 0).startAttempt p

/-- A body that holds a number in its first bytes. -/
def numBody (n : Nat) : Body := BitVec.ofNat 448 n

/-- R77: UP, or UP, draining, to RETRAIN for a cause. An end with a cause of its own sends one RETRAIN_REQ naming it, ahead
of every other flit. -/
def Dev.enterRetrain (d : Dev) (p cause : Nat) (own : Bool) : Dev :=
  if d.lstate p = UP then
    let d := ((d.leaveUp p).setState p RETRAIN).put LNK_STAT_LAST_FAIL (onLane p) cause
    let d := d.inc .LNK_RETRAIN (onLane p)
    let d := d.when own (·.sendLinkctlFirst p subRETRAIN_REQ (numBody cause))
    d.startAttempt p
  else d

/-- R77, Table 3-5: a Greenware error is fatal: the link goes DOWN at once and a fault is raised. -/
def Dev.greenwareFatal (d : Dev) (p sub : Nat) : Dev :=
  if d.lstate p = UP then (d.enterDown p).raise srcLINK sub (locPort p) 0 else d

/-! ## Lives (R74 to R76) -/

/-- R76: the effects of a new link life. An AUDIT of the old one that still waits goes: rounds start at 0 (R82).
DEDUCED (log 112). -/
def Dev.newLife (d : Dev) (p : Nat) : Dev :=
  let d := d.dropHeld p dropLINKINC
  let d := d.each ((List.range 18).filterMap (fun v => match (d.chan p v).rx with | .packet i _ => some i | _ => none))
    (fun i d => d.dropPkt i (laneDie p) dropLINKINC)
  let l := d.link p
  let d := d.setLink p { l with
    oldest := 0, window := [], replay := [], replayStart := none, expected := 0, incoming := 0,
    discarding := false, ackTimer := false, ackDue := false, creditDue := false, bypass := l.bypass.filter (·.1 ≠ byAUDIT), auditRound := 0,
    timeT2 := 0, timeT3 := 0, share := d.portShare p }
  let d := d.put LNK_STAT_REPLAYS (onLane p) 0
  let d := d.staleCells p
  d.each (List.range 18) (fun v d => d.modChan p v (fun c =>
    { c with avail := (l.trainAlloc.getD v 0 : Nat), alloc := l.trainAlloc.getD v 0, applied := 0, sent := 0, ret := 0,
             acc := 0, owed := 0, rx := .closed, tx := none }))

/-- R75: how many flits the peer's next expected number acknowledges, read as in R66; none outside the window. -/
def Dev.trainAck (d : Dev) (p : Nat) : Option Nat :=
  let l := d.link p
  let n := (l.trainSeq + 65536 - l.oldest) % 65536
  if n ≤ l.window.length then some n else none

/-- R75: the life continues: the peer's next expected number acknowledges, and a replay from it comes first; it is a replay as R69
and R71 know it, but does not count toward REPLAY_MAX. DEDUCED (log 110). -/
def Dev.continueLife (d : Dev) (p : Nat) : Dev :=
  let d := d.ackFlits p ((d.trainAck p).getD 0)
  let l := d.link p
  ((d.inc .LNK_REPLAY (onLane p)).put LNK_STAT_REPLAYS (onLane p) 0).setLink p { l with
    replayStart := some l.oldest, replayTime := d.now, replay := l.window,
    linkctl := l.linkctl ++ [(subREPLAY_START, numBody l.oldest)] }

/-- R74: the attempt that succeeds continues the previous life. -/
def Dev.lifeContinues (d : Dev) (p : Nat) : Bool :=
  let l := d.link p
  !d.greenware p && l.prevLife && d.lstate p ≠ TRAINING && l.incAtLeave = d.get LNK_INC_LOCAL_INC (onLane p) &&
  l.trainInc = d.get LNK_INC_PEER_INC (onLane p)

/-- R73 to R77: the attempt succeeds and the link enters UP; a drain goes on (R79). In a continued life a number of the peer
outside the window is an out-of-window ACK (R66, R75). DEDUCED (log 110). -/
def Dev.enterUp (d : Dev) (p : Nat) : Dev :=
  let bad := d.lifeContinues p && (d.trainAck p).isNone
  let d := if d.lifeContinues p then d.continueLife p else d.newLife p
  let d := ((d.setState p UP).put LNK_STAT_FAILS (onLane p) 0).put LNK_INC_PEER_INC (onLane p) (d.link p).trainInc
  let d := d.modLink p (fun l => { l with phase := .idle, prevLife := true, tokens := 16, slots := 0 })
  let d := if d.draining p then
      (d.modLink p (fun l => { l with drainedSent := false, drainedRcvd := false })).when (d.link p).commanding
        (·.sendLinkctl p subOOS_NOTICE 0)
    else d.portRoutable p
  d.when bad (fun d => (d.inc .LNK_ACKERR (onLane p)).enterRetrain p causeACK_RANGE true)

/-! ## Draining (R79) -/

/-- An end's window is empty: every committed flit is sent and acknowledged. -/
def Dev.windowEmpty (d : Dev) (p : Nat) : Bool := (d.link p).window = [] && d.unsentFlits p = 0

/-- A drain starts, or this end joins it as a commanding end. -/
def Dev.startDrain (d : Dev) (p : Nat) (commanding : Bool) : Dev :=
  let was := d.draining p
  let d := (d.putB LNK_STAT_DRAINING (onLane p) true).modLink p (fun l => { l with commanding := l.commanding || commanding })
  d.when (!was) (·.portUnroutable p)

/-! ## Receiving (R60, R66 to R68) -/

/-- R66: the number of flits that an ACK value acknowledges; none when it matches no number of the window. DEDUCED (log 36). -/
def Link.ackCount (l : Link) (ack : Nat) : Option Nat :=
  let n := (ack + 32768 - l.oldest % 32768) % 32768
  if n ≤ l.window.length then some n else none

/-- R66: apply an ACK field, or send the link to RETRAIN. Greenware ignores it. DEDUCED (log 36). -/
def Dev.applyAck (d : Dev) (p ack : Nat) : Dev :=
  if d.greenware p then d
  else match (d.link p).ackCount ack with
    | some n => if n = 0 then d else d.ackFlits p n
    | none => (d.inc .LNK_ACKERR (onLane p)).enterRetrain p causeACK_RANGE true

/-- R68: a flit failed its CRC, or is treated so: outside discard mode one REPLAY_REQ goes ahead of every other flit. -/
def Dev.crcError (d : Dev) (p : Nat) : Dev :=
  let d := (d.inc .LNK_CRCERR (onLane p)).portEvent p blkLNK 0x03 0 1
  if (d.link p).discarding then d
  else (d.modLink p (fun l => { l with discarding := true })).sendLinkctlFirst p subREPLAY_REQ (numBody (d.link p).expected)

/-- The link takes flits of its partner: it is UP. -/
def Dev.linkUp (d : Dev) (p : Nat) : Bool := d.pexists p && d.lstate p = UP

/-- Flits of the partner reach the port: it is UP, or its attempt has come to the parameters phase. -/
def Dev.flitsFlow (d : Dev) (p : Nat) : Bool := d.linkUp p || (d.pexists p && (d.link p).phase = .params)

/-- A flit fails its CRC: counted; a link that is UP asks for a replay. -/
def Dev.crcFails (d : Dev) (p : Nat) : Dev :=
  if d.linkUp p then d.crcError p else (d.inc .LNK_CRCERR (onLane p)).portEvent p blkLNK 0x03 0 1

/-- R60: an invalid encoding: as a CRC failure in Stoneware, fatal in Greenware; LNK_PROTOERR counts it. -/
def Dev.protoError (d : Dev) (p : Nat) : Dev :=
  let d := d.inc .LNK_PROTOERR (onLane p)
  if d.greenware p then d.greenwareFatal p 3 else d.crcFails p

/-- A flit that a codeword error marked fails its CRC (R35); one mark is used up. -/
def Dev.takeMark (d : Dev) (p : Nat) : Dev := d.modLink p (fun l => { l with marked := l.marked - 1 })

/-- R81: credits that come back on a channel. -/
def Dev.applyCredit (d : Dev) (p v n : Nat) : Dev :=
  d.modChan p v (fun c => { c with avail := c.avail + n, applied := (c.applied + n) % 65536 })

/-- The credit fields of a sequenced flit (Table 3-2). -/
def Dev.flitCredit (d : Dev) (p : Nat) (c : Ctrl) : Dev :=
  match vcIndex (ctlCvc c) with
  | some v => if ctlCcnt c = 0 then d else d.applyCredit p v (ctlCcnt c)
  | none => d

/-- A sequenced flit is encoded validly: its credit channel is not reserved (R60). -/
def creditValid (c : Ctrl) : Bool := ctlCcnt c = 0 || (vcIndex (ctlCvc c)).isSome

/-- R67: an acknowledgement becomes due ACK_DLY after the first accepted flit that no sent ACK covers. Greenware counts and
acknowledges nothing (Table 3-5). -/
def Dev.acceptSeq (d : Dev) (p : Nat) (c : Ctrl) : Dev :=
  let d := d.flitCredit p c
  if d.greenware p then d else d.modLink p (fun l => { l with incoming := (l.incoming + 1) % 65536, expected := (l.expected + 1) % 65536, ackTimer := true })

/-- R68: what the receiver does with a sequenced flit that passed its CRC and is validly encoded, after its ACK: nothing
in discard mode; a duplicate is discarded and makes an acknowledgement due at once; else `take` accepts it. -/
def Dev.sequenced (d : Dev) (p : Nat) (take : Dev → Dev) : Dev :=
  if d.greenware p then take d
  else
    let l := d.link p
    if l.discarding then d
    else if l.incoming ≠ l.expected then
      d.modLink p (fun l => { l with incoming := (l.incoming + 1) % 65536, ackDue := true })
    else take d

/-- A flit reaches a port: a marked one fails its CRC, an invalid one is a protocol error (R57, R60); else `act` follows on a link
that is UP. -/
def Dev.receive (d : Dev) (p : Nat) (valid : Bool) (act : Dev → Dev) : Dev :=
  if !d.flitsFlow p then d
  else if 0 < (d.link p).marked && !d.greenware p then (d.takeMark p).crcFails p
  else if !valid then d.protoError p
  else if d.linkUp p then act d
  else d

/-- A BYPASS message that passed its CRC: its ACK, and what follows when it is accepted in order. -/
def Dev.takeBypass (d : Dev) (p : Nat) (c : Ctrl) (take : Dev → Dev) : Dev :=
  d.receive p (ctlKind c = 2 && creditValid c) (fun d =>
    let d := d.applyAck p (ctlAck c)
    if d.lstate p = UP then d.sequenced p take else d)

/-- Such a message whose credits come before its meaning. -/
def Dev.receiveBypass (d : Dev) (p : Nat) (c : Ctrl) (act : Dev → Dev) : Dev := d.takeBypass p c (fun d => act (d.acceptSeq p c))

/-- A LINKCTL message that passed its CRC: its ACK but for TRAIN (R66), and its meaning. -/
def Dev.receiveLinkctl (d : Dev) (p : Nat) (c : Ctrl) (act : Dev → Dev) : Dev :=
  d.receive p (ctlKind c = 3 && ctlCcnt c = 0) (fun d => act (d.applyAck p (ctlAck c)))

/-! ## Replays (R69 to R71) -/

/-- R69, R70: a replay from the n-th flit of the window, unless the limit is reached. DEDUCED (log 110). -/
def Dev.replayFrom (d : Dev) (p n : Nat) : Dev :=
  let l := d.link p
  let s := (l.oldest + n) % 65536
  let again := l.replayStart = some s
  let count := if again then d.get LNK_STAT_REPLAYS (onLane p) + 1 else 1
  if d.replayMax p < count then d.enterRetrain p causeREPLAY_LIMIT true
  else
    let d := (d.inc .LNK_REPLAY (onLane p)).put LNK_STAT_REPLAYS (onLane p) count
    d.setLink p { l with
      replayStart := some s, replayTime := d.now, replay := l.window.drop n,
      linkctl := l.linkctl ++ [(subREPLAY_START, numBody s)] }

/-- R71: a replay from s began less than one replay-timer period ago. -/
def Dev.replayIgnored (d : Dev) (p s : Nat) : Bool :=
  (d.link p).replayStart = some s && d.now - (d.link p).replayTime < d.replayNs p

/-! ## Credits to return (R81) -/

/-- The channel with the most credits owed, the lowest on a tie; none when none is owed. -/
def Dev.mostOwed (d : Dev) (p : Nat) : Option Nat :=
  ((List.range 18).foldl (fun (best : Option Nat) v =>
    let n := (d.chan p v).owed
    if n = 0 then best
    else match best with
      | some b => if (d.chan p b).owed < n then some v else best
      | none => some v) none)

/-- The credit fields of the next sequenced flit, and the device after they are taken. -/
def Dev.takeCredit (d : Dev) (p : Nat) : Dev × Nat × Nat :=
  match d.mostOwed p with
  | some v =>
    let n := min 7 (d.chan p v).owed
    (d.modChan p v (fun c => { c with owed := c.owed - n, ret := (c.ret + n) % 65536 }), n, vcCode v)
  | none => (d, 0, 0)

/-- The CREDIT message: everything owed on the 18 channels (Table 3-14), and the device after it is taken. -/
def Dev.creditMessage (d : Dev) (p : Nat) : Dev × Body :=
  let b := ((List.range 18).map (fun v => (min 65535 (d.chan p v).owed) <<< (16 * v))).sum
  (d.each (List.range 18) (fun v d => d.modChan p v (fun c =>
     { c with owed := c.owed - min 65535 c.owed, ret := (c.ret + min 65535 c.owed) % 65536 })), BitVec.ofNat 448 b)

end Sys2Proof.Machine
end

