-- ==== Sys2Proof/Machine/LinkTx.lean ====
section
/-! DEFINITION. The transmitter: the choice of the next flit (R84), the start of a packet (R165 to R171), slot accounting
(R458). -/

namespace Sys2Proof.Machine

/-! ## Sending a flit -/

/-- The ACK field: the low 15 bits of the next expected number; 0 in Greenware (Tables 3-2, 3-5). -/
def Dev.ackField (d : Dev) (p : Nat) : Nat := if d.greenware p then 0 else (d.link p).expected % 32768

/-- The control word with the current ACK. -/
def Dev.withAck (d : Dev) (p : Nat) (c : Ctrl) : Ctrl :=
  (c &&& ~~~ (BitVec.ofNat 32 (32767 <<< 15))) ||| BitVec.ofNat 32 (d.ackField p <<< 15)

/-- The CRC field: over the first 60 bytes, 0 in Greenware (R57). -/
def Dev.flitCrc (d : Dev) (p : Nat) (c : Ctrl) (b : Body) : Nat :=
  if d.greenware p then 0 else crc32c (toBytes 4 c.toNat ++ bodyBytes b)

/-- A flit leaves the port; it carries the current ACK, so that no acknowledgement is due any more (R67). -/
def Dev.sendFlit (d : Dev) (p : Nat) (c : Ctrl) (b : Body) : Dev :=
  let c := d.withAck p c
  (d.emit (.flit p c b (d.flitCrc p c b))).modLink p (fun l => { l with ackDue := false, ackTimer := false })

/-- A TIME body as it is sent now (R86, Table 3-14). -/
def Dev.timeBody (d : Dev) (p : Nat) : Body :=
  let l := d.link p
  BitVec.ofNat 448 (d.fabricNow ||| (l.timeT2 % 2 ^ 64) <<< 64 ||| (l.timeT3 % 2 ^ 64) <<< 128)

/-- Room for one more sequenced flit (R66). -/
def Dev.windowRoom (d : Dev) (p : Nat) : Bool := d.greenware p || (d.link p).window.length < 16384

/-- A new sequenced flit goes into the window, or is done with at once in Greenware (Table 3-5). -/
def Dev.hold (d : Dev) (p : Nat) (f : SentFlit) : Dev :=
  if d.greenware p then (if f.bypass then d else d.flitDone f.pkt f.idx)
  else d.modLink p (fun l => { l with window := l.window ++ [f] })

/-! ## Replay -/

/-- Flit n of a packet is to leave with POISON: it or an earlier flit is poisoned (R103, R104). -/
def Dev.flitPoison (d : Dev) (k : Pkt) (n : Nat) : Bool :=
  (k.flits.take (n + 1)).any (fun f => f.poison || d.slotPoison f.loc)

/-- A held DATA flit leaves with POISON: it or an earlier flit of its packet is poisoned (R103, R104). -/
def Dev.heldPoison (d : Dev) (f : SentFlit) : Bool :=
  !f.bypass && (match d.pkt f.pkt with
    | some k => d.flitPoison k f.idx
    | none => false)

/-- R104: poison found in a packet whose head has left: FWD_STOMP counts the packet once, on the die of its egress port, and the flit
keeps its mark. DESIGN CHOICE (log 134). -/
def Dev.stompHeld (d : Dev) (p : Nat) (f : SentFlit) : Dev :=
  match d.pkt f.pkt with
  | none => d
  | some k =>
    (d.when (!k.stomped) (·.inc .FWD_STOMP (onDie (laneDie p)))).setPkt f.pkt
      { k with stomped := true, flits := k.flits.modify f.idx (fun x => { x with poison := true }) }

/-- The next flit of a replay under way (R69). -/
def Dev.sendReplay (d : Dev) (p : Nat) (f : SentFlit) : Dev :=
  let body := if f.bypass && bits f.ctrl.toNat 2 5 = byTIME then d.timeBody p else f.body
  let bad := d.heldPoison f
  let c := if bad then f.ctrl ||| 1 else f.ctrl
  let d := (d.when bad (·.stompHeld p f)).modLink p (fun l => { l with replay := l.replay.drop 1 })
  (d.sendFlit p c body).portEvent p blkLNK 0x02 0 1

/-! ## Bypass messages -/

/-- A message that an RX_MOSTLY port holds for its next burst (R48). -/
def heldForBurst (code : Nat) : Bool := code = byCREDIT || code = byAUDIT || code = byDUNE

/-- The messages that may go now; in Bisque mode HELLO alone (R388). DEDUCED (log 35). -/
def Dev.bypassReady (d : Dev) (p : Nat) : List (Nat × Body) :=
  let l := d.link p
  let held := d.rxMostly p && !l.burst
  l.bypass.filter (fun m => !(held && heldForBurst m.1) && (!d.inBisque || m.1 = byHELLO))

/-- A CREDIT message is to go now (R81, R84). DEDUCED (log 35). -/
def Dev.creditReady (d : Dev) (p : Nat) : Bool :=
  !d.inBisque && (d.link p).creditDue && (d.mostOwed p).isSome && (!d.rxMostly p || (d.link p).burst)

/-- A bypass flit waits. -/
def Dev.bypassWaits (d : Dev) (p : Nat) : Bool := d.creditReady p || d.bypassReady p ≠ []

/-- R83, R66: a new bypass flit may go: a token, at most 64 unacknowledged, room in the window. -/
def Dev.bypassRoom (d : Dev) (p : Nat) : Bool :=
  let l := d.link p
  0 < l.tokens && (l.window.filter (·.bypass)).length < 64 && d.windowRoom p

/-- An AUDIT body as it is first sent: of the queued one it keeps network and round; RET and ACC are those of now (R82). -/
def Dev.auditBody (d : Dev) (p : Nat) (b : Body) : Body :=
  let vn := fb b 0 8
  BitVec.ofNat 448 (vn ||| (fb b 16 16) <<< 16 |||
    ((List.range 6).map (fun s =>
      let c := d.chan p (6 * vn + s)
      (c.ret ||| c.acc <<< 16) <<< (32 + 32 * s))).sum)

/-- Send one new bypass flit: a CREDIT message that is due goes first, else the oldest that may go. -/
def Dev.sendNewBypass (d : Dev) (p : Nat) : Dev :=
  let go (d : Dev) (code : Nat) (b : Body) (ccnt cvc : Nat) : Dev :=
    let c := mkCtl 2 0 ccnt cvc code true false
    let d := d.modLink p (fun l => { l with tokens := l.tokens - 1 })
    ((d.sendFlit p c b).hold p ⟨c, b, true, 0, 0⟩).portEvent p blkLNK 0x06 0 1
  if d.creditReady p then
    let (d, b) := (d.modLink p (fun l => { l with creditDue := false })).creditMessage p
    go d byCREDIT b 0 0
  else match d.bypassReady p with
    | [] => d
    | m :: _ =>
      let d := d.modLink p (fun l => { l with bypass := dropFirst m l.bypass })
      let b := if m.1 = byTIME then d.timeBody p else if m.1 = byAUDIT then d.auditBody p m.2 else m.2
      let (d, n, v) := d.takeCredit p
      go d m.1 b n v

/-! ## DATA -/

/-- The header as it leaves: HOPS rises by one up to 15, AGE by the residence in units of 256 ns up to 127 (R94). -/
def Dev.headOut (d : Dev) (k : Pkt) : Body := setFb (setFb k.head 24 4 (min 15 (hHops k.head + 1))) 57 7 (d.age k)

/-- Send flit n of a committed packet on channel v (R61, R80, R81). DESIGN CHOICE (log 134). -/
def Dev.sendData (d : Dev) (p v i n : Nat) : Dev :=
  match d.pkt i with
  | none => d
  | some k =>
    match k.flits[n]? with
    | none => d
    | some f =>
      let poison := d.flitPoison k n
      let stomp := poison && !k.stomped
      let d := d.when stomp (·.inc .FWD_STOMP (onDie (laneDie p)))
      let k := { k with stomped := k.stomped || stomp, flits := k.flits.set n { f with poison := poison } }
      let d := d.setPkt i k
      let (d, cc, cv) := d.takeCredit p
      let body := if n = 0 then k.head else f.body
      let c := mkCtl 1 0 cc cv (vcCode v) (n = 0) poison
      let d := d.modChan p v (fun x =>
        { x with avail := x.avail - 1, sent := (x.sent + 1) % 65536, tx := if n + 1 < k.total then some (i, n + 1) else none })
      ((d.sendFlit p c body).hold p ⟨c, body, false, i, n⟩).portEvent p blkLNK 0x01 (2 ^ v) 1

/-- R165, R168, R170: a packet starts on its port: it is committed, its shaper is charged, its header is brought up to
date. -/
def Dev.startPkt (d : Dev) (p i : Nat) (e : EPort) : Dev :=
  match d.pkt i with
  | none => d
  | some k =>
    let t := hTc k.head
    let lim := d.get SCH_PORTCFG_AGE_LIM (onLane p)
    let aged := lim ≠ 0 && lim ≤ d.age k
    let d := d.setShaper p t ((d.shaper p t).charge (d.chargedLen p k.total) d.now d.fabricNow)
    let d := d.portEvent p blkSCH 0x01 (2 ^ t) 1
    let d := d.when aged (·.portEvent p blkSCH 0x04 0 1)
    let d := d.when (!k.complete) (·.portEvent p blkFWD 0x02 0 1)
    let d := d.modEport p (fun _ => { e with q := e.q.filter (· ≠ i), starts := e.starts + 1 })
    (d.setPkt i { k with head := d.headOut k, started := some e.starts }).sendData p k.channel i 0

/-- Start the packet that arbitration chooses; one with a poisoned flit is dropped instead and the choice is made again
(R103). `fuel` bounds those drops. -/
def Dev.startNew (d : Dev) (p : Nat) : Nat → Dev × Bool
  | 0 => (d, false)
  | fuel + 1 =>
    match d.newStart p with
    | (some (i, k), e) =>
      if d.pktPoison k then (d.dropPkt i (laneDie p) dropPOISON).startNew p fuel
      else (d.startPkt p i e, true)
    | (none, e) => (d.modEport p (fun _ => e), false)

/-- R412: throttle 4 is in force and this is not the one slot in eight that the port offers to DATA. -/
def Dev.egressThrottled (d : Dev) (p : Nat) : Bool := d.pwr.throttle ≥ 4 && (d.link p).slots % 8 ≠ 0

/-- The port commits no new packet: it drains (R79), or the module is in Bisque mode (R388). DEDUCED (log 35). -/
def Dev.commitsNone (d : Dev) (p : Nat) : Bool := d.draining p || d.inBisque

/-- The DATA part of a slot: a started packet goes on, else a new one starts unless the port commits none. The second
part is the POISON mark of the flit sent, none when none is. -/
def Dev.dataSlot (d : Dev) (p : Nat) : Dev × Option Bool :=
  if !d.windowRoom p || d.egressThrottled p then (d, none)
  else match d.continuing p with
    | some (v, i, n) => (d.sendData p v i n, (d.pkt i).map (fun k => d.flitPoison k n))
    | none =>
      if d.commitsNone p then (d, none)
      else
        let (d, sent) := d.startNew p 512
        (d, if sent then some false else none)

/-! ## The slot -/

/-- A candidate is held only by downstream limits (Table 18-2, row 4): an open packet's next flit that is written, a front
packet that passes all but its credit, or a bypass message. -/
def Dev.blocked (d : Dev) (p : Nat) : Bool :=
  (List.range 18).any (fun v => match (d.chan p v).tx with
    | some (i, n) => (match d.pkt i with | some k => n < k.arrived | none => false)
    | none => false) ||
  (!d.commitsNone p && (d.fronts p).any (fun x =>
    let k := x.2
    d.eligible p k && d.gateOpen p (hTc k.head) && (d.shaper p (hTc k.head)).eligible &&
    (d.chan p k.channel).tx = none && d.guardOk p (hTc k.head) k.total)) ||
  d.bypassWaits p

/-- The counts of a slot: tokens (R83). -/
def Dev.slotPassed (d : Dev) (p : Nat) : Dev :=
  d.modLink p (fun l =>
    if l.slots + 1 ≥ 16 then { l with slots := 0, tokens := min 16 (l.tokens + 1) } else { l with slots := l.slots + 1 })

/-- Count a slot of a port that is UP. -/
def Dev.slotIs (d : Dev) (p c : Nat) : Dev := d.when (d.lstate p = UP) (·.countSlot p c)

/-- The burst of an RX_MOSTLY port ends when nothing it is for waits any more (R48). -/
def Dev.endBurst (d : Dev) (p : Nat) : Dev :=
  let l := d.link p
  d.when (l.burst && !l.ackDue && !d.creditReady p && !(l.bypass.any (fun m => heldForBurst m.1)))
    (·.modLink p (fun l => { l with burst := false }))

/-- Something is to be sent that may wake a transmitter in TX-QUIET (R47, R48). -/
def Dev.toSend (d : Dev) (p : Nat) : Bool :=
  let l := d.link p
  l.linkctl ≠ [] || l.replay ≠ [] ||
  (d.lstate p = UP && ((d.bypassWaits p && d.bypassRoom p) || (l.ackDue && (!d.rxMostly p || l.burst)) ||
    (d.windowRoom p && ((d.continuing p).isSome || (!d.commitsNone p && (d.newStart p).1.isSome)))))

/-- A transmitter of the port is in a state. -/
def Dev.anyTx (d : Dev) (p st : Nat) : Bool := (d.plances p).any (fun l => d.get LAN_IDLE_TX_STATE (onLane l) = st)

/-- The transmitter state of a port: flits need every lane, so that of the lane that is furthest from active. -/
def Dev.txState (d : Dev) (p : Nat) : Nat := if d.anyTx p 2 then 2 else if d.anyTx p 1 then 1 else if d.anyTx p 3 then 3 else 0

/-- The transmitters of a port that are in one state go to another. -/
def Dev.moveTx (d : Dev) (p old new : Nat) : Dev :=
  d.each (d.plances p) (fun l d => d.when (d.get LAN_IDLE_TX_STATE (onLane l) = old) (·.put LAN_IDLE_TX_STATE (onLane l) new))

/-- R84: the transmitter, active, fills a flit slot. -/
def Dev.fillSlot (d : Dev) (p : Nat) : Dev :=
  let l := d.link p
  match l.linkctl, l.replay with
  | m :: rest, _ =>
    ((d.modLink p (fun l => { l with linkctl := rest })).sendFlit p (mkCtl 3 0 0 0 m.1 false false) m.2).slotIs p slotCONTROL
  | [], f :: _ => if d.lstate p = UP then (d.sendReplay p f).slotIs p slotRECOVERY else d
  | [], [] =>
    if d.lstate p ≠ UP then d
    else if d.bypassWaits p && d.bypassRoom p then (d.sendNewBypass p).slotIs p slotCONTROL
    else
      match d.dataSlot p with
      | (d, some poison) => d.slotIs p (if poison then slotRECOVERY else slotPAYLOAD)
      | (d, none) =>
        let c := if d.blocked p then slotBLOCKED else slotEMPTY
        (d.sendFlit p (mkCtl 0 0 0 0 0 false false) 0).slotIs p c

/-- R46, R84, R458: one flit slot of a port. In TX-QUIET something to send wakes the transmitter; while it wakes, its
slots fall within the wake pattern. A disabled port, and one whose transmitter
is off, sends nothing; an out-of-service port sends a DRAINED that still waits (R79). DEDUCED (log 31). -/
def Dev.flitSlot (d : Dev) (p : Nat) : Dev :=
  let st := d.lstate p
  if !d.pexists p || st = DISABLED then d
  else if st = OUT_OF_SERVICE then (if (d.link p).linkctl = [] then d else (d.fillSlot p).slotPassed p)
  else
    let d := match d.txState p with
      | 0 => (d.fillSlot p).endBurst p
      | 1 =>
        if d.toSend p then (d.moveTx p 1 3).slotIs p slotCONTROL
        else d.slotIs p (if d.blocked p then slotBLOCKED else slotEMPTY)
      | 3 => d.slotIs p slotCONTROL
      | _ => d
    d.slotPassed p

end Sys2Proof.Machine
end

