-- ==== Sys2Proof/Machine/Mesh.lean ====
section
/-! DEFINITION. The on-die network (spec/13) at its sources: classes and modes, regulators, HOLD and the mode switch. What a
message does where it arrives stands in MeshCmds.lean. -/

namespace Sys2Proof.Machine

def Dev.meshNormal (d : Dev) (q : Nat) : Bool := d.bit NOC_MODECTL_MODE (onDie q)
def Dev.meshHold (d : Dev) (q : Nat) : Bool := d.bit NOC_MODECTL_HOLD (onDie q)

/-- A response, or a MANAGEMENT answer. -/
def MeshMsg.answers (m : MeshMsg) : Bool := m.cls = 1 || (match m.use with | .answer _ => true | _ => false)
/-- A request that expects a response (R336). -/
def MeshMsg.expects (m : MeshMsg) : Bool := !m.answers && m.cls ≠ 3 && (match m.use with | .transfer e => e | _ => false)

/-- R338, R347: the class in which a message travels on a die: MANAGEMENT becomes REQUEST or RESPONSE in NORMAL mode. -/
def Dev.meshClass (d : Dev) (q : Nat) (m : MeshMsg) : MeshMsg :=
  if d.meshNormal q && m.cls = 2 then { m with cls := if m.answers then 1 else 0 } else m

/-- Form S: the nodes of the host port, matching and translation units never inject and answer nothing (R336). -/
def Dev.nodeAbsent (d : Dev) (n : Nat) : Bool := d.sys.formS && (n = 6 || n = 7 || n = 8)

/-! ## Regulators (R344) -/

/-- Flits of a message: its header and its data. -/
def MeshMsg.len (m : MeshMsg) : Nat := m.flits.val + 1
def meshKey (m : MeshMsg) : Nat := m.sdie.val * 100 + m.snode.val * 4 + m.cls.val
def regAt (m : MeshMsg) : At := ⟨m.sdie.val, m.snode.val * 4 + m.cls.val⟩
def Dev.regFree (d : Dev) (m : MeshMsg) : Bool := 256 ≤ d.get NOC_REG_RATE (regAt m)

/-- The tokens of the regulator of a message now, in 1/2560 flit: RATE / 256 flits in each cycle of 0.625 ns, at most BURST. -/
def Dev.meshTokens (d : Dev) (m : MeshMsg) : Nat :=
  let burst := max 9 (d.get NOC_REG_BURST (regAt m)) * 2560
  match Tab.find d.noc.tokens (meshKey m) with
  | some (n, t) => min burst (n + (d.now - t) * 16 * d.get NOC_REG_RATE (regAt m))
  | none => burst

/-- The regulator holds a message. -/
def Dev.regHolds (d : Dev) (m : MeshMsg) : Bool := !d.regFree m && d.meshTokens m < m.len * 2560

/-- HOLD keeps a message at its source: a new request or TEST message (R342). -/
def Dev.holdStops (d : Dev) (m : MeshMsg) : Bool := d.meshHold m.sdie.val && !m.answers

/-- A message starts: it is counted, the regulator's tokens are subtracted, a response is expected. DESIGN CHOICE (log 53). -/
def Dev.meshInject (d : Dev) (m : MeshMsg) : Dev :=
  let q := m.sdie.val
  let d := if d.regFree m then d
    else { d with noc := { d.noc with tokens := Tab.put d.noc.tokens (meshKey m) (d.meshTokens m - m.len * 2560, d.now) } }
  let d := (d.inc .NOC_MSG (onDie q)).event q blkNOC m.snode.val 0x01 0 1
  d.when m.expects (·.put NOC_STAT_OUTSTANDING (onDie q) (d.get NOC_STAT_OUTSTANDING (onDie q) + 1))

/-- A message waits at its source; NOC_REGWAIT counts one that its regulator holds, once. -/
def Dev.meshWait (d : Dev) (m : MeshMsg) (counted : Bool) : Dev :=
  let held := d.regHolds m && !d.holdStops m
  let d := { d with noc := { d.noc with held := d.noc.held ++ [(m, counted || held)] } }
  d.when (held && !counted) (·.inc .NOC_REGWAIT (onDie m.sdie.val))

/-- An earlier message of the node and class waits (R337). -/
def Dev.meshBehind (d : Dev) (m : MeshMsg) : Bool := d.noc.held.any (fun x => meshKey x.1 = meshKey m)

/-! ## The mode switch (R342) -/

/-- DESIGN CHOICE (log 53). -/
def Dev.nocStatus (d : Dev) (q st : Nat) : Dev := d.put NOC_MODECTL_STATUS (onDie q) st

/-- A write of NOC_MODECTL: SWITCH sets HOLD, or is refused and changes nothing. -/
def Dev.nocModectl (d : Dev) (q : Nat) (v : Word) : Dev :=
  let sw := NOC_MODECTL_SWITCH.of v = 1
  if sw && (d.meshHold q || NOC_MODECTL_TARGET.of v = d.get NOC_MODECTL_MODE (onDie q)) then d.nocStatus q ST_BAD_STATE
  else
    let d := d.wrFields .NOC_MODECTL (onDie q) v
    if sw then (d.put NOC_MODECTL_HOLD (onDie q) 1).kilnAbort q (fun t _ => t = 7) else d

/-- The mesh is quiesced: MODE takes TARGET and HOLD clears. DEDUCED (log 54, 123). -/
def Dev.meshSwitched (d : Dev) (q : Nat) : Dev :=
  ((((d.put NOC_MODECTL_MODE (onDie q) (d.get NOC_MODECTL_TARGET (onDie q))).put NOC_MODECTL_HOLD (onDie q) 0).nocStatus q ST_OK).inc
    .NOC_MODESW (onDie q))

/-- HOLDMAX has passed: the switch is abandoned. DEDUCED (log 54). -/
def Dev.switchAbandoned (d : Dev) (q : Nat) : Dev := (d.put NOC_MODECTL_HOLD (onDie q) 0).nocStatus q ST_NOT_READY

end Sys2Proof.Machine
end

