-- ==== Sys2Proof/Machine/Cycle.lean ====
section
/-! DEFINITION. Events counted once per ROUTER cycle (spec/18, modes C and A of R453), and what a nanosecond of time adds to the
programmable counters. -/

namespace Sys2Proof.Machine

/-- A condition as a count. -/
def oneIf (b : Bool) : Nat := if b then 1 else 0

/-- The filter selects index i; 0 selects everything (R453). -/
def filterHas (f i : Nat) : Bool := f = 0 || bits f i 1 = 1

/-- LNK CR_STALL: a flit waits with AVAIL at or below 0 on a selected channel: the next flit of an open packet that has arrived, or
a front packet that only its credit holds. -/
def Dev.creditStall (d : Dev) (p f : Nat) : Bool :=
  d.pexists p && d.lstate p = UP && (List.range 18).any (fun v =>
    filterHas f v && (d.chan p v).avail ≤ 0 &&
    ((match (d.chan p v).tx with
      | some (i, n) => (match d.pkt i with | some k => n < k.arrived | none => false)
      | none => false) ||
     (!d.draining p && (d.fronts p).any (fun x =>
      x.2.channel = v && d.eligible p x.2 && d.gateOpen p (hTc x.2.head) && (d.shaper p (hTc x.2.head)).eligible &&
      (d.chan p v).tx = none && d.guardOk p (hTc x.2.head) x.2.total))))

/-- SCH GATE_HOLD and SHAPER_HOLD: the front packet of a selected class waits on what `c` says of its class. -/
def Dev.frontHeld (d : Dev) (p f : Nat) (c : Nat → Bool) : Bool :=
  d.pexists p && (d.fronts p).any (fun x => filterHas f (hTc x.2.head) && d.eligible p x.2 && c (hTc x.2.head))

/-- BRG NO_BUFFER: a flit of die a that may cross bridge e waits for a receive buffer. -/
def Dev.bridgeWaits (d : Dev) (a e : Nat) : Bool :=
  d.rtr.pkts.any (fun (x : Nat × Pkt) =>
    let k := x.2
    d.mayMove x.1 k && (List.range k.flits.length).any (fun n => match k.flits[n]? with
      | some f =>
        (match f.loc with | .cell _ _ => true | _ => false) && f.die = a && f.hop + 1 < f.path.length &&
        bridgeEnd a (f.path.getD (f.hop + 1) 0) = e &&
        !k.behind n f && d.bridgeUp a (f.path.getD (f.hop + 1) 0) && !d.dieAway a && !d.dieAway (f.path.getD (f.hop + 1) 0) &&
        !d.bridgeRoom (f.path.getD (f.hop + 1) 0) e (bridgeAlloc (hVn k.head) f.hop)
      | none => false))

/-- RTE HELD: packets held on the dead ports of a die (R134). -/
def Dev.heldOnDead (d : Dev) (q : Nat) : Nat :=
  (((d.portsOfDie q).filter (fun p => d.bit PRT_STAT_DEAD (onLane p))).map (fun p => (d.queuedIds p).length)).sum

/-- The free cells of a die (R158). -/
def Dev.freeAll (d : Dev) (q : Nat) : Nat :=
  (((List.range 4).filter (fun b => !d.regionOff (q * 4 + b))).map (d.freeCells q)).sum

/-- CLV GRANTS_OUT: buffers granted to children that have not contributed yet (R201). -/
def Dev.grantsOut (d : Dev) (q : Nat) : Nat :=
  ((d.clv.recs.filter (fun e => e.1 / 4 / 65536 = q)).map (fun (e : Nat × ColOp) =>
    (e.2.bufs.map (fun b => b.ports.length)).sum)).sum

/-- QUE CQ_HELD: completions held as overflow entries (R249). -/
def Dev.cqHeldNow (d : Dev) (q : Nat) : Nat :=
  ((d.hst.queues.filter (fun e => e.1 / 65536 = q * 4 + 2)).map (fun (e : Nat × Queue) => e.2.held.length)).sum

/-- What an event of mode C or A adds in one ROUTER cycle, under a FILTER (Table 18-1); 0 for events of mode O.
DESIGN CHOICE (log 126). DEDUCED (log 127). -/
def Dev.cycleAmount (d : Dev) (q blk inst ev f : Nat) : Nat :=
  let p := q * 128 + inst
  if blk = blkLAN && ev = 3 then
    oneIf (let s := d.get LAN_IDLE_TX_STATE (onLane p); s = 1 || s = 2)
  else if blk = blkLAN && ev = 4 then
    oneIf (let s := d.get LAN_IDLE_RX_STATE (onLane p); s = 1 || s = 2)
  else if blk = blkLNK && ev = 4 then oneIf (d.creditStall p f)
  else if blk = blkLNK && ev = 5 then oneIf (d.pexists p && !d.windowRoom p)
  else if blk = blkRTE && ev = 4 then d.heldOnDead q
  else if blk = blkFWD && ev = 4 then (if d.pexists p then d.occupancy p / 1024 else 0)
  else if blk = blkFWD && ev = 5 then oneIf (d.pexists p && (d.eport p).wait ≠ [])
  else if blk = blkFWD && ev = 6 then d.freeAll q
  else if blk = blkSCH && ev = 2 then oneIf (d.frontHeld p f (fun t => !d.gateOpen p t))
  else if blk = blkSCH && ev = 3 then oneIf (d.frontHeld p f (fun t => !(d.shaper p t).eligible))
  else if blk = blkBRG && ev = 3 then oneIf (d.bridgeWaits q inst)
  else if blk = blkCLV && ev = 4 then d.grantsOut q
  else if blk = blkHST && ev = 3 then Tab.count d.hst.reads (fun _ r => r.die = q && r.len ≠ 0)
  else if blk = blkQUE && ev = 3 then d.cqHeldNow q
  else if blk = blkRMX && ev = 4 then d.rslots q
  else if blk = blkMTC && ev = 3 then d.poolAll q
  else if blk = blkXLT && ev = 4 then Tab.count d.xlt.traps (fun k _ => k / 256 = q)
  else if blk = blkNOC && ev = 2 then
    oneIf (d.noc.held.any (fun x => x.1.sdie.val = q && x.1.snode.val = inst && d.regHolds x.1 && !d.holdStops x.1))
  else if blk = blkPWR && ev = 1 then oneIf (d.pwr.throttle ≠ 0)
  else 0

/-- The ROUTER cycles of 0.625 ns that end in nanosecond t. DESIGN CHOICE (log 126). -/
def routerCycles (t : Nat) : Nat := (t + 1) * 8 / 5 - t * 8 / 5

/-- R453: a counter of die q takes n cycles. DESIGN CHOICE (log 126). -/
def Dev.cycleCount (d : Dev) (q n k : Nat) : Dev :=
  let a : At := ⟨q, k⟩
  let x := d.cycleAmount q (d.get PMC_SEL_BLOCK a) (d.get PMC_SEL_INSTANCE a) (d.get PMC_SEL_EVENT a) (d.get PMC_SEL_FILTER a)
  if d.chained q k || x = 0 then d else d.pmcAdd q k (n * x)

/-- The counters of the dies that run take the ROUTER cycles of one nanosecond. DESIGN CHOICE (log 126). -/
def Dev.nanosecond (d : Dev) : Dev :=
  if d.pwr.off ≠ 0 then d
  else d.each ((List.range 4).filter (fun q => d.dieState q ≠ domSTOP)) (fun q d =>
    d.each (d.pmcEnabled q) (fun k d => d.cycleCount q (routerCycles d.now) k))

end Sys2Proof.Machine
end

