-- ==== Sys2Proof/Machine/Reader.lean ====
section
/-! DEFINITION. The snapshot reader (R459 to R462): writing a sampled snapshot into its ring, a ring that cannot be written. -/

namespace Sys2Proof.Machine

/-- The lines of the ring: LOG2SIZE outside 6 to 24 acts as the nearer end. -/
def Dev.ringLines (d : Dev) : Nat := 2 ^ max 6 (min 24 (d.get PMC_RINGCTL_LOG2SIZE onMod))

/-- L (R461): the header line and the record lines. -/
def Snap.lines (s : Snap) : Nat := 1 + (8 * s.records.length + 63) / 64

/-- The header line of a snapshot whose header has index `pi` (Table 18-3). -/
def Dev.snapHeader (d : Dev) (s : Snap) (pi : Nat) : List Byte :=
  toBytes 8 d.pmc.seq ++ toBytes 8 s.time ++ toBytes 4 s.records.length ++ toBytes 2 s.lines ++ toBytes 1 s.cause ++ toBytes 1 s.dies ++
  toBytes 4 d.pmc.dropped ++ toBytes 1 (if pi / d.ringLines % 2 = 0 then 1 else 0) ++ toBytes 35 0

/-- Record line i, counted from 1: eight records, unused bytes zero. -/
def Snap.line (s : Snap) (i : Nat) : List Byte :=
  let l := ((s.records.drop (8 * (i - 1))).take 8).map (toBytes 8)
  l.flatten ++ toBytes (64 - 8 * l.length) 0

/-- The ring line that is written after n others: the record lines, then the header line (R461). -/
def Snap.nth (s : Snap) (n : Nat) : Nat := if n + 1 < s.lines then n + 1 else 0

/-- The reader's snapshot ends. -/
def Dev.snapEnd (d : Dev) : Dev := { d with pmc := { d.pmc with snap := none } }

/-- R462: the snapshot is abandoned, the reader disabled. -/
def Dev.readerFail (d : Dev) (st : Nat) : Dev :=
  if d.pmc.snap.isSome then (((d.snapEnd).put PMC_RINGCTL_EN onMod 0).put PMC_RINGCTL_STATUS onMod st).inc .PMC_SNAPERR onMod else d

/-- R462: a reset of what the reader writes through disables it. `hit` takes PATH and XSPACE. -/
def Dev.readerLost (d : Dev) (hit : Nat → Nat → Bool) : Dev :=
  if d.bit PMC_RINGCTL_EN onMod && hit (d.get PMC_RINGCTL_PATH onMod) (d.get PMC_RINGCTL_XSPACE onMod) then
    ((d.snapEnd).put PMC_RINGCTL_EN onMod 0).put PMC_RINGCTL_STATUS onMod ST_CONN_ERROR
  else d

/-- The command-class write of a line (R459). -/
def Dev.lineAccess (d : Dev) (q addr : Nat) : XAcc :=
  ⟨d.get PMC_RINGCTL_XSPACE onMod, addr, 64, 1, 0, 0, 0, 0, d.engine q 0, none⟩

/-- The header is written: PI, SEQ and DROPPED advance, and PATH 0 may interrupt (R461). -/
def Dev.snapDone (d : Dev) (s : Snap) (path : Nat) : Dev :=
  let d := { d with pmc := ⟨none, d.pmc.seq + 1, 0⟩ }
  let d := (d.put PMC_RINGPI_PI onMod (d.get PMC_RINGPI_PI onMod + s.lines)).inc .PMC_SNAPS onMod
  d.when (path = 0 && d.bit PMC_RINGCTL_SNAP_IRQ onMod) (·.msixSend 4 0 (d.get PMC_RINGCTL_VEC onMod))

/-- Write the lines that are left, until a translation traps or fails. -/
def Dev.snapLines (d : Dev) : Nat → Dev
  | 0 => d
  | fuel + 1 =>
    match d.pmc.snap with
    | none => d
    | some s =>
      let path := d.get PMC_RINGCTL_PATH onMod
      let pi := d.get PMC_RINGPI_PI onMod
      let i := s.nth s.written
      let addr := d.get PMC_RINGBASE_BASE onMod * 4096 + (pi + i) % d.ringLines * 64
      let data := if i = 0 then d.snapHeader s pi else s.line i
      let wrote (d : Dev) : Dev :=
        if i = 0 then d.snapDone s path
        else ({ d with pmc := { d.pmc with snap := some { s with written := s.written + 1, stalled := false } } }).snapLines fuel
      if path = 0 then wrote (d.emit (.mgmtWrite addr data))
      else
        let q := path - 1
        match d.translate q (d.lineAccess q addr) with
        | (d, .ok ba _) => wrote (d.hostEntry q (d.get XLT_SPACE_OWNER ⟨q, (d.lineAccess q addr).space⟩) ba 64 data)
        | (d, .trap c) =>
          ({ d with pmc := { d.pmc with snap := some { s with stalled := true } } }).trapInit q (d.lineAccess q addr) c .reader
        | (d, .notPermitted) => d.readerFail ST_NOT_PERMITTED
        | (d, .walkError) => d.readerFail ST_WALK_ERROR

/-- SNAPSHOT_WRITTEN: a sampled snapshot is written, or dropped for lack of room; `ok` false: the host answers a ring write with
Unsupported Request or Completer Abort. -/
def Dev.snapWrite (d : Dev) (ok : Bool) : Dev :=
  match d.pmc.snap with
  | none => d
  | some s =>
    if s.stalled then d
    else if s.written = 0 && d.ringLines < idx32 (d.get PMC_RINGPI_PI onMod) (d.get PMC_RINGCI_CI onMod) + s.lines then
      ({ d.snapEnd with pmc := { d.snapEnd.pmc with dropped := d.pmc.dropped + 1 } }).inc .PMC_SNAPDROP onMod
    else if !ok then d.readerFail ST_HOST_ERROR
    else d.snapLines s.lines

/-- The translation that the reader waits for is there. -/
def Dev.readerResume (d : Dev) : Dev :=
  match d.pmc.snap with
  | some s => if s.stalled then d.snapLines s.lines else d
  | none => d

/-- PMC_RINGCI: the consumer index advances, never past PI. -/
def Dev.ringCi (d : Dev) (v : Word) : Dev :=
  let pi := d.get PMC_RINGPI_PI onMod
  let ci := d.get PMC_RINGCI_CI onMod
  if idx32 v.toNat ci ≤ idx32 pi ci then d.put PMC_RINGCI_CI onMod v.toNat else d

/-- PMC_RINGCTL. A write of EN = 0 stops the snapshot that is under way; one of EN = 1 has it written anew from its first line.
DEDUCED (log 104). -/
def Dev.ringCtl (d : Dev) (v : Word) : Dev :=
  let path := PMC_RINGCTL_PATH.of v
  if path > 4 then d.put PMC_RINGCTL_STATUS onMod ST_BAD_PARAM
  else if path ≠ 0 && d.sys.formS then d.put PMC_RINGCTL_STATUS onMod ST_UNSUPPORTED
  else
    let d := (d.wrFields .PMC_RINGCTL onMod v).put PMC_RINGCTL_STATUS onMod ST_OK
    if PMC_RINGCTL_EN.of v = 1 then
      let d := (d.put PMC_RINGPI_PI onMod 0).put PMC_RINGCI_CI onMod 0
      { d with pmc := { d.pmc with seq := 0, snap := d.pmc.snap.map (fun s => { s with written := 0 }) } }
    else d.snapEnd

/-! ## Programmable counters (R454 to R456, Table 18-1) -/

/-- The FILTER bits that an event of a block at an instance defines; none where Table 18-1 has no such event. An event whose
filter is "—" ignores FILTER. -/
def pmcEvent (blk inst ev : Nat) : Option Nat :=
  let all := 2 ^ 18 - 1
  let vc := 2 ^ 18 - 1
  let tc := 2 ^ 16 - 1
  let code := 2 ^ 15 - 2
  let upTo (n : Nat) : Option Nat := if 1 ≤ ev ∧ ev ≤ n then some all else none
  match blk with
  | 0x01 => if inst < 128 then upTo 4 else none
  | 0x02 => if inst < 128 then (if ev = 1 || ev = 4 then some vc else upTo 6) else none
  | 0x04 => if inst = 0 then upTo 4 else none
  | 0x05 =>
    if inst < 128 then (if ev = 1 || ev = 3 then some vc else upTo 5)
    else if inst = 128 then (if ev = 7 then some code else if ev = 6 then some all else none)
    else none
  | 0x06 => if inst < 128 then (if 1 ≤ ev ∧ ev ≤ 3 then some tc else upTo 4) else none
  | 0x07 => if inst = 0 then upTo 2 else none
  | 0x08 => if inst = 0 then upTo 4 else none
  | 0x09 => if inst < 2 then upTo 4 else none
  | 0x0A => if inst < 25 then upTo 2 else none
  | 0x0B => if inst < 2 then upTo 2 else none
  | 0x10 => if inst = 0 then upTo 3 else none
  | 0x11 => if inst = 0 then upTo 3 else none
  | 0x12 => if inst = 0 then upTo 4 else none
  | 0x13 => if inst = 0 then upTo 3 else none
  | 0x14 => if inst < 4 then upTo 3 else if inst = 4 then upTo 4 else none
  | 0x23 => if inst = 0 then upTo 1 else none
  | _ => none

/-- PMC_SEL: select the event of counter k, or refuse. DEDUCED (log 104). -/
def Dev.pmcSel (d : Dev) (q k : Nat) (v : Word) : Dev :=
  let a : At := ⟨q, k⟩
  let blk := PMC_SEL_BLOCK.of v
  if d.sys.formS && 0x10 ≤ blk && blk ≤ 0x14 then d.put PMC_SEL_STATUS a ST_UNSUPPORTED
  else
    match pmcEvent blk (PMC_SEL_INSTANCE.of v) (PMC_SEL_EVENT.of v) with
    | some m =>
      if PMC_SEL_FILTER.of v &&& m ≠ PMC_SEL_FILTER.of v then d.put PMC_SEL_STATUS a ST_BAD_PARAM
      else (d.wrFields .PMC_SEL a v).put PMC_SEL_STATUS a ST_OK
    | none => d.put PMC_SEL_STATUS a ST_BAD_PARAM

/-- PMC_CNT: the written count. -/
def Dev.pmcCntWrite (d : Dev) (q k : Nat) (v : Word) : Dev := d.wrFields .PMC_CNT ⟨q, k⟩ v

/-- R455: a read of PMC_CNT latches the chained partner of an even counter. -/
def Dev.pmcCntRead (d : Dev) (q k : Nat) : Dev :=
  if k % 2 = 0 && d.chained q (k + 1) then d.put PMC_CHAINHI_VALUE (onDie q) (d.get PMC_CNT_VALUE ⟨q, k + 1⟩) else d

/-- COUNTER_WRAP: the events that take counter k past 2^48 - 1 are counted. -/
def Dev.pmcWraps (d : Dev) (q k : Nat) : Dev :=
  if d.bit PMC_SEL_EN ⟨q, k⟩ && !d.chained q k then d.pmcAdd q k (2 ^ 48 - d.get PMC_CNT_VALUE ⟨q, k⟩) else d

/-- PMC_TRIG.GO. -/
def Dev.pmcGo (d : Dev) : Dev := d.snapTrigger 2
/-- PMC_TRIG.PERIOD has passed. -/
def Dev.pmcPeriod (d : Dev) : Dev := if d.get PMC_TRIG_PERIOD onMod = 0 then d else d.snapTrigger 1

end Sys2Proof.Machine
end

