-- ==== Sys2Proof/Machine/Start.lean ====
section
/-! DEFINITION. Descriptors (spec/09): local checks (R238, R264), reading and starting the next one (R233, R240), parking and
firing (R282, R283), flushing (R248). -/

namespace Sys2Proof.Machine

/-! ## Local checks (R236 to R238, R264) -/

/-- Bits [lo+w-1:lo] as a mask. -/
def fieldMask (lo w : Nat) : Nat := (2 ^ w - 1) <<< lo

/-- The buffer fields: LADDR, SHARD, and NSHARD with it. -/
def bufMask (x : Nat) : Nat := fieldMask 8 1 ||| fieldMask 128 64 ||| (if dShard x then fieldMask 16 8 else 0)

/-- The bits that a work descriptor uses (R236: fields that an opcode does not use are reserved). -/
def usedBits (x : Nat) : Nat :=
  let c := dOpcode x
  let base := fieldMask 0 8 ||| fieldMask 10 2 ||| fieldMask 32 96 ||| (if dTrig x then fieldMask 448 64 else 0)
  let tc := fieldMask 12 4
  let conn := fieldMask 288 18
  let inl := fieldMask 9 1 ||| (if dInline x then fieldMask 320 128 ||| fieldMask 448 64 else bufMask x)
  if c = opNOP then base
  else if c = opPUT then base ||| tc ||| conn ||| inl ||| fieldMask 192 96
  else if c = opGET then base ||| tc ||| conn ||| bufMask x ||| fieldMask 192 96
  else if c = opFADD || c = opSWAP then base ||| tc ||| conn ||| fieldMask 128 160 ||| fieldMask 320 64
  else if c = opCSWAP then base ||| tc ||| conn ||| fieldMask 128 160 ||| fieldMask 320 128
  else if c = opPUT_CTR then base ||| tc ||| conn ||| bufMask x ||| fieldMask 192 96 ||| fieldMask 320 18 ||| fieldMask 352 32
  else if c = opSEND then base ||| tc ||| conn ||| inl ||| fieldMask 192 64 ||| fieldMask 256 16
  else if c = opTRECV then
    base ||| tc ||| bufMask x ||| fieldMask 192 64 ||| fieldMask 256 16 ||| fieldMask 320 64 ||| fieldMask 384 25 |||
      fieldMask 416 25
  else if c = opCOLL then
    base ||| tc ||| bufMask x ||| fieldMask 192 64 ||| fieldMask 256 12 ||| fieldMask 288 16 ||| fieldMask 320 25
  else fieldMask 0 8 ||| fieldMask 32 96 ||| bufMask x

/-- Some bit of a descriptor that it does not use is set. -/
def reservedSet (x : Nat) : Bool := x &&& ((2 ^ 512 - 1) ^^^ usedBits x) ≠ 0

/-- The opcodes that name a connection. -/
def namesConn (c : Nat) : Bool := c = opPUT || c = opGET || isAtomic c || c = opPUT_CTR || c = opSEND

/-- The fragments of a shard table: address, and length with the reserved bytes above it. -/
def shardFrags (x : Nat) (l : List (Word × Word)) : List (Nat × Nat) :=
  ((l ++ List.replicate 256 (0, 0)).take (dNshard x + 1)).map (fun (p : Word × Word) => (p.1.toNat, p.2.toNat))

/-- R237, R238: the shards of a descriptor do not fit it, or its table is not aligned to 16 bytes (that this fails the local checks is
a DESIGN CHOICE). DESIGN CHOICE (log 148). -/
def shardBad (x : Nat) (fr : List (Nat × Nat)) : Bool :=
  dShard x && (dLaddr x % 16 ≠ 0 || fr.any (fun p => p.2 = 0 || p.2 ≥ 2 ^ 32) ||
    (fr.map (·.2)).sum ≠ (if dOpcode x = opCOLL then coBytes x else dLen x))

/-- R238 and R264 but for the connection: a descriptor of a queue of kind k fails its local checks. The shard table of one with TRIG
is read, and judged, when it fires (R237, R283). DEDUCED (log 88, 89). -/
def Dev.descBad (d : Dev) (q k x : Nat) (fr : List (Nat × Nat)) : Bool :=
  let c := dOpcode x
  let known := c ≤ 8 || c = opCOLL || c = opRECV
  !known || ((k = kRQ) ≠ (c = opRECV)) || reservedSet x ||
  (dInline x && dLen x > (if dTrig x then 16 else 24)) ||
  (c = opNOP && dLen x ≠ 0) || (isAtomic c && dLen x ≠ 8) || (!dTrig x && shardBad x fr) ||
  (c = opCOLL && d.colBad q x) ||
  ((c = opPUT || c = opGET || c = opPUT_CTR) && dRaddr x + dLen x > 2 ^ 48) ||
  (isAtomic c && (dRaddr x % 8 ≠ 0 || dRaddr x ≥ 2 ^ 35)) ||
  (c = opPUT_CTR && bits (dOpa x) 16 2 ≠ 0)

/-! ## Starting -/

/-- R238: TARGET names a connection that the queue's function owns. -/
def Dev.ownsConn (d : Dev) (q f target : Nat) : Option Conn :=
  if !d.inRange q f 0 target then none
  else (d.conn (q * 262144 + target)).filter (fun x => x.func = f && (x.state = connOPEN || x.state = connERROR))

/-- The descriptor completes at its start, and its queue enters ERROR when `bad` (R238). -/
def Dev.endStart (d : Dev) (i status : Nat) (bad : Bool) : Dev :=
  d.finishOp i status 0 0 (match d.op i with | some o => descData o.desc | none => 0) bad

/-- A descriptor of an opcode that names a connection starts (R263, R296, Table 10-2). -/
def Dev.startConn (d : Dev) (i : Nat) (o : Op) : Dev :=
  let c := dOpcode o.desc
  if !d.bit RMX_CTRL_EN (onDie o.die) || (c = opSEND && !d.bit MTC_CTRL_EN (onDie o.die)) then d.endStart i ST_UNSUPPORTED false
  else match d.ownsConn o.die o.func (dTarget o.desc) with
    | none => d.endStart i ST_BAD_PARAM true
    | some x =>
      let o := { o with conn := o.die * 262144 + dTarget o.desc }
      if x.state = connERROR then d.endStart i ST_CONN_ERROR false
      else if (c = opPUT || c = opGET) && dLen o.desc = 0 then d.endStart i ST_OK false
      else if c = opSEND then (d.setOp i o).startSend i o
      else (d.setOp i o).prep i

/-- A descriptor runs (R240, R283): by its opcode. -/
def Dev.runOp (d : Dev) (i : Nat) : Dev :=
  match d.op i with
  | none => d
  | some o =>
    let c := dOpcode o.desc
    let o := { o with stage := 0, keys := d.get QUE_KEYRIGHTS_KEYS ⟨o.die, o.qn⟩ }
    let d := d.setOp i o
    if c = opNOP then d.endStart i ST_OK false
    else if namesConn c then d.startConn i o
    else if c = opTRECV then
      (if !d.bit MTC_CTRL_EN (onDie o.die) then d.endStart i ST_UNSUPPORTED false else d.startTrecv i o)
    else d.colStart i o

/-- The access that reads a shard table. -/
def Dev.shardAccess (d : Dev) (q n : Nat) (x : Queue) (desc : Nat) : XAcc :=
  ⟨x.xspace, dLaddr desc, 16 * (dNshard desc + 1), 0, 0, 0, 0, x.qnum, d.engine q n, none⟩

/-- R237, R283: a descriptor that fired reads its shard table; a table that cannot be read ends it, and its queue enters ERROR
(Table 12-4). DESIGN CHOICE (log 148). -/
def Dev.readTable (d : Dev) (i : Nat) : Dev :=
  match d.op i with
  | none => d
  | some o =>
    match d.queue o.die o.kind o.qn with
    | none => d
    | some x =>
      match d.translateRange o.die (d.shardAccess o.die o.qn x o.desc) 3 with
      | (d, ⟨_, _, some (.trap cause, a)⟩) => (d.setOp i { o with stage := 0, busy := true }).trapInit o.die a cause (.table i)
      | (d, ⟨_, _, some (.notPermitted, _)⟩) => d.endStart i ST_NOT_PERMITTED true
      | (d, ⟨_, _, some _⟩) => d.endStart i ST_WALK_ERROR true
      | (d, ⟨parts, ents, none⟩) => (d.setOp i { o with stage := 0, busy := true }).hostGet o.die o.func parts ents (.table i)

/-- The entries of a shard table from its bytes (R237): address, and length with the reserved bytes above it. -/
def tableFrags (n : Nat) (data : List Byte) : List (Nat × Nat) :=
  (List.range n).map (fun j => (ofBytes ((data.drop (16 * j)).take 8), ofBytes ((data.drop (16 * j + 8)).take 8)))

/-- The shard table of a descriptor that fired has been read: the descriptor runs with its fragments. DESIGN CHOICE (log 148). -/
def Dev.tableDone (d : Dev) (i : Nat) (ok : Bool) (data : List Byte) : Dev :=
  match d.op i with
  | none => d
  | some o =>
    let fr := tableFrags (dNshard o.desc + 1) data
    if !ok then (d.inc .HST_RDERR (onDie o.die)).endStart i ST_HOST_ERROR false
    else if shardBad o.desc fr then d.endStart i ST_BAD_PARAM true
    else (d.setOp i { o with frags := fr, busy := false }).runOp i

/-- R283: fired descriptors run in firing order; one of a PAUSED queue waits for RESUME, one of a queue in ERROR or DRAINING
completes ST_FLUSHED. -/
def Dev.runFired (d : Dev) : Dev :=
  let l := d.hst.fired
  d.each l (fun i d => match d.op i with
    | none => { d with hst := { d.hst with fired := dropFirst i d.hst.fired } }
    | some o =>
      match d.queue o.die o.kind o.qn with
      | none => { d with hst := { d.hst with fired := dropFirst i d.hst.fired } }
      | some x =>
        if x.state = qPAUSED then d
        else
          let d := { d with hst := { d.hst with fired := dropFirst i d.hst.fired } }
          if x.state ≠ qACTIVE then d.endStart i ST_FLUSHED false else if dShard o.desc then d.readTable i else d.runOp i)

/-- Parked descriptors of a die. -/
def Dev.parked (d : Dev) (q : Nat) : Nat := Tab.count d.hst.ops (fun _ o => o.die = q && o.stage = 1)

/-- R282: a descriptor with TRIG = 1 is parked, and fires at once when its counter has reached THRESH. -/
def Dev.park (d : Dev) (i : Nat) (o : Op) : Dev :=
  if !d.inRange o.die o.func 2 (dCtr o.desc) then d.endStart i ST_NOT_PERMITTED false
  else if d.parked o.die ≥ 16384 then d.endStart i ST_NO_RESOURCE false
  else
    ({ ((d.arrivalDie o.die).setOp i { o with stage := 1, order := d.hst.parkCtr }) with hst :=
      { ((d.arrivalDie o.die).setOp i { o with stage := 1, order := d.hst.parkCtr }).hst with parkCtr := d.hst.parkCtr + 1 } }.fireTriggers
        o.die (dCtr o.desc)).runFired

/-! ## Reading the next descriptor (R233, R237, R240) -/

/-- The access that reads descriptor index `i` of a ring. -/
def Dev.fetchAccess (d : Dev) (q n : Nat) (x : Queue) (i : Nat) : XAcc :=
  ⟨x.xspace, x.slotAddr i 64, 64, 0, 0, 0, 0, x.qnum, d.engine q n, none⟩

/-- A fetch stopped: the queue stalls at the descriptor, or enters ERROR (Table 12-4). -/
def Dev.fetchStop (d : Dev) (q k n : Nat) (x : Queue) (t : Tr) (a : XAcc) : Dev :=
  match t with
  | .trap cause => (d.setQueue q k n { x with blocked := true }).trapInit q a cause (.queue k n)
  | .notPermitted => d.queueError q k n ST_NOT_PERMITTED x.ci
  | _ => d.queueError q k n ST_WALK_ERROR x.ci

/-- Translate the ring and the shard table of a descriptor that starts (not one with TRIG): what stopped, if anything. -/
def Dev.fetch (d : Dev) (q n : Nat) (x : Queue) (i desc : Nat) : Dev × Option (Tr × XAcc) :=
  let r : Dev × Option (Tr × XAcc) :=
    if x.issued then (d, none)
    else match d.translate q (d.fetchAccess q n x i) with
      | (d, .ok _ _) => (d, none)
      | (d, t) => (d, some (t, d.fetchAccess q n x i))
  match r with
  | (d, some s) => (d, some s)
  | (d, none) =>
    if !dShard desc || dTrig desc then (d, none)
    else match d.translateRange q (d.shardAccess q n x desc) 3 with
      | (d, ⟨_, _, s⟩) => (d, s)

/-- R240: descriptors of a work queue start in index order, subject to FENCE: none starts behind one whose access trapped
(R279), behind a SEND that waits for a rendezvous region (R300), or, with FENCE, before the earlier ones have completed.
DEDUCED (log 89). -/
def Dev.mayStart (d : Dev) (q n desc : Nat) : Bool :=
  let l := d.opsOf q kWQ n
  !d.stalled q n &&
  !l.any (fun e => d.sendWaits e.2) && (!dFence desc || l = [])

/-- A new descriptor record. -/
def Dev.newOp (d : Dev) (q k n : Nat) (x : Queue) (desc : Nat) (fr : List (Nat × Nat)) : Dev × Nat × Op :=
  let i := d.hst.nextOp
  let o : Op :=
    { die := q, kind := k, qn := n, func := x.func, index := x.ci, desc := desc, keys := 0, xspace := x.xspace,
      frags := if dShard desc then fr else [(dLaddr desc, if dOpcode desc = opCOLL then coBytes desc else dLen desc)],
      stage := 0, order := 0, len := dLen desc, off := 0, busy := false, split := false, left := 0, status := ST_OK, bytes := 0,
      data := 0, aux := 0, msn := 0, msg := 0, rndv := 0, conn := noConn, rkey := 0 }
  ({ d with hst := { d.hst with ops := Tab.put d.hst.ops i o, nextOp := i + 1 } }, i, o)

/-- The read of the next descriptor of a work queue has returned: CI advances, a completion is owed, the descriptor is
checked, and starts or is parked. -/
def Dev.startWork (d : Dev) (q n : Nat) (x : Queue) (desc : Nat) (fr : List (Nat × Nat)) (ok : Bool) : Dev :=
  if !d.mayStart q n desc then d
  else if !d.cqAdmits q x then d.cqRefuse q x
  else match d.fetch q n x x.ci desc with
    | (d, some (t, a)) => d.fetchStop q kWQ n x t a
    | (d, none) =>
      let d := (d.cqAdmit q x).setQueue q kWQ n { x with ci := (x.ci + 1) % 2 ^ 32, issued := false, owes := x.owes + 1 }
      let d := d.event q blkQUE 0 0x02 0 1
      let (d, i, o) := d.newOp q kWQ n x desc fr
      if !ok then (d.inc .HST_RDERR (onDie q)).endStart i ST_HOST_ERROR false
      else if d.descBad q kWQ desc fr then d.endStart i ST_BAD_PARAM true
      else if dTrig desc then
        (if namesConn (dOpcode desc) && (d.ownsConn q x.func (dTarget desc)).isNone then d.endStart i ST_BAD_PARAM true
         else d.park i o)
      else d.runOp i

/-- An arrival that waited for a receive descriptor is handled again. -/
def Dev.redispatch (d : Dev) (q : Nat) (p : Packet) : Dev :=
  if typeMc p.type then d.mcastPlace q p.inc { p with inc := 0 } else d.mtcRequest q p

/-- The read of the next receive descriptor, which an arrival needs, has returned: CI advances (R231), a completion is owed; an
ill-formed one completes ST_BAD_PARAM, any other goes to the arrivals that wait. DEDUCED (log 86). DESIGN CHOICE (log 147). -/
def Dev.readRecv (d : Dev) (q n : Nat) (x : Queue) (desc : Nat) (fr : List (Nat × Nat)) (ok : Bool) : Dev :=
  if x.waiting = [] then d
  else if !d.cqAdmits q x then d.cqRefuse q x
  else match d.fetch q n x x.ci desc with
    | (d, some (t, a)) => d.fetchStop q kRQ n x t a
    | (d, none) =>
      let y := { x with ci := (x.ci + 1) % 2 ^ 32, issued := false, owes := x.owes + 1, order := x.order ++ [(x.ci, none)] }
      let d := (d.cqAdmit q x).event q blkQUE 0 0x02 0 1
      if !ok || d.descBad q kRQ desc fr then
        let st := if ok then ST_BAD_PARAM else ST_HOST_ERROR
        ((((d.setQueue q kRQ n y).rqLimit q n).when (!ok) (·.inc .HST_RDERR (onDie q))).complete q kRQ n x.ci (dCookie desc) 0 st 0 0).queueError
          q kRQ n st x.ci
      else
        ((d.setQueue q kRQ n { y with ready := x.ready ++ [(x.ci, ⟨desc, fr⟩)], waiting := [] }).rqLimit q n).each x.waiting
          (fun p d => d.redispatch q p)

/-- R248: the next descriptor of a queue in ERROR or DRAINING is read and completes ST_FLUSHED, once those that have started are
complete; those of a receive queue complete in their order. DEDUCED (log 89). -/
def Dev.flushNext (d : Dev) (q k n : Nat) (x : Queue) (desc : Nat) (ok : Bool) : Dev :=
  if k = kWQ && (d.opsOf q k n).any (fun e => e.2.stage = 0) then d
  else if !d.cqAdmits q x then d.cqRefuse q x
  else
    let d := ((d.cqAdmit q x).setQueue q k n { x with ci := (x.ci + 1) % 2 ^ 32, issued := false, owes := x.owes + 1,
                                                       order := if k = kRQ then x.order ++ [(x.ci, none)] else x.order }).when
      (k = kRQ) (·.rqLimit q n)
    (d.when (!ok) (·.inc .HST_RDERR (onDie q))).complete q k n x.ci (dCookie desc) 0 ST_FLUSHED 0 (if k = kWQ then descData desc else 0)

/-- DESCRIPTOR_START: the read of the descriptor at the head of a work or receive queue, and of its shard table, returns with
these bytes, or fails (`ok` false). DEDUCED (log 60). -/
def Dev.descriptorStart (d : Dev) (q k n : Nat) (desc : BitVec 512) (shards : List (Word × Word)) (ok : Bool) : Dev :=
  let x := desc.toNat
  let fr := shardFrags x shards
  match d.queue q k n with
  | none => d
  | some y =>
    if y.fill = 0 || y.blocked || k > kRQ then d
    else if y.state = qERROR || y.state = qDRAINING then d.flushNext q k n y x ok
    else if y.state ≠ qACTIVE then d
    else if k = kRQ then d.readRecv q n y x fr ok
    else d.startWork q n y x fr ok

end Sys2Proof.Machine
end

