-- ==== Sys2Proof/Machine/QueueCmds.lean ====
section
/-! DEFINITION. Commands on queues (spec/09): doorbells (R229, R232, R235), counters (R281), queue commands (R246 to R248),
the stall timer (R250), queue ranges (R230). -/

namespace Sys2Proof.Machine

/-- Function f of port q is on the bus: its physical function was enabled at the last PERST (R224, Table 9-13).
DEDUCED (log 120). -/
def Dev.funcOn (d : Dev) (q f : Nat) : Bool := f / 64 ≤ Tab.get d.hst.numpf 0 q

/-- What a function of a port does, if it is on the bus. DEDUCED (log 120). -/
def Dev.whenFunc (d : Dev) (q f : Nat) (g : Dev → Dev) : Dev := if d.funcOn q f then g d else d

/-! ## Doorbells -/

/-- R229, R232: a write to the doorbell page of a work or receive queue; `ok` tells that it is one aligned 64-bit write to the
doorbell slot. -/
def Dev.producerDoorbell (d : Dev) (q k f n : Nat) (w : Word) (ok : Bool) : Dev :=
  match (if ok then d.globalOf q f k n else none) with
  | none => d.inc .HST_DBERR (onDie q)
  | some g =>
    match d.queue q k g with
    | none => d.inc .HST_DBIGN (onDie q)
    | some x =>
      let t := bits w.toNat 0 32
      if x.state = qERROR || x.state = qDRAINING then d.inc .HST_DBIGN (onDie q)
      else if idx32 t x.ci > x.size || idx32 t x.ci < x.fill then
        (d.inc .HST_DBERR (onDie q)).queueError q k g ST_DOORBELL t
      else
        let d := (d.setQueue q k g { x with pi := t, bell := t }).event q blkQUE 0 0x01 0 1
        if k = kRQ then d.rqLimit q g else d

/-- R243: ARM of a completion or event queue: at once when it holds an entry. -/
def Dev.armQueue (d : Dev) (q k g : Nat) (x : Queue) : Dev :=
  let d := d.setQueue q k g { x with armed := true }
  if x.fill = 0 then d else if k = kCQ then d.cqNotify q g else d.eqNotify q g

/-- Try the ring of a completion or event queue: held entries and waiting events are written while it has room. -/
def Dev.drainQueue (d : Dev) (q k g : Nat) : Dev := if k = kCQ then d.drainCq q g 128 else d.writeEvents q g 4096

/-- R235, R243: a doorbell of a completion or event queue. A ring whose write failed is tried again (R317). -/
def Dev.consumerDoorbell (d : Dev) (q k f n : Nat) (w : Word) (ok : Bool) : Dev :=
  match (if ok then d.globalOf q f k n else none) with
  | none => d.inc .HST_DBERR (onDie q)
  | some g =>
    match d.queue q k g with
    | none => d.inc .HST_DBIGN (onDie q)
    | some x =>
      let c := bits w.toNat 0 32
      if idx32 c x.ci > x.fill then d.inc .HST_DBERR (onDie q)
      else
        let x := { x with ci := c, bell := c, failed := false }
        let d := (d.setQueue q k g x).event q blkQUE 0 0x01 0 1
        (if bits w.toNat 63 1 = 1 then d.armQueue q k g x else d).drainQueue q k g

/-! ## Module counters and key rights (R229, R281, R316) -/

/-- The path code of an answer on BAR4 of a host port. -/
def bar4Path (q : Nat) : Nat := 16 + q

/-- A BAR4 write. -/
def Dev.counterWrite (d : Dev) (q n : Nat) (v : Word) : Dev := d.setCtr q n v.toNat

/-- A BAR4 AtomicOp answers the old value. -/
def Dev.counterAtomic (d : Dev) (q n op : Nat) (a b : Word) : Dev :=
  (d.emit (.readValue (bar4Path q) (BitVec.ofNat 64 (d.ctr q n)))).ctrAtomic q n op a.toNat b.toNat

/-- A key-rights word of a work queue. -/
def Dev.keyrightsWrite (d : Dev) (q n : Nat) (v : Word) : Dev := d.wrFields .QUE_KEYRIGHTS ⟨q, n⟩ v

/-! ## Queue commands (R245 to R247) -/

def cmdWord (d : Dev) (q f w : Nat) : Nat := (d.rd .QUE_CMDBUF ⟨q, f * 8 + w⟩).toNat
def Dev.imgKind (d : Dev) (q f : Nat) : Nat := bits (cmdWord d q f 0) 5 2
def Dev.imgQnum (d : Dev) (q f : Nat) : Nat := bits (cmdWord d q f 2) 0 16

/-- Record the end of a queue command. -/
def Dev.queEnd (d : Dev) (q f st : Nat) : Dev := (d.put QUE_CMD_STATUS ⟨q, f⟩ st).putB QUE_CMD_BUSY ⟨q, f⟩ false

/-- A queue command of function f, ignored while one runs. -/
def Dev.queCmd (d : Dev) (q f : Nat) (act : Nat → Nat → Dev → Dev) : Dev :=
  if d.bit QUE_CMD_BUSY ⟨q, f⟩ then d else act (d.imgKind q f) (d.imgQnum q f) d

/-- The number of MSI-X vectors of a function (Table 9-2). -/
def vectorsOf (f : Nat) : Nat := if f % 64 = 0 then 1024 else 64

/-- R309: a translation space that a function may name. -/
def Dev.spaceOk (d : Dev) (q f s : Nat) : Bool :=
  s < 4096 && d.bit XLT_SPACE_EN ⟨q, s⟩ && d.get XLT_SPACE_OWNER ⟨q, s⟩ = f

/-- The context that the command buffer holds (Table 9-8). -/
def Dev.imgQueue (d : Dev) (q f : Nat) : Queue :=
  let w := cmdWord d q f
  let k := bits (w 0) 5 2
  { func := f, qnum := bits (w 2) 0 16, base := bits (w 0) 12 52 * 4096, log2 := bits (w 0) 0 5, pi := bits (w 1) 0 32,
    ci := bits (w 1) 32 32, cqn := bits (w 2) 16 16, eqn := bits (w 2) 32 10, xspace := bits (w 2) 48 16,
    vector := bits (w 3) 48 11, limit := if k = kEQ then bits (w 4) 0 10 else bits (w 4) 0 20, state := qACTIVE, lasterr := 0,
    armed := false, owed := 0, owes := 0, held := [], stall := false, ready := [], waiting := [], blocked := false, issued := false,
    failed := false, bell := bits (w 1) 0 32, cmd := 0, below := true, order := [], evs := [], later := [], modBusy := false, irqDue := false }

/-- A queue of a function named locally is ACTIVE. -/
def Dev.localActive (d : Dev) (q f k n : Nat) : Bool := match d.localQueue q f k n with | some (_, x) => x.state = qACTIVE | none => false

/-- CREATE's conditions but for FREE and range (Table 9-9). -/
def Dev.createOk (d : Dev) (q f k : Nat) (x : Queue) : Bool :=
  6 ≤ x.log2 && x.log2 ≤ 20 && x.pi = x.ci && (k ≤ kRQ || x.pi = 0) && d.spaceOk q f x.xspace &&
  (k > kRQ || d.localActive q f kCQ x.cqn) && (k ≠ kCQ || d.localActive q f kEQ x.eqn) && (k ≠ kEQ || x.vector < vectorsOf f)

/-- CREATE. -/
def Dev.queueCreate (d : Dev) (q f : Nat) : Dev :=
  d.queCmd q f (fun k n d =>
    let x := d.imgQueue q f
    match d.globalOf q f k n with
    | none => d.queEnd q f ST_BAD_PARAM
    | some g =>
      if (d.queue q k g).isSome then d.queEnd q f ST_BAD_STATE
      else if !d.createOk q f k x then d.queEnd q f ST_BAD_PARAM
      else
        let d := (d.arrivalDie q).setQueue q k g x
        (d.when (k = kWQ) (·.put QUE_KEYRIGHTS_KEYS ⟨q, g⟩ (bits (cmdWord d q f 3) 0 32))).queEnd q f ST_OK)

/-- PAUSE. -/
def Dev.queuePause (d : Dev) (q f : Nat) : Dev :=
  d.queCmd q f (fun k n d =>
    match d.localQueue q f k n with
    | some (g, x) =>
      if k ≤ kRQ && x.state = qACTIVE then
        (d.setQueue q k g { x with state := qPAUSED, cmd := 2 }).putB QUE_CMD_BUSY ⟨q, f⟩ true
      else d.queEnd q f ST_BAD_STATE
    | none => d.queEnd q f ST_BAD_STATE)

/-- The descriptors of a queue in progress: started and not completed; a posted receive that nothing has matched has not
started (R303). -/
def Dev.inProgress (d : Dev) (q k n : Nat) : Bool :=
  ((d.opsOf q k n).any (fun e => e.2.stage = 0 && !(d.posted q e.2.func).contains e.1)) ||
  (match d.queue q k n with | some x => x.order ≠ [] | none => false)

/-- PAUSE completes. -/
def Dev.queuePauseDone (d : Dev) (q k g : Nat) : Dev :=
  match d.queue q k g with
  | some x => if x.cmd = 2 && !d.inProgress q k g then (d.setQueue q k g { x with cmd := 0 }).queEnd q x.func ST_OK else d
  | none => d

/-- RESUME. -/
def Dev.queueResume (d : Dev) (q f : Nat) : Dev :=
  d.queCmd q f (fun k n d =>
    match d.localQueue q f k n with
    | some (g, x) =>
      if k ≤ kRQ && x.state = qPAUSED then ((d.setQueue q k g { x with state := qACTIVE }).queEnd q f ST_OK).runFired
      else d.queEnd q f ST_BAD_STATE
    | none => d.queEnd q f ST_BAD_STATE)

/-- Entries that a completion queue holds for another queue. -/
def Dev.heldFor (d : Dev) (q k : Nat) (x : Queue) : Bool :=
  match d.cqOf q x with
  | some (_, c) => c.held.any (fun e => bits e 128 16 = x.qnum && bits e 144 2 = k)
  | none => false

/-- R248: the flush of a queue is complete: CI = PI and none of its completions is owed. -/
def Dev.flushed (d : Dev) (q k g : Nat) (x : Queue) : Bool :=
  x.fill = 0 && d.opsOf q k g = [] && x.order = [] && !d.heldFor q k x

/-- RECOVER. -/
def Dev.queueRecover (d : Dev) (q f : Nat) : Dev :=
  d.queCmd q f (fun k n d =>
    match d.localQueue q f k n with
    | some (g, x) =>
      if k ≤ kRQ && x.state = qERROR && d.flushed q k g x then
        (d.setQueue q k g { x with state := qACTIVE, pi := x.ci, blocked := false }).queEnd q f ST_OK
      else d.queEnd q f ST_BAD_STATE
    | none => d.queEnd q f ST_BAD_STATE)

/-- Some queue of a function of kind k names a queue. -/
def Dev.boundTo (d : Dev) (q f : Nat) (k : Nat) (p : Queue → Bool) : Bool :=
  d.hst.queues.any (fun e => e.1 / 65536 = q * 4 + k && e.2.func = f && p e.2)

/-- DESTROY. -/
def Dev.queueDestroy (d : Dev) (q f : Nat) : Dev :=
  d.queCmd q f (fun k n d =>
    match d.localQueue q f k n with
    | none => d.queEnd q f ST_BAD_STATE
    | some (g, x) =>
      if k = kCQ then
        (if d.boundTo q f kWQ (fun y => y.cqn = n) || d.boundTo q f kRQ (fun y => y.cqn = n) then d.queEnd q f ST_BAD_STATE
         else (d.freeQueue q k g).queEnd q f ST_OK)
      else if k = kEQ then
        (if d.boundTo q f kCQ (fun y => y.eqn = n) then d.queEnd q f ST_BAD_STATE else (d.freeQueue q k g).queEnd q f ST_OK)
      else ((d.setQueue q k g { x with state := qDRAINING, cmd := 5 }).putB QUE_CMD_BUSY ⟨q, f⟩ true).giveUp q k g)

/-- R152: the completion ledger of a queue that is destroyed: what it still owes raises COMPLETION and is written ST_FLUSHED. The
cookies and indices of completions that are missing are open. DEDUCED (log 83). -/
def Dev.settleOwed (d : Dev) (q k g : Nat) (x : Queue) : Dev :=
  if x.owes = 0 then d
  else
    let d := d.raise srcCONSERVE 5 (locUnit q 3 (g % 4)) g
    match d.globalOf q x.func kCQ x.cqn with
    | none => d.setQueue q k g { x with owes := 0 }
    | some cq => d.each (List.range x.owes) (fun _ d =>
        (d.freed.freed.countCompletion q ST_FLUSHED).writeCqe q cq (cqe d.freeVal 0 d.freed.freeVal x.qnum k ST_FLUSHED 0 0))

/-- R248: a flush is complete: a queue that DESTROY drains becomes FREE, once its completion ledger is settled (R152). -/
def Dev.flushComplete (d : Dev) (q k g : Nat) : Dev :=
  match d.queue q k g with
  | none => d
  | some x =>
    if x.state = qDRAINING && d.flushed q k g x then
      let d := d.settleOwed q k g x
      if d.heldFor q k x then d else (d.freeQueue q k g).queEnd q x.func ST_OK
    else d

/-- The words of a context image (Table 9-8). -/
def Dev.queueImage (d : Dev) (q k g : Nat) (x : Queue) : List Nat :=
  [x.base ||| k <<< 5 ||| x.log2, x.pi ||| x.ci <<< 32,
   x.qnum ||| (if k ≤ kRQ then x.cqn else 0) <<< 16 ||| (if k = kCQ then x.eqn else 0) <<< 32 ||| x.xspace <<< 48,
   (if k = kWQ then d.get QUE_KEYRIGHTS_KEYS ⟨q, g⟩ else 0) ||| x.state <<< 32 ||| x.lasterr <<< 40 |||
     (if k = kEQ then x.vector else 0) <<< 48,
   (if k = kRQ || k = kEQ then x.limit else 0) ||| (if k ≥ kCQ then x.armed.toNat else 0) <<< 32 |||
     (if k = kCQ then x.held.length else 0) <<< 34,
   if k = kCQ then x.owed % 2 ^ 32 else 0, 0, 0]

/-- QUERY; a FREE queue reads as an image with STATE 0. -/
def Dev.queueQuery (d : Dev) (q f : Nat) : Dev :=
  d.queCmd q f (fun k n d =>
    let l := match d.localQueue q f k n with
      | some (g, x) => d.queueImage q k g x
      | none => [k <<< 5, 0, n, 0, 0, 0, 0, 0]
    (d.each l.zipIdx (fun (e : Nat × Nat) d => d.wr .QUE_CMDBUF ⟨q, f * 8 + e.2⟩ (BitVec.ofNat 64 e.1))).queEnd q f ST_OK)

/-- R250: the stall timer of a completion queue expires: every work queue bound to it enters ERROR. -/
def Dev.cqStallTimeout (d : Dev) (q g : Nat) : Dev :=
  match d.queue q kCQ g with
  | none => d
  | some c =>
    if !c.stall then d
    else
      let d := d.setQueue q kCQ g { c with stall := false }
      d.each (d.hst.queues.filter (fun e => e.1 / 65536 = q * 4 + kWQ && e.2.func = c.func && e.2.cqn = c.qnum))
        (fun e d => d.queueError q kWQ (e.1 % 65536) ST_CQ_STALL e.2.ci)

/-! ## Ranges (R230, R285) -/

/-- Two ranges overlap. -/
def rangesMeet (a n b m : Nat) : Bool := 0 < n && 0 < m && a < b + m && b < a + n

/-- Some queue of a kind in a range is not FREE. -/
def Dev.queuesIn (d : Dev) (q k base count : Nat) : Bool :=
  d.hst.queues.any (fun e => e.1 / 65536 = q * 4 + k && base ≤ e.1 % 65536 && e.1 % 65536 < base + count)

/-- HST_FNQ. -/
def Dev.fnqWrite (d : Dev) (q f k : Nat) (v : Word) : Dev :=
  let a : At := ⟨q, f * 4 + k⟩
  let b := HST_FNQ_BASE.of v
  let n := HST_FNQ_COUNT.of v
  let meets := (List.range 256).any (fun g => g ≠ f && rangesMeet b n (d.get HST_FNQ_BASE ⟨q, g * 4 + k⟩) (d.get HST_FNQ_COUNT ⟨q, g * 4 + k⟩))
  if meets || b + n > (if k = kEQ then 1024 else 65536) || (f % 64 ≠ 0 && n > (if k = kEQ then 64 else 4096)) then
    d.put HST_FNQ_STATUS a ST_BAD_PARAM
  else if d.queuesIn q k b n || d.queuesIn q k (d.get HST_FNQ_BASE a) (d.get HST_FNQ_COUNT a) then d.put HST_FNQ_STATUS a ST_BAD_STATE
  else (d.wrFields .HST_FNQ a v).put HST_FNQ_STATUS a ST_OK

/-- HST link states (R225): the port finishes training at a rate and width within MAXRATE and MAXWIDTH. -/
def Dev.hostLinkUp (d : Dev) (q rate width : Nat) (flit sris : Bool) : Dev :=
  let a := onDie q
  let cap (f : Fld) : Nat := if d.get f a = 3 then 0 else d.get f a
  if !d.bit HST_CTRL_EN a || d.sys.formS then d
  else
    let r := max (cap HST_CTRL_MAXRATE) (min 3 rate)
    let w := max (cap HST_CTRL_MAXWIDTH) (min 4 width)
    ((((((d.putB HST_STAT_LINK_UP a true).put HST_STAT_RATE a r).put HST_STAT_WIDTH a w).putB HST_STAT_FLIT a
      (r = 0 || (r ≤ 2 && flit))).putB HST_STAT_SRIS a sris).putB HST_STAT_DEGRADED a (r = 3 || w ≥ 3))

end Sys2Proof.Machine
end

