-- ==== Sys2Proof/Machine/RmxCmds.lean ====
section
/-! DEFINITION. Commands on connections and regions (R257 to R259, R276, R278), their ranges (R285, R307). -/

namespace Sys2Proof.Machine

def rmxWord (d : Dev) (q f w : Nat) : Nat := (d.rd .RMX_CMDBUF ⟨q, f * 4 + w⟩).toNat
def Dev.rmxImage (d : Dev) (q f : Nat) (l : List Nat) : Dev :=
  d.each l.zipIdx (fun (e : Nat × Nat) d => d.wr .RMX_CMDBUF ⟨q, f * 4 + e.2⟩ (BitVec.ofNat 64 e.1))

/-- A command of function f with INDEX in the word written: ignored while BUSY, refused while a wipe covers f (R373) or when
INDEX lies outside the function's range (R257). `act` answers the status. -/
def Dev.rmxCmd (d : Dev) (q f kind : Nat) (v : Word) (act : Nat → Dev → Dev × Nat) : Dev :=
  let a : At := ⟨q, f⟩
  if d.bit RMX_CMD_BUSY a then d
  else
    let n := RMX_CMD_INDEX.of v
    let d := d.put RMX_CMD_INDEX a n
    if d.wiping q f then d.put RMX_CMD_STATUS a ST_BAD_STATE
    else if !d.inRange q f kind n then d.put RMX_CMD_STATUS a ST_NOT_PERMITTED
    else match act n d with | (d, st) => d.put RMX_CMD_STATUS a st

/-- Receive trackers in use on a die (R259). -/
def Dev.trackers (d : Dev) (q : Nat) : Nat := Tab.count d.hst.conns (fun c x => connDie c = q && x.rxwin ≠ 0)

/-- R363: a slot holds a connection key for context n of function f under an incarnation. -/
def Dev.keyForConn (d : Dev) (q f n slot inc : Nat) : Bool :=
  d.keyOwner q slot = f &&
  (d.keyState q slot = keyCONN ||
    (d.keyState q slot = keyBOUND && d.get SAG_KEYSLOT_CTX ⟨q, slot⟩ = n && d.get SAG_KEYSLOT_LASTINC ⟨q, slot⟩ < inc))

/-- OPEN (R258). -/
def Dev.openConn (d : Dev) (q f : Nat) (v : Word) : Dev :=
  d.rmxCmd q f 0 v (fun n d =>
    let c := q * 262144 + n
    let w := rmxWord d q f
    let inc := bits (w 1) 0 32
    let slot := bits (w 1) 32 16
    let mwin := bits (w 1) 48 13
    let enc := bits (w 0) 45 1 = 1
    let rxwin := bits (w 0) 48 2
    let p := bits (w 0) 46 2
    if (d.conn c).isSome then (d, ST_BAD_STATE)
    else if rxwin ≠ 0 && d.trackers q ≥ 32768 then (d, ST_NO_RESOURCE)
    else if inc ≤ Tab.get d.hst.lastInc 0 c || mwin = 0 || mwin > 4096 || bits (w 0) 52 12 ≠ 0 || bits (w 3) 28 4 ≠ 0 ||
        (enc && !d.keyForConn q f n slot inc) then (d, ST_BAD_PARAM)
    else
      let x : Conn :=
        { func := f, state := connOPEN, peer := bits (w 0) 0 25, peerConn := bits (w 0) 25 20, enc := enc, profile := p,
          rxwin := rxwin, peerRxwin := bits (w 0) 50 2, inc := inc, keyslot := slot, mwin := mwin, nextPsn := 0, dm := 2 ^ 32 - 1,
          rate := d.rstart q p, lasterr := 0, cut := 0, round := 0, credit := (d.profBurst q p * 8000 : Nat), stamp := d.now,
          sendQ := [], reqs := [], done := [], special := [], ackN := 0, ackPsn := 0, ackTry := 0, ackEcho := false,
          sendMsn := 0, starts := 0, nextMsn := 0, heads := [], serving := [] }
      let d := { d.setConn c x with hst := { (d.setConn c x).hst with lastInc := Tab.set d.hst.lastInc 0 c inc } }
      ((d.arrivalDie q).when enc (·.setKeySlot q slot keyBOUND f n inc), ST_OK))

/-- CLOSE (R259, Table 10-2, R304). -/
def Dev.closeConn (d : Dev) (q f : Nat) (v : Word) : Dev :=
  d.rmxCmd q f 0 v (fun n d =>
    let c := q * 262144 + n
    match d.conn c with
    | none => (d, ST_BAD_STATE)
    | some x =>
      if x.func ≠ f || (x.state ≠ connOPEN && x.state ≠ connERROR) then (d, ST_BAD_STATE)
      else (((d.setConn c { x with state := connCLOSING }).failOps c 0 ST_CONN_ERROR).dropMsgs c, ST_OK))

/-- A placement, read or counter update of a connection is in flight at this end. An increment that is held until the delivered mark
passes its packet (R154) is such an update: freeing the context would lose it (R147). DEDUCED (log 150). -/
def Dev.connBusy (d : Dev) (c : Nat) (x : Conn) : Bool :=
  x.serving ≠ [] || x.special.any (fun (e : Nat × Special) => e.2.ctr && e.2.pending) || d.xlt.traps.any (fun t => match t.2.cont with | .target k _ => k.dconn = c | _ => false)

/-- CLOSING with nothing in flight: FREE, its tracker returned (Table 10-2). DEDUCED (log 150). -/
def Dev.connectionFree (d : Dev) (c : Nat) : Dev :=
  match d.conn c with
  | some x =>
    if x.state = connCLOSING && !d.connBusy c x then { d with hst := { d.hst with conns := Tab.del d.hst.conns c } } else d
  | none => d

/-- The words of a connection image (Table 10-1); a FREE context reads as zero but for nothing. -/
def Conn.image (x : Conn) : List Nat :=
  [x.peer ||| x.peerConn <<< 25 ||| x.enc.toNat <<< 45 ||| x.profile <<< 46 ||| x.rxwin <<< 48 ||| x.peerRxwin <<< 50,
   x.inc ||| x.keyslot <<< 32 ||| x.mwin <<< 48 ||| x.state <<< 61,
   (x.nextPsn % 2 ^ 32) ||| x.dm <<< 32, (x.rate % 2 ^ 20) ||| x.lasterr <<< 20 ||| (x.oldest % 2 ^ 32) <<< 32]

/-- QUERY_CONN. -/
def Dev.queryConn (d : Dev) (q f : Nat) (v : Word) : Dev :=
  d.rmxCmd q f 0 v (fun n d =>
    (d.rmxImage q f (match d.conn (q * 262144 + n) with | some x => x.image | none => [0, 0, 0, 0]), ST_OK))

/-- R300: a region number lies in the function's rendezvous range. -/
def Dev.isRndv (d : Dev) (q f n : Nat) : Bool :=
  d.get MTC_FNRNDV_BASE ⟨q, f⟩ ≤ n && n < d.get MTC_FNRNDV_BASE ⟨q, f⟩ + d.get MTC_FNRNDV_COUNT ⟨q, f⟩

/-- REGISTER (R276, R309). -/
def Dev.registerRegion (d : Dev) (q f : Nat) (v : Word) : Dev :=
  d.rmxCmd q f 1 v (fun n d =>
    let w := rmxWord d q f
    let old := d.region q n
    let base := bits (w 2) 0 18
    let count := bits (w 2) 18 17
    let len := bits (w 1) 0 48
    let counter := bits (w 2) 59 1 = 1
    let a : At := ⟨q, f * 3 + 2⟩
    if d.isRndv q f n then (d, ST_NOT_PERMITTED)
    else if old.state ≠ regFREE then (d, ST_BAD_STATE)
    else if len = 0 || (counter && len ≠ 8 * count) || count > 65536 || !d.spaceOk q f (bits (w 1) 48 16) ||
        (count ≠ 0 && (base < d.get RMX_FNRES_BASE a || base + count > d.get RMX_FNRES_BASE a + d.get RMX_FNRES_COUNT a)) then (d, ST_BAD_PARAM)
    else
      let gen := (old.gen + 1) % 16384
      let d := d.setRegion q n ⟨w 0, len, bits (w 1) 48 16, base, count, f, gen, regVALID, counter, bits (w 2) 60 3, bits (w 3) 0 32, 0, none⟩
      ((d.arrivalDie q).wr .RMX_CMDBUF ⟨q, f * 4⟩ (BitVec.ofNat 64 ((w 0) / 2 ^ 32 * 2 ^ 32 + rkeyOf n gen)), ST_OK))

/-- REVOKE, phase 1 (R278). -/
def Dev.revokeRegion (d : Dev) (q f : Nat) (v : Word) : Dev :=
  d.rmxCmd q f 1 v (fun n d =>
    let r := d.region q n
    if d.isRndv q f n then (d, ST_NOT_PERMITTED)
    else if r.state ≠ regVALID && r.state ≠ regBAD then (d, ST_BAD_STATE)
    else (d.setRegion q n { r with state := regREVOKING, eqn := some (bits (rmxWord d q f 0) 0 10) }, ST_OK))

/-- The words of a region image (Table 10-10). -/
def Region.image (r : Region) : List Nat :=
  [r.base, r.len ||| r.xspace <<< 48,
   r.ctrbase ||| r.ctrcount <<< 18 ||| r.owner <<< 35 ||| r.gen <<< 43 ||| r.state <<< 57 ||| r.counter.toNat <<< 59 |||
     r.rights <<< 60, r.keyrights ||| (r.inflight % 2 ^ 32) <<< 32]

/-- QUERY_REG. -/
def Dev.queryReg (d : Dev) (q f : Nat) (v : Word) : Dev :=
  d.rmxCmd q f 1 v (fun n d => if d.isRndv q f n then (d, ST_NOT_PERMITTED) else (d.rmxImage q f (d.region q n).image, ST_OK))

/-- Connections (kind 0) or regions (kind 1) in a range that are not FREE. -/
def Dev.resIn (d : Dev) (q kind base count : Nat) : Bool :=
  (kind = 0 && d.hst.conns.any (fun e => connDie e.1 = q && base ≤ e.1 % 262144 && e.1 % 262144 < base + count)) ||
  (kind = 1 && d.hst.regions.any (fun e => e.1 / 262144 = q && base ≤ e.1 % 262144 && e.1 % 262144 < base + count &&
    e.2.state ≠ regFREE))

/-- RMX_FNRES. -/
def Dev.fnresWrite (d : Dev) (q f kind : Nat) (v : Word) : Dev :=
  let a : At := ⟨q, f * 3 + kind⟩
  let b := RMX_FNRES_BASE.of v
  let n := RMX_FNRES_COUNT.of v
  let meets := (List.range 256).any (fun g => g ≠ f &&
    rangesMeet b n (d.get RMX_FNRES_BASE ⟨q, g * 3 + kind⟩) (d.get RMX_FNRES_COUNT ⟨q, g * 3 + kind⟩))
  if meets || b + n > 262144 then d.put RMX_FNRES_STATUS a ST_BAD_PARAM
  else if d.resIn q kind b n || d.resIn q kind (d.get RMX_FNRES_BASE a) (d.get RMX_FNRES_COUNT a) then
    d.put RMX_FNRES_STATUS a ST_BAD_STATE
  else (d.wrFields .RMX_FNRES a v).put RMX_FNRES_STATUS a ST_OK

/-- MTC_FNRNDV. -/
def Dev.fnrndvWrite (d : Dev) (q f : Nat) (v : Word) : Dev :=
  let a : At := ⟨q, f⟩
  let r : At := ⟨q, f * 3 + 1⟩
  let b := MTC_FNRNDV_BASE.of v
  let n := MTC_FNRNDV_COUNT.of v
  let meets := (List.range 256).any (fun g => g ≠ f && rangesMeet b n (d.get MTC_FNRNDV_BASE ⟨q, g⟩) (d.get MTC_FNRNDV_COUNT ⟨q, g⟩))
  if meets || n > 4096 || (0 < n && (b < d.get RMX_FNRES_BASE r || b + n > d.get RMX_FNRES_BASE r + d.get RMX_FNRES_COUNT r)) then
    d.put MTC_FNRNDV_STATUS a ST_BAD_PARAM
  else if d.resIn q 1 b n || d.resIn q 1 (d.get MTC_FNRNDV_BASE a) (d.get MTC_FNRNDV_COUNT a) then
    d.put MTC_FNRNDV_STATUS a ST_BAD_STATE
  else (d.wrFields .MTC_FNRNDV a v).put MTC_FNRNDV_STATUS a ST_OK

/-- R273, R274: the timer of the oldest in-order acknowledgement; see `flushAck`. -/
def Dev.ackDelay (d : Dev) (c tc : Nat) : Dev := d.flushAck c tc

end Sys2Proof.Machine
end

