-- ==== Sys2Proof/Machine/Handler.lean ====
section
/-! DEFINITION. After a trap (spec/12): what goes on when it is answered (R319, R320), the handler's misses, marks, walks and
page requests (R321 to R327), commands on translations (R309, R311, R329 to R331). -/

namespace Sys2Proof.Machine

/-! ## Going on -/

/-- A descriptor whose access trapped goes on (R279). -/
def Dev.opResume (d : Dev) (i : Nat) : Dev :=
  match d.op i with
  | none => d
  | some o =>
    if dOpcode o.desc = opTRECV then d.resumeTrecv i o
    else if dOpcode o.desc = opCOLL then
      (match d.memOfOp i with
       | some m => if coKind o.desc ≤ kdBCAST then d.castNext m else d.feedAll m
       | none => d)
    else (d.setOp i { o with busy := false }).prep i

/-- A request leaves its trap slot: it is in flight on its region no more (R277). DEDUCED (log 87, 151). -/
def Dev.unpark (d : Dev) (q n : Nat) : Dev := d.when (n ≠ 0) (·.regionOut q (n - 1))

/-- A packet that waited in a slot goes on. -/
def Dev.targetAgain (d : Dev) (q : Nat) (k : Packet) (n : Nat) : Dev :=
  if k.type = tSEND || k.type = tRNDV_RTS then d.mtcRequest q k else (d.unpark q n).rmxRequest q k (n ≠ 0)

/-- A trapped access has its translation: what waited for it goes on. -/
def Dev.contRun (d : Dev) (q : Nat) : Cont → Dev
  | .queue k n => d.modQueue q k n (fun x => { x with blocked := false, issued := true })
  | .ring k n => (d.modQueue q k n (fun x => { x with blocked := false })).drainQueue q k n
  | .op i => d.opResume i
  | .again c psn => d.retransmit c psn
  | .table i => d.readTable i
  | .target k n => d.targetAgain q k n
  | .member q2 m k => d.memberIn q2 m k
  | .reader => d.readerResume

/-- Table 12-4: a trapped access ends with NOT_PERMITTED or WALK_ERROR. Only an ACTIVE queue enters ERROR (Table 9-10). -/
def Dev.contFail (d : Dev) (q : Nat) (st : Nat) : Cont → Dev
  | .queue k n =>
    match d.queue q k n with
    | some x => (d.setQueue q k n { x with blocked := false }).when (x.state = qACTIVE) (·.queueError q k n st x.ci)
    | none => d
  | .ring k n => (d.modQueue q k n (fun x => { x with blocked := false, failed := true })).inc .XLT_RINGERR (onDie q)
  | .op i =>
    match d.op i, d.memOfOp i with
    | some _, some m => d.memFail m st
    | _, _ => d.failOp i st
  | .again c psn =>
    match (d.conn c).bind (fun x => x.req psn) with
    | some r => (d.failOp r.op st).resolveReq c psn
    | none => d
  | .table i => d.endStart i st true
  | .target k n => (d.unpark q n).refuse k.dconn k st
  | .member q2 m k =>
    if k.type = tMCAST && cKind k = kdMCAST then d.inc .MCG_NOSPACE (onDie q2)
    else match (d.memsOf (d.gEngdie q2 (k.dest % 65536)) (k.dest % 65536) (cSeq k)).find? (fun x => x.member = m) with
      | some x => d.memFail x st
      | none => d
  | .reader => d.readerFail st

/-- The slot's access is refused for good. -/
def Dev.slotFail (d : Dev) (q slot st : Nat) : Dev :=
  match d.trap q slot with
  | some t => (d.freeTrap q slot).contFail q st t.cont
  | none => d

/-- RETRY: the access looks up again; it goes on, fails, or traps again in its slot. -/
def Dev.slotRetry (d : Dev) (q slot : Nat) : Dev :=
  match d.trap q slot with
  | none => d
  | some t =>
    match d.translate q t.acc with
    | (d, .ok _ _) => (d.freeTrap q slot).contRun q t.cont
    | (d, .trap cause) => d.trapInit q t.acc cause t.cont
    | (d, .notPermitted) => d.slotFail q slot ST_NOT_PERMITTED
    | (d, .walkError) => d.slotFail q slot ST_WALK_ERROR

/-- NOT_PRESENT: a target access is answered ST_NOT_READY with a hint and its packet is consumed; an initiator access looks up
again after the hint (R319). -/
def Dev.slotAbsent (d : Dev) (q slot hint : Nat) : Dev :=
  match d.trap q slot with
  | none => d
  | some t =>
    match t.cont with
    | .target k n => ((d.freeTrap q slot).unpark q n).notReady k.dconn k (max 1 hint)
    | .member q2 m k =>
      if t.acc.side = 1 then (d.freeTrap q slot).inc .MCG_NOSPACE (onDie q2)
      else { d with xlt := { d.xlt with traps := Tab.put d.xlt.traps (q * 256 + slot) { t with hintWait := true, cont := .member q2 m k } } }.setPend
        q slot false
    | _ =>
      { d with xlt := { d.xlt with traps := Tab.put d.xlt.traps (q * 256 + slot) { t with hintWait := true } } }.setPend q slot false

/-! ## Answers of the handler (R319, R320) -/

/-- An answer to the slot that an ID names; one that names no pending slot is counted. DEDUCED (log 87). -/
def Dev.resolveTrap (d : Dev) (q id : Nat) (act : Nat → Dev → Dev) : Dev :=
  match d.trapOf q id with
  | some (slot, t) => if t.hintWait then d.inc .XLT_STALERES (onDie q) else act slot d
  | none => d.inc .XLT_STALERES (onDie q)

/-- TWAIT has passed for a target access. -/
def Dev.twaitTimeout (d : Dev) (q slot : Nat) : Dev :=
  match d.trap q slot with
  | some t => if t.acc.side = 1 then d.slotAbsent q slot (d.hintXlt q) else d
  | none => d

/-- HINT has passed since NOT_PRESENT for an initiator access. -/
def Dev.trapHintRetry (d : Dev) (q slot : Nat) : Dev :=
  match d.trap q slot with
  | some t => if t.hintWait then d.slotRetry q slot else d
  | none => d

/-! ## Page requests (R323, R324) -/

def pageOf (addr : Nat) : Nat := addr / 4096 * 4096

/-- A trap waits for an entry: a miss, or a mark trap whose entry was removed after a CAS that failed (R322). -/
def Dev.missing (d : Dev) (q : Nat) (t : Trap) : Bool :=
  t.cause = 0 || !(d.l2 q).any (fun e => e.covers t.acc.space t.acc.addr)

/-- The slots of a die that wait on a page: unanswered misses. -/
def Dev.slotsOn (d : Dev) (q space page : Nat) : List Nat :=
  (d.xlt.traps.filter (fun e => e.1 / 256 = q && !e.2.hintWait && d.missing q e.2 && e.2.acc.space = space &&
    pageOf e.2.acc.addr = page)).map (·.1 % 256)

/-- A page request fails: the page is marked, the slots that wait on it are answered WALK_ERROR. -/
def Dev.pageFail (d : Dev) (q space page : Nat) : Dev :=
  let d := { d with xlt := { d.xlt with failed := (q, space, page) :: d.xlt.failed.filter (· ≠ (q, space, page)) } }
  d.each (d.slotsOn q space page) (fun s d => d.slotFail q s ST_WALK_ERROR)

/-- The queue of an initiator access, as QNUM and QKIND. -/
def contQueue (t : Trap) : Nat × Nat :=
  if t.acc.side = 1 then (0, 0)
  else (t.acc.who % 65536, match t.cont with | .queue k _ => k | .ring k _ => k | _ => 0)

/-- R321, R323: a page request for the page of a slot: one event, unless one for the page is outstanding; the target slots on the
page are answered NOT_PRESENT. -/
def Dev.pageRequest (d : Dev) (q : Nat) (t : Trap) : Dev :=
  let s := t.acc.space
  let page := pageOf t.acc.addr
  let a : At := ⟨q, s⟩
  let f := d.get XLT_SPACE_OWNER a
  match (d.globalOf q f kEQ (d.get XLT_SPACE_PREQ_EQ a)).filter (fun e => match d.queue q kEQ e with
      | some x => x.state = qACTIVE
      | none => false) with
  | none => d.pageFail q s page
  | some e =>
    let out := d.xlt.preqs.any (fun r => r.1 / 2 ^ 32 = q && r.2 = (s, page))
    let d := if out then d
      else
        let id := Tab.get d.xlt.reqCtr 0 q
        let d := { d.arrivalDie q with xlt := { d.xlt with
            preqs := Tab.put d.xlt.preqs (q * 2 ^ 32 + id) (s, page),
            reqCtr := Tab.set d.xlt.reqCtr 0 q ((id + 1) % 2 ^ 32) } }
        let (n, k) := contQueue t
        let lo := page ||| s <<< 64 ||| (decide (t.acc.kind = 1)).toNat <<< 80 ||| (decide (t.acc.kind = 2)).toNat <<< 81 |||
          t.acc.side <<< 88 ||| id <<< 96
        (d.inc .XLT_PGREQ (onDie q)).raiseEvent q e ⟨5 * 2 ^ 32, 5, eventEntry lo n k 0 5 0⟩
    d.each ((d.slotsOn q s page).filter (fun n => (d.trap q n).any (fun t => t.acc.side = 1))) (fun n d =>
      d.slotAbsent q n (d.get XLT_CTRL_PRHINT (onDie q)))

/-! ## Walks (R325 to R327) -/

/-- An address lies in an enabled side-effect window (R327). -/
def Dev.inSewin (d : Dev) (q addr : Nat) : Bool :=
  (List.range 16).any (fun w =>
    let n := max 12 (d.get XLT_SEWIN_LOG2SIZE ⟨q, w⟩)
    d.bit XLT_SEWIN_EN ⟨q, w⟩ && addr / 2 ^ n = d.get XLT_SEWIN_BASE ⟨q, w⟩ * 4096 / 2 ^ n)

/-- A walk fails. -/
def Dev.walkFail (d : Dev) (q slot : Nat) : Dev := (d.inc .XLT_WALKERR (onDie q)).slotFail q slot ST_WALK_ERROR

/-- Read the descriptor of a level in a table, as the owner of the space (R326). -/
def Dev.walkRead (d : Dev) (q slot level table space addr : Nat) : Dev :=
  if d.inSewin q table then d.walkFail q slot
  else
    let a := table + 8 * bits addr (12 + 9 * level) 9
    ({ d with xlt := { d.xlt with walks := Tab.put d.xlt.walks (q * 256 + slot) (level, a) } }.inc .XLT_WALKRD (onDie q)).hostGet
      q (d.get XLT_SPACE_OWNER ⟨q, space⟩) [(a, 8)] [] (.walk slot)

/-- Start a walk for a slot. -/
def Dev.walkStart (d : Dev) (q slot : Nat) (t : Trap) : Dev :=
  d.walkRead q slot 4 (d.get XLT_SPACEROOT_ROOT ⟨q, t.acc.space⟩ * 4096) t.acc.space t.acc.addr

/-- A descriptor read returns: the walk goes on, loads a leaf, fails, or raises a page request. DESIGN CHOICE (log 147). -/
def Dev.walkStep (d : Dev) (q slot level a : Nat) (t : Trap) (ok : Bool) (x : Nat) : Dev :=
  let d := { d with xlt := { d.xlt with walks := Tab.del d.xlt.walks (q * 256 + slot) } }
  let next := bits x 12 52 * 4096
  if !ok then (d.inc .HST_RDERR (onDie q)).walkFail q slot
  else if bits x 0 1 = 0 then d.pageRequest q t
  else if level = 0 || bits x 1 1 = 1 then
    let n := 12 + 9 * level
    if next % 2 ^ n ≠ 0 then d.walkFail q slot
    else
      let e : XEnt :=
        { space := t.acc.space, va := t.acc.addr / 2 ^ n * 2 ^ n, size := n, ba := next, key := bits x 8 4, r := bits x 2 1 = 1,
          w := bits x 3 1 = 1, atom := bits x 4 1 = 1, se := bits x 5 1 = 1, acc := bits x 6 1 = 1, dirty := bits x 7 1 = 1,
          lock := false, walked := true, desc := a, leaf := x, guard := [] }
      (d.loadEnt q e).slotRetry q slot
  else if bits x 2 10 ≠ 0 then d.walkFail q slot
  else d.walkRead q slot (level - 1) next t.acc.space t.acc.addr

/-- The read of a walk is answered. -/
def Dev.walkReadDone (d : Dev) (tag : Nat) (ok : Bool) (x : Word) : Dev :=
  match Tab.find d.hst.reads tag with
  | some ⟨q, _, .walk slot, _⟩ =>
    let d := d.takeRead tag
    (match Tab.find d.xlt.walks (q * 256 + slot), d.trap q slot with
     | some (level, a), some t => d.walkStep q slot level a t ok x.toNat
     | _, _ => d)
  | _ => d

/-! ## The handler (R321, R322) -/

/-- R321 for a slot: the backing table, a walk, a page request; a failed page answers WALK_ERROR. DEDUCED (log 60). -/
def Dev.handlerMiss (d : Dev) (q slot : Nat) : Dev :=
  match d.trap q slot with
  | none => d
  | some t =>
    if !d.missing q t || t.hintWait || (Tab.find d.xlt.walks (q * 256 + slot)).isSome then d
    else if d.pageFailed q t.acc.space t.acc.addr then d.slotFail q slot ST_WALK_ERROR
    else match (d.backing q).find? (fun e => e.covers t.acc.space t.acc.addr) with
      | some e => (d.loadEnt q { e with lock := false }).slotRetry q slot
      | none => if d.bit XLT_SPACE_WALK_EN ⟨q, t.acc.space⟩ then d.walkStart q slot t else d.pageRequest q t

/-- The entry with the mark that a trap asks for. -/
def XEnt.marked (e : XEnt) (cause : Nat) : XEnt := if cause = 2 then { e with acc := true, dirty := true } else { e with acc := true }

/-- R322: set the mark of a slot's trap; `found` is what the CAS on the leaf descriptor finds. DEDUCED (log 60). -/
def Dev.handlerMark (d : Dev) (q slot : Nat) (found : Word) : Dev :=
  match d.trap q slot with
  | none => d
  | some t =>
    if t.cause = 0 || t.hintWait then d
    else if d.pageFailed q t.acc.space t.acc.addr then d.slotFail q slot ST_WALK_ERROR
    else match (d.l2 q).find? (fun e => e.covers t.acc.space t.acc.addr) with
      | none => d.slotRetry q slot
      | some e =>
        let m := e.marked t.cause
        let load (d : Dev) (leaf : Nat) : Dev :=
          let d := d.loadEnt q { m with leaf := leaf }
          (d.setBacking q ((d.backing q).map (fun b => if !e.walked && b.space = e.space && b.va = e.va then b.marked t.cause else b))).slotRetry
            q slot
        if e.walked && d.bit HST_CTRL_ATOMIC_EN (onDie q) && !d.inSewin q e.desc then
          let new := e.leaf ||| (if t.cause = 2 then 0xC0 else 0x40)
          let d := d.emit (.hostAtomic q (d.get XLT_SPACE_OWNER ⟨q, e.space⟩) e.desc 0 2 e.leaf new)
          if found.toNat = e.leaf then load d new
          else (d.removeEnts q (fun x => x = e)).walkStart q slot t
        else load d e.leaf

/-! ## Loading (R311 to R313) -/

def loadWord (d : Dev) (q w : Nat) : Nat := (d.rd .XLT_LOAD ⟨q, w⟩).toNat

/-- XLT_LOADCMD LOAD. DEDUCED (log 105). -/
def Dev.xltLoad (d : Dev) (q : Nat) : Dev :=
  let w := loadWord d q
  let e := entOf (w 0) (w 1) (w 2) (w 3)
  if !entOk (w 0) (w 1) (w 2) (w 3) || e.space ≥ 4096 then d.put XLT_LOADCMD_STATUS (onDie q) ST_BAD_PARAM
  else if !d.mayLock q e then d.put XLT_LOADCMD_STATUS (onDie q) ST_NO_RESOURCE
  else (d.loadEnt q e).put XLT_LOADCMD_STATUS (onDie q) ST_OK

/-- XLT_LOADCMD REMOVE: the entry of XSPACE that covers VA. -/
def Dev.xltRemove (d : Dev) (q : Nat) : Dev :=
  let w := loadWord d q
  (d.removeEnts q (fun e => e.covers (bits (w 2) 0 16) (bits (w 0) 12 52 * 4096))).put XLT_LOADCMD_STATUS (onDie q) ST_OK

/-! ## Commands of functions (R324, R329 to R331) -/

def xltWord (d : Dev) (q f w : Nat) : Nat := (d.rd .XLT_CMDBUF ⟨q, f * 4 + w⟩).toNat
def Dev.xltEnd (d : Dev) (q f st : Nat) : Dev := (d.put XLT_CMD_STATUS ⟨q, f⟩ st).putB XLT_CMD_BUSY ⟨q, f⟩ false

/-- A translation command: ignored while one runs, refused while a wipe covers f (R373). -/
def Dev.xltCmd (d : Dev) (q f : Nat) (act : Dev → Dev) : Dev :=
  if d.bit XLT_CMD_BUSY ⟨q, f⟩ then d else if d.wiping q f then d.xltEnd q f ST_BAD_STATE else act d

/-- The function owns a space. -/
def Dev.ownsSpace (d : Dev) (q f s : Nat) : Bool := s < 4096 && d.get XLT_SPACE_OWNER ⟨q, s⟩ = f

/-- MAP (R329). -/
def Dev.xltMap (d : Dev) (q f : Nat) : Dev :=
  d.xltCmd q f (fun d =>
    let w := xltWord d q f
    let e := entOf (w 0) (w 1) (w 2) (w 3)
    if !entOk (w 0) (w 1) (w 2) (w 3) then d.xltEnd q f ST_BAD_PARAM
    else if !d.ownsSpace q f e.space then d.xltEnd q f ST_NOT_PERMITTED
    else if (d.backing q).any (fun x => x.overlaps e.space e.va (e.va + 2 ^ e.size)) then d.xltEnd q f ST_BAD_STATE
    else if (d.backing q).length ≥ 1048576 then d.xltEnd q f ST_NO_RESOURCE
    else ((d.setBacking q (d.backing q ++ [{ e with lock := false }])).clearFailed q e.space e.va (e.va + 2 ^ e.size)).xltEnd q f ST_OK)

/-- R331: an invalidating command begins: the entries leave every buffer; reads under way that used them are waited for. -/
def Dev.invalStart (d : Dev) (q f space lo hi : Nat) (p : XEnt → Bool) : Dev :=
  let d := (d.removeEnts q p).clearFailed q space lo hi
  { d with xlt := { d.xlt with invals := Tab.put d.xlt.invals (q * 256 + f) ⟨space, lo, hi⟩ } }.putB XLT_CMD_BUSY ⟨q, f⟩ true

/-- UNMAP. -/
def Dev.xltUnmap (d : Dev) (q f : Nat) : Dev :=
  d.xltCmd q f (fun d =>
    let s := bits (xltWord d q f 2) 0 16
    let lo := xltWord d q f 0
    let hi := lo + xltWord d q f 1
    if !d.ownsSpace q f s then d.xltEnd q f ST_NOT_PERMITTED
    else
      let gone := (d.backing q).filter (fun e => e.overlaps s lo hi)
      let p (e : XEnt) : Bool := e.overlaps s lo hi || gone.any (fun g => e.overlaps s g.va (g.va + 2 ^ g.size))
      let lo2 := gone.foldl (fun a g => min a g.va) lo
      let hi2 := gone.foldl (fun a g => max a (g.va + 2 ^ g.size)) hi
      (d.setBacking q ((d.backing q).filter (fun e => !e.overlaps s lo hi))).invalStart q f s lo2 hi2 p)

/-- INVAL. -/
def Dev.xltInval (d : Dev) (q f : Nat) : Dev :=
  d.xltCmd q f (fun d =>
    let s := bits (xltWord d q f 2) 0 16
    let lo := xltWord d q f 0
    let len := xltWord d q f 1
    if !d.ownsSpace q f s then d.xltEnd q f ST_NOT_PERMITTED
    else if len = 0 || len > 2 ^ 57 then d.xltEnd q f ST_BAD_PARAM
    else d.invalStart q f s lo (lo + len) (fun e => e.overlaps s lo (lo + len)))

/-- INVAL_SPACE. -/
def Dev.xltInvalSpace (d : Dev) (q f : Nat) : Dev :=
  d.xltCmd q f (fun d =>
    let s := bits (xltWord d q f 2) 0 16
    if !d.ownsSpace q f s then d.xltEnd q f ST_NOT_PERMITTED
    else d.invalStart q f s 0 (2 ^ 64) (fun e => e.space = s))

/-- A completion or event ring whose writes failed is tried again when it lies in the range (R317). -/
def Dev.retryRings (d : Dev) (q space lo hi : Nat) : Dev :=
  d.each (d.hst.queues.filter (fun e => e.1 / 65536 / 4 = q && e.1 / 65536 % 4 ≥ kCQ && e.2.failed && e.2.xspace = space &&
      e.2.base < hi && lo < e.2.base + 32 * e.2.size)) (fun e d =>
    let k := e.1 / 65536 % 4
    let n := e.1 % 65536
    (d.modQueue q k n (fun x => { x with failed := false })).drainQueue q k n)

/-- An access under way has used an entry of a space that overlaps [lo, hi), whenever that entry was loaded (R331). -/
def Dev.usedBy (d : Dev) (q space lo hi : Nat) : Bool :=
  d.hst.reads.any (fun r => r.2.die = q && r.2.ents.any (fun e => e.1 = space && e.2.1 < hi && lo < e.2.2))

/-- R331: an invalidating command of function f completes: nothing that used a removed entry is under way; entries loaded
meanwhile leave too. -/
def Dev.invalComplete (d : Dev) (q f : Nat) : Dev :=
  match Tab.find d.xlt.invals (q * 256 + f) with
  | none => d
  | some v =>
    if d.usedBy q v.space v.lo v.hi then d
    else
      let d := d.removeEnts q (fun e => e.overlaps v.space v.lo v.hi)
      let d := { d with xlt := { d.xlt with invals := Tab.del d.xlt.invals (q * 256 + f) } }
      (d.xltEnd q f ST_OK).retryRings q v.space v.lo v.hi

/-- PGRESP (R324). -/
def Dev.pgResp (d : Dev) (q f : Nat) : Dev :=
  d.xltCmd q f (fun d =>
    let w := xltWord d q f 0
    let key := q * 2 ^ 32 + bits w 0 32
    match (Tab.find d.xlt.preqs key).filter (fun r => d.ownsSpace q f r.1) with
    | none => d.xltEnd q f ST_BAD_PARAM
    | some (s, page) =>
      let d := ({ d with xlt := { d.xlt with preqs := Tab.del d.xlt.preqs key } }).xltEnd q f ST_OK
      if bits w 32 1 = 1 then d.pageFail q s page
      else d.each (d.slotsOn q s page) (fun slot d => d.handlerMiss q slot))

/-- PRTIME has passed for a page request. -/
def Dev.pageRequestTimeout (d : Dev) (q id : Nat) : Dev :=
  match Tab.find d.xlt.preqs (q * 2 ^ 32 + id) with
  | some (s, page) => { d with xlt := { d.xlt with preqs := Tab.del d.xlt.preqs (q * 2 ^ 32 + id) } }.pageFail q s page
  | none => d

/-- A queue or region of a space is not FREE. -/
def Dev.spaceInUse (d : Dev) (q s : Nat) : Bool :=
  d.hst.queues.any (fun e => e.1 / 65536 / 4 = q && e.2.xspace = s) ||
  d.hst.regions.any (fun e => e.1 / 262144 = q && e.2.xspace = s && e.2.state ≠ regFREE)

/-- R309: a write of XLT_SPACE, or of XLT_SPACEROOT. -/
def Dev.spaceWrite (d : Dev) (q s : Nat) (root : Bool) (v : Word) : Dev :=
  let a : At := ⟨q, s⟩
  let guarded := root || (XLT_SPACE_EN.of v = 0 && d.bit XLT_SPACE_EN a) || XLT_SPACE_OWNER.of v ≠ d.get XLT_SPACE_OWNER a
  if guarded && d.spaceInUse q s then d.put XLT_SPACE_STATUS a ST_BAD_STATE
  else (if root then d.wrFields .XLT_SPACEROOT a v else d.wrFields .XLT_SPACE a v).put XLT_SPACE_STATUS a ST_OK

/-! ## Reads of the initiator -/

/-- A read of a source, or of collective data, is answered. -/
def Dev.initiatorRead (d : Dev) (tag : Nat) (ok : Bool) (data : List Byte) : Dev :=
  match Tab.find d.hst.reads tag with
  | none => d
  | some r =>
    let data := data.take r.len
    match r.use with
    | .piece _ _ => ((d.takeRead tag).when (!ok) (·.inc .HST_RDERR (onDie r.die))).sourceRead r.use ok data
    | .again _ _ => ((d.takeRead tag).when (!ok) (·.inc .HST_RDERR (onDie r.die))).sourceRead r.use ok data
    | .contrib e g seq c ph m => (d.takeRead tag).contribDone e g seq c ph m ok data
    | .cast i => (d.takeRead tag).castDone i ok data
    | .table i => (d.takeRead tag).tableDone i ok data
    | _ => d

/-- The reads of the copy of a KIND 1 message are answered (R299). -/
def Dev.uxCopyComplete (d : Dev) (tag : Nat) (ok : Bool) (data : List Byte) : Dev :=
  match Tab.find d.hst.reads tag with
  | some ⟨_, n, .copy _ i, _⟩ => (d.takeRead tag).copyDone i ok (data.take n)
  | _ => d

/-! ## Functions that are reset (R227, R284, R306, R334, R366) -/

/-- A slot is freed with nothing done for its access. -/
def Dev.dropTrap (d : Dev) (q slot : Nat) : Dev :=
  match d.trap q slot with
  | some t => (match t.cont with
      | .target _ n => (d.freeTrap q slot).unpark q n
      | _ => d.freeTrap q slot)
  | none => d

/-- The effects of R227 on the state of function f of die q. -/
def Dev.funcReset (d : Dev) (q f : Nat) : Dev :=
  let mine (o : Op) : Bool := o.die = q && o.func = f
  let gone := (d.hst.ops.filter (fun e => mine e.2)).map (·.1)
  let cs := (d.hst.conns.filter (fun e => connDie e.1 = q && e.2.func = f)).map (·.1)
  let ctrBase := d.get RMX_FNRES_BASE ⟨q, f * 3 + 2⟩
  let ctrEnd := ctrBase + d.get RMX_FNRES_COUNT ⟨q, f * 3 + 2⟩
  let owned (s : Nat) : Bool := d.get XLT_SPACE_OWNER ⟨q, s⟩ = f
  let d := { d with
    hst := { d.hst with
      queues := d.hst.queues.filter (fun e => !(e.1 / 65536 / 4 = q && e.2.func = f)),
      ops := d.hst.ops.filter (fun e => !mine e.2),
      fired := d.hst.fired.filter (fun i => !gone.contains i),
      conns := d.hst.conns.filter (fun e => !cs.contains e.1),
      ctrs := d.hst.ctrs.filter (fun e => !(e.1 / 262144 = q && ctrBase ≤ e.1 % 262144 && e.1 % 262144 < ctrEnd)),
      msgs := d.hst.msgs.filter (fun e => !(e.2.die = q && e.2.func = f)),
      posted := Tab.del d.hst.posted (q * 256 + f),
      reads := d.hst.reads.filter (fun e => match e.2.use with
        | .piece c _ => !cs.contains c
        | .again c _ => !cs.contains c
        | .copy i _ => !gone.contains i
        | .cast i => !gone.contains i
        | .table i => !gone.contains i
        | _ => true) },
    clv := { d.clv with mems := d.clv.mems.filter (fun m => !gone.contains m.op) },
    xlt := { d.xlt with
      preqs := d.xlt.preqs.filter (fun e => !(e.1 / 2 ^ 32 = q && owned e.2.1)),
      slotWait := d.xlt.slotWait.filter (fun w => !(w.1 = q && owned w.2.1.space)) } }
  let d := d.each ((d.xlt.traps.filter (fun e => e.1 / 256 = q && owned e.2.acc.space)).map (·.1 % 256)) (fun s d => d.dropTrap q s)
  let d := d.removeEnts q (fun e => owned e.space)
  let d := d.setBacking q ((d.backing q).filter (fun e => !owned e.space))
  let d := { d with hst := { d.hst with regions := d.hst.regions.map (fun (e : Nat × Region) =>
    if e.1 / 262144 = q && e.2.owner = f && e.2.state = regREVOKING then (e.1, { e.2 with eqn := none }) else e) } }
  let d := d.each ((d.hst.regions.filter (fun e => e.1 / 262144 = q && e.2.owner = f && (e.2.state = regVALID || e.2.state = regBAD))).map (·.1 % 262144))
    (fun n d => (d.revokeRndv q n).revokeEnds q n)
  let d := d.each ((d.keySlots q).filter (fun s => d.keyOwner q s = f)) (fun s d => d.freeKey q s)
  let d := ((d.put QUE_CMD_BUSY ⟨q, f⟩ 0).put XLT_CMD_BUSY ⟨q, f⟩ 0).msixClear q f
  (({ d with xlt := { d.xlt with invals := Tab.del d.xlt.invals (q * 256 + f) } }).inc .HST_FLR (onDie q)).readerLost (fun path xs => path = q + 1 && owned xs)

end Sys2Proof.Machine
end

