-- ==== Sys2Proof/Machine/Lanes.lean ====
section
/-! DEFINITION. Lanes (spec/02): cluster maps, equalisation, adaptation, idle states, test loops, the eye scan. -/

namespace Sys2Proof.Machine

/-- The port of a lane. -/
def Dev.lanePort (d : Dev) (l : Nat) : Nat := d.portOf l
/-- The adaptation state of a lane. -/
def Dev.adapt (d : Dev) (l : Nat) : Nat := d.get LAN_RXSTAT_ADAPT_STATE (onLane l)
def Dev.setAdapt (d : Dev) (l st : Nat) : Dev := d.put LAN_RXSTAT_ADAPT_STATE (onLane l) st
/-- The attempt of a port is in its lane phase. -/
def Dev.inLanePhase (d : Dev) (p : Nat) : Bool := (d.link p).phase = .lanes
/-- An attempt is under way. -/
def Dev.inAttempt (d : Dev) (p : Nat) : Bool := (d.link p).phase ≠ .idle

/-! ## The cluster map (R36 to R38) -/

/-- The ports that a map starts in cluster c. -/
def mapPorts (c widths : Nat) : List Nat :=
  ((List.range 8).filter (fun i => mapCode widths i ≠ 0)).map (8 * c + ·)

/-- A port lets its cluster be mapped anew: it is disabled or out of service. -/
def Dev.portIdle (d : Dev) (p : Nat) : Bool := d.lstate p = DISABLED || d.lstate p = OUT_OF_SERVICE

/-- PRT_RELEASE with SCOPE 2 on a port (R78, R136): held flits are dropped as RELEASE, and the incarnation advances when
there were any. -/
def Dev.releaseHeld (d : Dev) (p : Nat) : Dev :=
  let any := 0 < d.heldAll p
  (d.dropHeld p dropRELEASE).when any (·.advanceInc p)

/-- R37, R38: a write of LAN_CLMAP of cluster c. DEDUCED (log 24). -/
def Dev.clusterMap (d : Dev) (c : Nat) (v : Word) : Dev :=
  let a : At := ⟨c / 16, c % 16⟩
  let new := LAN_CLMAP_WIDTHS.of v
  let old := d.get LAN_CLMAP_WIDTHS a
  if !mapValid new then d.put LAN_CLMAP_STATUS a ST_BAD_PARAM
  else if !((mapPorts c old ++ mapPorts c new).all d.portIdle) then d.put LAN_CLMAP_STATUS a ST_BUSY_IN_SERVICE
  else
    let gone := (mapPorts c old).filter (fun p => !(mapPorts c new).contains p)
    let d := d.each gone (fun p d => (d.dropQueued p dropRELEASE).releaseHeld p)
    (d.put LAN_CLMAP_WIDTHS a new).put LAN_CLMAP_STATUS a ST_OK

/-! ## Transmitter coefficients (R39, R40) -/

/-- R39: the limits. -/
def eqOk (pre post : Nat) : Bool := pre ≤ 15 && post ≤ 24 && pre + post ≤ 24

/-- Put both coefficients and MAIN. -/
def Dev.setEq (d : Dev) (l pre post : Nat) : Dev :=
  let a := onLane l
  ((d.put LAN_TXEQ_PRE a pre).put LAN_TXEQ_POST a post).put LAN_TXEQ_MAIN a (64 - pre - post)

/-- R39: a write of LAN_TXEQ. DEDUCED (log 24, 29). -/
def Dev.txeq (d : Dev) (l : Nat) (v : Word) : Dev :=
  let a := onLane l
  let d := d.put LAN_TXEQ_OVR a (LAN_TXEQ_OVR.of v)
  let d := d.when (LAN_TXEQ_EQERR.of v = 1) (·.put LAN_TXEQ_EQERR a 0)
  let pre := LAN_TXEQ_PRE.of v
  let post := LAN_TXEQ_POST.of v
  if eqOk pre post then d.setEq l pre post else d.put LAN_TXEQ_EQERR a 1

/-- R40: a request (1 up, 2 down) to step one coefficient; true when it is answered at limit. -/
def Dev.coefRequest (d : Dev) (l : Nat) (isPre : Bool) (req : Nat) : Dev × Bool :=
  let a := onLane l
  let pre := d.get LAN_TXEQ_PRE a
  let post := d.get LAN_TXEQ_POST a
  let step (x : Nat) : Nat := if req = 1 then x + 1 else x - 1
  let cur := if isPre then pre else post
  let pre' := if isPre then step pre else pre
  let post' := if isPre then post else step post
  if d.bit LAN_TXEQ_OVR a || (req = 2 && cur = 0) || !eqOk pre' post' then (d, true) else (d.setEq l pre' post', false)

/-- One half of a decoded control field: a held request acts once, and its answer stays until the partner sends hold
(Table 3-10). The result is the new answer. -/
def Dev.coefAnswer (d : Dev) (l : Nat) (isPre : Bool) (req st : Nat) : Dev × Nat :=
  if req = 1 ∨ req = 2 then
    if st ≠ 0 then (d, st)
    else
      let (d, lim) := d.coefRequest l isPre req
      (d, if lim then 2 else 1)
  else (d, 0)

/-! ## Training frames (R43, R44) -/

/-- The WIDTH code of a port. -/
def widthCode (w : Nat) : Nat := match w with | 1 => 0 | 2 => 1 | _ => 2

/-- The received indices are a permutation of 0 to w - 1. -/
def Dev.indicesOk (d : Dev) (p : Nat) : Bool :=
  let ls := d.plances p
  (List.range ls.length).all (fun i => (ls.map (fun l => d.get LAN_RXSTAT_LOGICAL (onLane l))).contains i)

/-- READY: every lane of the port is in TRACK and the order is valid in this attempt. -/
def Dev.portReady (d : Dev) (p : Nat) : Bool :=
  (d.plances p).all (fun l => d.adapt l = aTRACK && (d.lane l).decoded) &&
  (!d.bit LAN_CTRL_ORDER_AUTO (onLane p) || d.indicesOk p)

/-- The control field that a lane sends (Table 3-10). Its own requests are always hold: the spec does not say when it asks for a step
(DESIGN CHOICE). DESIGN CHOICE (log 131). -/
def Dev.frameOut (d : Dev) (l : Nat) : Nat :=
  let p := d.lanePort l
  let w := max 1 (d.pwidth p)
  let x := d.lane l
  (d.get LAN_CTRL_TX_LANE (onLane l) % w) ||| x.stPre <<< 6 ||| x.stPost <<< 8 ||| (d.portReady p).toNat <<< 10 |||
    widthCode w <<< 11

/-- The lane sends its control field as it now stands, inverted where TX_INV is 1 (R43). -/
def Dev.sendFrame (d : Dev) (l : Nat) : Dev := d.emit (.laneFrame l (d.frameOut l) (d.bit LAN_CTRL_TX_INV (onLane l)))

/-- R44, at the first decode of a lane: the peer's width, and without ORDER_AUTO the received index. -/
def Dev.frameOk (d : Dev) (p l ctl : Nat) : Bool :=
  let w := d.pwidth p
  bits ctl 11 2 = widthCode w &&
  (d.bit LAN_CTRL_ORDER_AUTO (onLane p) || bits ctl 0 2 = d.get LAN_CTRL_RX_LANE (onLane l) % w)

/-- The attempt fails for the order of the lanes. -/
def Dev.orderFail (d : Dev) (p : Nat) : Dev := (d.put LAN_RXSTAT_ORDERR (onLane p) 1).failAttempt p failORDER

/-- R44, R40: a lane decodes a training frame with the control field `ctl` during the lane phase of an attempt. -/
def Dev.trainingFrame (d : Dev) (l ctl : Nat) : Dev :=
  let p := d.lanePort l
  if !d.inLanePhase p || d.adapt l = aOFF || d.adapt l = aFAIL || d.adapt l = aHOLD then d
  else
    let first := !(d.lane l).decoded
    let d := (d.put LAN_RXSTAT_LOGICAL (onLane l) (bits ctl 0 2)).modLane l (fun x => { x with decoded := true })
    if first && !d.frameOk p l ctl then d.orderFail p
    else if first && (d.plances p).all (fun k => (d.lane k).decoded) && d.bit LAN_CTRL_ORDER_AUTO (onLane p) &&
        !d.indicesOk p then d.orderFail p
    else
      let (d, a) := d.coefAnswer l true (bits ctl 2 2) (d.lane l).stPre
      let (d, b) := d.coefAnswer l false (bits ctl 4 2) (d.lane l).stPost
      (d.modLane l (fun x => { x with stPre := a, stPost := b })).sendFrame l

/-! ## Adaptation (Table 2-3) -/

/-- The inversion in force of a receiver, given that of the line (R43). -/
def Dev.inversion (d : Dev) (l : Nat) (inverted : Bool) : Bool :=
  if d.bit LAN_CTRL_POL_AUTO (onLane l) then inverted else d.bit LAN_CTRL_RX_INV (onLane l)

/-- R41, R43: clock recovery locks on a line with the given inversion and peaking converges; during a training attempt
the marker must be found, so the inversion in force must be right. DESIGN CHOICE (log 30). -/
def Dev.acquireLock (d : Dev) (l : Nat) (inverted : Bool) (peaking : Nat) : Dev :=
  let a := onLane l
  let inv := d.inversion l inverted
  if d.adapt l ≠ aACQUIRE then d
  else
    let d := (d.putB LAN_RXSTAT_POL_INV a inv).put LAN_RXSTAT_SIG_DET a 1
    if d.inAttempt (d.lanePort l) && inv ≠ inverted then d
    else
      let peak := if d.bit LAN_RXEQ_CTLE_OVR a then d.get LAN_RXEQ_CTLE a else peaking
      ((d.put LAN_RXSTAT_CDR_LOCK a 1).put LAN_RXEQ_CTLE_CUR a peak).setAdapt l aADAPT

/-- A receiver enters FAIL; the attempt under way fails with LANE (R73). -/
def Dev.laneFail (d : Dev) (l : Nat) : Dev :=
  let p := d.lanePort l
  let d := ((d.setAdapt l aFAIL).put LAN_RXSTAT_FAILED (onLane l) 1).put LAN_RXSTAT_CDR_LOCK (onLane l) 0
  d.when (d.inAttempt p) (·.failAttempt p failLANE)

/-- The ACQUIRE timer expires. -/
def Dev.acquireTimeout (d : Dev) (l : Nat) : Dev := d.when (d.adapt l = aACQUIRE) (·.laneFail l)
/-- The ADAPT timer expires. -/
def Dev.adaptTimeout (d : Dev) (l : Nat) : Dev := d.when (d.adapt l = aADAPT) (·.laneFail l)

/-- Feedback taps and slicers converge: the lane is in TRACK; the frames of its port show READY when it was the last.
DESIGN CHOICE (log 30). -/
def Dev.adaptConverged (d : Dev) (l tap : Nat) : Dev :=
  if d.adapt l ≠ aADAPT then d
  else
    let p := d.lanePort l
    let d := ((d.setAdapt l aTRACK).put LAN_RXEQ_DFE1 (onLane l) tap).put LAN_IDLE_RX_STATE (onLane l) 0
    d.when (d.inLanePhase p && d.portReady p) (fun d => d.each (d.plances p) (fun k d => d.sendFrame k))

/-- A draining link lost its signal (Table 3-12, R79). -/
def Dev.drainLost (d : Dev) (p : Nat) : Dev :=
  if (d.link p).commanding then d.enterOos p else (d.enterDown p).put LNK_STAT_LAST_FAIL (onLane p) failPEER_OOS

/-- The link layer is told that a lane left TRACK: UP goes to RETRAIN (R77); with the signal of a lane lost a drain ends (R79; that the
signal of one lane is that of the link is a DESIGN CHOICE). DESIGN CHOICE (log 107). -/
def Dev.linkLosesLane (d : Dev) (p : Nat) (signal : Bool) : Dev :=
  if d.lstate p ≠ UP then d
  else if d.draining p && signal then d.drainLost p
  else d.enterRetrain p causeLANE_LOSS true

/-- R41: a lane in TRACK loses its signal (`signal`), or only its clock recovery. DESIGN CHOICE (log 107). -/
def Dev.lossOfSignal (d : Dev) (l : Nat) (signal : Bool) : Dev :=
  let d := d.when signal (·.put LAN_RXSTAT_SIG_DET (onLane l) 0)
  if d.adapt l ≠ aTRACK then d
  else ((d.abortScan l).laneAcquire l true).linkLosesLane (d.lanePort l) signal

/-- R46, R47: a receiver that has seen electrical idle for RXQ_DLY enters RX-QUIET; its coefficients are held. -/
def Dev.rxQuiet (d : Dev) (l : Nat) : Dev :=
  let p := d.lanePort l
  let a := onLane l
  if d.adapt l = aTRACK && d.lstate p = UP && d.idleMode p ≠ 0 && d.get LAN_IDLE_RXQ_DLY a ≠ 0 then
    (((((d.scanRuns l).background l).setAdapt l aHOLD).put LAN_IDLE_RX_STATE a 1).put LAN_RXSTAT_CDR_LOCK a 0).put LAN_RXSTAT_SIG_DET a 0
  else d

/-- A receiver in HOLD relocks. DEDUCED (log 139). -/
def Dev.relocked (d : Dev) (l : Nat) : Dev :=
  let a := onLane l
  if d.adapt l = aHOLD then
    (((d.setAdapt l aTRACK).put LAN_IDLE_RX_STATE a 0).put LAN_RXSTAT_CDR_LOCK a 1).put LAN_RXSTAT_SIG_DET a 1
  else d

/-- A receiver in HOLD does not relock in time: it acquires warm, and the link layer is told. DEDUCED (log 32). -/
def Dev.relockFails (d : Dev) (l : Nat) : Dev :=
  if d.adapt l = aHOLD then
    (((d.abortScan l).put LAN_IDLE_RX_STATE (onLane l) 3).laneAcquire l true).linkLosesLane (d.lanePort l) false
  else d

/-! ## The line (Tables 2-4 and 2-6, R43, R52) -/

/-- What the transmitter of a lane drives: 0 nothing, it is off; 1 electrical idle; 2 the wake pattern; 3 link data; 4 the symbols that
it receives; 8 and above a test pattern by its number, a reserved one as PRBS31. The second part tells whether symbols are
inverted. DEDUCED (log 140). -/
def Dev.lineOut (d : Dev) (l : Nat) : Nat × Bool :=
  let a := onLane l
  let m := d.get LAN_LPBK_MODE (onLane (d.lanePort l))
  let n := d.get LAN_PATCTL_PATTERN a
  let x :=
    if d.get LAN_IDLE_TX_STATE a = 2 then 0
    else if m = 1 || m = 2 || d.get LAN_IDLE_TX_STATE a = 1 then 1
    else if m = 3 then 4
    else if d.get LAN_IDLE_TX_STATE a = 3 then 2
    else if d.bit LAN_PATCTL_GEN_EN a then 8 + (if n < 6 then n else 4)
    else 3
  (x, d.bit LAN_CTRL_TX_INV a)

/-- What the lane drives is put out where it has changed. DEDUCED (log 140). -/
def Dev.lineNow (d : Dev) (l : Nat) (was : Nat × Bool) : Dev :=
  d.when (d.lineOut l ≠ was) (fun d => d.emit (.line l (d.lineOut l).1 (d.lineOut l).2))

/-- R43: without POL_AUTO the inversion in force is RX_INV. -/
def Dev.polarity (d : Dev) (l : Nat) : Dev :=
  d.when (!d.bit LAN_CTRL_POL_AUTO (onLane l)) (fun d => d.put LAN_RXSTAT_POL_INV (onLane l) (d.get LAN_CTRL_RX_INV (onLane l)))

/-! ## LAN_RXEQ and LAN_IDLE -/

/-- R42: a write of LAN_RXEQ: what adaptation has come to, then the fields; with CTLE_OVR = 1 the peaking is CTLE.
DEDUCED (log 155). -/
def Dev.rxeq (d : Dev) (l : Nat) (v : Word) : Dev :=
  let a := onLane l
  let d := (d.background l).wrFields .LAN_RXEQ a v
  d.when (d.bit LAN_RXEQ_CTLE_OVR a) (fun d => d.put LAN_RXEQ_CTLE_CUR a (d.get LAN_RXEQ_CTLE a))

/-- R47: a write of LAN_IDLE: in service, a mode that allows no idle state wakes both halves of the lanes of the port.
DEDUCED (log 155). -/
def Dev.idleWrite (d : Dev) (l : Nat) (v : Word) : Dev :=
  let d := d.wrFields .LAN_IDLE (onLane l) v
  d.when (d.pexists l && d.lstate l = UP && d.idleMode l = 0) (fun d => d.each (d.plances l) (fun k d =>
    (d.txWakes k).when (d.get LAN_IDLE_RX_STATE (onLane k) = 1) (·.put LAN_IDLE_RX_STATE (onLane k) 3)))

/-! ## LAN_CTRL -/

/-- A write of LAN_CTRL: RXEN or TXEN written 0 turns that half off; RXEN written 1 lets the receiver leave RX-OFF.
DEDUCED (log 155). -/
def Dev.laneCtrl (d : Dev) (l : Nat) (v : Word) : Dev :=
  let a := onLane l
  let p := d.lanePort l
  let rx := d.bit LAN_CTRL_RXEN a
  let tx := d.bit LAN_CTRL_TXEN a
  let tracked := d.adapt l = aTRACK
  let was := d.lineOut l
  let d := d.wrFields .LAN_CTRL a v
  let d := d.when (!d.bit LAN_CTRL_RXEN a) (fun d =>
    (((d.abortScan l).laneOff l false).put LAN_IDLE_RX_STATE a 2).when tracked (·.linkLosesLane p true))
  let d := d.when (!rx && d.bit LAN_CTRL_RXEN a && !d.portIdle p) (·.rxWakes l)
  let d := d.when (!d.bit LAN_CTRL_TXEN a) (·.put LAN_IDLE_TX_STATE a 2)
  let d := d.when (!tx && d.bit LAN_CTRL_TXEN a && !d.portIdle p) (·.txWakes l)
  let d := d.polarity l
  d.lineNow l was

/-! ## Idle states of the transmitter (R45 to R48) -/

/-- The transmitters of a port with nothing to send for TXQ_DLY enter TX-QUIET, but those whose own TXQ_DLY is 0 (Table 2-13). -/
def Dev.txQuiet (d : Dev) (p : Nat) : Dev :=
  if d.pexists p && d.lstate p = UP && d.idleMode p ≠ 0 && !d.toSend p then
    d.each ((d.plances p).filter (fun l => d.get LAN_IDLE_TXQ_DLY (onLane l) ≠ 0)) (fun l d =>
      d.when (d.get LAN_IDLE_TX_STATE (onLane l) = 0) (·.put LAN_IDLE_TX_STATE (onLane l) 1))
  else d

/-- The wake and the wake pattern end. -/
def Dev.txWake (d : Dev) (p : Nat) : Dev := if d.pexists p then d.moveTx p 3 0 else d

/-- R48: a burst begins: acknowledgements and credits that are owed fall due. -/
def Dev.maintBurst (d : Dev) (p : Nat) : Dev :=
  if d.linkUp p && d.rxMostly p then
    d.modLink p (fun l => { l with burst := true, ackDue := l.ackDue || l.ackTimer, creditDue := (d.mostOwed p).isSome })
  else d

/-! ## Codewords and parity (R35) -/

/-- A decoded codeword: 1 corrected, 2 uncorrectable with `flits` flits that overlap it. DESIGN CHOICE (log 30). -/
def Dev.codeword (d : Dev) (p result flits : Nat) : Dev :=
  let a := onLane p
  if !d.pexists p || d.greenware p then d
  else match result with
    | 1 => (d.incF LAN_FECSTAT_CORR a).portEvent p blkLAN 0x01 0 1
    | 2 => ((d.incF LAN_FECSTAT_UNCORR a).when (d.flitsFlow p) (·.modLink p (fun l => { l with marked := l.marked + flits }))).portEvent
      p blkLAN 0x02 0 1
    | _ => d

/-- A Greenware parity error. -/
def Dev.parityError (d : Dev) (p : Nat) : Dev := if d.pexists p && d.greenware p then d.greenwareFatal p 2 else d

/-! ## Test loops and patterns (R50 to R52) -/

/-- A lane's halves are started for a test while its port is out of service. -/
def Dev.testStart (d : Dev) (l : Nat) : Dev :=
  let d := d.txWakes l
  if d.bit LAN_CTRL_RXEN (onLane l) && d.adapt l = aOFF then d.rxWakes l else d

/-- A port leaves OUT_OF_SERVICE: its generators and checkers are held at 0 (R52). -/
def Dev.patternsOff (d : Dev) (p : Nat) : Dev :=
  d.each (d.plances p) (fun l d =>
    ((d.put LAN_PATCTL_GEN_EN (onLane l) 0).put LAN_PATCTL_CHK_EN (onLane l) 0).put LAN_PATCTL_LOCK (onLane l) 0)

/-- Near-end parallel (Table 2-6): the halves that are not held off are quiet. DEDUCED (log 139). -/
def Dev.testQuiet (d : Dev) (l : Nat) : Dev :=
  let a := onLane l
  (d.when (d.bit LAN_CTRL_TXEN a) (·.put LAN_IDLE_TX_STATE a 1)).when (d.bit LAN_CTRL_RXEN a) (·.put LAN_IDLE_RX_STATE a 1)

/-- Near-end serial (Table 2-6): the driver is at electrical idle, the receiver adapts to the loop. DEDUCED (log 139). -/
def Dev.testSerial (d : Dev) (l : Nat) : Dev :=
  let a := onLane l
  let d := d.when (d.bit LAN_CTRL_TXEN a) (·.put LAN_IDLE_TX_STATE a 1)
  if d.bit LAN_CTRL_RXEN a && d.adapt l = aOFF then d.rxWakes l else d

/-- R50: a write of LAN_LPBK of the first lane of a port. Far-end starts both halves, near-end serial the receiver, near-end
parallel none (Table 2-6). A port that LNK_CTRL.EN disables leaves OUT_OF_SERVICE once the loop is off. DEDUCED (log 155). -/
def Dev.loopback (d : Dev) (p : Nat) (v : Word) : Dev :=
  let a := onLane p
  let m := LAN_LPBK_MODE.of v
  if !d.pexists p then d.wrFields .LAN_LPBK a v
  else if m ≠ 0 && d.lstate p ≠ OUT_OF_SERVICE then d.put LAN_LPBK_STATUS a ST_BUSY_IN_SERVICE
  else
    let was := d.get LAN_LPBK_MODE a
    let lines := (d.plances p).map (fun l => (l, d.lineOut l))
    let d := (d.put LAN_LPBK_MODE a m).put LAN_LPBK_STATUS a ST_OK
    let d := if m = 3 then d.each (d.plances p) (fun l d => d.testStart l)
      else if m = 1 then d.each (d.plances p) (fun l d => d.testSerial l)
      else if m = 2 then d.each (d.plances p) (fun l d => d.testQuiet l)
      else d.when (was ≠ 0 && d.portIdle p) (fun d =>
        (d.lanesOff p).when (!d.bit LNK_CTRL_EN a) (fun d => (d.patternsOff p).setState p DISABLED))
    d.each lines (fun x d => d.lineNow x.1 x.2)

/-- R52: the bit errors that a checker with LOCK has counted so far: free. They are taken in where LAN_PATERR is read or the checker
is stopped. DESIGN CHOICE (log 30). -/
def Dev.checkerRuns (d : Dev) (l : Nat) : Dev :=
  if d.bit LAN_PATCTL_CHK_EN (onLane l) && d.bit LAN_PATCTL_LOCK (onLane l) then (d.incBy .LAN_PATERR (onLane l) d.freeVal).freed else d

/-- R52: a write of LAN_PATCTL; the generator and checker run only while the port is out of service. -/
def Dev.patternCtrl (d : Dev) (l : Nat) (v : Word) : Dev :=
  let a := onLane l
  let p := d.lanePort l
  let on := d.lstate p = OUT_OF_SERVICE
  let was := d.lineOut l
  let d := (d.checkerRuns l).put LAN_PATCTL_PATTERN a (LAN_PATCTL_PATTERN.of v)
  let d := d.putB LAN_PATCTL_GEN_EN a (on && LAN_PATCTL_GEN_EN.of v = 1)
  let d := d.putB LAN_PATCTL_CHK_EN a (on && LAN_PATCTL_CHK_EN.of v = 1)
  let d := d.when (!d.bit LAN_PATCTL_CHK_EN a) (·.put LAN_PATCTL_LOCK a 0)
  let d := d.when ((d.bit LAN_PATCTL_GEN_EN a || d.bit LAN_PATCTL_CHK_EN a) && (d.get LAN_LPBK_MODE (onLane p) = 0 || d.get LAN_LPBK_MODE (onLane p) = 3)) (·.testStart l)
  d.lineNow l was

/-- The pattern reaches the checker: in a near-end loop only that of the lane's own generator (Table 2-6). DEDUCED (log 140). -/
def Dev.patternComes (d : Dev) (l : Nat) : Bool :=
  let m := d.get LAN_LPBK_MODE (onLane (d.lanePort l))
  !(m = 1 || m = 2) || d.bit LAN_PATCTL_GEN_EN (onLane l)

/-- The checker synchronises. -/
def Dev.checkerLock (d : Dev) (l : Nat) : Dev :=
  d.when (d.bit LAN_PATCTL_CHK_EN (onLane l) && d.patternComes l) (·.put LAN_PATCTL_LOCK (onLane l) 1)

/-- 64 consecutive errored words, whose `errors` bit errors count: the checker loses lock (R52). -/
def Dev.checkerLoss (d : Dev) (l errors : Nat) : Dev :=
  let a := onLane l
  if d.bit LAN_PATCTL_CHK_EN a && d.bit LAN_PATCTL_LOCK a then
    (d.incBy .LAN_PATERR a errors).put LAN_PATCTL_LOCK a 0
  else d

/-! ## Eye scan (R53, R54) -/

/-- R54: a write of LAN_ESCTL with START = 1. While a scan runs every write but STOP is ignored. DESIGN CHOICE (log 132). -/
def Dev.eyeStart (d : Dev) (l : Nat) (v : Word) : Dev :=
  let a := onLane l
  if d.bit LAN_ESCTL_BUSY a then d
  else
    let d := d.wrFields .LAN_ESCTL a v
    if d.adapt l = aTRACK ∧ d.get LAN_ESCTL_EYE a ≠ 3 then
      let d := ((d.put LAN_ESSAMP_SAMPLES a 0).put LAN_ESERR_ERRORS a 0).put LAN_ESCTL_BUSY a 1
      (d.put LAN_ESCTL_ABORTED a 0).put LAN_ESCTL_DONE a 0
    else (d.put LAN_ESCTL_ABORTED a 1).put LAN_ESCTL_DONE a 1

/-- R54: STOP ends a running scan. -/
def Dev.eyeStop (d : Dev) (l : Nat) : Dev := d.abortScan l

/-- R54: the sample count reaches 2^DWELL, with `errors` disagreements among the samples. DESIGN CHOICE (log 30). -/
def Dev.eyeDone (d : Dev) (l errors : Nat) : Dev :=
  let a := onLane l
  if d.bit LAN_ESCTL_BUSY a && d.adapt l = aTRACK then
    let n := 2 ^ dwell (d.get LAN_ESCTL_DWELL a)
    (((d.put LAN_ESSAMP_SAMPLES a n).put LAN_ESERR_ERRORS a (max (d.get LAN_ESERR_ERRORS a) (min n errors))).put LAN_ESCTL_BUSY a 0).put
      LAN_ESCTL_DONE a 1
  else d

end Sys2Proof.Machine
end

