-- ==== Sys2Proof/Machine/Links.lean ====
section
/-! DEFINITION. Links (spec/03): flits and messages that arrive, training, the commands of LNK_CTRL and LNK_CMD, drains,
audits. -/

namespace Sys2Proof.Machine

/-! ## Flits -/

/-- R60, R66 to R68: a DATA flit that passed its CRC reaches a port; in Bisque mode it is not accepted (R388). -/
def Dev.dataFlit (d : Dev) (p : Nat) (c : Ctrl) (b : Body) : Dev :=
  match vcIndex (ctlFvc c) with
  | none => d.receive p false id
  | some v =>
    d.receive p (ctlKind c = 1 && creditValid c) (fun d =>
      let d := d.applyAck p (ctlAck c)
      if d.lstate p ≠ UP then d
      else if d.inBisque then d
      else d.sequenced p (fun d =>
        if d.framingFault p v (ctlHead c) b then d.protoError p
        else (d.acceptSeq p c).dataIn p v (ctlHead c) (ctlPoison c) b))

/-- An IDLE flit that passed its CRC: its acknowledgement. -/
def Dev.idleFlit (d : Dev) (p : Nat) (c : Ctrl) : Dev :=
  d.receive p (ctlKind c = 0 && ctlCcnt c = 0) (fun d => d.applyAck p (ctlAck c))

/-- A flit fails its CRC (`crc`), or has an invalid encoding (R60, R68). Greenware checks no CRC (R57). -/
def Dev.badFlit (d : Dev) (p : Nat) (crc : Bool) : Dev :=
  if !d.flitsFlow p then d
  else if crc || (0 < (d.link p).marked && !d.greenware p) then (if d.greenware p then d else (d.takeMark p).crcFails p)
  else d.protoError p

/-- R66, R69: a number outside the window sends the link to RETRAIN. -/
def Dev.outOfWindow (d : Dev) (p : Nat) : Dev := (d.inc .LNK_ACKERR (onLane p)).enterRetrain p causeACK_RANGE true

/-- R69, R71: a REPLAY_REQ naming s. -/
def Dev.replayRequest (d : Dev) (p s : Nat) : Dev :=
  if d.lstate p ≠ UP || d.greenware p || d.replayIgnored p s then d
  else
    let l := d.link p
    let n := (s + 65536 - l.oldest) % 65536
    if n ≤ l.window.length then (d.ackFlits p n).replayFrom p 0 else d.outOfWindow p

/-- A LINKCTL message with the subtype its command names. -/
def Dev.linkctlIn (d : Dev) (p sub : Nat) (c : Ctrl) (act : Dev → Dev) : Dev :=
  if ctlFvc c ≠ sub then d.receive p false id else d.receiveLinkctl p c act

/-- A received REPLAY_REQ. -/
def Dev.replayReqIn (d : Dev) (p : Nat) (c : Ctrl) (b : Body) : Dev :=
  d.linkctlIn p subREPLAY_REQ c (fun d => d.replayRequest p (fb b 0 16))

/-- R68: a received REPLAY_START ends discard mode and sets the incoming count. -/
def Dev.replayStartIn (d : Dev) (p : Nat) (c : Ctrl) (b : Body) : Dev :=
  d.linkctlIn p subREPLAY_START c (fun d =>
    if d.lstate p = UP && !d.greenware p then d.modLink p (fun l => { l with discarding := false, incoming := fb b 0 16 }) else d)

/-- R69: the replay timer expires on a window that is not empty. -/
def Dev.replayTimer (d : Dev) (p : Nat) : Dev :=
  if d.linkUp p && !d.greenware p && (d.link p).window ≠ [] then d.replayFrom p 0 else d

/-- R67: ACK_DLY has passed since the first accepted flit that no sent ACK covers. -/
def Dev.ackFalls (d : Dev) (p : Nat) : Dev :=
  if d.linkUp p && (d.link p).ackTimer then d.modLink p (fun l => { l with ackDue := true, ackTimer := false }) else d

/-- R81: credits are owed and no DATA flit went to carry them. -/
def Dev.creditFalls (d : Dev) (p : Nat) : Dev :=
  if d.linkUp p && (d.mostOwed p).isSome then d.modLink p (fun l => { l with creditDue := true }) else d

/-! ## Training -/

/-- R80: the allocation that a new life would start from: the share now, less the flits still held; 0 in Bisque mode (R388). -/
def Dev.offered (d : Dev) (p v : Nat) : Nat :=
  if d.inBisque then 0 else d.allocOf (laneDie p) (d.portShare p) v - (d.chan p v).occ

/-- The TRAIN body of an end (Table 3-11); CONFIRM once the peer's has been received. DEDUCED (log 35, 84). -/
def Dev.trainBody (d : Dev) (p : Nat) : Body :=
  let l := d.link p
  BitVec.ofNat 448 (d.sys.fabricId % 2 ^ 32 ||| (d.get LNK_INC_LOCAL_INC (onLane p)) <<< 32 |||
    (d.nodeId % 131072) <<< 64 ||| d.nodeValid.toNat <<< 81 ||| (p % 512) <<< 82 ||| l.gotTrain.toNat <<< 91 |||
    (d.greenware p).toNat <<< 92 ||| (l.expected % 65536) <<< 96 ||| 0x0100 <<< 112 |||
    ((List.range 18).map (fun v => (d.offered p v % 65536) <<< (128 + 16 * v))).sum)

/-- In the parameters phase an end sends TRAIN. -/
def Dev.trainSend (d : Dev) (p : Nat) : Dev :=
  if d.pexists p && (d.link p).phase = .params then d.sendLinkctl p subTRAIN (d.trainBody p) else d

/-- The check that the first TRAIN of the peer fails, in the order of R73; fabric identifier 0 is that of Bisque mode and
never matches (R388). DEDUCED (log 34). -/
def Dev.trainFails (d : Dev) (p : Nat) (b : Body) : Option Nat :=
  if fb b 0 32 ≠ d.sys.fabricId % 2 ^ 32 || d.sys.fabricId = 0 then some failFABRIC
  else if fb b 92 1 ≠ (d.greenware p).toNat then some failMODE
  else if fb b 120 8 ≠ 1 then some failVERSION
  else none

/-- R389: CFG_PEER keeps what the last TRAIN received on a port says. DEDUCED (log 84). -/
def Dev.peerSeen (d : Dev) (p : Nat) (b : Body) : Dev :=
  let a : At := ⟨0, p⟩
  ((((d.put CFG_PEER_FABRIC a (fb b 0 32)).put CFG_PEER_SEEN a 1).put CFG_PEER_PORT a (fb b 82 9)).put CFG_PEER_NODE_VALID a
    (fb b 81 1)).put CFG_PEER_NODE a (fb b 64 17)

/-- A TRAIN that passed its CRC and is validly encoded (Tables 3-2, 3-6). -/
def trainValid (c : Ctrl) : Bool := ctlKind c = 3 && ctlCcnt c = 0 && ctlFvc c = subTRAIN

/-- R73: the first TRAIN of the peer passes, or a later one comes: its contents count. The first makes this end send CONFIRM = 1
at once; a TRAIN with CONFIRM = 1 ends the attempt. -/
def Dev.trainTake (d : Dev) (p : Nat) (b : Body) : Dev :=
  let first := !(d.link p).gotTrain
  let d := d.modLink p (fun l => { l with
    gotTrain := true, trainInc := fb b 32 32, trainSeq := fb b 96 16,
    trainAlloc := (List.range 18).map (fun v => fb b (128 + 16 * v) 16),
    peerNode := fb b 64 17, peerValid := fb b 81 1 = 1, peerPort := fb b 82 9 })
  let d := d.when first (·.sendLinkctl p subTRAIN (d.trainBody p))
  if fb b 91 1 = 1 then d.enterUp p else d

/-- R73: a TRAIN of the peer. Its ACK is never applied (R66); CFG_PEER records it (R389); it counts in the parameters phase.
DEDUCED (log 111). -/
def Dev.trainIn (d : Dev) (p : Nat) (c : Ctrl) (b : Body) : Dev :=
  if !d.pexists p || d.lstate p = DISABLED || d.lstate p = OUT_OF_SERVICE then d
  else if d.lstate p = UP then d.receive p (trainValid c) (·.peerSeen p b)
  else if !trainValid c || (0 < (d.link p).marked && !d.greenware p) then d.receive p (trainValid c) id
  else
    let d := d.peerSeen p b
    if (d.link p).phase ≠ .params then d
    else match (if (d.link p).gotTrain then none else d.trainFails p b) with
      | some r => d.failAttempt p r
      | none => d.trainTake p b

/-- Every lane of both ends shows READY. -/
def Dev.lanePhaseDone (d : Dev) (p : Nat) : Dev :=
  if d.pexists p && d.inLanePhase p && d.portReady p then d.modLink p (fun l => { l with phase := .alignment }) else d

/-- Lanes are deskewed and blocks locked. -/
def Dev.alignmentDone (d : Dev) (p : Nat) : Dev :=
  if d.pexists p && (d.link p).phase = .alignment then d.modLink p (fun l => { l with phase := .params }) else d

/-- LNK_TIMERS.TRAIN expires. DESIGN CHOICE (log 3). -/
def Dev.trainTimeout (d : Dev) (p : Nat) : Dev :=
  if d.pexists p && d.inAttempt p then d.failAttempt p failTIMEOUT else d

/-! ## Draining (R79) -/

/-- A received OOS_NOTICE: this end drains; a commanding end stays one. -/
def Dev.oosNotice (d : Dev) (p : Nat) (c : Ctrl) : Dev :=
  d.linkctlIn p subOOS_NOTICE c (fun d => d.when (d.lstate p = UP) (·.startDrain p false))

/-- An end whose window is empty sends DRAINED once. -/
def Dev.sayDrained (d : Dev) (p : Nat) : Dev :=
  if (d.link p).drainedSent then d
  else (d.modLink p (fun l => { l with drainedSent := true })).sendLinkctl p subDRAINED 0

/-- A commanding end with an empty window that has received DRAINED leaves service. -/
def Dev.drainEnds (d : Dev) (p : Nat) : Dev :=
  if d.lstate p = UP && d.draining p && d.windowEmpty p then
    (d.sayDrained p).when ((d.link p).commanding && (d.link p).drainedRcvd) (·.enterOos p)
  else d

/-- A received DRAINED. -/
def Dev.drainedIn (d : Dev) (p : Nat) (c : Ctrl) : Dev :=
  d.linkctlIn p subDRAINED c (fun d =>
    if d.lstate p = UP && d.draining p then (d.modLink p (fun l => { l with drainedRcvd := true })).drainEnds p else d)

/-- The DRAIN timer of a commanding end expires. -/
def Dev.drainTimeout (d : Dev) (p : Nat) : Dev :=
  if d.pexists p && d.draining p && (d.link p).commanding && (d.lstate p = UP || d.lstate p = RETRAIN) then d.enterOos p else d

/-- A received RETRAIN_REQ (R77). -/
def Dev.retrainReqIn (d : Dev) (p : Nat) (c : Ctrl) : Dev :=
  d.linkctlIn p subRETRAIN_REQ c (fun d => d.enterRetrain p causePEER_REQUEST false)

/-! ## DOWN -/

/-- The probe timer of a port in DOWN expires; 0 makes no attempt (Table 3-17). -/
def Dev.downProbe (d : Dev) (p : Nat) : Dev :=
  if d.pexists p && d.lstate p = DOWN && !d.inAttempt p && d.get LNK_TIMERS2_DOWN_PROBE (onLane p) ≠ 0 then d.startAttempt p
  else d

/-- Signal is detected on every lane of a port in DOWN. -/
def Dev.signalOn (d : Dev) (p : Nat) : Dev :=
  if !d.pexists p then d
  else
    let d := d.each (d.plances p) (fun l d => d.put LAN_RXSTAT_SIG_DET (onLane l) 1)
    if d.lstate p = DOWN && !d.inAttempt p then d.startAttempt p else d

/-! ## LNK_CTRL (R63, R77) -/

/-- R63: Greenware may be set on a port. -/
def Dev.greenAllowed (d : Dev) (p : Nat) : Bool :=
  0 < d.sys.sysModules && d.sys.sysModules ≤ 256 &&
  (d.get LAN_CTRL_RATE (onLane p) = 1 || d.get LAN_CTRL_RATE (onLane p) = 2)

/-- LNK_CTRL.EN written 0: entry to DISABLED (R74, R77). A port in a test loop stays out of service until the loop is off (R50). -/
def Dev.disablePort (d : Dev) (p : Nat) : Dev :=
  if d.get LAN_LPBK_MODE (onLane p) ≠ 0 then (d.advanceInc p).dropHeld p dropRELEASE
  else
  let d := d.when (d.lstate p = UP) (·.leaveUp p)
  let d := (d.setState p DISABLED).endDrain p
  let d := (d.advanceInc p).modLink p (fun l => { l with phase := .idle, linkctl := [] })
  ((d.lanesOff p).patternsOff p).dropHeld p dropRELEASE

/-- R63, R77: a write of LNK_CTRL. DEDUCED (log 24, 31, 155). -/
def Dev.lnkCtrl (d : Dev) (p : Nat) (v : Word) : Dev :=
  let a := onLane p
  if !d.pexists p then d
  else if LNK_CTRL_INTEG.of v = 1 && !d.greenAllowed p then d.put LNK_CTRL_STATUS a ST_NOT_PERMITTED
  else
    let d := (d.wrFields .LNK_CTRL a v).put LNK_CTRL_STATUS a ST_OK
    if LNK_CTRL_EN.of v = 0 then d.disablePort p
    else d.when (d.lstate p = DISABLED) (·.enterTraining p)

/-! ## LNK_CMD (Table 3-12) -/

def Dev.cmdStatus (d : Dev) (p st : Nat) : Dev := d.put LNK_STAT_CMD_STATUS (onLane p) st

/-- LNK_CMD RETRAIN. -/
def Dev.cmdRetrain (d : Dev) (p : Nat) : Dev :=
  if !d.pexists p then d
  else if d.lstate p = UP then (d.cmdStatus p ST_OK).enterRetrain p causeCOMMAND true
  else d.cmdStatus p ST_BAD_STATE

/-- LNK_CMD OUT_OF_SERVICE. -/
def Dev.cmdOos (d : Dev) (p : Nat) : Dev :=
  if !d.pexists p then d
  else if d.lstate p = UP then
    if d.draining p && (d.link p).commanding then d.cmdStatus p ST_BAD_STATE
    else ((d.cmdStatus p ST_OK).startDrain p true).sendLinkctl p subOOS_NOTICE 0
  else if d.lstate p = TRAINING || d.lstate p = RETRAIN || d.lstate p = DOWN then (d.cmdStatus p ST_OK).enterOos p
  else d.cmdStatus p ST_BAD_STATE

/-- LNK_CMD IN_SERVICE. -/
def Dev.cmdInService (d : Dev) (p : Nat) : Dev :=
  if !d.pexists p then d
  else if d.lstate p = OUT_OF_SERVICE && d.get LAN_LPBK_MODE (onLane p) = 0 then
    ((d.cmdStatus p ST_OK).patternsOff p).enterTraining p
  else d.cmdStatus p ST_BAD_STATE

/-! ## Bypass messages of the link layer -/

/-- A BYPASS message with the code its command names. -/
def Dev.bypassIn (d : Dev) (p code : Nat) (c : Ctrl) (act : Dev → Dev) : Dev :=
  if ctlFvc c ≠ code then d.receive p false id else d.receiveBypass p c act

/-- R81: a received CREDIT. -/
def Dev.creditIn (d : Dev) (p : Nat) (c : Ctrl) (b : Body) : Dev :=
  d.bypassIn p byCREDIT c (fun d => d.each (List.range 18) (fun v d => d.applyCredit p v (fb b (16 * v) 16)))

/-- R82, step 1: applied credits against RET. -/
def Dev.auditCredit (d : Dev) (p v ret : Nat) : Dev :=
  let c := d.chan p v
  let diff := signed 16 (ret + 65536 - c.applied)
  if diff = 0 then d
  else ((d.setChan p v { c with avail := c.avail + diff, applied := ret }).inc .LNK_AUDITERR (onLane p)).raise srcCONSERVE 1
    (locChan p v) 0

/-- R82, step 2 fails: flits sent less ACC exceed the window. -/
def Dev.auditWindowBad (d : Dev) (p v acc : Nat) : Bool := 16384 < ((d.chan p v).sent + 65536 - acc) % 65536

/-- R82: both steps on one channel. -/
def Dev.auditChannel (d : Dev) (p v ret acc : Nat) : Dev :=
  let d := d.auditCredit p v ret
  if d.auditWindowBad p v acc then (d.inc .LNK_AUDITERR (onLane p)).raise srcCONSERVE 2 (locChan p v) 0 else d

/-- R82: the steps of an AUDIT for a network: every channel in ascending step, then one RETRAIN when a window failed.
DEDUCED (log 37). -/
def Dev.audit (d : Dev) (p : Nat) (b : Body) : Dev :=
  let vn := fb b 0 8
  if vn > 2 then d
  else
    let bad := (List.range 6).any (fun s => d.auditWindowBad p (6 * vn + s) (fb b (48 + 32 * s) 16))
    let d := d.each (List.range 6) (fun s d => d.auditChannel p (6 * vn + s) (fb b (32 + 32 * s) 16) (fb b (48 + 32 * s) 16))
    if bad then (d.enterRetrain p causeAUDIT_WINDOW true).advanceInc p else d

/-- A received AUDIT. RET counts what was returned before the AUDIT flit (R82), so the checks come before the flit's own credits. -/
def Dev.auditIn (d : Dev) (p : Nat) (c : Ctrl) (b : Body) : Dev :=
  if ctlFvc c ≠ byAUDIT then d.receive p false id else d.takeBypass p c (fun d => (d.audit p b).acceptSeq p c)

/-- R82: an audit round: one message for each virtual network. -/
def Dev.auditSend (d : Dev) (p : Nat) : Dev :=
  if !d.linkUp p then d
  else
    let r := (d.link p).auditRound
    let d := d.each (List.range 3) (fun vn d => d.sendBypass p byAUDIT (numBody (vn ||| r <<< 16)))
    d.modLink p (fun l => { l with auditRound := (r + 1) % 65536 })

/-- R86: a TIME message is raised. -/
def Dev.timeSend (d : Dev) (p : Nat) : Dev := if d.linkUp p then d.sendBypass p byTIME 0 else d

end Sys2Proof.Machine
end

