-- ==== Sys2Proof/Machine/Groups.lean ====
section
/-! DEFINITION. Group commands and fences (R183 to R188, R213 to R216, R365): entry fetches, validation, invalidation, FORCE,
writes of live entries, fences originated, received and refreshed. -/

namespace Sys2Proof.Machine

/-! ## Entries -/

/-- The packets that wait for entries on a die are looked at again, in order (R14). -/
def Dev.groupsProceed (d : Dev) (q : Nat) : Dev :=
  let l := d.mcg.waiting.filter (fun w => w.1 = q)
  ({ d with mcg := { d.mcg with waiting := d.mcg.waiting.filter (fun w => w.1 ≠ q) } }).each l
    (fun w d => d.groupTurn q w.2.1 w.2.2.1 w.2.2.2)

/-- R183: the entry of a group arrives from SRAM; the packets that wait for it on the die proceed. -/
def Dev.groupFetched (d : Dev) (q g : Nat) : Dev :=
  if d.mcg.waiting.any (fun w => w.1 = q && w.2.1 = g) then (d.when (d.backed q g) (·.useEntry q g)).groupsProceed q else d

/-- The backed groups of a die. -/
def Dev.backedGroups (d : Dev) (q : Nat) : List Nat :=
  ((List.range 1024).map (fun j =>
    let w := (d.rd .MCG_GVALID ⟨q, j⟩).toNat
    if w = 0 then [] else ((List.range 64).filter (fun b => bits w b 1 = 1)).map (j * 64 + ·))).flatten

/-- R184: the collective entries backed on a die whose engine it is, and their windows. -/
def Dev.colGroups (d : Dev) (q : Nat) : List Nat := (d.backedGroups q).filter (fun g => d.gColl q g && d.gEngdie q g = q)

/-- The reserved bits of an entry are zero (Table 8-1). -/
def Dev.gReserved (d : Dev) (q g : Nat) : Bool :=
  bits (d.groupWord q g 0) 25 7 = 0 && bits (d.groupWord q g 0) 52 12 = 0 && bits (d.groupWord q g 1) 16 48 = 0 &&
  d.groupWord q g 14 = 0 && d.groupWord q g 15 = 0

/-- R184 holds with the entry counted. -/
def Dev.gWindowOk (d : Dev) (q g : Nat) : Bool :=
  !d.gColl q g || (1 ≤ d.gWindow q g &&
    (d.gEngdie q g ≠ q ||
      (let l := d.colGroups q
       l.length + 1 ≤ 1024 && (l.map (d.gWindow q)).sum + d.gWindow q g ≤ 2048)))

/-- R186, Table 8-2: the lowest reason for which an entry fails; none when it passes. -/
def Dev.groupFails (d : Dev) (q g : Nat) : Option Nat :=
  let root := d.gRoot q g
  if !root && (!d.pexists (d.gUpPort q g) || d.gDown q g (d.gUpPort q g)) then some 1
  else if (d.gDownPorts q g).any (fun p => !d.pexists p) then some 2
  else if d.gUpStep q g > 5 || d.gDownStep q g > 5 || (!root && d.gUpStep q g ≥ d.gDownStep q g) then some 3
  else if root && d.gTotal q g = 0 then some 4
  else if !d.gWindowOk q g then some 5
  else if d.gEnc q g && d.keyState q (d.gKeyslot q g) ≠ keyGROUP then some 6
  else if (d.gLocals q g).any (fun i => d.sys.formS || !d.bit HST_BIND_VALID ⟨i / 64, i % 64⟩) then some 7
  else if !d.gReserved q g then some 8
  else none

/-- Record the outcome of a command (MCG_GCMD.STATUS). -/
def Dev.gcmdStatus (d : Dev) (q g st : Nat) : Dev := (d.put MCG_GCMD_GROUP (onDie q) g).put MCG_GCMD_STATUS (onDie q) st

/-- Record a failure in MCG_TBLERR while it is free. -/
def Dev.groupErr (d : Dev) (q g reason : Nat) : Dev :=
  if d.bit MCG_TBLERR_VALID (onDie q) then d
  else ((d.put MCG_TBLERR_VALID (onDie q) 1).put MCG_TBLERR_REASON (onDie q) reason).put MCG_TBLERR_GROUP (onDie q) g

/-- R197: the operations of a group are counted anew from its validation. -/
def Dev.newSeqs (d : Dev) (q g : Nat) : Dev :=
  { d with
    clv := { d.clv with
      seqs := d.clv.seqs.filter (fun e => e.1 / 512 ≠ q * 65536 + g),
      recs := d.clv.recs.filter (fun e => e.1 / 4 ≠ q * 65536 + g) },
    ep := { d.ep with opseq := if g = 65535 then 0 else d.ep.opseq } }

/-- R186: VALIDATE. -/
def Dev.groupValidate (d : Dev) (q g : Nat) : Dev :=
  if d.backed q g then d.gcmdStatus q g ST_BAD_STATE
  else match d.groupFails q g with
    | some r => (d.groupErr q g r).gcmdStatus q g ST_BAD_PARAM
    | none =>
      let d := d.when (d.gColl q g && d.gEngdie q g = q) (·.arrival (q * 4 + g % 4))
      ((d.newSeqs q g).setBacked q g true).gcmdStatus q g ST_OK

/-- R187, R365: the group is backed no more; its entry leaves the cache, packets that wait for it are dropped as GROUP, the key
slot of an encrypted group is SPENT. -/
def Dev.groupOff (d : Dev) (q g : Nat) : Dev :=
  let was := d.backed q g
  let d := (d.setBacked q g false).setGcache q ((d.gcache q).filter (· ≠ g))
  let d := d.when (was && d.gEnc q g && d.keyState q (d.gKeyslot q g) = keyGROUP)
    (·.put SAG_KEYSLOT_STATE ⟨q, d.gKeyslot q g⟩ keySPENT)
  d.groupFetched q g

/-- An operation of a group is open on a die (R187). -/
def Dev.groupOpen (d : Dev) (q g : Nat) : Bool := d.openOps q g ≠ [] || d.clv.mems.any (fun m => m.die = q && m.group = g)

/-- R187: INVALIDATE. -/
def Dev.groupInvalidate (d : Dev) (q g : Nat) : Dev :=
  if d.groupOpen q g then d.gcmdStatus q g ST_BAD_STATE else (d.groupOff q g).gcmdStatus q g ST_OK

/-- R187: FORCE. -/
def Dev.groupForce (d : Dev) (q g : Nat) : Dev := ((d.forceOps q g).groupOff q g).gcmdStatus q g ST_OK

/-- R188: a write of word w of an entry. -/
def Dev.groupWrite (d : Dev) (q g w : Nat) (v : Word) : Dev :=
  let d := d.when (d.backed q g) (·.inc .MCG_LIVEWR (onDie q))
  { d with win := { d.win with group := Tab.set d.win.group 0 ((q * 65536 + g) * 16 + w) v.toNat } }

/-! ## Fences -/

/-- A fence applied on one die: the state of R213, and what R215 and R216 do to operations there. DEDUCED (log 93). -/
def Dev.fenceDie (d : Dev) (q e : Nat) (node set : Bool) (gen orig : Nat) : Dev :=
  let d := d.applyFence q e node set gen orig
  if set then (d.fenceOps q).fenceMembers q else d

/-- The body of a FENCE message (Table 3-14). -/
def fenceBody (e : Nat) (node set : Bool) (gen orig : Nat) : Body :=
  BitVec.ofNat 448 (e % 2 ^ 25 ||| node.toNat <<< 25 ||| set.toNat <<< 26 ||| (gen % 2 ^ 32) <<< 32 ||| (orig % 131072) <<< 64)

/-- A bypass message on every UP port. -/
def Dev.flood (d : Dev) (code : Nat) (b : Body) : Dev :=
  d.each (d.ports.filter (fun p => d.lstate p = UP)) (fun p d => d.sendBypass p code b)

/-- R213: a fence is applied on the dies whose stored pair it supersedes and sent on; on none, it is ignored. -/
def Dev.fenceSpread (d : Dev) (e : Nat) (node set : Bool) (gen orig : Nat) : Dev :=
  let l := (List.range 4).filter (fun q => pairAbove (gen, orig) (d.fencePair q (epNode e)))
  if l = [] then d
  else (d.each l (fun q d => d.fenceDie q e node set gen orig)).flood byFENCE (fenceBody e node set gen orig)

/-- A received FENCE. DEDUCED (log 93). -/
def Dev.fenceIn (d : Dev) (p : Nat) (c : Ctrl) (b : Body) : Dev :=
  d.bypassIn p byFENCE c (·.fenceSpread (fb b 0 25) (fb b 25 1 = 1) (fb b 26 1 = 1) (fb b 32 32) (fb b 64 17))

/-- A fence originated here with the next generation of the node as die q stores it (R214). -/
def Dev.fenceOriginate (d : Dev) (q e : Nat) (node set : Bool) : Dev :=
  let gen := (d.fencePair q (epNode e)).1 + 1
  let mine := d.mcg.mine.filter (fun m => !(m.2.1 = node && (if node then epNode m.1 = epNode e else m.1 = e)))
  let d := { d with mcg := { d.mcg with mine := if set then mine ++ [(e, node, gen)] else mine } }
  d.fenceSpread e node set gen d.nodeId

/-- R214: MCG_FENCECMD.GO on die q by a path. -/
def Dev.fenceGo (d : Dev) (q : Nat) (path : Path) (v : Word) : Dev :=
  let d := d.wrFields .MCG_FENCECMD (onDie q) v
  let e := MCG_FENCECMD_EP.of v
  let node := MCG_FENCECMD_NODE_SCOPE.of v = 1
  let ok := match path with
    | .host h => !node && epNode e = d.nodeId && epHport e = h.val
    | _ => true
  if ok then (d.fenceOriginate q e node (MCG_FENCECMD_SET.of v = 1)).put MCG_FENCECMD_STATUS (onDie q) ST_OK
  else d.put MCG_FENCECMD_STATUS (onDie q) ST_NOT_PERMITTED

/-- A fence that this module originated is still in force on some die. -/
def Dev.fenceStands (d : Dev) (m : Nat × Bool × Nat) : Bool :=
  (List.range 4).any (fun q => if m.2.1 then d.nodeFenced q (epNode m.1) else d.epFenced q m.1)

/-- R214: every fence in force that this module originated is flooded again; a die that lost its state learns it.
DEDUCED (log 93). -/
def Dev.fenceRefresh (d : Dev) : Dev :=
  if d.get MCG_CTRL_REFRESH onMod = 0 then d
  else d.each (d.mcg.mine.filter d.fenceStands) (fun (m : Nat × Bool × Nat) d =>
    let l := (List.range 4).filter (fun q => pairAbove (m.2.2, d.nodeId) (d.fencePair q (epNode m.1)))
    (d.each l (fun q d => d.fenceDie q m.1 m.2.1 true m.2.2 d.nodeId)).flood byFENCE (fenceBody m.1 m.2.1 true m.2.2 d.nodeId))

end Sys2Proof.Machine
end

