-- ==== Sys2Proof/Machine/Routing.lean ====
section
/-! DEFINITION. Routing and forwarding (spec/05, 07): route banks and their checks, the Dune map, release of held traffic,
shares, shapers and gates as commands change them. -/

namespace Sys2Proof.Machine

/-! ## Checks of a bank (R120, R121) -/

/-- The candidates of a port-set entry. -/
def Dev.cands (d : Dev) (q bank i : Nat) : List Nat := (List.range 8).map (d.cand q bank i)

/-- Valid candidates occupy the lowest slots of a list and their steps do not decrease. -/
def listOrdered : List Nat → Bool
  | a :: b :: t => (!cValid b || (cValid a && cStep a ≤ cStep b)) && listOrdered (b :: t)
  | _ => true

/-- The highest step of the valid candidates of a list. -/
def maxStep (l : List Nat) : Nat := ((l.filter cValid).map cStep).foldl max 0

/-- A port stands twice at one step. -/
def twice : List Nat → Bool
  | [] => false
  | c :: t => (cValid c && t.any (fun x => cValid x && cPort x = cPort c && cStep x = cStep c)) || twice t

/-- The lowest reason of Table 5-4 for which a port-set entry fails; `referred` when a route entry refers to it. -/
def Dev.psetFails (d : Dev) (q bank i : Nat) (referred : Bool) : Option Nat :=
  let cs := d.cands q bank i
  let lo := cs.take 4
  let hi := cs.drop 4
  if !(listOrdered lo && listOrdered hi) then some 1
  else if cs.any (fun c => cValid c && cStep c ≥ 6) then some 2
  else if cs.any (fun c => cValid c && !d.pexists (cPort c)) then some 3
  else if twice cs then some 4
  else if !(lo.any cValid) && referred then some 5
  else if hi.any cValid && maxStep lo < maxStep hi then some 6
  else if cs.any (fun c => c ≥ 2 ^ 29) then some 8
  else none

/-- The reason of Table 5-4 for which a route entry itself fails. -/
def Dev.routeFails (d : Dev) (n e : Nat) : Option Nat :=
  if 1 < (rtLocal e).toNat + (rtDiscard e).toNat + (rtUnreach e).toNat || (rtLocal e && !(d.nodeValid && n = d.nodeId)) then
    some 7
  else if e ≥ 65536 then some 8
  else none

/-- The entry refers to a port set. -/
def rtRefers (e : Nat) : Bool := !rtLocal e && !rtDiscard e && !rtUnreach e

/-- The route entries of a bank that are listed: node and entry. An unlisted one reads 0 and refers to port set 0. -/
def Dev.routesOf (d : Dev) (q bank : Nat) : List (Nat × Nat) :=
  (d.win.route.filter (fun e => e.1 / 131072 = q * 2 + bank)).map (fun e => (e.1 % 131072, e.2))

/-- A route entry of the bank refers to port set i. -/
def Dev.referred (d : Dev) (q bank i : Nat) : Bool :=
  let l := d.routesOf q bank
  l.any (fun e => rtRefers e.2 && rtPset e.2 = i) || (i = 0 && l.length < 131072)

/-- Record a failure in RTE_TBLERR while it is free (R475). -/
def Dev.tblErr (d : Dev) (q bank table index reason : Nat) : Dev :=
  let a := onDie q
  if d.bit RTE_TBLERR_VALID a then d
  else
    let d := (d.put RTE_TBLERR_VALID a 1).put RTE_TBLERR_REASON a reason
    ((d.put RTE_TBLERR_BANK a bank).put RTE_TBLERR_TABLE a table).put RTE_TBLERR_INDEX a index

/-- The port-set entries that can fail: those with a listed slot, those a route entry refers to, and entry 0. -/
def Dev.psetIndices (d : Dev) (q bank : Nat) : List Nat :=
  let listed : List Nat := (d.win.pset.filter (fun (e : Nat × Nat) => e.1 / 32768 = q * 2 + bank)).map (fun e => e.1 % 32768 / 8)
  let named : List Nat := ((d.routesOf q bank).filter (fun (e : Nat × Nat) => rtRefers e.2)).map (fun e => rtPset e.2)
  (listed ++ named ++ [0]).eraseDups

/-- The lowest index of a list of failures. -/
def lowest (l : List (Nat × Nat)) : Option (Nat × Nat) :=
  l.foldl (fun b x => match b with | some y => if x.1 < y.1 then some x else some y | none => some x) none

/-- R120 to R122: the first failure of a whole bank: table, index, reason. Port sets are looked at first. DEDUCED (log 43). -/
def Dev.bankFails (d : Dev) (q bank : Nat) : Option (Nat × Nat × Nat) :=
  match lowest ((d.psetIndices q bank).filterMap (fun i =>
      (d.psetFails q bank i (d.referred q bank i)).map (fun r => (i, r)))) with
  | some (i, r) => some (1, i, r)
  | none =>
    match lowest ((d.routesOf q bank).filterMap (fun e => (d.routeFails e.1 e.2).map (fun r => (e.1, r)))) with
    | some (n, r) => some (0, n, r)
    | none => none

/-! ## RTE_EPOCH (R116, R122, R128) -/

def Dev.epochStatus (d : Dev) (q st : Nat) : Dev := d.put RTE_EPOCH_STATUS (onDie q) st
def Dev.checkingOn (d : Dev) (q : Nat) : Bool := d.bit RTE_EPOCH_CHECKING (onDie q)
def Dev.setBankValid (d : Dev) (q b : Nat) (v : Bool) : Dev :=
  let x := d.get RTE_EPOCH_VALID (onDie q)
  d.put RTE_EPOCH_VALID (onDie q) (if v then x ||| 2 ^ b else x - (bits x b 1) * 2 ^ b)

/-- R128: a write of STAMP. -/
def Dev.stampWrite (d : Dev) (q e : Nat) : Dev :=
  if d.bankValid q e then (d.put RTE_EPOCH_STAMP (onDie q) e).epochStatus q ST_OK else d.epochStatus q ST_BAD_STATE

/-- R128: retire a bank. -/
def Dev.retireBank (d : Dev) (q b : Nat) : Dev :=
  if d.get RTE_EPOCH_STAMP (onDie q) = b || d.checkingOn q then d.epochStatus q ST_BAD_STATE
  else (d.setBankValid q b false).epochStatus q ST_OK

/-- R122: start the check of a bank. -/
def Dev.validateBank (d : Dev) (q b : Nat) : Dev :=
  if d.bankValid q b || d.checkingOn q then d.epochStatus q ST_BAD_STATE
  else
    { d.put RTE_EPOCH_CHECKING (onDie q) 1 with
      rtr := { (d.put RTE_EPOCH_CHECKING (onDie q) 1).rtr with checking := Tab.put d.rtr.checking q b } }

/-- Act on the banks whose bit is set in a two-bit mask, bank 0 first; the status of the last stands (DESIGN CHOICE).
DESIGN CHOICE (log 137). -/
def Dev.eachBank (d : Dev) (mask : Nat) (g : Nat → Dev → Dev) : Dev :=
  d.each ((List.range 2).filter (fun b => bits mask b 1 = 1)) g

/-- A write of RTE_EPOCH: STAMP, then RETIRE, then VALIDATE. A command written with the present STAMP is no STAMP write.
DEDUCED (log 44). -/
def Dev.rteEpoch (d : Dev) (q : Nat) (v : Word) : Dev :=
  let e := RTE_EPOCH_STAMP.of v
  let same := e = d.get RTE_EPOCH_STAMP (onDie q) ∧ (RTE_EPOCH_RETIRE.of v ≠ 0 ∨ RTE_EPOCH_VALIDATE.of v ≠ 0)
  let d := if same then d else d.stampWrite q e
  let d := d.eachBank (RTE_EPOCH_RETIRE.of v) (fun b d => d.retireBank q b)
  d.eachBank (RTE_EPOCH_VALIDATE.of v) (fun b d => d.validateBank q b)

/-- R122: the check under way ends; waiting injection resumes when the stamp's bank became valid (R116). -/
def Dev.bankCheckDone (d : Dev) (q : Nat) : Dev :=
  match Tab.find d.rtr.checking q with
  | none => d
  | some b =>
    let d := { d with rtr := { d.rtr with checking := Tab.del d.rtr.checking q } }
    let d := d.put RTE_EPOCH_CHECKING (onDie q) 0
    match d.bankFails q b with
    | none =>
      let d := (d.setBankValid q b true).epochStatus q ST_OK
      d.each (List.range 4) (fun r d => d.retryInj q r)
    | some (t, i, r) => (d.tblErr q b t i r).epochStatus q ST_BAD_PARAM

/-! ## Table writes (R123) -/

/-- Write the two entries of a route-table word. -/
def Dev.putRoute (d : Dev) (q bank w : Nat) (v : Word) : Dev :=
  let k := (q * 2 + bank) * 131072 + 2 * w
  { d with win := { d.win with
      route := Tab.set (Tab.set d.win.route 0 k (bits v.toNat 0 32)) 0 (k + 1) (bits v.toNat 32 32) } }

/-- Write the two candidates of a port-set word. -/
def Dev.putPset (d : Dev) (q bank i w : Nat) (v : Word) : Dev :=
  let k := ((q * 2 + bank) * 4096 + i) * 8 + 2 * w
  { d with win := { d.win with
      pset := Tab.set (Tab.set d.win.pset 0 k (bits v.toNat 0 32)) 0 (k + 1) (bits v.toNat 32 32) } }

/-- The failure of one route entry with the port set it refers to, the lowest reason first (Table 5-4): table, index, reason. -/
def Dev.routeEntryFails (d : Dev) (q bank n : Nat) : Option (Nat × Nat × Nat) :=
  let e := d.routeEntry q bank n
  let set := if rtRefers e then (d.psetFails q bank (rtPset e) true).map (fun r => (1, rtPset e, r)) else none
  match d.routeFails n e, set with
  | some r, some s => some (if s.2.2 < r then s else (0, n, r))
  | some r, none => some (0, n, r)
  | none, s => s

/-- Refuse a live write. -/
def Dev.liveReject (d : Dev) (q bank : Nat) (f : Nat × Nat × Nat) : Dev :=
  (d.inc .RTE_LIVEREJ (onDie q)).tblErr q bank f.1 f.2.1 f.2.2

/-- R123: a write of a route-table word. -/
def Dev.routeWrite (d : Dev) (q bank w : Nat) (v : Word) : Dev :=
  let new := d.putRoute q bank w v
  if !d.bankValid q bank then new
  else match new.routeEntryFails q bank (2 * w), new.routeEntryFails q bank (2 * w + 1) with
    | some f, _ => d.liveReject q bank f
    | none, some f => d.liveReject q bank f
    | none, none => new

/-- R123: a write of a port-set word. -/
def Dev.psetWrite (d : Dev) (q bank i w : Nat) (v : Word) : Dev :=
  let new := d.putPset q bank i w v
  if !d.bankValid q bank then new
  else match new.psetFails q bank i (new.referred q bank i) with
    | some r => d.liveReject q bank (1, i, r)
    | none => new

/-! ## The Dune map (R117, R118) -/

/-- A slot's class and global-port index. -/
def Dev.pclass (d : Dev) (p : Nat) : Nat := d.get RTE_PCLASS_CLASS (onLane p)
def Dev.gidx (d : Dev) (p : Nat) : Nat := d.get RTE_PCLASS_GIDX (onLane p)

/-- KiB queued toward a port over all networks. -/
def Dev.queuedKib (d : Dev) (p : Nat) : Nat := min 65535 (d.bytesOf (d.queuedIds p) (fun _ => true) / 1024)

/-- The level of a GLOBAL port as die q reports it. -/
def Dev.portLevel (d : Dev) (q p : Nat) : Nat := if d.routable p then min 14 (d.queuedKib p / d.duneUnit q) else 15

/-- The GLOBAL ports of the module, those whose port no longer exists too: they report level 15 (R38). -/
def Dev.globals (d : Dev) : List Nat := (List.range 512).filter (fun p => d.pclass p = 2)

/-- The level of an index: the highest of its ports. -/
def Dev.indexLevel (d : Dev) (q g : Nat) : Nat :=
  ((d.globals.filter (fun p => d.gidx p = g)).map (d.portLevel q)).foldl max 0

/-- Runs of up to 96 consecutive indices in use: first index and count. -/
def runs (used : Nat → Bool) : Nat → Nat → Option (Nat × Nat) → List (Nat × Nat)
  | 0, _, cur => cur.toList
  | n + 1, g, cur =>
    match cur, used g with
    | some (f, c), true => if c = 96 then (f, c) :: runs used n (g + 1) (some (g, 1)) else runs used n (g + 1) (some (f, c + 1))
    | some r, false => r :: runs used n (g + 1) none
    | none, true => runs used n (g + 1) (some (g, 1))
    | none, false => runs used n (g + 1) none

/-- A DUNE body for a run. -/
def Dev.duneBody (d : Dev) (q update first count : Nat) : Body :=
  BitVec.ofNat 448 (d.nodeId % 131072 ||| (update % 256) <<< 24 ||| first <<< 32 ||| count <<< 48 |||
    ((List.range count).map (fun i => d.indexLevel q (first + i) <<< (64 + 4 * i))).sum)

/-- R117: one period of die q. DEDUCED (log 42). -/
def Dev.duneSend (d : Dev) (q : Nat) : Dev :=
  if !d.bit RTE_DUNE_EN (onDie q) then d
  else
    let u := (d.get RTE_DUNE_UPDATE (onDie q) + 1) % 256
    let used := (d.globals.map d.gidx)
    let bodies := (runs (fun g => used.contains g) 512 0 none).map (fun r => d.duneBody q u r.1 r.2)
    let ps := (d.portsOfDie q).filter (fun p => d.pclass p = 1 && d.lstate p = UP)
    (d.each ps (fun p d => (d.dropOldDune p).each bodies (fun b d => d.sendBypass p byDUNE b))).put RTE_DUNE_UPDATE (onDie q) u

/-- The member slot that names a node on die q. -/
def Dev.memberSlot (d : Dev) (q n : Nat) : Option Nat :=
  (List.range 64).find? (fun s => d.bit RTE_DMEMB_VALID ⟨q, s⟩ && d.get RTE_DMEMB_NODE ⟨q, s⟩ = n)

/-- R118: the levels of a DUNE message are stored on every die that knows the origin. -/
def Dev.duneStore (d : Dev) (q : Nat) (b : Body) : Dev :=
  let first := fb b 32 9
  d.each (List.range 4) (fun x d =>
    match d.memberSlot x (fb b 0 17) with
    | some s =>
      d.each ((List.range (min 96 (fb b 48 8))).filter (fun i => first + i < 512)) (fun i d =>
        { d with rtr := { d.rtr with
            dune := Tab.put d.rtr.dune ((x * 64 + s) * 512 + first + i) (fb b (64 + 4 * i) 4, d.now) } })
    | none => d.when (x = q) (·.inc .RTE_DUNEUNK (onDie q)))

/-- A received DUNE. DEDUCED (log 42). -/
def Dev.duneIn (d : Dev) (p : Nat) (c : Ctrl) (b : Body) : Dev := d.bypassIn p byDUNE c (·.duneStore (laneDie p) b)

/-! ## Stranded traffic (R133 to R136) -/

/-- The port-dead timer expires. -/
def Dev.deadTimeout (d : Dev) (p : Nat) : Dev := if d.pexists p && (d.eport p).deadTimer then d.portDead p else d

/-- R136: PRT_RELEASE of a port: bit 0 queued packets, bit 1 held flits. DEDUCED (log 46, 113). -/
def Dev.prtRelease (d : Dev) (p scope : Nat) : Dev :=
  if !d.pexists p || scope = 0 then d
  else if d.lstate p = UP || d.draining p then d.put PRT_RELEASE_STATUS (onLane p) ST_BAD_STATE
  else
    let d := d.when (bits scope 0 1 = 1) (·.dropQueued p dropRELEASE)
    (d.when (bits scope 1 1 = 1) (·.releaseHeld p)).put PRT_RELEASE_STATUS (onLane p) ST_OK

/-- The packets that a port holds: queued for it, and committed to it. -/
def Dev.portIds (d : Dev) (p : Nat) : List Nat := d.queuedIds p ++ d.committedIds p

/-- Packet i counts under R127 for epoch e. -/
def Dev.ofEpoch (d : Dev) (e i : Nat) : Bool :=
  match d.pkt i with
  | some k => hMc k.head = 0 && hEpoch k.head = e
  | none => false

/-- R136: the traffic of port p keeps the count of the old epoch of its die above zero, and nothing of that epoch in the module is
elsewhere than on dead ports (DEDUCED). DEDUCED (log 45). -/
def Dev.keepsCount (d : Dev) (p : Nat) : Bool :=
  let e := 1 - d.get RTE_EPOCH_STAMP (onDie (laneDie p))
  let dead := (d.ports.filter (fun x => d.bit PRT_STAT_DEAD (onLane x))).flatMap d.portIds
  (d.portIds p).any (d.ofEpoch e) && d.rtr.pkts.all (fun x => !d.ofEpoch e x.1 || dead.contains x.1)

/-- R136: module firmware releases the held traffic of a dead port when only such traffic keeps an epoch count above zero.
DEDUCED (log 45). -/
def Dev.heldRelease (d : Dev) (p : Nat) : Dev :=
  if d.pexists p && d.bit PRT_STAT_DEAD (onLane p) && d.keepsCount p then d.prtRelease p 3 else d

/-! ## Shares (R161) -/

/-- R161: a write of FWD_SHARE of a lane. -/
def Dev.shareWrite (d : Dev) (l : Nat) (v : Word) : Dev :=
  let a := onLane l
  let q := l / 128
  let new := d.put FWD_SHARE_CELLS a (FWD_SHARE_CELLS.of v)
  if FWD_SHARE_CELLS.of v < 378 || new.bankCells q < new.commitment q then d.put FWD_SHARE_STATUS a ST_BAD_PARAM
  else new.put FWD_SHARE_STATUS a ST_OK

/-- R161: a write of FWD_INJ. -/
def Dev.fwdInj (d : Dev) (q : Nat) (v : Word) : Dev :=
  let a := onDie q
  let new := (d.put FWD_INJ_INJ a (FWD_INJ_INJ.of v)).put FWD_INJ_BRG a (FWD_INJ_BRG.of v)
  if FWD_INJ_INJ.of v < 20 || FWD_INJ_BRG.of v < 20 || new.bankCells q < new.commitment q then
    d.put FWD_INJ_STATUS a ST_BAD_PARAM
  else (new.put FWD_INJ_STATUS a ST_OK).bridgeShare q (d.get FWD_INJ_BRG a)

/-! ## Shapers (R172, R173) -/

/-- The eligible time of a shaper on the wheel is reached. Its class is eligible with a credit of at least 0 (R170); a credit
that a correction of fabric time leaves negative waits for a later boundary. DESIGN CHOICE (log 3). DEDUCED (log 115). -/
def Dev.shaperEligible (d : Dev) (p t : Nat) : Dev :=
  let x := d.shaper p t
  match x.wait with
  | some e =>
    if d.pexists p && x.wheel && e ≤ d.fabricNow then
      d.setShaper p t ({ x with credit := x.creditNow d.now, stamp := d.now }.rearm d.fabricNow)
    else d
  | none => d

/-- A turn of the wheel of die q: overflow entries within the next horizon move onto it. -/
def Dev.wheelTurn (d : Dev) (q : Nat) : Dev :=
  { d with rtr := { d.rtr with
      shapers := d.rtr.shapers.map (fun e =>
        if e.1 / 2048 = q then
          (e.1, { e.2 with wheel := match e.2.wait with
            | some t => e.2.wheel || decide (t ≤ d.fabricNow + wheelHorizon)
            | none => false })
        else e) } }

/-- RATE in force: above 800,000 acts as 800,000. -/
def rateOf (r : Nat) : Nat := min r 800000

/-- R173: a write of SCH_SHAPE is taken in, to apply at the first wheel boundary strictly after it. -/
def Dev.shapeWrite (d : Dev) (p t : Nat) (v : Word) : Dev :=
  if !d.pexists p then d
  else
    let d := d.wrFields .SCH_SHAPE (shapeAt p t) v
    d.setShaper p t { (d.shaper p t) with applyAt := some ((d.fabricNow / 8 + 1) * 8) }

/-- R173: the written RATE and BURST apply. -/
def Dev.shapeApply (d : Dev) (p t : Nat) : Dev :=
  let x := d.shaper p t
  match x.applyAt with
  | some b =>
    if !d.pexists p || d.fabricNow < b then d
    else
      let rate := rateOf (d.get SCH_SHAPE_RATE (shapeAt p t))
      let burst := d.get SCH_SHAPE_BURST (shapeAt p t)
      let credit : Int := if rate = 0 then burst * 8000 else min (burst * 8000) (x.creditNow d.now)
      let y : Shaper := { x with rate := rate, burst := burst, credit := credit, stamp := d.now, applyAt := none }
      d.setShaper p t (y.rearm d.fabricNow)
  | none => d

/-! ## Gates (R174 to R176) -/

def Dev.gatePending (d : Dev) (p : Nat) : Bool := d.bit SCH_GATECTL_PENDING (onLane p)
def Dev.gateStatus (d : Dev) (p st : Nat) : Dev := d.put SCH_GATECTL_STATUS (onLane p) st

/-- R175: a write of entry e of list l. -/
def Dev.gateWrite (d : Dev) (p l e : Nat) (v : Word) : Dev :=
  if !d.pexists p then d
  else if (d.gateRunning p && d.gateActive p = l) || (d.gatePending p && d.shadow p = l) then d.gateStatus p ST_BAD_STATE
  else { d.gateStatus p ST_OK with
         win := { (d.gateStatus p ST_OK).win with gate := Tab.set d.win.gate 0 ((p * 2 + l) * 256 + e) (bits v.toNat 0 46) } }

/-- R175: the shadow list may be submitted with n entries. -/
def Dev.gateListOk (d : Dev) (p n : Nat) : Bool :=
  let ws := d.gateList p (d.shadow p) n
  1 ≤ n && n ≤ 256 && ws.all (fun w => gwDuration w ≠ 0 && gwDuration w % 8 = 0) && gateCycle ws ≤ 1000000000

/-- R176: the time from which a commit made now with takeover time t takes over. -/
def Dev.commitTime (d : Dev) (p t cycle : Nat) : Nat :=
  if t ≥ d.fabricNow then t
  else if d.gateRunning p then d.fabricNow + 1
  else t + (d.fabricNow - t + cycle - 1) / cycle * cycle

/-- R175: a write of SCH_GATECTL. DEDUCED (log 48). -/
def Dev.gateCtl (d : Dev) (p : Nat) (v : Word) : Dev :=
  let a := onLane p
  let commit := SCH_GATECTL_COMMIT.of v = 1
  let cancel := SCH_GATECTL_CANCEL.of v = 1
  if !d.pexists p then d
  else if commit && cancel then d.gateStatus p ST_BAD_PARAM
  else if commit then
    let n := SCH_GATECTL_LEN.of v
    if d.gatePending p then d.gateStatus p ST_BAD_STATE
    else if !d.gateListOk p n then d.gateStatus p ST_BAD_PARAM
    else
      let l := d.shadow p
      let t := d.commitTime p (d.get SCH_GATESTART_T a) (max 1 (gateCycle (d.gateList p l n)))
      let d := ((d.wrFields .SCH_GATECTL a v).put SCH_GATECTL_PENDING a 1).gateStatus p ST_OK
      d.setGate p { ((d.gate p).setLen l n) with takeover := t }
  else (d.wrFields .SCH_GATECTL a v).when cancel (·.put SCH_GATECTL_PENDING a 0)

/-- R176: the pending list takes over when its time has come; its entry 0 begins. -/
def Dev.gateTakeover (d : Dev) (p : Nat) : Dev :=
  let a := onLane p
  let t := d.takeoverTime p
  if d.pexists p && d.gatePending p && t ≤ d.fabricNow then
    let l := d.shadow p
    (((d.put SCH_GATECTL_PENDING a 0).put SCH_GATECTL_ACTIVE a l).put SCH_GATECTL_RUNNING a 1).gateEntry p l 0 t
  else d

/-- R174, R176: the current entry ends; the next one applies, or at the end of the cycle a takeover that has come due.
DESIGN CHOICE (log 3). -/
def Dev.gateEntryEnd (d : Dev) (p : Nat) : Dev :=
  let a := onLane p
  let g := d.gate p
  if d.pexists p && d.gateRunning p && g.entryEnd ≤ d.fabricNow then
    let l := d.gateActive p
    let n := max 1 (g.len l)
    let next := (d.get SCH_GATESTAT_ENTRY a + 1) % n
    if next = 0 && d.gatePending p && d.takeoverTime p ≤ g.entryEnd then d.gateTakeover p else d.gateEntry p l next g.entryEnd
  else d

end Sys2Proof.Machine
end

