-- ==== Sys2Proof/Machine/ResetOps.lean ====
section
/-! DEFINITION. What resets and stops do to registers, lanes, ports, packets and the state of a die (R20 to R25, Table 19-4), and
the start of a wipe (R372, R373). -/

namespace Sys2Proof.Machine

/-! ## Scopes (Table 1-6, R437) -/

/-- The container of a location at a rung's level (R437). -/
def Loc.container (l : Loc) (rung : Nat) : Loc :=
  match rung with
  | 1 => l
  | 2 => locCluster (l.cluster.getD 0)
  | 3 => locRegion (l.region.getD 0)
  | 4 => if l.die = 0 then locModule else locDie l.die
  | _ => locModule

/-- The ports of a scope that exist. -/
def Dev.portsIn (d : Dev) (l : Loc) : List Nat := d.ports.filter (fun p => l.contains (locPort p))

/-! ## Registers (Table 19-4) -/

/-- What a reset that keeps RWS fields leaves in a register. -/
def Reg.resetWord (r : Reg) (a : At) (w : Word) : Word :=
  r.flds.foldl (fun x f => if f.acc = .rws then f.ins x (f.of w) else x) (rstVal r a)

/-- The definition and instance that a key of the register table names. -/
def regOfKey (k : Nat) : Option (Reg × At) := (Reg.all[k % 512]?).map (fun r => (r, ⟨k / 512 % 4, k / 2048⟩))

/-- Give the registers of a scope the words that a function of definition, instance and word says. -/
def Dev.mapRegs (d : Dev) (sel : Reg → At → Bool) (g : Reg → At → Word → Word) : Dev :=
  { d with regs := d.regs.filterMap (fun (e : Nat × Word) =>
      match regOfKey e.1 with
      | none => some e
      | some (r, a) =>
        if sel r a then (if g r a e.2 = rstVal r a then none else some (e.1, g r a e.2)) else some e) }

/-- Reset the registers of a scope, keeping RWS fields. -/
def Dev.resetRegs (d : Dev) (sel : Reg → At → Bool) : Dev := d.mapRegs sel (fun r a w => r.resetWord a w)

/-- The slot of an instance: the lane, port or cluster number on its die (R87). -/
def slotOf (r : Reg) (a : At) : Nat := a.idx / r.place.n2

/-- A register of the lanes from lo to hi of a die or of their ports; smaller resets clear nothing in the PMC block (R457),
and incarnations are advanced by R23. -/
def laneReg (q lo hi : Nat) (r : Reg) (a : At) : Bool :=
  a.die = q && r.place.blk ≠ 0x27 && r ≠ .LNK_INC &&
  (match r.place.kind with
    | .lane => decide (lo ≤ slotOf r a ∧ slotOf r a ≤ hi)
    | .port => decide (lo ≤ slotOf r a ∧ slotOf r a ≤ hi)
    | .cluster => decide (lo ≤ 8 * slotOf r a ∧ 8 * slotOf r a + 7 ≤ hi)
    | _ => false)

/-- A register that a reset of die q sets: every register of the die but those kept across every reset except module reset. -/
def dieReg (q : Nat) (r : Reg) (a : At) : Bool :=
  a.die = q && r.place.kind ≠ .module && r.place.save ≠ .kept && r ≠ .LNK_INC

/-! ## Lanes and ports -/

/-- A port under reset (R23, Table 3-12): DISABLED, its replay state discarded with its incarnation advanced, packets it held dropped
as RESET, its gates and shapers as R174 and R473 leave them. The flits that it received keep their cells (R24): the packet it was
receiving is dropped when the next life begins (R76). Its registers are reset by the caller; the timer of a port that was dead
starts again, since DEAD then reads 0. DEDUCED (log 114). -/
def Dev.resetPort (d : Dev) (p : Nat) : Dev :=
  let d := d.kilnPort p
  let d := d.when (d.lstate p = UP) (·.leaveUp p)
  let timer := (d.eport p).deadTimer || d.bit PRT_STAT_DEAD (onLane p)
  let d := d.dropHeld p dropRESET
  let d := ((d.setLink p { Link.init with share := (d.link p).share }).advanceInc p).put LNK_INC_PEER_INC (onLane p) 0
  let d := d.each (List.range 18) (fun v d => d.modChan p v (fun c => { Chan.init with occ := c.occ, rx := c.rx }))
  let d := d.staleCells p
  let d := (d.modEport p (fun e => { EPort.init with q := e.q, wait := e.wait, deadTimer := timer })).setGate p Gate.init
  let d := d.each (List.range 16) (fun t d =>
    let burst := d.get SCH_SHAPE_BURST (shapeAt p t)
    d.setShaper p t { Shaper.init with rate := rateOf (d.get SCH_SHAPE_RATE (shapeAt p t)), burst := burst, credit := burst * 8000,
                                       stamp := d.now })
  d.wr .CFG_PEER ⟨0, p⟩ 0

/-- The register window of a path returns to its reset values, and the accesses that it has stalled are lost. -/
def Dev.windowOff (d : Dev) (w : Nat) (path : Path) : Dev :=
  { d with acc := { d.acc with addr := Tab.del d.acc.addr w, status := Tab.del d.acc.status w,
                               stalled := d.acc.stalled.filter (fun (s : Access) => s.path ≠ path) } }

/-- A lane under reset: its adaptation starts anew. -/
def Dev.resetLane (d : Dev) (l : Nat) : Dev := { d with lnk := { d.lnk with lanes := Tab.del d.lnk.lanes l } }

/-- What the configuration that a reset or wake keeps says of a lane's other fields: the main cursor (R55), a half held off (R49), the
peaking held (R42), the inversion in force (R43). -/
def Dev.laneSettle (d : Dev) (l : Nat) : Dev :=
  let a := onLane l
  let d := d.put LAN_TXEQ_MAIN a (64 - d.get LAN_TXEQ_PRE a - d.get LAN_TXEQ_POST a)
  let d := d.when (!d.bit LAN_CTRL_TXEN a) (·.put LAN_IDLE_TX_STATE a 2)
  let d := d.when (!d.bit LAN_CTRL_RXEN a) (·.put LAN_IDLE_RX_STATE a 2)
  (d.when (d.bit LAN_RXEQ_CTLE_OVR a) (fun d => d.put LAN_RXEQ_CTLE_CUR a (d.get LAN_RXEQ_CTLE a))).polarity l

/-- The lanes from lo to hi of a die. -/
def laneRange (q lo hi : Nat) : List Nat := (List.range (hi + 1 - lo)).map (fun i => q * 128 + lo + i)

/-- The lanes from lo to hi of a die with their ports, and the registers of both. -/
def Dev.resetLanes (d : Dev) (q lo hi : Nat) : Dev :=
  let ports := (d.portsOfDie q).filter (fun p => decide (lo ≤ p % 128 ∧ p % 128 ≤ hi))
  let d := d.each ports (fun p d => d.resetPort p)
  let d := d.each (laneRange q lo hi) (fun l d => d.resetLane l)
  (d.resetRegs (laneReg q lo hi)).each (laneRange q lo hi) (fun l d => d.laneSettle l)

/-! ## Packets (R24, R25) -/

/-- A flit of the packet lies in a cell of a bank of the die that the predicate takes. -/
def Pkt.inBank (k : Pkt) (q : Nat) (bank : Nat → Bool) : Bool :=
  k.flits.any (fun f => match f.loc with | .cell c _ => c / 262144 = q && bank (c / 65536 % 4) | _ => false)

/-- R24: every packet with a cell in the banks is dropped as RESET, and every cell of the banks is free. -/
def Dev.dropBanks (d : Dev) (q : Nat) (bank : Nat → Bool) : Dev :=
  let d := d.each ((d.rtr.pkts.filter (fun (e : Nat × Pkt) => e.2.inBank q bank)).map (·.1)) (fun i d => d.dropPkt i q dropRESET)
  d.each (d.rtr.cells.filter (fun (e : Nat × Cell) => e.1 / 262144 = q && bank (e.1 / 65536 % 4))) (fun e d => d.dropCell e.1 e.2)

/-! ## Wipes (R372, R373) -/

/-- The larger wipe covers the smaller one (R373). -/
def Wipe.contains (big small : Wipe) : Bool :=
  big.scope ≥ 6 || (big.scope = 1 && small.scope ≤ 5) ||
  (big.scope = 2 && big.die = small.die && small.scope ≥ 2 && small.scope ≤ 5 && !(small.scope = 5 && small.part = 4)) ||
  (big.scope = small.scope && big.die = small.die && (big.part = small.part || (big.scope = 4 && big.part = 257)))

/-- The dies on which a wipe runs. -/
def Wipe.dies (w : Wipe) : List Nat :=
  if w.scope = 1 || w.scope ≥ 6 || (w.scope = 5 && w.part = 4) then List.range 4 else [w.die]

/-- R372, R373: a wipe starts: absorbed by a running one that covers it, else it takes over those that it covers. -/
def Dev.startWipe (d : Dev) (scope die part : Nat) : Dev :=
  let w : Wipe := ⟨scope, die, part, d.now⟩
  if d.sag.wipes.any (fun x => x.contains w) then d
  else
    let d := { d with sag := { d.sag with wipes := d.sag.wipes.filter (fun x => !w.contains x) ++ [w] } }
    d.each w.dies (fun q d => ((d.put SAG_WIPE_ACTIVE (onDie q) 1).put SAG_WIPE_SCOPE (onDie q) scope).put SAG_WIPE_PROGRESS (onDie q) 0)

/-- R360: the key table of a die is erased: a new wrapping key is drawn. -/
def Dev.eraseKeys (d : Dev) (q : Nat) : Dev := d.each (d.keySlots q) (fun s d => d.freeKey q s)

/-! ## The state of one die -/

/-- The parts of a die that the wipe of its memories clears, and the logic that a reset of the die restarts (R24, R372). -/
def Dev.clearDie (d : Dev) (q : Nat) : Dev :=
  let dieOf (n k : Nat) : Bool := k / n = q
  let d := { d with
    win := { d.win with route := d.win.route.filter (fun e => !dieOf 262144 e.1), pset := d.win.pset.filter (fun e => !dieOf 65536 e.1),
                        group := d.win.group.filter (fun e => !dieOf 1048576 e.1) },
    rtr := { d.rtr with inj := d.rtr.inj.filter (fun x => x.die ≠ q), dlv := d.rtr.dlv.filter (fun x => x.die ≠ q),
                        dune := d.rtr.dune.filter (fun e => !dieOf 32768 e.1), checking := Tab.del d.rtr.checking q },
    mcg := { d.mcg with cache := Tab.del d.mcg.cache q, waiting := d.mcg.waiting.filter (fun w => w.1 ≠ q),
                        pair := d.mcg.pair.filter (fun e => !dieOf 131072 e.1), node := d.mcg.node.filter (fun e => !dieOf 131072 e.1),
                        ep := d.mcg.ep.filter (fun e => !dieOf (2 ^ 25) e.1) },
    clv := { recs := d.clv.recs.filter (fun e => !dieOf 262144 e.1), mems := d.clv.mems.filter (fun m => m.die ≠ q),
             seqs := d.clv.seqs.filter (fun e => !dieOf 33554432 e.1) },
    hst := { d.hst with
      queues := d.hst.queues.filter (fun e => !dieOf 262144 e.1), ops := d.hst.ops.filter (fun e => e.2.die ≠ q),
      fired := d.hst.fired.filter (fun i => match Tab.find d.hst.ops i with | some o => o.die ≠ q | none => false),
      conns := d.hst.conns.filter (fun e => !dieOf 262144 e.1), lastInc := d.hst.lastInc,
      regions := d.hst.regions.filter (fun e => !dieOf 262144 e.1), ctrs := d.hst.ctrs.filter (fun e => !dieOf 262144 e.1),
      msgs := d.hst.msgs.filter (fun e => e.2.die ≠ q), posted := d.hst.posted.filter (fun e => !dieOf 256 e.1),
      stamps := d.hst.stamps.filter (fun e => !dieOf 256 e.1), reads := d.hst.reads.filter (fun e => e.2.die ≠ q) },
    xlt := { l2 := Tab.del d.xlt.l2 q, l1 := d.xlt.l1.filter (fun e => !dieOf 8 e.1), backing := Tab.del d.xlt.backing q,
             traps := d.xlt.traps.filter (fun e => !dieOf 256 e.1), gens := d.xlt.gens.filter (fun e => !dieOf 256 e.1),
             slotWait := d.xlt.slotWait.filter (fun w => w.1 ≠ q), walks := d.xlt.walks.filter (fun e => !dieOf 256 e.1),
             preqs := d.xlt.preqs.filter (fun e => !dieOf (2 ^ 32) e.1), reqCtr := Tab.del d.xlt.reqCtr q,
             failed := d.xlt.failed.filter (fun e => e.1 ≠ q), invals := d.xlt.invals.filter (fun e => !dieOf 256 e.1) },
    kln := { d.kln with run := Tab.del d.kln.run q },
    noc := { held := d.noc.held.filter (fun m => m.1.sdie.val ≠ q), tokens := d.noc.tokens.filter (fun e => !dieOf 100 e.1) } }
  d.eraseKeys q

/-- R334: the command and payload TLBs of a region are empty. -/
def Dev.emptyTlbs (d : Dev) (m : Nat) : Dev :=
  { d with xlt := { d.xlt with l1 := d.xlt.l1.filter (fun e => e.1 / 2 ≠ m) } }

/-- The reduction engine of region m loses its operation records. -/
def Dev.clearReduction (d : Dev) (m : Nat) : Dev :=
  { d with clv := { d.clv with recs := d.clv.recs.filter (fun e => !(e.1 / 262144 = m / 4 && e.1 / 4 % 4 = m % 4)) } }

/-- R17: the bridges of a die are no longer taken down after a reset of the die. -/
def Dev.bridgesReturn (d : Dev) (q : Nat) : Dev :=
  d.each [0, 1] (fun e d => (d.putB BRG_STAT_DOWN ⟨q, e⟩ false).putB BRG_STAT_DOWN ⟨acrossBridge q e, e⟩ false)

/-- Both directions of the bridge at end e of a die start anew (R163). DESIGN CHOICE (log 26). -/
def Dev.bridgeAnew (d : Dev) (q e : Nat) : Dev := (d.bridgeGrant q e).bridgeGrant (acrossBridge q e) e

end Sys2Proof.Machine
end

