-- ==== Sys2Proof/Machine/Save.lean ====
section
/-! DEFINITION. Domains in Stop (spec/16): quiesce counters (Table 16-6), the save area (R425), what Stop and wake leave of a
region and of a die core (R423, R424). -/

namespace Sys2Proof.Machine

/-! ## Quiesce counters (Table 16-6) -/

/-- The ports of region m. -/
def Dev.portsOfRegion (d : Dev) (m : Nat) : List Nat := (d.portsOfDie (m / 4)).filter (fun p => p / 32 = m)

/-- Descriptors, arrivals and injections in progress in the engine cluster of region r of die q. -/
def Dev.clusterBusy (d : Dev) (q r : Nat) : Bool :=
  d.hst.ops.any (fun e => e.2.die = q && e.2.stage = 0 && e.2.qn % 4 = r) ||
  d.rtr.inj.any (fun x => x.die = q && x.region = r) ||
  d.rtr.dlv.any (fun x => x.die = q && x.member = 512 && x.pkt.dconn % 4 = r) ||
  d.hst.reads.any (fun e => e.2.die = q && (match e.2.use with | .serve c _ _ => c % 4 = r | _ => false))

/-- A backed group whose engine is that of region r of die q (R184). -/
def Dev.groupBound (d : Dev) (q r : Nat) : Bool :=
  (List.range 1024).any (fun j => d.rd .MCG_GVALID ⟨q, j⟩ ≠ 0 &&
    (List.range 64).any (fun i => i % 4 = r && d.backed q (64 * j + i) && d.gColl q (64 * j + i) && d.gEngdie q (64 * j + i) = q))

/-- A quiesce counter of region m is not 0. -/
def Dev.regionBusy (d : Dev) (m : Nat) : Bool :=
  let q := m / 4
  0 < d.ownedCells q (m % 4) || (d.portsOfRegion m).any (fun p => d.queuedIds p ≠ []) || d.clusterBusy q (m % 4) ||
  d.xlt.traps.any (fun e => e.1 / 256 = q && e.2.acc.region = m % 4) || d.groupBound q (m % 4)

/-- A quiesce counter of the core of die q is not 0. -/
def Dev.dieBusy (d : Dev) (q : Nat) : Bool :=
  d.hst.queues.any (fun e => e.1 / 262144 = q) || d.hst.conns.any (fun e => e.1 / 262144 = q) ||
  d.hst.regions.any (fun e => e.1 / 262144 = q && e.2.state ≠ 0) || d.xlt.preqs.any (fun e => e.1 / 2 ^ 32 = q) ||
  d.hst.ops.any (fun e => e.2.die = q && e.2.stage ≠ 0) || d.get NOC_STAT_OUTSTANDING (onDie q) ≠ 0 ||
  d.rtr.cells.any (fun e => match e.2.owner with | .bridge a _ _ => a = q | _ => false)

/-! ## The save area (R425) -/

/-- Words of a register that the wake restores although they are no RW or RWS field: the epoch counts, the selection of the
active gate list and a pending takeover. -/
def Reg.savedWhole (r : Reg) : Bool := r.place.save = .kept || r = .SCH_GATECTL

/-- What a wake restores of a register from the word that was saved. -/
def Reg.restored (r : Reg) (a : At) (w : Word) : Word :=
  if r.savedWhole then w
  else r.flds.foldl (fun x f => if f.acc = .rw ∨ f.acc = .rws then f.ins x (f.of w) else x) (rstVal r a)

/-- The saved registers of a scope go to Oasis, and the registers of the scope to their reset values. -/
def Dev.saveRegs (d : Dev) (sel : Reg → At → Bool) : Dev :=
  let kept := d.regs.filter (fun (e : Nat × Word) => match regOfKey e.1 with
    | some (r, a) => sel r a && (r.place.save = .saved || r.place.save = .kept)
    | none => false)
  let d := { d with pwr := { d.pwr with save := kept.foldl (fun t (e : Nat × Word) => Tab.put t e.1 e.2) d.pwr.save } }
  d.mapRegs sel (fun r a _ => rstVal r a)

/-- The saved registers of a scope return from Oasis. -/
def Dev.restoreRegs (d : Dev) (sel : Reg → At → Bool) : Dev :=
  let mine := d.pwr.save.filter (fun (e : Nat × Word) => match regOfKey e.1 with | some (r, a) => sel r a | none => false)
  let d := d.each mine (fun (e : Nat × Word) d => match regOfKey e.1 with | some (r, a) => d.wr r a (r.restored a e.2) | none => d)
  { d with pwr := { d.pwr with save := d.pwr.save.filter (fun (e : Nat × Word) => !mine.contains e) } }

/-- The registers of region m: those of its lanes and ports. -/
def regionReg (m : Nat) (r : Reg) (a : At) : Bool := laneReg (m / 4) (m % 4 * 32) (m % 4 * 32 + 31) r a

/-- The registers that the core of die q saves and restores: the rest of the die. -/
def coreReg (q : Nat) (r : Reg) (a : At) : Bool :=
  a.die = q && r ≠ .LNK_INC &&
  (match r.place.kind with | .lane => false | .port => r.place.blk = 0x27 | .cluster => false | .module => false | .die => true)

/-! ## Stop (R416, R423) -/

/-- A region loses power: its registers, ports, lanes, engine state. Both halves of its lanes are off (R49). -/
def Dev.stopRegion (d : Dev) (m : Nat) : Dev :=
  let q := m / 4
  let d := d.saveRegs (regionReg m)
  let d := d.each (d.portsOfRegion m) (fun p d =>
    let d := (d.setLink p Link.init).put LNK_INC_PEER_INC (onLane p) 0
    let d := d.each (List.range 18) (fun v d => d.modChan p v (fun c => { Chan.init with occ := c.occ, rx := c.rx }))
    d.each (List.range 16) (fun t d => d.setShaper p t Shaper.init))
  let d := d.each (laneRange q (m % 4 * 32) (m % 4 * 32 + 31)) (fun l d =>
    ((d.resetLane l).put LAN_IDLE_TX_STATE (onLane l) 2).put LAN_IDLE_RX_STATE (onLane l) 2)
  (((d.emptyTlbs m).clearReduction m).setRegionState m domSTOP).kilnAbort q (fun t x => t = 4 && x = m % 4)

/-- R17: a bridge that was taken down stays down; the neighbour's end tells. -/
def Dev.downKept (d : Dev) (q : Nat) : Dev :=
  d.each [0, 1] (fun e d => d.putB BRG_STAT_DOWN ⟨q, e⟩ (d.bit BRG_STAT_DOWN ⟨acrossBridge q e, e⟩))

/-- A die core loses power: its key table is erased, its registers saved, its memories lost. Its bridge ends are off: traffic that would
pass it goes round the other way, by the rules of a bridge that is down (R17, R28). -/
def Dev.stopCore (d : Dev) (q : Nat) : Dev :=
  let d := ((((d.saveRegs (coreReg q)).clearDie q).startWipe 5 q 0).setDieState q domSTOP).kilnAbort q (fun _ _ => true)
  (d.downKept q).bridgesSync q |>.rerouteAround q false

/-! ## Wake (R423 to R425) -/

/-- The gate entries of a port catch up with fabric time. -/
def Dev.gateCatchUp (d : Dev) (p : Nat) : Nat → Dev
  | 0 => d
  | n + 1 =>
    let g := d.gate p
    if d.gateRunning p && g.entryEnd ≤ d.fabricNow then
      (d.gateEntry p (d.gateActive p) ((d.get SCH_GATESTAT_ENTRY (onLane p) + 1) % max 1 (g.len (d.gateActive p))) g.entryEnd).gateCatchUp p n
    else d

/-- R425: a restored gate list resumes on fabric time, at the entry it would have reached had it run throughout. -/
def Dev.gateResume (d : Dev) (p : Nat) : Dev :=
  let a := onLane p
  let t := d.takeoverTime p
  let d := if d.bit SCH_GATECTL_PENDING a && t ≤ d.fabricNow then
      let l := d.shadow p
      (((d.put SCH_GATECTL_PENDING a 0).put SCH_GATECTL_ACTIVE a l).put SCH_GATECTL_RUNNING a 1).gateEntry p l 0 t
    else d
  if d.gateRunning p then
    let g := d.gate p
    let c := max 1 (gateCycle (d.gateList p (d.gateActive p) (g.len (d.gateActive p))))
    (d.gateEntry p (d.gateActive p) 0 (g.cycleStart + (d.fabricNow - g.cycleStart) / c * c)).gateCatchUp p 256
  else d

/-- A region reaches RUN: registers restored, new incarnations, enabled ports train. -/
def Dev.wakeRegionDone (d : Dev) (m : Nat) : Dev :=
  let d := (d.restoreRegs (regionReg m)).setRegionState m domRUN
  let d := d.each (laneRange (m / 4) (m % 4 * 32) (m % 4 * 32 + 31)) (fun l d =>
    (((d.put LNK_INC_LOCAL_INC (onLane l) d.rnd).drawn.put LAN_IDLE_TX_STATE (onLane l) 2).put LAN_IDLE_RX_STATE (onLane l) 2).laneSettle l)
  d.each (d.portsOfRegion m) (fun p d =>
    let d := d.each (List.range 16) (fun t d =>
      let burst := d.get SCH_SHAPE_BURST (shapeAt p t)
      d.setShaper p t { Shaper.init with rate := min 800000 (d.get SCH_SHAPE_RATE (shapeAt p t)), burst := burst, credit := burst * 8000,
                                         stamp := d.now })
    let d := d.gateResume p
    d.when (d.bit LNK_CTRL_EN (onLane p)) (·.enterTraining p))

/-- A die core reaches RUN: registers restored, memories zero, its bridge ends back. -/
def Dev.wakeCoreDone (d : Dev) (q : Nat) : Dev :=
  ((((((d.restoreRegs (coreReg q)).setDieState q domRUN).bridgeGrant q 0).bridgeGrant q 1).bridgesSync q)).pumpAll

/-- BUSY of a die falls when no domain of it enters or wakes. -/
def Dev.domIdle (d : Dev) (q : Nat) : Dev :=
  let moving (st : Nat) : Bool := st = domENTERING || st = domWAKING
  if moving (d.dieState q) || (List.range 4).any (fun r => moving (d.regionState (q * 4 + r))) then d else d.put PWR_DOMCTL_BUSY (onDie q) 0

/-- The domains of a location that are waking reach RUN (Table 16-5). -/
def Dev.wakesEnd (d : Dev) (regions dies : List Nat) : Dev :=
  let d := d.each (dies.filter (fun q => d.dieState q = domWAKING)) (fun q d => (d.wakeCoreDone q).domIdle q)
  d.each (regions.filter (fun m => d.regionState m = domWAKING)) (fun m d => (d.wakeRegionDone m).domIdle (m / 4))

end Sys2Proof.Machine
end

