-- ==== Sys2Proof/Machine/Resets.lean ====
section
/-! DEFINITION. Resets (R21 to R27), rung actions of the escalation ladder (R436 to R442), isolation (R438), what follows a
command without a command. -/

namespace Sys2Proof.Machine

/-! ## The effects of a reset by level -/

/-- R22, R227: a unit reset of a host port: a function reset for every function of the port, then its registers.
DEDUCED (log 72). -/
def Dev.resetHost (d : Dev) (q : Nat) : Dev :=
  let d := (((d.each (List.range 256) (fun f d => d.funcReset q f)).windowOff (q + 1) (.host (Fin.ofNat 4 q))).readerLost (fun path _ => path = q + 1)).startWipe 4 q 257
  ({ d with hst := { d.hst with ctrs := d.hst.ctrs.filter (fun (e : Nat × Nat) => e.1 / 262144 ≠ q) } }).resetRegs
    (fun r a => a.die = q && r.place.blk = 0x10)

/-- The flits that the bridge ends of a die have accepted, in either direction, are dropped as RESET (R25). DEDUCED (log 95). -/
def Dev.resetBridge (d : Dev) (q e : Nat) : Dev := (d.dropOnBridge q e dropRESET).dropOnBridge (acrossBridge q e) e dropRESET

/-- A unit reset: that unit's logic and its registers (Table 1-6). A lane takes its link with it; a bridge end stays down once
it is taken down, and its traffic is rerouted while the reset runs (R17, R25). Of a single engine the spec names no state but the TLBs
of its cluster, and of a queue-manager slice none. DEDUCED (log 95). -/
def Dev.resetUnit (d : Dev) (l : Loc) : Dev :=
  match l.ukind with
  | 0 =>
    let p := d.portOf l.index
    let d := ((d.kilnPort p).resetLane l.index).resetRegs (fun r a => r.place.kind = .lane && laneReg l.die (l.index % 128) (l.index % 128) r a)
    (d.laneSettle l.index).enterRetrain p causeLANE_LOSS true
  | 1 =>
    if d.pexists l.index then
      (d.resetPort l.index).resetRegs (fun r a => r.place.kind = .port && laneReg l.die (l.index % 128) (l.index % 128) r a)
    else d
  | 2 => d.emptyTlbs (l.die * 4 + l.index % 4)
  | 4 => d.clearReduction (l.die * 4 + l.index % 4)
  | 5 =>
    let d := d.kilnAbort l.die (fun t x => t = 3 && x = l.index)
    let down := d.bit BRG_STAT_DOWN ⟨l.die, l.index⟩
    let d := ((d.resetBridge l.die l.index).resetRegs (fun r a => a.die = l.die && a.idx = l.index && r.place.blk = 0x09)).putB
      BRG_STAT_DOWN ⟨l.die, l.index⟩ down
    ((d.bridgeAnew l.die l.index).bridgeSync l.die l.index).rerouteOver l.die (acrossBridge l.die l.index) true
  | 6 => (d.kilnAbort l.die (fun t x => t = 5 && x = l.index)).resetRegs (fun r a => a.die = l.die && a.idx = l.index && r.place.blk = 0x0B)
  | 7 => d.resetHost l.die
  | _ => d

/-- R24: a region reset. DEDUCED (log 95). -/
def Dev.resetRegion (d : Dev) (m : Nat) : Dev :=
  let q := m / 4
  let d := (d.arrival m).kilnAbort q (fun t x => t = 4 && x = m % 4)
  let d := d.dropBanks q (fun b => b = m % 4)
  let d := d.resetLanes q (m % 4 * 32) (m % 4 * 32 + 31)
  let d := { d with rtr := { d.rtr with inj := d.rtr.inj.filter (fun x => !(x.die = q && x.region = m % 4)) } }
  ((d.emptyTlbs m).clearReduction m).startWipe 3 q (m % 4)

/-- The domains that are waking or entering when a reset comes (Table 16-5). -/
def Dev.domainsReset (d : Dev) (q : Nat) : Dev := d.when (Tab.find d.pwr.cmd q ≠ none) (·.abortEntry q)

/-- The drops counted as RESET on a die. DEDUCED (log 142). -/
def Dev.resetDrops (d : Dev) (q : Nat) : Nat := (d.rd .FWD_DROP ⟨q, dropRESET - 1⟩).toNat

/-- R24, R25: what a reset of Q1, Q2 or Q3 does to ports, packets and bridges: packets with a cell on the die, or a flit that its
bridge ends had accepted, are dropped as RESET; what only passes it is rerouted (R17). -/
def Dev.resetTraffic (d : Dev) (q : Nat) : Dev :=
  let d := d.each (d.portsOfDie q) (fun p d => d.resetPort p)
  let d := d.each ((List.range 128).map (q * 128 + ·)) (fun l d => d.resetLane l)
  let d := ((d.resetBridge q 0).resetBridge q 1).dropBanks q (fun _ => true)
  (d.bridgesReturn q).rerouteAround q true

/-- R24, R25: a reset of Q1, Q2 or Q3. Its drops are counted in the counter as the reset leaves it (DEDUCED: the count is of the
reset). DEDUCED (log 40, 142). DESIGN CHOICE (log 52). -/
def Dev.resetDie (d : Dev) (q : Nat) : Dev :=
  let d := (d.domainsReset q).windowOff (q + 1) (.host (Fin.ofNat 4 q))
  let before := d.resetDrops q
  let d := (d.resetTraffic q).clearDie q
  let n := d.resetDrops q - before
  let inc := (d.portsOfDie q).map (fun p => (p, d.get LNK_INC_LOCAL_INC (onLane p)))
  let d := (d.resetRegs (dieReg q)).wr .SAG_CHAL (onDie q) 0
  let d := d.each inc (fun (x : Nat × Nat) d => d.put LNK_INC_LOCAL_INC (onLane x.1) x.2)
  let d := (d.incBy .FWD_DROP ⟨q, dropRESET - 1⟩ n).each (laneRange q 0 127) (fun l d => d.laneSettle l)
  (((d.bridgeAnew q 0).bridgeAnew q 1).bridgesSync q).startWipe 2 q 0

/-- The words of a module after a module reset that are drawn at random (R74, R355). DESIGN CHOICE (log 10). -/
def Dev.drawRandom (d : Dev) : Dev :=
  let d := d.each (List.range 512) (fun p d => (d.put LNK_INC_LOCAL_INC (onLane p) d.rnd).drawn)
  (d.put SAG_CHAL_CHALLENGE onMod d.rnd).drawn

/-- Table 14-1: the default debug level and the highest level of a life-cycle state. -/
def defaultLevel (lc : Nat) : Nat := match lc with | 0 => 3 | 1 => 1 | _ => 0
def highestLevel (lc : Nat) : Nat := match lc with | 0 => 3 | 1 => 3 | 2 => 2 | 3 => 3 | _ => 0

/-- The module is isolated (R438): every fabric port is held DOWN, the host ports do not train, the meshes are SEGREGATED.
DEDUCED (log 98). -/
def Dev.isolate (d : Dev) : Dev :=
  let d := d.put FLT_STAT_ISOLATED onMod 1
  let d := (d.put CFG_BOOTSTATUS_PHASE onMod 6).put CFG_BOOTSTATUS_BISQUE onMod 0
  let d := d.each d.ports (fun p d => d.enterDown p)
  let d := d.each (List.range 4) (fun q d => (d.put HST_STAT_LINK_UP (onDie q) 0).put NOC_MODECTL_MODE (onDie q) 0)
  { d with boot := { d.boot with step := 8 } }

/-- R22, R24, R439, Table 19-4: a module reset. Oasis keeps the fault store, the carry list, the FAULT_N latches and FORCE and
the boot candidate record; fuses and flash stay. MOD_RESET_N (cause 2) empties the carry list and clears the first two latches
and FORCE; it and a loss of supply end an isolation (R438). The SCOPE 1 wipe runs.
DEDUCED (log 98, 142). DESIGN CHOICE (log 129). -/
def Dev.resetModule (d : Dev) (cause : Nat) : Dev :=
  let i := Dev.init
  let contact := cause = 2
  let n : Dev := { i with
    env := { d.env with fabric := -(d.env.time : Int) },
    flt := { i.flt with store := d.flt.store, storeSeq := d.flt.storeSeq, storeNext := d.flt.storeNext, tokens := d.flt.tokens,
                        tokenStamp := d.flt.tokenStamp, carry := if contact then [] else d.flt.carry,
                        latch := !contact && d.flt.latch, isolate := !contact && d.flt.isolate, shutdown := d.flt.shutdown,
                        force := !contact && d.flt.force, holding := !contact && d.flt.holding, pendRelease := !contact && d.flt.pendRelease,
                        resets := [locModule] },
    sys := { d.sys with fabricId := 0, sysModules := 0, mapMode := false, nodeMap := [] },
    pwr := { i.pwr with off := if d.pwr.off = 0 && !d.pwr.ref then 4 else d.pwr.off, ref := d.pwr.ref, cycled := d.pwr.cycled, vin := d.pwr.vin, vstby := d.pwr.vstby, loss := d.pwr.loss,
                        good := d.pwr.good },
    boot := { i.boot with flash := d.boot.flash, tried := d.boot.tried, step := 0 } }
  let n := (n.drawRandom).put SAG_DBG_LEVEL onMod (defaultLevel n.sys.lifeCycle)
  let n := n.when (d.flt.force && !contact) (·.put FLT_FAULTN_FORCE onMod 1)
  let n := (n.when (cause ≠ 4) (fun n => { n with sag := { n.sag with changing := d.sag.changing, wipes := d.sag.wipes.filter (fun w => w.scope ≥ 6) } })).startWipe 1 0 0
  let n := n.when (n.flt.pin ≠ d.flt.pin) (·.emit (.pin "FAULT_N" n.flt.pin))
  let n := n.emit (.pin "CARAVAN_BYPASS" true)
  let n := n.each (List.range 4) (fun q n => n.incBy .FWD_DROP ⟨q, dropRESET - 1⟩
    (Tab.count d.rtr.pkts (fun _ k => k.copies.isNone && k.headDie = q)))
  n.when (d.isolated && !contact && cause ≠ 4) (·.isolate)

/-! ## Requesting a reset (R26, R431, R440) -/

/-- R440: a reset counts as the action of the live records whose location it contains; the record numbered `not` acted itself.
DEDUCED (log 94). -/
def Dev.resetRecords (d : Dev) (l : Loc) (not : Option Nat) : Dev :=
  d.each (d.flt.recs.filter (fun (e : Nat × FRec) => e.2.live && l.contains e.2.loc && some e.1 ≠ not))
    (fun e d => d.setRec e.1 { e.2 with state := 2, merged := false })

/-- A region or die in Stop: a reset completes without waking it (R27). -/
def Dev.asleep (d : Dev) (l : Loc) : Bool :=
  (l.level = 4 && d.dieState l.die = domSTOP) ||
  (match l.region with | some m => d.regionState m = domSTOP | none => false)

/-- The effects of a reset whose scope is `l`. -/
def Dev.resetEffects (d : Dev) (l : Loc) (cause : Nat) : Dev :=
  match l.level with
  | 1 => d.resetUnit l
  | 2 => d.resetLanes l.die (l.index % 16 * 8) (l.index % 16 * 8 + 7)
  | 3 => d.resetRegion l.index
  | 4 => d.resetDie l.die
  | _ => d.resetModule cause

/-- A reset of a scope begins: wakes under way in it end, and it takes over the resets that it contains (R26).
DEDUCED (log 94). -/
def Dev.resetBegins (d : Dev) (l : Loc) : Dev :=
  let d := d.wakesEnd ((List.range 16).filter (fun m => l.contains (locRegion m))) ((List.range 4).filter (fun q => l.contains (locDie q)))
  { d with flt := { d.flt with resets := d.flt.resets.filter (fun r => !l.contains r) ++ [l] } }

/-- R439, R442: what an assertion of MOD_RESET_N clears in Oasis. -/
def Dev.contactClears (d : Dev) : Dev :=
  (d.put FLT_FAULTN_FORCE onMod 0).faultN (fun f =>
    { f with latch := false, isolate := false, force := false, holding := false, pendRelease := false, carry := [] })

/-- R26, R431: a reset of a scope for a cause; a reset of die Q0 is a module reset (R21). A running reset that contains it
absorbs it, but not a MOD_RESET_N that ends an isolation (R438); a larger one takes over those that it contains. Every reset raises a fault of source RESET.
DEDUCED (log 94). -/
def Dev.reset (d : Dev) (l : Loc) (cause : Nat) (act : Option Nat) : Dev :=
  let l := if l.level ≥ 5 || (l.level = 4 && l.die = 0) then locModule else l
  let raised (d : Dev) : Dev := d.raise srcRESET l.level l cause
  let contact := l.level = 5 && cause = 2
  if d.flt.resets.any (fun r => r.contains l) && !(contact && d.isolated) then raised (d.when contact (·.contactClears))
  else if d.asleep l then raised (d.resetRecords l act)
  else
    raised (((d.resetBegins l).resetEffects l cause).resetRecords l act)

/-- The ports of a scope retrain when they are enabled (Table 3-12). DEDUCED (log 33). -/
def Dev.portsReturn (d : Dev) (l : Loc) : Dev :=
  d.each (d.portsIn l) (fun p d =>
    if d.lstate p = DISABLED && d.bit LNK_CTRL_EN (onLane p) && d.regionRun (laneRegion p) then d.enterTraining p else d)

/-- R25: the bridge ends of a reset that has completed return, and what waits to cross them goes on. -/
def Dev.bridgesBack (d : Dev) (l : Loc) : Dev :=
  if l.level = 4 then (d.bridgesSync l.die).pumpAll
  else if l.level = 1 && l.ukind = 5 then (d.bridgeSync l.die l.index).pumpAll
  else d

/-- A reset in progress completes, and its absorbed resets with it. -/
def Dev.resetEnds (d : Dev) (l : Loc) : Dev :=
  if d.flt.resets.contains l then
    (({ d with flt := { d.flt with resets := d.flt.resets.filter (· ≠ l) } }).bridgesBack l).portsReturn l
  else d

/-- The wipe that a reset waits for runs (R372). -/
def Dev.wipeHolds (d : Dev) (l : Loc) : Bool :=
  d.sag.wipes.any (fun w =>
    (l.level = 5 && (w.scope = 1 || w.scope ≥ 6)) || (l.level = 4 && w.scope = 2 && w.die = l.die) ||
    (l.level = 3 && w.scope = 3 && w.die * 4 + w.part = l.index) ||
    (l.level = 1 && l.ukind = 7 && w.scope = 4 && w.part = 257 && w.die = l.die))

/-- RESET_COMPLETE for a scope. -/
def Dev.resetComplete (d : Dev) (l : Loc) : Dev := if d.wipeHolds l then d else d.resetEnds l

/-! ## Rung actions (R436 to R442) -/

/-- R441: a cause of the first latch, of the isolation latch or of the shutdown latch. -/
def Dev.faultCause (d : Dev) (which : Nat) : Dev :=
  d.faultN (fun f => { f with latch := f.latch || which = 0, isolate := f.isolate || which = 1, shutdown := f.shutdown || which = 2,
                              holding := true, pendRelease := f.pendRelease && which ≠ 0 })

/-- The action of rung r at a location, for a fault of source s and subtype t; `slot` is its record. DEDUCED (log 97). -/
def Dev.rungAction (d : Dev) (slot : Option Nat) (s t : Nat) (l : Loc) (rung ceil : Nat) (words : List Nat) : Dev :=
  let d := (d.inc .FLT_ACTIONS onMod).storeWrite words 2 rung
  let n := countedRung l rung
  let d := d.when (d.srcFaultN s t && max 1 (d.get FLT_CTRL_FN_RUNG onMod) ≤ n) (·.faultCause 0)
  if rung = 6 then (d.faultCause 1).isolate
  else
    let d := if n = 5 then { d with flt := { d.flt with carry := d.flt.carry ++ [⟨s, t, l, ceil⟩] } } else d
    d.reset (l.container rung) 1 slot

/-- A record performs the action of a rung: it is ACTING, its escalation timer starts, no merge has come since.
DEDUCED (log 97). -/
def Dev.actRec (d : Dev) (slot rung : Nat) : Dev :=
  match d.frec slot with
  | some r =>
    let r := { r with state := 2, rung := rung, merged := false, outcome := if countedRung r.loc rung ≥ 5 then 5 else r.outcome }
    (d.setRec slot r).rungAction (some slot) r.source r.subtype r.loc rung r.ceiling (r.words slot)
  | none => d

/-- The rung that the record of a slot acts at; of records that fall due together the larger scope is performed (R440). -/
def Dev.dueRung (d : Dev) (slot : Nat) : Nat := match d.frec slot with | some r => countedRung r.loc r.rung | none => 0

/-- R433, R435, R440: the actions that are due at once: records whose window is 0, the larger scope first, and faults that found no
slot. DEDUCED (log 97). -/
def Dev.dueActions (d : Dev) : Dev :=
  let l := [6, 5, 4, 3, 2, 1, 0].flatMap (fun n => d.flt.due.filter (fun slot => d.dueRung slot = n))
  let m := d.flt.dueNoSlot
  let d := { d with flt := { d.flt with due := [], dueNoSlot := [] } }
  let d := d.each l (fun slot d =>
    match d.frec slot with
    | some r => if r.state ≠ 1 then d else if r.rung = 0 then d.closeRec slot 3 else d.actRec slot r.rung
    | none => d)
  d.each m (fun (x : Nat × Nat × Loc) d =>
    let rung := firstRung x.2.2 (d.srcStart x.1 x.2.1) (d.srcCeil x.1 x.2.1)
    d.rungAction none x.1 x.2.1 x.2.2 rung (d.srcCeil x.1 x.2.1)
      ((⟨0, x.1, x.2.1, rung, d.srcCeil x.1 x.2.1, 2, 0, 1, x.2.2, 0, d.fabricNow, 0, false, 0⟩ : FRec).words 0))

/-- What follows a command without a command: actions that are due, twice, since an action raises a RESET fault; descriptors that
a counter has fired; collective members that may start. DEDUCED (log 25). -/
def Dev.settle (d : Dev) : Dev := (d.dueActions.dueActions.runFired).colSettle

end Sys2Proof.Machine
end

