-- ==== Sys2Proof/Machine/FaultCmds.lean ====
section
/-! DEFINITION. Commands of the fault path (R436, R439 to R446), faults that come from watchdogs and memories, reset commands and
contacts (R21 to R27), function resets (R227). -/

namespace Sys2Proof.Machine

/-! ## The ladder (R436) -/

/-- The condition that Table 17-2 names for a record holds now. `unserviced` says it for a watchdog, whose service the model does
not hold. -/
def Dev.condHolds (d : Dev) (r : FRec) (unserviced : Bool) : Bool :=
  match r.source, r.subtype with
  | 1, _ => d.lstate r.loc.index ≠ UP
  | 2, _ => d.bit BRG_STAT_DOWN ⟨r.loc.die, r.loc.index⟩
  | 6, 1 => d.sag.noEntropy.contains r.loc.die
  | 6, _ => unserviced
  | 8, _ => !d.pwr.ref
  | 11, 1 => unserviced
  | 12, 1 => !d.bit HST_STAT_LINK_UP (onDie r.loc.die)
  | _, _ => false

/-- The condition of a record is present: it holds, or a merge has come since its last action (R436). -/
def Dev.condPresent (d : Dev) (r : FRec) (unserviced : Bool) : Bool := r.merged || d.condHolds r unserviced

/-- FAULT_WINDOW_EXPIRY: the window of an OPEN record expires (Table 17-3). DESIGN CHOICE (log 3). DEDUCED (log 97). -/
def Dev.windowExpires (d : Dev) (slot : Nat) (unserviced : Bool) : Dev :=
  match d.frec slot with
  | none => d
  | some r =>
    if r.state ≠ 1 then d
    else if r.rung = 0 then d.closeRec slot 3
    else if d.condPresent r unserviced then d.actRec slot r.rung
    else d.closeRec slot 2

/-- ESCALATION_TIMEOUT: the escalation timer of an ACTING record expires (Table 17-3). -/
def Dev.escalates (d : Dev) (slot : Nat) (unserviced : Bool) : Dev :=
  match d.frec slot with
  | none => d
  | some r =>
    if r.state ≠ 2 then d
    else if !d.condPresent r unserviced then d.closeRec slot 2
    else match nextRung r.loc r.rung r.ceiling with
      | some n => d.actRec slot n
      | none => d.closeRec slot 4

/-- The live record that an ID names (R436). -/
def Dev.recOf (d : Dev) (id : Nat) : Option (Nat × FRec) :=
  (d.frec (id % 256)).bind (fun r => if r.live && r.id (id % 256) = id % 65536 then some (id % 256, r) else none)

def Dev.ackStatus (d : Dev) (st : Nat) : Dev := d.put FLT_ACK_STATUS onMod st

/-- FLT_ACK CLEAR. -/
def Dev.ackClear (d : Dev) (id : Nat) : Dev :=
  match d.recOf id with
  | some (slot, _) => (d.closeRec slot 1).ackStatus ST_OK
  | none => d.ackStatus ST_BAD_STATE

/-- FLT_ACK ACT_NOW: the action of an OPEN record's rung, or of the next rung. -/
def Dev.ackAct (d : Dev) (id : Nat) : Dev :=
  match d.recOf id with
  | none => d.ackStatus ST_BAD_STATE
  | some (slot, r) =>
    match if r.state = 1 && r.rung ≠ 0 then some r.rung else nextRung r.loc r.rung r.ceiling with
    | some n => (d.ackStatus ST_OK).actRec slot n
    | none => d.ackStatus ST_BAD_STATE

/-- A write of FLT_ACK. -/
def Dev.fltAck (d : Dev) (v : Word) : Dev :=
  match FLT_ACK_ACTION.of v with
  | 1 => d.ackClear (FLT_ACK_ID.of v)
  | 2 => d.ackAct (FLT_ACK_ID.of v)
  | 3 => d.ackStatus ST_BAD_PARAM
  | _ => d

/-- R439: a carry entry lapses. -/
def Dev.carryLapses (d : Dev) (n : Nat) : Dev := { d with flt := { d.flt with carry := d.flt.carry.eraseIdx n } }

/-! ## FAULT_N (R441, R442) -/

/-- FLT_FAULTN.RELEASE: at once, or when the millisecond after the latest cause ends. -/
def Dev.faultRelease (d : Dev) : Dev :=
  if d.flt.holding then { d with flt := { d.flt with pendRelease := true } } else d.faultN (fun f => { f with latch := false })

/-- FLT_FAULTN.FORCE. -/
def Dev.faultForce (d : Dev) (on : Bool) : Dev :=
  (d.putB FLT_FAULTN_FORCE onMod on).faultN (fun f => { f with force := on, holding := f.holding || on })

/-- The millisecond after the latest cause ends. DEDUCED (log 99). -/
def Dev.faultHoldEnds (d : Dev) : Dev :=
  d.faultN (fun f => { f with holding := false, latch := f.latch && !f.pendRelease, pendRelease := false })

/-- A write of FLT_FAULTN. -/
def Dev.fltFaultn (d : Dev) (v : Word) : Dev :=
  (d.faultForce (FLT_FAULTN_FORCE.of v = 1)).when (FLT_FAULTN_RELEASE.of v = 1) (·.faultRelease)

/-! ## The store (R446) -/

/-- Every entry is written invalid. -/
def Dev.storeWipe (d : Dev) : Dev := { d with flt := { d.flt with store := [] } }

/-- FLT_STORECMD.ERASE: then the erase marker is the first new entry. DESIGN CHOICE (log 100). -/
def Dev.storeErase (d : Dev) : Dev :=
  let d := d.storeWipe
  { d with flt := { d.flt with
      store := Tab.put d.flt.store d.flt.storeNext ⟨d.flt.storeSeq + 1, d.now / 1000, [0, 0, 0, 0], 4, 0, d.flt.dropped⟩,
      storeSeq := d.flt.storeSeq + 1, storeNext := (d.flt.storeNext + 1) % 4096, dropped := 0 } }.put FLT_STORECMD_STATUS onMod ST_OK

/-! ## Watchdogs, exceptions, memories -/

/-- ZORURI_WATCHDOG, ZORURI_EXCEPTION. DESIGN CHOICE (log 100). -/
def Dev.zoruriHang (d : Dev) (q : Nat) : Dev := d.raise srcZORURI 1 (locDie q) 0
def Dev.zoruriException (d : Dev) (q : Nat) : Dev := d.raise srcZORURI 2 (locDie q) 0
/-- SAGGAR_WATCHDOG. DESIGN CHOICE (log 100). -/
def Dev.saggarHang (d : Dev) (q : Nat) : Dev := d.raise srcSAG 2 (locDie q) 0

/-- R103: a slot of a cell is poisoned. -/
def Dev.poisonSlot (d : Dev) (c s : Nat) : Dev :=
  match Tab.find d.rtr.cells c with
  | some x => { d with rtr := { d.rtr with cells := Tab.put d.rtr.cells c { x with poison := x.poison ||| 2 ^ (s % 4) } } }
  | none => d

/-- An uncorrectable error in a buffer bank (MEMORY 1): cell n of bank b of die q, flit slot s. -/
def Dev.bankError (d : Dev) (q b n s : Nat) : Dev :=
  (d.poisonSlot (q * 262144 + b * 65536 + n) s).raise srcMEMORY 1 (locRegion (q * 4 + b)) n

/-- What an SRAM error hits: nothing that is in use, a connection context (Table 10-2), a region entry (Table 10-6), the state of
a descriptor operation (Table 9-11). -/
def Dev.sramHit (d : Dev) (q what n : Nat) : Dev :=
  match what with
  | 1 => d.connError (q * 262144 + n) 0 ST_MEM_ERROR
  | 2 =>
    let r := d.region q n
    if r.state = regVALID then d.setRegion q n { r with state := regBAD } else d
  | 3 =>
    match d.op n with
    | some o => if o.die = q then (match d.memOfOp n with | some m => d.memFail m ST_MEM_ERROR | none => d.failOp n ST_MEM_ERROR) else d
    | none => d
  | _ => d

/-- R18: the channel of a die whose memory holds what an SRAM error hits: a connection context fills one 256-byte granule; the place
of region entries and descriptor state is the event's. DESIGN CHOICE (log 141). -/
def sramChannel (what n x : Nat) : Nat := if what = 1 then n % 2 else x % 2

/-- MEMORY_ERROR: kind 1 a buffer bank (region, cell, slot), 2 an SRAM channel (channel, what it hits, its number), 3 an on-die
table or cache. DESIGN CHOICE (log 141). -/
def Dev.memoryError (d : Dev) (q kind x y z : Nat) : Dev :=
  match kind with
  | 1 => d.bankError q (x % 4) (y % 65536) z
  | 2 => ((d.sramHit q y z).inc .QDC_ECCUNC ⟨q, sramChannel y z x⟩).raise srcMEMORY 2 (locUnit q 6 (sramChannel y z x)) 0
  | _ => d.raise srcMEMORY 3 (locDie q) 0

/-- HOST_PORT_INTERNAL_ERROR. -/
def Dev.hostInternal (d : Dev) (q : Nat) : Dev := d.raise srcHOST 2 (locHost q) 0

/-! ## Resets by command, contact and function (R21, R22, R227, R489) -/

/-- The unit that kind and index name on a die, where such a unit exists (Table 17-1). -/
def unitOf (q ukind i : Nat) : Option Loc :=
  if q ≥ 4 then none
  else match ukind with
    | 0 => if i < 512 && i / 128 = q then some (locLane i) else none
    | 1 => if i < 512 && i / 128 = q then some (locPort i) else none
    | 5 => if i < 2 then some (locBridge q i) else none
    | 6 => if i < 2 then some (locUnit q 6 i) else none
    | 7 => if i = 0 then some (locHost q) else none
    | _ => if ukind < 5 && i < 1024 then some (locUnit q ukind i) else none

/-- UNIT_RESET. DEDUCED (log 95). -/
def Dev.unitReset (d : Dev) (q ukind i : Nat) : Dev :=
  match unitOf q ukind i with
  | some l => d.reset l 3 none
  | none => d

/-- MOD_RESET_N falls for a number of ns (R489): shorter than 1 µs it is ignored, from 10 µs on it is a module reset, between
the two the part decides. DEDUCED (log 94, 99). -/
def Dev.resetContact (d : Dev) (ns : Nat) : Dev :=
  if ns < 1000 then d
  else if 10000 ≤ ns || Config.freeChoice d.env.freeCtr then (d.freed).reset locModule 2 none
  else d.freed

/-- HPn_PERST_N: a unit reset of the port; NUMPF applies from here on (Table 9-13). DEDUCED (log 96). -/
def Dev.hostPerst (d : Dev) (q : Nat) : Dev :=
  let d := d.reset (locHost q) 2 none
  { d with hst := { d.hst with numpf := Tab.set d.hst.numpf 0 q (d.get HST_CTRL_NUMPF (onDie q)) } }

/-- MGT_PERST_N: the management port's window and MSI-X table start anew; the reader that writes through it stops (R462). MGT_OOBCMD,
MGT_OOBTGT, MGT_OOBDATA and the other MGT fields keep their values (DESIGN CHOICE: R22 does not say that the unit has them). Its RESET record has
unit kind 7 with index 1, since Table 17-1 gives the management port no code (model's choice).
DEDUCED (log 96). DESIGN CHOICE (log 128). -/
def Dev.mgmtReset (d : Dev) : Dev :=
  let d := (d.windowOff 0 .mgmt).msixClear 4 0
  (d.readerLost (fun path _ => path = 0)).raise srcRESET 1 (locUnit 0 7 1) 2

/-- R227: a Function Level Reset: its effects, the SCOPE 4 wipe, the RESET record. -/
def Dev.functionReset (d : Dev) (q f : Nat) : Dev :=
  ((d.funcReset q f).startWipe 4 q f).raise srcRESET 1 (locHost q) 7

/-- A hot reset (`hot`) or a link-down of a host port (R227); a link lost without reset raises SURPRISE_DOWN.
DEDUCED (log 96). -/
def Dev.hostLinkDown (d : Dev) (q : Nat) (hot : Bool) : Dev :=
  (d.reset (locHost q) 7 none).when (!hot) (·.raise srcHOST 1 (locHost q) 0)

end Sys2Proof.Machine
end

