-- ==== Sys2Proof/Machine/Saggar.lean ====
section
/-! DEFINITION. Saggar: challenge, tokens, debug level, life cycle (R351 to R357), key commands (R362), wipes that complete
(R372). -/

namespace Sys2Proof.Machine

/-! ## Life cycle and debug level (R352 to R354, Table 14-5) -/

def Dev.lifeCycle (d : Dev) : Nat := d.sys.lifeCycle
def Dev.debugLevel (d : Dev) : Nat := d.get SAG_DBG_LEVEL onMod

/-- D of Table 14-5: data traffic. -/
def Dev.dataAllowed (d : Dev) : Bool := 1 ≤ d.lifeCycle && d.lifeCycle ≤ 3
/-- K of Table 14-5: keys may be installed and used. -/
def Dev.keysAllowed (d : Dev) : Bool := d.dataAllowed && d.debugLevel ≤ 1

/-- The debug level becomes a value, under the token of a signer. -/
def Dev.setLevel (d : Dev) (level signer : Nat) : Dev := (d.put SAG_DBG_LEVEL onMod level).put SAG_DBG_SIGNER onMod signer

/-- SAG_DBG.LOWER: a value below LEVEL becomes LEVEL. -/
def Dev.lowerLevel (d : Dev) (v : Nat) : Dev :=
  if v < d.debugLevel then
    d.setLevel v (if v = defaultLevel d.lifeCycle then 0 else d.get SAG_DBG_SIGNER onMod)
  else d

/-! ## Challenge (R355) -/

/-- The value that a read of SAG_CHAL returns. -/
def Dev.challengeValue (d : Dev) : Word := d.rd .SAG_CHAL onMod

/-- A read of SAG_CHAL: the value is the one that a token must carry, and a new one is drawn, unless the entropy source
fails. A register that holds none gives no challenge. -/
def Dev.challengeRead (d : Dev) : Dev :=
  let none' := d.sag.noEntropy.contains 0 && d.challengeValue = 0
  let d := { d with sag := { d.sag with challenge := if none' then none else some d.challengeValue.toNat } }
  if d.sag.noEntropy.contains 0 then d.put SAG_CHAL_CHALLENGE onMod 0 else (d.put SAG_CHAL_CHALLENGE onMod d.rnd).drawn

/-- ENTROPY_FAIL. -/
def Dev.entropyFails (d : Dev) (q : Nat) : Dev :=
  ({ d with sag := { d.sag with noEntropy := q :: d.sag.noEntropy.filter (· ≠ q) } }).raise srcSAG 1 (locDie q) 0

/-- ENTROPY_RECOVER: a challenge that could not be drawn is drawn. -/
def Dev.entropyRecovers (d : Dev) (q : Nat) : Dev :=
  let d := { d with sag := { d.sag with noEntropy := d.sag.noEntropy.filter (· ≠ q) } }
  if q = 0 && d.challengeValue = 0 then (d.put SAG_CHAL_CHALLENGE onMod d.rnd).drawn else d

/-! ## Tokens (R355, R356) -/

def Dev.tokStatus (d : Dev) (st : Nat) : Dev := d.put SAG_TOKCMD_STATUS onMod st
def Dev.tokBusy (d : Dev) : Bool := d.bit SAG_TOKCMD_BUSY onMod

/-- The bytes of n consecutive words of a buffer. -/
def Dev.bufBytes (d : Dev) (r : Reg) (q n : Nat) : List Byte := ((List.range n).map (fun w => toBytes 8 (d.rd r ⟨q, w⟩).toNat)).flatten

/-- The path may present tokens (R355). DEDUCED (log 103). -/
def pathPresents (path : Path) : Bool := match path with | .mgmt => true | .jtag => true | _ => false

/-- SAG_TOKCMD.OP = PRESENT, reached on die q. DEDUCED (log 103). -/
def Dev.present (d : Dev) (q : Nat) (path : Path) : Dev :=
  if d.tokBusy then d
  else if !pathPresents path then (d.tokStatus ST_NOT_PERMITTED).inc .SAG_TOKFAIL onMod
  else if d.sag.wipes ≠ [] then d.tokStatus ST_BAD_STATE
  else
    { d with sag := { d.sag with token := some ⟨q, d.bufBytes .SAG_TOKBUF q 16, d.bufBytes .SAG_PUBKEY q 12⟩ } }.put SAG_TOKCMD_BUSY onMod 1

/-- Fields of a token (Table 14-3). -/
def Token.field (t : Token) (lo n : Nat) : Nat := ofBytes ((t.bytes.drop lo).take n)
def Token.kind (t : Token) : Nat := t.field 4 1
def Token.value (t : Token) : Nat := t.field 5 1
def Token.signer (t : Token) : Nat := t.field 6 1

/-- The token is well formed. -/
def Token.formed (t : Token) : Bool :=
  t.field 0 4 = 0x54474153 && (t.kind = 1 || t.kind = 2) && t.field 7 1 = 0 && t.field 24 8 = 0

/-- The public key of the token's signer, and the hash fused for it; none when the signer has no key in this state. -/
def Dev.signerKey (d : Dev) (t : Token) : Option (List Byte × Nat) :=
  match t.signer with
  | 0 => some (Config.odturKey 0, Config.odturHash 0)
  | 1 => if d.lifeCycle = 1 || d.lifeCycle = 3 then some (Config.odturKey 1, Config.odturHash 1) else none
  | 2 => d.sys.opkey.map (fun h => (t.pubkey, h))
  | _ => none

/-- The signature of a token passes under its signer's key (R355). -/
def Dev.signaturePasses (d : Dev) (t : Token) : Bool :=
  match d.signerKey t with
  | some (key, hash) =>
    Config.sha384 key = hash &&
    Config.p384Verify key (Config.sha384 (t.bytes.take 32)) ((t.bytes.drop 32).take 48) ((t.bytes.drop 80).take 48)
  | none => false

/-- What the signer may grant: a debug level up to its limit and the state's, or a step of the life cycle (R353, R354). -/
def Dev.mayGrant (d : Dev) (t : Token) : Bool :=
  if t.kind = 1 then t.value ≤ min (highestLevel d.lifeCycle) (if t.signer = 2 then 2 else 3)
  else t.signer = 0 && d.lifeCycle < 4 && (t.value = d.lifeCycle + 1 || t.value = 4)

/-- R355: why a token is refused; none when it is accepted. DEDUCED (log 103). -/
def Dev.tokenFails (d : Dev) (t : Token) : Option Nat :=
  if !t.formed then some ST_BAD_PARAM
  else if t.field 8 8 = d.sys.uid && d.sag.challenge = some (t.field 16 8) && d.signaturePasses t && d.mayGrant t then none
  else some ST_NOT_PERMITTED

/-- R357: every key is erased, every encrypted connection in OPEN enters ERROR. -/
def Dev.eraseAllKeys (d : Dev) : Dev :=
  let d := d.each (List.range 4) (fun q d => d.eraseKeys q)
  d.each ((d.hst.conns.filter (fun (e : Nat × Conn) => e.2.enc && e.2.state = connOPEN)).map (·.1)) (fun c d => d.connError c 0 ST_NOT_PERMITTED)

/-- A debug token takes effect: a level of 2 or 3 rises when the SCOPE 5 wipe ends. -/
def Dev.grantLevel (d : Dev) (level signer : Nat) : Dev :=
  if level ≤ d.debugLevel then d
  else if level ≤ 1 then d.setLevel level signer
  else ({ d.eraseAllKeys with sag := { d.eraseAllKeys.sag with raising := some (level, signer) } }).startWipe 5 0 4

/-- R353: a life-cycle change starts with the wipe of the new state. -/
def Dev.startChange (d : Dev) (st : Nat) : Dev :=
  (({ d with sag := { d.sag with changing := some st } }).put SAG_LC_BUSY onMod 1).startWipe (if st = 4 then 7 else 6) 0 0

/-- TOKEN_VERIFIED: the verification ends; the challenge is forgotten whatever the outcome. DEDUCED (log 103). -/
def Dev.tokenVerified (d : Dev) : Dev :=
  match d.sag.token with
  | none => d
  | some t =>
    let fails := d.tokenFails t
    let d := ({ d with sag := { d.sag with token := none, challenge := none } }).put SAG_TOKCMD_BUSY onMod 0
    match fails with
    | some st => (d.tokStatus st).inc .SAG_TOKFAIL onMod
    | none => (if t.kind = 1 then d.grantLevel t.value t.signer else d.startChange t.value).tokStatus ST_OK

/-- SAG_TOKCMD.OP = SET_OPKEY, reached on die q. DEDUCED (log 103). -/
def Dev.setOpkey (d : Dev) (q : Nat) (path : Path) : Dev :=
  if d.tokBusy then d
  else if path = .mgmt && d.lifeCycle = 2 && d.sys.opkey.isNone then
    ({ d with sys := { d.sys with opkey := some (ofBytes (d.bufBytes .SAG_TOKBUF q 6)) } }).tokStatus ST_OK
  else d.tokStatus ST_NOT_PERMITTED

/-- A write of SAG_TOKCMD, reached on die q. -/
def Dev.tokCommand (d : Dev) (q : Nat) (path : Path) (v : Word) : Dev :=
  match SAG_TOKCMD_OP.of v with
  | 1 => d.present q path
  | 2 => d.setOpkey q path
  | 3 => d.tokStatus ST_BAD_PARAM
  | _ => d

/-! ## Key commands (R362, Table 14-7) -/

/-- A slot receives the key in the buffer of its new owner. -/
def Dev.keyInstall (d : Dev) (q f slot state : Nat) : Dev :=
  let key := ofBytes (((List.range 4).map (fun w => toBytes 8 (d.rd .SAG_KEYBUF ⟨q, f * 4 + w⟩).toNat)).flatten)
  let d := d.when (d.keyState q slot = keyFREE) (fun d => d.put SAG_FNQUOTA_USED ⟨q, f⟩ (d.get SAG_FNQUOTA_USED ⟨q, f⟩ + 1))
  ({ d.setKeySlot q slot state f 0 0 with sag := { d.sag with keys := Tab.put d.sag.keys (q * 65536 + slot) key } }).inc .SAG_KEYINST (onDie q)

/-- The owner holds as many slots as it may. -/
def Dev.keyQuotaFull (d : Dev) (q f : Nat) : Bool := min 65536 (d.get SAG_FNQUOTA_QUOTA ⟨q, f⟩) ≤ d.get SAG_FNQUOTA_USED ⟨q, f⟩

/-- INSTALL_CONN. DEDUCED (log 103). -/
def Dev.installConn (d : Dev) (q f slot : Nat) : Dev × Nat :=
  let st := d.keyState q slot
  if f > 255 || (st ≠ keyFREE && d.keyOwner q slot ≠ f) || d.keyQuotaFull q f || !d.keysAllowed then (d, ST_NOT_PERMITTED)
  else if st ≠ keyFREE && st ≠ keyCONN then (d, ST_BAD_STATE)
  else (d.keyInstall q f slot keyCONN, ST_OK)

/-- INSTALL_GROUP. -/
def Dev.installGroup (d : Dev) (q f slot : Nat) : Dev × Nat :=
  let st := d.keyState q slot
  if f ≠ 256 || !d.keysAllowed then (d, ST_NOT_PERMITTED)
  else if st ≠ keyFREE && st ≠ keySPENT then (d, ST_BAD_STATE)
  else (d.keyInstall q f slot keyGROUP, ST_OK)

/-- A slot is in use: bound to a context that is not FREE, or named by a backed group. DEDUCED (log 124). -/
def Dev.keyInUse (d : Dev) (q slot : Nat) : Bool :=
  (d.keyState q slot = keyBOUND &&
    (d.conn (q * 262144 + d.get SAG_KEYSLOT_CTX ⟨q, slot⟩)).isSome) ||
  (d.keyState q slot = keyGROUP && (List.range 65536).any (fun g => d.backed q g && d.gEnc q g && d.gKeyslot q g = slot))

/-- ERASE. DEDUCED (log 124). -/
def Dev.keyErase (d : Dev) (q f slot : Nat) : Dev × Nat :=
  if d.keyState q slot = keyFREE || d.keyOwner q slot ≠ f then (d, ST_NOT_PERMITTED)
  else if d.keyInUse q slot then (d, ST_BAD_STATE)
  else (d.freeKey q slot, ST_OK)

/-- A key command of owner f: refused while a wipe covers the slot (R366, R373); the key buffers are cleared (R362). -/
def Dev.keyCmd (d : Dev) (q f : Nat) (v : Word) (act : Dev → Nat → Dev × Nat) : Dev :=
  let a : At := ⟨q, f⟩
  let slot := SAG_KEYCMD_SLOT.of v
  let d := d.put SAG_KEYCMD_SLOT a slot
  let (d, st) := if d.wipingKeys q f then (d, ST_BAD_STATE) else act d slot
  (d.each (List.range 4) (fun w d => d.wr .SAG_KEYBUF ⟨q, f * 4 + w⟩ 0)).put SAG_KEYCMD_STATUS a st

def Dev.keyInstallConn (d : Dev) (q f : Nat) (v : Word) : Dev := d.keyCmd q f v (fun d s => d.installConn q f s)
def Dev.keyInstallGroup (d : Dev) (q f : Nat) (v : Word) : Dev := d.keyCmd q f v (fun d s => d.installGroup q f s)
def Dev.keyEraseCmd (d : Dev) (q f : Nat) (v : Word) : Dev := d.keyCmd q f v (fun d s => d.keyErase q f s)

/-- A write of SAG_KEYCMD. -/
def Dev.keyCommand (d : Dev) (q f : Nat) (v : Word) : Dev :=
  match SAG_KEYCMD_OP.of v with
  | 0 => d.put SAG_KEYCMD_SLOT ⟨q, f⟩ (SAG_KEYCMD_SLOT.of v)
  | 1 => d.keyInstallConn q f v
  | 2 => d.keyInstallGroup q f v
  | 3 => d.keyEraseCmd q f v
  | _ => d.keyCmd q f v (fun d _ => (d, ST_BAD_PARAM))

/-! ## Wipes complete (R372) -/

/-- SAG_WIPE and SAG_WIPES of the dies of a wipe that completes. -/
def Dev.wipeShown (d : Dev) (w : Wipe) : Dev :=
  d.each w.dies (fun q d =>
    let more := d.sag.wipes.any (fun x => x.dies.contains q)
    (((d.putB SAG_WIPE_ACTIVE (onDie q) more).put SAG_WIPE_PROGRESS (onDie q) (if more then 0 else 100)).put SAG_WIPE_LASTDUR (onDie q)
      ((d.now - w.start) / 1000)).inc .SAG_WIPES (onDie q))

/-- R353: the wipe of a life-cycle change is over: the fuses are blown and a module reset follows. DEDUCED (log 103). -/
def Dev.changeDone (d : Dev) (w : Wipe) : Dev :=
  match d.sag.changing with
  | none => d.resetEnds locModule
  | some st =>
    let d := if w.scope = 7 then d.storeWipe else d
    let d := { d with sys := { d.sys with lifeCycle := st }, sag := { d.sag with changing := none }, pwr := { d.pwr with save := [] },
                      flt := { d.flt with resets := [] } }
    d.reset locModule 6 none

/-- What a wipe that completes was called for by. -/
def Dev.wipeCalled (d : Dev) (w : Wipe) : Dev :=
  match w.scope with
  | 1 => { d.resetEnds locModule with boot := { (d.resetEnds locModule).boot with step := if d.boot.step = 0 then 1 else d.boot.step } }
  | 2 => d.resetEnds (locDie w.die)
  | 3 => d.resetEnds (locRegion (w.die * 4 + w.part))
  | 4 => if w.part = 257 then d.resetEnds (locHost w.die) else d
  | 5 =>
    (match w.part, d.sag.raising with
     | 4, some (level, signer) => { d.setLevel level signer with sag := { d.sag with raising := none } }
     | _, _ => d)
  | _ => d.changeDone w

/-- WIPE_DONE: the wipe of a scope, die and part completes. -/
def Dev.wipeDone (d : Dev) (scope die part : Nat) : Dev :=
  match d.sag.wipes.find? (fun w => w.scope = scope && w.die = die && w.part = part) with
  | none => d
  | some w => ({ d with sag := { d.sag with wipes := dropFirst w d.sag.wipes } }.wipeShown w).wipeCalled w

end Sys2Proof.Machine
end

