-- ==== Sys2Proof/Machine/Power.lean ====
section
/-! DEFINITION. Supplies, cone levels, throttles, temperature, Stop and wake commands, the reference clock (spec/16). -/

namespace Sys2Proof.Machine

/-! ## Cone level (R410, R411) -/

/-- The cap of a level in W (Table 16-2). -/
def coneCap (n : Nat) : Nat := match n with | 0 => 320 | 1 => 360 | 2 => 400 | 3 => 440 | 4 => 480 | 5 => 560 | 6 => 640 | _ => 720

/-- The highest level whose cap does not exceed 84.7 A times a voltage in mV, or level 0. -/
def vinLevel (mv : Nat) : Nat := ((List.range 8).filter (fun n => coneCap n * 10000 ≤ 847 * mv)).foldl max 0

/-- The VIN limit; 7 while VIN has not been measured since reset. DEDUCED (log 102). -/
def Dev.vinLimit (d : Dev) : Nat :=
  let mv := d.get PWR_STAT_VIN onMod
  let n := if mv = 0 then 7 else vinLevel mv
  if d.bit PWR_STAT_WARN onMod then min n (d.get PWR_CTRL_WARNLVL onMod) else n

def Dev.thermalLimit (d : Dev) : Nat := d.get PWR_THERM_THERMLVL onMod
def Dev.operatorLimit (d : Dev) : Nat := d.get PWR_CTRL_CONE_MAX onMod
/-- The lowest of the four limits. -/
def Dev.coneLimit (d : Dev) : Nat := min (min d.vinLimit d.thermalLimit) (min d.operatorLimit d.pwr.ocLimit)
def Dev.cone (d : Dev) : Nat := d.get PWR_STAT_CONE onMod

/-- The level takes a value; LIMIT_SRC and LIMIT_OC name the limits that equal it. -/
def Dev.setCone (d : Dev) (n : Nat) : Dev :=
  let src := (decide (d.vinLimit = n)).toNat + 2 * (decide (d.thermalLimit = n)).toNat + 4 * (decide (d.operatorLimit = n)).toNat
  ((d.put PWR_STAT_CONE onMod n).put PWR_STAT_LIMIT_SRC onMod src).putB PWR_STAT_LIMIT_OC onMod (d.pwr.ocLimit = n)

/-- A limit has changed: a fall is followed at once. -/
def Dev.coneFall (d : Dev) : Dev := d.setCone (min d.cone d.coneLimit)

/-- CONE_RISE: the level rises by one step up to the limit that held while RISE passed; the overcurrent limit rises by one, while
the input current is at or below 84.7 A. DEDUCED (log 102). -/
def Dev.coneRise (d : Dev) : Dev :=
  let n := min d.coneLimit (d.cone + 1)
  let d := if d.get PWR_STAT_IIN onMod ≤ 84 then { d with pwr := { d.pwr with ocLimit := min 7 (d.pwr.ocLimit + 1) } } else d
  d.setCone n

/-- PWR_CTRL. -/
def Dev.pwrCtrl (d : Dev) (v : Word) : Dev := (d.wrFields .PWR_CTRL onMod v).coneFall

/-! ## Throttles (R412) -/

/-- The averaging window in samples of 1 µs. -/
def Dev.avgWindow (d : Dev) : Nat := max 10 (min 10000 (d.get PWR_CTRL_AVG onMod))

/-- POWER_SAMPLE: VIN in mV, input current in A, input power in W; one throttle is applied while the average exceeds the cap, one
is released once it is 5 % below. DEDUCED (log 102). -/
def Dev.powerSample (d : Dev) (mv iin pin : Nat) : Dev :=
  let l := (pin :: d.pwr.samples).take d.avgWindow
  let avg := l.sum / l.length
  let d := ((d.put PWR_STAT_VIN onMod (min 65535 mv)).put PWR_STAT_IIN onMod (min 255 iin)).put PWR_STAT_PIN onMod (min 65535 avg)
  let d := { d with pwr := { d.pwr with samples := l } }.coneFall
  let cap := coneCap d.cone
  let n := if cap < avg then min 4 (d.pwr.throttle + 1) else if avg * 100 ≤ cap * 95 then d.pwr.throttle - 1 else d.pwr.throttle
  { d with pwr := { d.pwr with throttle := n } }

/-- CAPMISS: the average has stayed above the cap at the throttle floors for 10 ms. -/
def Dev.capMiss (d : Dev) : Dev :=
  if d.pwr.throttle = 4 && coneCap d.cone < d.get PWR_STAT_PIN onMod then
    ((d.put PWR_STAT_CAPMISS onMod 1).inc .PWR_CAPMISS onMod).raise srcPWR 2 locModule 0
  else d

/-- OVERCURRENT (R407). -/
def Dev.overcurrent (d : Dev) : Dev := ({ d with pwr := { d.pwr with ocLimit := 0 } }.coneFall).raise srcPWR 1 locModule 0

/-! ## Temperature (R414, R415) -/

def Dev.setTj (d : Dev) (tj die : Nat) : Dev := (d.put PWR_THERM_TJ onMod (min 1023 tj)).put PWR_THERM_HOTDIE onMod die

/-- The thermal limit takes a value. -/
def Dev.setThermal (d : Dev) (n : Nat) : Dev := ((d.put PWR_THERM_THERMLVL onMod n).putB PWR_THERM_THROTTLE onMod (n < 7)).coneFall

/-- THERMAL_FALL: 1 ms with TJ at 100 °C or above (TJ in 0.25 °C). DEDUCED (log 102). -/
def Dev.thermalFall (d : Dev) (tj die : Nat) : Dev :=
  let d := d.setTj tj die
  if 400 ≤ tj && 0 < d.thermalLimit then (d.inc .PWR_THROTTLE onMod).setThermal (d.thermalLimit - 1) else d

/-- THERMAL_RISE: 10 ms with TJ below 97 °C. -/
def Dev.thermalRise (d : Dev) (tj die : Nat) : Dev :=
  let d := d.setTj tj die
  if tj < 388 then d.setThermal (min 7 (d.thermalLimit + 1)) else d

/-- A store entry of a shutdown (R444). -/
def Dev.storeShutdown (d : Dev) (subtype : Nat) : Dev :=
  d.storeWrite ((⟨0, srcPWR, subtype, 0, 0, 1, 0, 1, locModule, 0, d.fabricNow, 0, false, 0⟩ : FRec).words 0) 3 0

/-- R496: POWER_GOOD falls, the Caravan bypass closes. -/
def Dev.powerOff (d : Dev) (why : Nat) : Dev :=
  (({ d with pwr := { d.pwr with off := why, good := false } }).emit (.pin "POWER_GOOD" false)).emit (.pin "CARAVAN_BYPASS" true)

/-- THERMAL_SHUTDOWN: TJ at 115 °C or above for 10 µs. -/
def Dev.thermalShutdown (d : Dev) (tj die : Nat) : Dev :=
  let d := d.setTj tj die
  if 460 ≤ tj && d.pwr.off ≠ 3 then
    ({ (d.storeShutdown 3).faultCause 2 with pwr := { ((d.storeShutdown 3).faultCause 2).pwr with cycled := false } }).powerOff 3
  else d

/-- POWER_GOOD rises. -/
def Dev.powerOn (d : Dev) : Dev :=
  ({ d with pwr := { d.pwr with off := if d.pwr.ref then 0 else 4, good := true } }).emit (.pin "POWER_GOOD" true)

/-- THERMAL_RESTART: every sensor below 90 °C, after MOD_RESET_N or VIN has gone and come back: a module reset. -/
def Dev.thermalRestart (d : Dev) (tj : Nat) : Dev :=
  if d.pwr.off = 3 && d.pwr.cycled && tj < 360 then
    (d.powerOn.faultN (fun f => { f with shutdown := false })).reset locModule 5 none
  else d

/-! ## Supplies (Table 16-1, R408, R409) -/

/-- VIN_WARN in force, mV. -/
def Dev.warnLevel (d : Dev) : Nat := max 4500 (min 17000 (d.get PWR_CTRL_VIN_WARN onMod))

/-- VIN_WARN: VIN of mv has been below the threshold for 2 µs. -/
def Dev.vinWarn (d : Dev) (mv : Nat) : Dev :=
  if mv < d.warnLevel && !d.bit PWR_STAT_WARN onMod then
    ((((d.put PWR_STAT_VIN onMod (min 65535 mv)).put PWR_STAT_WARN onMod 1).inc .PWR_WARNCNT onMod).emit .pwrIrq).coneFall
  else d

/-- VIN_WARN_RELEASE: VIN of mv has been above the threshold by 0.25 V for 1 ms. -/
def Dev.vinWarnEnds (d : Dev) (mv : Nat) : Dev :=
  if d.warnLevel + 250 < mv && d.bit PWR_STAT_WARN onMod then
    ((d.put PWR_STAT_VIN onMod (min 65535 mv)).put PWR_STAT_WARN onMod 0).coneFall
  else d

/-- Neither VIN nor VSTBY feeds Oasis: only the fault store survives (R409, R442). -/
def Dev.oasisLost (d : Dev) : Dev :=
  let d := { d with pwr := { d.pwr with save := [], loss := none }, boot := { d.boot with tried := [] } }
  (d.put FLT_FAULTN_FORCE onMod 0).faultN (fun f => { f with latch := false, isolate := false, shutdown := false, force := false, holding := false,
                                                             pendRelease := false, carry := [] })

/-- VIN_RESET: VIN below 4.3 V for 1 µs: a module reset; a loss of VIN ends an isolation (R438). While a thermal shutdown is in
force, it is the removal of VIN of R415. -/
def Dev.vinReset (d : Dev) : Dev :=
  let held := d.pwr.off = 3
  let d := if held then d else (d.powerOff 1).reset locModule 4 none
  let d := { d with pwr := { d.pwr with vin := false, loss := some (d.now / 1000) } }
  let d := d.faultN (fun f => { f with isolate := false })
  d.when (!d.pwr.vstby) (·.oasisLost)

/-- VIN_OVERVOLTAGE: VIN above 19.0 V for 1 µs: regulators off, a module reset, OVERVOLT in the store. -/
def Dev.vinOver (d : Dev) : Dev :=
  if d.pwr.off = 3 then d else ((d.storeShutdown 4).powerOff 2).reset locModule 4 none

/-- VIN_RETURN: the release condition of Table 16-1 holds with MOD_RESET_N high. -/
def Dev.vinReturn (d : Dev) : Dev :=
  let d := { d with pwr := { d.pwr with cycled := d.pwr.cycled || !d.pwr.vin, vin := true } }
  if d.pwr.off = 1 || d.pwr.off = 2 then d.powerOn else d

/-- VSTBY_CHANGE. -/
def Dev.vstbyChange (d : Dev) (on : Bool) : Dev :=
  let d := ({ d with pwr := { d.pwr with vstby := on } }).putB PWR_STAT_VSTBY_OK onMod on
  d.when (!on && !d.pwr.vin) (·.oasisLost)

/-! ## Domain commands (R417 to R422) -/

def Dev.domStatus (d : Dev) (q st : Nat) : Dev := d.put PWR_DOMCTL_STATUS (onDie q) st

/-- A port of the region is neither OUT_OF_SERVICE nor DISABLED. -/
def Dev.regionServing (d : Dev) (m : Nat) : Bool :=
  (d.portsOfRegion m).any (fun p => d.lstate p ≠ OUT_OF_SERVICE && d.lstate p ≠ DISABLED)

def Dev.regionsOf (q : Nat) : List Nat := (List.range 4).map (q * 4 + ·)
def Dev.hostOn (d : Dev) (q : Nat) : Bool := !d.sys.formS && d.bit HST_CTRL_EN (onDie q)
def Dev.domRunning (d : Dev) (q : Nat) : Bool := d.bit PWR_DOMCTL_BUSY (onDie q)

/-- Why STOP of a scope is refused; none when it is accepted (R418, R419). -/
def Dev.stopFails (d : Dev) (q scope : Nat) : Option Nat :=
  if scope < 4 then
    let m := q * 4 + scope
    if d.domRunning q || d.regionState m ≠ domRUN then some ST_BAD_STATE
    else if d.regionServing m then some ST_BUSY_IN_SERVICE
    else if (d.setRegionState m domSTOP).bankCells q < (d.setRegionState m domSTOP).commitment q then some ST_BAD_PARAM
    else if d.hostOn q && (Dev.regionsOf q).all (fun n => n = m || d.regionState n ≠ domRUN) then some ST_BAD_STATE
    else none
  else if scope > 4 || q = 0 then some ST_BAD_PARAM
  else if d.domRunning q || d.dieState q ≠ domRUN || d.hostOn q then some ST_BAD_STATE
  else if (Dev.regionsOf q).any d.regionServing then some ST_BUSY_IN_SERVICE
  else none

/-- Regions that start to enter Stop: their ports are not routable (R133), tests of their banks end (R448). DEDUCED (log 114). -/
def Dev.enterRegions (d : Dev) (q : Nat) (l : List Nat) : Dev :=
  d.each (l.filter (fun m => d.regionState m = domRUN)) (fun m d =>
    ((d.each (d.portsOfRegion m) (fun p d => d.portUnroutable p)).setRegionState m domENTERING).kilnAbort q (fun t x => ((t = 1 || t = 2) && x / 32 = m) || (t = 4 && x = m % 4)))

/-- A command on a domain is accepted: SCOPE keeps the domain it names (R473). -/
def Dev.domNamed (d : Dev) (q scope : Nat) : Dev := d.put PWR_DOMCTL_SCOPE (onDie q) scope

/-- PWR_DOMCTL.OP = STOP. -/
def Dev.domStop (d : Dev) (q scope : Nat) : Dev :=
  match d.stopFails q scope with
  | some st => d.domStatus q st
  | none =>
    let d := (({ d with pwr := { d.pwr with cmd := Tab.put d.pwr.cmd q (1, scope) } }.domNamed q scope).domStatus q ST_OK).put PWR_DOMCTL_BUSY (onDie q) 1
    d.enterRegions q (if scope < 4 then [q * 4 + scope] else Dev.regionsOf q)

/-- A domain of a scope enters Stop. -/
def Dev.scopeEntering (d : Dev) (q scope : Nat) : Bool :=
  if scope < 4 then d.regionState (q * 4 + scope) = domENTERING
  else d.dieState q = domENTERING || (Tab.find d.pwr.cmd q = some (1, 4))

/-- PWR_DOMCTL.OP = WAKE. DEDUCED (log 101). -/
def Dev.domWake (d : Dev) (q scope : Nat) : Dev :=
  if scope > 4 then d.domStatus q ST_BAD_PARAM
  else if d.scopeEntering q scope then (d.domNamed q scope).abortEntry q
  else if d.domRunning q then d.domStatus q ST_BAD_STATE
  else ((if scope < 4 then d.wakeRegion (q * 4 + scope) else d.wakeDie q).domNamed q scope).domStatus q ST_OK

/-- A write of PWR_DOMCTL. -/
def Dev.domctl (d : Dev) (q : Nat) (v : Word) : Dev :=
  let scope := PWR_DOMCTL_SCOPE.of v
  match PWR_DOMCTL_OP.of v with
  | 0 => if scope ≤ 4 then d.domNamed q scope else d.domStatus q ST_BAD_PARAM
  | 1 => d.domStop q scope
  | 2 => d.domWake q scope
  | _ => d.domStatus q ST_BAD_PARAM

/-- An entering region whose counters are all 0 stops. -/
def Dev.regionEnters (d : Dev) (m : Nat) : Dev :=
  if d.regionState m = domENTERING && !d.regionBusy m then (d.stopRegion m).inc .PWR_STOPOK onMod else d

/-- STOP_ENTRY_COMPLETE: the domains that enter and whose quiesce counters are 0 are in Stop; the core enters once every region of
its die is in Stop. -/
def Dev.stopComplete (d : Dev) (q : Nat) : Dev :=
  match Tab.find d.pwr.cmd q with
  | some (1, scope) =>
    let d := d.each (Dev.regionsOf q) (fun m d => d.regionEnters m)
    let down := (Dev.regionsOf q).all (fun m => d.regionState m = domSTOP)
    if scope < 4 then (if d.regionState (q * 4 + scope) = domSTOP then d.domDone q ST_OK else d)
    else if !down then d
    else if d.dieBusy q then (d.setDieState q domENTERING).kilnAbort q (fun _ _ => true)
    else ((d.stopCore q).inc .PWR_STOPOK onMod).domDone q ST_OK
  | _ => d

/-- STOP_ENTRY_TIMEOUT. -/
def Dev.stopTimeout (d : Dev) (q : Nat) : Dev :=
  match Tab.find d.pwr.cmd q with
  | some (1, _) => d.abortEntry q
  | _ => d

/-- WAKE_COMPLETE of a scope. DESIGN CHOICE (log 52). -/
def Dev.wakeComplete (d : Dev) (q scope : Nat) : Dev :=
  if scope < 4 then d.wakesEnd [q * 4 + scope] [] else d.wakesEnd [] [q]

/-! ## The reference (R427, R428, R494) -/

/-- REFERENCE_LOSS. -/
def Dev.refLoss (d : Dev) : Dev :=
  if d.pwr.ref then
    ({ d with pwr := { d.pwr with ref := false } }.inc .CLK_REFLOSS onMod).raise srcCLK 1 locModule 0
  else d

/-- The live record of the reference. -/
def Dev.clkRec (d : Dev) : Option Nat := (d.flt.recs.find? (fun e => e.2.live && e.2.source = srcCLK)).map (·.1)

/-- REFERENCE_RETURN: within holdover: the PLLs relock, the fault window closes. -/
def Dev.refReturn (d : Dev) : Dev :=
  if d.pwr.ref || d.pwr.off ≠ 0 then d
  else
    let d := { d with pwr := { d.pwr with ref := true } }
    match d.clkRec with
    | some slot => (match d.frec slot with | some r => if r.state = 1 then d.closeRec slot 2 else d | none => d)
    | none => d

/-- HOLDOVER_TIMEOUT: the window of the CLK record expires without the reference. -/
def Dev.holdoverTimeout (d : Dev) : Dev :=
  match d.clkRec with
  | some slot => if d.pwr.ref then d else d.windowExpires slot false
  | none => d

/-- REFCLK_ARRIVAL: a module that waits for its first reference leaves reset. -/
def Dev.refclkArrives (d : Dev) : Dev :=
  let d := { d with pwr := { d.pwr with ref := true } }
  if d.pwr.off = 4 then { d with pwr := { d.pwr with off := 0 } } else d

end Sys2Proof.Machine
end

