-- ==== Sys2Proof/Machine/KilnCmds.lean ====
section
/-! DEFINITION. Kiln (R447 to R449): a test starts, ends with its result, start-up calibration ends on a die. -/

namespace Sys2Proof.Machine

/-- A port is OUT_OF_SERVICE or DISABLED. -/
def Dev.portOut (d : Dev) (p : Nat) : Bool := d.lstate p = OUT_OF_SERVICE || d.lstate p = DISABLED

/-- Table 17-7 defines the test and its target. -/
def Dev.kilnDefined (d : Dev) (q t x : Nat) : Bool :=
  match t with
  | 1 => x / 128 = q && d.pexists x
  | 2 => x / 128 = q && d.pexists x
  | 3 => x < 2
  | 4 => x < 4
  | 5 => x < 2
  | 6 => x < 2
  | 7 => true
  | 8 => true
  | 9 => true
  | _ => false

/-- The target meets the condition of Table 17-7. DEDUCED (log 67). -/
def Dev.kilnMay (d : Dev) (q t x : Nat) : Bool :=
  match t with
  | 1 => d.portOut x
  | 2 => d.portOut x
  | 3 => d.bit BRG_STAT_DOWN ⟨q, x⟩
  | 4 => !d.regionServing (q * 4 + x) && !d.regionBusy (q * 4 + x)
  | 5 =>
    !d.dieBusy q && (List.range 1024).all (fun j => d.rd .MCG_GVALID ⟨q, j⟩ = 0) && d.backing q = [] && d.keySlots q = []
  | 6 =>
    if x = 0 then d.get RTE_EPOCH_VALID (onDie q) = 0
    else (List.range 4096).all (fun s => !d.bit XLT_SPACE_EN ⟨q, s⟩) && !d.xlt.traps.any (fun e => e.1 / 256 = q)
  | 7 => !d.meshNormal q
  | _ => true

/-- Why GO is refused; none when the test starts (R447). -/
def Dev.kilnFails (d : Dev) (q t x : Nat) : Option Nat :=
  if !d.bit KLN_CTRL_EN (onDie q) then some ST_UNSUPPORTED
  else if (d.kilnRun q).isSome || d.kln.booting.contains q then some ST_BAD_STATE
  else if !d.kilnDefined q t x then some ST_BAD_PARAM
  else if !d.kilnMay q t x then some ST_BUSY_IN_SERVICE
  else none

/-- KLN_CMD: the fields are written; GO starts the test, or is refused and changes no field (R473). DEDUCED (log 24). -/
def Dev.kilnGo (d : Dev) (q : Nat) (v : Word) : Dev :=
  let a := onDie q
  if KLN_CMD_GO.of v = 0 then d.wrFields .KLN_CMD a v
  else
    let t := KLN_CMD_TEST.of v
    let x := KLN_CMD_TARGET.of v
    match d.kilnFails q t x with
    | some st => (d.put KLN_RESULT_STATUS a st).inc .KLN_REFUSED a
    | none =>
      let d := d.wrFields .KLN_CMD a v
      let d := { d with kln := { d.kln with run := Tab.put d.kln.run q (t, x, max 1 (KLN_CMD_PARAM.of v)) } }
      (((d.put KLN_RESULT_STATUS a ST_OK).put KLN_RESULT_STATE a 1).put KLN_RESULT_FAILS a 0).put KLN_RESULT_FIRST a 0

/-- The location of a test's target. -/
def kilnLoc (q t x : Nat) : Loc :=
  match t with
  | 1 => locPort x
  | 2 => locPort x
  | 3 => locBridge q x
  | 4 => locRegion (q * 4 + x)
  | 5 => locUnit q 6 x
  | _ => locDie q

/-- The failed lanes of a bridge end as BRG_SPARE shows them. -/
def spareShown (n : Nat) : Nat := if n ≤ 16 then n else 31
def Dev.setSpare (d : Dev) (q e tx rx : Nat) : Dev :=
  (d.put BRG_SPARE_TXFAILED ⟨q, e⟩ (spareShown tx)).put BRG_SPARE_RXFAILED ⟨q, e⟩ (spareShown rx)

/-- LANE_CAL of a port: adaptation restarts cold; a pass releases a port that start-up calibration held. -/
def Dev.laneCal (d : Dev) (p fails : Nat) : Dev :=
  let d := d.each (d.plances p) (fun l d => d.modLane l (fun x => { x with retained := false }))
  if fails = 0 && d.kln.calFail.contains p then
    let d := { d with kln := { d.kln with calFail := d.kln.calFail.filter (· ≠ p) } }
    d.when (d.lstate p = DISABLED && d.bit LNK_CTRL_EN (onLane p)) (·.enterTraining p)
  else d

/-- The effect of a completed test on its target (Table 17-7). -/
def Dev.kilnEffect (d : Dev) (q t x fails tx rx : Nat) : Dev :=
  match t with
  | 2 => d.laneCal x fails
  | 3 => d.setSpare q x tx rx
  | 5 => d.sramZero q x (fun _ => true)
  | 6 => d.tablesZero q x (fun _ => true)
  | _ => d

/-- KILN_TEST_DONE: the test of a die ends with its failures and the result of FIRST; for BRIDGE_CAL the failed lanes of both
directions. -/
def Dev.kilnDone (d : Dev) (q fails first tx rx : Nat) : Dev :=
  match d.kilnRun q with
  | none => d
  | some (t, x, _) =>
    let a := onDie q
    let n := min 65535 fails
    let d := ({ d with kln := { d.kln with run := Tab.del d.kln.run q } }).kilnEffect q t x fails tx rx
    let d := (((d.put KLN_RESULT_STATE a 2).put KLN_RESULT_FAILS a n).put KLN_RESULT_FIRST a first).inc .KLN_RUNS a
    if n = 0 then d else (d.inc .KLN_FAILS a).raise srcKILN 2 (kilnLoc q t x) first

/-- R448: a test whose target meets its condition no more, since a command has returned it to service, ends.
DESIGN CHOICE (log 122). -/
def Dev.kilnWatch (d : Dev) : Dev :=
  d.each d.kln.run (fun e d => if d.kilnMay e.1 e.2.1 e.2.2.1 then d else d.kilnAbort e.1 (fun _ _ => true))

/-! ## Start-up calibration (R449) -/

/-- The outcome of a bridge: its spare map; more than 16 failed lanes take it down (R17). -/
def Dev.calBridge (d : Dev) (q e n : Nat) : Dev :=
  let d := (d.setSpare q e n n).put (if e = 0 then KLN_BOOT_BRGH else KLN_BOOT_BRGV) (onDie q) (min 31 n)
  if 16 < n then d.takeBridgeDown q e else d.bridgeSync q e

/-- CALIBRATION_DONE on a die: the ports whose lanes fail, the failed lanes of each bridge, the regions and channels that fail where
BOOT_BANK and BOOT_SRAM have them tested, the tables that fail, whether another test fails. Its host port then serves configuration requests. The row's last die moves PHASE on. -/
def Dev.calibrated (d : Dev) (q : Nat) (ports : List Nat) (lanes brgh brgv : Nat) (banks chans : List Nat) (tables other : Bool) : Dev :=
  if !d.kln.booting.contains q then d
  else
    let d := { d with kln := { d.kln with booting := d.kln.booting.filter (· ≠ q) } }
    let held := ports.filter (fun p => p / 128 = q && d.pexists p)
    let d := d.each held (fun p d =>
      ({ d with kln := { d.kln with calFail := p :: d.kln.calFail.filter (· ≠ p) } }).raise srcKILN 1 (locPort p) 0)
    let d := ((d.put KLN_BOOT_LANESFAILED (onDie q) (min 255 lanes)).calBridge q 0 brgh).calBridge q 1 brgv
    let banks := banks.filter (fun r => r < 4 && d.bit KLN_CTRL_BOOT_BANK (onDie q))
    let chans := chans.filter (fun c => c < 2 && d.bit KLN_CTRL_BOOT_SRAM (onDie q))
    let d := d.each banks (fun r d => d.raise srcMEMORY 1 (locRegion (q * 4 + r)) 0)
    let d := d.each chans (fun c d => d.raise srcMEMORY 2 (locUnit q 6 c) 0)
    let d := (d.when tables (·.raise srcMEMORY 3 (locDie q) 0)).when other (·.raise srcKILN 1 (locDie q) 0)
    let d := d.each [0, 1] (fun c d => d.putB QDC_STAT_READY ⟨q, c⟩ true)
    d.putB KLN_BOOT_PASSED (onDie q)
      (held = [] && lanes = 0 && brgh ≤ 16 && brgv ≤ 16 && banks = [] && chans = [] && !tables && !other)

end Sys2Proof.Machine
end

