-- ==== Sys2Proof/Machine/Flash.lean ====
section
/-! DEFINITION. The flash, its directory, the boot candidates, trial and commit, Bisque mode (R375 to R388). -/

namespace Sys2Proof.Machine

/-! ## Flash bytes -/

/-- DESIGN CHOICE (log 18). -/
def Dev.flashByte (d : Dev) (a : Nat) : Byte := BitVec.ofNat 8 (Tab.get d.boot.flash 255 a)
/-- n bytes from an address. -/
def Dev.flashBytes (d : Dev) (a n : Nat) : List Byte := (List.range n).map (fun i => d.flashByte (a + i))
/-- n bytes as a number. -/
def Dev.flashNat (d : Dev) (a n : Nat) : Nat := ofBytes (d.flashBytes a n)
/-- Erase a range. -/
def Dev.flashErase (d : Dev) (a n : Nat) : Dev :=
  { d with boot := { d.boot with flash := d.boot.flash.filter (fun (e : Nat × Nat) => !(decide (a ≤ e.1) && decide (e.1 < a + n))) } }
/-- Program bytes: a program only clears bits. PRESUMED (log 19). -/
def Dev.flashProgram (d : Dev) (a : Nat) (l : List Byte) : Dev :=
  { d with boot := { d.boot with flash := (l.zipIdx).foldl (fun t (x : Byte × Nat) =>
      Tab.set t 255 (a + x.2) ((Tab.get t 255 (a + x.2)) &&& x.1.toNat)) d.boot.flash } }

/-! ## The directory (R377, Table 15-3) -/

/-- The bytes 0 to 251 of a copy. -/
def DirRec.body (r : DirRec) : List Byte :=
  toBytes 4 0x5249444F ++ toBytes 4 r.seq ++ toBytes 1 r.active ++ toBytes 1 r.previous ++ toBytes 1 r.trialSlot ++
    toBytes 1 r.trialState ++ toBytes 1 r.reject ++ toBytes 3 0 ++ toBytes 4 r.fabric ++ toBytes 4 r.node ++ toBytes 228 0
/-- The 256 bytes of a copy. -/
def DirRec.bytes (r : DirRec) : List Byte := r.body ++ toBytes 4 (crc32c r.body)

/-- The copy n of the flash, if it is valid. -/
def Dev.dirCopy (d : Dev) (n : Nat) : Option DirRec :=
  let a := n * 0x10000
  let f (o k : Nat) : Nat := d.flashNat (a + o) k
  if f 0 4 = 0x5249444F && f 252 4 = crc32c (d.flashBytes a 252) then
    some ⟨f 4 4, f 8 1, f 9 1, f 10 1, f 11 1, f 12 1, f 16 4, f 20 4⟩
  else none

/-- Neither copy is valid. -/
def Dev.dirNone (d : Dev) : Bool := (d.dirCopy 0).isNone && (d.dirCopy 1).isNone

/-- The valid copy with the greater SEQ is in force; with none, FACTORY without a trial. -/
def Dev.dirRead (d : Dev) : Dev :=
  let use (r : DirRec) (n : Nat) : Dev := { d with boot := { d.boot with dir := r, copy := n } }
  match d.dirCopy 0, d.dirCopy 1 with
  | some a, some b => if a.seq < b.seq then use b 1 else use a 0
  | some a, none => use a 0
  | none, some b => use b 1
  | none, none => use DirRec.blank 1

/-- The directory in force changes; an update writes it to the flash, and a module reset follows if asked. DEDUCED (log 77). -/
def Dev.dirChange (d : Dev) (rst : Bool) (g : DirRec → DirRec) : Dev :=
  { d with boot := { d.boot with dir := g d.boot.dir, update := some (rst || d.boot.update = some true) } }

/-- Erase the first sector of a copy and program its 256 bytes. DEDUCED (log 77). -/
def Dev.dirWrite (d : Dev) (n : Nat) : Dev := (d.flashErase (n * 0x10000) 4096).flashProgram (n * 0x10000) d.boot.dir.bytes

/-- The update is written: the other copy with SEQ + 1, or both copies when neither is valid. DEDUCED (log 77). -/
def Dev.dirStore (d : Dev) : Dev :=
  let both := d.dirNone
  let n := 1 - d.boot.copy
  let d := { d with boot := { d.boot with dir := { d.boot.dir with seq := (d.boot.dir.seq + 1) % 2 ^ 32 }, copy := n, update := none } }
  (d.dirWrite n).when both (·.dirWrite (1 - n))

/-- DIRECTORY_UPDATE_DONE: the slot command that asked for it finishes; a module reset that it asked for follows.
DEDUCED (log 77). -/
def Dev.dirDone (d : Dev) : Dev :=
  match d.boot.update with
  | none => d
  | some rst => (d.dirStore.put CFG_SLOTCMD_BUSY onMod 0).when rst (·.reset locModule 3 none)

/-- The REJECT bit of a slot. -/
def DirRec.rejected (r : DirRec) (s : Nat) : Bool := s ≠ 0 && r.reject.testBit s
def DirRec.setReject (r : DirRec) (s : Nat) (b : Bool) : DirRec :=
  { r with reject := if b then r.reject ||| 2 ^ s else r.reject &&& (255 - 2 ^ s) }
/-- The trial ends with its slot rejected. -/
def DirRec.rejectTrial (r : DirRec) : DirRec := { r.setReject r.trialSlot true with trialSlot := 0, trialState := 0 }

/-! ## Bisque mode (R388) -/

/-- The module enters Bisque mode for a reason. For 1, 2 and 4 every fabric port makes its discovery attempt; for 3 the links stay
up, no channel is offered (Links.lean) and only HELLO is sent. DEDUCED (log 35). -/
def Dev.bisque (d : Dev) (reason : Nat) : Dev :=
  let d := (d.put CFG_BOOTSTATUS_PHASE onMod 6).put CFG_BOOTSTATUS_BISQUE onMod reason
  let d := { d with boot := { d.boot with step := if reason = 3 then d.boot.step else 8, tried := [] } }
  let d := d.each (List.range 4) (fun q d => d.put HST_STAT_LINK_UP (onDie q) 0)
  if reason = 3 then d else d.portsReturn locModule

/-! ## Images (R378, Tables 15-4 and 15-5) -/

/-- The flash address of a slot. -/
def slotBase (s : Nat) : Nat := 0x100000 + s * 0x2000000
/-- The address of a slot's image of a kind: 1 SAGGAR, 2 ZORURI. -/
def imageBase (s kind : Nat) : Nat := if kind = 1 then slotBase s else slotBase s + 0x400000
/-- The most bytes an image of a kind holds. -/
def imageMax (kind : Nat) : Nat := if kind = 1 then 0x400000 else 0x1C00000

def Dev.fwLen (d : Dev) (s kind : Nat) : Nat := d.flashNat (imageBase s kind + 8) 4
def Dev.cfgLen (d : Dev) (s kind : Nat) : Nat := d.flashNat (imageBase s kind + 12) 4
/-- A field of the firmware part header. -/
def Dev.fwField (d : Dev) (s kind o n : Nat) : Nat := d.flashNat (imageBase s kind + 64 + o) n
def Dev.fwVersion (d : Dev) (s kind : Nat) : Nat := d.fwField s kind 4 4

/-- MAGIC, FORMAT, KIND and the lengths of an image are right. -/
def Dev.imageFormed (d : Dev) (s kind : Nat) : Bool :=
  let a := imageBase s kind
  let fw := d.fwLen s kind
  let cfg := d.cfgLen s kind
  d.flashNat a 4 = 0x41444D4C && d.flashNat (a + 4) 1 = kind && d.flashNat (a + 5) 1 = 1 && d.fwField s kind 0 1 = kind &&
    224 ≤ fw && (if kind = 1 then cfg = 0 else 80 ≤ cfg) && 64 + fw + cfg ≤ imageMax kind

/-- The life-cycle state allows the signer of an image (I1 and I2 of Table 14-4). -/
def Dev.signerAllowed (d : Dev) (s kind : Nat) : Bool :=
  let x := d.fwField s kind 1 1
  x = 0 || (x = 1 && (d.lifeCycle = 1 || d.lifeCycle = 3))

/-- The image supports this stepping and form. -/
def Dev.supports (d : Dev) (s kind : Nat) : Bool :=
  d.sys.stepping < 16 && (d.fwField s kind 8 2).testBit d.sys.stepping && (d.fwField s kind 10 1).testBit d.sys.formS.toNat

/-- The version of the image of `kind` lies in the range that the other image of the slot gives. -/
def Dev.partnered (d : Dev) (s kind : Nat) : Bool :=
  let v := d.fwVersion s kind
  decide (d.fwField s (3 - kind) 12 4 ≤ v) && decide (v ≤ d.fwField s (3 - kind) 16 4)

/-- The checks that the headers allow, in the order of Table 15-7. DEDUCED (log 78). -/
def Dev.headerFails (d : Dev) (s : Nat) : Option Nat :=
  if d.boot.unread.contains s then some 3
  else if !d.imageFormed s 1 || !d.imageFormed s 2 then some 2
  else if !d.signerAllowed s 1 || !d.signerAllowed s 2 then some 4
  else if !d.supports s 1 || !d.supports s 2 then some 5
  else if !d.partnered s 1 || !d.partnered s 2 then some 6
  else if d.boot.dir.rejected s then some 9
  else none

/-- The signature of a firmware part passes under the key of its signer. -/
def Dev.imageSigned (d : Dev) (s kind : Nat) : Bool :=
  let n := d.fwLen s kind
  let part := d.flashBytes (imageBase s kind + 64) n
  let key := Config.odturKey (d.fwField s kind 1 1)
  Config.sha384 key = Config.odturHash (d.fwField s kind 1 1) &&
    Config.p384Verify key (Config.sha384 (part.take (n - 96))) ((part.drop (n - 96)).take 48) (part.drop (n - 48))

/-! ## Choosing what to boot (R381, R382) -/

/-- The FAIL field of a slot. -/
def failField (s : Nat) : Fld :=
  match s with
  | 1 => CFG_BOOTSTATUS_FAIL_A
  | 2 => CFG_BOOTSTATUS_FAIL_B
  | _ => CFG_BOOTSTATUS_FAIL_FACTORY

/-- A candidate has failed with a result: it is recorded in Oasis. DEDUCED (log 78). -/
def Dev.slotFails (d : Dev) (s result : Nat) : Dev :=
  ({ d with boot := { d.boot with tried := d.boot.tried.filter (fun (e : Nat × Nat) => e.1 ≠ s) ++ [(s, result)] } }).put (failField s) onMod result
/-- A trial whose slot fails is rejected (Table 15-10). DEDUCED (log 78). -/
def Dev.trialFails (d : Dev) (s : Nat) : Dev :=
  if d.boot.dir.trialState ≠ 0 && d.boot.dir.trialSlot = s then
    ({ d with boot := { d.boot with trial := false } }).dirChange false DirRec.rejectTrial
  else d

def Dev.triedSlot (d : Dev) (s : Nat) : Bool := d.boot.tried.any (fun e => e.1 = s)

/-- The candidates in the order of R382 that have not failed. -/
def Dev.candidates (d : Dev) : List Nat :=
  let r := d.boot.dir
  let first := if r.trialState = 1 then r.trialSlot else r.active
  ([first] ++ (if r.previous = 255 || r.rejected r.previous then [] else [r.previous]) ++ [0]).filter (fun s => !d.triedSlot s)

/-- Choose: the headers of each candidate in turn. A failed trial leaves the directory as Table 15-10 says, and the order starts
again from ACTIVE. A trial is RUNNING before the images load. DEDUCED (log 78). -/
def Dev.choose (d : Dev) : Nat → Dev
  | 0 => d.bisque 1
  | fuel + 1 =>
    match d.candidates with
    | [] => d.bisque 1
    | s :: _ =>
      match d.headerFails s with
      | some result => ((d.slotFails s result).trialFails s).choose fuel
      | none =>
        let trial := d.boot.dir.trialState = 1 && d.boot.dir.trialSlot = s
        let d := { d with boot := { d.boot with step := 3, slot := s, trial := trial } }
        d.when trial (·.dirChange false (fun r => { r with trialState := 2 }))

/-- A chosen candidate has failed before module firmware started: the next one is chosen. -/
def Dev.nextCandidate (d : Dev) (result : Nat) : Dev := ((d.slotFails d.boot.slot result).trialFails d.boot.slot).choose 4

/-! ## The first steps of the boot sequence (R384, Table 15-8) -/

/-- FLASH_INIT: whether the flash answers, has its table and offers the read of R375. BLANK and SCRAPPED boot no image (R382). -/
def Dev.flashInit (d : Dev) (ok : Bool) : Dev :=
  if d.boot.step ≠ 1 then d
  else if d.lifeCycle = 0 then { d with boot := { d.boot with step := 8 } }
  else if d.lifeCycle = 4 then d.bisque 2
  else if !ok then d.bisque 4
  else { d with boot := { d.boot with step := 2 } }

/-- CANDIDATE_CHOSEN: the directory and the candidates' firmware headers are read, but for those in `unread`; a trial that was RUNNING
when the module reset is rejected. DEDUCED (log 78). -/
def Dev.candidateChosen (d : Dev) (unread : List Nat) : Dev :=
  if d.boot.step ≠ 2 then d
  else
    let d := { d with boot := { d.boot with unread := unread } }.dirRead
    let d := d.each d.boot.tried (fun e d => d.put (failField e.1) onMod e.2)
    let d := if d.boot.dir.trialState = 2 then d.dirChange false DirRec.rejectTrial else d
    d.choose 4

/-- SAGGAR_IMAGE_LOADED, once a directory update of the boot is complete: read and signature. DEDUCED (log 57). -/
def Dev.saggarLoaded (d : Dev) (ok : Bool) : Dev :=
  if d.boot.step ≠ 3 || d.boot.update.isSome then d
  else if !ok then d.nextCandidate 3
  else if !d.imageSigned d.boot.slot 1 then d.nextCandidate 7
  else
    let d := (d.put CFG_VERSION_SAGGAR onMod (d.fwVersion d.boot.slot 1)).put CFG_BOOTSTATUS_PHASE onMod 1
    { d with boot := { d.boot with step := 4 } }

/-! ## Trial, commit and revert (R386, R387) -/

def Dev.slotStatus (d : Dev) (st : Nat) : Dev := d.put CFG_SLOTCMD_STATUS onMod st
/-- An accepted slot command: BUSY until its directory update completes. -/
def Dev.slotAccept (d : Dev) (rst : Bool) (g : DirRec → DirRec) : Dev :=
  ((d.slotStatus ST_OK).put CFG_SLOTCMD_BUSY onMod 1).dirChange rst g

/-- TRIAL_A, TRIAL_B. -/
def Dev.slotTrial (d : Dev) (s : Nat) : Dev :=
  let r := d.boot.dir
  if r.trialState ≠ 0 || r.active = s then d.slotStatus ST_BAD_STATE
  else d.slotAccept true (fun r => { r with trialSlot := s, trialState := 1 })

/-- The trial is over: the watchdog stops. -/
def Dev.watchdogStops (d : Dev) : Dev := { d with boot := { d.boot with watchdog := none } }

/-- The directory after a commit. -/
def DirRec.commit (r : DirRec) : DirRec := { r with previous := r.active, active := r.trialSlot, trialSlot := 0, trialState := 0 }

/-- COMMIT: through the management port or a host port's window. -/
def Dev.slotCommit (d : Dev) (path : Path) : Dev :=
  let may := match path with | .mgmt => true | .host _ => true | _ => false
  if !may then d.slotStatus ST_NOT_PERMITTED
  else if d.boot.dir.trialState ≠ 2 then d.slotStatus ST_BAD_STATE
  else (d.slotAccept false DirRec.commit).watchdogStops

/-- REVERT. -/
def Dev.slotRevert (d : Dev) : Dev :=
  let r := d.boot.dir
  if r.trialState = 2 then (d.slotAccept true DirRec.rejectTrial).watchdogStops
  else if r.trialState = 0 && r.previous ≠ 255 && !r.rejected r.previous then
    d.slotAccept true (fun r => { r with active := r.previous, previous := r.active })
  else d.slotStatus ST_BAD_STATE

/-- REBOOT. -/
def Dev.slotReboot (d : Dev) : Dev := (d.slotStatus ST_OK).reset locModule 3 none

/-- An OP written while BUSY is 1 is ignored. -/
def Dev.slotFree (d : Dev) (g : Dev → Dev) : Dev := if d.bit CFG_SLOTCMD_BUSY onMod then d else g d

/-- A write of CFG_SLOTCMD. DEDUCED (log 78). -/
def Dev.slotCommand (d : Dev) (path : Path) (v : Word) : Dev :=
  d.slotFree (fun d =>
    match CFG_SLOTCMD_OP.of v with
    | 0 => d
    | 1 => d.slotTrial 1
    | 2 => d.slotTrial 2
    | 3 => d.slotCommit path
    | 4 => d.slotRevert
    | 5 => d.slotReboot
    | _ => d.slotStatus ST_BAD_PARAM)

/-- TRIAL_WATCHDOG: the watchdog expires before a commit. DEDUCED (log 77). -/
def Dev.watchdogExpires (d : Dev) : Dev :=
  if d.boot.dir.trialState = 2 && d.boot.watchdog.isSome then
    (({ d with boot := { d.boot with trial := false } }.watchdogStops).dirChange false DirRec.rejectTrial).dirStore.reset locModule 8 none
  else d

/-- Route banks are valid on all four dies. -/
def Dev.banksValid (d : Dev) : Bool := (List.range 4).all (fun q => d.get RTE_EPOCH_VALID (onDie q) ≠ 0)

/-- AUTOCOMMIT: every configuration record has applied, calibration has passed on every die, the node identifier is assigned, the
banks are valid. -/
def Dev.autocommit (d : Dev) : Dev :=
  if d.boot.dir.trialState = 2 && d.boot.trial && d.bit CFG_TRIAL_AUTOCOMMIT onMod && 5 ≤ d.boot.step &&
      (List.range 4).all (fun q => d.bit KLN_BOOT_PASSED (onDie q)) && d.bit CFG_ERGSTAT_VALID onMod && d.banksValid then
    (d.dirChange false DirRec.commit).watchdogStops
  else d

/-! ## CFG_FLASHCMD (R376) -/

/-- The slot that an address lies in. -/
def flashSlot (a : Nat) : Option Nat :=
  if decide (0x100000 ≤ a) && decide (a < 0x6100000) then some ((a - 0x100000) / 0x2000000) else none

/-- A program or erase at an address is refused. -/
def Dev.flashProtected (d : Dev) (a : Nat) : Bool :=
  let r := d.boot.dir
  !d.bit CFG_CTRL_FLASH_WE onMod || decide (a < 0x100000) ||
  (match flashSlot a with
    | some s => (s = 0 && d.lifeCycle ≠ 1) || s = r.active || (r.trialState ≠ 0 && s = r.trialSlot)
    | none => false)

def Dev.flashStatus (d : Dev) (st : Nat) : Dev := d.put CFG_FLASHCMD_STATUS onMod st

/-- READ 256 bytes into the buffer. DEDUCED (log 79). -/
def Dev.flashRead (d : Dev) (a : Nat) : Dev :=
  if a % 256 ≠ 0 then d.flashStatus ST_BAD_PARAM
  else (d.each (List.range 32) (fun w d => d.wr .CFG_FLASHBUF ⟨0, w⟩ (BitVec.ofNat 64 (d.flashNat (a + 8 * w) 8)))).flashStatus ST_OK

/-- A program or erase starts; once accepted, the REJECT bit of its slot is cleared (Table 15-10). -/
def Dev.flashStart (d : Dev) (op a unit : Nat) (data : List Byte) : Dev :=
  if a % unit ≠ 0 then d.flashStatus ST_BAD_PARAM
  else if d.flashProtected a then d.flashStatus ST_NOT_PERMITTED
  else
    let d := ({ d with boot := { d.boot with flashCmd := some (op, a, data) } }.flashStatus ST_OK).put CFG_FLASHCMD_BUSY onMod 1
    match flashSlot a with
    | some s => if d.boot.dir.rejected s then d.dirChange false (fun r => r.setReject s false) else d
    | none => d

/-- PROGRAM 256 bytes from the buffer, as it stands now. DEDUCED (log 79). -/
def Dev.flashProgramCmd (d : Dev) (a : Nat) : Dev := d.flashStart 2 a 256 (d.bufBytes .CFG_FLASHBUF 0 32)
/-- ERASE 64 KiB. -/
def Dev.flashEraseCmd (d : Dev) (a : Nat) : Dev := d.flashStart 3 a 65536 []

/-- A write of CFG_FLASHCMD: ADDR, then OP unless a command runs. -/
def Dev.flashCommand (d : Dev) (v : Word) (g : Dev → Nat → Dev) : Dev :=
  if d.bit CFG_FLASHCMD_BUSY onMod then d.wrFields .CFG_FLASHCMD onMod v
  else g (d.wrFields .CFG_FLASHCMD onMod v) (CFG_FLASHCMD_ADDR.of v)

/-- The OP of a write of CFG_FLASHCMD. -/
def Dev.flashWrite (d : Dev) (v : Word) : Dev :=
  d.flashCommand v (fun d a =>
    match CFG_FLASHCMD_OP.of v with
    | 1 => d.flashRead a
    | 2 => d.flashProgramCmd a
    | 3 => d.flashEraseCmd a
    | _ => d)

/-- FLASH_CMD_DONE: the program or erase completes. DEDUCED (log 79). -/
def Dev.flashDone (d : Dev) : Dev :=
  match d.boot.flashCmd with
  | none => d
  | some (op, a, data) =>
    let d := if op = 2 then d.flashProgram a data else d.flashErase a 65536
    ({ d with boot := { d.boot with flashCmd := none } }).put CFG_FLASHCMD_BUSY onMod 0

end Sys2Proof.Machine
end

