-- ==== Sys2Proof/Machine/Erg.lean ====
section
/-! DEFINITION. Erg in module firmware (R390 to R396): what it holds from its neighbours and other origins, its roles, the
messages it originates and relays, identifiers, members lost. -/

namespace Sys2Proof.Machine

/-! ## Small things -/

/-- Module firmware runs Erg: from the end of start-up calibration on, unless the module is isolated or its Bisque program runs. -/
def Dev.ergRuns (d : Dev) : Bool :=
  (d.boot.step = 6 || d.boot.step = 7) && !d.isolated

/-- DEDUCED (log 80). -/
def Dev.mapErg (d : Dev) (g : ErgG → ErgG) : Dev := { d with erg := g d.erg }

/-- A sequence number of w bits is newer than the one held. DEDUCED (log 80). -/
def seqNewer (w new old : Nat) : Bool :=
  let x := (new + 2 ^ w - old % 2 ^ w) % 2 ^ w
  x ≠ 0 && x < 2 ^ (w - 1)

def Dev.upPorts (d : Dev) : List Nat := d.ports.filter (fun p => d.lstate p = UP)
def Dev.peer (d : Dev) (p : Nat) : Option ErgPeer := Tab.find d.erg.peers p

/-- The class of a link: both ends report it (R390); a neighbour in Bisque mode is of class NONE (R388). -/
def Dev.ergClass (d : Dev) (p : Nat) : Nat :=
  match d.peer p with
  | some x => if d.lstate p = UP && x.bisque = 0 && x.cls = d.pclass p then x.cls else 0
  | none => 0

def Dev.localPorts (d : Dev) : List Nat := d.ports.filter (fun p => d.ergClass p = 1)
def Dev.globalPorts (d : Dev) : List Nat := d.ports.filter (fun p => d.ergClass p = 2)

/-- A HELLO body sent on port p (Table 3-14) with an Erg type and payload. DEDUCED (log 84). -/
def Dev.helloBody (d : Dev) (p type : Nat) (payload : List Byte) : Body :=
  bodyOf (toBytes 4 d.sys.fabricId ++ toBytes 4 (d.nodeId % 131072 ||| d.nodeValid.toNat <<< 17 ||| (p % 512) <<< 18) ++
    toBytes 1 type ++ payload)

/-- Send an Erg message on ports. DESIGN CHOICE (log 81). -/
def Dev.ergSend (d : Dev) (ports : List Nat) (type : Nat) (payload : List Byte) : Dev :=
  d.each ports (fun p d => d.sendBypass p byHELLO (d.helloBody p type payload))

/-- The payload bytes of a received message. -/
def helloPayload (b : Body) : List Byte := (bodyBytes b).drop 9
/-- n bytes of a body from byte o. -/
def hb (b : Body) (o n : Nat) : Nat := fb b (8 * o) (8 * n)

/-! ## Leaders and members (R391) -/

def leaderOf (k : Nat) : Nat := k / 32

/-- The lowest of a list of numbers. -/
def least (l : List Nat) : Option Nat := l.foldl (fun b x => match b with | some y => some (min x y) | none => some x) none

/-- The leader that the module follows: the lowest identifier heard in an ASSIGN, or its own while it leads. -/
def Dev.followed (d : Dev) : Option Nat :=
  least (d.erg.assigns.map (fun (e : Nat × ErgAssign) => leaderOf e.1) ++ (if d.erg.leading then [d.sys.uid] else []))

/-- The settled group number of a module that leads; 65535 none yet. -/
def Dev.ownGroup (d : Dev) : Nat := match d.erg.claim with | some (g, true) => g | _ => 65535

/-- The group and the entries (identifier, member) of the leader that is followed. -/
def Dev.groupView (d : Dev) : Nat × List (Nat × Nat) :=
  match d.followed with
  | none => (65535, [])
  | some u =>
    if d.erg.leading && u = d.sys.uid then (d.ownGroup, d.erg.numbers.map (fun (e : Nat × Nat) => (e.2, e.1)))
    else
      let l := d.erg.assigns.filter (fun (e : Nat × ErgAssign) => leaderOf e.1 = u)
      (((l.map (fun (e : Nat × ErgAssign) => e.2.group)).getLast?).getD 65535, (l.map (fun (e : Nat × ErgAssign) => e.2.entries)).flatten)

/-- The members of this module's group: from the leader's numbering, or in MODE MAP from NODEMAP. DEDUCED (log 80). -/
def Dev.memberNumbers (d : Dev) : List Nat :=
  if d.sys.mapMode then
    (d.sys.nodeMap.filter (fun e => e.2 / 64 = d.nodeId / 64)).map (fun e => e.2 % 64)
  else d.groupView.2.map (·.2)

/-- This module leads its group: by ASSIGN, or in MODE MAP as the lowest identifier of the group in NODEMAP. DEDUCED (log 80). -/
def Dev.leads (d : Dev) : Bool :=
  if d.sys.mapMode then
    d.nodeValid && (d.sys.nodeMap.filter (fun e => e.2 / 64 = d.nodeId / 64)).all (fun e => d.sys.uid ≤ e.1)
  else d.erg.leading

/-- R395: the coordinator is the leader with the lowest identifier among the claims in force; in MODE MAP the lowest of NODEMAP. -/
def Dev.coordinates (d : Dev) : Bool :=
  if d.sys.mapMode then d.nodeValid && d.sys.nodeMap.all (fun e => d.sys.uid ≤ e.1)
  else d.erg.leading && d.erg.claim.isSome && d.erg.claims.all (fun e => d.sys.uid ≤ e.1)

/-- The number that a module keeps or takes in a group: its remembered one if it is free, else the lowest free one. -/
def takeNumber (used : Tab Nat) (rem : Option Nat) : Option Nat :=
  let free (m : Nat) : Bool := m < 64 && (Tab.find used m).isNone
  match rem with
  | some m => if free m then some m else (List.range 64).find? free
  | none => (List.range 64).find? free

/-- A leader numbers a module; `mem` is the node it remembers, if its fabric matches. -/
def Dev.numberModule (d : Dev) (uid : Nat) (mem : Option Nat) : Dev :=
  if d.erg.numbers.any (fun e => e.2 = uid) then d
  else
    let g := match d.erg.claim with | some (g, _) => some g | none => none
    let rem := match mem, g with | some n, some g => if n / 64 = g then some (n % 64) else none | _, _ => none
    match takeNumber d.erg.numbers rem with
    | some m => d.mapErg (fun e => { e with numbers := Tab.put e.numbers m uid })
    | none => d

/-- The node that this module remembers for the configured fabric. DEDUCED (log 80). -/
def Dev.remembered (d : Dev) : Option Nat :=
  if d.boot.dir.fabric = d.sys.fabricId && d.boot.dir.node.testBit 17 then some (d.boot.dir.node % 131072) else none

/-- A leader numbers itself and every module whose LINK it holds on a LOCAL port. -/
def Dev.numberAll (d : Dev) : Dev :=
  if !d.erg.leading then d
  else
    let d := d.numberModule d.sys.uid d.remembered
    d.each d.localPorts (fun p d =>
      match d.peer p with
      | some x => d.numberModule x.uid (if x.memValid then some x.memNode else none)
      | none => d)

/-! ## The node identifier (R392, R393) -/

/-- RTE_DMEMB holds the group's members, slot m for member m, on every die. -/
def Dev.fillMembers (d : Dev) : Dev :=
  let l := d.memberNumbers
  let g := d.nodeId / 64
  let d := d.put CFG_ERGSTAT_MEMBERS onMod (min 64 l.length)
  d.each (List.range 4) (fun q d => d.each (List.range 64) (fun m d =>
    if l.contains m then (d.put RTE_DMEMB_NODE ⟨q, m⟩ (64 * g + m)).put RTE_DMEMB_VALID ⟨q, m⟩ 1
    else d.wr .RTE_DMEMB ⟨q, m⟩ 0))

/-- The module's GLOBAL ports are numbered in port order. DEDUCED (log 80). -/
def Dev.numberGlobals (d : Dev) : Dev :=
  d.each ((d.ports.filter (fun p => d.pclass p = 2)).zipIdx) (fun (x : Nat × Nat) d => d.put RTE_PCLASS_GIDX (onLane x.1) x.2)

/-- R388: an identifier ends Bisque mode of reason 3: the ports start a new link life. -/
def Dev.bisqueEnds (d : Dev) : Dev :=
  if d.get CFG_BOOTSTATUS_BISQUE onMod ≠ 3 then d
  else
    let d := (d.put CFG_BOOTSTATUS_BISQUE onMod 0).put CFG_BOOTSTATUS_PHASE onMod 4
    d.each d.upPorts (fun p d => (d.advanceInc p).enterRetrain p causeCOMMAND true)

/-- The module takes a node identifier, or none is left for it. DEDUCED (log 80). -/
def Dev.takeNode (d : Dev) (n : Nat) : Dev :=
  if d.sys.sysModules ≤ n || 131072 ≤ n then d.bisque 3
  else
    let d := ((d.put CFG_ERGSTAT_NODE onMod n).put CFG_ERGSTAT_VALID onMod 1).bisqueEnds
    let d := if d.remembered = some n then d else d.dirChange false (fun r => { r with fabric := d.sys.fabricId, node := n + 131072 })
    d.fillMembers.numberGlobals

/-- A member takes the identifier that the leader it follows gives it. -/
def Dev.takeAssigned (d : Dev) : Dev :=
  let v := d.groupView
  match v.2.find? (fun e => e.1 = d.sys.uid) with
  | some (_, m) =>
    if v.1 = 65535 then d
    else if d.nodeValid && d.nodeId = 64 * v.1 + m then d.fillMembers
    else d.takeNode (64 * v.1 + m)
  | none => d

/-! ## What the module originates -/

/-- Entries of an ASSIGN, three to a fragment. -/
def chunks3 : List (Nat × Nat) → Nat → List (List (Nat × Nat))
  | _, 0 => []
  | l, n + 1 => if l.length ≤ 3 then [l] else l.take 3 :: chunks3 (l.drop 3) n

/-- The fragments of the ASSIGN of this leader. -/
def Dev.assignParts (d : Dev) (seq : Nat) : List (List Byte) :=
  (chunks3 (d.erg.numbers.map (fun (e : Nat × Nat) => (e.2, e.1))) 22).zipIdx.map (fun x =>
    toBytes 8 d.sys.uid ++ toBytes 2 d.ownGroup ++ toBytes 1 seq ++ toBytes 1 x.2 ++ toBytes 1 x.1.length ++
      (x.1.map (fun e => toBytes 8 e.1 ++ toBytes 1 e.2)).flatten)

def Dev.sendAssign (d : Dev) : Dev := d.each (d.assignParts d.erg.assignSent.1) (fun x d => d.ergSend d.localPorts 2 x)

/-- The CLAIM of this leader. -/
def Dev.sendClaim (d : Dev) : Dev :=
  match d.erg.claim with
  | some (g, _) =>
    d.ergSend d.upPorts 3 (toBytes 2 g ++ toBytes 8 d.sys.uid ++ toBytes 4 d.erg.claimSent.1 ++ toBytes 1 d.erg.numbers.length)
  | none => d

/-- LOCALUP: bit m while the LOCAL link to member m is UP. -/
def Dev.localUp (d : Dev) : Nat :=
  (d.localPorts.filterMap d.peer).foldl (fun s x =>
    if x.nodeValid && x.node / 64 = d.nodeId / 64 then s ||| 2 ^ (x.node % 64) else s) 0

/-- The peer group of each UP GLOBAL port, in port order. -/
def Dev.globalGroups (d : Dev) : List Nat :=
  (d.globalPorts.filterMap d.peer).filterMap (fun x => if x.nodeValid then some (x.node / 64) else none)

/-- Groups of an LSA, fifteen to a fragment; a module without a GLOBAL port sends one fragment that names none. -/
def chunks15 : List Nat → Nat → List (List Nat)
  | _, 0 => []
  | l, n + 1 => if l.length ≤ 15 then [l] else l.take 15 :: chunks15 (l.drop 15) n

/-- DEDUCED (log 80). -/
def Dev.lsaParts (d : Dev) : List (List Byte) :=
  let x := d.erg.lsaSent
  (chunks15 x.2.2 256).zipIdx.map (fun c =>
    toBytes 4 d.nodeId ++ toBytes 2 x.1 ++ toBytes 1 c.2 ++ toBytes 1 c.1.length ++ toBytes 8 x.2.1 ++
      (c.1.map (toBytes 2)).flatten)
def Dev.sendLsa (d : Dev) : Dev := d.each d.lsaParts (fun x d => d.ergSend d.localPorts 4 x)

/-- The groups that a member of this group reaches, in rising order. -/
def Dev.gsumGroups (d : Dev) : List Nat :=
  let l := (d.erg.lsas.filter (fun (e : Nat × ErgLsa) => e.1 / 256 / 64 = d.nodeId / 64)).map (fun (e : Nat × ErgLsa) => e.2.groups)
  (List.range 2048).filter (fun g => (d.globalGroups :: l).any (fun x => x.contains g))

/-- The bitmap slice of a GSUM fragment. -/
def gsumSlice (l : List Nat) (frag : Nat) : Nat :=
  ((l.filter (fun g => g / 336 = frag)).map (fun g => 2 ^ (g % 336))).sum
def Dev.sendGsum (d : Dev) : Dev :=
  d.each (List.range 7) (fun f d =>
    d.ergSend d.upPorts 5 (toBytes 2 (d.nodeId / 64) ++ toBytes 2 d.erg.gsumSent.1 ++ toBytes 1 f ++ toBytes 42 (gsumSlice d.erg.gsumSent.2 f)))

/-- A bank is valid on every die. -/
def Dev.bankOnAll (d : Dev) (b : Nat) : Bool := (List.range 4).all (fun q => d.bankValid q b)
/-- The epoch that this module stamps. DEDUCED (log 82). -/
def Dev.stampNow (d : Dev) : Nat := d.get RTE_EPOCH_STAMP onMod

/-- The LINK of a port. -/
def Dev.linkPayload (d : Dev) (p : Nat) : List Byte :=
  toBytes 8 d.sys.uid ++ toBytes 4 (match d.remembered with | some n => n + 131072 | none => d.boot.dir.node % 131072) ++
    toBytes 1 (d.pclass p) ++ toBytes 1 (d.get CFG_BOOTSTATUS_BISQUE onMod) ++ toBytes 1 (d.get CFG_ERGSTAT_TDIST onMod) ++
    toBytes 4 d.erg.ver ++ toBytes 1 (d.stampNow ||| (d.bankOnAll d.stampNow).toNat <<< 1)

/-- LINK_SEND: LINK on every UP port. -/
def Dev.linkSend (d : Dev) : Dev :=
  if d.ergRuns then d.each d.upPorts (fun p d => d.ergSend [p] 1 (d.linkPayload p)) else d

/-- ERG_REFRESH: every message that the module originates, again under a new SEQ. DESIGN CHOICE (log 81). -/
def Dev.ergRefresh (d : Dev) : Dev :=
  if !d.ergRuns then d
  else
    let d := if d.erg.leading then
        (d.mapErg (fun e => { e with assignSent := ((e.assignSent.1 + 1) % 256, e.assignSent.2), claimSent := ((e.claimSent.1 + 1) % 2 ^ 32, e.claimSent.2) })).sendAssign.sendClaim
      else d
    let d := if d.nodeValid then (d.mapErg (fun e => { e with lsaSent := ((e.lsaSent.1 + 1) % 65536, e.lsaSent.2) })).sendLsa else d
    if d.leads && d.nodeValid then (d.mapErg (fun e => { e with gsumSent := ((e.gsumSent.1 + 1) % 65536, e.gsumSent.2) })).sendGsum else d

/-! ## Received messages -/

/-- A HELLO of an Erg type, taken in by the link layer (R85). -/
def Dev.ergIn (d : Dev) (p type : Nat) (c : Ctrl) (b : Body) (act : Dev → Dev) : Dev :=
  d.bypassIn p byHELLO c (fun d => if d.ergRuns && hb b 8 1 = type then act d else d)

/-- LINK. -/
def Dev.ergLink (d : Dev) (p : Nat) (c : Ctrl) (b : Body) : Dev :=
  d.ergIn p 1 c b (fun d =>
    let x : ErgPeer := ⟨fb b 32 17, fb b 49 1 = 1, hb b 9 8, fb b 136 17, fb b 153 1 = 1, hb b 21 1, hb b 22 1, hb b 23 1, hb b 24 4,
      fb b 224 1, fb b 225 1 = 1⟩
    (d.mapErg (fun e => { e with peers := Tab.put e.peers p x })).numberAll)

/-- The fragments of an origin that stand after a newer one: a fragment that is not full is the last, so that fragments with a
higher number are of an older message. DEDUCED (log 80). -/
def restFrags {α : Type} (t : Tab α) (w key count full : Nat) : Tab α :=
  if count < full then t.filter (fun e => !(e.1 / w = key / w && key < e.1)) else t

/-- ASSIGN: a newer one is taken in and relayed; a leader that hears of a lower one leads no more. -/
def Dev.ergAssign (d : Dev) (p : Nat) (c : Ctrl) (b : Body) : Dev :=
  d.ergIn p 2 c b (fun d =>
    let uid := hb b 9 8
    let key := uid * 32 + hb b 20 1 % 32
    let seq := hb b 19 1
    let new := match Tab.find d.erg.assigns key with | some x => seqNewer 8 seq x.seq | none => true
    if uid = d.sys.uid || d.sys.mapMode || !new then d
    else
      let l := (List.range (min 3 (hb b 21 1))).map (fun i => (hb b (22 + 9 * i) 8, hb b (30 + 9 * i) 1))
      let d := d.mapErg (fun e => { e with assigns := restFrags (Tab.put e.assigns key ⟨seq, hb b 17 2, l⟩) 32 key (hb b 21 1) 3 })
      let d := if d.erg.leading && uid < d.sys.uid then d.mapErg (fun e => { e with leading := false, claim := none, numbers := [] }) else d
      (d.ergSend d.localPorts 2 (helloPayload b)).takeAssigned)

/-- CLAIM: of two leaders that claim one number the lower keeps it; the other waits CLAIM_WAIT. -/
def Dev.ergClaim (d : Dev) (p : Nat) (c : Ctrl) (b : Body) : Dev :=
  d.ergIn p 3 c b (fun d =>
    let uid := hb b 11 8
    let seq := hb b 19 4
    let new := match Tab.find d.erg.claims uid with | some x => seqNewer 32 seq x.1 | none => true
    if uid = d.sys.uid || !new then d
    else
      let g := hb b 9 2
      let d := d.mapErg (fun e => { e with claims := Tab.put e.claims uid (seq, g, hb b 23 1) })
      let d := match d.erg.claim with
        | some (x, _) => if x = g && uid < d.sys.uid then d.mapErg (fun e => { e with claim := none }) else d
        | none => d
      d.ergSend d.upPorts 3 (helloPayload b))

/-- Take in a newer LSA or GSUM; routes are to be computed again when it says something new. -/
def Dev.ergLsa (d : Dev) (p : Nat) (c : Ctrl) (b : Body) : Dev :=
  d.ergIn p 4 c b (fun d =>
    let node := fb b 72 17
    let key := node * 256 + hb b 15 1
    let seq := hb b 13 2
    let old := Tab.find d.erg.lsas key
    let new := match old with | some x => seqNewer 16 seq x.seq | none => true
    if (d.nodeValid && node = d.nodeId) || !new then d
    else
      let x : ErgLsa := ⟨seq, hb b 17 8, (List.range (min 15 (hb b 16 1))).map (fun i => hb b (25 + 2 * i) 2)⟩
      let same := match old with | some y => y.localUp = x.localUp && y.groups = x.groups | none => false
      let d := d.mapErg (fun e => { e with lsas := restFrags (Tab.put e.lsas key x) 256 key (hb b 16 1) 15, changed := e.changed || !same })
      d.ergSend d.localPorts 4 (helloPayload b))

/-- GSUM. -/
def Dev.ergGsum (d : Dev) (p : Nat) (c : Ctrl) (b : Body) : Dev :=
  d.ergIn p 5 c b (fun d =>
    let key := hb b 9 2 * 8 + hb b 13 1 % 8
    let seq := hb b 11 2
    let old := Tab.find d.erg.gsums key
    let new := match old with | some x => seqNewer 16 seq x.1 | none => true
    if (d.leads && d.nodeValid && hb b 9 2 = d.nodeId / 64) || !new then d
    else
      let x := (seq, hb b 14 42)
      let same := match old with | some y => y.2 = x.2 | none => false
      let d := d.mapErg (fun e => { e with gsums := Tab.put e.gsums key x, changed := e.changed || !same })
      d.ergSend d.upPorts 5 (helloPayload b))

/-! ## Timers -/

/-- The number that a leader claims (R392). -/
def Dev.claimNumber (d : Dev) : Option Nat :=
  match d.remembered with
  | some n => some (n / 64)
  | none => (List.range 2048).find? (fun g => d.erg.claims.all (fun (e : Nat × Nat × Nat × Nat) => e.2.2.1 ≠ g))

/-- The leader claims a number, or has none left to claim. A remembered number that a lower leader holds is not claimed again. -/
def Dev.startClaim (d : Dev) : Dev :=
  let taken (g : Nat) : Bool := d.erg.claims.any (fun (e : Nat × Nat × Nat × Nat) => e.2.2.1 = g && decide (e.1 < d.sys.uid))
  let g := match d.claimNumber with
    | some g => if taken g then (List.range 2048).find? (fun g => d.erg.claims.all (fun (e : Nat × Nat × Nat × Nat) => e.2.2.1 ≠ g)) else some g
    | none => none
  match g with
  | some g => (d.mapErg (fun e => { e with claim := some (g, false) })).numberAll
  | none => d.bisque 3

/-- CLAIM_WAIT_EXPIRY. -/
def Dev.claimWait (d : Dev) : Dev :=
  if !d.ergRuns then d
  else if d.sys.mapMode then
    match d.sys.nodeMap.find? (fun e => e.1 = d.sys.uid) with
    | some (_, n) => if d.nodeValid then d else d.takeNode n
    | none => d.bisque 3
  else if d.erg.leading then
    match d.erg.claim with
    | none => d.startClaim
    | some (g, false) => ((d.mapErg (fun e => { e with claim := some (g, true) })).numberAll).takeAssigned
    | some (_, true) => d
  else if d.erg.assigns.all (fun e => d.sys.uid < leaderOf e.1) &&
      d.localPorts.all (fun p => match d.peer p with | some x => d.sys.uid < x.uid | none => true) then
    (d.mapErg (fun e => { e with leading := true, numbers := [] })).startClaim
  else d

/-- NEIGHBOUR_ABSENT. -/
def Dev.neighbourAbsent (d : Dev) (p : Nat) : Dev := d.mapErg (fun e => { e with peers := Tab.del e.peers p })

/-- ORIGIN_EXPIRY: the state held from an origin is discarded: 1 a leader's ASSIGN, 2 its CLAIM, 3 a node's LSA, 4 a group's
GSUM. -/
def Dev.originExpires (d : Dev) (kind n : Nat) : Dev :=
  match kind with
  | 1 => d.mapErg (fun e => { e with assigns := e.assigns.filter (fun x => leaderOf x.1 ≠ n) })
  | 2 => d.mapErg (fun e => { e with claims := Tab.del e.claims n })
  | 3 => d.mapErg (fun e => { e with lsas := e.lsas.filter (fun x => x.1 / 256 ≠ n), changed := e.changed || e.lsas.any (fun x => x.1 / 256 = n) })
  | 4 => d.mapErg (fun e => { e with gsums := e.gsums.filter (fun x => x.1 / 8 ≠ n), changed := e.changed || e.gsums.any (fun x => x.1 / 8 = n) })
  | _ => d

/-- Some member's LSA, this module's own included, shows a LOCAL link to member m UP. -/
def Dev.memberSeen (d : Dev) (m : Nat) : Bool :=
  d.localUp.testBit m || d.erg.lsas.any (fun (e : Nat × ErgLsa) => e.1 / 256 / 64 = d.nodeId / 64 && e.2.localUp.testBit m)

/-- The endpoint address that names a node in a fence. -/
def nodeEp (n : Nat) : Nat := n * 256

/-- MEMBER_LOST (R396, R214). DEDUCED (log 125). -/
def Dev.memberLost (d : Dev) (m : Nat) : Dev :=
  if d.ergRuns && d.leads && d.nodeValid && m < 64 && m ≠ d.nodeId % 64 && d.memberNumbers.contains m && !d.memberSeen m &&
      !d.erg.lost.contains m then
    (d.mapErg (fun e => { e with lost := e.lost ++ [m] })).fenceOriginate 0 (nodeEp (d.nodeId / 64 * 64 + m)) true true
  else d

/-- R396: the members that were declared lost: by this leader, or by a leader that is itself lost and whose node-scope fence stands;
its successor takes over. DEDUCED (log 125). -/
def Dev.lostMembers (d : Dev) : List Nat :=
  let base := d.nodeId / 64 * 64
  (List.range 64).filter (fun m => d.erg.lost.contains m ||
    (let o := (d.fencePair 0 (base + m)).2
     m ≠ d.nodeId % 64 && d.nodeFenced 0 (base + m) && o / 64 = d.nodeId / 64 && o ≠ d.nodeId && !d.memberSeen (o % 64)))

/-- R396: a lost member is back. DEDUCED (log 125). -/
def Dev.membersBack (d : Dev) : Dev :=
  d.each (if d.leads then d.lostMembers.filter d.memberSeen else []) (fun m d =>
    (d.mapErg (fun e => { e with lost := e.lost.filter (· ≠ m) })).fenceOriginate 0 (nodeEp (d.nodeId / 64 * 64 + m)) true false)

/-! ## What follows every change -/

/-- R395: the neighbour that fabric time comes from: the least TDIST, the lowest node among equals, the lowest port. -/
def Dev.timeSource (d : Dev) : Option (Nat × ErgPeer) :=
  if d.coordinates then none
  else
    (d.upPorts.filterMap (fun p => (d.peer p).map (fun x => (p, x)))).foldl (fun (b : Option (Nat × ErgPeer)) x =>
      if x.2.tdist ≥ 255 then b
      else match b with
        | some y => if x.2.tdist < y.2.tdist || (x.2.tdist = y.2.tdist && x.2.node < y.2.node) then some x else b
        | none => some x) none

/-- TDIST, and the source of fabric time. -/
def Dev.tdistUpdate (d : Dev) : Dev :=
  let s := d.timeSource
  let t := if d.coordinates then 0 else match s with | some x => min 255 (x.2.tdist + 1) | none => 255
  let d := d.put CFG_ERGSTAT_TDIST onMod t
  d.each (List.range 4) (fun q d =>
    match s with
    | some x => (d.put TIM_STAT_SRCVALID (onDie q) 1).put TIM_STAT_SRCPORT (onDie q) x.1
    | none => (d.put TIM_STAT_SRCVALID (onDie q) 0).put TIM_STAT_SRCPORT (onDie q) 0)

/-- A message whose content has changed is originated at once (Table 15-11, "on change"). -/
def Dev.ergOriginate (d : Dev) : Dev :=
  let d := if d.erg.leading && d.erg.assignSent.2 ≠ (d.ownGroup, d.erg.numbers) then
      (d.mapErg (fun e => { e with assignSent := ((e.assignSent.1 + 1) % 256, d.ownGroup, e.numbers) })).sendAssign else d
  let want := d.erg.claim.map (fun x => (x.1, d.erg.numbers.length))
  let d := if d.erg.leading && d.erg.claimSent.2 ≠ want then
      (d.mapErg (fun e => { e with claimSent := ((e.claimSent.1 + 1) % 2 ^ 32, want) })).sendClaim else d
  let d := if d.nodeValid && d.erg.lsaSent.2 ≠ (d.localUp, d.globalGroups) then
      (d.mapErg (fun e => { e with lsaSent := ((e.lsaSent.1 + 1) % 65536, d.localUp, d.globalGroups), changed := true })).sendLsa else d
  if d.nodeValid && d.leads && d.erg.gsumSent.2 ≠ d.gsumGroups then
    (d.mapErg (fun e => { e with gsumSent := ((e.gsumSent.1 + 1) % 65536, d.gsumGroups), changed := true })).sendGsum
  else d

/-- What module firmware does after any event while Erg runs. -/
def Dev.ergSettle (d : Dev) : Dev :=
  if !d.ergRuns then d
  else
    let d := d.tdistUpdate.ergOriginate.membersBack
    (d.putB CFG_ERGSTAT_LEADER onMod d.leads).putB CFG_ERGSTAT_COORD onMod d.coordinates

end Sys2Proof.Machine
end

