-- ==== Sys2Proof/Machine/Epoch.lean ====
section
/-! DEFINITION. Fabric time (R86, R395), the route coordinator and the epoch procedure (R129 to R132, R137, R138, R394), the end
of start-up (Table 15-8, step 12), the audit of the ledgers of a die (R148). -/

namespace Sys2Proof.Machine

/-! ## Fabric time -/

/-- R86: the delay and offset that a TIME message gives at local time t4. -/
def timeDelay (t1 t2 t3 t4 : Nat) : Int := ((t4 : Int) - t2 - ((t1 : Int) - t3)) / 2
def timeOffset (t1 t2 t3 t4 : Nat) : Int := (t1 : Int) + timeDelay t1 t2 t3 t4 - t4

/-- A correction saturated to 16 bits. -/
def sat16 (x : Int) : Int := max (-32768) (min 32767 x)

/-- A correction of fabric time: every die takes it. Gates follow fabric time (R176). -/
def Dev.correctTime (d : Dev) (x : Int) : Dev :=
  let d := { d with env := { d.env with fabric := d.env.fabric + x } }
  d.each (List.range 4) (fun q d => (d.put TIM_STAT_LASTCORR (onDie q) (unsigned 16 (sat16 x))).inc .TIM_CORRCNT (onDie q))

/-- A received TIME. DEDUCED (log 38). -/
def Dev.timeTake (d : Dev) (p : Nat) (b : Body) : Dev :=
  let t4 := d.fabricNow
  let t1 := fb b 0 64
  let t2 := fb b 64 64
  let t3 := fb b 128 64
  let d := d.modLink p (fun l => { l with timeT2 := t1, timeT3 := t4 })
  if t2 = 0 && t3 = 0 then d
  else
    let d := d.modLink p (fun l => { l with delay := timeDelay t1 t2 t3 t4, offset := timeOffset t1 t2 t3 t4 })
    if d.bit TIM_STAT_SRCVALID onMod && d.get TIM_STAT_SRCPORT onMod = p then d.correctTime (timeOffset t1 t2 t3 t4) else d
def Dev.timeIn (d : Dev) (p : Nat) (c : Ctrl) (b : Body) : Dev := d.bypassIn p byTIME c (·.timeTake p b)

/-! ## Banks under module firmware -/

/-- R138: the tables of a die belong to the management port. -/
def Dev.overridden (d : Dev) (q : Nat) : Bool := d.bit RTE_CTRL_OVERRIDE (onDie q)
/-- The dies whose tables module firmware writes. -/
def Dev.ownDies (d : Dev) : List Nat := (List.range 4).filter (fun q => !d.overridden q)

/-- The tables replace the contents of a bank. -/
def Dev.putTables (d : Dev) (q e : Nat) (t : Tab Nat × Tab Nat) : Dev :=
  let n := q * 2 + e
  let route := d.win.route.filter (fun x => x.1 / 131072 ≠ n)
  let pset := d.win.pset.filter (fun x => x.1 / 32768 ≠ n)
  { d with win := { d.win with
      route := t.1.foldl (fun r x => if x.1 < 131072 then Tab.set r 0 (n * 131072 + x.1) (x.2 % 2 ^ 32) else r) route,
      pset := t.2.foldl (fun r x => if x.1 < 32768 then Tab.set r 0 (n * 32768 + x.1) (x.2 % 2 ^ 32) else r) pset } }

/-- Load bank e of a die with the tables last computed and start its check; a bank in use cannot be loaded. Before the tables are
computed nothing is loaded: `useTables` does it (R131). -/
def Dev.loadBank (d : Dev) (q e : Nat) : Dev :=
  match d.erg.tables with
  | none => d
  | some t =>
    if d.checkingOn q || (d.bankValid q e && d.get RTE_EPOCH_STAMP (onDie q) = e) then { d with ep := { d.ep with failed := true } }
    else ((d.setBankValid q e false).putTables q e t).validateBank q e

/-- Load bank e on every die that module firmware owns. -/
def Dev.loadAll (d : Dev) (e : Nat) : Dev := d.each d.ownDies (fun q d => d.loadBank q e)

/-! ## EPOCH messages (R129, R131) -/

/-- The message supersedes what the module has seen. -/
def EpochG.superseded (s : EpochG) (v phase : Nat) : Bool :=
  s.ver < v || (s.ver = v && s.phase < phase && !(phase = 4 && 2 ≤ s.phase))

/-- A reconfiguration to epoch e at version v starts here; `unsure` when PROPOSE was not seen since a module reset. A route
computation that failed counts as LOAD_FAILED; the OPSEQ of the system group goes on (R197). -/
def Dev.epochStart (d : Dev) (v e : Nat) (unsure : Bool) : Dev :=
  ({ d with ep := { d.ep with ver := v, phase := 1, target := e, running := true, failed := d.ep.failed && d.erg.tables.isNone,
                              unsure := unsure, since := d.now, round := 0 } }).loadAll e

/-- Act on a superseding message. DEDUCED (log 82). -/
def Dev.epochAct (d : Dev) (v phase e : Nat) : Dev :=
  let d := if phase ≠ 4 && (d.ep.ver < v || !d.ep.running) then d.epochStart v e (phase ≠ 1) else d
  { d with ep := { d.ep with ver := v, phase := phase } }

/-- What module firmware still has to do for the phase reached: stamp, retire, end. -/
def Dev.epochWork (d : Dev) : Dev :=
  if !d.ep.running then d
  else
    let e := d.ep.target
    let d := if 2 ≤ d.ep.phase && d.ep.phase ≤ 3 then
        d.each (d.ownDies.filter (fun q => d.bankValid q e && d.get RTE_EPOCH_STAMP (onDie q) ≠ e)) (fun q d => d.stampWrite q e) else d
    let gone := if d.ep.phase = 4 then e else 1 - e
    let d := if 3 ≤ d.ep.phase then
        d.each (d.ownDies.filter (fun q => d.bankValid q gone && d.get RTE_EPOCH_STAMP (onDie q) ≠ gone && !d.checkingOn q))
          (fun q d => d.retireBank q gone) else d
    let done := d.ownDies.all (fun q => !d.bankValid q gone && (d.ep.phase = 4 || d.get RTE_EPOCH_STAMP (onDie q) = e) && !d.checkingOn q)
    if 3 ≤ d.ep.phase && done then
      { d with ep := { d.ep with running := false }, erg := { d.erg with ver := if d.ep.phase = 3 then d.ep.ver else d.erg.ver } }
    else d

/-- An EPOCH body (Table 3-14). -/
def epochBody (v phase e origin : Nat) : Body :=
  BitVec.ofNat 448 (v % 2 ^ 32 ||| (e % 2) <<< 32 ||| (phase % 8) <<< 33 ||| (origin % 131072) <<< 64)

/-- Act on a message if it supersedes, and send it on unchanged on every UP port. -/
def Dev.epochSpread (d : Dev) (v phase e origin : Nat) : Dev :=
  if 1 ≤ phase && phase ≤ 4 && d.ep.superseded v phase then (d.epochAct v phase e).epochWork.flood byEPOCH (epochBody v phase e origin) else d

/-- A received EPOCH. -/
def Dev.epochIn (d : Dev) (p : Nat) (c : Ctrl) (b : Body) : Dev :=
  d.bypassIn p byEPOCH c (·.epochSpread (fb b 0 32) (fb b 33 3) (fb b 32 1) (fb b 64 17))

/-- The coordinator floods a phase. -/
def Dev.epochFlood (d : Dev) (phase : Nat) : Dev := d.epochSpread d.ep.ver phase d.ep.target d.nodeId

/-! ## Count rounds (R130, R131, Table 5-5) -/

/-- The module's outstanding count of an epoch (R127). -/
def Dev.outstanding (d : Dev) (e : Nat) : Int := ((List.range 4).map (fun q => signed 64 (d.get RTE_EPCNT_NET ⟨q, e⟩))).sum

/-- A check of the bank being loaded failed. DEDUCED (log 82). -/
def Dev.checkFailed (d : Dev) (q e : Nat) : Bool :=
  !d.bankValid q e && !d.checkingOn q && d.get RTE_EPOCH_STATUS (onDie q) = ST_BAD_PARAM

/-- The three elements that the module contributes. -/
def Dev.countElems (d : Dev) : List Nat :=
  let e := d.ep.target
  let dies := List.range 4
  let notLoaded := !d.bankOnAll e
  let failed := d.ep.failed || dies.any (fun q => d.checkFailed q e || d.overridden q)
  let notSwitched := dies.any (fun q => d.get RTE_EPOCH_STAMP (onDie q) ≠ e)
  let old := d.outstanding (1 - e)
  [notLoaded.toNat + failed.toNat * 2 ^ 32, notSwitched.toNat + (d.ep.unsure || decide (old < 0)).toNat * 2 ^ 32,
   if notSwitched then 0 else unsigned 64 old]

def sysGroup : Nat := 0xFFFF

/-- R197: the operation four before operation n of the system group has not completed at this module. DEDUCED (log 82). -/
def Dev.roundHeld (d : Dev) (e n : Nat) : Bool :=
  match Tab.find d.clv.recs (recKey e sysGroup n) with
  | some r => !r.closed && r.seq = (n + 65532) % 65536
  | none => false

/-- COUNT_ROUND: module firmware contributes to the next round, as the member of the system group on this module. Rounds are the
operations of the group, numbered from its validation (R197). DEDUCED (log 82). -/
def Dev.countRound (d : Dev) : Dev :=
  let e := d.gEngdie 0 sysGroup
  let n := d.ep.opseq
  if !d.ep.running || !d.backed 0 sysGroup || d.roundHeld e n then d
  else
    let d := { d with ep := { d.ep with round := d.ep.round + 1, opseq := (n + 1) % 65536 } }
    let k := d.colPacket e sysGroup tEPOCH_COUNT 0 (d.engineSrc e) 1 (d.ep.round % 128) (colWord n (3, 0, 3, 0) 0) true
      ((d.countElems.map (toBytes 8)).flatten) []
    d.epochCountIn e (512 + 256) k

/-- The coordinator acts on the result of a round (its wait is LOAD_WAIT of die 0: DESIGN CHOICE); a round that is not whole counts as non-zero.
DEDUCED (log 82). DESIGN CHOICE (log 136). -/
def Dev.countResult (d : Dev) (whole : Bool) (l : List Nat) : Dev :=
  if !d.ep.running || !d.coordinates then d
  else
    let x (i : Nat) : Nat := if whole then l.getD i 1 else 2 ^ 32 + 1
    let wait := max 1 (d.get RTE_EPCTL_LOAD_WAIT onMod) * 1000000
    match d.ep.phase with
    | 1 =>
      if x 0 / 2 ^ 32 ≠ 0 || (x 0 % 2 ^ 32 ≠ 0 && d.ep.since + wait ≤ d.now) then d.epochFlood 4
      else if x 0 = 0 then d.epochFlood 2
      else d
    | 2 => if x 1 = 0 && x 2 = 0 then d.epochFlood 3 else d
    | _ => d

/-- RED_DOWN; of the system group it also brings the round's result to module firmware. -/
def Dev.redDownMsg (d : Dev) (e : Nat) (k : Packet) : Dev :=
  let open_ := (d.openCrec e sysGroup (cSeq k)).isSome || d.gRoot e sysGroup
  let d := d.redDownIn e k
  if k.type = tRED_DOWN && k.dest % 65536 = sysGroup && open_ then
    d.countResult (!k.control && cStatus k = ST_OK) ((List.range 3).map (fun i => ofBytes ((k.payload.drop (8 * i)).take 8)))
  else d

/-! ## Route computation (R137, R394) -/

/-- Firmware has no valid bank on any die. -/
def Dev.noBank (d : Dev) : Bool := (List.range 4).all (fun q => d.get RTE_EPOCH_VALID (onDie q) = 0)

/-- R394: V and epoch to start from: the highest V that a neighbour with valid tables reports, else CONFIG_VERSION and epoch 0. -/
def Dev.startVersion (d : Dev) : Nat × Nat :=
  match (d.erg.peers.filter (fun (e : Nat × ErgPeer) => e.2.tables)).foldl (fun (b : Option (Nat × Nat)) e =>
      match b with
      | some y => if y.1 < e.2.ver then some (e.2.ver, e.2.epoch) else b
      | none => some (e.2.ver, e.2.epoch)) none with
  | some y => y
  | none => (d.get CFG_CFGVER_CONFIG onMod, 0)

/-- The tables computed go into service: the first ones at once, a change through the coordinator's PROPOSE; while a procedure runs
they are what its bank is loaded with, where it is not yet (R131). DESIGN CHOICE (log 81). -/
def Dev.useTables (d : Dev) : Dev :=
  if d.noBank && !d.ep.running then
    let x := d.startVersion
    ({ d with erg := { d.erg with ver := x.1 }, ep := { d.ep with target := x.2, failed := false } }).loadAll x.2
  else if d.coordinates && !d.ep.running then
    d.epochSpread (max d.erg.ver d.ep.ver + 1) 1 (1 - d.stampNow) d.nodeId
  else if d.ep.running && d.ep.phase ≠ 4 then
    d.each (d.ownDies.filter (fun q => !d.bankValid q d.ep.target && !d.checkingOn q)) (fun q d => d.loadBank q d.ep.target)
  else d

/-- R137, Table 5-3: a candidate of computed tables: its step is one of its port class, a non-minimal one 0 or 1.
DEDUCED (log 153). -/
def Dev.stepFits (d : Dev) (slot c : Nat) : Bool :=
  !cValid c ||
  ((match d.pclass (cPort c) with
    | 1 => cStep c = 0 || cStep c = 2 || cStep c = 4
    | 2 => cStep c = 1 || cStep c = 3
    | _ => false) && (slot < 4 || cStep c ≤ 1))

/-- Port-set candidates are an outcome of module firmware's route computation: every step is that of Table 5-3. The paths
themselves, and which intermediate groups are least used, are the computation's. DEDUCED (log 153). -/
def Dev.tablesFit (d : Dev) (psets : Tab Nat) : Bool := psets.all (fun x => d.stepFits (x.1 % 8) x.2)

/-- SETTLE_EXPIRY: the outcome of the computation by module firmware: whether there are routes, how many port-set entries they
need, the route entries by node and the port-set candidates by entry * 8 + slot. A module that no ASSIGN names gets no identifier
(R391). Tables whose steps are not those of Table 5-3 are no outcome of it. DESIGN CHOICE (log 81). DEDUCED (log 153). -/
def Dev.settleExpires (d : Dev) (ok : Bool) (need : Nat) (routes psets : List (Nat × Nat)) : Dev :=
  if !d.ergRuns then d
  else if !d.nodeValid then
    if d.sys.mapMode || d.groupView.2.any (fun e => e.1 = d.sys.uid) then d else d.bisque 3
  else if !d.erg.changed && d.erg.tables.isSome then d
  else if ok && need ≤ 4096 && !d.tablesFit psets then d
  else
    let d := d.mapErg (fun e => { e with changed := false })
    let fails (d : Dev) : Dev := { d.mapErg (fun e => { e with tables := none }) with ep := { d.ep with failed := true } }
    if !ok then (fails d).raise srcROUTE 2 (locDie 0) 0
    else if 4096 < need then (fails d).raise srcROUTE 1 (locDie 0) 0
    else (d.mapErg (fun e => { e with tables := some (routes, psets) })).useTables

/-- A port-set entry without a port: each list keeps its order. -/
def withoutPort (p : Nat) (l : List Nat) : List Nat :=
  let half (x : List Nat) : List Nat := ((x.filter (fun c => !(cValid c && cPort c = p))) ++ [0, 0, 0, 0]).take 4
  half (l.take 4) ++ half (l.drop 4)

/-- Remove a port from one entry of a valid bank, where the entry then still passes its check. -/
def Dev.removeFrom (d : Dev) (q b i p : Nat) : Dev :=
  let l := d.cands q b i
  if !l.any (fun c => cValid c && cPort c = p) then d
  else
    let n := ((q * 2 + b) * 4096 + i) * 8
    let new := { d with win := { d.win with pset := ((withoutPort p l).zipIdx).foldl (fun t x => Tab.set t 0 (n + x.2) x.1) d.win.pset } }
    if (new.psetFails q b i (new.referred q b i)).isNone then new else d

/-- Port p is a candidate of the port set that packet k is routed by on the die where its head is. -/
def Dev.listsPort (d : Dev) (k : Pkt) (p : Nat) : Bool :=
  let q := k.headDie
  (d.cands q (hEpoch k.head) (rtPset (d.routeEntry q (hEpoch k.head) (epNode (hDest k.head))))).any (fun c => cValid c && cPort c = p)

/-- R146: a packet held on a port that its port set no longer lists waits no longer: it is looked up in the tables as they now stand
and goes where they send it (DEDUCED). DESIGN CHOICE (log 135). DEDUCED (log 154). -/
def Dev.removedLook (d : Dev) (i p : Nat) : Dev :=
  match d.pkt i with
  | none => d
  | some k =>
    if hMc k.head = 1 || d.listsPort k p then d
    else
      let again (p2 s : Nat) (n : Bool) : Dev := ((d.unqueuePorts i).setPkt i { k with egress := .none }).toPort i p2 s n
      match d.lookup k.headDie k.head k.floor with
      | .go p2 s n => (again p2 s n).inc .RTE_REROUTE (onDie k.headDie)
      | .strand p2 s n => again p2 s n
      | .drop r => d.dropPkt i k.headDie r
      | .local => d

/-- R137: a port that is dead is removed in place from the live banks of every die that module firmware owns. Where no set lists
it any more, what it held waits no longer. DEDUCED (log 82, 154). -/
def Dev.removePort (d : Dev) (p : Nat) : Dev :=
  let d := d.each d.ownDies (fun q d => d.each ((List.range 2).filter (fun b => d.bankValid q b)) (fun b d =>
    d.each (d.psetIndices q b) (fun i d => d.removeFrom q b i p)))
  d.each (d.queuedIds p) (fun i d => d.removedLook i p)

/-- PORT_DEAD_TIMEOUT. -/
def Dev.portDies (d : Dev) (p : Nat) : Dev :=
  if d.pexists p && (d.eport p).deadTimer then (d.deadTimeout p).removePort p else d

/-! ## The end of start-up -/

/-- The words of the system group on a die: module firmware is its only member here (R182). -/
def Dev.installSystem (d : Dev) (q : Nat) (words : List Word) : Dev :=
  let w (i : Nat) : Word :=
    let x := words.getD i 0
    if i = 0 then x ||| BitVec.ofNat 64 (2 ^ 16) else if 10 ≤ i && i ≤ 13 then 0 else x
  let d := d.setBacked q sysGroup false
  (d.each (List.range 16) (fun i d => d.groupWrite q sysGroup i (w i))).groupValidate q sysGroup

/-- PHASE_RUN: the banks are valid; STAMP is set, the system group is installed with the words that Erg gives it, the meshes are
NORMAL. DEDUCED (log 82, 123). -/
def Dev.phaseRun (d : Dev) (words : List Word) : Dev :=
  let e := d.ep.target
  if d.boot.step = 6 && d.nodeValid && !d.isolated && d.ownDies.all (fun q => d.bankValid q e) then
    let d := d.each d.ownDies (fun q d => d.stampWrite q e)
    let d := d.each (List.range 4) (fun q d =>
      let d := d.installSystem q words
      d.when (!d.bit NOC_MODECTL_MODE (onDie q)) (fun d => (d.put NOC_MODECTL_TARGET (onDie q) 1).meshSwitched q))
    let d := { d with boot := { d.boot with step := 7, tried := [] } }.put CFG_BOOTSTATUS_PHASE onMod 5
    let d := if d.dirNone && d.boot.update.isNone then d.dirChange false id else d
    d.each (List.range 16) (fun m d => d.retryInj (m / 4) (m % 4))
  else d

/-! ## Ledgers (R148 to R155) -/

/-- The cell ledger of a bank: a cell that is not free and has no owner. -/
def Dev.cellBad (d : Dev) (q b : Nat) : Bool := d.rtr.cells.any (fun (e : Nat × Cell) => e.1 / 65536 = q * 4 + b && e.2.refs = 0)

/-- Completions in progress of a completion queue: descriptors under way on its work queues, consumed receive descriptors. -/
def Dev.cqUnderWay (d : Dev) (q : Nat) (c : Queue) : Nat :=
  (d.hst.ops.filter (fun (e : Nat × Op) => e.2.die = q && e.2.kind ≠ kRQ &&
    (match d.queue q e.2.kind e.2.qn with | some x => x.func = c.func && x.cqn = c.qnum | none => false))).length +
  ((d.hst.queues.filter (fun (e : Nat × Queue) => e.1 / 262144 = q && e.1 / 65536 % 4 = kRQ && e.2.func = c.func && e.2.cqn = c.qnum)).map
    (fun (e : Nat × Queue) => e.2.order.length)).sum

/-- Increments accepted and not applied yet. DEDUCED (log 83). -/
def Dev.incrementsHeld (d : Dev) (q : Nat) : Nat :=
  ((d.hst.conns.filter (fun (e : Nat × Conn) => e.1 / 262144 = q)).map (fun (e : Nat × Conn) =>
    (e.2.special.filter (fun (s : Nat × Special) => s.2.pending && s.2.ctr)).length)).sum

/-- LEDGER_AUDIT on a die: the cell ledger of each bank of a region that is not in Stop, the completion ledger of each completion
queue, the counter ledger. DEDUCED (log 83). -/
def Dev.ledgerAudit (d : Dev) (q : Nat) : Dev :=
  let d := d.each ((List.range 4).filter (fun b => !d.regionOff (q * 4 + b) && d.cellBad q b)) (fun b d => d.raise srcCONSERVE 3 (locRegion (q * 4 + b)) 0)
  let bad := d.hst.queues.filter (fun (e : Nat × Queue) => e.1 / 262144 = q && e.1 / 65536 % 4 = kCQ && e.2.owed ≠ d.cqUnderWay q e.2 + e.2.held.length)
  let d := d.each bad (fun (e : Nat × Queue) d => d.raise srcCONSERVE 5 (locUnit q 3 (e.1 % 4)) (e.1 % 65536))
  d.when ((d.get RMX_CTRAPPLIED_TOTAL (onDie q) + d.incrementsHeld q) % 2 ^ 48 ≠ d.get RMX_CTRPLACED_TOTAL (onDie q))
    (·.raise srcCONSERVE 7 (locDie q) 0)

end Sys2Proof.Machine
end

