-- ==== Sys2Proof/Machine/Caravan.lean ====
section
/-! DEFINITION. The Caravan ring (R398 to R402), and the register accesses that MGT_OOBCMD issues over the ring or the fabric
(R403, R397). What a module does with an access that reaches it stands in AccessCmds.lean. -/

namespace Sys2Proof.Machine

/-! ## Frames (Table 15-13) -/

/-- A frame of the ring, byte 0 lowest. -/
abbrev Frame := BitVec 256

/-- n bytes of a frame from byte o. -/
def frBytes (f : Frame) (o n : Nat) : Nat := bits f.toNat (8 * o) (8 * n)
def frType (f : Frame) : Nat := frBytes f 0 1
def frSrc (f : Frame) : Nat := frBytes f 1 1
def frDst (f : Frame) : Nat := frBytes f 2 1
def frHops (f : Frame) : Nat := frBytes f 3 1
def frTag (f : Frame) : Nat := frBytes f 4 4
/-- The frame's CRC matches. DEDUCED (log 61). -/
def frCrcOk (f : Frame) : Bool := crc32c (toBytes 28 f.toNat) = frBytes f 28 4

/-- A frame of 28 bytes and its CRC. DEDUCED (log 61). -/
def frMake (type src dst hops tag payload : Nat) : Frame :=
  let x := type % 256 ||| (src % 256) <<< 8 ||| (dst % 256) <<< 16 ||| (hops % 256) <<< 24 ||| (tag % 2 ^ 32) <<< 32 |||
    (payload % 2 ^ 160) <<< 64
  BitVec.ofNat 256 (x ||| crc32c (toBytes 28 x) <<< 224)

def frELECT : Nat := 1
def frPOSITION : Nat := 2
def frTIME : Nat := 3
def frREAD : Nat := 4
def frWRITE : Nat := 5
def frRESP : Nat := 6

def Dev.carState (d : Dev) : Nat := d.get MGT_CARSTAT_STATE onMod
def Dev.carJoined (d : Dev) : Bool := d.carState ≠ 0
def Dev.carPos (d : Dev) : Nat := d.get MGT_CARSTAT_POSITION onMod
def Dev.carMaster (d : Dev) : Bool := d.bit MGT_CARSTAT_MASTER onMod

/-- Send a frame of this module's own. -/
def Dev.ringSend (d : Dev) (type dst tag payload : Nat) : Dev := d.emit (.ring (frMake type d.carPos dst 0 tag payload))

/-- R398: forward a frame with HOPS + 1 and a payload; a frame whose SRC is the own position is removed. -/
def Dev.ringPass (d : Dev) (f : Frame) (payload : Nat) : Dev :=
  if frSrc f = d.carPos && d.carPos ≠ 255 then d
  else d.emit (.ring (frMake (frType f) (frSrc f) (frDst f) (frHops f + 1) (frTag f) payload))

/-- The payload of a frame, bytes 8 to 27. -/
def frPayload (f : Frame) : Nat := frBytes f 8 20

/-- A frame of a type on ring-in: a bypassed module does not see it; a frame whose CRC is wrong is discarded and counted.
DEDUCED (log 61). -/
def Dev.frameIn (d : Dev) (type : Nat) (f : Frame) (act : Dev → Dev) : Dev :=
  if !d.carJoined then d
  else if !frCrcOk f then d.inc .MGT_CARCRC onMod
  else if frType f ≠ type then d
  else act d

/-- A frame that is addressed to one module: its own is consumed, any other goes on. -/
def Dev.frameFor (d : Dev) (type : Nat) (f : Frame) (act : Dev → Dev) : Dev :=
  d.frameIn type f (fun d => if frDst f = d.carPos && d.carPos ≠ 255 then act d else d.ringPass f (frPayload f))

/-! ## Accesses of this module to another (R403) -/

def Dev.oobBusy (d : Dev) : Bool := d.bit MGT_OOBCMD_BUSY onMod
def Dev.oobStatus (d : Dev) (st : Nat) : Dev := d.put MGT_OOBCMD_STATUS onMod st

/-- The access that is outstanding completes. -/
def Dev.oobEnds (d : Dev) (st : Nat) (data : Option Nat) : Dev :=
  match d.car.oob with
  | none => d
  | some o =>
    let d := ({ d with car := { d.car with oob := none } }.put MGT_OOBCMD_BUSY onMod 0).oobStatus st
    match data with
    | some v => d.when (!o.write) (·.put MGT_OOBDATA_DATA onMod v)
    | none => d

/-- The operands of an FW_MSG or FW_RSP (Table 15-12). -/
def fwOper (op req status addr data : Nat) : List Byte :=
  toBytes 1 op ++ toBytes 2 req ++ toBytes 1 status ++ toBytes 5 addr ++ toBytes 7 0 ++ toBytes 8 data

/-- An FW_MSG or FW_RSP: ENC = 0 (R371), a control packet of 24 operand bytes. DEDUCED (log 64). -/
def fwPacket (type tc src dest : Nat) (oper : List Byte) : Packet :=
  { type := type, tc := tc, epoch := 0, cmark := false, enc := false, conn := false, dest := dest, src := src, dconn := 0, opflags := 0,
    psn := 0, inc := 0, control := true, oper := oper, payload := [], tag := 0 }

/-- Module firmware sends a packet from die q. DEDUCED (log 64). -/
def Dev.fwSend (d : Dev) (q : Nat) (k : Packet) : Dev := (d.offer q 0 true k []).retryInj q 0

/-- MGT_OOBCMD with an OP: a write of the register starts an access, or is refused. DEDUCED (log 63). -/
def Dev.oobStart (d : Dev) (v : Word) (op : Nat) : Dev :=
  if d.oobBusy then d.put MGT_OOBCMD_ADDR onMod (MGT_OOBCMD_ADDR.of v)
  else
    let d := d.put MGT_OOBCMD_ADDR onMod (MGT_OOBCMD_ADDR.of v)
    let addr := MGT_OOBCMD_ADDR.of v
    let data := d.get MGT_OOBDATA_DATA onMod
    let fabric := d.bit MGT_OOBTGT_PATH onMod
    let target := d.get MGT_OOBTGT_TARGET onMod
    let go (d : Dev) : Dev :=
      { d with car := { d.car with oob := some ⟨d.car.nextTag, decide (op = 2), fabric⟩, nextTag := (d.car.nextTag + 1) % 65536 } }.put
        MGT_OOBCMD_BUSY onMod 1
    if op = 0 then d
    else if op = 3 then d.oobStatus ST_BAD_PARAM
    else if fabric then
      if target = d.nodeId then d.oobStatus ST_BAD_PARAM
      else if !d.nodeValid then d.oobStatus ST_NOT_READY
      else
        ((go d).freed).fwSend 0 (fwPacket tFW_MSG (d.freeVal % 16) (d.nodeId * 256) (target * 256 + addr / 2 ^ 34 % 4 * 64)
          (fwOper op d.car.nextTag 0 addr (if op = 2 then data else 0)))
    else if target % 256 = d.carPos then d.oobStatus ST_BAD_PARAM
    else if d.carState ≠ 2 then d.oobStatus ST_NOT_READY
    else (go d).ringSend (if op = 1 then frREAD else frWRITE) (target % 256) d.car.nextTag (addr ||| (if op = 2 then data <<< 64 else 0))

/-- A write of MGT_OOBCMD. DEDUCED (log 63). -/
def Dev.oobCmd (d : Dev) (v : Word) : Dev := d.oobStart v (MGT_OOBCMD_OP.of v)

/-- R403: no answer within 1 ms, or 10 ms at the fallback rate. -/
def Dev.oobTimeout (d : Dev) : Dev := d.oobEnds ST_TIMEOUT none

/-- A RESP frame. -/
def Dev.ringResp (d : Dev) (f : Frame) : Dev :=
  d.frameFor frRESP f (fun d => match d.car.oob with
    | some o => if !o.fabric && o.tag = frTag f then d.oobEnds (frBytes f 8 1) (some (frBytes f 16 8)) else d
    | none => d)

/-- An FW_RSP that the router has delivered for module firmware of die q; one with ENC = 1 is dropped as AUTH (R371).
DEDUCED (log 64). -/
def Dev.fwRspIn (d : Dev) (q : Nat) (k : Packet) : Dev :=
  if k.type ≠ tFW_RSP then d
  else
    let d := d.takeDlv q 512 k
    if k.enc then d.inc .RMX_DROPAUTH (onDie q)
    else match d.car.oob with
      | some o =>
        if o.fabric && o.tag = ofBytes ((k.oper.drop 1).take 2) then
          d.oobEnds (ofBytes ((k.oper.drop 3).take 1)) (some (ofBytes ((k.oper.drop 16).take 8)))
        else d
      | none => d

/-! ## Joining, leaving, the re-form (R399 to R401) -/

/-- R400: the module sends ELECT with its UID. -/
def Dev.sendElect (d : Dev) : Dev := d.ringSend frELECT 255 0 (d.sys.uid % 2 ^ 64)

/-- A re-form starts: the ring first tries 1.25 Gb/s, unless FORCE_SLOW is 1 (R401). DEDUCED (log 62, 63). -/
def Dev.reform (d : Dev) : Dev :=
  let d := { d with car := { d.car with elected := false } }
  let d := ((((d.put MGT_CARSTAT_STATE onMod 1).put MGT_CARSTAT_MASTER onMod 0).put MGT_CARSTAT_POSITION onMod 255).put
    MGT_CARSTAT_COUNT onMod 0).put MGT_CARSTAT_SLOWIN onMod 0
  let d := d.put MGT_CARSTAT_RATE onMod (d.get MGT_CTRL_FORCE_SLOW onMod)
  ((d.inc .MGT_CARREFORM onMod).oobEnds ST_NOT_READY none).sendElect

/-- R399: the bypass closes at once and the module is off the ring. DEDUCED (log 62, 63). -/
def Dev.carLeave (d : Dev) : Dev :=
  if !d.carJoined then d
  else
    let d := { d with car := { d.car with elected := false } }
    let d := (((d.put MGT_CARSTAT_STATE onMod 0).put MGT_CARSTAT_MASTER onMod 0).put MGT_CARSTAT_POSITION onMod 255).put
      MGT_CARSTAT_COUNT onMod 0
    (d.oobEnds ST_NOT_READY none).emit (.pin "CARAVAN_BYPASS" true)

/-- CARAVAN_JOIN: the bypass follows its condition (R399): open once step 2 of Table 15-8 is reached while CAR_EN is 1. -/
def Dev.carFollow (d : Dev) : Dev :=
  let may := 1 ≤ d.boot.step && d.bit MGT_CTRL_CAR_EN onMod
  if may && !d.carJoined then (d.emit (.pin "CARAVAN_BYPASS" false)).reform
  else if !may then d.carLeave
  else d

/-- A write of MGT_CTRL: CAR_EN = 0 closes the bypass at once. -/
def Dev.mgtCtrl (d : Dev) (v : Word) : Dev :=
  let d := d.wrFields .MGT_CTRL onMod v
  if d.bit MGT_CTRL_CAR_EN onMod then d else d.carLeave

/-- Ring-in has lost lock for 1 µs. -/
def Dev.carLockLoss (d : Dev) : Dev := if d.carJoined then d.reform else d

/-- R401: this module moves to the fallback rate, passes the pattern on, and the ring forms at that rate. -/
def Dev.carSlow (d : Dev) : Dev := ((d.put MGT_CARSTAT_RATE onMod 1).emit .ringPattern).sendElect

/-- Ring-in does not lock within 500 µs at 1.25 Gb/s. -/
def Dev.carLockTimeout (d : Dev) : Dev :=
  if d.carState = 1 && !d.bit MGT_CARSTAT_RATE onMod then
    ((d.put MGT_CARSTAT_SLOWIN onMod 1).raise srcMGT 1 locModule 0).carSlow
  else d

/-- The fallback training pattern on ring-in. DEDUCED (log 62). -/
def Dev.carPattern (d : Dev) : Dev :=
  if !d.carJoined || d.bit MGT_CARSTAT_RATE onMod then d
  else (if d.carState = 2 then d.reform else d).carSlow

/-- An ELECT frame: one that reaches a formed ring starts a re-form; the lower UID goes on; the own UID makes this module master.
DEDUCED (log 61, 62). -/
def Dev.ringElect (d : Dev) (f : Frame) : Dev :=
  d.frameIn frELECT f (fun d =>
    let d := if d.carState = 2 then d.reform else d
    let uid := frBytes f 8 8
    let own := d.sys.uid % 2 ^ 64
    if uid = own then
      if d.car.elected then d
      else
        let d := { d with car := { d.car with elected := true } }
        ((d.put MGT_CARSTAT_MASTER onMod 1).put MGT_CARSTAT_POSITION onMod 0).ringSend frPOSITION 255 0 0
    else d.emit (.ring (frMake frELECT 255 255 (frHops f + 1) 0 (min uid own))))

/-- A POSITION frame: counter in byte 8, FINAL in byte 9. DEDUCED (log 62). -/
def Dev.ringPosition (d : Dev) (f : Frame) : Dev :=
  d.frameIn frPOSITION f (fun d =>
    let n := frBytes f 8 1
    if frBytes f 9 1 % 2 = 1 then
      if d.carMaster then d
      else ((d.put MGT_CARSTAT_COUNT onMod n).put MGT_CARSTAT_STATE onMod 2).emit
        (.ring (frMake frPOSITION (frSrc f) 255 (frHops f + 1) 0 (n ||| 256)))
    else if d.carMaster then
      ((d.put MGT_CARSTAT_COUNT onMod n).put MGT_CARSTAT_STATE onMod 2).ringSend frPOSITION 255 0 (n ||| 256)
    else
      let pos := min 255 (n + 1)
      (d.put MGT_CARSTAT_POSITION onMod pos).emit (.ring (frMake frPOSITION (frSrc f) 255 (frHops f + 1) 0 (min 254 pos))))

/-! ## Time (R402) -/

/-- Module firmware has a source of fabric time under R395: a neighbour, or its own counter as coordinator. -/
def Dev.hasTimeSource (d : Dev) : Bool := d.bit TIM_STAT_SRCVALID onMod || d.coordinates

/-- A TIME frame; `res` is the residence time in ns that this module adds. DEDUCED (log 65). -/
def Dev.ringTime (d : Dev) (f : Frame) (res : Nat) : Dev :=
  d.frameIn frTIME f (fun d =>
    if d.carMaster then d
    else
      let t := (frBytes f 8 8 + frBytes f 16 4) % 2 ^ 64
      let d := if d.hasTimeSource then d
        else { d with env := { d.env with fabric := (t : Int) - d.env.time } }.put MGT_CARSTAT_SEEDED onMod 1
      d.ringPass f (frBytes f 8 8 ||| ((frBytes f 16 4 + res) % 2 ^ 32) <<< 64))

/-- The master sends TIME. -/
def Dev.ringTimeSend (d : Dev) : Dev :=
  if d.carMaster && d.carState = 2 then d.ringSend frTIME 255 0 d.fabricNow else d

end Sys2Proof.Machine
end

