-- ==== Sys2Proof/Machine/Access.lean ====
section
/-! DEFINITION. Registers by management address (R7, R464): what a read shows, what a read and a write do. -/

namespace Sys2Proof.Machine

/-! ## Addresses -/

def adrDie (a : Nat) : Nat := a / 2 ^ 34 % 4
def adrBlk (a : Nat) : Nat := a / 2 ^ 26 % 256
def adrOff (a : Nat) : Nat := a % 2 ^ 26

/-- The instance of a definition at an offset of its block. -/
def Place.index (p : Place) (off : Nat) : Option Nat :=
  if off < p.base then none
  else
    let o := off - p.base
    if p.s1 = 0 then (if o = 0 then some 0 else none)
    else
      let i := o / p.s1
      let r := o % p.s1
      if p.n1 ≤ i then none
      else if p.s2 = 0 then (if r = 0 then some i else none)
      else if r % p.s2 = 0 && r / p.s2 < p.n2 then some (i * p.n2 + r / p.s2)
      else none

/-- The definition and instance at an offset of a block. -/
def regFind (blk off : Nat) : Option (Reg × Nat) :=
  Reg.all.findSome? (fun r => if r.place.blk = blk then (r.place.index off).map (fun i => (r, i)) else none)

/-- The words of the table windows. -/
inductive TblWord where
  | route (b w : Nat)
  | pset (b i w : Nat)
  | gate (k l e : Nat)
  | group (g w : Nat)
  | trap (n w : Nat)
  | frec (n w : Nat)
  | store (e w : Nat)
deriving DecidableEq, Repr

/-- The table word at an offset of a block. -/
def tblFind (blk off : Nat) : Option TblWord :=
  if off % 8 ≠ 0 then none
  else if blk = 0x04 && 0x1000000 ≤ off && off < 0x1100000 then
    some (.route ((off - 0x1000000) / 0x80000) ((off - 0x1000000) % 0x80000 / 8))
  else if blk = 0x04 && 0x1200000 ≤ off && off < 0x1240000 then
    let o := off - 0x1200000
    some (.pset (o / 0x20000) (o % 0x20000 / 32) (o % 32 / 8))
  else if blk = 0x06 && 0x10000 ≤ off && off < 0x90000 then
    let o := off - 0x10000
    some (.gate (o / 0x1000) (o % 0x1000 / 0x800) (o % 0x800 / 8))
  else if blk = 0x07 && 0x1000000 ≤ off && off < 0x1800000 then
    some (.group ((off - 0x1000000) / 0x80) ((off - 0x1000000) % 0x80 / 8))
  else if blk = 0x14 && 0x30000 ≤ off && off < 0x32000 then some (.trap ((off - 0x30000) / 0x20) ((off - 0x30000) % 0x20 / 8))
  else if blk = 0x25 && 0x1000000 ≤ off && off < 0x1002000 then some (.frec ((off - 0x1000000) / 0x20) ((off - 0x1000000) % 0x20 / 8))
  else if blk = 0x25 && 0x2000000 ≤ off && off < 0x2040000 then some (.store ((off - 0x2000000) / 0x40) ((off - 0x2000000) % 0x40 / 8))
  else none

/-- An offset of the diagnostic registers (R464). -/
def isDiag (off : Nat) : Bool := 0x3C00000 ≤ off

/-- A block that is fused off on form S (R2). DEDUCED (log 22). -/
def Dev.fusedOff (d : Dev) (blk : Nat) : Bool := d.sys.formS && decide (0x10 ≤ blk) && decide (blk ≤ 0x14)

/-- A block index that Table 19-5 lists. -/
def blkListed (blk : Nat) : Bool := (decide (1 ≤ blk) && decide (blk ≤ 0x0B)) || (decide (0x10 ≤ blk) && decide (blk ≤ 0x14)) ||
  (decide (0x20 ≤ blk) && decide (blk ≤ 0x28))

/-- The lane slot of an instance on its die, of a register that is placed by lane, port or cluster. -/
def laneSlot (r : Reg) (i : Nat) : Option Nat :=
  match r.place.kind with
  | .lane => some (i / r.place.n2)
  | .port => some (i / r.place.n2)
  | .cluster => some (i * 8)
  | _ => none

/-! ## What a read shows -/

/-- A number in units and bits of a two's complement field that saturates. -/
def satSigned (w : Nat) (x : Int) : Nat := unsigned w (max (-(2 ^ (w - 1) : Int)) (min (2 ^ (w - 1) - 1) x))

/-- The port of the lane slot k of die q. -/
def slotPort (q k : Nat) : Nat := q * 128 + k

/-- The fields that the state determines elsewhere than in the register file, of instance i on die q.
DESIGN CHOICE (log 16). DEDUCED (log 74, 99). -/
def Dev.computed (d : Dev) (r : Reg) (q i : Nat) : List (Fld × Nat) :=
  let p := slotPort q (i / r.place.n2)
  match r with
  | .LNK_CREDIT =>
    let c := d.chan p (i % 18)
    [(LNK_CREDIT_AVAIL, unsigned 17 c.avail), (LNK_CREDIT_ALLOC, c.alloc), (LNK_CREDIT_OCC, c.occ)]
  | .PRT_STAT => [(PRT_STAT_ROUTABLE, (d.routable p).toNat), (PRT_STAT_QUEUED, (d.queuedIds p).length)]
  | .FWD_PART =>
    [(FWD_PART_COMMITTED, d.commitment q),
     (FWD_PART_FREE, (((List.range 4).filter (fun b => !d.regionOff (q * 4 + b))).map (d.freeCells q)).sum)]
  | .FWD_OCC =>
    [(FWD_OCC_KIB, min 65535 (d.occupancy p / 1024)), (FWD_OCC_FULL, (decide ((d.eport p).wait ≠ [])).toNat),
     (FWD_OCC_OVER_INJ, (decide (d.occupancy p > d.injThr q)).toNat)]
  | .SCH_GATESTAT => if d.bit SCH_GATECTL_EN (onLane p) then [] else [(SCH_GATESTAT_OPEN, 0xFFFF)]
  | .MCG_FENCECNT =>
    [(MCG_FENCECNT_NODES, Tab.count d.mcg.node (fun k _ => k / 131072 = q)),
     (MCG_FENCECNT_ENDPOINTS, Tab.count d.mcg.ep (fun k _ => k / 2 ^ 25 = q))]
  | .SCH_SHAPE => [(SCH_SHAPE_CREDIT, satSigned 16 ((d.shaper p (i % 16)).creditNow d.now / 2048000))]
  | .CLV_BUF =>
    let l := d.colGroups q
    [(CLV_BUF_WINDOWS, (l.map (d.gWindow q)).sum), (CLV_BUF_GROUPS, l.length)]
  | .RMX_STAT => [(RMX_STAT_RSLOTS, d.rslots q), (RMX_STAT_TRACKERS, d.trackers q), (RMX_STAT_PARKED, d.parked q)]
  | .RMX_FNSTAT =>
    [(RMX_FNSTAT_OPEN, Tab.count d.hst.conns (fun c x => connDie c = q && x.func = i && (x.state = connOPEN || x.state = connERROR))),
     (RMX_FNSTAT_REVOKING, Tab.count d.hst.regions (fun k x => k / 262144 = q && x.state = regREVOKING && d.inRange q i 1 (k % 262144)))]
  | .MTC_STAT => [(MTC_STAT_POSTED, d.postedAll q), (MTC_STAT_UNEXP, (d.msgsOf q).length), (MTC_STAT_REORDER, d.heldHeads q (fun _ => true))]
  | .MTC_FNCFG => [(MTC_FNCFG_USED, d.poolUsed q i)]
  | .XLT_STAT =>
    let l := Tab.get d.xlt.l2 [] q
    [(XLT_STAT_L2USED, l.length), (XLT_STAT_LOCKED, (l.filter (fun e => e.lock)).length),
     (XLT_STAT_SLOTS, Tab.count d.xlt.traps (fun k _ => k / 256 = q)), (XLT_STAT_BACKED, (Tab.get d.xlt.backing [] q).length)]
  | .SAG_UID => [(SAG_UID_UID, d.sys.uid)]
  | .SAG_LC => [(SAG_LC_STATE, d.lifeCycle), (SAG_LC_OPKEY, d.sys.opkey.isSome.toNat), (SAG_LC_BUSY, d.get SAG_LC_BUSY onMod)]
  | .SAG_DBG =>
    [(SAG_DBG_LEVEL, d.debugLevel), (SAG_DBG_SIGNER, d.get SAG_DBG_SIGNER onMod), (SAG_DBG_MAX, highestLevel d.lifeCycle)]
  | .CFG_IDENT => [(CFG_IDENT_FORM, d.sys.formS.toNat), (CFG_IDENT_STEPPING, d.sys.stepping)]
  | .CFG_TRIAL =>
    [(CFG_TRIAL_REMAIN, match d.boot.watchdog with | some t => (t - d.now + 999999999) / 1000000000 | none => 0)]
  | .CLK_STAT =>
    [(CLK_STAT_RUNNING, if d.dieState q = domSTOP then 0x200 else 0x3FF), (CLK_STAT_HOLDOVER, (!d.pwr.ref && d.pwr.off ≠ 4).toNat),
     (CLK_STAT_PLL_LOCK, (d.pwr.ref && d.dieState q ≠ domSTOP).toNat), (CLK_STAT_REF_OK, d.pwr.ref.toNat)]
  | .FLT_STAT => [(FLT_STAT_OPEN, d.recCount 1), (FLT_STAT_ACTING, d.recCount 2)]
  | .FLT_FAULTN =>
    [(FLT_FAULTN_LATCH, d.flt.latch.toNat), (FLT_FAULTN_ISOLATE, d.flt.isolate.toNat), (FLT_FAULTN_SHUTDOWN, d.flt.shutdown.toNat),
     (FLT_FAULTN_PIN, d.flt.pin.toNat)]
  | .FLT_STORESTAT => [(FLT_STORESTAT_VALID, d.flt.store.length), (FLT_STORESTAT_NEXT, d.flt.storeNext)]
  | .TIM_NOW => [(TIM_NOW_NOW, d.fabricNow)]
  | .TIM_STAT => [(TIM_STAT_HOLD, (!d.pwr.ref).toNat)]
  | _ => []

/-- The primary instance of a SAG register that acts on it from every die (R374). -/
def primaryAt (r : Reg) (q : Nat) : Nat := if r = .SAG_CHAL || r = .SAG_TOKCMD then 0 else q

/-- The word that a register shows: computed fields, the table of R435 for sources 7 and 8, and zero for WO fields. -/
def Dev.shown (d : Dev) (r : Reg) (q i : Nat) : Word :=
  let a : At := ⟨primaryAt r q, i⟩
  let x := if r = .FLT_SRCCFG && (i / 16 = 7 || i / 16 = 8) then rstVal r a else d.rd r a
  let x := (d.computed r q i).foldl (fun x e => e.1.ins x e.2) x
  r.flds.foldl (fun x f => if f.acc = .wo then f.ins x 0 else x) x

/-- The instance of a port register whose slot is no port's first lane (R87). -/
def Dev.noPort (d : Dev) (r : Reg) (q i : Nat) : Bool := r.place.kind = .port && !d.pexists (slotPort q (i / r.place.n2))

/-- What a read does: RC fields clear (R8); a challenge is taken (R355); a chained counter is latched (R455). -/
def Dev.readEffect (d : Dev) (r : Reg) (q i : Nat) : Dev :=
  match r with
  | .SAG_CHAL => d.challengeRead
  | .PMC_CNT => d.pmcCntRead q i
  | .SAG_WIPE => if d.bit SAG_WIPE_ACTIVE ⟨q, i⟩ then d.freed else d
  | _ => r.flds.foldl (fun d f => if f.acc = .rc then d.put f ⟨q, i⟩ 0 else d) d

/-- The progress of a running wipe, in percent: the model does not follow it, so it is free. DESIGN CHOICE (log 69). -/
def Dev.wipeProgress (d : Dev) (r : Reg) (q i : Nat) (x : Word) : Word :=
  if r = .SAG_WIPE && d.bit SAG_WIPE_ACTIVE ⟨q, i⟩ then SAG_WIPE_PROGRESS.ins x (d.freeVal % 101) else x

/-- What the fields of a register have come to, where something runs that changes them: the adaptation of a receiver (R41), an eye
scan (R53), a pattern checker (R52). DESIGN CHOICE (log 30). -/
def Dev.observe (d : Dev) (r : Reg) (q i : Nat) : Dev :=
  let l := slotPort q i
  match r with
  | .LAN_RXEQ => d.background l
  | .LAN_ESSAMP => d.scanRuns l
  | .LAN_ESERR => d.scanRuns l
  | .LAN_PATERR => d.checkerRuns l
  | _ => d

/-- Read instance i of a register on die q. -/
def Dev.readReg (d : Dev) (r : Reg) (q i : Nat) : Dev × Word :=
  let q := if r.place.kind = .module then 0 else q
  if d.noPort r q i then (d, 0)
  else
    let d := d.observe r q i
    (d.readEffect r q i, d.wipeProgress r q i (d.shown r q i))

/-- The 64 bytes of a store entry (Table 17-6). -/
def StoreEntry.bytes (e : StoreEntry) : List Byte :=
  let l := toBytes 8 e.seq ++ toBytes 8 e.uptime ++ (e.words.map (toBytes 8)).flatten ++ toBytes 1 e.kind ++ toBytes 1 e.rung ++
    toBytes 2 e.dropped ++ toBytes 8 0
  l ++ toBytes 4 (crc32c l)

/-- The bits of word w of a group entry that have a meaning (Table 8-2). -/
def groupBits (w : Nat) : Nat :=
  if w = 0 then 0xFFFFF01FFFFFF else if w = 1 then 0xFFFF else if w ≤ 13 then 2 ^ 64 - 1 else 0

/-- Read a word of a table window of die q. Reserved bits read as zero (R9); the check of a bank sees them as written (Table 5-4).
DEDUCED (log 17). -/
def Dev.readTbl (d : Dev) (q : Nat) : TblWord → Nat
  | .route b w => d.routeEntry q b (2 * w) % 2 ^ 16 ||| (d.routeEntry q b (2 * w + 1) % 2 ^ 16) <<< 32
  | .pset b i w => d.cand q b i (2 * w) % 2 ^ 29 ||| (d.cand q b i (2 * w + 1) % 2 ^ 29) <<< 32
  | .gate k l e => if d.pexists (slotPort q k) then d.gateWord (slotPort q k) l e else 0
  | .group g w => d.groupWord q g w &&& groupBits w
  | .trap n w => (d.trapWords q n).getD w 0
  | .frec n w => match d.frec n with | some r => (r.words n).getD w 0 | none => 0
  | .store e w => match Tab.find d.flt.store e with | some x => ofBytes ((x.bytes.drop (8 * w)).take 8) | none => 0

/-- R465: diagnostic registers answer module firmware, and the other paths at debug level 2 or above. DESIGN CHOICE (log 68). -/
def Dev.diagOpen (d : Dev) (path : Path) : Bool := path = .firmware || 2 ≤ d.debugLevel

/-- Read the word at an aligned management address. DESIGN CHOICE (log 68). -/
def Dev.readAt (d : Dev) (path : Path) (a : Nat) : Dev × Word :=
  let q := adrDie a
  let blk := adrBlk a
  let off := adrOff a
  if d.fusedOff blk then (d, 0)
  else if isDiag off then (if blkListed blk && d.diagOpen path then (d.freed, BitVec.ofNat 64 d.freeVal) else (d, 0))
  else match regFind blk off with
    | some (r, i) => d.readReg r q i
    | none => match tblFind blk off with
      | some t => (d, BitVec.ofNat 64 (d.readTbl q t))
      | none => (d, 0)

/-! ## What a write does -/

/-- LNK_CMD. -/
def Dev.lnkCmd (d : Dev) (p : Nat) (v : Word) : Dev :=
  match LNK_CMD_CMD.of v with
  | 1 => d.cmdRetrain p
  | 2 => d.cmdOos p
  | 3 => d.cmdInService p
  | _ => d

/-- MCG_GCMD. -/
def Dev.gcmd (d : Dev) (q : Nat) (v : Word) : Dev :=
  let g := MCG_GCMD_GROUP.of v
  match MCG_GCMD_CMD.of v with
  | 1 => d.groupValidate q g
  | 2 => d.groupInvalidate q g
  | 3 => d.groupForce q g
  | _ => d.wrFields .MCG_GCMD (onDie q) v

/-- LAN_ESCTL: START, STOP, or the fields alone while no scan runs (R54). DESIGN CHOICE (log 132). -/
def Dev.eyeWrite (d : Dev) (l : Nat) (v : Word) : Dev :=
  if LAN_ESCTL_STOP.of v = 1 && d.bit LAN_ESCTL_BUSY (onLane l) then d.eyeStop l
  else if LAN_ESCTL_START.of v = 1 then d.eyeStart l v
  else if d.bit LAN_ESCTL_BUSY (onLane l) then d
  else d.wrFields .LAN_ESCTL (onLane l) v

/-- QUE_CMD (Table 9-9). -/
def Dev.queWrite (d : Dev) (q f : Nat) (v : Word) : Dev :=
  match QUE_CMD_OP.of v with
  | 0 => d
  | 1 => d.queueCreate q f
  | 2 => d.queuePause q f
  | 3 => d.queueResume q f
  | 4 => d.queueRecover q f
  | 5 => d.queueDestroy q f
  | 6 => d.queueQuery q f
  | _ => d.queCmd q f (fun _ _ d => d.put QUE_CMD_STATUS ⟨q, f⟩ ST_BAD_PARAM)

/-- RMX_CMD. -/
def Dev.rmxWrite (d : Dev) (q f : Nat) (v : Word) : Dev :=
  match RMX_CMD_OP.of v with
  | 0 => if d.bit RMX_CMD_BUSY ⟨q, f⟩ then d else d.wrFields .RMX_CMD ⟨q, f⟩ v
  | 1 => d.openConn q f v
  | 2 => d.closeConn q f v
  | 3 => d.queryConn q f v
  | 4 => d.registerRegion q f v
  | 5 => d.revokeRegion q f v
  | 6 => d.queryReg q f v
  | _ => if d.bit RMX_CMD_BUSY ⟨q, f⟩ then d else (d.wrFields .RMX_CMD ⟨q, f⟩ v).put RMX_CMD_STATUS ⟨q, f⟩ ST_BAD_PARAM

/-- MTC_CMD. -/
def Dev.mtcWrite (d : Dev) (q f : Nat) (v : Word) : Dev :=
  match MTC_CMD_OP.of v with
  | 0 => d
  | 1 => d.purge q f
  | _ => d.put MTC_CMD_STATUS ⟨q, f⟩ ST_BAD_PARAM

/-- XLT_LOADCMD. -/
def Dev.loadWrite (d : Dev) (q : Nat) (v : Word) : Dev :=
  match XLT_LOADCMD_OP.of v with
  | 0 => d
  | 1 => d.xltLoad q
  | 2 => d.xltRemove q
  | _ => d.put XLT_LOADCMD_STATUS (onDie q) ST_BAD_PARAM

/-- XLT_RESOLVE (Table 12-6). -/
def Dev.resolveWrite (d : Dev) (q : Nat) (v : Word) : Dev :=
  d.resolveTrap q (XLT_RESOLVE_ID.of v) (fun slot d =>
    match XLT_RESOLVE_ACTION.of v with
    | 0 => d.slotRetry q slot
    | 1 => d.slotAbsent q slot (XLT_RESOLVE_HINT.of v)
    | 2 => d.slotFail q slot ST_WALK_ERROR
    | _ => d.slotFail q slot ST_NOT_PERMITTED)

/-- XLT_CMD (Table 12-8). -/
def Dev.xltWrite (d : Dev) (q f : Nat) (v : Word) : Dev :=
  match XLT_CMD_OP.of v with
  | 0 => d
  | 1 => d.xltMap q f
  | 2 => d.xltUnmap q f
  | 3 => d.xltInval q f
  | 4 => d.xltInvalSpace q f
  | 5 => d.pgResp q f
  | _ => d.xltCmd q f (fun d => d.xltEnd q f ST_BAD_PARAM)

/-- FLT_ACCERR: clearing VALID starts COUNT anew (Table 17-10). DEDUCED (log 70). -/
def Dev.accErrWrite (d : Dev) (v : Word) : Dev :=
  let d' := d.wrFields .FLT_ACCERR onMod v
  if d.bit FLT_ACCERR_VALID onMod && !d'.bit FLT_ACCERR_VALID onMod then d'.put FLT_ACCERR_COUNT onMod 0 else d'

/-- KLN_CMD: a test is started by module firmware, the management port or JTAG (R447); a host port writes the fields alone. -/
def Dev.kilnWrite (d : Dev) (q : Nat) (path : Path) (v : Word) : Dev :=
  match path with
  | .host _ => d.kilnGo q (KLN_CMD_GO.ins v 0)
  | _ => d.kilnGo q v

/-- PMC_TRIG. DEDUCED (log 104). -/
def Dev.trigWrite (d : Dev) (v : Word) : Dev :=
  let d := d.wrFields .PMC_TRIG onMod v
  d.when (PMC_TRIG_GO.of v = 1) (·.pmcGo)

/-- Write instance i of a register on die q by a path. A register that acts on nothing but itself takes its fields (R8). -/
def Dev.writeReg (d : Dev) (path : Path) (r : Reg) (q i : Nat) (v : Word) : Dev :=
  let p := slotPort q (i / r.place.n2)
  match r with
  | .LAN_CTRL => d.laneCtrl p v
  | .LAN_TXEQ => d.txeq p v
  | .LAN_RXEQ => d.rxeq p v
  | .LAN_IDLE => d.idleWrite p v
  | .LAN_LPBK => d.loopback p v
  | .LAN_PATCTL => d.patternCtrl p v
  | .LAN_ESCTL => d.eyeWrite p v
  | .LAN_CLMAP => d.clusterMap (q * 16 + i) v
  | .LNK_CTRL => d.lnkCtrl p v
  | .LNK_CMD => d.lnkCmd p v
  | .PRT_RELEASE => d.prtRelease p (PRT_RELEASE_SCOPE.of v)
  | .RTE_EPOCH => d.rteEpoch q v
  | .FWD_SHARE => d.shareWrite p v
  | .FWD_INJ => d.fwdInj q v
  | .SCH_SHAPE => d.shapeWrite p (i % 16) v
  | .SCH_GATECTL => d.gateCtl p v
  | .MCG_GCMD => d.gcmd q v
  | .MCG_FENCECMD => if MCG_FENCECMD_GO.of v = 1 then d.fenceGo q path v else d.wrFields r ⟨q, i⟩ v
  | .NOC_MODECTL => d.nocModectl q v
  | .HST_FNQ => d.fnqWrite q (i / 4) (i % 4) v
  | .QUE_CMD => d.queWrite q i v
  | .QUE_KEYRIGHTS => d.keyrightsWrite q i v
  | .RMX_CMD => d.rmxWrite q i v
  | .RMX_FNRES => d.fnresWrite q (i / 3) (i % 3) v
  | .MTC_CMD => d.mtcWrite q i v
  | .MTC_FNRNDV => d.fnrndvWrite q i v
  | .XLT_LOADCMD => d.loadWrite q v
  | .XLT_RESOLVE => d.resolveWrite q v
  | .XLT_CMD => d.xltWrite q i v
  | .XLT_SPACE => d.spaceWrite q i false v
  | .XLT_SPACEROOT => d.spaceWrite q i true v
  | .SAG_DBG => d.lowerLevel (SAG_DBG_LOWER.of v)
  | .SAG_TOKCMD => d.tokCommand q path v
  | .SAG_KEYCMD => d.keyCommand q i v
  | .SAG_KEYBUF => d.wr r ⟨q, i⟩ v
  | .CFG_SLOTCMD => d.slotCommand path v
  | .CFG_FLASHCMD => d.flashWrite v
  | .MGT_CTRL => d.mgtCtrl v
  | .MGT_OOBCMD => d.oobCmd v
  | .PWR_CTRL => d.pwrCtrl v
  | .PWR_DOMCTL => d.domctl q v
  | .FLT_ACK => d.fltAck v
  | .FLT_FAULTN => d.fltFaultn v
  | .FLT_ACCERR => d.accErrWrite v
  | .FLT_STORECMD => d.when (FLT_STORECMD_ERASE.of v = 1) (·.storeErase)
  | .FLT_SRCCFG => if i / 16 = 7 || i / 16 = 8 then d else d.wrFields r ⟨q, i⟩ v
  | .KLN_CMD => d.kilnWrite q path v
  | .PMC_SEL => d.pmcSel q i v
  | .PMC_CNT => d.pmcCntWrite q i v
  | .PMC_RINGCTL => d.ringCtl v
  | .PMC_TRIG => d.trigWrite v
  | .PMC_RINGCI => d.ringCi v
  | _ => d.wrFields r ⟨q, i⟩ v

/-- Write a word of a table window of die q; trap records, fault records and store entries are read only. -/
def Dev.writeTbl (d : Dev) (q : Nat) (v : Word) : TblWord → Dev
  | .route b w => d.routeWrite q b w v
  | .pset b i w => d.psetWrite q b i w v
  | .gate k l e => d.gateWrite (slotPort q k) l e v
  | .group g w => d.groupWrite q g w v
  | _ => d

/-- Write the word at an aligned management address. The content of diagnostic registers is no part of the interface (R465).
DESIGN CHOICE (log 68). -/
def Dev.writeAt (d : Dev) (path : Path) (a : Nat) (v : Word) : Dev :=
  let q := adrDie a
  let blk := adrBlk a
  let off := adrOff a
  if d.fusedOff blk || isDiag off then d
  else match regFind blk off with
    | some (r, i) =>
      if (r.place.kind = .module && q ≠ 0) || d.noPort r q i then d else d.writeReg path r q i v
    | none => match tblFind blk off with
      | some t => d.writeTbl q v t
      | none => d

end Sys2Proof.Machine
end

