-- ==== Sys2Proof/Machine/AccessCmds.lean ====
section
/-! DEFINITION. Register accesses by the paths of Table 19-1: what a path may reach (R359, R385, R466), refusals (R475), accesses
that wake a domain or wait for a mesh switch (R422, R343), and what each path shows of the outcome (R467, R468, R397, R403). -/

namespace Sys2Proof.Machine

/-! ## What a path may reach -/

/-- The registers that the management port reads in SCRAPPED (M0), and the two that JTAG reads at level 0 (J0). -/
def regIs (a : Nat) (p : Reg → Nat → Bool) : Bool := match regFind (adrBlk a) (adrOff a) with | some (r, i) => p r i | none => false

/-- R385, Table 14-5: M, M0 and the limit before step 6 of Table 15-8. DEDUCED (log 66, 73). -/
def Dev.mgmtMay (d : Dev) (a : Nat) (write : Bool) : Bool :=
  if d.lifeCycle = 4 then !write && regIs a (fun r _ => r = .CFG_IDENT || r = .SAG_UID || r = .SAG_LC)
  else 5 ≤ d.boot.step || adrBlk a = 0x20 || adrBlk a = 0x21 || adrBlk a = 0x22 || adrBlk a = 0x25

/-- A register or table window that is held per die, of a host port's own die. DEDUCED (log 67). -/
def hostWrites (h a : Nat) : Bool :=
  let b := adrBlk a
  regIs a (fun r _ => r = .CFG_SLOTCMD) ||
  (adrDie a = h &&
    ((decide (1 ≤ b) && decide (b ≤ 0x14)) || b = 0x26 || b = 0x28 ||
     ((b = 0x23 || b = 0x24 || b = 0x27) && regIs a (fun r _ => r.place.kind ≠ .module))))

/-- The path allows the access (Table 19-1, Table 14-5). DEDUCED (log 67). -/
def Dev.pathMay (d : Dev) (path : Path) (a : Nat) (write : Bool) : Bool :=
  let sag := adrBlk a = 0x20
  match path with
  | .firmware => true
  | .mgmt => d.mgmtMay a write
  | .host h => if write then hostWrites h.val a else !sag || regIs a (fun r _ => r = .SAG_UID || r = .SAG_LC || r = .SAG_DBG)
  | .jtag =>
    if write then 2 ≤ d.debugLevel && !regIs a (fun r i => r = .SAG_KEYCMD && i = 256)
    else if sag then regIs a (fun r _ => r = .SAG_UID || r = .SAG_LC)
    else 1 ≤ d.debugLevel
  | .ring => d.bit MGT_CTRL_OOB_EN onMod && d.mgmtMay a write && !regIs a (fun r _ => r = .SAG_KEYCMD || r = .SAG_KEYBUF)
  | .fwMsg => d.bit CFG_CTRL_REMOTE_EN onMod && !sag
  | .bar _ _ _ => true

/-- The die that a path's accesses start from. -/
def pathDie (path : Path) (a : Nat) : Nat :=
  match path with
  | .host h => h.val
  | .bar h _ _ => h.val % 4
  | .firmware => adrDie a
  | .fwMsg => adrDie a
  | _ => 0

/-- The code of a path in FLT_ACCERR (Table 17-10). -/
def pathCode : Path → Nat
  | .mgmt => 0
  | .host _ => 1
  | .bar h _ _ => if h.val = 4 then 0 else 1
  | .jtag => 2
  | .firmware => 3
  | .ring => 4
  | .fwMsg => 5

/-- The number under which a path's read values leave the module: BAR4 of port h 16 + h, BAR0 and BAR2 of function f of port h
32 + 2 × (256 × h + f) and one above. -/
def pathOut : Path → Nat
  | .firmware => 0
  | .mgmt => 1
  | .jtag => 2
  | .host h => 3 + h.val
  | .bar h f b => if b.val = 2 then bar4Path h.val else 32 + (h.val * 256 + f.val) * 2 + b.val
  | .ring => 7
  | .fwMsg => 8

/-! ## Refusals -/

/-- A refused access is captured while VALID is 0, and counted (R475, Table 17-10). -/
def Dev.accErr (d : Dev) (path : Path) (a reason : Nat) : Dev :=
  let d := if d.bit FLT_ACCERR_VALID onMod then d
    else (((d.put FLT_ACCERR_VALID onMod 1).put FLT_ACCERR_PATH onMod (pathCode path)).put FLT_ACCERR_REASON onMod reason).put
      FLT_ACCERR_ADDR onMod a
  d.incF FLT_ACCERR_COUNT onMod

/-- All ones. -/
def allOnes : Word := ~~~ (0 : Word)

/-- The outcome of an access. -/
inductive AccRes where
  /-- performed: what a read returns, the data of a write -/
  | done (v : Word)
  /-- refused with a status -/
  | refused (st : Nat)
  /-- waits for a domain or for a mesh switch -/
  | stalls
deriving DecidableEq, Repr

/-! ## Performing an access -/

/-- The region of the lane, port or cluster that an address names. DEDUCED (log 71). -/
def adrRegion (a : Nat) : Option Nat :=
  match regFind (adrBlk a) (adrOff a) with
  | some (r, i) => (laneSlot r i).map (fun k => adrDie a * 4 + k / 32)
  | none => match tblFind (adrBlk a) (adrOff a) with
    | some (.gate k _ _) => some (adrDie a * 4 + k / 32)
    | _ => none

/-- R347: the die whose gateway answers for a die that does not; none when the access crosses no bridge. DEDUCED (log 54). -/
def Dev.lastGateway (d : Dev) (s q : Nat) : Option Nat :=
  if s = q then none
  else match d.route s q (128 * s) (128 * q) 0 with
    | some l => some ((l.reverse.drop 1).headD s)
    | none => some s

/-- R347: the access is refused because its die is in reset or cannot be reached. -/
def Dev.unreachable (d : Dev) (x : Access) : Dev × AccRes :=
  let q := adrDie x.addr
  let d := d.accErr x.path x.addr 3
  match d.lastGateway (pathDie x.path x.addr) q with
  | some g => (d.inc .NOC_GWERR (onDie g), .refused ST_NOT_READY)
  | none => (d, .refused ST_NOT_READY)

/-- R420 to R422: the access reaches its domain: an entry under way is aborted, a domain in Stop wakes. DEDUCED (log 66, 71). -/
def Dev.reachDomain (d : Dev) (a : Nat) : Dev :=
  let d := (d.arrivalDie (adrDie a)).wakeDie (adrDie a)
  match adrRegion a with
  | some m => if d.dieOff (adrDie a) then d else (d.arrival m).wakeRegion m
  | none => d

/-- The domain of an address serves accesses. -/
def Dev.domainServes (d : Dev) (a : Nat) : Bool :=
  !d.dieOff (adrDie a) && (match adrRegion a with | some m => !d.regionOff m | none => true)

/-- R343: the mesh of the die that the access starts from, or of its target, holds new requests. DEDUCED (log 71). -/
def Dev.accessHeld (d : Dev) (x : Access) : Bool := d.meshHold (adrDie x.addr) || d.meshHold (pathDie x.path x.addr)

/-- The access itself. -/
def Dev.performAccess (d : Dev) (x : Access) : Dev × AccRes :=
  match x.data with
  | some v => (d.writeAt x.path x.addr v, .done v)
  | none => match d.readAt x.path x.addr with | (d, v) => (d, .done v)

/-- An access: path first (R466), then alignment (R10), then the die (R347), the domain (R422), the mesh (R343). -/
def Dev.tryAccess (d : Dev) (x : Access) : Dev × AccRes :=
  if !d.pathMay x.path x.addr x.data.isSome then (d.accErr x.path x.addr 2, .refused ST_NOT_PERMITTED)
  else if x.addr % 8 ≠ 0 then (d.accErr x.path x.addr 1, .refused ST_BAD_PARAM)
  else if d.dieInReset (adrDie x.addr) then d.unreachable x
  else if !d.domainServes x.addr then ((d.reachDomain x.addr), .stalls)
  else if (d.lastGateway (pathDie x.path x.addr) (adrDie x.addr)).isSome &&
      (d.route (pathDie x.path x.addr) (adrDie x.addr) (128 * pathDie x.path x.addr) (128 * adrDie x.addr) 0).isNone then d.unreachable x
  else if d.accessHeld x then (d, .stalls)
  else (d.reachDomain x.addr).performAccess x

/-! ## What a path shows -/

/-- The window of a path: 0 the management port's, 1 to 4 the host ports'. -/
def pathWindow : Path → Option Nat
  | .mgmt => some 0
  | .host h => some (h.val + 1)
  | _ => none

/-- The value that a path reads: all ones when it is refused. -/
def AccRes.value : AccRes → Word
  | .done v => v
  | _ => allOnes
def AccRes.status : AccRes → Nat
  | .refused st => st
  | _ => ST_OK

/-- An access completes on its path. -/
def Dev.accessEnds (d : Dev) (x : Access) (r : AccRes) : Dev :=
  match x.path with
  | .jtag => { d with acc := { d.acc with jtag := (x.addr, (match x.data with | some v => v.toNat | none => r.value.toNat),
                                                   if r.status = ST_OK then 0 else 2) } }
  | .ring => (d.inc .MGT_OOBIN onMod).ringSend frRESP x.src x.tag (r.status ||| (if x.data.isSome then 0 else r.value.toNat <<< 64))
  | _ =>
    let d := match pathWindow x.path with
      | some w => { d with acc := { d.acc with status := Tab.set d.acc.status ST_OK w r.status } }
      | none => d
    if x.data.isSome then d else d.emit (.readValue (pathOut x.path) r.value)

/-- An access by a path: it completes, or it stalls in arrival order. The management port serves nothing before step 2 of
Table 15-8 (R385). DEDUCED (log 67, 72). -/
def Dev.runAccess (d : Dev) (x : Access) : Dev :=
  if x.path = .mgmt && d.boot.step = 0 then d
  else match d.tryAccess x with
    | (d, .stalls) => { d with acc := { d.acc with stalled := d.acc.stalled ++ [x] } }
    | (d, r) => d.accessEnds x r

/-- The accesses that have stalled are tried again, in arrival order. -/
def Dev.serveStalled (d : Dev) : Dev :=
  let l := d.acc.stalled
  ({ d with acc := { d.acc with stalled := [] } }).each l (fun x d => d.runAccess x)

/-- R10: an access that has not 64 bits changes no register and is recorded; a read returns all ones. A path that may not make the
access is refused first (R466). -/
def Dev.narrowAccess (d : Dev) (x : Access) : Dev :=
  if x.path = .mgmt && d.boot.step = 0 then d
  else if !d.pathMay x.path x.addr x.data.isSome then (d.accErr x.path x.addr 2).accessEnds x (.refused ST_NOT_PERMITTED)
  else (d.accErr x.path x.addr 1).accessEnds x (.refused ST_BAD_PARAM)

/-- REGISTER_WRITE; `whole` that the access has 64 bits. -/
def Dev.regWriteCmd (d : Dev) (path : Path) (a : Nat) (whole : Bool) (v : Word) : Dev :=
  if whole then d.runAccess ⟨path, a, some v, 0, 0⟩ else d.narrowAccess ⟨path, a, some v, 0, 0⟩
/-- RC_READ; `whole` that the access has 64 bits. -/
def Dev.regReadCmd (d : Dev) (path : Path) (a : Nat) (whole : Bool) : Dev :=
  if whole then d.runAccess ⟨path, a, none, 0, 0⟩ else d.narrowAccess ⟨path, a, none, 0, 0⟩

/-! ## Register windows (R467) -/

/-- The host port of a window answers: form N, its link is up. DEDUCED (log 72). -/
def Dev.windowLive (d : Dev) (w : Nat) : Bool := w = 0 || (!d.sys.formS && d.bit HST_STAT_LINK_UP (onDie (w - 1)))

def windowPath (w : Nat) : Path := if w = 0 then .mgmt else .host (Fin.ofNat 4 (w - 1))

/-- The ADDR word of a window. -/
def Dev.windowAddr (d : Dev) (w : Nat) : Nat := Tab.get d.acc.addr 0 w
/-- DEDUCED (log 72). -/
def Dev.setWindowAddr (d : Dev) (w x : Nat) : Dev := { d with acc := { d.acc with addr := Tab.set d.acc.addr 0 w x } }

/-- The ADDR word as written: AUTOINC and the address. -/
def addrWord (v : Word) : Nat := bits v.toNat 63 1 * 2 ^ 63 + bits v.toNat 0 36
/-- After a DATA access with AUTOINC, OFFSET is 8 more, within [25:0]. -/
def addrNext (x : Nat) : Nat := if bits x 63 1 = 1 then x - adrOff x + (adrOff x + 8) % 2 ^ 26 else x

/-- A DATA access through window w. `set` is the ADDR word written since the last access, if any; `whole` that the access has 64
bits and is aligned: any other is recorded and changes no word (R467). DEDUCED (log 72). -/
def Dev.windowData (d : Dev) (w : Nat) (set : Option Word) (whole : Bool) (data : Option Word) : Dev :=
  if !d.windowLive w || (w = 0 && d.boot.step = 0) then d
  else
    let d := match set with | some v => d.setWindowAddr w (addrWord v) | none => d
    let x := d.windowAddr w
    let a := x % 2 ^ 36
    if !whole then
      let d := d.accErr (windowPath w) a 1
      if data.isSome then d else d.emit (.readValue (pathOut (windowPath w)) allOnes)
    else (d.setWindowAddr w (addrNext x)).runAccess ⟨windowPath w, a, data, 0, 0⟩

def Dev.windowRead (d : Dev) (w : Nat) (set : Option Word) (whole : Bool) : Dev := d.windowData w set whole none
def Dev.windowWrite (d : Dev) (w : Nat) (set : Option Word) (whole : Bool) (v : Word) : Dev := d.windowData w set whole (some v)

/-! ## REGACC (R468) -/

/-- Update-DR: OP 1 read, 2 write; another OP starts nothing. The access runs until it completes. -/
def Dev.regaccUpdate (d : Dev) (op addr : Nat) (v : Word) : Dev :=
  let a := addr % 2 ^ 36
  if op = 1 || op = 2 then
    ({ d with acc := { d.acc with jtag := (a, v.toNat, 1) } }).runAccess ⟨.jtag, a, if op = 2 then some v else none, 0, 0⟩
  else d

/-- Capture-DR: the result code, the address and the data of the last access. -/
def Dev.regaccCapture (d : Dev) : Dev := d.emit (.jtag d.acc.jtag.2.2 (BitVec.ofNat 64 d.acc.jtag.2.1))

/-! ## The ring and FW_MSG as targets (R403, R397) -/

/-- A READ or WRITE frame. -/
def Dev.ringAccess' (d : Dev) (type : Nat) (f : Frame) : Dev :=
  d.frameFor type f (fun d =>
    d.runAccess ⟨.ring, frBytes f 8 8 % 2 ^ 36, if type = frWRITE then some (BitVec.ofNat 64 (frBytes f 16 8)) else none, frSrc f, frTag f⟩)
def Dev.ringRead (d : Dev) (f : Frame) : Dev := d.ringAccess' frREAD f
def Dev.ringWriteIn (d : Dev) (f : Frame) : Dev := d.ringAccess' frWRITE f

/-- Module firmware serves an FW_MSG: the status and the data of the answer; one that cannot be served at once gets ST_NOT_READY.
DEDUCED (log 64). -/
def Dev.fwServe (d : Dev) (op addr data : Nat) : Dev × Nat × Nat :=
  if op = 3 then (d, ST_OK, (d.shown .CFG_BOOTSTATUS 0 0).toNat)
  else
    match d.tryAccess ⟨.fwMsg, addr, if op = 2 then some (BitVec.ofNat 64 data) else none, 0, 0⟩ with
    | (d, .stalls) => (d, ST_NOT_READY, 0)
    | (d, .done v) => (d, ST_OK, if op = 2 then 0 else v.toNat)
    | (d, .refused st) => (d, st, if op = 2 then 0 else allOnes.toNat)

/-- An FW_MSG that the router has delivered for module firmware of die q: it is consumed; one with ENC = 1 is dropped as AUTH
(R371); a FWOP of Table 15-12 is answered. DEDUCED (log 64). -/
def Dev.fwMsgIn (d : Dev) (q : Nat) (k : Packet) : Dev :=
  if k.type ≠ tFW_MSG then d
  else
    let d := d.takeDlv q 512 k
    let op := ofBytes (k.oper.take 1)
    if k.enc then d.inc .RMX_DROPAUTH (onDie q)
    else if op = 0 || 3 < op then d
    else
      match d.fwServe op (ofBytes ((k.oper.drop 4).take 5) % 2 ^ 36) (ofBytes ((k.oper.drop 16).take 8)) with
      | (d, st, v) =>
        d.fwSend q (fwPacket tFW_RSP k.tc (d.nodeId * 256 + q * 64) k.src (fwOper op (ofBytes ((k.oper.drop 1).take 2)) st 0 v))

/-! ## SMBus and Configuration Requests (R491, R385) -/

/-- The value of a Read Word or Read Block command; none for another code. DEDUCED (log 75). -/
def Dev.smbusValue (d : Dev) (code : Nat) : Option (List Nat) :=
  let vin := d.pwr.vin
  let m (x : Nat) : Nat := if vin then x else 0
  match code with
  | 1 => some [m (d.get PWR_STAT_VIN onMod)]
  | 2 => some [m (d.get PWR_STAT_IIN onMod)]
  | 3 => some [m (d.get PWR_STAT_PIN onMod)]
  | 4 => some [m (d.get PWR_THERM_TJ onMod)]
  | 5 => some [d.cone ||| (d.get PWR_STAT_WARN onMod) <<< 3 ||| (d.get PWR_THERM_THROTTLE onMod) <<< 4 |||
      (d.get PWR_STAT_CAPMISS onMod) <<< 5 ||| d.flt.pin.toNat <<< 6 ||| (!vin).toNat <<< 7]
  | 6 => some ((toBytes 8 d.sys.uid).map (·.toNat))
  | _ => none

/-- SMBUS_READ to a 7-bit address: an empty reply is a NACK. DEDUCED (log 75). -/
def Dev.smbusRead (d : Dev) (adr code : Nat) : Dev :=
  if adr ≠ 0x58 + d.sys.straps || !(d.pwr.vin || d.pwr.vstby) then d
  else d.emit (.smbus ((d.smbusValue code).getD []))

/-- CONFIGURATION_REQUEST at host port q: nothing before step 7 of Table 15-8 or on form S; Retry until the die is calibrated.
DEDUCED (log 76). -/
def Dev.configRequest (d : Dev) (q : Nat) : Dev :=
  if d.sys.formS || d.boot.step < 5 || d.boot.step = 8 then d
  else d.emit (.cfgAnswer q (!d.kln.booting.contains q))

end Sys2Proof.Machine
end

