-- ==== Sys2Proof/Machine/Bars.lean ====
section
/-! DEFINITION. The BARs of the host ports' functions and of the management port (R228, R229, R254, R285, R307, R335, R362, R466):
what a read and a write of an offset do. -/

namespace Sys2Proof.Machine

/-! ## BAR0 -/

/-- f is a physical function (R225). -/
def isPf (f : Nat) : Bool := f % 64 = 0

/-- Sizes and offsets of Table 9-2: the BARs, the key-rights array, the MSI-X table. -/
def barSize (f b : Nat) : Nat :=
  if isPf f then (match b with | 0 => 2 ^ 26 | 1 => 2 ^ 30 | _ => 2 ^ 21) else (match b with | 0 => 2 ^ 20 | 1 => 2 ^ 26 | _ => 0)
def keysBase (f : Nat) : Nat := if isPf f then 0x80000 else 0x8000
def msixBase (f : Nat) : Nat := if isPf f then 0x100000 else 0x10000

/-- The command windows of a function: its block and the management offset of its first register (R254, R285, R307, R335, R362).
DEDUCED (log 145). -/
def cmdWindow (f w : Nat) : Option (Nat × Nat × Nat) :=
  match w with
  | 0 => some (0x11, 0x100 * f, 9)
  | 1 => some (0x12, 0x10000 + 0x100 * f, 5)
  | 2 => some (0x13, 0x30000 + 8 * f, 1)
  | 3 => some (0x14, 0x40000 + 0x100 * f, 5)
  | 4 => some (0x20, 0x10000 + 0x100 * f, 5)
  | _ => none

/-- The management address of a register of die q. -/
def mgmtAdr (q blk off : Nat) : Nat := q * 2 ^ 34 + blk * 2 ^ 26 + off

/-- The register behind an offset of BAR0: one of a command window, in the order of its management addresses (DEDUCED), or a key-rights
word by local number. DEDUCED (log 145). -/
def Dev.barReg (d : Dev) (q f a : Nat) : Option Nat :=
  if a < 0x5000 then
    match cmdWindow f (a / 0x1000) with
    | some (blk, off, n) => if a % 0x1000 < 8 * n then some (mgmtAdr q blk (off + a % 0x1000)) else none
    | none => none
  else if keysBase f ≤ a && a < msixBase f then
    (d.globalOf q f kWQ ((a - keysBase f) / 8)).map (fun g => mgmtAdr q 0x11 (0x2000000 + 8 * g + a % 8))
  else none

/-! ## MSI-X tables (Table 9-2, R466) -/

/-- The words of MSI-X tables: the address of an entry, its data and control, and the pending bits of 64 vectors. -/
inductive MsixWord where
  | addr (v : Nat)
  | data (v : Nat)
  | pend (i : Nat)
deriving DecidableEq, Repr

/-- The word at an aligned offset, for a table of n vectors at `base`; the pending bits lie 0x1000 above the end of a table of a function
(DESIGN CHOICE), and at `pba` for the management port. DESIGN CHOICE (log 144). -/
def msixWord (base pba n a : Nat) : Option MsixWord :=
  if base ≤ a && a < base + 16 * n then
    some (if (a - base) % 16 = 0 then .addr ((a - base) / 16) else .data ((a - base) / 16))
  else if pba ≤ a && a < pba + 8 * ((n + 63) / 64) then some (.pend ((a - pba) / 8))
  else none

/-- The MSI-X word at an offset of BAR0 of function f of port h. DESIGN CHOICE (log 144). -/
def barMsix (h f a : Nat) : Option MsixWord :=
  if h = 4 then msixWord 0x80000 0x81000 32 a
  else msixWord (msixBase f) (msixBase f + 16 * vectorsOf f + 0x1000) (vectorsOf f) a

/-- PRESUMED (log 143). -/
def Dev.msixRead (d : Dev) (h f : Nat) : MsixWord → Nat
  | .addr v => (d.msixEnt h f v).addr
  | .data v => (d.msixEnt h f v).data ||| (d.msixEnt h f v).ctl <<< 32
  | .pend i => ((List.range 64).map (fun j => if Tab.get d.hst.pba false (msixKey h f (64 * i + j)) then 2 ^ j else 0)).sum

/-- A write of a table word; the pending bits are read only, and of the vector control only the mask is kept (PRESUMED).
PRESUMED (log 143). -/
def Dev.msixWrite (d : Dev) (h f x : Nat) : MsixWord → Dev
  | .addr v => d.msixSet h f v { d.msixEnt h f v with addr := x }
  | .data v => d.msixSet h f v { d.msixEnt h f v with data := bits x 0 32, ctl := bits x 32 1 }
  | .pend _ => d

/-! ## BAR2 (R228, R229) -/

/-- QSPAN. -/
def qspan (f : Nat) : Nat := if isPf f then 2 ^ 28 else 2 ^ 24

/-- A write of BAR2: a doorbell, or a malformed write that counts in HST_DBERR. DESIGN CHOICE (log 146). -/
def Dev.doorbellWrite (d : Dev) (q f a : Nat) (whole : Bool) (v : Word) : Dev :=
  let k := a / qspan f
  let ok := whole && a % 4096 = 0
  if k ≤ kRQ then d.producerDoorbell q k f (a % qspan f / 4096) v ok else d.consumerDoorbell q k f (a % qspan f / 4096) v ok

/-- A read of BAR2: at a doorbell slot the index of the last accepted doorbell, zero elsewhere and of a FREE queue.
DESIGN CHOICE (log 146). -/
def Dev.doorbellRead (d : Dev) (q f a : Nat) : Nat :=
  if a % 4096 ≠ 0 then 0
  else match d.localQueue q f (a / qspan f) (a % qspan f / 4096) with
    | some (_, x) => x.bell
    | none => 0

/-! ## Accesses -/

/-- The BAR answers: the management port from step 2 of Table 15-8 on (R385), a host port with its link up, for a function that is on
the bus and an offset within the BAR. DEDUCED (log 120). -/
def Dev.barLive (d : Dev) (h f b a : Nat) : Bool :=
  if h = 4 then d.boot.step ≠ 0 && f = 0 && b = 0 && a < 2 ^ 20
  else d.windowLive (h + 1) && d.funcOn h f && a < barSize f b

/-- The offset of the register window in BAR0, where the function has one (R466). DEDUCED (log 145). -/
def barWindow (h f a : Nat) : Option Nat :=
  if h = 4 then (if a < 24 then some a else none)
  else if f = 0 && 0x1000000 ≤ a && a < 0x1000018 then some (a - 0x1000000) else none

/-- An access to BAR0 that has 64 bits and is aligned: the register window, a register, an MSI-X word; any other offset reads zero and
ignores writes. DEDUCED (log 145). -/
def Dev.bar0 (d : Dev) (h : Fin 5) (f : Fin 256) (b : Fin 3) (a : Nat) (data : Option Word) : Dev :=
  let path : Path := .bar h f b
  let w := if h.val = 4 then 0 else h.val + 1
  let reads (x : Nat) (d : Dev) : Dev := if data.isSome then d else d.emit (.readValue (pathOut path) (BitVec.ofNat 64 x))
  match barWindow h.val f.val a with
  | some 8 => d.windowData w none true data
  | some 0 => (match data with | some v => d.setWindowAddr w (addrWord v) | none => reads (d.windowAddr w) d)
  | some _ => reads (Tab.get d.acc.status ST_OK w) d
  | none =>
    match (if h.val = 4 then none else d.barReg h.val f.val a) with
    | some m => d.runAccess ⟨path, m, data, 0, 0⟩
    | none =>
      match barMsix h.val f.val a with
      | some x => (match data with | some v => d.msixWrite h.val f.val v.toNat x | none => reads (d.msixRead h.val f.val x) d)
      | none => reads 0 d

/-- An access to BAR4: an aligned 64-bit read or write of a counter; any other changes nothing and reads all ones (DESIGN CHOICE).
DESIGN CHOICE (log 146). -/
def Dev.bar4 (d : Dev) (q : Nat) (path : Path) (a : Nat) (whole : Bool) (data : Option Word) : Dev :=
  match data with
  | some v => if whole && a % 8 = 0 then d.counterWrite q (a / 8) v else d
  | none => d.emit (.readValue (pathOut path) (if whole && a % 8 = 0 then BitVec.ofNat 64 (d.ctr q (a / 8)) else allOnes))

/-- An access to a BAR. One to BAR0 that has not 64 bits or is not aligned is recorded and changes nothing (R10). -/
def Dev.barAccess (d : Dev) (h : Fin 5) (f : Fin 256) (b : Fin 3) (a : Nat) (whole : Bool) (data : Option Word) : Dev :=
  if !d.barLive h.val f.val b.val a then d
  else match b.val with
    | 0 => if whole && a % 8 = 0 then d.bar0 h f b a data else d.narrowAccess ⟨.bar h f b, a, data, 0, 0⟩
    | 1 =>
      (match data with
       | some v => d.doorbellWrite h.val f.val a whole v
       | none => d.emit (.readValue (pathOut (.bar h f b)) (BitVec.ofNat 64 (d.doorbellRead h.val f.val a))))
    | _ => d.bar4 h.val (.bar h f b) a whole data

/-- REGISTER_WRITE: by a path of Table 19-1, or in a BAR. -/
def Dev.registerWrite (d : Dev) (path : Path) (a : Nat) (whole : Bool) (v : Word) : Dev :=
  match path with
  | .bar h f b => d.barAccess h f b a whole (some v)
  | _ => d.regWriteCmd path a whole v

/-- RC_READ: by a path of Table 19-1, or in a BAR. -/
def Dev.registerRead (d : Dev) (path : Path) (a : Nat) (whole : Bool) : Dev :=
  match path with
  | .bar h f b => d.barAccess h f b a whole none
  | _ => d.regReadCmd path a whole

end Sys2Proof.Machine
end

