-- ==== Sys2Proof/Machine/Boot.lean ====
section
/-! DEFINITION. The Zoruri image and the configuration part (R378 to R381), start-up calibration (R384, R449). -/

namespace Sys2Proof.Machine

/-! ## Records (R379) -/

/-- A record: TYPE, CRITICAL and the LENGTH bytes of its body. -/
structure CfgRec where
  type : Nat
  critical : Bool
  body : List Byte
deriving DecidableEq, Repr

/-- n records from the front of a byte list; none when the bytes end first. DEDUCED (log 58). -/
def cfgRecords : Nat → List Byte → Option (List CfgRec)
  | 0, _ => some []
  | n + 1, l =>
    let len := ofBytes ((l.drop 4).take 4)
    let size := 16 + (len + 15) / 16 * 16
    if l.length < size then none
    else (cfgRecords n (l.drop size)).map (fun t => ⟨ofBytes (l.take 2), (ofBytes ((l.drop 2).take 1)).testBit 0, (l.drop 16).take len⟩ :: t)

/-- A number of k bytes at an offset of a body; bytes past its end are padding. -/
def CfgRec.nat (r : CfgRec) (o k : Nat) : Nat := ofBytes ((r.body.drop o).take k)

/-- The entries of 16 bytes of a body. -/
def CfgRec.pairs (r : CfgRec) : List (Nat × Nat) := (List.range (r.body.length / 16)).map (fun i => (r.nat (16 * i) 8, r.nat (16 * i + 8) 8))

/-! ## The configuration part (R378, R380) -/

/-- The bytes of the configuration part of a slot. -/
def Dev.cfgPart (d : Dev) (s : Nat) : List Byte := d.flashBytes (imageBase s 2 + 64 + d.fwLen s 2) (d.cfgLen s 2)

def cfgAuth (l : List Byte) : Nat := ofBytes ((l.drop 8).take 1)
def cfgVersion (l : List Byte) : Nat := ofBytes (l.take 4)
/-- The bytes that the signature or hash ends, and what it covers. -/
def cfgTail (l : List Byte) : List Byte := l.drop (l.length - if cfgAuth l = 1 then 96 else 48)
def cfgCovered (l : List Byte) : List Byte := l.take (l.length - if cfgAuth l = 1 then 96 else 48)
/-- Its records. -/
def cfgBody (l : List Byte) : Option (List CfgRec) := cfgRecords (ofBytes ((l.drop 4).take 4)) ((cfgCovered l).drop 32)

/-- The 96 bytes of the OPKEY record that comes first. -/
def cfgKey (l : List Byte) : List Byte := ((cfgCovered l).drop 48).take 96

/-- R380: the part is authentic. -/
def Dev.cfgAuthentic (d : Dev) (l : List Byte) : Bool :=
  match d.sys.opkey with
  | some h =>
    cfgAuth l = 1 && ofBytes (((cfgCovered l).drop 32).take 2) = 0x0104 && Config.sha384 (cfgKey l) = h &&
      Config.p384Verify (cfgKey l) (Config.sha384 (cfgCovered l)) ((cfgTail l).take 48) ((cfgTail l).drop 48)
  | none => cfgAuth l = 0 && ofBytes (cfgTail l) = Config.sha384 (cfgCovered l)

/-! ## Applying a configuration (R380) -/

/-- The fields in which registers report a refusal. -/
def refusalFields : List Fld :=
  [LAN_TXEQ_EQERR, LAN_LPBK_STATUS, LAN_CLMAP_STATUS, LNK_CTRL_STATUS, PRT_RELEASE_STATUS, RTE_EPOCH_STATUS, FWD_INJ_STATUS,
   FWD_SHARE_STATUS, SCH_GATECTL_STATUS, MCG_GCMD_STATUS, MCG_FENCECMD_STATUS, NOC_MODECTL_STATUS, HST_FNQ_STATUS, QUE_CMD_STATUS,
   RMX_CMD_STATUS, RMX_FNRES_STATUS, MTC_FNRNDV_STATUS, MTC_CMD_STATUS, XLT_LOADCMD_STATUS, XLT_SPACE_STATUS, XLT_CMD_STATUS,
   MGT_OOBCMD_STATUS, PWR_DOMCTL_STATUS, FLT_ACK_STATUS, FLT_STORECMD_STATUS, PMC_SEL_STATUS, PMC_RINGCTL_STATUS]

/-- The field in which a written register reports a refusal: its own, or that of the register beside it. DEDUCED (log 58). -/
def Reg.refusal (r : Reg) : Option Fld :=
  match r with
  | .LNK_CMD => some LNK_STAT_CMD_STATUS
  | .KLN_CMD => some KLN_RESULT_STATUS
  | .XLT_SPACEROOT => some XLT_SPACE_STATUS
  | _ => refusalFields.find? (fun f => f.reg = r)

/-- The register at an address reports a refusal. -/
def Dev.reportsRefusal (d : Dev) (a : Nat) : Bool :=
  match regFind (adrBlk a) (adrOff a) with
  | some (r, i) =>
    match r.refusal with
    | some f => d.get f ⟨if r.place.kind = .module then 0 else adrDie a, i⟩ ≠ 0
    | none => false
  | none => false

/-- An address that no REGISTERS pair may name: the SAG block, CFG_SLOTCMD, CFG_FLASHCMD. -/
def cfgExcluded (a : Nat) : Bool :=
  adrBlk a = 0x20 ||
  (match regFind (adrBlk a) (adrOff a) with | some (r, _) => r = .CFG_SLOTCMD || r = .CFG_FLASHCMD | none => false)

/-- One REGISTERS pair; none when it fails the configuration. DEDUCED (log 58). -/
def Dev.cfgPair (d : Dev) (e : Nat × Nat) : Option Dev :=
  let a := e.1 % 2 ^ 36
  if cfgExcluded a || a % 8 ≠ 0 then none
  else
    let d := d.writeAt .firmware a (BitVec.ofNat 64 e.2)
    if d.reportsRefusal a then none else some d

/-- Pairs in order. -/
def Dev.cfgPairs (d : Dev) : List (Nat × Nat) → Option Dev
  | [] => some d
  | e :: t => match d.cfgPair e with | some d => d.cfgPairs t | none => none

/-- The FABRIC record. -/
def Dev.cfgFabric (d : Dev) (r : CfgRec) : Option Dev :=
  let id := r.nat 0 4
  let max := r.nat 4 4
  let mode := r.nat 8 1
  if id = 0 || max = 0 || 131072 < max || 1 < mode then none
  else some ({ d with sys := { d.sys with fabricId := id, sysModules := max, mapMode := mode = 1 } }.put CFG_CFGVER_FABRIC onMod id)

/-- One record of a configuration part; none when it fails the configuration. DESIGN CHOICE (log 106). -/
def Dev.cfgRecord (d : Dev) (r : CfgRec) : Option Dev :=
  match r.type with
  | 0x0100 => d.cfgFabric r
  | 0x0101 => d.cfgPairs r.pairs
  | 0x0102 => some { d with sys := { d.sys with nodeMap := d.sys.nodeMap ++ r.pairs.map (fun e => (e.1, e.2 % 2 ^ 17)) } }
  | 0x0103 => some ((d.put CFG_TRIAL_TIMEOUT onMod (r.nat 0 4)).putB CFG_TRIAL_AUTOCOMMIT onMod ((r.nat 4 1).testBit 0))
  | 0x0104 => some d
  | _ => if r.critical then none else some d

/-- Records in order. -/
def Dev.cfgApply (d : Dev) : List CfgRec → Option Dev
  | [] => some d
  | r :: t => match d.cfgRecord r with | some d => d.cfgApply t | none => none

/-- R378, R379: the records hold exactly one FABRIC record, and an OPKEY record exactly where AUTH says, first.
DEDUCED (log 58). -/
def cfgShape (auth : Nat) (l : List CfgRec) : Bool :=
  (l.filter (fun r => r.type = 0x0100)).length = 1 &&
    (match l with
     | r :: t => decide ((r.type = 0x0104) = (auth = 1)) && t.all (fun x => x.type ≠ 0x0104)
     | [] => false)

/-- The whole configuration part; none when it fails. DEDUCED (log 58). -/
def Dev.cfgRun (d : Dev) (l : List Byte) : Option Dev :=
  match cfgBody l with
  | some rs => if cfgShape (cfgAuth l) rs then d.cfgApply rs else none
  | none => none

/-! ## Steps 5 to 8 of Table 15-8 -/

/-- The slot has booted: what CFG_BOOTSTATUS, CFG_VERSION and CFG_CFGVER show; the trial watchdog runs from here; the modules of the
next step are calibrated (PHASE ZORURI ends in the same row, so PHASE stands at CALIBRATE). -/
def Dev.slotBoots (d : Dev) (ver : Nat) : Dev :=
  let s := d.boot.slot
  let d := ((d.put (failField s) onMod 1).put CFG_BOOTSTATUS_SLOT onMod s).putB CFG_BOOTSTATUS_TRIAL onMod d.boot.trial
  let d := ((d.put CFG_VERSION_ZORURI onMod (d.fwVersion s 2)).put CFG_CFGVER_CONFIG onMod ver).put CFG_BOOTSTATUS_PHASE onMod 3
  { d with boot := { d.boot with step := 5,
                                 watchdog := if d.boot.trial then some (d.now + d.get CFG_TRIAL_TIMEOUT onMod * 1000000000) else none } }

/-- A configuration that fails: Saggar records CONFIG and resets the module (R381). DEDUCED (log 57). -/
def Dev.cfgFails (d : Dev) : Dev := (d.slotFails d.boot.slot 8).reset locModule 8 none

/-- ZORURI_IMAGE_LOADED: whether the flash read completes. DEDUCED (log 57). DESIGN CHOICE (log 106). -/
def Dev.zoruriLoaded (d : Dev) (ok : Bool) : Dev :=
  let l := d.cfgPart d.boot.slot
  if d.boot.step ≠ 4 || d.boot.update.isSome then d
  else if !ok then d.nextCandidate 3
  else if !d.imageSigned d.boot.slot 2 || !d.cfgAuthentic l then d.nextCandidate 7
  else match d.cfgRun l with
    | some d => d.slotBoots (cfgVersion l)
    | none => d.cfgFails

/-- CALIBRATION_DONE on a die, once module firmware runs; the last one lets the fabric ports train (PHASE DISCOVER).
DEDUCED (log 57). -/
def Dev.calibrationDone (d : Dev) (q : Nat) (ports : List Nat) (lanes brgh brgv : Nat) (banks chans : List Nat) (tables other : Bool) : Dev :=
  if d.boot.step ≠ 5 || !d.kln.booting.contains q then d
  else
    let d := d.calibrated q ports lanes brgh brgv banks chans tables other
    if d.kln.booting ≠ [] then d
    else ({ d with boot := { d.boot with step := 6 } }.put CFG_BOOTSTATUS_PHASE onMod 4).portsReturn locModule

end Sys2Proof.Machine
end

