-- ==== Sys2Proof/Machine/MeshCmds.lean ====
section
/-! DEFINITION. Messages of the on-die network from their source to their effect (R342 to R348): held at the source, across the
gateways, at the destination node; the end of a mode switch. -/

namespace Sys2Proof.Machine

/-- The register access that a message asks for. -/
def MeshMsg.access (m : MeshMsg) : Option Access :=
  match m.use with
  | .regRead a path => some ⟨path, a, none, 0, 0⟩
  | .regWrite a path v => some ⟨path, a, some v, 0, 0⟩
  | _ => none

/-- R348: an error of the flits of a message: 1 corrected, 2 uncorrectable, which poisons it. DEDUCED (log 55). -/
def Dev.meshEcc (d : Dev) (q ecc : Nat) : Dev :=
  if ecc = 1 then d.inc .NOC_ECCCORR (onDie q)
  else if ecc = 2 then (d.inc .NOC_ECCUNC (onDie q)).raise srcNOC 1 (locDie q) 0
  else d

/-- A response arrives: one request less is outstanding. -/
def Dev.meshAnswered (d : Dev) (q : Nat) : Dev := d.put NOC_STAT_OUTSTANDING (onDie q) (d.get NOC_STAT_OUTSTANDING (onDie q) - 1)

/-- The SRAM channel at a node (Table 13-1). -/
def nodeChannel (n : Nat) : Option Nat := if n = 2 then some 0 else if n = 22 then some 1 else none

/-- QDC ACCESSES (Table 18-1): the 64-bit accesses behind a message's data, written by a request, read for an answer.
DEDUCED (log 127). -/
def Dev.qdcAccesses (d : Dev) (m : MeshMsg) : Dev :=
  let a : Nat × Nat := if m.answers then (m.sdie.val, m.snode.val) else (m.ddie.val, m.dnode.val)
  match nodeChannel a.2 with
  | some c => d.event a.1 blkQDC c 0x01 0 (8 * m.flits.val)
  | none => d

/-- BRG GATEWAY (Table 18-1): the mesh flits that each bridge end of a route carries out. DEDUCED (log 127). -/
def Dev.gatewayFlits (d : Dev) (l : List Nat) (n : Nat) : Dev :=
  d.each (l.zip (l.drop 1)) (fun x d => d.event x.1 blkBRG (bridgeEnd x.1 x.2) 0x04 0 n)

/-- A message at its destination node: a register access is performed, unless it is a poisoned write, which is discarded; an answer
is sunk; the effect of any other transfer is that of the commands of its endpoints.
DESIGN CHOICE (log 53, 56). DEDUCED (log 55). -/
def Dev.meshServe (d : Dev) (m : MeshMsg) (ecc : Nat) : Dev :=
  let d := (d.meshEcc m.ddie.val ecc).qdcAccesses m
  if d.nodeAbsent m.dnode.val then d
  else match m.access with
    | some x => if x.data.isSome && (m.poison || ecc = 2) then d.accessEnds x (.refused ST_MEM_ERROR) else d.runAccess x
    | none => if m.answers then d.meshAnswered m.ddie.val else d

/-- R347: the last gateway answers a request that cannot reach its die: a register access is recorded and refused; the response of
any other request has arrived. DEDUCED (log 54). -/
def Dev.gatewayRefuses (d : Dev) (m : MeshMsg) : Dev :=
  if m.answers then d
  else
    let d := match d.lastGateway m.sdie.val m.ddie.val with
      | some g => d.inc .NOC_GWERR (onDie g)
      | none => d
    match m.access with
    | some x => (d.accErr x.path x.addr 3).accessEnds x (.refused ST_NOT_READY)
    | none => d.when m.expects (·.meshAnswered m.sdie.val)

/-- R347: the first die on a route, after the source, that is in NORMAL mode. DEDUCED (log 54). -/
def Dev.normalDie (d : Dev) (l : List Nat) : Option Nat := (l.drop 1).find? d.meshNormal

/-- A message of another die over the gateways. -/
def Dev.meshCross (d : Dev) (m : MeshMsg) (ecc : Nat) : Dev :=
  match d.route m.sdie.val m.ddie.val (128 * m.sdie.val) (128 * m.ddie.val) 0 with
  | none => d.gatewayRefuses m
  | some l =>
    if d.dieInReset m.ddie.val then d.gatewayRefuses m
    else match (if m.cls = 3 then d.normalDie l else none) with
      | some g => d.inc .NOC_GWERR (onDie g)
      | none => (((d.gatewayFlits l m.len).arrivalDie m.ddie.val).wakeDie m.ddie.val).meshServe m ecc

/-- A message is offered at its source node: in NORMAL mode no TEST message is injected; HOLD, its regulator or an earlier message of
its node and class may keep it there. DESIGN CHOICE (log 53). -/
def Dev.meshOffer (d : Dev) (m : MeshMsg) (counted : Bool) (ecc : Nat) : Dev :=
  if d.nodeAbsent m.snode.val || (m.cls = 3 && d.meshNormal m.sdie.val) then d
  else
    let m := d.meshClass m.sdie.val m
    if d.holdStops m || d.regHolds m || d.meshBehind m then d.meshWait m counted
    else if m.sdie = m.ddie then (d.meshInject m).meshServe m ecc
    else (d.meshInject m).meshCross m ecc

/-- MESH_MESSAGE. DEDUCED (log 22). DESIGN CHOICE (log 28, 53). -/
def Dev.meshMessage (d : Dev) (m : MeshMsg) (ecc : Nat) : Dev := d.meshOffer m false ecc

/-- GATEWAY_MESSAGE: a message of another die. DESIGN CHOICE (log 53). -/
def Dev.gatewayMessage (d : Dev) (m : MeshMsg) (ecc : Nat) : Dev := if m.sdie = m.ddie then d else d.meshOffer m false ecc

/-- The held messages that a condition picks are offered again, in order. DEDUCED (log 54). -/
def Dev.meshRetry (d : Dev) (p : MeshMsg → Bool) : Dev :=
  let l := d.noc.held.filter (fun x => p x.1)
  ({ d with noc := { d.noc with held := d.noc.held.filter (fun x => !p x.1) } }).each l (fun x d => d.meshOffer x.1 x.2 0)

/-- SWITCH. -/
def Dev.switchWrite (d : Dev) (q : Nat) (v : Word) : Dev := d.nocModectl q (v ||| NOC_MODECTL_SWITCH.mask)

/-- HOLD has ended on a die: what waited at its nodes goes on, messages and ring writes (R342). DEDUCED (log 60). -/
def Dev.holdEnds (d : Dev) (q : Nat) : Dev :=
  let l := (d.hst.queues.filter (fun e => e.1 / 65536 / 4 = q && e.1 / 65536 % 4 ≥ kCQ)).map (·.1 % 262144)
  (d.meshRetry (fun m => m.sdie.val = q)).each l (fun k d => d.drainQueue q (k / 65536) (k % 65536))

/-- MESH_QUIESCED: during a switch, with no request outstanding. -/
def Dev.meshQuiesced (d : Dev) (q : Nat) : Dev :=
  if d.meshHold q && d.get NOC_STAT_OUTSTANDING (onDie q) = 0 then (d.meshSwitched q).holdEnds q else d

/-- HOLDMAX_TIMEOUT. -/
def Dev.holdmaxPasses (d : Dev) (q : Nat) : Dev :=
  if d.meshHold q then (d.switchAbandoned q).holdEnds q else d

/-- REGULATOR_RELEASE of a node and class. DESIGN CHOICE (log 3). -/
def Dev.regulatorRelease (d : Dev) (q node cls : Nat) : Dev :=
  d.meshRetry (fun m => m.sdie.val = q && m.snode.val = node && m.cls.val = cls)

end Sys2Proof.Machine
end

