-- ==== Sys2Proof/Machine/Run.lean ====
section
/-! DEFINITION. How a command runs: its own effect, then what the module does without a further command; what holds commands back
(no supply, form S, a mesh in HOLD). -/

namespace Sys2Proof.Machine

/-- What follows a command without a command: actions that are due, descriptors that fired, collectives, Erg, the epoch procedure,
accesses that waited, Kiln tests whose target is back in service. DEDUCED (log 25). -/
def Dev.settleAll (d : Dev) : Dev := (((d.settle.ergSettle).epochWork).serveStalled).kilnWatch

/-- The state with a new block; the queue stays. -/
def State.withDev (s : State) (d : Dev) : State := { s with toDev := d }

/-- A command of a module that has its supplies and its reference; without them nothing of it runs (R406, R415, R494).
DEDUCED (log 20). -/
def State.run (s : State) (f : Dev → Dev) : Host.Outcome State Fault Refusal :=
  if s.pwr.off = 0 then .next (s.withDev (f s.toDev).settleAll) else .next s

/-- A command that Oasis, its sensors or the contacts serve, whatever the supplies. DEDUCED (log 20). -/
def State.runOasis (s : State) (f : Dev → Dev) : Host.Outcome State Fault Refusal :=
  .next (s.withDev (if (f s.toDev).pwr.off = 0 then (f s.toDev).settleAll else f s.toDev))

/-- A command of the host ports and their engines: fused off on form S (R1, R2). DEDUCED (log 22). -/
def State.runHost (s : State) (f : Dev → Dev) : Host.Outcome State Fault Refusal :=
  s.run (fun d => if d.sys.formS then d else f d)

/-- R342: work that needs a new mesh request waits at its node while HOLD is set: what brought it stays where it is.
DEDUCED (log 60). -/
def Dev.meshFree (d : Dev) (q : Nat) (g : Dev → Dev) : Dev := if d.meshHold q then d else g d

/-- R384, R385, R495: a host port trains from step 7 of Table 15-8 on, and not in Bisque mode. -/
def Dev.hostTrained (d : Dev) (q rate width : Nat) (flit sris : Bool) : Dev :=
  if d.boot.step < 5 || d.boot.step = 8 || d.get CFG_BOOTSTATUS_BISQUE onMod ≠ 0 then d else d.hostLinkUp q rate width flit sris

/-- MOD_RESET_N falls for a number of ns: a reset (R489), or, after a thermal shutdown, what lets the module restart (R415).
DEDUCED (log 59). -/
def Dev.resetContactAny (d : Dev) (ns : Nat) : Dev :=
  if d.pwr.off = 3 then (if ns < 1000 then d else { d with pwr := { d.pwr with cycled := true } }) else d.resetContact ns

/-- The scope of a reset by its level (Table 1-6): 1 unit, 2 cluster, 3 region, 4 die, 5 module. -/
def scopeLoc (level q ukind i : Nat) : Loc :=
  match level with
  | 1 => locUnit q ukind i
  | 2 => locCluster i
  | 3 => locRegion i
  | 4 => locDie q
  | _ => locModule

end Sys2Proof.Machine
end

