-- ==== Sys2Proof/Machine/ExecAccess.lean ====
section
/-! DEFINITION. Meanings of commands. Access paths (spec/19, spec/20): one definition per command over the shared operations. -/

namespace Sys2Proof.Machine

/-- WINDOW_DATA_READ (R467). -/
def execWindowDataRead (w : Fin 5) (set : Option Word) (whole : Bool) (s : State) : Host.Outcome State Fault Refusal :=
  s.run (fun d => d.windowRead w.val set whole)

/-- WINDOW_DATA_WRITE (R467). -/
def execWindowDataWrite (w : Fin 5) (set : Option Word) (whole : Bool) (v : Word) (s : State) : Host.Outcome State Fault Refusal :=
  s.run (fun d => d.windowWrite w.val set whole v)

/-- REGACC_UPDATE (R468). -/
def execRegaccUpdate (op : Nat) (addr : Nat) (v : Word) (s : State) : Host.Outcome State Fault Refusal :=
  s.run (fun d => d.regaccUpdate op addr v)

/-- REGACC_CAPTURE (R468). -/
def execRegaccCapture (s : State) : Host.Outcome State Fault Refusal :=
  s.run (fun d => d.regaccCapture)

/-- SMBUS_READ (R491). -/
def execSmbusRead (adr : Nat) (code : Nat) (s : State) : Host.Outcome State Fault Refusal :=
  s.runOasis (fun d => d.smbusRead adr code)

end Sys2Proof.Machine
end

