-- ==== Sys2Proof/Machine/ExecBoot.lean ====
section
/-! DEFINITION. Meanings of commands. Start-up, slots, flash (spec/15): one definition per command over the shared operations. -/

namespace Sys2Proof.Machine

/-- FLASH_INIT (R375). -/
def execFlashInit (ok : Bool) (s : State) : Host.Outcome State Fault Refusal :=
  s.run (fun d => d.flashInit ok)

/-- CANDIDATE_CHOSEN (R382). -/
def execCandidateChosen (unread : List Nat) (s : State) : Host.Outcome State Fault Refusal :=
  s.run (fun d => d.candidateChosen unread)

/-- SAGGAR_IMAGE_LOADED (R384). -/
def execSaggarImageLoaded (ok : Bool) (s : State) : Host.Outcome State Fault Refusal :=
  s.run (fun d => d.saggarLoaded ok)

/-- ZORURI_IMAGE_LOADED (R384). -/
def execZoruriImageLoaded (ok : Bool) (s : State) : Host.Outcome State Fault Refusal :=
  s.run (fun d => d.zoruriLoaded ok)

/-- CALIBRATION_DONE (R449). -/
def execCalibrationDone (q : Fin 4) (ports : List Nat) (lanes : Nat) (brgh : Nat) (brgv : Nat) (banks : List Nat) (chans : List Nat) (tables : Bool) (other : Bool) (s : State) : Host.Outcome State Fault Refusal :=
  s.run (fun d => d.calibrationDone q.val ports lanes brgh brgv banks chans tables other)

/-- PHASE_RUN (R384). -/
def execPhaseRun (words : List Word) (s : State) : Host.Outcome State Fault Refusal :=
  s.run (fun d => d.phaseRun words)

/-- DIRECTORY_UPDATE_DONE (R377). -/
def execDirectoryUpdateDone (s : State) : Host.Outcome State Fault Refusal :=
  s.run (fun d => d.dirDone)

/-- TRIAL_A (R386). -/
def execSlotTrialA (s : State) : Host.Outcome State Fault Refusal :=
  s.run (fun d => d.slotFree (fun d => d.slotTrial 1))

/-- TRIAL_B (R386). -/
def execSlotTrialB (s : State) : Host.Outcome State Fault Refusal :=
  s.run (fun d => d.slotFree (fun d => d.slotTrial 2))

/-- SLOT_COMMIT (R387). -/
def execSlotCommit (path : Path) (s : State) : Host.Outcome State Fault Refusal :=
  s.run (fun d => d.slotFree (fun d => d.slotCommit path))

/-- REVERT (R386). -/
def execSlotRevert (s : State) : Host.Outcome State Fault Refusal :=
  s.run (fun d => d.slotFree Dev.slotRevert)

/-- REBOOT (R386). -/
def execSlotReboot (s : State) : Host.Outcome State Fault Refusal :=
  s.run (fun d => d.slotFree Dev.slotReboot)

/-- TRIAL_WATCHDOG (R387). -/
def execTrialWatchdog (s : State) : Host.Outcome State Fault Refusal :=
  s.run (fun d => d.watchdogExpires)

/-- AUTOCOMMIT (R387). -/
def execAutocommit (s : State) : Host.Outcome State Fault Refusal :=
  s.run (fun d => d.autocommit)

/-- FLASH_READ (R376). -/
def execFlashRead (v : Word) (s : State) : Host.Outcome State Fault Refusal :=
  s.run (fun d => d.flashCommand v Dev.flashRead)

/-- FLASH_PROGRAM (R376). -/
def execFlashProgram (v : Word) (s : State) : Host.Outcome State Fault Refusal :=
  s.run (fun d => d.flashCommand v Dev.flashProgramCmd)

/-- FLASH_ERASE (R376). -/
def execFlashErase (v : Word) (s : State) : Host.Outcome State Fault Refusal :=
  s.run (fun d => d.flashCommand v Dev.flashEraseCmd)

/-- FLASH_CMD_DONE (R376). -/
def execFlashCmdDone (s : State) : Host.Outcome State Fault Refusal :=
  s.run (fun d => d.flashDone)

end Sys2Proof.Machine
end

