-- ==== Sys2Proof/Machine/ExecCaravan.lean ====
section
/-! DEFINITION. Meanings of commands. The Caravan ring and out-of-band access (spec/15): one definition per command over the shared operations. -/

namespace Sys2Proof.Machine

/-- CARAVAN_JOIN (R399). -/
def execCaravanJoin (s : State) : Host.Outcome State Fault Refusal :=
  s.run (fun d => d.carFollow)

/-- CARAVAN_LOCK_LOSS (R399). -/
def execCaravanLockLoss (s : State) : Host.Outcome State Fault Refusal :=
  s.run (fun d => d.carLockLoss)

/-- CARAVAN_LOCK_TIMEOUT (R401). -/
def execCaravanLockTimeout (s : State) : Host.Outcome State Fault Refusal :=
  s.run (fun d => d.carLockTimeout)

/-- ELECT (R400). -/
def execCaravanElect (f : BitVec 256) (s : State) : Host.Outcome State Fault Refusal :=
  s.run (fun d => d.ringElect f)

/-- POSITION (R400). -/
def execCaravanPosition (f : BitVec 256) (s : State) : Host.Outcome State Fault Refusal :=
  s.run (fun d => d.ringPosition f)

/-- CARAVAN_TIME (R402). -/
def execCaravanTime (f : BitVec 256) (res : Nat) (s : State) : Host.Outcome State Fault Refusal :=
  s.run (fun d => d.ringTime f res)

/-- CARAVAN_TIME_SEND (R402). -/
def execCaravanTimeSend (s : State) : Host.Outcome State Fault Refusal :=
  s.run (fun d => d.ringTimeSend)

/-- CARAVAN_READ (R403). -/
def execCaravanRead (f : BitVec 256) (s : State) : Host.Outcome State Fault Refusal :=
  s.run (fun d => d.ringRead f)

/-- CARAVAN_WRITE (R403). -/
def execCaravanWrite (f : BitVec 256) (s : State) : Host.Outcome State Fault Refusal :=
  s.run (fun d => d.ringWriteIn f)

/-- RESP (R403). -/
def execCaravanResp (f : BitVec 256) (s : State) : Host.Outcome State Fault Refusal :=
  s.run (fun d => d.ringResp f)

/-- OOB_READ (R403). -/
def execOobRead (v : Word) (s : State) : Host.Outcome State Fault Refusal :=
  s.run (fun d => d.oobStart v 1)

/-- OOB_WRITE (R403). -/
def execOobWrite (v : Word) (s : State) : Host.Outcome State Fault Refusal :=
  s.run (fun d => d.oobStart v 2)

/-- OOB_TIMEOUT (R403). -/
def execOobTimeout (s : State) : Host.Outcome State Fault Refusal :=
  s.run (fun d => d.oobTimeout)

/-- FALLBACK_TRAINING_PATTERN (R401). -/
def execFallbackTrainingPattern (s : State) : Host.Outcome State Fault Refusal :=
  s.run (fun d => d.carPattern)

end Sys2Proof.Machine
end

