-- ==== Sys2Proof/Machine/ExecErg.lean ====
section
/-! DEFINITION. Meanings of commands. Erg and firmware messages (spec/15): one definition per command over the shared operations. -/

namespace Sys2Proof.Machine

/-- LINK_SEND (R390). -/
def execErgLinkSend (s : State) : Host.Outcome State Fault Refusal :=
  s.run (fun d => d.linkSend)

/-- ERG_REFRESH (R390). -/
def execErgRefresh (s : State) : Host.Outcome State Fault Refusal :=
  s.run (fun d => d.ergRefresh)

/-- LINK (R390). -/
def execErgLink (p : Fin 512) (c : Ctrl) (b : Body) (s : State) : Host.Outcome State Fault Refusal :=
  s.run (fun d => d.ergLink p.val c b)

/-- ASSIGN (R391). -/
def execErgAssign (p : Fin 512) (c : Ctrl) (b : Body) (s : State) : Host.Outcome State Fault Refusal :=
  s.run (fun d => d.ergAssign p.val c b)

/-- CLAIM (R392). -/
def execErgClaim (p : Fin 512) (c : Ctrl) (b : Body) (s : State) : Host.Outcome State Fault Refusal :=
  s.run (fun d => d.ergClaim p.val c b)

/-- LSA (R394). -/
def execErgLsa (p : Fin 512) (c : Ctrl) (b : Body) (s : State) : Host.Outcome State Fault Refusal :=
  s.run (fun d => d.ergLsa p.val c b)

/-- GSUM (R394). -/
def execErgGsum (p : Fin 512) (c : Ctrl) (b : Body) (s : State) : Host.Outcome State Fault Refusal :=
  s.run (fun d => d.ergGsum p.val c b)

/-- CLAIM_WAIT_EXPIRY (R392). -/
def execClaimWaitExpiry (s : State) : Host.Outcome State Fault Refusal :=
  s.run (fun d => d.claimWait)

/-- SETTLE_EXPIRY (R394). -/
def execSettleExpiry (ok : Bool) (need : Nat) (routes : List (Nat × Nat)) (psets : List (Nat × Nat)) (s : State) : Host.Outcome State Fault Refusal :=
  s.run (fun d => d.settleExpires ok need routes psets)

/-- NEIGHBOUR_ABSENT (R390). -/
def execNeighbourAbsent (p : Fin 512) (s : State) : Host.Outcome State Fault Refusal :=
  s.run (fun d => d.neighbourAbsent p.val)

/-- ORIGIN_EXPIRY (R390). -/
def execOriginExpiry (kind : Nat) (n : Nat) (s : State) : Host.Outcome State Fault Refusal :=
  s.run (fun d => d.originExpires kind n)

/-- MEMBER_LOST (R396). -/
def execMemberLost (m : Fin 64) (s : State) : Host.Outcome State Fault Refusal :=
  s.run (fun d => d.memberLost m.val)

/-- FW_MSG (R397). -/
def execFwMsg (q : Fin 4) (k : Machine.Packet) (s : State) : Host.Outcome State Fault Refusal :=
  s.run (fun d => d.fwMsgIn q.val k)

/-- FW_RSP (R397). -/
def execFwRsp (q : Fin 4) (k : Machine.Packet) (s : State) : Host.Outcome State Fault Refusal :=
  s.run (fun d => d.fwRspIn q.val k)

end Sys2Proof.Machine
end

