-- ==== Sys2Proof/Machine/ExecFault.lean ====
section
/-! DEFINITION. Meanings of commands. Faults and Kiln (spec/17): one definition per command over the shared operations. -/

namespace Sys2Proof.Machine

/-- FAULT_WINDOW_EXPIRY (R436). -/
def execFaultWindowExpiry (slot : Nat) (unserviced : Bool) (s : State) : Host.Outcome State Fault Refusal :=
  s.run (fun d => d.windowExpires slot unserviced)

/-- ESCALATION_TIMEOUT (R436). -/
def execEscalationTimeout (slot : Nat) (unserviced : Bool) (s : State) : Host.Outcome State Fault Refusal :=
  s.run (fun d => d.escalates slot unserviced)

/-- CLEAR (R436). -/
def execFaultClear (id : Fin 65536) (s : State) : Host.Outcome State Fault Refusal :=
  s.run (fun d => d.ackClear id.val)

/-- ACT_NOW (R436). -/
def execFaultActNow (id : Fin 65536) (s : State) : Host.Outcome State Fault Refusal :=
  s.run (fun d => d.ackAct id.val)

/-- CARRY_EXPIRY (R439). -/
def execCarryExpiry (n : Nat) (s : State) : Host.Outcome State Fault Refusal :=
  s.run (fun d => d.carryLapses n)

/-- RELEASE (R442). -/
def execFaultnRelease (s : State) : Host.Outcome State Fault Refusal :=
  s.run (fun d => d.faultRelease)

/-- FAULTN_FORCE (R441). -/
def execFaultnForce (on : Bool) (s : State) : Host.Outcome State Fault Refusal :=
  s.run (fun d => d.faultForce on)

/-- FAULTN_HOLD_END (R442). -/
def execFaultnHoldEnd (s : State) : Host.Outcome State Fault Refusal :=
  s.runOasis (fun d => d.faultHoldEnds)

/-- STORE_ERASE (R446). -/
def execStoreErase (s : State) : Host.Outcome State Fault Refusal :=
  s.run (fun d => d.storeErase)

/-- ZORURI_WATCHDOG (R435). -/
def execZoruriWatchdog (q : Fin 4) (s : State) : Host.Outcome State Fault Refusal :=
  s.run (fun d => d.zoruriHang q.val)

/-- ZORURI_EXCEPTION (R435). -/
def execZoruriException (q : Fin 4) (s : State) : Host.Outcome State Fault Refusal :=
  s.run (fun d => d.zoruriException q.val)

/-- SAGGAR_WATCHDOG (R435). -/
def execSaggarWatchdog (q : Fin 4) (s : State) : Host.Outcome State Fault Refusal :=
  s.run (fun d => d.saggarHang q.val)

/-- MEMORY_ERROR (R435). -/
def execMemoryError (q : Fin 4) (kind : Nat) (x : Nat) (y : Nat) (z : Nat) (s : State) : Host.Outcome State Fault Refusal :=
  s.run (fun d => d.memoryError q.val kind x y z)

/-- KILN_GO (R447). DEDUCED (log 23). -/
def execKilnGo (q : Fin 4) (v : Word) (s : State) : Host.Outcome State Fault Refusal :=
  s.run (fun d => d.kilnGo q.val (v ||| KLN_CMD_GO.mask))

/-- KILN_TEST_DONE (R447). -/
def execKilnTestDone (q : Fin 4) (fails : Nat) (first : Nat) (tx : Nat) (rx : Nat) (s : State) : Host.Outcome State Fault Refusal :=
  s.run (fun d => d.kilnDone q.val fails first tx rx)

end Sys2Proof.Machine
end

