-- ==== Sys2Proof/Machine/ExecGroup.lean ====
section
/-! DEFINITION. Meanings of commands. Groups, multicast, collectives, fences (spec/08): one definition per command over the shared operations. -/

namespace Sys2Proof.Machine

/-- GROUP_ENTRY_FETCH (R183). -/
def execGroupEntryFetch (q : Fin 4) (g : Fin 65536) (s : State) : Host.Outcome State Fault Refusal :=
  s.run (fun d => d.groupFetched q.val g.val)

/-- GROUP_VALIDATE (R186). -/
def execGroupValidate (q : Fin 4) (g : Fin 65536) (s : State) : Host.Outcome State Fault Refusal :=
  s.run (fun d => d.groupValidate q.val g.val)

/-- GROUP_INVALIDATE (R187). -/
def execGroupInvalidate (q : Fin 4) (g : Fin 65536) (s : State) : Host.Outcome State Fault Refusal :=
  s.run (fun d => d.groupInvalidate q.val g.val)

/-- GROUP_FORCE (R187). -/
def execGroupForce (q : Fin 4) (g : Fin 65536) (s : State) : Host.Outcome State Fault Refusal :=
  s.run (fun d => d.groupForce q.val g.val)

/-- GROUP_ENTRY_WRITE (R188). -/
def execGroupEntryWrite (q : Fin 4) (g : Fin 65536) (w : Fin 16) (v : Word) (s : State) : Host.Outcome State Fault Refusal :=
  s.run (fun d => d.groupWrite q.val g.val w.val v)

/-- MCAST (R194). -/
def execMcast (q : Fin 4) (member : Fin 256) (k : Machine.Packet) (s : State) : Host.Outcome State Fault Refusal :=
  s.run (fun d => d.meshFree q.val (fun d => d.mcastIn q.val member.val k))

/-- RED_UP (R202). -/
def execRedUp (q : Fin 4) (src : Nat) (k : Machine.Packet) (s : State) : Host.Outcome State Fault Refusal :=
  s.run (fun d => d.redUpIn q.val src k)

/-- RED_DOWN (R191). -/
def execRedDown (q : Fin 4) (k : Machine.Packet) (s : State) : Host.Outcome State Fault Refusal :=
  s.run (fun d => d.meshFree q.val (fun d => d.redDownMsg q.val k))

/-- COL_GRANT (R201). -/
def execColGrant (q : Fin 4) (k : Machine.Packet) (s : State) : Host.Outcome State Fault Refusal :=
  s.run (fun d => d.grantIn q.val k)

/-- BUFFER_ASSIGN (R201). -/
def execBufferAssign (q : Fin 4) (g : Fin 65536) (seq : Nat) (s : State) : Host.Outcome State Fault Refusal :=
  s.run (fun d => d.bufferAssign q.val g.val seq)

/-- BARRIER_UP (R195). -/
def execBarrierUp (q : Fin 4) (src : Nat) (k : Machine.Packet) (s : State) : Host.Outcome State Fault Refusal :=
  s.run (fun d => d.barrierUpIn q.val src k)

/-- BARRIER_DOWN (R195). -/
def execBarrierDown (q : Fin 4) (k : Machine.Packet) (s : State) : Host.Outcome State Fault Refusal :=
  s.run (fun d => d.barrierDownIn q.val k)

/-- EPOCH_COUNT (R195). -/
def execEpochCount (q : Fin 4) (src : Nat) (k : Machine.Packet) (s : State) : Host.Outcome State Fault Refusal :=
  s.run (fun d => d.epochCountIn q.val src k)

/-- OPERATION_TIMEOUT (R218). -/
def execOperationTimeout (q : Fin 4) (g : Fin 65536) (seq : Nat) (s : State) : Host.Outcome State Fault Refusal :=
  s.run (fun d => d.operationTimeout q.val g.val seq)

/-- MEMBER_TIMEOUT (R219). -/
def execMemberTimeout (q : Fin 4) (g : Fin 65536) (seq : Nat) (member : Fin 256) (s : State) : Host.Outcome State Fault Refusal :=
  s.run (fun d => d.memberTimeout q.val g.val seq member.val)

/-- FENCE (R213). -/
def execFenceReceived (p : Fin 512) (c : Ctrl) (b : Body) (s : State) : Host.Outcome State Fault Refusal :=
  s.run (fun d => d.fenceIn p.val c b)

/-- FENCE_GO (R214). -/
def execFenceGo (q : Fin 4) (path : Path) (v : Word) (s : State) : Host.Outcome State Fault Refusal :=
  s.run (fun d => d.fenceGo q.val path v)

/-- FENCE_REFRESH (R214). -/
def execFenceRefresh (s : State) : Host.Outcome State Fault Refusal :=
  s.run (fun d => d.fenceRefresh)

end Sys2Proof.Machine
end

