-- ==== Sys2Proof/Machine/ExecHost.lean ====
section
/-! DEFINITION. Meanings of commands. Host ports, queues and functions (spec/09): one definition per command over the shared operations. -/

namespace Sys2Proof.Machine

/-- PRODUCER_DOORBELL (R232). -/
def execProducerDoorbell (q : Fin 4) (k : Fin 4) (f : Fin 256) (n : Fin 65536) (w : Word) (ok : Bool) (s : State) : Host.Outcome State Fault Refusal :=
  s.runHost (fun d => d.whenFunc q.val f.val (fun d => d.producerDoorbell q.val k.val f.val n.val w ok))

/-- CONSUMER_DOORBELL (R235). -/
def execConsumerDoorbell (q : Fin 4) (k : Fin 4) (f : Fin 256) (n : Fin 65536) (w : Word) (ok : Bool) (s : State) : Host.Outcome State Fault Refusal :=
  s.runHost (fun d => d.whenFunc q.val f.val (fun d => d.consumerDoorbell q.val k.val f.val n.val w ok))

/-- COUNTER_WRITE (R281). -/
def execCounterWrite (q : Fin 4) (n : Fin 262144) (v : Word) (s : State) : Host.Outcome State Fault Refusal :=
  s.runHost (fun d => d.counterWrite q.val n.val v)

/-- COUNTER_ATOMIC (R281). -/
def execCounterAtomic (q : Fin 4) (n : Fin 262144) (op : Fin 4) (x : Word) (y : Word) (s : State) : Host.Outcome State Fault Refusal :=
  s.runHost (fun d => d.counterAtomic q.val n.val op.val x y)

/-- KEYRIGHTS_WRITE (R316). -/
def execKeyrightsWrite (q : Fin 4) (n : Fin 65536) (v : Word) (s : State) : Host.Outcome State Fault Refusal :=
  s.runHost (fun d => d.keyrightsWrite q.val n.val v)

/-- DESCRIPTOR_START (R238). -/
def execDescriptorStart (q : Fin 4) (k : Fin 4) (n : Fin 65536) (desc : BitVec 512) (shards : List (Word × Word)) (ok : Bool) (s : State) : Host.Outcome State Fault Refusal :=
  s.runHost (fun d => d.meshFree q.val (fun d => d.descriptorStart q.val k.val n.val desc shards ok))

/-- MODERATION_END (R243). -/
def execModerationEnd (q : Fin 4) (n : Fin 65536) (s : State) : Host.Outcome State Fault Refusal :=
  s.runHost (fun d => d.moderationEnd q.val n.val)

/-- CREATE (R246). -/
def execQueueCreate (q : Fin 4) (f : Fin 256) (s : State) : Host.Outcome State Fault Refusal :=
  s.runHost (fun d => d.queueCreate q.val f.val)

/-- PAUSE (R246). DEDUCED (log 89). -/
def execQueuePause (q : Fin 4) (f : Fin 256) (s : State) : Host.Outcome State Fault Refusal :=
  s.runHost (fun d => d.queuePause q.val f.val)

/-- PAUSE_DONE (R246). -/
def execQueuePauseDone (q : Fin 4) (k : Fin 4) (g : Fin 65536) (s : State) : Host.Outcome State Fault Refusal :=
  s.runHost (fun d => d.queuePauseDone q.val k.val g.val)

/-- RESUME (R246). -/
def execQueueResume (q : Fin 4) (f : Fin 256) (s : State) : Host.Outcome State Fault Refusal :=
  s.runHost (fun d => d.queueResume q.val f.val)

/-- RECOVER (R246). -/
def execQueueRecover (q : Fin 4) (f : Fin 256) (s : State) : Host.Outcome State Fault Refusal :=
  s.runHost (fun d => d.queueRecover q.val f.val)

/-- DESTROY (R246). -/
def execQueueDestroy (q : Fin 4) (f : Fin 256) (s : State) : Host.Outcome State Fault Refusal :=
  s.runHost (fun d => d.queueDestroy q.val f.val)

/-- QUERY (R246). -/
def execQueueQuery (q : Fin 4) (f : Fin 256) (s : State) : Host.Outcome State Fault Refusal :=
  s.runHost (fun d => d.queueQuery q.val f.val)

/-- FLUSH_COMPLETE (R248). -/
def execFlushComplete (q : Fin 4) (k : Fin 4) (g : Fin 65536) (s : State) : Host.Outcome State Fault Refusal :=
  s.runHost (fun d => d.flushComplete q.val k.val g.val)

/-- CQ_STALL_TIMEOUT (R250). -/
def execCqStallTimeout (q : Fin 4) (g : Fin 65536) (s : State) : Host.Outcome State Fault Refusal :=
  s.runHost (fun d => d.cqStallTimeout q.val g.val)

/-- FUNCTION_LEVEL_RESET (R227). -/
def execFunctionLevelReset (q : Fin 4) (f : Fin 256) (s : State) : Host.Outcome State Fault Refusal :=
  s.runHost (fun d => d.whenFunc q.val f.val (fun d => d.functionReset q.val f.val))

/-- D3HOT_TO_D0 (R227). -/
def execD3hotToD0 (q : Fin 4) (f : Fin 256) (s : State) : Host.Outcome State Fault Refusal :=
  s.runHost (fun d => d.whenFunc q.val f.val (fun d => d.functionReset q.val f.val))

/-- HOST_LINK_DOWN (R227). -/
def execHostLinkDown (q : Fin 4) (hot : Bool) (s : State) : Host.Outcome State Fault Refusal :=
  s.runHost (fun d => d.hostLinkDown q.val hot)

/-- HOST_LINK_UP (R225). -/
def execHostLinkUp (q : Fin 4) (rate : Nat) (width : Nat) (flit : Bool) (sris : Bool) (s : State) : Host.Outcome State Fault Refusal :=
  s.runHost (fun d => d.hostTrained q.val rate width flit sris)

/-- FNQ_WRITE (R230). -/
def execFnqWrite (q : Fin 4) (f : Fin 256) (k : Fin 4) (v : Word) (s : State) : Host.Outcome State Fault Refusal :=
  s.runHost (fun d => d.fnqWrite q.val f.val k.val v)

/-- CONFIGURATION_REQUEST (R385). -/
def execConfigurationRequest (q : Fin 4) (s : State) : Host.Outcome State Fault Refusal :=
  s.runHost (fun d => d.configRequest q.val)

/-- HOST_PORT_INTERNAL_ERROR (R435). -/
def execHostPortInternalError (q : Fin 4) (s : State) : Host.Outcome State Fault Refusal :=
  s.runHost (fun d => d.hostInternal q.val)

end Sys2Proof.Machine
end

