-- ==== Sys2Proof/Machine/ExecLane.lean ====
section
/-! DEFINITION. Meanings of commands. Bridges, lanes, training sequences, test (spec/01, spec/02): one definition per command over the shared operations. -/

namespace Sys2Proof.Machine

/-- BRIDGE_DOWN (R17). -/
def execBridgeDown (q : Fin 4) (e : Fin 2) (s : State) : Host.Outcome State Fault Refusal :=
  s.run (fun d => d.takeBridgeDown q.val e.val)

/-- BRIDGE_FLIT_ARRIVAL (R15). -/
def execBridgeFlitArrival (q : Fin 4) (e : Fin 2) (s : State) : Host.Outcome State Fault Refusal :=
  s.run (fun d => (d.pumpAll).bridgeArrive q.val e.val)

/-- CLUSTER_MAP_WRITE (R37). -/
def execClusterMapWrite (c : Fin 64) (v : Word) (s : State) : Host.Outcome State Fault Refusal :=
  s.run (fun d => d.clusterMap c.val v)

/-- TXEQ_WRITE (R39). DEDUCED (log 23). -/
def execTxeqWrite (l : Fin 512) (v : Word) (s : State) : Host.Outcome State Fault Refusal :=
  s.run (fun d => d.txeq l.val v)

/-- LANE_CTRL_WRITE (R33). -/
def execLaneCtrlWrite (l : Fin 512) (v : Word) (s : State) : Host.Outcome State Fault Refusal :=
  s.run (fun d => d.laneCtrl l.val v)

/-- LANE_TRAINING_FRAME (R44). -/
def execLaneTrainingFrame (l : Fin 512) (ctl : Nat) (s : State) : Host.Outcome State Fault Refusal :=
  s.run (fun d => d.trainingFrame l.val ctl)

/-- ACQUIRE_LOCK (R41). -/
def execAcquireLock (l : Fin 512) (inverted : Bool) (peaking : Fin 16) (s : State) : Host.Outcome State Fault Refusal :=
  s.run (fun d => d.acquireLock l.val inverted peaking.val)

/-- ACQUIRE_TIMEOUT (R41). -/
def execAcquireTimeout (l : Fin 512) (s : State) : Host.Outcome State Fault Refusal :=
  s.run (fun d => d.acquireTimeout l.val)

/-- ADAPT_CONVERGED (R41). -/
def execAdaptConverged (l : Fin 512) (tap : Fin 256) (s : State) : Host.Outcome State Fault Refusal :=
  s.run (fun d => d.adaptConverged l.val tap.val)

/-- ADAPT_TIMEOUT (R41). -/
def execAdaptTimeout (l : Fin 512) (s : State) : Host.Outcome State Fault Refusal :=
  s.run (fun d => d.adaptTimeout l.val)

/-- LOSS_OF_SIGNAL (R41). -/
def execLossOfSignal (l : Fin 512) (signal : Bool) (s : State) : Host.Outcome State Fault Refusal :=
  s.run (fun d => d.lossOfSignal l.val signal)

/-- RX_QUIET_ENTRY (R46). -/
def execRxQuietEntry (l : Fin 512) (s : State) : Host.Outcome State Fault Refusal :=
  s.run (fun d => d.rxQuiet l.val)

/-- RELOCK (R41). -/
def execRelock (l : Fin 512) (s : State) : Host.Outcome State Fault Refusal :=
  s.run (fun d => d.relocked l.val)

/-- RELOCK_TIMEOUT (R41). -/
def execRelockTimeout (l : Fin 512) (s : State) : Host.Outcome State Fault Refusal :=
  s.run (fun d => d.relockFails l.val)

/-- TX_QUIET_ENTRY (R46). -/
def execTxQuietEntry (p : Fin 512) (s : State) : Host.Outcome State Fault Refusal :=
  s.run (fun d => d.txQuiet p.val)

/-- TX_WAKE_DONE (R46). -/
def execTxWakeDone (p : Fin 512) (s : State) : Host.Outcome State Fault Refusal :=
  s.run (fun d => d.txWake p.val)

/-- MAINT_BURST (R48). -/
def execMaintBurst (p : Fin 512) (s : State) : Host.Outcome State Fault Refusal :=
  s.run (fun d => d.maintBurst p.val)

/-- FEC_CODEWORD (R35). -/
def execFecCodeword (p : Fin 512) (result : Nat) (flits : Nat) (s : State) : Host.Outcome State Fault Refusal :=
  s.run (fun d => d.codeword p.val result flits)

/-- PARITY_ERROR (R35). -/
def execParityError (p : Fin 512) (s : State) : Host.Outcome State Fault Refusal :=
  s.run (fun d => d.parityError p.val)

/-- LOOPBACK_WRITE (R50). -/
def execLoopbackWrite (p : Fin 512) (v : Word) (s : State) : Host.Outcome State Fault Refusal :=
  s.run (fun d => d.loopback p.val v)

/-- PATTERN_CTRL_WRITE (R52). -/
def execPatternCtrlWrite (l : Fin 512) (v : Word) (s : State) : Host.Outcome State Fault Refusal :=
  s.run (fun d => d.patternCtrl l.val v)

/-- CHECKER_LOCK (R52). -/
def execCheckerLock (l : Fin 512) (s : State) : Host.Outcome State Fault Refusal :=
  s.run (fun d => d.checkerLock l.val)

/-- CHECKER_LOSS (R52). -/
def execCheckerLoss (l : Fin 512) (errors : Nat) (s : State) : Host.Outcome State Fault Refusal :=
  s.run (fun d => d.checkerLoss l.val errors)

/-- EYE_SCAN_START (R54). -/
def execEyeScanStart (l : Fin 512) (v : Word) (s : State) : Host.Outcome State Fault Refusal :=
  s.run (fun d => d.eyeStart l.val v)

/-- EYE_SCAN_STOP (R54). -/
def execEyeScanStop (l : Fin 512) (s : State) : Host.Outcome State Fault Refusal :=
  s.run (fun d => d.eyeStop l.val)

/-- EYE_SCAN_DONE (R54). -/
def execEyeScanDone (l : Fin 512) (errors : Nat) (s : State) : Host.Outcome State Fault Refusal :=
  s.run (fun d => d.eyeDone l.val errors)

end Sys2Proof.Machine
end

