-- ==== Sys2Proof/Machine/ExecLink.lean ====
section
/-! DEFINITION. Meanings of commands. The link layer (spec/03): one definition per command over the shared operations. -/

namespace Sys2Proof.Machine

/-- DATA_FLIT_RECEIVED (R68). -/
def execDataFlitReceived (p : Fin 512) (c : Ctrl) (b : Body) (s : State) : Host.Outcome State Fault Refusal :=
  s.run (fun d => d.dataFlit p.val c b)

/-- IDLE_FLIT_RECEIVED (R67). -/
def execIdleFlitReceived (p : Fin 512) (c : Ctrl) (s : State) : Host.Outcome State Fault Refusal :=
  s.run (fun d => d.idleFlit p.val c)

/-- FLIT_CRC_ERROR (R68). -/
def execFlitCrcError (p : Fin 512) (crc : Bool) (s : State) : Host.Outcome State Fault Refusal :=
  s.run (fun d => d.badFlit p.val crc)

/-- REPLAY_REQ (R69). -/
def execReplayReq (p : Fin 512) (c : Ctrl) (b : Body) (s : State) : Host.Outcome State Fault Refusal :=
  s.run (fun d => d.replayReqIn p.val c b)

/-- REPLAY_START (R68). -/
def execReplayStart (p : Fin 512) (c : Ctrl) (b : Body) (s : State) : Host.Outcome State Fault Refusal :=
  s.run (fun d => d.replayStartIn p.val c b)

/-- REPLAY_TIMEOUT (R69). -/
def execReplayTimeout (p : Fin 512) (s : State) : Host.Outcome State Fault Refusal :=
  s.run (fun d => d.replayTimer p.val)

/-- ACK_DUE (R67). -/
def execAckDue (p : Fin 512) (s : State) : Host.Outcome State Fault Refusal :=
  s.run (fun d => d.ackFalls p.val)

/-- CREDIT_MESSAGE_DUE (R81). -/
def execCreditMessageDue (p : Fin 512) (s : State) : Host.Outcome State Fault Refusal :=
  s.run (fun d => d.creditFalls p.val)

/-- TRANSMIT_FLIT_SLOT (R84). -/
def execTransmitFlitSlot (p : Fin 512) (s : State) : Host.Outcome State Fault Refusal :=
  s.run (fun d => d.flitSlot p.val)

/-- TRAIN (R73). -/
def execTrainReceived (p : Fin 512) (c : Ctrl) (b : Body) (s : State) : Host.Outcome State Fault Refusal :=
  s.run (fun d => d.trainIn p.val c b)

/-- TRAIN_SEND (R73). -/
def execTrainSend (p : Fin 512) (s : State) : Host.Outcome State Fault Refusal :=
  s.run (fun d => d.trainSend p.val)

/-- LANE_PHASE_DONE (R73). -/
def execLanePhaseDone (p : Fin 512) (s : State) : Host.Outcome State Fault Refusal :=
  s.run (fun d => d.lanePhaseDone p.val)

/-- ALIGNMENT_DONE (R73). -/
def execAlignmentDone (p : Fin 512) (s : State) : Host.Outcome State Fault Refusal :=
  s.run (fun d => d.alignmentDone p.val)

/-- TRAIN_TIMEOUT (R73). -/
def execTrainTimeout (p : Fin 512) (s : State) : Host.Outcome State Fault Refusal :=
  s.run (fun d => d.trainTimeout p.val)

/-- RETRAIN_REQ (R77). -/
def execRetrainReq (p : Fin 512) (c : Ctrl) (s : State) : Host.Outcome State Fault Refusal :=
  s.run (fun d => d.retrainReqIn p.val c)

/-- OOS_NOTICE (R79). -/
def execOosNotice (p : Fin 512) (c : Ctrl) (s : State) : Host.Outcome State Fault Refusal :=
  s.run (fun d => d.oosNotice p.val c)

/-- DRAINED (R79). -/
def execDrainedReceived (p : Fin 512) (c : Ctrl) (s : State) : Host.Outcome State Fault Refusal :=
  s.run (fun d => d.drainedIn p.val c)

/-- WINDOW_DRAINED (R79). -/
def execWindowDrained (p : Fin 512) (s : State) : Host.Outcome State Fault Refusal :=
  s.run (fun d => d.drainEnds p.val)

/-- DRAIN_TIMEOUT (R79). -/
def execDrainTimeout (p : Fin 512) (s : State) : Host.Outcome State Fault Refusal :=
  s.run (fun d => d.drainTimeout p.val)

/-- DOWN_PROBE (R77). -/
def execDownProbe (p : Fin 512) (s : State) : Host.Outcome State Fault Refusal :=
  s.run (fun d => d.downProbe p.val)

/-- SIGNAL_DETECTED (R77). -/
def execSignalDetected (p : Fin 512) (s : State) : Host.Outcome State Fault Refusal :=
  s.run (fun d => d.signalOn p.val)

/-- LINK_ENABLE (R77). DEDUCED (log 23). -/
def execLinkEnable (p : Fin 512) (v : Word) (s : State) : Host.Outcome State Fault Refusal :=
  s.run (fun d => d.lnkCtrl p.val (v ||| 1#64))

/-- LINK_DISABLE (R77). -/
def execLinkDisable (p : Fin 512) (v : Word) (s : State) : Host.Outcome State Fault Refusal :=
  s.run (fun d => d.lnkCtrl p.val (v &&& ~~~ 1#64))

/-- INTEG_WRITE (R63). -/
def execIntegWrite (p : Fin 512) (v : Word) (s : State) : Host.Outcome State Fault Refusal :=
  s.run (fun d => d.lnkCtrl p.val v)

/-- LNK_CMD_RETRAIN (R77). -/
def execLnkCmdRetrain (p : Fin 512) (s : State) : Host.Outcome State Fault Refusal :=
  s.run (fun d => d.cmdRetrain p.val)

/-- LNK_CMD_OUT_OF_SERVICE (R79). -/
def execLnkCmdOutOfService (p : Fin 512) (s : State) : Host.Outcome State Fault Refusal :=
  s.run (fun d => d.cmdOos p.val)

/-- LNK_CMD_IN_SERVICE (R77). -/
def execLnkCmdInService (p : Fin 512) (s : State) : Host.Outcome State Fault Refusal :=
  s.run (fun d => d.cmdInService p.val)

/-- CREDIT (R81). -/
def execCreditReceived (p : Fin 512) (c : Ctrl) (b : Body) (s : State) : Host.Outcome State Fault Refusal :=
  s.run (fun d => d.creditIn p.val c b)

/-- AUDIT (R82). -/
def execAuditReceived (p : Fin 512) (c : Ctrl) (b : Body) (s : State) : Host.Outcome State Fault Refusal :=
  s.run (fun d => d.auditIn p.val c b)

/-- AUDIT_SEND (R82). -/
def execAuditSend (p : Fin 512) (s : State) : Host.Outcome State Fault Refusal :=
  s.run (fun d => d.auditSend p.val)

/-- TIME (R86). -/
def execTimeReceived (p : Fin 512) (c : Ctrl) (b : Body) (s : State) : Host.Outcome State Fault Refusal :=
  s.run (fun d => d.timeIn p.val c b)

/-- TIME_SEND (R86). -/
def execTimeSend (p : Fin 512) (s : State) : Host.Outcome State Fault Refusal :=
  s.run (fun d => d.timeSend p.val)

end Sys2Proof.Machine
end

