-- ==== Sys2Proof/Machine/ExecMatch.lean ====
section
/-! DEFINITION. Meanings of commands. Matching (spec/11): one definition per command over the shared operations. -/

namespace Sys2Proof.Machine

/-- SEND (R294). -/
def execMtcSend (q : Fin 4) (k : Machine.Packet) (s : State) : Host.Outcome State Fault Refusal :=
  s.runHost (fun d => d.meshFree q.val (fun d => d.mtcArrive q.val tSEND false true k))

/-- SEND_DATA (R297). -/
def execSendData (q : Fin 4) (k : Machine.Packet) (s : State) : Host.Outcome State Fault Refusal :=
  s.runHost (fun d => d.meshFree q.val (fun d => d.mtcArrive q.val tSEND false false k))

/-- RNDV_RTS (R294). -/
def execRndvRts (q : Fin 4) (k : Machine.Packet) (s : State) : Host.Outcome State Fault Refusal :=
  s.runHost (fun d => d.meshFree q.val (fun d => d.mtcArrive q.val tRNDV_RTS false true k))

/-- RNDV_FIN (R301). -/
def execRndvFin (q : Fin 4) (k : Machine.Packet) (s : State) : Host.Outcome State Fault Refusal :=
  s.runHost (fun d => d.meshFree q.val (fun d => d.mtcArrive q.val tRNDV_RTS true true k))

/-- UX_COPY_COMPLETE (R299). -/
def execUxCopyComplete (tag : Nat) (ok : Bool) (data : List Byte) (s : State) : Host.Outcome State Fault Refusal :=
  s.runHost (fun d => d.uxCopyComplete tag ok data)

/-- RNDV_REGION_FREE (R300). -/
def execRndvRegionFree (q : Fin 4) (f : Fin 256) (s : State) : Host.Outcome State Fault Refusal :=
  s.runHost (fun d => d.rndvFree q.val f.val)

/-- PURGE (R305). -/
def execMtcPurge (q : Fin 4) (f : Fin 256) (s : State) : Host.Outcome State Fault Refusal :=
  s.runHost (fun d => d.purge q.val f.val)

/-- MTC_FNRNDV_WRITE (R300). -/
def execMtcFnrndvWrite (q : Fin 4) (f : Fin 256) (v : Word) (s : State) : Host.Outcome State Fault Refusal :=
  s.runHost (fun d => d.fnrndvWrite q.val f.val v)

end Sys2Proof.Machine
end

