-- ==== Sys2Proof/Machine/ExecMesh.lean ====
section
/-! DEFINITION. Meanings of commands. The on-die network (spec/13): one definition per command over the shared operations. -/

namespace Sys2Proof.Machine

/-- MESH_MESSAGE (R337). -/
def execMeshMessage (m : Machine.MeshMsg) (ecc : Fin 3) (s : State) : Host.Outcome State Fault Refusal :=
  s.run (fun d => d.meshMessage m ecc.val)

/-- GATEWAY_MESSAGE (R347). -/
def execGatewayMessage (m : Machine.MeshMsg) (ecc : Fin 3) (s : State) : Host.Outcome State Fault Refusal :=
  s.run (fun d => d.gatewayMessage m ecc.val)

/-- SWITCH (R342). -/
def execMeshSwitch (q : Fin 4) (v : Word) (s : State) : Host.Outcome State Fault Refusal :=
  s.run (fun d => d.switchWrite q.val v)

/-- MESH_QUIESCED (R342). -/
def execMeshQuiesced (q : Fin 4) (s : State) : Host.Outcome State Fault Refusal :=
  s.run (fun d => d.meshQuiesced q.val)

/-- HOLDMAX_TIMEOUT (R342). -/
def execHoldmaxTimeout (q : Fin 4) (s : State) : Host.Outcome State Fault Refusal :=
  s.run (fun d => d.holdmaxPasses q.val)

/-- REGULATOR_RELEASE (R344). -/
def execRegulatorRelease (q : Fin 4) (node : Fin 25) (cls : Fin 4) (s : State) : Host.Outcome State Fault Refusal :=
  s.run (fun d => d.regulatorRelease q.val node.val cls.val)

end Sys2Proof.Machine
end

