-- ==== Sys2Proof/Machine/ExecPmc.lean ====
section
/-! DEFINITION. Meanings of commands. Performance counters (spec/18): one definition per command over the shared operations. -/

namespace Sys2Proof.Machine

/-- PMC_SEL_WRITE (R456). -/
def execPmcSelWrite (q : Fin 4) (k : Fin 256) (v : Word) (s : State) : Host.Outcome State Fault Refusal :=
  s.run (fun d => d.pmcSel q.val k.val v)

/-- PMC_CNT_WRITE (R454). -/
def execPmcCntWrite (q : Fin 4) (k : Fin 256) (v : Word) (s : State) : Host.Outcome State Fault Refusal :=
  s.run (fun d => d.pmcCntWrite q.val k.val v)

/-- PMC_CNT_READ (R455). -/
def execPmcCntRead (path : Path) (q : Fin 4) (k : Fin 256) (s : State) : Host.Outcome State Fault Refusal :=
  s.run (fun d => (d.emit (.readValue (pathOut path) (d.shown .PMC_CNT q.val k.val))).pmcCntRead q.val k.val)

/-- COUNTER_WRAP (R454). -/
def execCounterWrap (q : Fin 4) (k : Fin 256) (s : State) : Host.Outcome State Fault Refusal :=
  s.run (fun d => d.pmcWraps q.val k.val)

/-- GO (R460). -/
def execPmcGo (s : State) : Host.Outcome State Fault Refusal :=
  s.run (fun d => d.pmcGo)

/-- SNAPSHOT_PERIOD (R460). -/
def execSnapshotPeriod (s : State) : Host.Outcome State Fault Refusal :=
  s.run (fun d => d.pmcPeriod)

/-- SNAPSHOT_WRITTEN (R461). -/
def execSnapshotWritten (ok : Bool) (s : State) : Host.Outcome State Fault Refusal :=
  s.run (fun d => d.snapWrite ok)

/-- RING_CI_WRITE (R459). -/
def execRingCiWrite (v : Word) (s : State) : Host.Outcome State Fault Refusal :=
  s.run (fun d => d.ringCi v)

/-- RING_ENABLE (R459). -/
def execRingEnable (v : Word) (s : State) : Host.Outcome State Fault Refusal :=
  s.run (fun d => d.ringCtl (v ||| PMC_RINGCTL_EN.mask))

end Sys2Proof.Machine
end

