-- ==== Sys2Proof/Machine/ExecPower.lean ====
section
/-! DEFINITION. Meanings of commands. Supplies, power, temperature, domains, clocks (spec/16): one definition per command over the shared operations. -/

namespace Sys2Proof.Machine

/-- VIN_WARN (R407). -/
def execVinWarn (mv : Nat) (s : State) : Host.Outcome State Fault Refusal :=
  s.runOasis (fun d => d.vinWarn mv)

/-- VIN_WARN_RELEASE (R411). -/
def execVinWarnRelease (mv : Nat) (s : State) : Host.Outcome State Fault Refusal :=
  s.runOasis (fun d => d.vinWarnEnds mv)

/-- VIN_RESET (R408). -/
def execVinReset (s : State) : Host.Outcome State Fault Refusal :=
  s.runOasis (fun d => d.vinReset)

/-- VIN_OVERVOLTAGE (R408): VIN beyond the 20 V of Table 20-4 has no stated behaviour (R485). DEDUCED (log 21). -/
def execVinOvervoltage (mv : Nat) (s : State) : Host.Outcome State Fault Refusal :=
  if 20000 < mv then .fault .beyondRatings else s.runOasis (fun d => d.vinOver)

/-- VIN_RETURN (R408). -/
def execVinReturn (s : State) : Host.Outcome State Fault Refusal :=
  s.runOasis (fun d => d.vinReturn)

/-- VSTBY_CHANGE (R406). -/
def execVstbyChange (on : Bool) (s : State) : Host.Outcome State Fault Refusal :=
  s.runOasis (fun d => d.vstbyChange on)

/-- OVERCURRENT (R407). -/
def execOvercurrent (s : State) : Host.Outcome State Fault Refusal :=
  s.run (fun d => d.overcurrent)

/-- POWER_SAMPLE (R412). -/
def execPowerSample (mv : Nat) (iin : Nat) (pin : Nat) (s : State) : Host.Outcome State Fault Refusal :=
  s.run (fun d => d.powerSample mv iin pin)

/-- CONE_RISE (R411). -/
def execConeRise (s : State) : Host.Outcome State Fault Refusal :=
  s.run (fun d => d.coneRise)

/-- CAPMISS (R412). -/
def execCapmiss (s : State) : Host.Outcome State Fault Refusal :=
  s.run (fun d => d.capMiss)

/-- THERMAL_FALL (R414). -/
def execThermalFall (tj : Nat) (die : Fin 4) (s : State) : Host.Outcome State Fault Refusal :=
  s.run (fun d => d.thermalFall tj die.val)

/-- THERMAL_RISE (R414). -/
def execThermalRise (tj : Nat) (die : Fin 4) (s : State) : Host.Outcome State Fault Refusal :=
  s.run (fun d => d.thermalRise tj die.val)

/-- THERMAL_SHUTDOWN (R415). -/
def execThermalShutdown (tj : Nat) (die : Fin 4) (s : State) : Host.Outcome State Fault Refusal :=
  s.run (fun d => d.thermalShutdown tj die.val)

/-- THERMAL_RESTART (R415). -/
def execThermalRestart (tj : Nat) (s : State) : Host.Outcome State Fault Refusal :=
  s.runOasis (fun d => d.thermalRestart tj)

/-- STOP (R418). -/
def execDomainStop (q : Fin 4) (scope : Nat) (s : State) : Host.Outcome State Fault Refusal :=
  s.run (fun d => d.domStop q.val scope)

/-- WAKE (R421). -/
def execDomainWake (q : Fin 4) (scope : Nat) (s : State) : Host.Outcome State Fault Refusal :=
  s.run (fun d => d.domWake q.val scope)

/-- STOP_ENTRY_COMPLETE (R417). -/
def execStopEntryComplete (q : Fin 4) (s : State) : Host.Outcome State Fault Refusal :=
  s.run (fun d => d.stopComplete q.val)

/-- STOP_ENTRY_TIMEOUT (R417). -/
def execStopEntryTimeout (q : Fin 4) (s : State) : Host.Outcome State Fault Refusal :=
  s.run (fun d => d.stopTimeout q.val)

/-- WAKE_COMPLETE (R422). -/
def execWakeComplete (q : Fin 4) (scope : Nat) (s : State) : Host.Outcome State Fault Refusal :=
  s.run (fun d => d.wakeComplete q.val scope)

/-- REFERENCE_LOSS (R428). -/
def execReferenceLoss (s : State) : Host.Outcome State Fault Refusal :=
  s.run (fun d => d.refLoss)

/-- REFERENCE_RETURN (R428). -/
def execReferenceReturn (s : State) : Host.Outcome State Fault Refusal :=
  s.run (fun d => d.refReturn)

/-- HOLDOVER_TIMEOUT (R428). -/
def execHoldoverTimeout (s : State) : Host.Outcome State Fault Refusal :=
  s.run (fun d => d.holdoverTimeout)

/-- REFCLK_ARRIVAL (R494). -/
def execRefclkArrival (s : State) : Host.Outcome State Fault Refusal :=
  s.runOasis (fun d => d.refclkArrives)

end Sys2Proof.Machine
end

