-- ==== Sys2Proof/Machine/ExecReset.lean ====
section
/-! DEFINITION. Meanings of commands. Register accesses and resets (spec/01, spec/19): one definition per command over the shared operations. -/

namespace Sys2Proof.Machine

/-- REGISTER_WRITE (R8). -/
def execRegisterWrite (via : Via) (a : Nat) (v : Word) (s : State) : Host.Outcome State Fault Refusal :=
  s.run (fun d => d.registerWrite via.path a via.whole v)

/-- RC_READ (R8). -/
def execRcRead (via : Via) (a : Nat) (s : State) : Host.Outcome State Fault Refusal :=
  s.run (fun d => d.registerRead via.path a via.whole)

/-- MODULE_RESET (R22). -/
def execModuleReset (ns : Nat) (s : State) : Host.Outcome State Fault Refusal :=
  s.runOasis (fun d => d.resetContactAny ns)

/-- DIE_RESET (R24). -/
def execDieReset (q : Fin 4) (s : State) : Host.Outcome State Fault Refusal :=
  s.run (fun d => d.reset (locDie q.val) 3 none)

/-- REGION_RESET (R24). -/
def execRegionReset (m : Fin 16) (s : State) : Host.Outcome State Fault Refusal :=
  s.run (fun d => d.reset (locRegion m.val) 3 none)

/-- CLUSTER_RESET (R24). -/
def execClusterReset (c : Fin 64) (s : State) : Host.Outcome State Fault Refusal :=
  s.run (fun d => d.reset (locCluster c.val) 3 none)

/-- UNIT_RESET (R24). -/
def execUnitReset (q : Fin 4) (ukind : Nat) (n : Nat) (s : State) : Host.Outcome State Fault Refusal :=
  s.run (fun d => d.unitReset q.val ukind n)

/-- HOST_PORT_RESET (R22). -/
def execHostPortReset (q : Fin 4) (s : State) : Host.Outcome State Fault Refusal :=
  s.run (fun d => d.hostPerst q.val)

/-- MGMT_PORT_RESET (R22). -/
def execMgmtPortReset (s : State) : Host.Outcome State Fault Refusal :=
  s.run (fun d => d.mgmtReset)

/-- RESET_COMPLETE (R26). -/
def execResetComplete (level : Nat) (q : Fin 4) (ukind : Nat) (n : Nat) (s : State) : Host.Outcome State Fault Refusal :=
  s.run (fun d => d.resetComplete (scopeLoc level q.val ukind n))

end Sys2Proof.Machine
end

