-- ==== Sys2Proof/Machine/ExecRmx.lean ====
section
/-! DEFINITION. Meanings of commands. Remote memory (spec/10): one definition per command over the shared operations. -/

namespace Sys2Proof.Machine

/-- OPEN (R258). -/
def execOpenConn (q : Fin 4) (f : Fin 256) (v : Word) (s : State) : Host.Outcome State Fault Refusal :=
  s.runHost (fun d => d.openConn q.val f.val v)

/-- CLOSE (R259). -/
def execCloseConn (q : Fin 4) (f : Fin 256) (v : Word) (s : State) : Host.Outcome State Fault Refusal :=
  s.runHost (fun d => d.closeConn q.val f.val v)

/-- CONNECTION_FREE (R259). -/
def execConnectionFree (c : Nat) (s : State) : Host.Outcome State Fault Refusal :=
  s.runHost (fun d => d.connectionFree c)

/-- QUERY_CONN (R257). -/
def execQueryConn (q : Fin 4) (f : Fin 256) (v : Word) (s : State) : Host.Outcome State Fault Refusal :=
  s.runHost (fun d => d.queryConn q.val f.val v)

/-- REGISTER (R276). -/
def execRegisterRegion (q : Fin 4) (f : Fin 256) (v : Word) (s : State) : Host.Outcome State Fault Refusal :=
  s.runHost (fun d => d.registerRegion q.val f.val v)

/-- REVOKE (R278). -/
def execRevokeRegion (q : Fin 4) (f : Fin 256) (v : Word) (s : State) : Host.Outcome State Fault Refusal :=
  s.runHost (fun d => d.revokeRegion q.val f.val v)

/-- REVOKE_DONE (R278). -/
def execRevokeDone (q : Fin 4) (n : Fin 262144) (s : State) : Host.Outcome State Fault Refusal :=
  s.runHost (fun d => d.revokeEnds q.val n.val)

/-- QUERY_REG (R276). -/
def execQueryReg (q : Fin 4) (f : Fin 256) (v : Word) (s : State) : Host.Outcome State Fault Refusal :=
  s.runHost (fun d => d.queryReg q.val f.val v)

/-- PUT (R267). -/
def execRmxPut (q : Fin 4) (k : Machine.Packet) (s : State) : Host.Outcome State Fault Refusal :=
  s.runHost (fun d => d.meshFree q.val (fun d => d.rmxArrive q.val tPUT k))

/-- GET_REQ (R267). -/
def execGetReq (q : Fin 4) (k : Machine.Packet) (s : State) : Host.Outcome State Fault Refusal :=
  s.runHost (fun d => d.meshFree q.val (fun d => d.rmxArrive q.val tGET_REQ k))

/-- ATOMIC (R267). -/
def execAtomic (q : Fin 4) (k : Machine.Packet) (s : State) : Host.Outcome State Fault Refusal :=
  s.runHost (fun d => d.meshFree q.val (fun d => d.rmxArrive q.val tATOMIC k))

/-- PUT_CTR (R267). -/
def execPutCtr (q : Fin 4) (k : Machine.Packet) (s : State) : Host.Outcome State Fault Refusal :=
  s.runHost (fun d => d.meshFree q.val (fun d => d.rmxArrive q.val tPUT_CTR k))

/-- HOST_READ_COMPLETE (R264). -/
def execHostReadComplete (tag : Nat) (ok : Bool) (data : List Byte) (s : State) : Host.Outcome State Fault Refusal :=
  s.runHost (fun d => d.serveDone tag false ok data)

/-- HOST_ATOMIC_COMPLETE (R264). -/
def execHostAtomicComplete (tag : Nat) (ok : Bool) (data : List Byte) (s : State) : Host.Outcome State Fault Refusal :=
  s.runHost (fun d => d.serveDone tag true ok data)

/-- ACK_DELAY_EXPIRY (R270). -/
def execAckDelayExpiry (c : Nat) (tc : Nat) (s : State) : Host.Outcome State Fault Refusal :=
  s.runHost (fun d => d.ackDelay c tc)

/-- ACK (R271). -/
def execRmxAck (q : Fin 4) (k : Machine.Packet) (s : State) : Host.Outcome State Fault Refusal :=
  s.runHost (fun d => d.ackIn q.val k)

/-- NACK (R271). -/
def execRmxNack (q : Fin 4) (k : Machine.Packet) (s : State) : Host.Outcome State Fault Refusal :=
  s.runHost (fun d => d.nackIn q.val k)

/-- GET_RSP (R271). -/
def execGetRsp (q : Fin 4) (k : Machine.Packet) (s : State) : Host.Outcome State Fault Refusal :=
  s.runHost (fun d => d.meshFree q.val (fun d => d.getRspIn q.val k))

/-- ATOMIC_RSP (R271). -/
def execAtomicRsp (q : Fin 4) (k : Machine.Packet) (s : State) : Host.Outcome State Fault Refusal :=
  s.runHost (fun d => d.atomicRspIn q.val k)

/-- REQUEST_TIMEOUT (R273). -/
def execRequestTimeout (c : Nat) (psn : Nat) (s : State) : Host.Outcome State Fault Refusal :=
  s.runHost (fun d => d.requestTimeout c psn)

/-- HINT_RETRY (R273). -/
def execHintRetry (c : Nat) (psn : Nat) (s : State) : Host.Outcome State Fault Refusal :=
  s.runHost (fun d => d.hintRetry c psn)

/-- PACING_ELIGIBLE (R274). -/
def execPacingEligible (c : Nat) (s : State) : Host.Outcome State Fault Refusal :=
  s.runHost (fun d => d.sendNext c)

/-- INITIATOR_READ_COMPLETE (R252). -/
def execInitiatorReadComplete (tag : Nat) (ok : Bool) (data : List Byte) (s : State) : Host.Outcome State Fault Refusal :=
  s.runHost (fun d => d.initiatorRead tag ok data)

/-- RMX_FNRES_WRITE (R257). -/
def execRmxFnresWrite (q : Fin 4) (f : Fin 256) (kind : Fin 3) (v : Word) (s : State) : Host.Outcome State Fault Refusal :=
  s.runHost (fun d => d.fnresWrite q.val f.val kind.val v)

end Sys2Proof.Machine
end

