-- ==== Sys2Proof/Machine/ExecRoute.lean ====
section
/-! DEFINITION. Meanings of commands. The router, routing, guarantees and quality of service (spec/04 to spec/07): one definition per command over the shared operations. -/

namespace Sys2Proof.Machine

/-- ADMIT_WAITING_PACKET (R164). -/
def execAdmitWaitingPacket (p : Fin 512) (s : State) : Host.Outcome State Fault Refusal :=
  s.run (fun d => d.admitWaiting p.val 1)

/-- INJECT_PACKET (R163). -/
def execInjectPacket (q : Fin 4) (r : Fin 4) (fw : Bool) (k : Machine.Packet) (s : State) : Host.Outcome State Fault Refusal :=
  s.run (fun d => (d.offer q.val r.val fw k []).retryInj q.val r.val)

/-- INJECTION_RELEASE (R179). -/
def execInjectionRelease (q : Fin 4) (r : Fin 4) (s : State) : Host.Outcome State Fault Refusal :=
  s.run (fun d => d.retryInj q.val r.val)

/-- CELL_FREE (R159). -/
def execCellFree (c : Nat) (s : State) : Host.Outcome State Fault Refusal :=
  s.run (fun d => d.freeRef c)

/-- DUNE_SEND (R117). -/
def execDuneSend (q : Fin 4) (s : State) : Host.Outcome State Fault Refusal :=
  s.run (fun d => d.duneSend q.val)

/-- DUNE (R118). -/
def execDuneReceived (p : Fin 512) (c : Ctrl) (b : Body) (s : State) : Host.Outcome State Fault Refusal :=
  s.run (fun d => d.duneIn p.val c b)

/-- EPOCH_VALIDATE (R122). -/
def execEpochValidate (q : Fin 4) (bank : Fin 2) (s : State) : Host.Outcome State Fault Refusal :=
  s.run (fun d => d.validateBank q.val bank.val)

/-- BANK_CHECK_DONE (R122). -/
def execBankCheckDone (q : Fin 4) (s : State) : Host.Outcome State Fault Refusal :=
  s.run (fun d => d.bankCheckDone q.val)

/-- EPOCH_RETIRE (R128). -/
def execEpochRetire (q : Fin 4) (bank : Fin 2) (s : State) : Host.Outcome State Fault Refusal :=
  s.run (fun d => d.retireBank q.val bank.val)

/-- EPOCH_STAMP (R128). -/
def execEpochStamp (q : Fin 4) (e : Fin 2) (s : State) : Host.Outcome State Fault Refusal :=
  s.run (fun d => d.stampWrite q.val e.val)

/-- ROUTE_TABLE_WRITE (R123). -/
def execRouteTableWrite (q : Fin 4) (bank : Fin 2) (w : Nat) (v : Word) (s : State) : Host.Outcome State Fault Refusal :=
  s.run (fun d => d.routeWrite q.val bank.val w v)

/-- PORT_SET_WRITE (R123). -/
def execPortSetWrite (q : Fin 4) (bank : Fin 2) (n : Nat) (w : Fin 4) (v : Word) (s : State) : Host.Outcome State Fault Refusal :=
  s.run (fun d => d.psetWrite q.val bank.val n w.val v)

/-- EPOCH (R129). -/
def execEpochReceived (p : Fin 512) (c : Ctrl) (b : Body) (s : State) : Host.Outcome State Fault Refusal :=
  s.run (fun d => d.epochIn p.val c b)

/-- COUNT_ROUND (R131). -/
def execCountRound (s : State) : Host.Outcome State Fault Refusal :=
  s.run (fun d => d.countRound)

/-- PORT_DEAD_TIMEOUT (R134). -/
def execPortDeadTimeout (p : Fin 512) (s : State) : Host.Outcome State Fault Refusal :=
  s.run (fun d => d.portDies p.val)

/-- PRT_RELEASE_QUEUED (R136). -/
def execPrtReleaseQueued (p : Fin 512) (s : State) : Host.Outcome State Fault Refusal :=
  s.run (fun d => d.prtRelease p.val 1)

/-- PRT_RELEASE_HELD (R136). -/
def execPrtReleaseHeld (p : Fin 512) (s : State) : Host.Outcome State Fault Refusal :=
  s.run (fun d => d.prtRelease p.val 2)

/-- PRT_RELEASE_BOTH (R136). -/
def execPrtReleaseBoth (p : Fin 512) (s : State) : Host.Outcome State Fault Refusal :=
  s.run (fun d => d.prtRelease p.val 3)

/-- HELD_TRAFFIC_RELEASE (R136). -/
def execHeldTrafficRelease (p : Fin 512) (s : State) : Host.Outcome State Fault Refusal :=
  s.run (fun d => d.heldRelease p.val)

/-- LEDGER_AUDIT (R148). -/
def execLedgerAudit (q : Fin 4) (s : State) : Host.Outcome State Fault Refusal :=
  s.run (fun d => d.ledgerAudit q.val)

/-- FWD_SHARE_WRITE (R161). -/
def execFwdShareWrite (l : Fin 512) (v : Word) (s : State) : Host.Outcome State Fault Refusal :=
  s.run (fun d => d.shareWrite l.val v)

/-- FWD_INJ_WRITE (R161). -/
def execFwdInjWrite (q : Fin 4) (v : Word) (s : State) : Host.Outcome State Fault Refusal :=
  s.run (fun d => d.fwdInj q.val v)

/-- SHAPER_ELIGIBLE (R172). -/
def execShaperEligible (p : Fin 512) (t : Fin 16) (s : State) : Host.Outcome State Fault Refusal :=
  s.run (fun d => d.shaperEligible p.val t.val)

/-- WHEEL_TURN (R172). -/
def execWheelTurn (q : Fin 4) (s : State) : Host.Outcome State Fault Refusal :=
  s.run (fun d => d.wheelTurn q.val)

/-- SHAPE_WRITE (R173). -/
def execShapeWrite (p : Fin 512) (t : Fin 16) (v : Word) (s : State) : Host.Outcome State Fault Refusal :=
  s.run (fun d => d.shapeWrite p.val t.val v)

/-- SHAPE_APPLY (R173). -/
def execShapeApply (p : Fin 512) (t : Fin 16) (s : State) : Host.Outcome State Fault Refusal :=
  s.run (fun d => d.shapeApply p.val t.val)

/-- GATE_LIST_WRITE (R175). -/
def execGateListWrite (p : Fin 512) (l : Fin 2) (e : Fin 256) (v : Word) (s : State) : Host.Outcome State Fault Refusal :=
  s.run (fun d => d.gateWrite p.val l.val e.val v)

/-- COMMIT (R175). DEDUCED (log 23). -/
def execGateCommit (p : Fin 512) (v : Word) (s : State) : Host.Outcome State Fault Refusal :=
  s.run (fun d => d.gateCtl p.val (v ||| SCH_GATECTL_COMMIT.mask))

/-- CANCEL (R175). -/
def execGateCancel (p : Fin 512) (v : Word) (s : State) : Host.Outcome State Fault Refusal :=
  s.run (fun d => d.gateCtl p.val (v ||| SCH_GATECTL_CANCEL.mask))

/-- GATE_TAKEOVER (R176). -/
def execGateTakeover (p : Fin 512) (s : State) : Host.Outcome State Fault Refusal :=
  s.run (fun d => d.gateTakeover p.val)

/-- GATE_ENTRY_END (R174). -/
def execGateEntryEnd (p : Fin 512) (s : State) : Host.Outcome State Fault Refusal :=
  s.run (fun d => d.gateEntryEnd p.val)

end Sys2Proof.Machine
end

