-- ==== Sys2Proof/Machine/ExecSaggar.lean ====
section
/-! DEFINITION. Meanings of commands. Saggar (spec/14): one definition per command over the shared operations. -/

namespace Sys2Proof.Machine

/-- CHALLENGE_READ (R355). -/
def execChallengeRead (path : Path) (s : State) : Host.Outcome State Fault Refusal :=
  s.run (fun d => (d.emit (.readValue (pathOut path) (d.shown .SAG_CHAL 0 0))).challengeRead)

/-- PRESENT (R355). -/
def execTokenPresent (q : Fin 4) (path : Path) (s : State) : Host.Outcome State Fault Refusal :=
  s.run (fun d => d.present q.val path)

/-- TOKEN_VERIFIED (R355). -/
def execTokenVerified (s : State) : Host.Outcome State Fault Refusal :=
  s.run (fun d => d.tokenVerified)

/-- SET_OPKEY (R356). -/
def execSetOpkey (q : Fin 4) (path : Path) (s : State) : Host.Outcome State Fault Refusal :=
  s.run (fun d => d.setOpkey q.val path)

/-- LOWER (R354). -/
def execDebugLower (level : Fin 4) (s : State) : Host.Outcome State Fault Refusal :=
  s.run (fun d => d.lowerLevel level.val)

/-- INSTALL_CONN (R362). -/
def execInstallConn (q : Fin 4) (owner : Fin 257) (v : Word) (s : State) : Host.Outcome State Fault Refusal :=
  s.run (fun d => d.keyInstallConn q.val owner.val v)

/-- INSTALL_GROUP (R362). -/
def execInstallGroup (q : Fin 4) (owner : Fin 257) (v : Word) (s : State) : Host.Outcome State Fault Refusal :=
  s.run (fun d => d.keyInstallGroup q.val owner.val v)

/-- ERASE (R362). -/
def execKeyErase (q : Fin 4) (owner : Fin 257) (v : Word) (s : State) : Host.Outcome State Fault Refusal :=
  s.run (fun d => d.keyEraseCmd q.val owner.val v)

/-- ENTROPY_FAIL (R351). -/
def execEntropyFail (q : Fin 4) (s : State) : Host.Outcome State Fault Refusal :=
  s.run (fun d => d.entropyFails q.val)

/-- ENTROPY_RECOVER (R351). -/
def execEntropyRecover (q : Fin 4) (s : State) : Host.Outcome State Fault Refusal :=
  s.run (fun d => d.entropyRecovers q.val)

/-- WIPE_DONE (R372). -/
def execWipeDone (scope : Nat) (die : Nat) (part : Nat) (s : State) : Host.Outcome State Fault Refusal :=
  s.run (fun d => d.wipeDone scope die part)

end Sys2Proof.Machine
end

