-- ==== Sys2Proof/Machine/ExecXlt.lean ====
section
/-! DEFINITION. Meanings of commands. Translation (spec/12): one definition per command over the shared operations. -/

namespace Sys2Proof.Machine

/-- HANDLER_MISS (R321). -/
def execHandlerMiss (q : Fin 4) (slot : Fin 256) (s : State) : Host.Outcome State Fault Refusal :=
  s.runHost (fun d => d.meshFree q.val (fun d => d.handlerMiss q.val slot.val))

/-- HANDLER_MARK (R322). -/
def execHandlerMark (q : Fin 4) (slot : Fin 256) (found : Word) (s : State) : Host.Outcome State Fault Refusal :=
  s.runHost (fun d => d.meshFree q.val (fun d => d.handlerMark q.val slot.val found))

/-- WALK_READ_COMPLETE (R326). -/
def execWalkReadComplete (tag : Nat) (ok : Bool) (x : Word) (s : State) : Host.Outcome State Fault Refusal :=
  s.runHost (fun d => d.walkReadDone tag ok x)

/-- RETRY (R320). -/
def execTrapRetry (q : Fin 4) (id : Fin 65536) (s : State) : Host.Outcome State Fault Refusal :=
  s.runHost (fun d => d.resolveTrap q.val id.val (fun slot d => d.slotRetry q.val slot))

/-- NOT_PRESENT (R320). -/
def execTrapNotPresent (q : Fin 4) (id : Fin 65536) (hint : Fin 65536) (s : State) : Host.Outcome State Fault Refusal :=
  s.runHost (fun d => d.resolveTrap q.val id.val (fun slot d => d.slotAbsent q.val slot hint.val))

/-- WALK_ERROR (R320). -/
def execTrapWalkError (q : Fin 4) (id : Fin 65536) (s : State) : Host.Outcome State Fault Refusal :=
  s.runHost (fun d => d.resolveTrap q.val id.val (fun slot d => d.slotFail q.val slot ST_WALK_ERROR))

/-- NOT_PERMITTED (R320). -/
def execTrapNotPermitted (q : Fin 4) (id : Fin 65536) (s : State) : Host.Outcome State Fault Refusal :=
  s.runHost (fun d => d.resolveTrap q.val id.val (fun slot d => d.slotFail q.val slot ST_NOT_PERMITTED))

/-- TWAIT_TIMEOUT (R319). -/
def execTwaitTimeout (q : Fin 4) (slot : Fin 256) (s : State) : Host.Outcome State Fault Refusal :=
  s.runHost (fun d => d.twaitTimeout q.val slot.val)

/-- TRAP_HINT_RETRY (R319). -/
def execTrapHintRetry (q : Fin 4) (slot : Fin 256) (s : State) : Host.Outcome State Fault Refusal :=
  s.runHost (fun d => d.trapHintRetry q.val slot.val)

/-- LOAD (R312). -/
def execXltLoad (q : Fin 4) (s : State) : Host.Outcome State Fault Refusal :=
  s.runHost (fun d => d.xltLoad q.val)

/-- REMOVE (R311). -/
def execXltRemove (q : Fin 4) (s : State) : Host.Outcome State Fault Refusal :=
  s.runHost (fun d => d.xltRemove q.val)

/-- MAP (R329). -/
def execXltMap (q : Fin 4) (f : Fin 256) (s : State) : Host.Outcome State Fault Refusal :=
  s.runHost (fun d => d.xltMap q.val f.val)

/-- UNMAP (R330). -/
def execXltUnmap (q : Fin 4) (f : Fin 256) (s : State) : Host.Outcome State Fault Refusal :=
  s.runHost (fun d => d.xltUnmap q.val f.val)

/-- INVAL (R330). -/
def execXltInval (q : Fin 4) (f : Fin 256) (s : State) : Host.Outcome State Fault Refusal :=
  s.runHost (fun d => d.xltInval q.val f.val)

/-- INVAL_SPACE (R330). -/
def execXltInvalSpace (q : Fin 4) (f : Fin 256) (s : State) : Host.Outcome State Fault Refusal :=
  s.runHost (fun d => d.xltInvalSpace q.val f.val)

/-- INVAL_COMPLETE (R331). -/
def execXltInvalComplete (q : Fin 4) (f : Fin 256) (s : State) : Host.Outcome State Fault Refusal :=
  s.runHost (fun d => d.invalComplete q.val f.val)

/-- PGRESP (R324). -/
def execPgResp (q : Fin 4) (f : Fin 256) (s : State) : Host.Outcome State Fault Refusal :=
  s.runHost (fun d => d.pgResp q.val f.val)

/-- PAGE_REQUEST_TIMEOUT (R324). -/
def execPageRequestTimeout (q : Fin 4) (id : Nat) (s : State) : Host.Outcome State Fault Refusal :=
  s.runHost (fun d => d.pageRequestTimeout q.val id)

/-- XLT_SPACE_WRITE (R309). -/
def execXltSpaceWrite (q : Fin 4) (n : Fin 4096) (root : Bool) (v : Word) (s : State) : Host.Outcome State Fault Refusal :=
  s.runHost (fun d => d.spaceWrite q.val n.val root v)

end Sys2Proof.Machine
end

