-- ==== Sys2Proof/Machine/Dispatch.lean ====
section
/-! DEFINITION. What each command does: one arm per constructor. -/

namespace Sys2Proof.Machine

/-- The effect of a command on everything but the queue. -/
def exec (i : Instr) (s : State) : Host.Outcome State Fault Refusal :=
  match i with
  | .registerWrite via a v => Sys2Proof.Machine.execRegisterWrite via a v s
  | .rcRead via a => Sys2Proof.Machine.execRcRead via a s
  | .moduleReset ns => Sys2Proof.Machine.execModuleReset ns s
  | .dieReset q => Sys2Proof.Machine.execDieReset q s
  | .regionReset m => Sys2Proof.Machine.execRegionReset m s
  | .clusterReset c => Sys2Proof.Machine.execClusterReset c s
  | .unitReset q ukind n => Sys2Proof.Machine.execUnitReset q ukind n s
  | .hostPortReset q => Sys2Proof.Machine.execHostPortReset q s
  | .mgmtPortReset => Sys2Proof.Machine.execMgmtPortReset s
  | .resetComplete level q ukind n => Sys2Proof.Machine.execResetComplete level q ukind n s
  | .bridgeDown q e => Sys2Proof.Machine.execBridgeDown q e s
  | .bridgeFlitArrival q e => Sys2Proof.Machine.execBridgeFlitArrival q e s
  | .clusterMapWrite c v => Sys2Proof.Machine.execClusterMapWrite c v s
  | .txeqWrite l v => Sys2Proof.Machine.execTxeqWrite l v s
  | .laneCtrlWrite l v => Sys2Proof.Machine.execLaneCtrlWrite l v s
  | .laneTrainingFrame l ctl => Sys2Proof.Machine.execLaneTrainingFrame l ctl s
  | .acquireLock l inverted peaking => Sys2Proof.Machine.execAcquireLock l inverted peaking s
  | .acquireTimeout l => Sys2Proof.Machine.execAcquireTimeout l s
  | .adaptConverged l tap => Sys2Proof.Machine.execAdaptConverged l tap s
  | .adaptTimeout l => Sys2Proof.Machine.execAdaptTimeout l s
  | .lossOfSignal l signal => Sys2Proof.Machine.execLossOfSignal l signal s
  | .rxQuietEntry l => Sys2Proof.Machine.execRxQuietEntry l s
  | .relock l => Sys2Proof.Machine.execRelock l s
  | .relockTimeout l => Sys2Proof.Machine.execRelockTimeout l s
  | .txQuietEntry p => Sys2Proof.Machine.execTxQuietEntry p s
  | .txWakeDone p => Sys2Proof.Machine.execTxWakeDone p s
  | .maintBurst p => Sys2Proof.Machine.execMaintBurst p s
  | .fecCodeword p result flits => Sys2Proof.Machine.execFecCodeword p result flits s
  | .parityError p => Sys2Proof.Machine.execParityError p s
  | .loopbackWrite p v => Sys2Proof.Machine.execLoopbackWrite p v s
  | .patternCtrlWrite l v => Sys2Proof.Machine.execPatternCtrlWrite l v s
  | .checkerLock l => Sys2Proof.Machine.execCheckerLock l s
  | .checkerLoss l errors => Sys2Proof.Machine.execCheckerLoss l errors s
  | .eyeScanStart l v => Sys2Proof.Machine.execEyeScanStart l v s
  | .eyeScanStop l => Sys2Proof.Machine.execEyeScanStop l s
  | .eyeScanDone l errors => Sys2Proof.Machine.execEyeScanDone l errors s
  | .dataFlitReceived p c b => Sys2Proof.Machine.execDataFlitReceived p c b s
  | .idleFlitReceived p c => Sys2Proof.Machine.execIdleFlitReceived p c s
  | .flitCrcError p crc => Sys2Proof.Machine.execFlitCrcError p crc s
  | .replayReq p c b => Sys2Proof.Machine.execReplayReq p c b s
  | .replayStart p c b => Sys2Proof.Machine.execReplayStart p c b s
  | .replayTimeout p => Sys2Proof.Machine.execReplayTimeout p s
  | .ackDue p => Sys2Proof.Machine.execAckDue p s
  | .creditMessageDue p => Sys2Proof.Machine.execCreditMessageDue p s
  | .transmitFlitSlot p => Sys2Proof.Machine.execTransmitFlitSlot p s
  | .trainReceived p c b => Sys2Proof.Machine.execTrainReceived p c b s
  | .trainSend p => Sys2Proof.Machine.execTrainSend p s
  | .lanePhaseDone p => Sys2Proof.Machine.execLanePhaseDone p s
  | .alignmentDone p => Sys2Proof.Machine.execAlignmentDone p s
  | .trainTimeout p => Sys2Proof.Machine.execTrainTimeout p s
  | .retrainReq p c => Sys2Proof.Machine.execRetrainReq p c s
  | .oosNotice p c => Sys2Proof.Machine.execOosNotice p c s
  | .drainedReceived p c => Sys2Proof.Machine.execDrainedReceived p c s
  | .windowDrained p => Sys2Proof.Machine.execWindowDrained p s
  | .drainTimeout p => Sys2Proof.Machine.execDrainTimeout p s
  | .downProbe p => Sys2Proof.Machine.execDownProbe p s
  | .signalDetected p => Sys2Proof.Machine.execSignalDetected p s
  | .linkEnable p v => Sys2Proof.Machine.execLinkEnable p v s
  | .linkDisable p v => Sys2Proof.Machine.execLinkDisable p v s
  | .integWrite p v => Sys2Proof.Machine.execIntegWrite p v s
  | .lnkCmdRetrain p => Sys2Proof.Machine.execLnkCmdRetrain p s
  | .lnkCmdOutOfService p => Sys2Proof.Machine.execLnkCmdOutOfService p s
  | .lnkCmdInService p => Sys2Proof.Machine.execLnkCmdInService p s
  | .creditReceived p c b => Sys2Proof.Machine.execCreditReceived p c b s
  | .auditReceived p c b => Sys2Proof.Machine.execAuditReceived p c b s
  | .auditSend p => Sys2Proof.Machine.execAuditSend p s
  | .timeReceived p c b => Sys2Proof.Machine.execTimeReceived p c b s
  | .timeSend p => Sys2Proof.Machine.execTimeSend p s
  | .admitWaitingPacket p => Sys2Proof.Machine.execAdmitWaitingPacket p s
  | .injectPacket q r fw k => Sys2Proof.Machine.execInjectPacket q r fw k s
  | .injectionRelease q r => Sys2Proof.Machine.execInjectionRelease q r s
  | .cellFree c => Sys2Proof.Machine.execCellFree c s
  | .duneSend q => Sys2Proof.Machine.execDuneSend q s
  | .duneReceived p c b => Sys2Proof.Machine.execDuneReceived p c b s
  | .epochValidate q bank => Sys2Proof.Machine.execEpochValidate q bank s
  | .bankCheckDone q => Sys2Proof.Machine.execBankCheckDone q s
  | .epochRetire q bank => Sys2Proof.Machine.execEpochRetire q bank s
  | .epochStamp q e => Sys2Proof.Machine.execEpochStamp q e s
  | .routeTableWrite q bank w v => Sys2Proof.Machine.execRouteTableWrite q bank w v s
  | .portSetWrite q bank n w v => Sys2Proof.Machine.execPortSetWrite q bank n w v s
  | .epochReceived p c b => Sys2Proof.Machine.execEpochReceived p c b s
  | .countRound => Sys2Proof.Machine.execCountRound s
  | .portDeadTimeout p => Sys2Proof.Machine.execPortDeadTimeout p s
  | .prtReleaseQueued p => Sys2Proof.Machine.execPrtReleaseQueued p s
  | .prtReleaseHeld p => Sys2Proof.Machine.execPrtReleaseHeld p s
  | .prtReleaseBoth p => Sys2Proof.Machine.execPrtReleaseBoth p s
  | .heldTrafficRelease p => Sys2Proof.Machine.execHeldTrafficRelease p s
  | .ledgerAudit q => Sys2Proof.Machine.execLedgerAudit q s
  | .fwdShareWrite l v => Sys2Proof.Machine.execFwdShareWrite l v s
  | .fwdInjWrite q v => Sys2Proof.Machine.execFwdInjWrite q v s
  | .shaperEligible p t => Sys2Proof.Machine.execShaperEligible p t s
  | .wheelTurn q => Sys2Proof.Machine.execWheelTurn q s
  | .shapeWrite p t v => Sys2Proof.Machine.execShapeWrite p t v s
  | .shapeApply p t => Sys2Proof.Machine.execShapeApply p t s
  | .gateListWrite p l e v => Sys2Proof.Machine.execGateListWrite p l e v s
  | .gateCommit p v => Sys2Proof.Machine.execGateCommit p v s
  | .gateCancel p v => Sys2Proof.Machine.execGateCancel p v s
  | .gateTakeover p => Sys2Proof.Machine.execGateTakeover p s
  | .gateEntryEnd p => Sys2Proof.Machine.execGateEntryEnd p s
  | .groupEntryFetch q g => Sys2Proof.Machine.execGroupEntryFetch q g s
  | .groupValidate q g => Sys2Proof.Machine.execGroupValidate q g s
  | .groupInvalidate q g => Sys2Proof.Machine.execGroupInvalidate q g s
  | .groupForce q g => Sys2Proof.Machine.execGroupForce q g s
  | .groupEntryWrite q g w v => Sys2Proof.Machine.execGroupEntryWrite q g w v s
  | .mcast q member k => Sys2Proof.Machine.execMcast q member k s
  | .redUp q src k => Sys2Proof.Machine.execRedUp q src k s
  | .redDown q k => Sys2Proof.Machine.execRedDown q k s
  | .colGrant q k => Sys2Proof.Machine.execColGrant q k s
  | .bufferAssign q g seq => Sys2Proof.Machine.execBufferAssign q g seq s
  | .barrierUp q src k => Sys2Proof.Machine.execBarrierUp q src k s
  | .barrierDown q k => Sys2Proof.Machine.execBarrierDown q k s
  | .epochCount q src k => Sys2Proof.Machine.execEpochCount q src k s
  | .operationTimeout q g seq => Sys2Proof.Machine.execOperationTimeout q g seq s
  | .memberTimeout q g seq member => Sys2Proof.Machine.execMemberTimeout q g seq member s
  | .fenceReceived p c b => Sys2Proof.Machine.execFenceReceived p c b s
  | .fenceGo q path v => Sys2Proof.Machine.execFenceGo q path v s
  | .fenceRefresh => Sys2Proof.Machine.execFenceRefresh s
  | .producerDoorbell q k f n w ok => Sys2Proof.Machine.execProducerDoorbell q k f n w ok s
  | .consumerDoorbell q k f n w ok => Sys2Proof.Machine.execConsumerDoorbell q k f n w ok s
  | .counterWrite q n v => Sys2Proof.Machine.execCounterWrite q n v s
  | .counterAtomic q n op x y => Sys2Proof.Machine.execCounterAtomic q n op x y s
  | .keyrightsWrite q n v => Sys2Proof.Machine.execKeyrightsWrite q n v s
  | .descriptorStart q k n desc shards ok => Sys2Proof.Machine.execDescriptorStart q k n desc shards ok s
  | .moderationEnd q n => Sys2Proof.Machine.execModerationEnd q n s
  | .queueCreate q f => Sys2Proof.Machine.execQueueCreate q f s
  | .queuePause q f => Sys2Proof.Machine.execQueuePause q f s
  | .queuePauseDone q k g => Sys2Proof.Machine.execQueuePauseDone q k g s
  | .queueResume q f => Sys2Proof.Machine.execQueueResume q f s
  | .queueRecover q f => Sys2Proof.Machine.execQueueRecover q f s
  | .queueDestroy q f => Sys2Proof.Machine.execQueueDestroy q f s
  | .queueQuery q f => Sys2Proof.Machine.execQueueQuery q f s
  | .flushComplete q k g => Sys2Proof.Machine.execFlushComplete q k g s
  | .cqStallTimeout q g => Sys2Proof.Machine.execCqStallTimeout q g s
  | .functionLevelReset q f => Sys2Proof.Machine.execFunctionLevelReset q f s
  | .d3hotToD0 q f => Sys2Proof.Machine.execD3hotToD0 q f s
  | .hostLinkDown q hot => Sys2Proof.Machine.execHostLinkDown q hot s
  | .hostLinkUp q rate width flit sris => Sys2Proof.Machine.execHostLinkUp q rate width flit sris s
  | .fnqWrite q f k v => Sys2Proof.Machine.execFnqWrite q f k v s
  | .openConn q f v => Sys2Proof.Machine.execOpenConn q f v s
  | .closeConn q f v => Sys2Proof.Machine.execCloseConn q f v s
  | .connectionFree c => Sys2Proof.Machine.execConnectionFree c s
  | .queryConn q f v => Sys2Proof.Machine.execQueryConn q f v s
  | .registerRegion q f v => Sys2Proof.Machine.execRegisterRegion q f v s
  | .revokeRegion q f v => Sys2Proof.Machine.execRevokeRegion q f v s
  | .revokeDone q n => Sys2Proof.Machine.execRevokeDone q n s
  | .queryReg q f v => Sys2Proof.Machine.execQueryReg q f v s
  | .rmxPut q k => Sys2Proof.Machine.execRmxPut q k s
  | .getReq q k => Sys2Proof.Machine.execGetReq q k s
  | .atomic q k => Sys2Proof.Machine.execAtomic q k s
  | .putCtr q k => Sys2Proof.Machine.execPutCtr q k s
  | .hostReadComplete tag ok data => Sys2Proof.Machine.execHostReadComplete tag ok data s
  | .hostAtomicComplete tag ok data => Sys2Proof.Machine.execHostAtomicComplete tag ok data s
  | .ackDelayExpiry c tc => Sys2Proof.Machine.execAckDelayExpiry c tc s
  | .rmxAck q k => Sys2Proof.Machine.execRmxAck q k s
  | .rmxNack q k => Sys2Proof.Machine.execRmxNack q k s
  | .getRsp q k => Sys2Proof.Machine.execGetRsp q k s
  | .atomicRsp q k => Sys2Proof.Machine.execAtomicRsp q k s
  | .requestTimeout c psn => Sys2Proof.Machine.execRequestTimeout c psn s
  | .hintRetry c psn => Sys2Proof.Machine.execHintRetry c psn s
  | .pacingEligible c => Sys2Proof.Machine.execPacingEligible c s
  | .mtcSend q k => Sys2Proof.Machine.execMtcSend q k s
  | .sendData q k => Sys2Proof.Machine.execSendData q k s
  | .rndvRts q k => Sys2Proof.Machine.execRndvRts q k s
  | .rndvFin q k => Sys2Proof.Machine.execRndvFin q k s
  | .uxCopyComplete tag ok data => Sys2Proof.Machine.execUxCopyComplete tag ok data s
  | .rndvRegionFree q f => Sys2Proof.Machine.execRndvRegionFree q f s
  | .mtcPurge q f => Sys2Proof.Machine.execMtcPurge q f s
  | .handlerMiss q slot => Sys2Proof.Machine.execHandlerMiss q slot s
  | .handlerMark q slot found => Sys2Proof.Machine.execHandlerMark q slot found s
  | .walkReadComplete tag ok x => Sys2Proof.Machine.execWalkReadComplete tag ok x s
  | .trapRetry q id => Sys2Proof.Machine.execTrapRetry q id s
  | .trapNotPresent q id hint => Sys2Proof.Machine.execTrapNotPresent q id hint s
  | .trapWalkError q id => Sys2Proof.Machine.execTrapWalkError q id s
  | .trapNotPermitted q id => Sys2Proof.Machine.execTrapNotPermitted q id s
  | .twaitTimeout q slot => Sys2Proof.Machine.execTwaitTimeout q slot s
  | .trapHintRetry q slot => Sys2Proof.Machine.execTrapHintRetry q slot s
  | .xltLoad q => Sys2Proof.Machine.execXltLoad q s
  | .xltRemove q => Sys2Proof.Machine.execXltRemove q s
  | .xltMap q f => Sys2Proof.Machine.execXltMap q f s
  | .xltUnmap q f => Sys2Proof.Machine.execXltUnmap q f s
  | .xltInval q f => Sys2Proof.Machine.execXltInval q f s
  | .xltInvalSpace q f => Sys2Proof.Machine.execXltInvalSpace q f s
  | .xltInvalComplete q f => Sys2Proof.Machine.execXltInvalComplete q f s
  | .pgResp q f => Sys2Proof.Machine.execPgResp q f s
  | .pageRequestTimeout q id => Sys2Proof.Machine.execPageRequestTimeout q id s
  | .xltSpaceWrite q n root v => Sys2Proof.Machine.execXltSpaceWrite q n root v s
  | .meshMessage m ecc => Sys2Proof.Machine.execMeshMessage m ecc s
  | .gatewayMessage m ecc => Sys2Proof.Machine.execGatewayMessage m ecc s
  | .meshSwitch q v => Sys2Proof.Machine.execMeshSwitch q v s
  | .meshQuiesced q => Sys2Proof.Machine.execMeshQuiesced q s
  | .holdmaxTimeout q => Sys2Proof.Machine.execHoldmaxTimeout q s
  | .regulatorRelease q node cls => Sys2Proof.Machine.execRegulatorRelease q node cls s
  | .challengeRead path => Sys2Proof.Machine.execChallengeRead path s
  | .tokenPresent q path => Sys2Proof.Machine.execTokenPresent q path s
  | .tokenVerified => Sys2Proof.Machine.execTokenVerified s
  | .setOpkey q path => Sys2Proof.Machine.execSetOpkey q path s
  | .debugLower level => Sys2Proof.Machine.execDebugLower level s
  | .installConn q owner v => Sys2Proof.Machine.execInstallConn q owner v s
  | .installGroup q owner v => Sys2Proof.Machine.execInstallGroup q owner v s
  | .keyErase q owner v => Sys2Proof.Machine.execKeyErase q owner v s
  | .entropyFail q => Sys2Proof.Machine.execEntropyFail q s
  | .entropyRecover q => Sys2Proof.Machine.execEntropyRecover q s
  | .wipeDone scope die part => Sys2Proof.Machine.execWipeDone scope die part s
  | .flashInit ok => Sys2Proof.Machine.execFlashInit ok s
  | .candidateChosen unread => Sys2Proof.Machine.execCandidateChosen unread s
  | .saggarImageLoaded ok => Sys2Proof.Machine.execSaggarImageLoaded ok s
  | .zoruriImageLoaded ok => Sys2Proof.Machine.execZoruriImageLoaded ok s
  | .calibrationDone q ports lanes brgh brgv banks chans tables other => Sys2Proof.Machine.execCalibrationDone q ports lanes brgh brgv banks chans tables other s
  | .phaseRun words => Sys2Proof.Machine.execPhaseRun words s
  | .directoryUpdateDone => Sys2Proof.Machine.execDirectoryUpdateDone s
  | .slotTrialA => Sys2Proof.Machine.execSlotTrialA s
  | .slotTrialB => Sys2Proof.Machine.execSlotTrialB s
  | .slotCommit path => Sys2Proof.Machine.execSlotCommit path s
  | .slotRevert => Sys2Proof.Machine.execSlotRevert s
  | .slotReboot => Sys2Proof.Machine.execSlotReboot s
  | .trialWatchdog => Sys2Proof.Machine.execTrialWatchdog s
  | .autocommit => Sys2Proof.Machine.execAutocommit s
  | .flashRead v => Sys2Proof.Machine.execFlashRead v s
  | .flashProgram v => Sys2Proof.Machine.execFlashProgram v s
  | .flashErase v => Sys2Proof.Machine.execFlashErase v s
  | .flashCmdDone => Sys2Proof.Machine.execFlashCmdDone s
  | .ergLinkSend => Sys2Proof.Machine.execErgLinkSend s
  | .ergRefresh => Sys2Proof.Machine.execErgRefresh s
  | .ergLink p c b => Sys2Proof.Machine.execErgLink p c b s
  | .ergAssign p c b => Sys2Proof.Machine.execErgAssign p c b s
  | .ergClaim p c b => Sys2Proof.Machine.execErgClaim p c b s
  | .ergLsa p c b => Sys2Proof.Machine.execErgLsa p c b s
  | .ergGsum p c b => Sys2Proof.Machine.execErgGsum p c b s
  | .claimWaitExpiry => Sys2Proof.Machine.execClaimWaitExpiry s
  | .settleExpiry ok need routes psets => Sys2Proof.Machine.execSettleExpiry ok need routes psets s
  | .neighbourAbsent p => Sys2Proof.Machine.execNeighbourAbsent p s
  | .originExpiry kind n => Sys2Proof.Machine.execOriginExpiry kind n s
  | .memberLost m => Sys2Proof.Machine.execMemberLost m s
  | .fwMsg q k => Sys2Proof.Machine.execFwMsg q k s
  | .fwRsp q k => Sys2Proof.Machine.execFwRsp q k s
  | .caravanJoin => Sys2Proof.Machine.execCaravanJoin s
  | .caravanLockLoss => Sys2Proof.Machine.execCaravanLockLoss s
  | .caravanLockTimeout => Sys2Proof.Machine.execCaravanLockTimeout s
  | .caravanElect f => Sys2Proof.Machine.execCaravanElect f s
  | .caravanPosition f => Sys2Proof.Machine.execCaravanPosition f s
  | .caravanTime f res => Sys2Proof.Machine.execCaravanTime f res s
  | .caravanTimeSend => Sys2Proof.Machine.execCaravanTimeSend s
  | .caravanRead f => Sys2Proof.Machine.execCaravanRead f s
  | .caravanWrite f => Sys2Proof.Machine.execCaravanWrite f s
  | .caravanResp f => Sys2Proof.Machine.execCaravanResp f s
  | .oobRead v => Sys2Proof.Machine.execOobRead v s
  | .oobWrite v => Sys2Proof.Machine.execOobWrite v s
  | .oobTimeout => Sys2Proof.Machine.execOobTimeout s
  | .vinWarn mv => Sys2Proof.Machine.execVinWarn mv s
  | .vinWarnRelease mv => Sys2Proof.Machine.execVinWarnRelease mv s
  | .vinReset => Sys2Proof.Machine.execVinReset s
  | .vinOvervoltage mv => Sys2Proof.Machine.execVinOvervoltage mv s
  | .vinReturn => Sys2Proof.Machine.execVinReturn s
  | .vstbyChange on => Sys2Proof.Machine.execVstbyChange on s
  | .overcurrent => Sys2Proof.Machine.execOvercurrent s
  | .powerSample mv iin pin => Sys2Proof.Machine.execPowerSample mv iin pin s
  | .coneRise => Sys2Proof.Machine.execConeRise s
  | .capmiss => Sys2Proof.Machine.execCapmiss s
  | .thermalFall tj die => Sys2Proof.Machine.execThermalFall tj die s
  | .thermalRise tj die => Sys2Proof.Machine.execThermalRise tj die s
  | .thermalShutdown tj die => Sys2Proof.Machine.execThermalShutdown tj die s
  | .thermalRestart tj => Sys2Proof.Machine.execThermalRestart tj s
  | .domainStop q scope => Sys2Proof.Machine.execDomainStop q scope s
  | .domainWake q scope => Sys2Proof.Machine.execDomainWake q scope s
  | .stopEntryComplete q => Sys2Proof.Machine.execStopEntryComplete q s
  | .stopEntryTimeout q => Sys2Proof.Machine.execStopEntryTimeout q s
  | .wakeComplete q scope => Sys2Proof.Machine.execWakeComplete q scope s
  | .referenceLoss => Sys2Proof.Machine.execReferenceLoss s
  | .referenceReturn => Sys2Proof.Machine.execReferenceReturn s
  | .holdoverTimeout => Sys2Proof.Machine.execHoldoverTimeout s
  | .faultWindowExpiry slot unserviced => Sys2Proof.Machine.execFaultWindowExpiry slot unserviced s
  | .escalationTimeout slot unserviced => Sys2Proof.Machine.execEscalationTimeout slot unserviced s
  | .faultClear id => Sys2Proof.Machine.execFaultClear id s
  | .faultActNow id => Sys2Proof.Machine.execFaultActNow id s
  | .carryExpiry n => Sys2Proof.Machine.execCarryExpiry n s
  | .faultnRelease => Sys2Proof.Machine.execFaultnRelease s
  | .faultnForce on => Sys2Proof.Machine.execFaultnForce on s
  | .faultnHoldEnd => Sys2Proof.Machine.execFaultnHoldEnd s
  | .storeErase => Sys2Proof.Machine.execStoreErase s
  | .zoruriWatchdog q => Sys2Proof.Machine.execZoruriWatchdog q s
  | .zoruriException q => Sys2Proof.Machine.execZoruriException q s
  | .saggarWatchdog q => Sys2Proof.Machine.execSaggarWatchdog q s
  | .memoryError q kind x y z => Sys2Proof.Machine.execMemoryError q kind x y z s
  | .kilnGo q v => Sys2Proof.Machine.execKilnGo q v s
  | .kilnTestDone q fails first tx rx => Sys2Proof.Machine.execKilnTestDone q fails first tx rx s
  | .pmcSelWrite q k v => Sys2Proof.Machine.execPmcSelWrite q k v s
  | .pmcCntWrite q k v => Sys2Proof.Machine.execPmcCntWrite q k v s
  | .pmcCntRead path q k => Sys2Proof.Machine.execPmcCntRead path q k s
  | .counterWrap q k => Sys2Proof.Machine.execCounterWrap q k s
  | .pmcGo => Sys2Proof.Machine.execPmcGo s
  | .snapshotPeriod => Sys2Proof.Machine.execSnapshotPeriod s
  | .snapshotWritten ok => Sys2Proof.Machine.execSnapshotWritten ok s
  | .ringCiWrite v => Sys2Proof.Machine.execRingCiWrite v s
  | .ringEnable v => Sys2Proof.Machine.execRingEnable v s
  | .windowDataRead w set whole => Sys2Proof.Machine.execWindowDataRead w set whole s
  | .windowDataWrite w set whole v => Sys2Proof.Machine.execWindowDataWrite w set whole v s
  | .regaccUpdate op addr v => Sys2Proof.Machine.execRegaccUpdate op addr v s
  | .regaccCapture => Sys2Proof.Machine.execRegaccCapture s
  | .smbusRead adr code => Sys2Proof.Machine.execSmbusRead adr code s
  | .initiatorReadComplete tag ok data => Sys2Proof.Machine.execInitiatorReadComplete tag ok data s
  | .configurationRequest q => Sys2Proof.Machine.execConfigurationRequest q s
  | .refclkArrival => Sys2Proof.Machine.execRefclkArrival s
  | .rmxFnresWrite q f kind v => Sys2Proof.Machine.execRmxFnresWrite q f kind v s
  | .mtcFnrndvWrite q f v => Sys2Proof.Machine.execMtcFnrndvWrite q f v s
  | .hostPortInternalError q => Sys2Proof.Machine.execHostPortInternalError q s
  | .fallbackTrainingPattern => Sys2Proof.Machine.execFallbackTrainingPattern s

end Sys2Proof.Machine
end

