-- ==== Sys2Proof/Machine/Step.lean ====
section
/-! DEFINITION. One step of the block: the command at the front of the queue, or an idle nanosecond. -/

namespace Sys2Proof.Machine

/-- An idle step: 1 ns passes, whose ROUTER cycles the programmable counters take (a choice of the model; the spec gives the block
time and no command for it). DESIGN CHOICE (log 2). -/
def State.idle (s : State) : State :=
  let d := s.toDev.nanosecond
  { s with toDev := { d with env := { d.env with time := d.env.time + 1 } } }

/-- Take the command at the front of the queue and run it with the queue's rest; on an empty queue the block idles.
DESIGN CHOICE (log 1, 2, 6). -/
def step (s : State) : Host.Outcome State Fault Refusal :=
  match s.pending with
  | [] => .next s.idle
  | c :: rest => exec c { s with pending := rest }

/-- The state with the command that a word spells at the front of its queue; unchanged where the word spells none.
DEDUCED (log 5). -/
def State.withFetchWord (s : State) (nbits w : Nat) : State :=
  match decodeTableWord nbits w with
  | some c => { s with pending := c :: s.pending }
  | none => s

end Sys2Proof.Machine
end

