-- ==== Sys2Proof/Safety.lean ====
section
/-! DEFINITION. What holds of every state that claims speak of: the register file and the addressed memories stand in their canonical
form, so that equal contents are equal data. -/

namespace Sys2Proof

/-- A path is a BAR of a host port or of the management port (Table 9-2), and no path of Table 19-1. -/
def Path.isBar : Path → Bool
  | .bar _ _ _ => true
  | _ => false

end Sys2Proof

namespace Sys2Proof.Machine

/-- What a key of the register table reads as when it is not listed. -/
def rstOfKey (k : Nat) : Word := match regOfKey k with | some (r, a) => rstVal r a | none => 0

/-- The register file, the table windows (route tables, port sets, group entries, gate lists) and the flash list rising keys only,
and no entry equal to what an unlisted key reads as. -/
def Dev.tablesWf (d : Dev) : Bool :=
  Tab.wfBy d.regs rstOfKey && Tab.wf d.win.route 0 && Tab.wf d.win.pset 0 && Tab.wf d.win.group 0 && Tab.wf d.win.gate 0 &&
    Tab.wf d.boot.flash 255

/-- What is fused into the module: its unique identifier, its form, its stepping (R1, R471). -/
def Dev.fused (d : Dev) : Nat × Bool × Nat := (d.sys.uid, d.sys.formS, d.sys.stepping)

/-- The tables are canonical, the module is the one with these fuses, and this much time has passed. -/
def Dev.Kept (u : (Nat × Bool × Nat) × Nat) (d : Dev) : Prop := d.tablesWf = true ∧ (d.fused, d.env.time) = u

/-! ## When a command has its own effect -/

/-- Port p takes the next sequenced flit in order (R66 to R68): it is UP in Stoneware, no codeword error marks the flit, its ACK
acknowledges nothing new. -/
abbrev Dev.inOrder (d : Dev) (p : Nat) (c : Ctrl) : Prop :=
  d.linkUp p = true ∧ (d.link p).marked = 0 ∧ d.greenware p = false ∧ (d.link p).ackCount (ctlAck c) = some 0 ∧
    (d.link p).discarding = false ∧ (d.link p).incoming = (d.link p).expected

/-- Context x takes packet k as a new request in its window (R255, R267). -/
abbrev Dev.accepts (d : Dev) (q : Nat) (k : Packet) (x : Conn) : Prop :=
  d.ctxOf q k = some x ∧ x.enc = false ∧ k.enc = false ∧ (k.control = true ∨ k.inc = x.inc) ∧ x.state = connOPEN ∧
    x.isDone k.psn = false ∧ psnDist k.psn x.dm ≤ winOf x.rxwin

/-- Packet k answers the outstanding request r of context x (R271). -/
abbrev Dev.answers (d : Dev) (q : Nat) (k : Packet) (x : Conn) (r : Req) : Prop :=
  d.ctxOf q k = some x ∧ x.enc = false ∧ k.enc = false ∧ (k.control = true ∨ k.inc = x.inc) ∧ x.req k.psn = some r

/-- The reduction engine of die e takes packet k of type t, of a group without Glaze. -/
abbrev Dev.engineTakes (d : Dev) (e t : Nat) (k : Packet) : Prop :=
  k.type = t ∧ k.enc = false ∧ (d.takeDlv e 257 k).bit CLV_CTRL_EN (onDie e) = true ∧
    (d.takeDlv e 257 k).gEnc e (k.dest % 65536) = false

/-- A register access is performed at once: its path may make it, its address is aligned, its die and domain serve and can be
reached, no mesh switch holds it (R466, R421, R343, R346). -/
abbrev Dev.serves (d : Dev) (x : Access) : Prop :=
  d.pathMay x.path x.addr x.data.isSome = true ∧ x.addr % 8 = 0 ∧ d.dieInReset (adrDie x.addr) = false ∧
    d.domainServes x.addr = true ∧ d.accessHeld x = false ∧
    ((d.lastGateway (pathDie x.path x.addr) (adrDie x.addr)).isSome && (d.route (pathDie x.path x.addr) (adrDie x.addr) (128 * pathDie x.path x.addr) (128 * adrDie x.addr) 0).isNone) = false

/-! ## What a command leaves unchanged -/

/-- e is d but for these fields of these register instances. -/
def Dev.onlyFields (d e : Dev) (l : List (Fld × At)) : Prop :=
  { e with regs := d.regs } = d ∧ ∀ (f : Fld) (a : At), f ∈ f.reg.flds → a.die < 4 → (f, a) ∉ l → e.get f a = d.get f a

/-- Nothing is due and nothing waits: without a further command the module does nothing. -/
abbrev Dev.quiet (d : Dev) : Prop := d.settleAll = d

end Sys2Proof.Machine
end

