-- ==== Sys2Proof/Certificates/Slice0/Obligations.lean ====
section
/-! DEFINITION. The statements for the provers. -/

open Sys2Proof Sys2Proof.Machine

/-- A step takes the command at the front of the queue and runs it with the queue's rest (spec/00_scope.md; the queue is the model's, log entry 1). -/
def Obligations.StepRunsFront : Prop :=
∀ (c : Instr) (rest : List Instr) (s : State), s.pending = c :: rest → step s = exec c { s with pending := rest }

/-- On an empty queue the block idles (the model's choice, log entry 2): the programmable counters take one nanosecond's ROUTER cycles, the time moves
on, and without an enabled counter nothing else changes. -/
def Obligations.StepIdles : Prop :=
(∀ s : State, s.pending = [] → ∃ t, step s = .next t ∧ t.pending = [] ∧
    t.toDev = { s.toDev.nanosecond with env := { s.toDev.nanosecond.env with time := s.toDev.nanosecond.env.time + 1 } }) ∧
  (∀ s : State, s.pending = [] → (s.pwr.off ≠ 0 ∨ ∀ q < 4, s.toDev.pmcEnabled q = []) →
    step s = .next { s with env := { s.env with time := s.env.time + 1 } })

/-- R453: ROUTER cycles of 0.625 ns; events of modes C and A, of the one counter that is enabled (the sampling is the model's, log entry 126). -/
def Obligations.CyclesCounted : Prop :=
(∀ t : Nat, routerCycles t + routerCycles (t + 1) + routerCycles (t + 2) + routerCycles (t + 3) + routerCycles (t + 4) = 8) ∧
  (∀ (d : Dev) (q : Fin 4) (k : Fin 256), d.pwr.off = 0 → d.dieState q.val ≠ domSTOP →
    (∀ i < 4, d.pmcEnabled i = if i = q.val then [k.val] else []) → d.chained q.val k.val = false →
    let a : At := ⟨q.val, k.val⟩
    let x := d.cycleAmount q.val (d.get PMC_SEL_BLOCK a) (d.get PMC_SEL_INSTANCE a) (d.get PMC_SEL_EVENT a) (d.get PMC_SEL_FILTER a)
    (d.nanosecond).get PMC_CNT_VALUE a = (d.get PMC_CNT_VALUE a + routerCycles d.now * x) % 2 ^ 48 ∧ (x = 0 → d.nanosecond = d)) ∧
  (∀ (d : Dev) (q f : Nat), d.cycleAmount q blkPWR 0 1 f = if d.pwr.throttle = 0 then 0 else 1)

/-- exec answers the command's effect on everything but the queue. -/
def Obligations.ExecKeepsQueue : Prop :=
∀ (c : Instr) (s t : State), exec c s = .next t → t.pending = s.pending

/-- Registers, table windows and flash stay in their canonical form (rising addresses, no entry equal to what an unlisted one reads as); no command
changes the module's unique identifier, form or stepping; time passes only in an idle step (log entry 2). -/
def Obligations.StepKeepsCanonical : Prop :=
∀ s t : State, s.tablesWf = true → step s = .next t →
    t.tablesWf = true ∧ t.fused = s.fused ∧ t.env.time = (if s.pending = [] then s.env.time + 1 else s.env.time)

/-- The state after reset lists no register, no table word and no flash byte, and no command waits. -/
def Obligations.ResetCanonical : Prop :=
State.reset.tablesWf = true ∧ State.reset.pending = [] ∧ State.reset.regs = [] ∧ State.reset.boot.flash = []

/-- After reset: two 4-lane ports in every cluster, 128 ports (R36); ports enabled with RETRAIN_MAX 2 and REPLAY_MAX 4 (Table 3-15); PRIMARY on Q0 alone
(Table 14-12); the thermal limit 7 (R414); the FAULT_N pin released (R441). -/
def Obligations.ResetValues : Prop :=
(∀ c : Fin 64, State.reset.get LAN_CLMAP_WIDTHS ⟨c.val / 16, c.val % 16⟩ = 0x0303) ∧
  State.reset.ports.length = 128 ∧
  (∀ p ∈ State.reset.ports, State.reset.get LNK_CTRL_EN (onLane p) = 1 ∧ State.reset.get LNK_CTRL_RETRAIN_MAX (onLane p) = 2 ∧
    State.reset.get LNK_CTRL_REPLAY_MAX (onLane p) = 4 ∧ State.reset.lstate p ≠ UP) ∧
  (∀ q : Fin 4, State.reset.get SAG_LC_PRIMARY (onDie q.val) = if q.val = 0 then 1 else 0) ∧
  State.reset.thermalLimit = 7 ∧ State.reset.flt.pin = false

/-- Table 0-5 and R8: a write sets RW and RWS fields, clears a W1C bit where it writes 1, leaves RO, RC and WO fields; R9: a bit of no field does not
change, whatever is written. -/
def Obligations.FieldWrites : Prop :=
∀ (r : Reg) (old v : Word),
    (∀ f ∈ r.flds, f.of (r.written old v) =
      (match f.acc with | .rw => f.of v | .rws => f.of v | .w1c => f.of (old &&& ~~~ v) | _ => f.of old)) ∧
    (∀ i, (∀ f ∈ r.flds, ¬ (f.lo ≤ i ∧ i < f.lo + f.w)) → (r.written old v).getLsbD i = old.getLsbD i)

/-- R9 and Table 0-5: a reserved bit is zero at reset and no write of the register's fields changes it (FieldWrites); a read of a WO field returns zero. -/
def Obligations.ReservedBitsReadZero : Prop :=
(∀ (r : Reg) (a : At) (i : Nat), (∀ f ∈ r.flds, ¬ (f.lo ≤ i ∧ i < f.lo + f.w)) → (rstVal r a).getLsbD i = false) ∧
  (∀ (d : Dev) (r : Reg) (q i : Nat), ∀ f ∈ r.flds, f.acc = .wo → f.of (d.shown r q i) = 0)

/-- R476: a fixed counter holds its count in [47:0], saturates at 2^48 - 1 and reads zero above; Table 0-5: a read of an RC field clears it. -/
def Obligations.CountersSaturate : Prop :=
(∀ (d : Dev) (r : Reg) (a : At) (n : Nat),
    ((d.incBy r a n).rd r a).toNat = min (2 ^ 48 - 1) ((d.rd r a).toNat % 2 ^ 48 + n)) ∧
  (∀ (d : Dev) (r : Reg) (q i : Nat), r ≠ .SAG_CHAL → r ≠ .PMC_CNT → r ≠ .SAG_WIPE →
    ∀ f ∈ r.flds, (d.readEffect r q i).get f ⟨q, i⟩ = if f.acc = .rc then 0 else d.get f ⟨q, i⟩)

/-- R406, R415, R494: while the regulators are off nothing of the module runs; what Oasis, its sensors and the contacts serve goes on. -/
def Obligations.UnpoweredDoesNothing : Prop :=
∀ (c : Instr) (s : State), s.pwr.off ≠ 0 →
    (match c with
      | .moduleReset _ | .vinReset | .vinWarn _ | .vinWarnRelease _ | .vinOvervoltage _ | .vinReturn | .vstbyChange _ | .thermalRestart _ | .refclkArrival
      | .smbusRead _ _ | .faultnHoldEnd => False
      | _ => True) →
    exec c s = .next s

/-- Completion (01_architecture.md): the resets of a module, a die, a region, a cluster, a unit, a host port and the management port, and the end of a reset. Each clause gives, for one command, the state and the operands on which
it completes and the whole state it leaves; `settleAll` is the work that the change sets in motion. -/
def Obligations.CompletionReset : Prop :=
  (∀ (s : State) (ns : Nat),
      s.toDev.pwr.off ≠ 3 →
      10000 ≤ ns →
      s.toDev.flt.resets = [] →
      exec (.moduleReset ns) s = .next (s.withDev (let e := (let d := s.toDev; (((d.freed).resetBegins locModule).resetModule 2).resetRecords locModule none |>.raise srcRESET 5 locModule 2); if e.pwr.off = 0 then e.settleAll else e))) ∧
  (∀ (s : State) (q : Fin 4),
      s.pwr.off = 0 →
      q.val ≠ 0 →
      s.toDev.flt.resets = [] →
      s.toDev.dieState q.val ≠ domSTOP →
      exec (.dieReset q) s = .next (s.withDev (let d := s.toDev; (((d.resetBegins (locDie q.val)).resetDie q.val).resetRecords (locDie q.val) none).raise srcRESET 4 (locDie q.val) 3).settleAll)) ∧
  (∀ (s : State) (q : Fin 4),
      s.pwr.off = 0 →
      q.val = 0 →
      s.toDev.flt.resets = [] →
      exec (.dieReset q) s = .next (s.withDev (let d := s.toDev; (((d.resetBegins locModule).resetModule 3).resetRecords locModule none).raise srcRESET 5 locModule 3).settleAll)) ∧
  (∀ (s : State) (m : Fin 16),
      s.pwr.off = 0 →
      s.toDev.flt.resets = [] →
      s.toDev.regionState m.val ≠ domSTOP →
      exec (.regionReset m) s = .next (s.withDev (let d := s.toDev; (((d.resetBegins (locRegion m.val)).resetRegion m.val).resetRecords (locRegion m.val) none).raise srcRESET 3 (locRegion m.val) 3).settleAll)) ∧
  (∀ (s : State) (c : Fin 64),
      s.pwr.off = 0 →
      s.toDev.flt.resets = [] →
      s.toDev.regionState (c.val / 4) ≠ domSTOP →
      exec (.clusterReset c) s = .next (s.withDev (let d := s.toDev; (((d.resetBegins (locCluster c.val)).resetLanes (c.val / 16) (c.val % 16 * 8) (c.val % 16 * 8 + 7)).resetRecords (locCluster c.val) none).raise srcRESET 2 (locCluster c.val) 3).settleAll)) ∧
  (∀ (s : State) (q : Fin 4) (ukind : Nat) (n : Nat) (l : Loc),
      s.pwr.off = 0 →
      unitOf q.val ukind n = some l →
      s.toDev.flt.resets = [] →
      s.toDev.asleep l = false →
      exec (.unitReset q ukind n) s = .next (s.withDev (let d := s.toDev; (((d.resetBegins l).resetUnit l).resetRecords l none).raise srcRESET 1 l 3).settleAll)) ∧
  (∀ (s : State) (q : Fin 4),
      s.pwr.off = 0 →
      s.toDev.flt.resets = [] →
      exec (.hostPortReset q) s = .next (s.withDev (let d := s.toDev; let e := (((d.resetBegins (locHost q.val)).resetHost q.val).resetRecords (locHost q.val) none).raise srcRESET 1 (locHost q.val) 2; { e with hst := { e.hst with numpf := Tab.set e.hst.numpf 0 q.val (e.get HST_CTRL_NUMPF (onDie q.val)) } }).settleAll)) ∧
  (∀ (s : State),
      s.pwr.off = 0 →
      exec .mgmtPortReset s = .next (s.withDev (let d := s.toDev; let d := (d.windowOff 0 .mgmt).msixClear 4 0; (d.readerLost (fun path _ => path = 0)).raise srcRESET 1 (locUnit 0 7 1) 2).settleAll)) ∧
  (∀ (s : State) (level : Nat) (q : Fin 4) (ukind : Nat) (n : Nat),
      s.pwr.off = 0 →
      s.toDev.wipeHolds (scopeLoc level q.val ukind n) = false →
      s.toDev.flt.resets.contains (scopeLoc level q.val ukind n) = true →
      exec (.resetComplete level q ukind n) s = .next (s.withDev (let d := s.toDev; let l := scopeLoc level q.val ukind n; (({ d with flt := { d.flt with resets := d.flt.resets.filter (· ≠ l) } } : Dev).bridgesBack l).portsReturn l).settleAll))

/-- Completion (01_architecture.md, 02_lanes.md): bridge flits and failure, and the commands that configure, train and idle a lane. Each clause gives, for one command, the state and the operands on which
it completes and the whole state it leaves; `settleAll` is the work that the change sets in motion. -/
def Obligations.CompletionLaneTraining : Prop :=
  (∀ (s : State) (q : Fin 4) (e : Fin 2),
      s.pwr.off = 0 →
      exec (.bridgeDown q e) s = .next (s.withDev (let d := s.toDev; let b := acrossBridge q.val e.val; let d := ((d.putB BRG_STAT_DOWN ⟨q.val, e.val⟩ true).putB BRG_STAT_DOWN ⟨b, e.val⟩ true).bridgeSync q.val e.val; let d := (d.dropOnBridge q.val e.val dropBRIDGE).dropOnBridge b e.val dropBRIDGE; let d := d.rerouteOver q.val b false; (d.raise srcBRIDGE 1 (locBridge q.val e.val) 0).raise srcBRIDGE 1 (locBridge b e.val) 0).settleAll)) ∧
  (∀ (s : State) (q : Fin 4) (e : Fin 2) (i n : Nat) (rest : List (Nat × Nat)) (k : Pkt) (f : PFlit),
      s.pwr.off = 0 →
      s.toDev.pumpAll = s.toDev →
      Tab.get s.toDev.rtr.bridges [] (acrossBridge q.val e.val * 2 + e.val) = (i, n) :: rest →
      s.toDev.pkt i = some k →
      k.flits[n]? = some f →
      exec (.bridgeFlitArrival q e) s = .next (s.withDev (let d := s.toDev; let d := { d with rtr := { d.rtr with bridges := Tab.set d.rtr.bridges [] (acrossBridge q.val e.val * 2 + e.val) rest } }; let r := d.storeFlit (.bridge q.val e.val (bridgeAlloc (hVn k.head) f.hop)) (k.bridgeBank q.val) f.poison; (((r.1.setPkt i { k with flits := k.flits.set n { f with loc := r.2, hop := f.hop + 1 } }).pumpPkt i).deliverIfWhole i).event q.val blkBRG e.val 0x02 0 1).settleAll)) ∧
  (∀ (s : State) (c : Fin 64) (v : Word),
      s.pwr.off = 0 →
      mapValid (LAN_CLMAP_WIDTHS.of v) = true →
      (mapPorts c.val (s.toDev.get LAN_CLMAP_WIDTHS ⟨c.val / 16, c.val % 16⟩) ++ mapPorts c.val (LAN_CLMAP_WIDTHS.of v)).all s.toDev.portIdle = true →
      exec (.clusterMapWrite c v) s = .next (s.withDev (let d := s.toDev; let a : At := ⟨c.val / 16, c.val % 16⟩; let new := LAN_CLMAP_WIDTHS.of v; let d := d.each ((mapPorts c.val (d.get LAN_CLMAP_WIDTHS a)).filter (fun p => !(mapPorts c.val new).contains p)) (fun p d => (d.dropQueued p dropRELEASE).releaseHeld p); (d.put LAN_CLMAP_WIDTHS a new).put LAN_CLMAP_STATUS a ST_OK).settleAll)) ∧
  (∀ (s : State) (l : Fin 512) (v : Word),
      s.pwr.off = 0 →
      eqOk (LAN_TXEQ_PRE.of v) (LAN_TXEQ_POST.of v) = true →
      LAN_TXEQ_EQERR.of v = 0 →
      exec (.txeqWrite l v) s = .next (s.withDev (let d := s.toDev; (d.put LAN_TXEQ_OVR (onLane l.val) (LAN_TXEQ_OVR.of v)).setEq l.val (LAN_TXEQ_PRE.of v) (LAN_TXEQ_POST.of v)).settleAll)) ∧
  (∀ (s : State) (l : Fin 512) (v : Word),
      s.pwr.off = 0 →
      (s.toDev.wrFields .LAN_CTRL (onLane l.val) v).bit LAN_CTRL_RXEN (onLane l.val) = true →
      (s.toDev.wrFields .LAN_CTRL (onLane l.val) v).bit LAN_CTRL_TXEN (onLane l.val) = true →
      s.toDev.portIdle (s.toDev.lanePort l.val) = true →
      (s.toDev.wrFields .LAN_CTRL (onLane l.val) v).portIdle (s.toDev.lanePort l.val) = true →
      exec (.laneCtrlWrite l v) s = .next (s.withDev (let d := s.toDev; ((d.wrFields .LAN_CTRL (onLane l.val) v).polarity l.val).lineNow l.val (d.lineOut l.val)).settleAll)) ∧
  (∀ (s : State) (l : Fin 512) (ctl : Nat),
      s.pwr.off = 0 →
      s.toDev.inLanePhase (s.toDev.lanePort l.val) = true →
      s.toDev.adapt l.val = aTRACK →
      (s.toDev.lane l.val).decoded = true →
      exec (.laneTrainingFrame l ctl) s = .next (s.withDev (let d := s.toDev; let d := (d.put LAN_RXSTAT_LOGICAL (onLane l.val) (bits ctl 0 2)).modLane l.val (fun x => { x with decoded := true }); let a := d.coefAnswer l.val true (bits ctl 2 2) (d.lane l.val).stPre; let b := a.1.coefAnswer l.val false (bits ctl 4 2) (a.1.lane l.val).stPost; (b.1.modLane l.val (fun x => { x with stPre := a.2, stPost := b.2 })).sendFrame l.val).settleAll)) ∧
  (∀ (s : State) (l : Fin 512) (inverted : Bool) (peaking : Fin 16),
      s.pwr.off = 0 →
      s.toDev.adapt l.val = aACQUIRE →
      s.toDev.inversion l.val inverted = inverted →
      ((s.toDev.putB LAN_RXSTAT_POL_INV (onLane l.val) inverted).put LAN_RXSTAT_SIG_DET (onLane l.val) 1).bit LAN_RXEQ_CTLE_OVR (onLane l.val) = false →
      exec (.acquireLock l inverted peaking) s = .next (s.withDev (let d := s.toDev; ((((d.putB LAN_RXSTAT_POL_INV (onLane l.val) inverted).put LAN_RXSTAT_SIG_DET (onLane l.val) 1).put LAN_RXSTAT_CDR_LOCK (onLane l.val) 1).put LAN_RXEQ_CTLE_CUR (onLane l.val) peaking.val).setAdapt l.val aADAPT).settleAll)) ∧
  (∀ (s : State) (l : Fin 512),
      s.pwr.off = 0 →
      s.toDev.adapt l.val = aACQUIRE →
      exec (.acquireTimeout l) s = .next (s.withDev (let d := s.toDev; d.laneFail l.val).settleAll)) ∧
  (∀ (s : State) (l : Fin 512) (tap : Fin 256) (e : Dev),
      s.pwr.off = 0 →
      s.toDev.adapt l.val = aADAPT →
      e = ((s.toDev.setAdapt l.val aTRACK).put LAN_RXEQ_DFE1 (onLane l.val) tap.val).put LAN_IDLE_RX_STATE (onLane l.val) 0 →
      e.inLanePhase (s.toDev.lanePort l.val) = false →
      exec (.adaptConverged l tap) s = .next (s.withDev (e).settleAll)) ∧
  (∀ (s : State) (l : Fin 512) (tap : Fin 256) (e : Dev),
      s.pwr.off = 0 →
      s.toDev.adapt l.val = aADAPT →
      e = ((s.toDev.setAdapt l.val aTRACK).put LAN_RXEQ_DFE1 (onLane l.val) tap.val).put LAN_IDLE_RX_STATE (onLane l.val) 0 →
      e.inLanePhase (s.toDev.lanePort l.val) = true →
      e.portReady (s.toDev.lanePort l.val) = true →
      exec (.adaptConverged l tap) s = .next (s.withDev (let d := s.toDev; e.each (e.plances (d.lanePort l.val)) (fun k d => d.sendFrame k)).settleAll)) ∧
  (∀ (s : State) (l : Fin 512),
      s.pwr.off = 0 →
      s.toDev.adapt l.val = aADAPT →
      exec (.adaptTimeout l) s = .next (s.withDev (let d := s.toDev; d.laneFail l.val).settleAll)) ∧
  (∀ (s : State) (l : Fin 512) (signal : Bool),
      s.pwr.off = 0 →
      s.toDev.adapt l.val = aTRACK →
      signal = false →
      exec (.lossOfSignal l signal) s = .next (s.withDev (let d := s.toDev; ((d.abortScan l.val).laneAcquire l.val true).linkLosesLane (d.lanePort l.val) false).settleAll)) ∧
  (∀ (s : State) (l : Fin 512) (signal : Bool) (e : Dev),
      s.pwr.off = 0 →
      signal = true →
      e = s.toDev.put LAN_RXSTAT_SIG_DET (onLane l.val) 0 →
      e.adapt l.val = aTRACK →
      exec (.lossOfSignal l signal) s = .next (s.withDev (((e.abortScan l.val).laneAcquire l.val true).linkLosesLane (e.lanePort l.val) true).settleAll)) ∧
  (∀ (s : State) (l : Fin 512),
      s.pwr.off = 0 →
      s.toDev.adapt l.val = aTRACK →
      s.toDev.lstate (s.toDev.lanePort l.val) = UP →
      s.toDev.idleMode (s.toDev.lanePort l.val) ≠ 0 →
      s.toDev.get LAN_IDLE_RXQ_DLY (onLane l.val) ≠ 0 →
      exec (.rxQuietEntry l) s = .next (s.withDev (let d := s.toDev; (((((d.scanRuns l.val).background l.val).setAdapt l.val aHOLD).put LAN_IDLE_RX_STATE (onLane l.val) 1).put LAN_RXSTAT_CDR_LOCK (onLane l.val) 0).put LAN_RXSTAT_SIG_DET (onLane l.val) 0).settleAll)) ∧
  (∀ (s : State) (l : Fin 512),
      s.pwr.off = 0 →
      s.toDev.adapt l.val = aHOLD →
      exec (.relock l) s = .next (s.withDev (let d := s.toDev; (((d.setAdapt l.val aTRACK).put LAN_IDLE_RX_STATE (onLane l.val) 0).put LAN_RXSTAT_CDR_LOCK (onLane l.val) 1).put LAN_RXSTAT_SIG_DET (onLane l.val) 1).settleAll)) ∧
  (∀ (s : State) (l : Fin 512),
      s.pwr.off = 0 →
      s.toDev.adapt l.val = aHOLD →
      exec (.relockTimeout l) s = .next (s.withDev (let d := s.toDev; (((d.abortScan l.val).put LAN_IDLE_RX_STATE (onLane l.val) 3).laneAcquire l.val true).linkLosesLane (d.lanePort l.val) false).settleAll)) ∧
  (∀ (s : State) (p : Fin 512),
      s.pwr.off = 0 →
      s.toDev.pexists p.val = true →
      s.toDev.lstate p.val = UP →
      s.toDev.idleMode p.val ≠ 0 →
      s.toDev.toSend p.val = false →
      exec (.txQuietEntry p) s = .next (s.withDev (let d := s.toDev; d.each ((d.plances p.val).filter (fun l => d.get LAN_IDLE_TXQ_DLY (onLane l) ≠ 0)) (fun l d => d.when (d.get LAN_IDLE_TX_STATE (onLane l) = 0) (·.put LAN_IDLE_TX_STATE (onLane l) 1))).settleAll)) ∧
  (∀ (s : State) (p : Fin 512),
      s.pwr.off = 0 →
      s.toDev.pexists p.val = true →
      exec (.txWakeDone p) s = .next (s.withDev (let d := s.toDev; d.moveTx p.val 3 0).settleAll)) ∧
  (∀ (s : State) (p : Fin 512),
      s.pwr.off = 0 →
      s.toDev.linkUp p.val = true →
      s.toDev.rxMostly p.val = true →
      exec (.maintBurst p) s = .next (s.withDev (let d := s.toDev; d.modLink p.val (fun l => { l with burst := true, ackDue := l.ackDue || l.ackTimer, creditDue := (d.mostOwed p.val).isSome })).settleAll))

/-- Completion (02_lanes.md): codeword errors, loopback, patterns and eye scans of a lane. Each clause gives, for one command, the state and the operands on which
it completes and the whole state it leaves; `settleAll` is the work that the change sets in motion. -/
def Obligations.CompletionLaneTest : Prop :=
  (∀ (s : State) (p : Fin 512) (result : Nat) (flits : Nat),
      s.pwr.off = 0 →
      s.toDev.pexists p.val = true →
      s.toDev.greenware p.val = false →
      result = 1 →
      exec (.fecCodeword p result flits) s = .next (s.withDev (let d := s.toDev; (d.incF LAN_FECSTAT_CORR (onLane p.val)).portEvent p.val blkLAN 0x01 0 1).settleAll)) ∧
  (∀ (s : State) (p : Fin 512) (result : Nat) (flits : Nat),
      s.pwr.off = 0 →
      s.toDev.pexists p.val = true →
      s.toDev.greenware p.val = false →
      result = 2 →
      s.toDev.flitsFlow p.val = true →
      exec (.fecCodeword p result flits) s = .next (s.withDev (let d := s.toDev; ((d.incF LAN_FECSTAT_UNCORR (onLane p.val)).modLink p.val (fun l => { l with marked := l.marked + flits })).portEvent p.val blkLAN 0x02 0 1).settleAll)) ∧
  (∀ (s : State) (p : Fin 512) (result : Nat) (flits : Nat),
      s.pwr.off = 0 →
      s.toDev.pexists p.val = true →
      s.toDev.greenware p.val = false →
      result = 2 →
      s.toDev.flitsFlow p.val = false →
      exec (.fecCodeword p result flits) s = .next (s.withDev (let d := s.toDev; (d.incF LAN_FECSTAT_UNCORR (onLane p.val)).portEvent p.val blkLAN 0x02 0 1).settleAll)) ∧
  (∀ (s : State) (p : Fin 512),
      s.pwr.off = 0 →
      s.toDev.pexists p.val = true →
      s.toDev.greenware p.val = true →
      exec (.parityError p) s = .next (s.withDev (let d := s.toDev; d.greenwareFatal p.val 2).settleAll)) ∧
  (∀ (s : State) (p : Fin 512) (v : Word),
      s.pwr.off = 0 →
      s.toDev.pexists p.val = true →
      s.toDev.lstate p.val = OUT_OF_SERVICE →
      LAN_LPBK_MODE.of v = 1 →
      exec (.loopbackWrite p v) s = .next (s.withDev (let d := s.toDev; let lines := (d.plances p.val).map (fun l => (l, d.lineOut l)); let e := (d.put LAN_LPBK_MODE (onLane p.val) 1).put LAN_LPBK_STATUS (onLane p.val) ST_OK; (e.each (e.plances p.val) (fun l d => d.testSerial l)).each lines (fun x d => d.lineNow x.1 x.2)).settleAll)) ∧
  (∀ (s : State) (l : Fin 512) (v : Word),
      s.pwr.off = 0 →
      s.toDev.lstate (s.toDev.lanePort l.val) = OUT_OF_SERVICE →
      exec (.patternCtrlWrite l v) s = .next (s.withDev (let d := s.toDev; let a := onLane l.val; let p := d.lanePort l.val; let was := d.lineOut l.val; let d := (d.checkerRuns l.val).put LAN_PATCTL_PATTERN a (LAN_PATCTL_PATTERN.of v); let d := (d.putB LAN_PATCTL_GEN_EN a (LAN_PATCTL_GEN_EN.of v = 1)).putB LAN_PATCTL_CHK_EN a (LAN_PATCTL_CHK_EN.of v = 1); let d := d.when (!d.bit LAN_PATCTL_CHK_EN a) (·.put LAN_PATCTL_LOCK a 0); (d.when ((d.bit LAN_PATCTL_GEN_EN a || d.bit LAN_PATCTL_CHK_EN a) && (d.get LAN_LPBK_MODE (onLane p) = 0 || d.get LAN_LPBK_MODE (onLane p) = 3)) (·.testStart l.val)).lineNow l.val was).settleAll)) ∧
  (∀ (s : State) (l : Fin 512),
      s.pwr.off = 0 →
      s.toDev.bit LAN_PATCTL_CHK_EN (onLane l.val) = true →
      s.toDev.patternComes l.val = true →
      exec (.checkerLock l) s = .next (s.withDev (let d := s.toDev; d.put LAN_PATCTL_LOCK (onLane l.val) 1).settleAll)) ∧
  (∀ (s : State) (l : Fin 512) (errors : Nat),
      s.pwr.off = 0 →
      s.toDev.bit LAN_PATCTL_CHK_EN (onLane l.val) = true →
      s.toDev.bit LAN_PATCTL_LOCK (onLane l.val) = true →
      exec (.checkerLoss l errors) s = .next (s.withDev (let d := s.toDev; (d.incBy .LAN_PATERR (onLane l.val) errors).put LAN_PATCTL_LOCK (onLane l.val) 0).settleAll)) ∧
  (∀ (s : State) (l : Fin 512) (v : Word),
      s.pwr.off = 0 →
      s.toDev.bit LAN_ESCTL_BUSY (onLane l.val) = false →
      (s.toDev.wrFields .LAN_ESCTL (onLane l.val) v).adapt l.val = aTRACK →
      (s.toDev.wrFields .LAN_ESCTL (onLane l.val) v).get LAN_ESCTL_EYE (onLane l.val) ≠ 3 →
      exec (.eyeScanStart l v) s = .next (s.withDev (let d := s.toDev; let a := onLane l.val; (((((d.wrFields .LAN_ESCTL a v).put LAN_ESSAMP_SAMPLES a 0).put LAN_ESERR_ERRORS a 0).put LAN_ESCTL_BUSY a 1).put LAN_ESCTL_ABORTED a 0).put LAN_ESCTL_DONE a 0).settleAll)) ∧
  (∀ (s : State) (l : Fin 512),
      s.pwr.off = 0 →
      s.toDev.bit LAN_ESCTL_BUSY (onLane l.val) = true →
      exec (.eyeScanStop l) s = .next (s.withDev (let d := s.toDev; (((d.scanRuns l.val).put LAN_ESCTL_BUSY (onLane l.val) 0).put LAN_ESCTL_ABORTED (onLane l.val) 1).put LAN_ESCTL_DONE (onLane l.val) 1).settleAll)) ∧
  (∀ (s : State) (l : Fin 512) (errors : Nat),
      s.pwr.off = 0 →
      s.toDev.bit LAN_ESCTL_BUSY (onLane l.val) = true →
      s.toDev.adapt l.val = aTRACK →
      exec (.eyeScanDone l errors) s = .next (s.withDev (let d := s.toDev; let a := onLane l.val; let n := 2 ^ dwell (d.get LAN_ESCTL_DWELL a); (((d.put LAN_ESSAMP_SAMPLES a n).put LAN_ESERR_ERRORS a (max (d.get LAN_ESERR_ERRORS a) (min n errors))).put LAN_ESCTL_BUSY a 0).put LAN_ESCTL_DONE a 1).settleAll))

/-- Completion (03_folnel_link.md): the flits that a link receives and the flit slots that it fills. Each clause gives, for one command, the state and the operands on which
it completes and the whole state it leaves; `settleAll` is the work that the change sets in motion. -/
def Obligations.CompletionLinkFlits : Prop :=
  (∀ (s : State) (p : Fin 512) (c : Ctrl) (b : Body) (v : Nat),
      s.pwr.off = 0 →
      s.toDev.inOrder p.val c →
      s.toDev.inBisque = false →
      ctlKind c = 1 →
      creditValid c = true →
      vcIndex (ctlFvc c) = some v →
      s.toDev.framingFault p.val v (ctlHead c) b = false →
      exec (.dataFlitReceived p c b) s = .next (s.withDev (let d := s.toDev; (d.acceptSeq p.val c).dataIn p.val v (ctlHead c) (ctlPoison c) b).settleAll)) ∧
  (∀ (s : State) (p : Fin 512) (c : Ctrl),
      s.pwr.off = 0 →
      s.toDev.linkUp p.val = true →
      (s.toDev.link p.val).marked = 0 →
      ctlKind c = 0 →
      ctlCcnt c = 0 →
      vcIndex 0 = some 0 →
      exec (.idleFlitReceived p c) s = .next (s.withDev (let d := s.toDev; d.applyAck p.val (ctlAck c)).settleAll)) ∧
  (∀ (s : State) (p : Fin 512) (crc : Bool) (e : Dev),
      s.pwr.off = 0 →
      s.toDev.linkUp p.val = true →
      crc = true →
      s.toDev.greenware p.val = false →
      e = ((s.toDev.takeMark p.val).inc .LNK_CRCERR (onLane p.val)).portEvent p.val blkLNK 0x03 0 1 →
      (e.link p.val).discarding = false →
      exec (.flitCrcError p crc) s = .next (s.withDev ((e.modLink p.val (fun l => { l with discarding := true })).sendLinkctlFirst p.val subREPLAY_REQ (numBody (e.link p.val).expected)).settleAll)) ∧
  (∀ (s : State) (p : Fin 512) (c : Ctrl) (b : Body),
      s.pwr.off = 0 →
      s.toDev.linkUp p.val = true →
      (s.toDev.link p.val).marked = 0 →
      ctlKind c = 3 →
      ctlCcnt c = 0 →
      ctlFvc c = subREPLAY_REQ →
      exec (.replayReq p c b) s = .next (s.withDev (let d := s.toDev; (d.applyAck p.val (ctlAck c)).replayRequest p.val (fb b 0 16)).settleAll)) ∧
  (∀ (s : State) (p : Fin 512) (c : Ctrl) (b : Body),
      s.pwr.off = 0 →
      s.toDev.linkUp p.val = true →
      (s.toDev.link p.val).marked = 0 →
      s.toDev.greenware p.val = false →
      ctlKind c = 3 →
      ctlCcnt c = 0 →
      ctlFvc c = subREPLAY_START →
      (s.toDev.link p.val).ackCount (ctlAck c) = some 0 →
      exec (.replayStart p c b) s = .next (s.withDev (let d := s.toDev; d.modLink p.val (fun l => { l with discarding := false, incoming := fb b 0 16 })).settleAll)) ∧
  (∀ (s : State) (p : Fin 512),
      s.pwr.off = 0 →
      s.toDev.linkUp p.val = true →
      s.toDev.greenware p.val = false →
      (s.toDev.link p.val).window ≠ [] →
      exec (.replayTimeout p) s = .next (s.withDev (let d := s.toDev; d.replayFrom p.val 0).settleAll)) ∧
  (∀ (s : State) (p : Fin 512),
      s.pwr.off = 0 →
      s.toDev.linkUp p.val = true →
      (s.toDev.link p.val).ackTimer = true →
      exec (.ackDue p) s = .next (s.withDev (let d := s.toDev; d.modLink p.val (fun l => { l with ackDue := true, ackTimer := false })).settleAll)) ∧
  (∀ (s : State) (p : Fin 512),
      s.pwr.off = 0 →
      s.toDev.linkUp p.val = true →
      (s.toDev.mostOwed p.val).isSome = true →
      exec (.creditMessageDue p) s = .next (s.withDev (let d := s.toDev; d.modLink p.val (fun l => { l with creditDue := true })).settleAll)) ∧
  (∀ (s : State) (p : Fin 512) (m : Nat × Body) (rest : List (Nat × Body)),
      s.pwr.off = 0 →
      s.toDev.linkUp p.val = true →
      s.toDev.txState p.val = 0 →
      (s.toDev.link p.val).linkctl = m :: rest →
      exec (.transmitFlitSlot p) s = .next (s.withDev (let d := s.toDev; ((((d.modLink p.val (fun l => { l with linkctl := rest })).sendFlit p.val (mkCtl 3 0 0 0 m.1 false false) m.2).slotIs p.val slotCONTROL).endBurst p.val).slotPassed p.val).settleAll))

/-- Completion (03_folnel_link.md): training, retraining, draining and commanding of a link. Each clause gives, for one command, the state and the operands on which
it completes and the whole state it leaves; `settleAll` is the work that the change sets in motion. -/
def Obligations.CompletionLinkControl : Prop :=
  (∀ (s : State) (p : Fin 512) (c : Ctrl) (b : Body),
      s.pwr.off = 0 →
      s.toDev.pexists p.val = true →
      s.toDev.lstate p.val = TRAINING →
      (s.toDev.link p.val).marked = 0 →
      trainValid c = true →
      ((s.toDev.peerSeen p.val b).link p.val).phase = .params →
      ((s.toDev.peerSeen p.val b).link p.val).gotTrain = false →
      (s.toDev.peerSeen p.val b).trainFails p.val b = none →
      exec (.trainReceived p c b) s = .next (s.withDev (let d := s.toDev; (d.peerSeen p.val b).trainTake p.val b).settleAll)) ∧
  (∀ (s : State) (p : Fin 512),
      s.pwr.off = 0 →
      s.toDev.pexists p.val = true →
      (s.toDev.link p.val).phase = .params →
      exec (.trainSend p) s = .next (s.withDev (let d := s.toDev; d.sendLinkctl p.val subTRAIN (d.trainBody p.val)).settleAll)) ∧
  (∀ (s : State) (p : Fin 512),
      s.pwr.off = 0 →
      s.toDev.pexists p.val = true →
      s.toDev.inLanePhase p.val = true →
      s.toDev.portReady p.val = true →
      exec (.lanePhaseDone p) s = .next (s.withDev (let d := s.toDev; d.modLink p.val (fun l => { l with phase := .alignment })).settleAll)) ∧
  (∀ (s : State) (p : Fin 512),
      s.pwr.off = 0 →
      s.toDev.pexists p.val = true →
      (s.toDev.link p.val).phase = .alignment →
      exec (.alignmentDone p) s = .next (s.withDev (let d := s.toDev; d.modLink p.val (fun l => { l with phase := .params })).settleAll)) ∧
  (∀ (s : State) (p : Fin 512),
      s.pwr.off = 0 →
      s.toDev.pexists p.val = true →
      s.toDev.inAttempt p.val = true →
      exec (.trainTimeout p) s = .next (s.withDev (let d := s.toDev; d.failAttempt p.val failTIMEOUT).settleAll)) ∧
  (∀ (s : State) (p : Fin 512) (c : Ctrl),
      s.pwr.off = 0 →
      s.toDev.linkUp p.val = true →
      (s.toDev.link p.val).marked = 0 →
      s.toDev.greenware p.val = false →
      ctlKind c = 3 →
      ctlCcnt c = 0 →
      ctlFvc c = subRETRAIN_REQ →
      (s.toDev.link p.val).ackCount (ctlAck c) = some 0 →
      exec (.retrainReq p c) s = .next (s.withDev (let d := s.toDev; d.enterRetrain p.val causePEER_REQUEST false).settleAll)) ∧
  (∀ (s : State) (p : Fin 512) (c : Ctrl),
      s.pwr.off = 0 →
      s.toDev.linkUp p.val = true →
      (s.toDev.link p.val).marked = 0 →
      s.toDev.greenware p.val = false →
      ctlKind c = 3 →
      ctlCcnt c = 0 →
      ctlFvc c = subOOS_NOTICE →
      (s.toDev.link p.val).ackCount (ctlAck c) = some 0 →
      exec (.oosNotice p c) s = .next (s.withDev (let d := s.toDev; d.startDrain p.val false).settleAll)) ∧
  (∀ (s : State) (p : Fin 512) (c : Ctrl),
      s.pwr.off = 0 →
      s.toDev.linkUp p.val = true →
      (s.toDev.link p.val).marked = 0 →
      s.toDev.greenware p.val = false →
      ctlKind c = 3 →
      ctlCcnt c = 0 →
      ctlFvc c = subDRAINED →
      (s.toDev.link p.val).ackCount (ctlAck c) = some 0 →
      s.toDev.draining p.val = true →
      exec (.drainedReceived p c) s = .next (s.withDev (let d := s.toDev; (d.modLink p.val (fun l => { l with drainedRcvd := true })).drainEnds p.val).settleAll)) ∧
  (∀ (s : State) (p : Fin 512),
      s.pwr.off = 0 →
      s.toDev.linkUp p.val = true →
      s.toDev.draining p.val = true →
      s.toDev.windowEmpty p.val = true →
      (s.toDev.link p.val).commanding = false →
      exec (.windowDrained p) s = .next (s.withDev (let d := s.toDev; d.sayDrained p.val).settleAll)) ∧
  (∀ (s : State) (p : Fin 512),
      s.pwr.off = 0 →
      s.toDev.linkUp p.val = true →
      s.toDev.draining p.val = true →
      (s.toDev.link p.val).commanding = true →
      exec (.drainTimeout p) s = .next (s.withDev (let d := s.toDev; d.enterOos p.val).settleAll)) ∧
  (∀ (s : State) (p : Fin 512),
      s.pwr.off = 0 →
      s.toDev.pexists p.val = true →
      s.toDev.lstate p.val = DOWN →
      s.toDev.inAttempt p.val = false →
      s.toDev.get LNK_TIMERS2_DOWN_PROBE (onLane p.val) ≠ 0 →
      exec (.downProbe p) s = .next (s.withDev (let d := s.toDev; d.startAttempt p.val).settleAll)) ∧
  (∀ (s : State) (p : Fin 512),
      s.pwr.off = 0 →
      s.toDev.pexists p.val = true →
      s.toDev.lstate p.val = DOWN →
      s.toDev.inAttempt p.val = false →
      exec (.signalDetected p) s = .next (s.withDev (let d := s.toDev; (d.each (d.plances p.val) (fun l d => d.put LAN_RXSTAT_SIG_DET (onLane l) 1)).startAttempt p.val).settleAll)) ∧
  (∀ (s : State) (p : Fin 512),
      s.pwr.off = 0 →
      s.toDev.pexists p.val = true →
      s.toDev.lstate p.val ≠ DOWN ∨ s.toDev.inAttempt p.val = true →
      exec (.signalDetected p) s = .next (s.withDev (let d := s.toDev; d.each (d.plances p.val) (fun l d => d.put LAN_RXSTAT_SIG_DET (onLane l) 1)).settleAll)) ∧
  (∀ (s : State) (p : Fin 512) (v : Word),
      s.pwr.off = 0 →
      s.toDev.pexists p.val = true →
      LNK_CTRL_INTEG.of (v ||| 1#64) = 0 →
      LNK_CTRL_EN.of (v ||| 1#64) = 1 →
      ((s.toDev.wrFields .LNK_CTRL (onLane p.val) (v ||| 1#64)).put LNK_CTRL_STATUS (onLane p.val) ST_OK).lstate p.val = DISABLED →
      exec (.linkEnable p v) s = .next (s.withDev (let d := s.toDev; ((d.wrFields .LNK_CTRL (onLane p.val) (v ||| 1#64)).put LNK_CTRL_STATUS (onLane p.val) ST_OK).enterTraining p.val).settleAll)) ∧
  (∀ (s : State) (p : Fin 512) (v : Word),
      s.pwr.off = 0 →
      s.toDev.pexists p.val = true →
      LNK_CTRL_INTEG.of (v &&& ~~~ 1#64) = 0 →
      LNK_CTRL_EN.of (v &&& ~~~ 1#64) = 0 →
      exec (.linkDisable p v) s = .next (s.withDev (let d := s.toDev; ((d.wrFields .LNK_CTRL (onLane p.val) (v &&& ~~~ 1#64)).put LNK_CTRL_STATUS (onLane p.val) ST_OK).disablePort p.val).settleAll)) ∧
  (∀ (s : State) (p : Fin 512) (v : Word),
      s.pwr.off = 0 →
      s.toDev.pexists p.val = true →
      LNK_CTRL_INTEG.of v = 1 →
      s.toDev.greenAllowed p.val = true →
      LNK_CTRL_EN.of v = 1 →
      ((s.toDev.wrFields .LNK_CTRL (onLane p.val) v).put LNK_CTRL_STATUS (onLane p.val) ST_OK).lstate p.val = UP →
      exec (.integWrite p v) s = .next (s.withDev (let d := s.toDev; (d.wrFields .LNK_CTRL (onLane p.val) v).put LNK_CTRL_STATUS (onLane p.val) ST_OK).settleAll)) ∧
  (∀ (s : State) (p : Fin 512),
      s.pwr.off = 0 →
      s.toDev.linkUp p.val = true →
      exec (.lnkCmdRetrain p) s = .next (s.withDev (let d := s.toDev; (d.cmdStatus p.val ST_OK).enterRetrain p.val causeCOMMAND true).settleAll)) ∧
  (∀ (s : State) (p : Fin 512),
      s.pwr.off = 0 →
      s.toDev.linkUp p.val = true →
      s.toDev.draining p.val = false →
      exec (.lnkCmdOutOfService p) s = .next (s.withDev (let d := s.toDev; ((d.cmdStatus p.val ST_OK).startDrain p.val true).sendLinkctl p.val subOOS_NOTICE 0).settleAll)) ∧
  (∀ (s : State) (p : Fin 512),
      s.pwr.off = 0 →
      s.toDev.pexists p.val = true →
      s.toDev.lstate p.val = OUT_OF_SERVICE →
      s.toDev.get LAN_LPBK_MODE (onLane p.val) = 0 →
      exec (.lnkCmdInService p) s = .next (s.withDev (let d := s.toDev; ((d.cmdStatus p.val ST_OK).patternsOff p.val).enterTraining p.val).settleAll))

/-- Completion (03_folnel_link.md, 05_routing.md, 06_fabric_guarantees.md): the credit, audit, time, Dune and epoch messages of a link. Each clause gives, for one command, the state and the operands on which
it completes and the whole state it leaves; `settleAll` is the work that the change sets in motion. -/
def Obligations.CompletionLinkBypass : Prop :=
  (∀ (s : State) (p : Fin 512) (c : Ctrl) (b : Body),
      s.pwr.off = 0 →
      s.toDev.inOrder p.val c →
      ctlKind c = 2 →
      creditValid c = true →
      ctlFvc c = byCREDIT →
      exec (.creditReceived p c b) s = .next (s.withDev (let d := s.toDev; (d.acceptSeq p.val c).each (List.range 18) (fun v d => d.applyCredit p.val v (fb b (16 * v) 16))).settleAll)) ∧
  (∀ (s : State) (p : Fin 512) (c : Ctrl) (b : Body),
      s.pwr.off = 0 →
      s.toDev.inOrder p.val c →
      ctlKind c = 2 →
      creditValid c = true →
      ctlFvc c = byAUDIT →
      exec (.auditReceived p c b) s = .next (s.withDev (let d := s.toDev; (d.audit p.val b).acceptSeq p.val c).settleAll)) ∧
  (∀ (s : State) (p : Fin 512),
      s.pwr.off = 0 →
      s.toDev.linkUp p.val = true →
      exec (.auditSend p) s = .next (s.withDev (let d := s.toDev; let r := (d.link p.val).auditRound; (d.each (List.range 3) (fun vn d => d.sendBypass p.val byAUDIT (numBody (vn ||| r <<< 16)))).modLink p.val (fun l => { l with auditRound := (r + 1) % 65536 })).settleAll)) ∧
  (∀ (s : State) (p : Fin 512) (c : Ctrl) (b : Body),
      s.pwr.off = 0 →
      s.toDev.inOrder p.val c →
      ctlKind c = 2 →
      creditValid c = true →
      ctlFvc c = byTIME →
      exec (.timeReceived p c b) s = .next (s.withDev (let d := s.toDev; (d.acceptSeq p.val c).timeTake p.val b).settleAll)) ∧
  (∀ (s : State) (p : Fin 512),
      s.pwr.off = 0 →
      s.toDev.linkUp p.val = true →
      exec (.timeSend p) s = .next (s.withDev (let d := s.toDev; d.sendBypass p.val byTIME 0).settleAll)) ∧
  (∀ (s : State) (p : Fin 512) (c : Ctrl) (b : Body),
      s.pwr.off = 0 →
      s.toDev.inOrder p.val c →
      ctlKind c = 2 →
      creditValid c = true →
      ctlFvc c = byDUNE →
      exec (.duneReceived p c b) s = .next (s.withDev (let d := s.toDev; (d.acceptSeq p.val c).duneStore (laneDie p.val) b).settleAll)) ∧
  (∀ (s : State) (p : Fin 512) (c : Ctrl) (b : Body),
      s.pwr.off = 0 →
      s.toDev.inOrder p.val c →
      ctlKind c = 2 →
      creditValid c = true →
      ctlFvc c = byEPOCH →
      exec (.epochReceived p c b) s = .next (s.withDev (let d := s.toDev; (d.acceptSeq p.val c).epochSpread (fb b 0 32) (fb b 33 3) (fb b 32 1) (fb b 64 17)).settleAll))

/-- Completion (04_packets.md, 05_routing.md, 07_forwarding_qos.md): injection, admission and cells, Dune messages, route tables and their banks. Each clause gives, for one command, the state and the operands on which
it completes and the whole state it leaves; `settleAll` is the work that the change sets in motion. -/
def Obligations.CompletionRouter : Prop :=
  (∀ (s : State) (p : Fin 512) (i : Nat) (rest : List Nat) (k : Pkt) (pp step : Nat),
      s.pwr.off = 0 →
      (s.toDev.eport p.val).wait = i :: rest →
      s.toDev.pkt i = some k →
      k.egress = .port pp step →
      s.toDev.fits p.val k = true →
      exec (.admitWaitingPacket p) s = .next (s.withDev (let d := s.toDev; d.admitPacket i p.val step).settleAll)) ∧
  (∀ (s : State) (q : Fin 4) (r : Fin 4) (fw : Bool) (k : Machine.Packet),
      s.pwr.off = 0 →
      exec (.injectPacket q r fw k) s = .next (s.withDev (let d := s.toDev; (d.offer q.val r.val fw k []).retryInj q.val r.val).settleAll)) ∧
  (∀ (s : State) (q : Fin 4) (r : Fin 4) (x : InjReq) (rest : List InjReq),
      s.pwr.off = 0 →
      s.toDev.waitingInj q.val r.val = x :: rest →
      exec (.injectionRelease q r) s = .next (s.withDev (let d := s.toDev; (x :: rest).foldl (fun d x => d.tryInject x) d).settleAll)) ∧
  (∀ (s : State) (c : Nat) (x : Cell),
      s.pwr.off = 0 →
      s.toDev.cell c = some x →
      x.refs = 1 →
      exec (.cellFree c) s = .next (s.withDev (let d := s.toDev; d.dropCell c x).settleAll)) ∧
  (∀ (s : State) (c : Nat) (x : Cell),
      s.pwr.off = 0 →
      s.toDev.cell c = some x →
      1 < x.refs →
      exec (.cellFree c) s = .next (s.withDev (let d := s.toDev; d.setCell c { x with refs := x.refs - 1 }).settleAll)) ∧
  (∀ (s : State) (q : Fin 4),
      s.pwr.off = 0 →
      s.toDev.bit RTE_DUNE_EN (onDie q.val) = true →
      exec (.duneSend q) s = .next (s.withDev (let d := s.toDev; let u := (d.get RTE_DUNE_UPDATE (onDie q.val) + 1) % 256; let used := d.globals.map d.gidx; let bodies := (runs (fun g => used.contains g) 512 0 none).map (fun r => d.duneBody q.val u r.1 r.2); let ps := (d.portsOfDie q.val).filter (fun p => d.pclass p = 1 && d.lstate p = UP); (d.each ps (fun p d => (d.dropOldDune p).each bodies (fun b d => d.sendBypass p byDUNE b))).put RTE_DUNE_UPDATE (onDie q.val) u).settleAll)) ∧
  (∀ (s : State) (q : Fin 4) (bank : Fin 2),
      s.pwr.off = 0 →
      s.toDev.bankValid q.val bank.val = false →
      s.toDev.checkingOn q.val = false →
      exec (.epochValidate q bank) s = .next (s.withDev (let d := s.toDev; let e := d.put RTE_EPOCH_CHECKING (onDie q.val) 1; { e with rtr := { e.rtr with checking := Tab.put d.rtr.checking q.val bank.val } }).settleAll)) ∧
  (∀ (s : State) (q : Fin 4) (b : Nat),
      s.pwr.off = 0 →
      Tab.find s.toDev.rtr.checking q.val = some b →
      (({ s.toDev with rtr := { s.toDev.rtr with checking := Tab.del s.toDev.rtr.checking q.val } } : Dev).put RTE_EPOCH_CHECKING (onDie q.val) 0).bankFails q.val b = none →
      exec (.bankCheckDone q) s = .next (s.withDev (let d := s.toDev; ((((({ d with rtr := { d.rtr with checking := Tab.del d.rtr.checking q.val } } : Dev).put RTE_EPOCH_CHECKING (onDie q.val) 0).setBankValid q.val b true).epochStatus q.val ST_OK).each (List.range 4) (fun r d => d.retryInj q.val r))).settleAll)) ∧
  (∀ (s : State) (q : Fin 4) (b t i r : Nat),
      s.pwr.off = 0 →
      Tab.find s.toDev.rtr.checking q.val = some b →
      (({ s.toDev with rtr := { s.toDev.rtr with checking := Tab.del s.toDev.rtr.checking q.val } } : Dev).put RTE_EPOCH_CHECKING (onDie q.val) 0).bankFails q.val b = some (t, i, r) →
      exec (.bankCheckDone q) s = .next (s.withDev (let d := s.toDev; (((({ d with rtr := { d.rtr with checking := Tab.del d.rtr.checking q.val } } : Dev).put RTE_EPOCH_CHECKING (onDie q.val) 0).tblErr q.val b t i r).epochStatus q.val ST_BAD_PARAM)).settleAll)) ∧
  (∀ (s : State) (q : Fin 4) (bank : Fin 2),
      s.pwr.off = 0 →
      s.toDev.get RTE_EPOCH_STAMP (onDie q.val) ≠ bank.val →
      s.toDev.checkingOn q.val = false →
      exec (.epochRetire q bank) s = .next (s.withDev (let d := s.toDev; (d.setBankValid q.val bank.val false).epochStatus q.val ST_OK).settleAll)) ∧
  (∀ (s : State) (q : Fin 4) (e : Fin 2),
      s.pwr.off = 0 →
      s.toDev.bankValid q.val e.val = true →
      exec (.epochStamp q e) s = .next (s.withDev (let d := s.toDev; (d.put RTE_EPOCH_STAMP (onDie q.val) e.val).epochStatus q.val ST_OK).settleAll)) ∧
  (∀ (s : State) (q : Fin 4) (bank : Fin 2) (w : Nat) (v : Word),
      s.pwr.off = 0 →
      s.toDev.bankValid q.val bank.val = false →
      exec (.routeTableWrite q bank w v) s = .next (s.withDev (let d := s.toDev; d.putRoute q.val bank.val w v).settleAll)) ∧
  (∀ (s : State) (q : Fin 4) (bank : Fin 2) (n : Nat) (w : Fin 4) (v : Word),
      s.pwr.off = 0 →
      s.toDev.bankValid q.val bank.val = false →
      exec (.portSetWrite q bank n w v) s = .next (s.withDev (let d := s.toDev; d.putPset q.val bank.val n w.val v).settleAll))

/-- Completion (05_routing.md, 06_fabric_guarantees.md): rounds of the epoch count, port death, release of queued and held traffic, and the ledger audit. Each clause gives, for one command, the state and the operands on which
it completes and the whole state it leaves; `settleAll` is the work that the change sets in motion. -/
def Obligations.CompletionRelease : Prop :=
  (∀ (s : State),
      s.pwr.off = 0 →
      s.toDev.ep.running = true →
      s.toDev.backed 0 sysGroup = true →
      s.toDev.roundHeld (s.toDev.gEngdie 0 sysGroup) s.toDev.ep.opseq = false →
      exec .countRound s = .next (s.withDev (let d := s.toDev; let e := d.gEngdie 0 sysGroup; let n := d.ep.opseq; let d := { d with ep := { d.ep with round := d.ep.round + 1, opseq := (n + 1) % 65536 } }; d.epochCountIn e (512 + 256) (d.colPacket e sysGroup tEPOCH_COUNT 0 (d.engineSrc e) 1 (d.ep.round % 128) (colWord n (3, 0, 3, 0) 0) true ((d.countElems.map (toBytes 8)).flatten) [])).settleAll)) ∧
  (∀ (s : State) (p : Fin 512),
      s.pwr.off = 0 →
      s.toDev.pexists p.val = true →
      (s.toDev.eport p.val).deadTimer = true →
      exec (.portDeadTimeout p) s = .next (s.withDev (let d := s.toDev; (d.deadTimeout p.val).removePort p.val).settleAll)) ∧
  (∀ (s : State) (p : Fin 512),
      s.pwr.off = 0 →
      s.toDev.pexists p.val = true →
      s.toDev.lstate p.val ≠ UP →
      s.toDev.draining p.val = false →
      exec (.prtReleaseQueued p) s = .next (s.withDev (let d := s.toDev; (d.dropQueued p.val dropRELEASE).put PRT_RELEASE_STATUS (onLane p.val) ST_OK).settleAll)) ∧
  (∀ (s : State) (p : Fin 512),
      s.pwr.off = 0 →
      s.toDev.pexists p.val = true →
      s.toDev.lstate p.val ≠ UP →
      s.toDev.draining p.val = false →
      exec (.prtReleaseHeld p) s = .next (s.withDev (let d := s.toDev; (d.releaseHeld p.val).put PRT_RELEASE_STATUS (onLane p.val) ST_OK).settleAll)) ∧
  (∀ (s : State) (p : Fin 512),
      s.pwr.off = 0 →
      s.toDev.pexists p.val = true →
      s.toDev.lstate p.val ≠ UP →
      s.toDev.draining p.val = false →
      exec (.prtReleaseBoth p) s = .next (s.withDev (let d := s.toDev; ((d.dropQueued p.val dropRELEASE).releaseHeld p.val).put PRT_RELEASE_STATUS (onLane p.val) ST_OK).settleAll)) ∧
  (∀ (s : State) (p : Fin 512),
      s.pwr.off = 0 →
      s.toDev.pexists p.val = true →
      s.toDev.bit PRT_STAT_DEAD (onLane p.val) = true →
      s.toDev.keepsCount p.val = true →
      s.toDev.lstate p.val ≠ UP →
      s.toDev.draining p.val = false →
      exec (.heldTrafficRelease p) s = .next (s.withDev (let d := s.toDev; ((d.dropQueued p.val dropRELEASE).releaseHeld p.val).put PRT_RELEASE_STATUS (onLane p.val) ST_OK).settleAll)) ∧
  (∀ (s : State) (q : Fin 4),
      s.pwr.off = 0 →
      (List.range 4).filter (fun b => !s.toDev.regionOff (q.val * 4 + b) && s.toDev.cellBad q.val b) = [] →
      s.toDev.hst.queues.filter (fun e => e.1 / 262144 = q.val && e.1 / 65536 % 4 = kCQ && e.2.owed ≠ s.toDev.cqUnderWay q.val e.2 + e.2.held.length) = [] →
      (s.toDev.get RMX_CTRAPPLIED_TOTAL (onDie q.val) + s.toDev.incrementsHeld q.val) % 2 ^ 48 = s.toDev.get RMX_CTRPLACED_TOTAL (onDie q.val) →
      exec (.ledgerAudit q) s = .next (s.withDev (let d := s.toDev; d).settleAll)) ∧
  (∀ (s : State) (q : Fin 4),
      s.pwr.off = 0 →
      (List.range 4).filter (fun b => !s.toDev.regionOff (q.val * 4 + b) && s.toDev.cellBad q.val b) = [] →
      s.toDev.hst.queues.filter (fun e => e.1 / 262144 = q.val && e.1 / 65536 % 4 = kCQ && e.2.owed ≠ s.toDev.cqUnderWay q.val e.2 + e.2.held.length) = [] →
      (s.toDev.get RMX_CTRAPPLIED_TOTAL (onDie q.val) + s.toDev.incrementsHeld q.val) % 2 ^ 48 ≠ s.toDev.get RMX_CTRPLACED_TOTAL (onDie q.val) →
      exec (.ledgerAudit q) s = .next (s.withDev (let d := s.toDev; d.raise srcCONSERVE 7 (locDie q.val) 0).settleAll)) ∧
  (∀ (s : State) (q : Fin 4) (bad : List (Nat × Queue)) (e : Dev),
      s.pwr.off = 0 →
      (List.range 4).filter (fun b => !s.toDev.regionOff (q.val * 4 + b) && s.toDev.cellBad q.val b) = [] →
      s.toDev.hst.queues.filter (fun e => e.1 / 262144 = q.val && e.1 / 65536 % 4 = kCQ && e.2.owed ≠ s.toDev.cqUnderWay q.val e.2 + e.2.held.length) = bad →
      e = s.toDev.each bad (fun x d => d.raise srcCONSERVE 5 (locUnit q.val 3 (x.1 % 4)) (x.1 % 65536)) →
      (e.get RMX_CTRAPPLIED_TOTAL (onDie q.val) + e.incrementsHeld q.val) % 2 ^ 48 = e.get RMX_CTRPLACED_TOTAL (onDie q.val) →
      exec (.ledgerAudit q) s = .next (s.withDev (e).settleAll))

/-- Completion (07_forwarding_qos.md): buffer shares, shapers and gate lists of a port. Each clause gives, for one command, the state and the operands on which
it completes and the whole state it leaves; `settleAll` is the work that the change sets in motion. -/
def Obligations.CompletionScheduling : Prop :=
  (∀ (s : State) (l : Fin 512) (v : Word),
      s.pwr.off = 0 →
      378 ≤ FWD_SHARE_CELLS.of v →
      (s.toDev.put FWD_SHARE_CELLS (onLane l.val) (FWD_SHARE_CELLS.of v)).commitment (l.val / 128) ≤ (s.toDev.put FWD_SHARE_CELLS (onLane l.val) (FWD_SHARE_CELLS.of v)).bankCells (l.val / 128) →
      exec (.fwdShareWrite l v) s = .next (s.withDev (let d := s.toDev; (d.put FWD_SHARE_CELLS (onLane l.val) (FWD_SHARE_CELLS.of v)).put FWD_SHARE_STATUS (onLane l.val) ST_OK).settleAll)) ∧
  (∀ (s : State) (q : Fin 4) (v : Word),
      s.pwr.off = 0 →
      20 ≤ FWD_INJ_INJ.of v →
      20 ≤ FWD_INJ_BRG.of v →
      ((s.toDev.put FWD_INJ_INJ (onDie q.val) (FWD_INJ_INJ.of v)).put FWD_INJ_BRG (onDie q.val) (FWD_INJ_BRG.of v)).commitment q.val ≤ ((s.toDev.put FWD_INJ_INJ (onDie q.val) (FWD_INJ_INJ.of v)).put FWD_INJ_BRG (onDie q.val) (FWD_INJ_BRG.of v)).bankCells q.val →
      exec (.fwdInjWrite q v) s = .next (s.withDev (let d := s.toDev; ((d.put FWD_INJ_INJ (onDie q.val) (FWD_INJ_INJ.of v)).put FWD_INJ_BRG (onDie q.val) (FWD_INJ_BRG.of v)).put FWD_INJ_STATUS (onDie q.val) ST_OK |>.bridgeShare q.val (d.get FWD_INJ_BRG (onDie q.val))).settleAll)) ∧
  (∀ (s : State) (p : Fin 512) (t : Fin 16) (e : Nat),
      s.pwr.off = 0 →
      s.toDev.pexists p.val = true →
      (s.toDev.shaper p.val t.val).wait = some e →
      (s.toDev.shaper p.val t.val).wheel = true →
      e ≤ s.toDev.fabricNow →
      exec (.shaperEligible p t) s = .next (s.withDev (let d := s.toDev; d.setShaper p.val t.val ({ d.shaper p.val t.val with credit := (d.shaper p.val t.val).creditNow d.now, stamp := d.now }.rearm d.fabricNow)).settleAll)) ∧
  (∀ (s : State) (q : Fin 4),
      s.pwr.off = 0 →
      exec (.wheelTurn q) s = .next (s.withDev (let d := s.toDev; { d with rtr := { d.rtr with shapers := d.rtr.shapers.map (fun (e : Nat × Shaper) => if e.1 / 2048 = q.val then (e.1, { e.2 with wheel := match e.2.wait with | some t => e.2.wheel || decide (t ≤ d.fabricNow + wheelHorizon) | none => false }) else e) } }).settleAll)) ∧
  (∀ (s : State) (p : Fin 512) (t : Fin 16) (v : Word),
      s.pwr.off = 0 →
      s.toDev.pexists p.val = true →
      exec (.shapeWrite p t v) s = .next (s.withDev (let d := s.toDev; let d := d.wrFields .SCH_SHAPE (shapeAt p.val t.val) v; d.setShaper p.val t.val { (d.shaper p.val t.val) with applyAt := some ((d.fabricNow / 8 + 1) * 8) }).settleAll)) ∧
  (∀ (s : State) (p : Fin 512) (t : Fin 16) (b : Nat),
      s.pwr.off = 0 →
      s.toDev.pexists p.val = true →
      (s.toDev.shaper p.val t.val).applyAt = some b →
      b ≤ s.toDev.fabricNow →
      exec (.shapeApply p t) s = .next (s.withDev (let d := s.toDev; let x := d.shaper p.val t.val; let rate := rateOf (d.get SCH_SHAPE_RATE (shapeAt p.val t.val)); let burst := d.get SCH_SHAPE_BURST (shapeAt p.val t.val); d.setShaper p.val t.val (({ x with rate := rate, burst := burst, credit := if rate = 0 then burst * 8000 else min (burst * 8000) (x.creditNow d.now), stamp := d.now, applyAt := none } : Shaper).rearm d.fabricNow)).settleAll)) ∧
  (∀ (s : State) (p : Fin 512) (l : Fin 2) (e : Fin 256) (v : Word),
      s.pwr.off = 0 →
      s.toDev.pexists p.val = true →
      (s.toDev.gateRunning p.val && s.toDev.gateActive p.val = l.val) = false →
      (s.toDev.gatePending p.val && s.toDev.shadow p.val = l.val) = false →
      exec (.gateListWrite p l e v) s = .next (s.withDev (let d := s.toDev; let z := d.gateStatus p.val ST_OK; { z with win := { z.win with gate := Tab.set d.win.gate 0 ((p.val * 2 + l.val) * 256 + e.val) (bits v.toNat 0 46) } }).settleAll)) ∧
  (∀ (s : State) (p : Fin 512) (v : Word),
      s.pwr.off = 0 →
      s.toDev.pexists p.val = true →
      SCH_GATECTL_CANCEL.of (v ||| SCH_GATECTL_COMMIT.mask) = 0 →
      SCH_GATECTL_COMMIT.of (v ||| SCH_GATECTL_COMMIT.mask) = 1 →
      s.toDev.gatePending p.val = false →
      s.toDev.gateListOk p.val (SCH_GATECTL_LEN.of (v ||| SCH_GATECTL_COMMIT.mask)) = true →
      exec (.gateCommit p v) s = .next (s.withDev (let d := s.toDev; let w := v ||| SCH_GATECTL_COMMIT.mask; let n := SCH_GATECTL_LEN.of w; let l := d.shadow p.val; let t := d.commitTime p.val (d.get SCH_GATESTART_T (onLane p.val)) (max 1 (gateCycle (d.gateList p.val l n))); let d := ((d.wrFields .SCH_GATECTL (onLane p.val) w).put SCH_GATECTL_PENDING (onLane p.val) 1).gateStatus p.val ST_OK; d.setGate p.val { ((d.gate p.val).setLen l n) with takeover := t }).settleAll)) ∧
  (∀ (s : State) (p : Fin 512) (v : Word),
      s.pwr.off = 0 →
      s.toDev.pexists p.val = true →
      SCH_GATECTL_COMMIT.of (v ||| SCH_GATECTL_CANCEL.mask) = 0 →
      SCH_GATECTL_CANCEL.of (v ||| SCH_GATECTL_CANCEL.mask) = 1 →
      exec (.gateCancel p v) s = .next (s.withDev (let d := s.toDev; (d.wrFields .SCH_GATECTL (onLane p.val) (v ||| SCH_GATECTL_CANCEL.mask)).put SCH_GATECTL_PENDING (onLane p.val) 0).settleAll)) ∧
  (∀ (s : State) (p : Fin 512),
      s.pwr.off = 0 →
      s.toDev.pexists p.val = true →
      s.toDev.gatePending p.val = true →
      s.toDev.takeoverTime p.val ≤ s.toDev.fabricNow →
      exec (.gateTakeover p) s = .next (s.withDev (let d := s.toDev; let l := d.shadow p.val; (((d.put SCH_GATECTL_PENDING (onLane p.val) 0).put SCH_GATECTL_ACTIVE (onLane p.val) l).put SCH_GATECTL_RUNNING (onLane p.val) 1).gateEntry p.val l 0 (d.takeoverTime p.val)).settleAll)) ∧
  (∀ (s : State) (p : Fin 512),
      s.pwr.off = 0 →
      s.toDev.pexists p.val = true →
      s.toDev.gateRunning p.val = true →
      (s.toDev.gate p.val).entryEnd ≤ s.toDev.fabricNow →
      s.toDev.gatePending p.val = false →
      exec (.gateEntryEnd p) s = .next (s.withDev (let d := s.toDev; let l := d.gateActive p.val; d.gateEntry p.val l ((d.get SCH_GATESTAT_ENTRY (onLane p.val) + 1) % max 1 ((d.gate p.val).len l)) (d.gate p.val).entryEnd).settleAll))

/-- Completion (08_multicast_collectives.md): group entries, group packets, reductions, barriers and fences. Each clause gives, for one command, the state and the operands on which
it completes and the whole state it leaves; `settleAll` is the work that the change sets in motion. -/
def Obligations.CompletionGroup : Prop :=
  (∀ (s : State) (q : Fin 4) (g : Fin 65536),
      s.pwr.off = 0 →
      s.toDev.mcg.waiting.any (fun w => w.1 = q.val && w.2.1 = g.val) = true →
      s.toDev.backed q.val g.val = true →
      exec (.groupEntryFetch q g) s = .next (s.withDev (let d := s.toDev; (d.useEntry q.val g.val).groupsProceed q.val).settleAll)) ∧
  (∀ (s : State) (q : Fin 4) (g : Fin 65536),
      s.pwr.off = 0 →
      s.toDev.mcg.waiting.any (fun w => w.1 = q.val && w.2.1 = g.val) = true →
      s.toDev.backed q.val g.val = false →
      exec (.groupEntryFetch q g) s = .next (s.withDev (let d := s.toDev; d.groupsProceed q.val).settleAll)) ∧
  (∀ (s : State) (q : Fin 4) (g : Fin 65536),
      s.pwr.off = 0 →
      s.toDev.backed q.val g.val = false →
      s.toDev.groupFails q.val g.val = none →
      exec (.groupValidate q g) s = .next (s.withDev (let d := s.toDev; let d := d.when (d.gColl q.val g.val && d.gEngdie q.val g.val = q.val) (·.arrival (q.val * 4 + g.val % 4)); ((d.newSeqs q.val g.val).setBacked q.val g.val true).gcmdStatus q.val g.val ST_OK).settleAll)) ∧
  (∀ (s : State) (q : Fin 4) (g : Fin 65536),
      s.pwr.off = 0 →
      s.toDev.groupOpen q.val g.val = false →
      exec (.groupInvalidate q g) s = .next (s.withDev (let d := s.toDev; (d.groupOff q.val g.val).gcmdStatus q.val g.val ST_OK).settleAll)) ∧
  (∀ (s : State) (q : Fin 4) (g : Fin 65536),
      s.pwr.off = 0 →
      exec (.groupForce q g) s = .next (s.withDev (let d := s.toDev; ((d.forceOps q.val g.val).groupOff q.val g.val).gcmdStatus q.val g.val ST_OK).settleAll)) ∧
  (∀ (s : State) (q : Fin 4) (g : Fin 65536) (w : Fin 16) (v : Word),
      s.pwr.off = 0 →
      s.toDev.backed q.val g.val = false →
      exec (.groupEntryWrite q g w v) s = .next (s.withDev (let d := s.toDev; { d with win := { d.win with group := Tab.set d.win.group 0 ((q.val * 65536 + g.val) * 16 + w.val) v.toNat } }).settleAll)) ∧
  (∀ (s : State) (q : Fin 4) (g : Fin 65536) (w : Fin 16) (v : Word),
      s.pwr.off = 0 →
      s.toDev.backed q.val g.val = true →
      exec (.groupEntryWrite q g w v) s = .next (s.withDev (let d := s.toDev; let d := d.inc .MCG_LIVEWR (onDie q.val); { d with win := { d.win with group := Tab.set d.win.group 0 ((q.val * 65536 + g.val) * 16 + w.val) v.toNat } }).settleAll)) ∧
  (∀ (s : State) (q : Fin 4) (member : Fin 256) (k : Machine.Packet) (o : Packet),
      s.pwr.off = 0 →
      s.toDev.meshHold q.val = false →
      k.type = tMCAST →
      o = s.toDev.oldestFor q.val member.val k →
      o.type = tMCAST →
      o.enc = false →
      (s.toDev.takeDlv q.val member.val o).gEnc q.val (o.dest % 65536) = false →
      exec (.mcast q member k) s = .next (s.withDev (let d := s.toDev; if cKind o = kdBCAST then (d.takeDlv q.val member.val o).bcastPlace q.val member.val o else (d.takeDlv q.val member.val o).mcastPlace q.val member.val o).settleAll)) ∧
  (∀ (s : State) (q : Fin 4) (src : Nat) (k : Machine.Packet),
      s.pwr.off = 0 →
      s.toDev.engineTakes q.val tRED_UP k →
      exec (.redUp q src k) s = .next (s.withDev (let d := s.toDev; let p := cParams k; ((d.takeDlv q.val 257 k).modCrec q.val (k.dest % 65536) (cSeq k) (fun r => { r with result := if r.result = 0 then cResult k else r.result, tc := if r.begun then r.tc else k.tc })).contributes q.val (k.dest % 65536) (cSeq k) src p (cChunk k) (cPhase k) (cNelem k) k.dconn (readPart p.2.1 p.2.2.1 p.2.2.2 (cPhase k) k.payload)).settleAll)) ∧
  (∀ (s : State) (q : Fin 4) (k : Machine.Packet),
      s.pwr.off = 0 →
      s.toDev.meshHold q.val = false →
      s.toDev.engineTakes q.val tRED_DOWN k →
      k.dest % 65536 ≠ sysGroup →
      exec (.redDown q k) s = .next (s.withDev (let d := s.toDev; (d.takeDlv q.val 257 k).redDown q.val (k.dest % 65536) k).settleAll)) ∧
  (∀ (s : State) (q : Fin 4) (k : Machine.Packet) (e : Dev) (r : ColOp) (ph : Nat) (chunks : List Nat),
      s.pwr.off = 0 →
      s.toDev.engineTakes q.val tCOL_GRANT k →
      (s.toDev.takeDlv q.val 257 k).openOp q.val (k.dest % 65536) (cSeq k) k.tc = (e, true) →
      e.openCrec q.val (k.dest % 65536) (cSeq k) = some r →
      ph = bits (ofBytes (k.oper.take 2)) 12 1 →
      chunks = ((List.range (cByte k 2)).map (cChunk k + ·)).filter (fun c => !r.down.contains (c, ph)) →
      chunks ≠ [] →
      exec (.colGrant q k) s = .next (s.withDev (let d := s.toDev; (e.modCrec q.val (k.dest % 65536) (cSeq k) (fun r => { r with grants := r.grants ++ chunks.map (fun c => (c, ph)) })).each chunks (fun c d => d.chunkCheck q.val (k.dest % 65536) (cSeq k) c ph)).settleAll)) ∧
  (∀ (s : State) (q : Fin 4) (g : Fin 65536) (seq : Nat) (e : Dev) (r : ColOp) (c ph : Nat),
      s.pwr.off = 0 →
      s.toDev.bufsInUse q.val g.val < s.toDev.gWindow q.val g.val →
      s.toDev.openOp q.val g.val seq 0 = (e, true) →
      e.openCrec q.val g.val seq = some r →
      r.nextBuf = some (c, ph) →
      e.awaitPorts q.val g.val = [] →
      (e.setCrec q.val g.val { r with bufs := r.bufs ++ [ChunkBuf.fresh c ph [] (e.awaitLocals q.val g.val)], next0 := if ph = 0 then c + 1 else r.next0, next1 := if ph = 1 then c + 1 else r.next1 }).memsOf q.val g.val seq = [] →
      exec (.bufferAssign q g seq) s = .next (s.withDev ((e.setCrec q.val g.val { r with bufs := r.bufs ++ [ChunkBuf.fresh c ph [] (e.awaitLocals q.val g.val)], next0 := if ph = 0 then c + 1 else r.next0, next1 := if ph = 1 then c + 1 else r.next1 }).chunkCheck q.val g.val seq c ph).settleAll)) ∧
  (∀ (s : State) (q : Fin 4) (src : Nat) (k : Machine.Packet),
      s.pwr.off = 0 →
      s.toDev.engineTakes q.val tBARRIER k →
      cDir k = 0 →
      exec (.barrierUp q src k) s = .next (s.withDev (let d := s.toDev; (d.takeDlv q.val 257 k).stageArrive q.val (k.dest % 65536) (cSeq k) src k.tc (cParams k) (cStage k) k.dconn (cFenced k)).settleAll)) ∧
  (∀ (s : State) (q : Fin 4) (k : Machine.Packet),
      s.pwr.off = 0 →
      s.toDev.engineTakes q.val tBARRIER k →
      cDir k = 1 →
      exec (.barrierDown q k) s = .next (s.withDev (let d := s.toDev; (d.takeDlv q.val 257 k).barrierRelease q.val (k.dest % 65536) k).settleAll)) ∧
  (∀ (s : State) (q : Fin 4) (src : Nat) (k : Machine.Packet) (e : Dev) (r : ColOp) (b : ChunkBuf),
      s.pwr.off = 0 →
      s.toDev.engineTakes q.val tEPOCH_COUNT k →
      (s.toDev.takeDlv q.val 257 k).openOp q.val (k.dest % 65536) (cSeq k) k.tc = (e, true) →
      e.openCrec q.val (k.dest % 65536) (cSeq k) = some r →
      r.begun = false ∨ r.epoch.isSome = true →
      r.agrees (cParams k) = true →
      b = r.epoch.getD (ChunkBuf.fresh 0 0 (e.awaitPorts q.val (k.dest % 65536)) (e.awaitLocals q.val (k.dest % 65536))) →
      src < 512 →
      b.ports.contains src = true →
      exec (.epochCount q src k) s = .next (s.withDev ((e.setCrec q.val (k.dest % 65536) { r with params := some (cParams k), flags := k.opflags, total := some 1, begun := true, epoch := some { b with ports := b.ports.filter (· ≠ src), locals := b.locals.filter (fun m => m + 512 ≠ src), members := b.members + k.dconn, part := b.part.merge 0 3 (.native (epochElems k)), nelem := some 3 } }).epochCheck q.val (k.dest % 65536) (cSeq k)).settleAll)) ∧
  (∀ (s : State) (q : Fin 4) (g : Fin 65536) (seq : Nat) (r : ColOp) (k : Packet),
      s.pwr.off = 0 →
      s.toDev.openCrec q.val g.val seq = some r →
      s.toDev.gRoot q.val g.val = true →
      r.begun = true →
      k = s.toDev.timeoutPacket q.val g.val r →
      r.stagesOf ≠ [] →
      exec (.operationTimeout q g seq) s = .next (s.withDev (let d := s.toDev; (((((d.inc .CLV_INCOMPLETE (onDie q.val)).closeOp q.val g.val r true).tellMembers q.val g.val seq k.dconn).membersEnd q.val g.val seq ST_INCOMPLETE).colInject q.val (g.val % 4) k [])).settleAll)) ∧
  (∀ (s : State) (q : Fin 4) (g : Fin 65536) (seq : Nat) (r : ColOp) (k : Packet),
      s.pwr.off = 0 →
      s.toDev.openCrec q.val g.val seq = some r →
      s.toDev.gRoot q.val g.val = true →
      r.begun = true →
      k = s.toDev.timeoutPacket q.val g.val r →
      r.stagesOf = [] →
      exec (.operationTimeout q g seq) s = .next (s.withDev (let d := s.toDev; (((((d.countShort q.val g.val r true).closeOp q.val g.val r true).tellMembers q.val g.val seq k.dconn).membersEnd q.val g.val seq ST_INCOMPLETE).colInject q.val (g.val % 4) k [])).settleAll)) ∧
  (∀ (s : State) (q : Fin 4) (g : Fin 65536) (seq : Nat) (member : Fin 256) (m : Mem),
      s.pwr.off = 0 →
      s.toDev.clv.mems.find? (fun m => m.die = q.val && m.group = g.val && m.seq = seq && m.member = member.val) = some m →
      (s.toDev.memFinish m ST_INCOMPLETE 0).openCrec q.val g.val seq = none →
      exec (.memberTimeout q g seq member) s = .next (s.withDev (let d := s.toDev; d.memFinish m ST_INCOMPLETE 0).settleAll)) ∧
  (∀ (s : State) (p : Fin 512) (c : Ctrl) (b : Body),
      s.pwr.off = 0 →
      s.toDev.inOrder p.val c →
      ctlKind c = 2 →
      creditValid c = true →
      ctlFvc c = byFENCE →
      exec (.fenceReceived p c b) s = .next (s.withDev (let d := s.toDev; (d.acceptSeq p.val c).fenceSpread (fb b 0 25) (fb b 25 1 = 1) (fb b 26 1 = 1) (fb b 32 32) (fb b 64 17)).settleAll)) ∧
  (∀ (s : State) (q : Fin 4) (path : Path) (v : Word),
      s.pwr.off = 0 →
      path = .mgmt →
      exec (.fenceGo q path v) s = .next (s.withDev (let d := s.toDev; ((d.wrFields .MCG_FENCECMD (onDie q.val) v).fenceOriginate q.val (MCG_FENCECMD_EP.of v) (MCG_FENCECMD_NODE_SCOPE.of v = 1) (MCG_FENCECMD_SET.of v = 1)).put MCG_FENCECMD_STATUS (onDie q.val) ST_OK).settleAll)) ∧
  (∀ (s : State) (m : Nat × Bool × Nat),
      s.pwr.off = 0 →
      s.toDev.get MCG_CTRL_REFRESH onMod ≠ 0 →
      s.toDev.mcg.mine.filter s.toDev.fenceStands = [m] →
      exec .fenceRefresh s = .next (s.withDev (let d := s.toDev; let l := (List.range 4).filter (fun q => pairAbove (m.2.2, d.nodeId) (d.fencePair q (epNode m.1))); (d.each l (fun q d => d.fenceDie q m.1 m.2.1 true m.2.2 d.nodeId)).flood byFENCE (fenceBody m.1 m.2.1 true m.2.2 d.nodeId)).settleAll))

/-- Completion (09_host_queues.md): doorbells, counters, descriptors, queue commands and the host link. Each clause gives, for one command, the state and the operands on which
it completes and the whole state it leaves; `settleAll` is the work that the change sets in motion. -/
def Obligations.CompletionHost : Prop :=
  (∀ (s : State) (q : Fin 4) (k : Fin 4) (f : Fin 256) (n : Fin 65536) (w : Word) (ok : Bool) (g : Nat) (x : Queue),
      s.pwr.off = 0 →
      s.sys.formS = false →
      s.toDev.funcOn q.val f.val = true →
      ok = true →
      s.toDev.globalOf q.val f.val k.val n.val = some g →
      s.toDev.queue q.val k.val g = some x →
      x.state = qACTIVE →
      idx32 (bits w.toNat 0 32) x.ci ≤ x.size →
      x.fill ≤ idx32 (bits w.toNat 0 32) x.ci →
      k.val ≠ kRQ →
      exec (.producerDoorbell q k f n w ok) s = .next (s.withDev (let d := s.toDev; (d.setQueue q.val k.val g { x with pi := bits w.toNat 0 32, bell := bits w.toNat 0 32 }).event q.val blkQUE 0 0x01 0 1).settleAll)) ∧
  (∀ (s : State) (q : Fin 4) (k : Fin 4) (f : Fin 256) (n : Fin 65536) (w : Word) (ok : Bool) (g : Nat) (x : Queue),
      s.pwr.off = 0 →
      s.sys.formS = false →
      s.toDev.funcOn q.val f.val = true →
      ok = true →
      s.toDev.globalOf q.val f.val k.val n.val = some g →
      s.toDev.queue q.val k.val g = some x →
      idx32 (bits w.toNat 0 32) x.ci ≤ x.fill →
      bits w.toNat 63 1 = 0 →
      exec (.consumerDoorbell q k f n w ok) s = .next (s.withDev (let d := s.toDev; ((d.setQueue q.val k.val g { x with ci := bits w.toNat 0 32, bell := bits w.toNat 0 32, failed := false }).event q.val blkQUE 0 0x01 0 1).drainQueue q.val k.val g).settleAll)) ∧
  (∀ (s : State) (q : Fin 4) (n : Fin 262144) (v : Word),
      s.pwr.off = 0 →
      s.sys.formS = false →
      exec (.counterWrite q n v) s = .next (s.withDev (let d := s.toDev; { d with hst := { d.hst with ctrs := Tab.set d.hst.ctrs 0 (q.val * 262144 + n.val) (v.toNat % 2 ^ 64) } }.fireTriggers q.val n.val).settleAll)) ∧
  (∀ (s : State) (q : Fin 4) (n : Fin 262144) (op : Fin 4) (x : Word) (y : Word),
      s.pwr.off = 0 →
      s.sys.formS = false →
      exec (.counterAtomic q n op x y) s = .next (s.withDev (let d := s.toDev; (d.emit (.readValue (bar4Path q.val) (BitVec.ofNat 64 (d.ctr q.val n.val)))).setCtr q.val n.val (atomicNew op.val (d.ctr q.val n.val) x.toNat y.toNat)).settleAll)) ∧
  (∀ (s : State) (q : Fin 4) (n : Fin 65536) (v : Word),
      s.pwr.off = 0 →
      s.sys.formS = false →
      exec (.keyrightsWrite q n v) s = .next (s.withDev (let d := s.toDev; d.wrFields .QUE_KEYRIGHTS ⟨q.val, n.val⟩ v).settleAll)) ∧
  (∀ (s : State) (q : Fin 4) (k : Fin 4) (n : Fin 65536) (desc : BitVec 512) (shards : List (Word × Word)) (ok : Bool) (y : Queue) (e : Dev) (a : Dev × Nat × Op),
      s.pwr.off = 0 →
      s.sys.formS = false →
      s.toDev.meshHold q.val = false →
      k.val = kWQ →
      s.toDev.queue q.val k.val n.val = some y →
      y.fill ≠ 0 →
      y.blocked = false →
      y.state = qACTIVE →
      s.toDev.mayStart q.val n.val desc.toNat = true →
      s.toDev.cqAdmits q.val y = true →
      s.toDev.fetch q.val n.val y y.ci desc.toNat = (e, none) →
      ok = true →
      a = ((((e.cqAdmit q.val y).setQueue q.val kWQ n.val { y with ci := (y.ci + 1) % 2 ^ 32, issued := false, owes := y.owes + 1 }).event q.val blkQUE 0 0x02 0 1).newOp q.val kWQ n.val y desc.toNat (shardFrags desc.toNat shards)) →
      a.1.descBad q.val kWQ desc.toNat (shardFrags desc.toNat shards) = false →
      dTrig desc.toNat = false →
      exec (.descriptorStart q k n desc shards ok) s = .next (s.withDev (a.1.runOp a.2.1).settleAll)) ∧
  (∀ (s : State) (q : Fin 4) (n : Fin 65536) (x : Queue),
      s.pwr.off = 0 →
      s.sys.formS = false →
      s.toDev.queue q.val kEQ n.val = some x →
      x.modBusy = true →
      x.irqDue = true →
      exec (.moderationEnd q n) s = .next (s.withDev (let d := s.toDev; (d.setQueue q.val kEQ n.val { x with modBusy := false, irqDue := false }).fireIrq q.val n.val).settleAll)) ∧
  (∀ (s : State) (q : Fin 4) (f : Fin 256) (g : Nat),
      s.pwr.off = 0 →
      s.sys.formS = false →
      s.toDev.bit QUE_CMD_BUSY ⟨q.val, f.val⟩ = false →
      s.toDev.globalOf q.val f.val (s.toDev.imgKind q.val f.val) (s.toDev.imgQnum q.val f.val) = some g →
      s.toDev.queue q.val (s.toDev.imgKind q.val f.val) g = none →
      s.toDev.createOk q.val f.val (s.toDev.imgKind q.val f.val) (s.toDev.imgQueue q.val f.val) = true →
      exec (.queueCreate q f) s = .next (s.withDev (let d := s.toDev; let k := d.imgKind q.val f.val; let e := (d.arrivalDie q.val).setQueue q.val k g (d.imgQueue q.val f.val); (e.when (k = kWQ) (·.put QUE_KEYRIGHTS_KEYS ⟨q.val, g⟩ (bits (cmdWord e q.val f.val 3) 0 32))).queEnd q.val f.val ST_OK).settleAll)) ∧
  (∀ (s : State) (q : Fin 4) (f : Fin 256) (g : Nat) (x : Queue),
      s.pwr.off = 0 →
      s.sys.formS = false →
      s.toDev.bit QUE_CMD_BUSY ⟨q.val, f.val⟩ = false →
      s.toDev.localQueue q.val f.val (s.toDev.imgKind q.val f.val) (s.toDev.imgQnum q.val f.val) = some (g, x) →
      s.toDev.imgKind q.val f.val ≤ kRQ →
      x.state = qACTIVE →
      exec (.queuePause q f) s = .next (s.withDev (let d := s.toDev; (d.setQueue q.val (d.imgKind q.val f.val) g { x with state := qPAUSED, cmd := 2 }).putB QUE_CMD_BUSY ⟨q.val, f.val⟩ true).settleAll)) ∧
  (∀ (s : State) (q : Fin 4) (k : Fin 4) (g : Fin 65536) (x : Queue),
      s.pwr.off = 0 →
      s.sys.formS = false →
      s.toDev.queue q.val k.val g.val = some x →
      x.cmd = 2 →
      s.toDev.inProgress q.val k.val g.val = false →
      exec (.queuePauseDone q k g) s = .next (s.withDev (let d := s.toDev; (d.setQueue q.val k.val g.val { x with cmd := 0 }).queEnd q.val x.func ST_OK).settleAll)) ∧
  (∀ (s : State) (q : Fin 4) (f : Fin 256) (g : Nat) (x : Queue),
      s.pwr.off = 0 →
      s.sys.formS = false →
      s.toDev.bit QUE_CMD_BUSY ⟨q.val, f.val⟩ = false →
      s.toDev.localQueue q.val f.val (s.toDev.imgKind q.val f.val) (s.toDev.imgQnum q.val f.val) = some (g, x) →
      s.toDev.imgKind q.val f.val ≤ kRQ →
      x.state = qPAUSED →
      exec (.queueResume q f) s = .next (s.withDev (let d := s.toDev; ((d.setQueue q.val (d.imgKind q.val f.val) g { x with state := qACTIVE }).queEnd q.val f.val ST_OK).runFired).settleAll)) ∧
  (∀ (s : State) (q : Fin 4) (f : Fin 256) (g : Nat) (x : Queue),
      s.pwr.off = 0 →
      s.sys.formS = false →
      s.toDev.bit QUE_CMD_BUSY ⟨q.val, f.val⟩ = false →
      s.toDev.localQueue q.val f.val (s.toDev.imgKind q.val f.val) (s.toDev.imgQnum q.val f.val) = some (g, x) →
      s.toDev.imgKind q.val f.val ≤ kRQ →
      x.state = qERROR →
      s.toDev.flushed q.val (s.toDev.imgKind q.val f.val) g x = true →
      exec (.queueRecover q f) s = .next (s.withDev (let d := s.toDev; (d.setQueue q.val (d.imgKind q.val f.val) g { x with state := qACTIVE, pi := x.ci, blocked := false }).queEnd q.val f.val ST_OK).settleAll)) ∧
  (∀ (s : State) (q : Fin 4) (f : Fin 256) (g : Nat) (x : Queue),
      s.pwr.off = 0 →
      s.sys.formS = false →
      s.toDev.bit QUE_CMD_BUSY ⟨q.val, f.val⟩ = false →
      s.toDev.localQueue q.val f.val (s.toDev.imgKind q.val f.val) (s.toDev.imgQnum q.val f.val) = some (g, x) →
      s.toDev.imgKind q.val f.val = kWQ →
      exec (.queueDestroy q f) s = .next (s.withDev (let d := s.toDev; ((d.setQueue q.val (d.imgKind q.val f.val) g { x with state := qDRAINING, cmd := 5 }).putB QUE_CMD_BUSY ⟨q.val, f.val⟩ true).giveUp q.val (d.imgKind q.val f.val) g).settleAll)) ∧
  (∀ (s : State) (q : Fin 4) (f : Fin 256) (g : Nat) (x : Queue),
      s.pwr.off = 0 →
      s.sys.formS = false →
      s.toDev.bit QUE_CMD_BUSY ⟨q.val, f.val⟩ = false →
      s.toDev.localQueue q.val f.val (s.toDev.imgKind q.val f.val) (s.toDev.imgQnum q.val f.val) = some (g, x) →
      exec (.queueQuery q f) s = .next (s.withDev (let d := s.toDev; (d.each (d.queueImage q.val (d.imgKind q.val f.val) g x).zipIdx (fun (e : Nat × Nat) d => d.wr .QUE_CMDBUF ⟨q.val, f.val * 8 + e.2⟩ (BitVec.ofNat 64 e.1))).queEnd q.val f.val ST_OK).settleAll)) ∧
  (∀ (s : State) (q : Fin 4) (k : Fin 4) (g : Fin 65536) (x : Queue),
      s.pwr.off = 0 →
      s.sys.formS = false →
      s.toDev.queue q.val k.val g.val = some x →
      x.state = qDRAINING →
      s.toDev.flushed q.val k.val g.val x = true →
      exec (.flushComplete q k g) s = .next (s.withDev (let d := s.toDev; let d := d.settleOwed q.val k.val g.val x; if d.heldFor q.val k.val x then d else (d.freeQueue q.val k.val g.val).queEnd q.val x.func ST_OK).settleAll)) ∧
  (∀ (s : State) (q : Fin 4) (g : Fin 65536) (c : Queue),
      s.pwr.off = 0 →
      s.sys.formS = false →
      s.toDev.queue q.val kCQ g.val = some c →
      c.stall = true →
      exec (.cqStallTimeout q g) s = .next (s.withDev (let d := s.toDev; let d := d.setQueue q.val kCQ g.val { c with stall := false }; d.each (d.hst.queues.filter (fun e => e.1 / 65536 = q.val * 4 + kWQ && e.2.func = c.func && e.2.cqn = c.qnum)) (fun e d => d.queueError q.val kWQ (e.1 % 65536) ST_CQ_STALL e.2.ci)).settleAll)) ∧
  (∀ (s : State) (q : Fin 4) (f : Fin 256),
      s.pwr.off = 0 →
      s.sys.formS = false →
      s.toDev.funcOn q.val f.val = true →
      exec (.functionLevelReset q f) s = .next (s.withDev (let d := s.toDev; ((d.funcReset q.val f.val).startWipe 4 q.val f.val).raise srcRESET 1 (locHost q.val) 7).settleAll)) ∧
  (∀ (s : State) (q : Fin 4) (f : Fin 256),
      s.pwr.off = 0 →
      s.sys.formS = false →
      s.toDev.funcOn q.val f.val = true →
      exec (.d3hotToD0 q f) s = .next (s.withDev (let d := s.toDev; ((d.funcReset q.val f.val).startWipe 4 q.val f.val).raise srcRESET 1 (locHost q.val) 7).settleAll)) ∧
  (∀ (s : State) (q : Fin 4) (hot : Bool),
      s.pwr.off = 0 →
      s.sys.formS = false →
      hot = false →
      s.toDev.flt.resets = [] →
      exec (.hostLinkDown q hot) s = .next (s.withDev (let d := s.toDev; ((((d.resetBegins (locHost q.val)).resetHost q.val).resetRecords (locHost q.val) none).raise srcRESET 1 (locHost q.val) 7).raise srcHOST 1 (locHost q.val) 0).settleAll)) ∧
  (∀ (s : State) (q : Fin 4) (rate : Nat) (width : Nat) (flit : Bool) (sris : Bool),
      s.pwr.off = 0 →
      s.sys.formS = false →
      5 ≤ s.toDev.boot.step →
      s.toDev.boot.step ≠ 8 →
      s.toDev.get CFG_BOOTSTATUS_BISQUE onMod = 0 →
      exec (.hostLinkUp q rate width flit sris) s = .next (s.withDev (let d := s.toDev; d.hostLinkUp q.val rate width flit sris).settleAll)) ∧
  (∀ (s : State) (q : Fin 4) (f : Fin 256) (k : Fin 4) (v : Word),
      s.pwr.off = 0 →
      s.sys.formS = false →
      (List.range 256).any (fun g => g ≠ f.val && rangesMeet (HST_FNQ_BASE.of v) (HST_FNQ_COUNT.of v) (s.toDev.get HST_FNQ_BASE ⟨q.val, g * 4 + k.val⟩) (s.toDev.get HST_FNQ_COUNT ⟨q.val, g * 4 + k.val⟩)) = false →
      HST_FNQ_BASE.of v + HST_FNQ_COUNT.of v ≤ (if (k.val : Nat) = kEQ then 1024 else 65536) →
      f.val % 64 = 0 ∨ HST_FNQ_COUNT.of v ≤ (if (k.val : Nat) = kEQ then 64 else 4096) →
      s.toDev.queuesIn q.val k.val (HST_FNQ_BASE.of v) (HST_FNQ_COUNT.of v) = false →
      s.toDev.queuesIn q.val k.val (s.toDev.get HST_FNQ_BASE ⟨q.val, f.val * 4 + k.val⟩) (s.toDev.get HST_FNQ_COUNT ⟨q.val, f.val * 4 + k.val⟩) = false →
      exec (.fnqWrite q f k v) s = .next (s.withDev (let d := s.toDev; (d.wrFields .HST_FNQ ⟨q.val, f.val * 4 + k.val⟩ v).put HST_FNQ_STATUS ⟨q.val, f.val * 4 + k.val⟩ ST_OK).settleAll)) ∧
  (∀ (s : State) (q : Fin 4),
      s.pwr.off = 0 →
      s.sys.formS = false →
      5 ≤ s.toDev.boot.step →
      s.toDev.boot.step ≠ 8 →
      exec (.configurationRequest q) s = .next (s.withDev (let d := s.toDev; d.emit (.cfgAnswer q.val (!d.kln.booting.contains q.val))).settleAll)) ∧
  (∀ (s : State) (q : Fin 4),
      s.pwr.off = 0 →
      s.sys.formS = false →
      exec (.hostPortInternalError q) s = .next (s.withDev (let d := s.toDev; d.raise srcHOST 2 (locHost q.val) 0).settleAll))

/-- Completion (10_remote_memory.md): connections, regions, requests, responses and their timers. Each clause gives, for one command, the state and the operands on which
it completes and the whole state it leaves; `settleAll` is the work that the change sets in motion. -/
def Obligations.CompletionRemote : Prop :=
  (∀ (s : State) (q : Fin 4) (f : Fin 256) (v : Word) (e : Dev) (n : Nat),
      s.pwr.off = 0 →
      s.sys.formS = false →
      s.toDev.bit RMX_CMD_BUSY ⟨q.val, f.val⟩ = false →
      (s.toDev.put RMX_CMD_INDEX ⟨q.val, f.val⟩ (RMX_CMD_INDEX.of v)).wiping q.val f.val = false →
      (s.toDev.put RMX_CMD_INDEX ⟨q.val, f.val⟩ (RMX_CMD_INDEX.of v)).inRange q.val f.val 0 (RMX_CMD_INDEX.of v) = true →
      e = s.toDev.put RMX_CMD_INDEX ⟨q.val, f.val⟩ (RMX_CMD_INDEX.of v) →
      n = RMX_CMD_INDEX.of v →
      e.conn (q.val * 262144 + n) = none →
      bits (rmxWord e q.val f.val 0) 48 2 = 0 →
      Tab.get e.hst.lastInc 0 (q.val * 262144 + n) < bits (rmxWord e q.val f.val 1) 0 32 →
      0 < bits (rmxWord e q.val f.val 1) 48 13 →
      bits (rmxWord e q.val f.val 1) 48 13 ≤ 4096 →
      bits (rmxWord e q.val f.val 0) 52 12 = 0 →
      bits (rmxWord e q.val f.val 3) 28 4 = 0 →
      bits (rmxWord e q.val f.val 0) 45 1 = 0 →
      exec (.openConn q f v) s = .next (s.withDev (let c := q.val * 262144 + n; let w := rmxWord e q.val f.val; let p := bits (w 0) 46 2; let x : Conn := { func := f.val, state := connOPEN, peer := bits (w 0) 0 25, peerConn := bits (w 0) 25 20, enc := false, profile := p, rxwin := bits (w 0) 48 2, peerRxwin := bits (w 0) 50 2, inc := bits (w 1) 0 32, keyslot := bits (w 1) 32 16, mwin := bits (w 1) 48 13, nextPsn := 0, dm := 2 ^ 32 - 1, rate := e.rstart q.val p, lasterr := 0, cut := 0, round := 0, credit := (e.profBurst q.val p * 8000 : Nat), stamp := e.now, sendQ := [], reqs := [], done := [], special := [], ackN := 0, ackPsn := 0, ackTry := 0, ackEcho := false, sendMsn := 0, starts := 0, nextMsn := 0, heads := [], serving := [] }; (({ e.setConn c x with hst := { (e.setConn c x).hst with lastInc := Tab.set e.hst.lastInc 0 c (bits (w 1) 0 32) } } : Dev).arrivalDie q.val).put RMX_CMD_STATUS ⟨q.val, f.val⟩ ST_OK).settleAll)) ∧
  (∀ (s : State) (q : Fin 4) (f : Fin 256) (v : Word) (e : Dev) (n : Nat) (x : Conn),
      s.pwr.off = 0 →
      s.sys.formS = false →
      s.toDev.bit RMX_CMD_BUSY ⟨q.val, f.val⟩ = false →
      (s.toDev.put RMX_CMD_INDEX ⟨q.val, f.val⟩ (RMX_CMD_INDEX.of v)).wiping q.val f.val = false →
      (s.toDev.put RMX_CMD_INDEX ⟨q.val, f.val⟩ (RMX_CMD_INDEX.of v)).inRange q.val f.val 0 (RMX_CMD_INDEX.of v) = true →
      e = s.toDev.put RMX_CMD_INDEX ⟨q.val, f.val⟩ (RMX_CMD_INDEX.of v) →
      n = RMX_CMD_INDEX.of v →
      e.conn (q.val * 262144 + n) = some x →
      x.func = f.val →
      x.state = connOPEN →
      exec (.closeConn q f v) s = .next (s.withDev ((((e.setConn (q.val * 262144 + n) { x with state := connCLOSING }).failOps (q.val * 262144 + n) 0 ST_CONN_ERROR).dropMsgs (q.val * 262144 + n)).put RMX_CMD_STATUS ⟨q.val, f.val⟩ ST_OK).settleAll)) ∧
  (∀ (s : State) (c : Nat) (x : Conn),
      s.pwr.off = 0 →
      s.sys.formS = false →
      s.toDev.conn c = some x →
      x.state = connCLOSING →
      s.toDev.connBusy c x = false →
      exec (.connectionFree c) s = .next (s.withDev (let d := s.toDev; { d with hst := { d.hst with conns := Tab.del d.hst.conns c } }).settleAll)) ∧
  (∀ (s : State) (q : Fin 4) (f : Fin 256) (v : Word) (e : Dev) (n : Nat) (x : Conn),
      s.pwr.off = 0 →
      s.sys.formS = false →
      s.toDev.bit RMX_CMD_BUSY ⟨q.val, f.val⟩ = false →
      (s.toDev.put RMX_CMD_INDEX ⟨q.val, f.val⟩ (RMX_CMD_INDEX.of v)).wiping q.val f.val = false →
      (s.toDev.put RMX_CMD_INDEX ⟨q.val, f.val⟩ (RMX_CMD_INDEX.of v)).inRange q.val f.val 0 (RMX_CMD_INDEX.of v) = true →
      e = s.toDev.put RMX_CMD_INDEX ⟨q.val, f.val⟩ (RMX_CMD_INDEX.of v) →
      n = RMX_CMD_INDEX.of v →
      e.conn (q.val * 262144 + n) = some x →
      exec (.queryConn q f v) s = .next (s.withDev ((e.rmxImage q.val f.val x.image).put RMX_CMD_STATUS ⟨q.val, f.val⟩ ST_OK).settleAll)) ∧
  (∀ (s : State) (q : Fin 4) (f : Fin 256) (v : Word) (e : Dev) (n : Nat),
      s.pwr.off = 0 →
      s.sys.formS = false →
      s.toDev.bit RMX_CMD_BUSY ⟨q.val, f.val⟩ = false →
      (s.toDev.put RMX_CMD_INDEX ⟨q.val, f.val⟩ (RMX_CMD_INDEX.of v)).wiping q.val f.val = false →
      (s.toDev.put RMX_CMD_INDEX ⟨q.val, f.val⟩ (RMX_CMD_INDEX.of v)).inRange q.val f.val 1 (RMX_CMD_INDEX.of v) = true →
      e = s.toDev.put RMX_CMD_INDEX ⟨q.val, f.val⟩ (RMX_CMD_INDEX.of v) →
      n = RMX_CMD_INDEX.of v →
      e.isRndv q.val f.val n = false →
      (e.region q.val n).state = regFREE →
      bits (rmxWord e q.val f.val 1) 0 48 ≠ 0 →
      bits (rmxWord e q.val f.val 2) 59 1 = 0 →
      bits (rmxWord e q.val f.val 2) 18 17 ≤ 65536 →
      e.spaceOk q.val f.val (bits (rmxWord e q.val f.val 1) 48 16) = true →
      e.get RMX_FNRES_BASE ⟨q.val, f.val * 3 + 2⟩ ≤ bits (rmxWord e q.val f.val 2) 0 18 →
      bits (rmxWord e q.val f.val 2) 0 18 + bits (rmxWord e q.val f.val 2) 18 17 ≤ e.get RMX_FNRES_BASE ⟨q.val, f.val * 3 + 2⟩ + e.get RMX_FNRES_COUNT ⟨q.val, f.val * 3 + 2⟩ →
      exec (.registerRegion q f v) s = .next (s.withDev (let d := s.toDev; let w := rmxWord e q.val f.val; let gen := ((e.region q.val n).gen + 1) % 16384; let d := e.setRegion q.val n ⟨w 0, bits (w 1) 0 48, bits (w 1) 48 16, bits (w 2) 0 18, bits (w 2) 18 17, f.val, gen, regVALID, false, bits (w 2) 60 3, bits (w 3) 0 32, 0, none⟩; ((d.arrivalDie q.val).wr .RMX_CMDBUF ⟨q.val, f.val * 4⟩ (BitVec.ofNat 64 ((w 0) / 2 ^ 32 * 2 ^ 32 + rkeyOf n gen))).put RMX_CMD_STATUS ⟨q.val, f.val⟩ ST_OK).settleAll)) ∧
  (∀ (s : State) (q : Fin 4) (f : Fin 256) (v : Word) (e : Dev) (n : Nat),
      s.pwr.off = 0 →
      s.sys.formS = false →
      s.toDev.bit RMX_CMD_BUSY ⟨q.val, f.val⟩ = false →
      (s.toDev.put RMX_CMD_INDEX ⟨q.val, f.val⟩ (RMX_CMD_INDEX.of v)).wiping q.val f.val = false →
      (s.toDev.put RMX_CMD_INDEX ⟨q.val, f.val⟩ (RMX_CMD_INDEX.of v)).inRange q.val f.val 1 (RMX_CMD_INDEX.of v) = true →
      e = s.toDev.put RMX_CMD_INDEX ⟨q.val, f.val⟩ (RMX_CMD_INDEX.of v) →
      n = RMX_CMD_INDEX.of v →
      e.isRndv q.val f.val n = false →
      (e.region q.val n).state = regVALID →
      exec (.revokeRegion q f v) s = .next (s.withDev ((e.setRegion q.val n { e.region q.val n with state := regREVOKING, eqn := some (bits (rmxWord e q.val f.val 0) 0 10) }).put RMX_CMD_STATUS ⟨q.val, f.val⟩ ST_OK).settleAll)) ∧
  (∀ (s : State) (q : Fin 4) (n : Fin 262144) (e : Nat),
      s.pwr.off = 0 →
      s.sys.formS = false →
      (s.toDev.region q.val n.val).state = regREVOKING →
      (s.toDev.region q.val n.val).inflight = 0 →
      (s.toDev.region q.val n.val).eqn.bind (fun e => s.toDev.globalOf q.val (s.toDev.region q.val n.val).owner kEQ e) = some e →
      exec (.revokeDone q n) s = .next (s.withDev (let d := s.toDev; (d.setRegion q.val n.val { d.region q.val n.val with state := regFREE, eqn := none }).raiseEvent q.val e ⟨6 * 2 ^ 32, 6, eventEntry (rkeyOf n.val (d.region q.val n.val).gen) 0 0 0 6 0⟩).settleAll)) ∧
  (∀ (s : State) (q : Fin 4) (f : Fin 256) (v : Word) (e : Dev) (n : Nat),
      s.pwr.off = 0 →
      s.sys.formS = false →
      s.toDev.bit RMX_CMD_BUSY ⟨q.val, f.val⟩ = false →
      (s.toDev.put RMX_CMD_INDEX ⟨q.val, f.val⟩ (RMX_CMD_INDEX.of v)).wiping q.val f.val = false →
      (s.toDev.put RMX_CMD_INDEX ⟨q.val, f.val⟩ (RMX_CMD_INDEX.of v)).inRange q.val f.val 1 (RMX_CMD_INDEX.of v) = true →
      e = s.toDev.put RMX_CMD_INDEX ⟨q.val, f.val⟩ (RMX_CMD_INDEX.of v) →
      n = RMX_CMD_INDEX.of v →
      e.isRndv q.val f.val n = false →
      exec (.queryReg q f v) s = .next (s.withDev ((e.rmxImage q.val f.val (e.region q.val n).image).put RMX_CMD_STATUS ⟨q.val, f.val⟩ ST_OK).settleAll)) ∧
  (∀ (s : State) (q : Fin 4) (k : Machine.Packet) (e : Dev) (x : Conn) (t : Dev) (parts : List (Nat × Nat)) (ents : List (Nat × Nat × Nat)),
      s.pwr.off = 0 →
      s.sys.formS = false →
      s.toDev.meshHold q.val = false →
      e = s.toDev.takeDlv q.val 512 k →
      e.accepts q.val k x →
      k.type = tPUT →
      e.regionOk q.val k (kRoff k) (kData k).length 1 = true →
      e.translateRange q.val (e.regionAccess q.val k (kRoff k) (kData k).length 1) ((kData k).length / 4096 + 2) = (t, ⟨parts, ents, none⟩) →
      exec (.rmxPut q k) s = .next (s.withDev ((t.hostPut q.val (e.region q.val (kRkey k % 262144)).owner parts (kData k)).acceptDone k.dconn k).settleAll)) ∧
  (∀ (s : State) (q : Fin 4) (k : Machine.Packet) (e : Dev) (x : Conn) (t : Dev) (parts : List (Nat × Nat)) (ents : List (Nat × Nat × Nat)),
      s.pwr.off = 0 →
      s.sys.formS = false →
      s.toDev.meshHold q.val = false →
      e = s.toDev.takeDlv q.val 512 k →
      e.accepts q.val k x →
      k.type = tGET_REQ →
      e.regionOk q.val k (kRoff k) (kGetLen k) 0 = true →
      (e.region q.val (kRkey k % 262144)).counter = false →
      x.serving.contains k.psn = false →
      e.translateRange q.val (e.regionAccess q.val k (kRoff k) (kGetLen k) 0) 3 = (t, ⟨parts, ents, none⟩) →
      exec (.getReq q k) s = .next (s.withDev (((t.regionIn q.val (kRkey k % 262144)).modConn k.dconn (fun x => { x with serving := k.psn :: x.serving })).hostGet q.val (e.region q.val (kRkey k % 262144)).owner parts ents (.serve k.dconn k (kRkey k % 262144))).settleAll)) ∧
  (∀ (s : State) (q : Fin 4) (k : Machine.Packet) (e : Dev) (x : Conn),
      s.pwr.off = 0 →
      s.sys.formS = false →
      s.toDev.meshHold q.val = false →
      e = s.toDev.takeDlv q.val 512 k →
      e.accepts q.val k x →
      k.type = tATOMIC →
      e.regionOk q.val k (8 * kWoff k) 8 2 = true →
      kAop k ≠ 3 →
      (e.region q.val (kRkey k % 262144)).counter = true →
      x.slotFree (kSlot k) = true →
      exec (.atomic q k) s = .next (s.withDev (let a := ofBytes ((k.oper.drop 8).take 8); let b := ofBytes ((k.oper.drop 16).take 8); let w := (e.region q.val (kRkey k % 262144)).ctrbase + kWoff k; (e.ctrAtomic q.val w (kAop k) a b).sendAtomicRsp k.dconn k (e.ctr q.val w)).settleAll)) ∧
  (∀ (s : State) (q : Fin 4) (k : Machine.Packet) (e : Dev) (x : Conn) (t : Dev) (parts : List (Nat × Nat)) (ents : List (Nat × Nat × Nat)),
      s.pwr.off = 0 →
      s.sys.formS = false →
      s.toDev.meshHold q.val = false →
      e = s.toDev.takeDlv q.val 512 k →
      e.accepts q.val k x →
      k.type = tPUT_CTR →
      e.regionOk q.val k (kRoff k) (kData k).length 1 = true →
      x.slotFree (kSlot k) = true →
      e.translateRange q.val (e.regionAccess q.val k (kRoff k) (kData k).length 1) ((kData k).length / 4096 + 2) = (t, ⟨parts, ents, none⟩) →
      exec (.putCtr q k) s = .next (s.withDev (let d := s.toDev; let d := t.hostPut q.val (e.region q.val (kRkey k % 262144)).owner parts (kData k); let r := d.region q.val (kRkey k % 262144); let s : Special := ⟨k.psn, true, kIncr k, r.ctrbase + kCtr k, true, k.opflags % 8, k.cmark⟩; let d := d.wr .RMX_CTRPLACED (onDie q.val) (BitVec.ofNat 64 ((d.get RMX_CTRPLACED_TOTAL (onDie q.val) + 1) % 2 ^ 48)); (d.modConn k.dconn (fun x => { x with special := Tab.put x.special (kSlot k) s })).psnDone k.dconn k.psn k.tc).settleAll)) ∧
  (∀ (s : State) (tag : Nat) (ok : Bool) (data : List Byte) (q l c n : Nat) (k : Machine.Packet) (es : List (Nat × Nat × Nat)) (e : Dev) (x : Conn),
      s.pwr.off = 0 →
      s.sys.formS = false →
      Tab.find s.toDev.hst.reads tag = some ⟨q, l, .serve c k n, es⟩ →
      k.type = tGET_REQ →
      ok = true →
      e = (s.toDev.takeRead tag).served q c k.psn n →
      e.conn c = some x →
      x.state = connOPEN →
      exec (.hostReadComplete tag ok data) s = .next (s.withDev (e.sendGetRsp c k (x.isDone k.psn) (data.take (kGetLen k))).settleAll)) ∧
  (∀ (s : State) (tag : Nat) (ok : Bool) (data : List Byte) (q l c n : Nat) (k : Machine.Packet) (es : List (Nat × Nat × Nat)) (e : Dev) (x : Conn),
      s.pwr.off = 0 →
      s.sys.formS = false →
      Tab.find s.toDev.hst.reads tag = some ⟨q, l, .serve c k n, es⟩ →
      k.type = tATOMIC →
      ok = true →
      e = (s.toDev.takeRead tag).served q c k.psn n →
      e.conn c = some x →
      x.state = connOPEN →
      exec (.hostAtomicComplete tag ok data) s = .next (s.withDev (e.sendAtomicRsp c k (ofBytes (data.take 8))).settleAll)) ∧
  (∀ (s : State) (c : Nat) (tc : Nat) (x : Conn),
      s.pwr.off = 0 →
      s.sys.formS = false →
      s.toDev.conn c = some x →
      x.ackN ≠ 0 →
      exec (.ackDelayExpiry c tc) s = .next (s.withDev (let d := s.toDev; (d.setConn c x.ackSent).sendAck c x.ackPsn x.ackTry tc x.ackEcho false).settleAll)) ∧
  (∀ (s : State) (q : Fin 4) (k : Machine.Packet) (e : Dev) (x : Conn) (r : Req),
      s.pwr.off = 0 →
      s.sys.formS = false →
      e = s.toDev.takeDlv q.val 512 k →
      e.answers q.val k x r →
      r.pkt.type ≠ tATOMIC →
      exec (.rmxAck q k) s = .next (s.withDev (((e.rateUpdate k.dconn r k.echo).resolveReq k.dconn r.psn).resolveDm k.dconn (ofBytes (k.oper.take 4))).settleAll)) ∧
  (∀ (s : State) (q : Fin 4) (k : Machine.Packet) (e : Dev) (x : Conn) (r : Req),
      s.pwr.off = 0 →
      s.sys.formS = false →
      e = s.toDev.takeDlv q.val 512 k →
      e.answers q.val k x r →
      ofBytes ((k.oper.drop 4).take 1) = ST_NOT_READY →
      k.opflags % 8 ≠ 7 →
      r.tryN < 7 →
      exec (.rmxNack q k) s = .next (s.withDev ((((((e.inc .RMX_NACKRX (onDie q.val)).event q.val blkRMX 0 0x03 0 1).rateUpdate k.dconn r k.echo).resolveDm k.dconn (ofBytes (k.oper.take 4)))).modConn k.dconn (·.modReq r.psn (fun r => { r with hint := true }))).settleAll)) ∧
  (∀ (s : State) (q : Fin 4) (k : Machine.Packet) (e : Dev) (x : Conn) (r : Req),
      s.pwr.off = 0 →
      s.sys.formS = false →
      s.toDev.meshHold q.val = false →
      e = s.toDev.takeDlv q.val 512 k →
      e.answers q.val k x r →
      k.control = true →
      exec (.getRsp q k) s = .next (s.withDev (((e.rateUpdate k.dconn r (k.echo || k.cmark)).hostPut q.val (match (e.rateUpdate k.dconn r (k.echo || k.cmark)).conn k.dconn with | some x => x.func | none => 0) r.dst (k.oper.take r.len)).resolveReq k.dconn r.psn).settleAll)) ∧
  (∀ (s : State) (q : Fin 4) (k : Machine.Packet) (e : Dev) (x : Conn) (r : Req),
      s.pwr.off = 0 →
      s.sys.formS = false →
      e = s.toDev.takeDlv q.val 512 k →
      e.answers q.val k x r →
      exec (.atomicRsp q k) s = .next (s.withDev (((e.rateUpdate k.dconn r k.echo).modOp r.op (fun o => { o with data := ofBytes (k.oper.take 8) })).resolveReq k.dconn r.psn).settleAll)) ∧
  (∀ (s : State) (c : Nat) (psn : Nat) (x : Conn) (r : Req),
      s.pwr.off = 0 →
      s.sys.formS = false →
      s.toDev.conn c = some x →
      x.req psn = some r →
      r.hint = false →
      r.rereading = false →
      r.timed < s.toDev.retryMax (connDie c) x.profile →
      r.tryN < 7 →
      exec (.requestTimeout c psn) s = .next (s.withDev (let d := s.toDev; (((d.setConn c (x.modReq psn (fun r => { r with timed := r.timed + 1 }))).inc .RMX_RETRY (onDie (connDie c))).rateUpdate c r true).retransmit c psn).settleAll)) ∧
  (∀ (s : State) (c : Nat) (psn : Nat) (r : Req),
      s.pwr.off = 0 →
      s.sys.formS = false →
      (s.toDev.conn c).bind (fun x => x.req psn) = some r →
      r.hint = true →
      r.rereading = false →
      exec (.hintRetry c psn) s = .next (s.withDev (let d := s.toDev; d.retransmit c psn).settleAll)) ∧
  (∀ (s : State) (c : Nat) (x y : Conn) (r : Req) (e : Dev),
      s.pwr.off = 0 →
      s.sys.formS = false →
      s.toDev.conn c = some x →
      x.state = connOPEN →
      s.toDev.nextReq c x = some r →
      x.nextPsn < 2 ^ 32 →
      r.pkt.type = tPUT →
      e = ((s.toDev.setConn c { x with nextPsn := x.nextPsn + 1, sendQ := dropFirst r x.sendQ, reqs := x.reqs ++ [{ r with psn := x.nextPsn, pkt := { r.pkt with psn := x.nextPsn }, slot := 4 }] }).chargeConn c r.cost).event (connDie c) blkRMX 0 0x01 0 1 →
      e.conn c = some y →
      exec (.pacingEligible c) s = .next (s.withDev ((e.connSend c y { r.pkt with psn := x.nextPsn } false).prep r.op).settleAll)) ∧
  (∀ (s : State) (tag : Nat) (ok : Bool) (data : List Byte) (rd : Rd) (c : Nat) (r : Req),
      s.pwr.off = 0 →
      s.sys.formS = false →
      Tab.find s.toDev.hst.reads tag = some rd →
      rd.use = .piece c r →
      ok = true →
      exec (.initiatorReadComplete tag ok data) s = .next (s.withDev (let d := s.toDev; (d.takeRead tag).sourceRead (.piece c r) true (data.take rd.len)).settleAll)) ∧
  (∀ (s : State) (q : Fin 4) (f : Fin 256) (kind : Fin 3) (v : Word),
      s.pwr.off = 0 →
      s.sys.formS = false →
      (List.range 256).any (fun g => g ≠ f.val && rangesMeet (RMX_FNRES_BASE.of v) (RMX_FNRES_COUNT.of v) (s.toDev.get RMX_FNRES_BASE ⟨q.val, g * 3 + kind.val⟩) (s.toDev.get RMX_FNRES_COUNT ⟨q.val, g * 3 + kind.val⟩)) = false →
      RMX_FNRES_BASE.of v + RMX_FNRES_COUNT.of v ≤ 262144 →
      s.toDev.resIn q.val kind.val (RMX_FNRES_BASE.of v) (RMX_FNRES_COUNT.of v) = false →
      s.toDev.resIn q.val kind.val (s.toDev.get RMX_FNRES_BASE ⟨q.val, f.val * 3 + kind.val⟩) (s.toDev.get RMX_FNRES_COUNT ⟨q.val, f.val * 3 + kind.val⟩) = false →
      exec (.rmxFnresWrite q f kind v) s = .next (s.withDev (let d := s.toDev; (d.wrFields .RMX_FNRES ⟨q.val, f.val * 3 + kind.val⟩ v).put RMX_FNRES_STATUS ⟨q.val, f.val * 3 + kind.val⟩ ST_OK).settleAll))

/-- Completion (11_matching.md): messages, rendezvous and the unexpected pool. Each clause gives, for one command, the state and the operands on which
it completes and the whole state it leaves; `settleAll` is the work that the change sets in motion. -/
def Obligations.CompletionMatch : Prop :=
  (∀ (s : State) (q : Fin 4) (k : Machine.Packet) (e : Dev) (x : Conn),
      s.pwr.off = 0 →
      s.sys.formS = false →
      s.toDev.meshHold q.val = false →
      e = s.toDev.takeDlv q.val 512 k →
      e.accepts q.val k x →
      k.type = tSEND →
      k.control = true →
      kFin k = false →
      e.bit MTC_CTRL_EN (onDie q.val) = true →
      (e.msgAt k.dconn (kMsn k)).filter (fun m => m.2.bound ≠ 0) = none →
      kMsn k = x.nextMsn % 65536 →
      exec (.mtcSend q k) s = .next (s.withDev ((e.headInTurn q.val x k k false).runHeld q.val k.dconn 65).settleAll)) ∧
  (∀ (s : State) (q : Fin 4) (k : Machine.Packet) (e : Dev) (x : Conn) (i : Nat) (m : Msg),
      s.pwr.off = 0 →
      s.sys.formS = false →
      s.toDev.meshHold q.val = false →
      e = s.toDev.takeDlv q.val 512 k →
      e.accepts q.val k x →
      k.type = tSEND →
      k.control = false →
      kFin k = false →
      (e.msgAt k.dconn (kMsn k)).filter (fun m => m.2.bound ≠ 0 || m.2.kind = 1) = some (i, m) →
      exec (.sendData q k) s = .next (s.withDev ((e.placePiece q.val i m k k (kOff k) k.payload).runHeld q.val k.dconn 65).settleAll)) ∧
  (∀ (s : State) (q : Fin 4) (k : Machine.Packet) (e : Dev) (x : Conn),
      s.pwr.off = 0 →
      s.sys.formS = false →
      s.toDev.meshHold q.val = false →
      e = s.toDev.takeDlv q.val 512 k →
      e.accepts q.val k x →
      k.type = tRNDV_RTS →
      k.control = true →
      kFin k = false →
      e.bit MTC_CTRL_EN (onDie q.val) = true →
      (e.msgAt k.dconn (kMsn k)).filter (fun m => m.2.bound ≠ 0) = none →
      kMsn k = x.nextMsn % 65536 →
      exec (.rndvRts q k) s = .next (s.withDev ((e.headInTurn q.val x k k false).runHeld q.val k.dconn 65).settleAll)) ∧
  (∀ (s : State) (q : Fin 4) (k : Machine.Packet) (e : Dev) (x : Conn),
      s.pwr.off = 0 →
      s.sys.formS = false →
      s.toDev.meshHold q.val = false →
      e = s.toDev.takeDlv q.val 512 k →
      e.accepts q.val k x →
      k.type = tRNDV_RTS →
      k.control = true →
      kFin k = true →
      e.hst.ops.find? (fun z => z.2.die = q.val && z.2.conn = k.dconn && z.2.rndv = kRndvKey k % 262144 + 1) = none →
      exec (.rndvFin q k) s = .next (s.withDev (((e.answerHead k).inc .MTC_STALEFIN (onDie q.val)).runHeld q.val k.dconn 65).settleAll)) ∧
  (∀ (s : State) (q : Fin 4) (k : Machine.Packet) (e : Dev) (x : Conn) (o : Nat × Op),
      s.pwr.off = 0 →
      s.sys.formS = false →
      s.toDev.meshHold q.val = false →
      e = s.toDev.takeDlv q.val 512 k →
      e.accepts q.val k x →
      k.type = tRNDV_RTS →
      k.control = true →
      kFin k = true →
      e.hst.ops.find? (fun z => z.2.die = q.val && z.2.conn = k.dconn && z.2.rndv = kRndvKey k % 262144 + 1) = some o →
      (e.region q.val (kRndvKey k % 262144)).gen = kRndvKey k / 262144 →
      exec (.rndvFin q k) s = .next (s.withDev ((((e.answerHead k).revokeRndv q.val (kRndvKey k % 262144)).revokeEnds q.val (kRndvKey k % 262144)).runHeld q.val k.dconn 65).settleAll)) ∧
  (∀ (s : State) (tag : Nat) (ok : Bool) (data : List Byte) (q n o i : Nat) (es : List (Nat × Nat × Nat)),
      s.pwr.off = 0 →
      s.sys.formS = false →
      Tab.find s.toDev.hst.reads tag = some ⟨q, n, .copy o i, es⟩ →
      exec (.uxCopyComplete tag ok data) s = .next (s.withDev (let d := s.toDev; (d.takeRead tag).copyDone i ok (data.take n)).settleAll)) ∧
  (∀ (s : State) (q : Fin 4) (f : Fin 256) (i : Nat) (o : Op) (n : Nat),
      s.pwr.off = 0 →
      s.sys.formS = false →
      s.toDev.hst.ops.find? (fun e => e.2.die = q.val && e.2.func = f.val && s.toDev.sendWaits e.2) = some (i, o) →
      s.toDev.byRendezvous o = true →
      s.toDev.freeRndv o.die o.func = some n →
      exec (.rndvRegionFree q f) s = .next (s.withDev (let d := s.toDev; let old := d.region o.die n; ((d.setRegion o.die n { Region.empty with base := dLaddr o.desc, len := dLen o.desc, xspace := o.xspace, owner := o.func, gen := (old.gen + 1) % 16384, state := regVALID, rights := 1, keyrights := o.keys }).takeMsn i { o with rndv := n + 1 }).prep i).settleAll)) ∧
  (∀ (s : State) (q : Fin 4) (f : Fin 256) (e : Nat × Msg),
      s.pwr.off = 0 →
      s.sys.formS = false →
      s.toDev.wiping q.val f.val = false →
      (s.toDev.msgsOf q.val).filter (fun e => e.2.func = f.val && e.2.bound = 0 && e.2.kind ≠ 2) = [e] →
      e.2.kind = 0 →
      exec (.mtcPurge q f) s = .next (s.withDev (let d := s.toDev; ((d.delMsg e.1).inc .MTC_PURGED (onDie q.val)).put MTC_CMD_STATUS ⟨q.val, f.val⟩ ST_OK).settleAll)) ∧
  (∀ (s : State) (q : Fin 4) (f : Fin 256) (v : Word),
      s.pwr.off = 0 →
      s.sys.formS = false →
      (List.range 256).any (fun g => g ≠ f.val && rangesMeet (MTC_FNRNDV_BASE.of v) (MTC_FNRNDV_COUNT.of v) (s.toDev.get MTC_FNRNDV_BASE ⟨q.val, g⟩) (s.toDev.get MTC_FNRNDV_COUNT ⟨q.val, g⟩)) = false →
      MTC_FNRNDV_COUNT.of v ≤ 4096 →
      MTC_FNRNDV_COUNT.of v = 0 ∨ (s.toDev.get RMX_FNRES_BASE ⟨q.val, f.val * 3 + 1⟩ ≤ MTC_FNRNDV_BASE.of v ∧ MTC_FNRNDV_BASE.of v + MTC_FNRNDV_COUNT.of v ≤ s.toDev.get RMX_FNRES_BASE ⟨q.val, f.val * 3 + 1⟩ + s.toDev.get RMX_FNRES_COUNT ⟨q.val, f.val * 3 + 1⟩) →
      s.toDev.resIn q.val 1 (MTC_FNRNDV_BASE.of v) (MTC_FNRNDV_COUNT.of v) = false →
      s.toDev.resIn q.val 1 (s.toDev.get MTC_FNRNDV_BASE ⟨q.val, f.val⟩) (s.toDev.get MTC_FNRNDV_COUNT ⟨q.val, f.val⟩) = false →
      exec (.mtcFnrndvWrite q f v) s = .next (s.withDev (let d := s.toDev; (d.wrFields .MTC_FNRNDV ⟨q.val, f.val⟩ v).put MTC_FNRNDV_STATUS ⟨q.val, f.val⟩ ST_OK).settleAll))

/-- Completion (12_translation.md): traps, loads, maps, invalidations and page requests. Each clause gives, for one command, the state and the operands on which
it completes and the whole state it leaves; `settleAll` is the work that the change sets in motion. -/
def Obligations.CompletionTranslation : Prop :=
  (∀ (s : State) (q : Fin 4) (slot : Fin 256) (t : Trap) (e : XEnt),
      s.pwr.off = 0 →
      s.sys.formS = false →
      s.toDev.meshHold q.val = false →
      s.toDev.trap q.val slot.val = some t →
      t.cause = 0 →
      t.hintWait = false →
      Tab.find s.toDev.xlt.walks (q.val * 256 + slot.val) = none →
      s.toDev.pageFailed q.val t.acc.space t.acc.addr = false →
      (s.toDev.backing q.val).find? (fun e => e.covers t.acc.space t.acc.addr) = some e →
      exec (.handlerMiss q slot) s = .next (s.withDev (let d := s.toDev; (d.loadEnt q.val { e with lock := false }).slotRetry q.val slot.val).settleAll)) ∧
  (∀ (s : State) (q : Fin 4) (slot : Fin 256) (found : Word) (t : Trap) (e : XEnt),
      s.pwr.off = 0 →
      s.sys.formS = false →
      s.toDev.meshHold q.val = false →
      s.toDev.trap q.val slot.val = some t →
      t.cause ≠ 0 →
      t.hintWait = false →
      s.toDev.pageFailed q.val t.acc.space t.acc.addr = false →
      (s.toDev.l2 q.val).find? (fun e => e.covers t.acc.space t.acc.addr) = some e →
      e.walked = false →
      exec (.handlerMark q slot found) s = .next (s.withDev (let d := s.toDev; ((d.loadEnt q.val { e.marked t.cause with leaf := e.leaf }).setBacking q.val (((d.loadEnt q.val { e.marked t.cause with leaf := e.leaf }).backing q.val).map (fun b => if !e.walked && b.space = e.space && b.va = e.va then b.marked t.cause else b))).slotRetry q.val slot.val).settleAll)) ∧
  (∀ (s : State) (tag : Nat) (ok : Bool) (x : Word) (q l slot level a : Nat) (es : List (Nat × Nat × Nat)) (e : Dev) (t : Trap),
      s.pwr.off = 0 →
      s.sys.formS = false →
      Tab.find s.toDev.hst.reads tag = some ⟨q, l, .walk slot, es⟩ →
      e = s.toDev.takeRead tag →
      Tab.find e.xlt.walks (q * 256 + slot) = some (level, a) →
      e.trap q slot = some t →
      ok = true →
      bits x.toNat 0 1 = 0 →
      exec (.walkReadComplete tag ok x) s = .next (s.withDev (({ e with xlt := { e.xlt with walks := Tab.del e.xlt.walks (q * 256 + slot) } } : Dev).pageRequest q t).settleAll)) ∧
  (∀ (s : State) (q : Fin 4) (id : Fin 65536) (slot : Nat) (t : Trap) (e : Dev) (a : Nat) (b : XEnt),
      s.pwr.off = 0 →
      s.sys.formS = false →
      s.toDev.trapOf q.val id.val = some (slot, t) →
      t.hintWait = false →
      s.toDev.trap q.val slot = some t →
      s.toDev.translate q.val t.acc = (e, .ok a b) →
      exec (.trapRetry q id) s = .next (s.withDev ((e.freeTrap q.val slot).contRun q.val t.cont).settleAll)) ∧
  (∀ (s : State) (q : Fin 4) (id : Fin 65536) (hint : Fin 65536) (slot k n : Nat) (t : Trap),
      s.pwr.off = 0 →
      s.sys.formS = false →
      s.toDev.trapOf q.val id.val = some (slot, t) →
      t.hintWait = false →
      s.toDev.trap q.val slot = some t →
      t.cont = .queue k n →
      exec (.trapNotPresent q id hint) s = .next (s.withDev (let d := s.toDev; { d with xlt := { d.xlt with traps := Tab.put d.xlt.traps (q.val * 256 + slot) { t with hintWait := true } } }.setPend q.val slot false).settleAll)) ∧
  (∀ (s : State) (q : Fin 4) (id : Fin 65536) (slot : Nat) (t : Trap),
      s.pwr.off = 0 →
      s.sys.formS = false →
      s.toDev.trapOf q.val id.val = some (slot, t) →
      t.hintWait = false →
      s.toDev.trap q.val slot = some t →
      exec (.trapWalkError q id) s = .next (s.withDev (let d := s.toDev; (d.freeTrap q.val slot).contFail q.val ST_WALK_ERROR t.cont).settleAll)) ∧
  (∀ (s : State) (q : Fin 4) (id : Fin 65536) (slot : Nat) (t : Trap),
      s.pwr.off = 0 →
      s.sys.formS = false →
      s.toDev.trapOf q.val id.val = some (slot, t) →
      t.hintWait = false →
      s.toDev.trap q.val slot = some t →
      exec (.trapNotPermitted q id) s = .next (s.withDev (let d := s.toDev; (d.freeTrap q.val slot).contFail q.val ST_NOT_PERMITTED t.cont).settleAll)) ∧
  (∀ (s : State) (q : Fin 4) (slot : Fin 256) (t : Trap) (k : Machine.Packet) (n : Nat),
      s.pwr.off = 0 →
      s.sys.formS = false →
      s.toDev.trap q.val slot.val = some t →
      t.acc.side = 1 →
      t.cont = .target k n →
      exec (.twaitTimeout q slot) s = .next (s.withDev (let d := s.toDev; ((d.freeTrap q.val slot.val).unpark q.val n).notReady k.dconn k (max 1 (d.hintXlt q.val))).settleAll)) ∧
  (∀ (s : State) (q : Fin 4) (slot : Fin 256) (t : Trap),
      s.pwr.off = 0 →
      s.sys.formS = false →
      s.toDev.trap q.val slot.val = some t →
      t.hintWait = true →
      exec (.trapHintRetry q slot) s = .next (s.withDev (let d := s.toDev; d.slotRetry q.val slot.val).settleAll)) ∧
  (∀ (s : State) (q : Fin 4) (w : Nat → Nat),
      s.pwr.off = 0 →
      s.sys.formS = false →
      w = loadWord s.toDev q.val →
      entOk (w 0) (w 1) (w 2) (w 3) = true →
      (entOf (w 0) (w 1) (w 2) (w 3)).space < 4096 →
      s.toDev.mayLock q.val (entOf (w 0) (w 1) (w 2) (w 3)) = true →
      exec (.xltLoad q) s = .next (s.withDev (let d := s.toDev; (d.loadEnt q.val (entOf (w 0) (w 1) (w 2) (w 3))).put XLT_LOADCMD_STATUS (onDie q.val) ST_OK).settleAll)) ∧
  (∀ (s : State) (q : Fin 4),
      s.pwr.off = 0 →
      s.sys.formS = false →
      exec (.xltRemove q) s = .next (s.withDev (let d := s.toDev; (d.removeEnts q.val (fun e => e.covers (bits (loadWord d q.val 2) 0 16) (bits (loadWord d q.val 0) 12 52 * 4096))).put XLT_LOADCMD_STATUS (onDie q.val) ST_OK).settleAll)) ∧
  (∀ (s : State) (q : Fin 4) (f : Fin 256) (w : Nat → Nat) (e : XEnt),
      s.pwr.off = 0 →
      s.sys.formS = false →
      s.toDev.bit XLT_CMD_BUSY ⟨q.val, f.val⟩ = false →
      s.toDev.wiping q.val f.val = false →
      w = xltWord s.toDev q.val f.val →
      entOk (w 0) (w 1) (w 2) (w 3) = true →
      e = entOf (w 0) (w 1) (w 2) (w 3) →
      s.toDev.ownsSpace q.val f.val e.space = true →
      (s.toDev.backing q.val).any (fun x => x.overlaps e.space e.va (e.va + 2 ^ e.size)) = false →
      (s.toDev.backing q.val).length < 1048576 →
      exec (.xltMap q f) s = .next (s.withDev (let d := s.toDev; ((d.setBacking q.val (d.backing q.val ++ [{ e with lock := false }])).clearFailed q.val e.space e.va (e.va + 2 ^ e.size)).xltEnd q.val f.val ST_OK).settleAll)) ∧
  (∀ (s : State) (q : Fin 4) (f : Fin 256),
      s.pwr.off = 0 →
      s.sys.formS = false →
      s.toDev.bit XLT_CMD_BUSY ⟨q.val, f.val⟩ = false →
      s.toDev.wiping q.val f.val = false →
      s.toDev.ownsSpace q.val f.val (bits (xltWord s.toDev q.val f.val 2) 0 16) = true →
      exec (.xltUnmap q f) s = .next (s.withDev (let d := s.toDev; let s := bits (xltWord d q.val f.val 2) 0 16; let lo := xltWord d q.val f.val 0; let hi := lo + xltWord d q.val f.val 1; let gone := (d.backing q.val).filter (fun e => e.overlaps s lo hi); (d.setBacking q.val ((d.backing q.val).filter (fun e => !e.overlaps s lo hi))).invalStart q.val f.val s (gone.foldl (fun a g => min a g.va) lo) (gone.foldl (fun a g => max a (g.va + 2 ^ g.size)) hi) (fun e => e.overlaps s lo hi || gone.any (fun g => e.overlaps s g.va (g.va + 2 ^ g.size)))).settleAll)) ∧
  (∀ (s : State) (q : Fin 4) (f : Fin 256),
      s.pwr.off = 0 →
      s.sys.formS = false →
      s.toDev.bit XLT_CMD_BUSY ⟨q.val, f.val⟩ = false →
      s.toDev.wiping q.val f.val = false →
      s.toDev.ownsSpace q.val f.val (bits (xltWord s.toDev q.val f.val 2) 0 16) = true →
      xltWord s.toDev q.val f.val 1 ≠ 0 →
      xltWord s.toDev q.val f.val 1 ≤ 2 ^ 57 →
      exec (.xltInval q f) s = .next (s.withDev (let d := s.toDev; let s := bits (xltWord d q.val f.val 2) 0 16; let lo := xltWord d q.val f.val 0; let n := xltWord d q.val f.val 1; d.invalStart q.val f.val s lo (lo + n) (fun e => e.overlaps s lo (lo + n))).settleAll)) ∧
  (∀ (s : State) (q : Fin 4) (f : Fin 256),
      s.pwr.off = 0 →
      s.sys.formS = false →
      s.toDev.bit XLT_CMD_BUSY ⟨q.val, f.val⟩ = false →
      s.toDev.wiping q.val f.val = false →
      s.toDev.ownsSpace q.val f.val (bits (xltWord s.toDev q.val f.val 2) 0 16) = true →
      exec (.xltInvalSpace q f) s = .next (s.withDev (let d := s.toDev; d.invalStart q.val f.val (bits (xltWord d q.val f.val 2) 0 16) 0 (2 ^ 64) (fun e => e.space = bits (xltWord d q.val f.val 2) 0 16)).settleAll)) ∧
  (∀ (s : State) (q : Fin 4) (f : Fin 256) (v : Inval),
      s.pwr.off = 0 →
      s.sys.formS = false →
      Tab.find s.toDev.xlt.invals (q.val * 256 + f.val) = some v →
      s.toDev.usedBy q.val v.space v.lo v.hi = false →
      exec (.xltInvalComplete q f) s = .next (s.withDev (let d := s.toDev; let d := d.removeEnts q.val (fun e => e.overlaps v.space v.lo v.hi); let d := { d with xlt := { d.xlt with invals := Tab.del d.xlt.invals (q.val * 256 + f.val) } }; (d.xltEnd q.val f.val ST_OK).retryRings q.val v.space v.lo v.hi).settleAll)) ∧
  (∀ (s : State) (q : Fin 4) (f : Fin 256) (s2 page : Nat),
      s.pwr.off = 0 →
      s.sys.formS = false →
      s.toDev.bit XLT_CMD_BUSY ⟨q.val, f.val⟩ = false →
      s.toDev.wiping q.val f.val = false →
      bits (xltWord s.toDev q.val f.val 0) 32 1 = 1 →
      (Tab.find s.toDev.xlt.preqs (q.val * 2 ^ 32 + bits (xltWord s.toDev q.val f.val 0) 0 32)).filter (fun r => s.toDev.ownsSpace q.val f.val r.1) = some (s2, page) →
      exec (.pgResp q f) s = .next (s.withDev (let d := s.toDev; (({ d with xlt := { d.xlt with preqs := Tab.del d.xlt.preqs (q.val * 2 ^ 32 + bits (xltWord d q.val f.val 0) 0 32) } } : Dev).xltEnd q.val f.val ST_OK).pageFail q.val s2 page).settleAll)) ∧
  (∀ (s : State) (q : Fin 4) (id : Nat) (s2 page : Nat),
      s.pwr.off = 0 →
      s.sys.formS = false →
      Tab.find s.toDev.xlt.preqs (q.val * 2 ^ 32 + id) = some (s2, page) →
      exec (.pageRequestTimeout q id) s = .next (s.withDev (let d := s.toDev; ({ d with xlt := { d.xlt with preqs := Tab.del d.xlt.preqs (q.val * 2 ^ 32 + id) } } : Dev).pageFail q.val s2 page).settleAll)) ∧
  (∀ (s : State) (q : Fin 4) (n : Fin 4096) (root : Bool) (v : Word),
      s.pwr.off = 0 →
      s.sys.formS = false →
      root = false →
      s.toDev.spaceInUse q.val n.val = false →
      exec (.xltSpaceWrite q n root v) s = .next (s.withDev (let d := s.toDev; (d.wrFields .XLT_SPACE ⟨q.val, n.val⟩ v).put XLT_SPACE_STATUS ⟨q.val, n.val⟩ ST_OK).settleAll)) ∧
  (∀ (s : State) (q : Fin 4) (n : Fin 4096) (root : Bool) (v : Word),
      s.pwr.off = 0 →
      s.sys.formS = false →
      root = true →
      s.toDev.spaceInUse q.val n.val = false →
      exec (.xltSpaceWrite q n root v) s = .next (s.withDev (let d := s.toDev; (d.wrFields .XLT_SPACEROOT ⟨q.val, n.val⟩ v).put XLT_SPACE_STATUS ⟨q.val, n.val⟩ ST_OK).settleAll))

/-- Completion (13_onchip_network.md): messages of the on-die network, its mode switch and its regulators. Each clause gives, for one command, the state and the operands on which
it completes and the whole state it leaves; `settleAll` is the work that the change sets in motion. -/
def Obligations.CompletionMesh : Prop :=
  (∀ (s : State) (m : Machine.MeshMsg) (ecc : Fin 3) (m2 : Machine.MeshMsg),
      s.pwr.off = 0 →
      m.sdie = m.ddie →
      s.toDev.nodeAbsent m.snode.val = false →
      s.toDev.meshNormal m.sdie.val = true →
      m.cls ≠ 3 →
      m2 = s.toDev.meshClass m.sdie.val m →
      m2.sdie = m2.ddie →
      s.toDev.holdStops m2 = false →
      s.toDev.regHolds m2 = false →
      s.toDev.meshBehind m2 = false →
      exec (.meshMessage m ecc) s = .next (s.withDev (let d := s.toDev; (d.meshInject m2).meshServe m2 ecc.val).settleAll)) ∧
  (∀ (s : State) (m : Machine.MeshMsg) (ecc : Fin 3) (m2 : Machine.MeshMsg) (l : List Nat),
      s.pwr.off = 0 →
      m.sdie ≠ m.ddie →
      s.toDev.nodeAbsent m.snode.val = false →
      s.toDev.meshNormal m.sdie.val = true →
      m.cls ≠ 3 →
      m2 = s.toDev.meshClass m.sdie.val m →
      m2.sdie ≠ m2.ddie →
      m2.cls ≠ 3 →
      s.toDev.holdStops m2 = false →
      s.toDev.regHolds m2 = false →
      s.toDev.meshBehind m2 = false →
      (s.toDev.meshInject m2).route m2.sdie.val m2.ddie.val (128 * m2.sdie.val) (128 * m2.ddie.val) 0 = some l →
      (s.toDev.meshInject m2).dieInReset m2.ddie.val = false →
      exec (.gatewayMessage m ecc) s = .next (s.withDev (let d := s.toDev; ((((d.meshInject m2).gatewayFlits l m2.len).arrivalDie m2.ddie.val).wakeDie m2.ddie.val).meshServe m2 ecc.val).settleAll)) ∧
  (∀ (s : State) (q : Fin 4) (v : Word),
      s.pwr.off = 0 →
      s.toDev.meshHold q.val = false →
      NOC_MODECTL_SWITCH.of (v ||| NOC_MODECTL_SWITCH.mask) = 1 →
      NOC_MODECTL_TARGET.of (v ||| NOC_MODECTL_SWITCH.mask) ≠ s.toDev.get NOC_MODECTL_MODE (onDie q.val) →
      exec (.meshSwitch q v) s = .next (s.withDev (let d := s.toDev; ((d.wrFields .NOC_MODECTL (onDie q.val) (v ||| NOC_MODECTL_SWITCH.mask)).put NOC_MODECTL_HOLD (onDie q.val) 1).kilnAbort q.val (fun t _ => t = 7)).settleAll)) ∧
  (∀ (s : State) (q : Fin 4),
      s.pwr.off = 0 →
      s.toDev.meshHold q.val = true →
      s.toDev.get NOC_STAT_OUTSTANDING (onDie q.val) = 0 →
      exec (.meshQuiesced q) s = .next (s.withDev (let d := s.toDev; (((((d.put NOC_MODECTL_MODE (onDie q.val) (d.get NOC_MODECTL_TARGET (onDie q.val))).put NOC_MODECTL_HOLD (onDie q.val) 0).nocStatus q.val ST_OK).inc .NOC_MODESW (onDie q.val))).holdEnds q.val).settleAll)) ∧
  (∀ (s : State) (q : Fin 4),
      s.pwr.off = 0 →
      s.toDev.meshHold q.val = true →
      exec (.holdmaxTimeout q) s = .next (s.withDev (let d := s.toDev; (d.switchAbandoned q.val).holdEnds q.val).settleAll)) ∧
  (∀ (s : State) (q : Fin 4) (node : Fin 25) (cls : Fin 4) (x : Machine.MeshMsg × Bool),
      s.pwr.off = 0 →
      s.toDev.noc.held.filter (fun x => x.1.sdie.val = q.val && x.1.snode.val = node.val && x.1.cls.val = cls.val) = [x] →
      exec (.regulatorRelease q node cls) s = .next (s.withDev (let d := s.toDev; ({ d with noc := { d.noc with held := d.noc.held.filter (fun x => !(x.1.sdie.val = q.val && x.1.snode.val = node.val && x.1.cls.val = cls.val)) } } : Dev).meshOffer x.1 x.2 0).settleAll))

/-- Completion (14_saggar_security.md): tokens, keys, levels, entropy and wipes. Each clause gives, for one command, the state and the operands on which
it completes and the whole state it leaves; `settleAll` is the work that the change sets in motion. -/
def Obligations.CompletionSaggar : Prop :=
  (∀ (s : State) (path : Path),
      s.pwr.off = 0 →
      s.toDev.sag.noEntropy.contains 0 = false →
      exec (.challengeRead path) s = .next (s.withDev (let d := s.toDev; let e := d.emit (.readValue (pathOut path) (d.shown .SAG_CHAL 0 0)); let e := { e with sag := { e.sag with challenge := some e.challengeValue.toNat } }; (e.put SAG_CHAL_CHALLENGE onMod e.rnd).drawn).settleAll)) ∧
  (∀ (s : State) (q : Fin 4) (path : Path),
      s.pwr.off = 0 →
      s.toDev.tokBusy = false →
      path = .mgmt →
      s.toDev.sag.wipes = [] →
      exec (.tokenPresent q path) s = .next (s.withDev (let d := s.toDev; { d with sag := { d.sag with token := some ⟨q.val, d.bufBytes .SAG_TOKBUF q.val 16, d.bufBytes .SAG_PUBKEY q.val 12⟩ } }.put SAG_TOKCMD_BUSY onMod 1).settleAll)) ∧
  (∀ (s : State) (t : Token),
      s.pwr.off = 0 →
      s.toDev.sag.token = some t →
      exec .tokenVerified s = .next (s.withDev (let d := s.toDev; let e := ({ d with sag := { d.sag with token := none, challenge := none } }).put SAG_TOKCMD_BUSY onMod 0; match d.tokenFails t with | some st => (e.tokStatus st).inc .SAG_TOKFAIL onMod | none => (if t.kind = 1 then e.grantLevel t.value t.signer else e.startChange t.value).tokStatus ST_OK).settleAll)) ∧
  (∀ (s : State) (q : Fin 4) (path : Path),
      s.pwr.off = 0 →
      s.toDev.tokBusy = false →
      path = .mgmt →
      s.toDev.lifeCycle = 2 →
      s.toDev.sys.opkey = none →
      exec (.setOpkey q path) s = .next (s.withDev (let d := s.toDev; ({ d with sys := { d.sys with opkey := some (ofBytes (d.bufBytes .SAG_TOKBUF q.val 6)) } }).tokStatus ST_OK).settleAll)) ∧
  (∀ (s : State) (level : Fin 4),
      s.pwr.off = 0 →
      level.val < s.toDev.debugLevel →
      level.val ≠ defaultLevel s.toDev.lifeCycle →
      exec (.debugLower level) s = .next (s.withDev (let d := s.toDev; d.setLevel level.val (d.get SAG_DBG_SIGNER onMod)).settleAll)) ∧
  (∀ (s : State) (q : Fin 4) (owner : Fin 257) (v : Word) (e : Dev) (n : Nat),
      s.pwr.off = 0 →
      e = s.toDev.put SAG_KEYCMD_SLOT ⟨q.val, owner.val⟩ (SAG_KEYCMD_SLOT.of v) →
      n = SAG_KEYCMD_SLOT.of v →
      e.wipingKeys q.val owner.val = false →
      owner.val ≤ 255 →
      e.keyState q.val n = keyFREE →
      e.keyQuotaFull q.val owner.val = false →
      e.keysAllowed = true →
      exec (.installConn q owner v) s = .next (s.withDev (let d := s.toDev; ((e.keyInstall q.val owner.val n keyCONN).each (List.range 4) (fun w d => d.wr .SAG_KEYBUF ⟨q.val, owner.val * 4 + w⟩ 0)).put SAG_KEYCMD_STATUS ⟨q.val, owner.val⟩ ST_OK).settleAll)) ∧
  (∀ (s : State) (q : Fin 4) (owner : Fin 257) (v : Word) (e : Dev) (n : Nat),
      s.pwr.off = 0 →
      e = s.toDev.put SAG_KEYCMD_SLOT ⟨q.val, owner.val⟩ (SAG_KEYCMD_SLOT.of v) →
      n = SAG_KEYCMD_SLOT.of v →
      e.wipingKeys q.val owner.val = false →
      owner.val = 256 →
      e.keyState q.val n = keyFREE →
      e.keysAllowed = true →
      exec (.installGroup q owner v) s = .next (s.withDev (let d := s.toDev; ((e.keyInstall q.val owner.val n keyGROUP).each (List.range 4) (fun w d => d.wr .SAG_KEYBUF ⟨q.val, owner.val * 4 + w⟩ 0)).put SAG_KEYCMD_STATUS ⟨q.val, owner.val⟩ ST_OK).settleAll)) ∧
  (∀ (s : State) (q : Fin 4) (owner : Fin 257) (v : Word) (e : Dev) (n : Nat),
      s.pwr.off = 0 →
      e = s.toDev.put SAG_KEYCMD_SLOT ⟨q.val, owner.val⟩ (SAG_KEYCMD_SLOT.of v) →
      n = SAG_KEYCMD_SLOT.of v →
      e.wipingKeys q.val owner.val = false →
      e.keyState q.val n ≠ keyFREE →
      e.keyOwner q.val n = owner.val →
      e.keyInUse q.val n = false →
      exec (.keyErase q owner v) s = .next (s.withDev (let d := s.toDev; ((e.freeKey q.val n).each (List.range 4) (fun w d => d.wr .SAG_KEYBUF ⟨q.val, owner.val * 4 + w⟩ 0)).put SAG_KEYCMD_STATUS ⟨q.val, owner.val⟩ ST_OK).settleAll)) ∧
  (∀ (s : State) (q : Fin 4),
      s.pwr.off = 0 →
      exec (.entropyFail q) s = .next (s.withDev (let d := s.toDev; ({ d with sag := { d.sag with noEntropy := q.val :: d.sag.noEntropy.filter (· ≠ q.val) } } : Dev).raise srcSAG 1 (locDie q.val) 0).settleAll)) ∧
  (∀ (s : State) (q : Fin 4),
      s.pwr.off = 0 →
      q.val ≠ 0 →
      exec (.entropyRecover q) s = .next (s.withDev (let d := s.toDev; { d with sag := { d.sag with noEntropy := d.sag.noEntropy.filter (· ≠ q.val) } }).settleAll)) ∧
  (∀ (s : State) (scope : Nat) (die : Nat) (part : Nat) (w : Wipe),
      s.pwr.off = 0 →
      s.toDev.sag.wipes.find? (fun w => w.scope = scope && w.die = die && w.part = part) = some w →
      exec (.wipeDone scope die part) s = .next (s.withDev (let d := s.toDev; ((({ d with sag := { d.sag with wipes := dropFirst w d.sag.wipes } } : Dev).wipeShown w).wipeCalled w)).settleAll))

/-- Completion (15_startup_configuration.md): the steps of startup, the slots and the flash. Each clause gives, for one command, the state and the operands on which
it completes and the whole state it leaves; `settleAll` is the work that the change sets in motion. -/
def Obligations.CompletionBoot : Prop :=
  (∀ (s : State) (ok : Bool),
      s.pwr.off = 0 →
      s.toDev.boot.step = 1 →
      s.toDev.lifeCycle ≠ 0 →
      s.toDev.lifeCycle ≠ 4 →
      ok = true →
      exec (.flashInit ok) s = .next (s.withDev (let d := s.toDev; { d with boot := { d.boot with step := 2 } }).settleAll)) ∧
  (∀ (s : State) (ok : Bool),
      s.pwr.off = 0 →
      s.toDev.boot.step = 1 →
      s.toDev.lifeCycle ≠ 0 →
      s.toDev.lifeCycle ≠ 4 →
      ok = false →
      exec (.flashInit ok) s = .next (s.withDev (let d := s.toDev; d.bisque 4).settleAll)) ∧
  (∀ (s : State) (unread : List Nat) (e : Dev),
      s.pwr.off = 0 →
      s.toDev.boot.step = 2 →
      e = ({ s.toDev with boot := { s.toDev.boot with unread := unread } } : Dev).dirRead →
      e.boot.tried = [] →
      e.boot.dir.trialState ≠ 2 →
      exec (.candidateChosen unread) s = .next (s.withDev (e.choose 4).settleAll)) ∧
  (∀ (s : State) (ok : Bool),
      s.pwr.off = 0 →
      s.toDev.boot.step = 3 →
      s.toDev.boot.update = none →
      ok = true →
      exec (.saggarImageLoaded ok) s = .next (s.withDev (let d := s.toDev; if d.imageSigned d.boot.slot 1 then { ((d.put CFG_VERSION_SAGGAR onMod (d.fwVersion d.boot.slot 1)).put CFG_BOOTSTATUS_PHASE onMod 1) with boot := { ((d.put CFG_VERSION_SAGGAR onMod (d.fwVersion d.boot.slot 1)).put CFG_BOOTSTATUS_PHASE onMod 1).boot with step := 4 } } else d.nextCandidate 7).settleAll)) ∧
  (∀ (s : State) (ok : Bool),
      s.pwr.off = 0 →
      s.toDev.boot.step = 4 →
      s.toDev.boot.update = none →
      ok = true →
      exec (.zoruriImageLoaded ok) s = .next (s.withDev (let d := s.toDev; if d.imageSigned d.boot.slot 2 && d.cfgAuthentic (d.cfgPart d.boot.slot) then (match d.cfgRun (d.cfgPart d.boot.slot) with | some e => e.slotBoots (cfgVersion (d.cfgPart d.boot.slot)) | none => d.cfgFails) else d.nextCandidate 7).settleAll)) ∧
  (∀ (s : State) (q : Fin 4) (ports : List Nat) (lanes : Nat) (brgh : Nat) (brgv : Nat) (banks : List Nat) (chans : List Nat) (tables : Bool) (other : Bool) (e : Dev),
      s.pwr.off = 0 →
      s.toDev.boot.step = 5 →
      s.toDev.kln.booting.contains q.val = true →
      e = s.toDev.calibrated q.val ports lanes brgh brgv banks chans tables other →
      e.kln.booting = [] →
      exec (.calibrationDone q ports lanes brgh brgv banks chans tables other) s = .next (s.withDev ((({ e with boot := { e.boot with step := 6 } } : Dev).put CFG_BOOTSTATUS_PHASE onMod 4).portsReturn locModule).settleAll)) ∧
  (∀ (s : State) (words : List Word),
      s.pwr.off = 0 →
      s.toDev.boot.step = 6 →
      s.toDev.nodeValid = true →
      s.toDev.isolated = false →
      s.toDev.ownDies.all (fun q => s.toDev.bankValid q s.toDev.ep.target) = true →
      exec (.phaseRun words) s = .next (s.withDev (let d := s.toDev; let d := d.each d.ownDies (fun q d0 => d0.stampWrite q d.ep.target); let d := d.each (List.range 4) (fun q d => let d := d.installSystem q words; d.when (!d.bit NOC_MODECTL_MODE (onDie q)) (fun d => (d.put NOC_MODECTL_TARGET (onDie q) 1).meshSwitched q)); let d := ({ d with boot := { d.boot with step := 7, tried := [] } } : Dev).put CFG_BOOTSTATUS_PHASE onMod 5; let d := if d.dirNone && d.boot.update.isNone then d.dirChange false id else d; d.each (List.range 16) (fun m d => d.retryInj (m / 4) (m % 4))).settleAll)) ∧
  (∀ (s : State),
      s.pwr.off = 0 →
      s.toDev.boot.update = some false →
      exec .directoryUpdateDone s = .next (s.withDev (let d := s.toDev; d.dirStore.put CFG_SLOTCMD_BUSY onMod 0).settleAll)) ∧
  (∀ (s : State),
      s.pwr.off = 0 →
      s.toDev.boot.update = some true →
      exec .directoryUpdateDone s = .next (s.withDev (let d := s.toDev; (d.dirStore.put CFG_SLOTCMD_BUSY onMod 0).reset locModule 3 none).settleAll)) ∧
  (∀ (s : State),
      s.pwr.off = 0 →
      s.toDev.bit CFG_SLOTCMD_BUSY onMod = false →
      s.toDev.boot.dir.trialState = 0 →
      s.toDev.boot.dir.active ≠ 1 →
      exec .slotTrialA s = .next (s.withDev (let d := s.toDev; d.slotAccept true (fun r => { r with trialSlot := 1, trialState := 1 })).settleAll)) ∧
  (∀ (s : State),
      s.pwr.off = 0 →
      s.toDev.bit CFG_SLOTCMD_BUSY onMod = false →
      s.toDev.boot.dir.trialState = 0 →
      s.toDev.boot.dir.active ≠ 2 →
      exec .slotTrialB s = .next (s.withDev (let d := s.toDev; d.slotAccept true (fun r => { r with trialSlot := 2, trialState := 1 })).settleAll)) ∧
  (∀ (s : State) (path : Path),
      s.pwr.off = 0 →
      s.toDev.bit CFG_SLOTCMD_BUSY onMod = false →
      path = .mgmt →
      s.toDev.boot.dir.trialState = 2 →
      exec (.slotCommit path) s = .next (s.withDev (let d := s.toDev; (d.slotAccept false DirRec.commit).watchdogStops).settleAll)) ∧
  (∀ (s : State),
      s.pwr.off = 0 →
      s.toDev.bit CFG_SLOTCMD_BUSY onMod = false →
      s.toDev.boot.dir.trialState = 2 →
      exec .slotRevert s = .next (s.withDev (let d := s.toDev; (d.slotAccept true DirRec.rejectTrial).watchdogStops).settleAll)) ∧
  (∀ (s : State),
      s.pwr.off = 0 →
      s.toDev.bit CFG_SLOTCMD_BUSY onMod = false →
      exec .slotReboot s = .next (s.withDev (let d := s.toDev; (d.slotStatus ST_OK).reset locModule 3 none).settleAll)) ∧
  (∀ (s : State),
      s.pwr.off = 0 →
      s.toDev.boot.dir.trialState = 2 →
      s.toDev.boot.watchdog.isSome = true →
      exec .trialWatchdog s = .next (s.withDev (let d := s.toDev; ((({ d with boot := { d.boot with trial := false } } : Dev).watchdogStops).dirChange false DirRec.rejectTrial).dirStore.reset locModule 8 none).settleAll)) ∧
  (∀ (s : State),
      s.pwr.off = 0 →
      s.toDev.boot.dir.trialState = 2 →
      s.toDev.boot.trial = true →
      s.toDev.bit CFG_TRIAL_AUTOCOMMIT onMod = true →
      5 ≤ s.toDev.boot.step →
      (List.range 4).all (fun q => s.toDev.bit KLN_BOOT_PASSED (onDie q)) = true →
      s.toDev.bit CFG_ERGSTAT_VALID onMod = true →
      s.toDev.banksValid = true →
      exec .autocommit s = .next (s.withDev (let d := s.toDev; (d.dirChange false DirRec.commit).watchdogStops).settleAll)) ∧
  (∀ (s : State) (v : Word),
      s.pwr.off = 0 →
      s.toDev.bit CFG_FLASHCMD_BUSY onMod = false →
      CFG_FLASHCMD_ADDR.of v % 256 = 0 →
      exec (.flashRead v) s = .next (s.withDev (let d := s.toDev; let e := d.wrFields .CFG_FLASHCMD onMod v; let a := CFG_FLASHCMD_ADDR.of v; (e.each (List.range 32) (fun w d => d.wr .CFG_FLASHBUF ⟨0, w⟩ (BitVec.ofNat 64 (d.flashNat (a + 8 * w) 8)))).flashStatus ST_OK).settleAll)) ∧
  (∀ (s : State) (v : Word) (e : Dev),
      s.pwr.off = 0 →
      s.toDev.bit CFG_FLASHCMD_BUSY onMod = false →
      e = s.toDev.wrFields .CFG_FLASHCMD onMod v →
      CFG_FLASHCMD_ADDR.of v % 256 = 0 →
      e.flashProtected (CFG_FLASHCMD_ADDR.of v) = false →
      flashSlot (CFG_FLASHCMD_ADDR.of v) = none →
      exec (.flashProgram v) s = .next (s.withDev ((({ e with boot := { e.boot with flashCmd := some (2, CFG_FLASHCMD_ADDR.of v, e.bufBytes .CFG_FLASHBUF 0 32) } } : Dev).flashStatus ST_OK).put CFG_FLASHCMD_BUSY onMod 1).settleAll)) ∧
  (∀ (s : State) (v : Word) (e : Dev),
      s.pwr.off = 0 →
      s.toDev.bit CFG_FLASHCMD_BUSY onMod = false →
      e = s.toDev.wrFields .CFG_FLASHCMD onMod v →
      CFG_FLASHCMD_ADDR.of v % 65536 = 0 →
      e.flashProtected (CFG_FLASHCMD_ADDR.of v) = false →
      flashSlot (CFG_FLASHCMD_ADDR.of v) = none →
      exec (.flashErase v) s = .next (s.withDev ((({ e with boot := { e.boot with flashCmd := some (3, CFG_FLASHCMD_ADDR.of v, []) } } : Dev).flashStatus ST_OK).put CFG_FLASHCMD_BUSY onMod 1).settleAll)) ∧
  (∀ (s : State) (a : Nat) (data : List Byte),
      s.pwr.off = 0 →
      s.toDev.boot.flashCmd = some (2, a, data) →
      exec .flashCmdDone s = .next (s.withDev (let d := s.toDev; ({ d.flashProgram a data with boot := { (d.flashProgram a data).boot with flashCmd := none } } : Dev).put CFG_FLASHCMD_BUSY onMod 0).settleAll))

/-- Completion (05_routing.md, 15_startup_configuration.md): the messages and timers of Erg, and firmware messages. Each clause gives, for one command, the state and the operands on which
it completes and the whole state it leaves; `settleAll` is the work that the change sets in motion. -/
def Obligations.CompletionErg : Prop :=
  (∀ (s : State),
      s.pwr.off = 0 →
      s.toDev.ergRuns = true →
      exec .ergLinkSend s = .next (s.withDev (let d := s.toDev; d.each d.upPorts (fun p d => d.ergSend [p] 1 (d.linkPayload p))).settleAll)) ∧
  (∀ (s : State),
      s.pwr.off = 0 →
      s.toDev.ergRuns = true →
      exec .ergRefresh s = .next (s.withDev (let d := s.toDev; let d := if d.erg.leading then (d.mapErg (fun e => { e with assignSent := ((e.assignSent.1 + 1) % 256, e.assignSent.2), claimSent := ((e.claimSent.1 + 1) % 2 ^ 32, e.claimSent.2) })).sendAssign.sendClaim else d; let d := if d.nodeValid then (d.mapErg (fun e => { e with lsaSent := ((e.lsaSent.1 + 1) % 65536, e.lsaSent.2) })).sendLsa else d; if d.leads && d.nodeValid then (d.mapErg (fun e => { e with gsumSent := ((e.gsumSent.1 + 1) % 65536, e.gsumSent.2) })).sendGsum else d).settleAll)) ∧
  (∀ (s : State) (p : Fin 512) (c : Ctrl) (b : Body) (e : Dev),
      s.pwr.off = 0 →
      s.toDev.inOrder p.val c →
      ctlKind c = 2 →
      creditValid c = true →
      ctlFvc c = byHELLO →
      e = s.toDev.acceptSeq p.val c →
      e.ergRuns = true →
      hb b 8 1 = 1 →
      exec (.ergLink p c b) s = .next (s.withDev ((e.mapErg (fun g => { g with peers := Tab.put g.peers p.val ⟨fb b 32 17, fb b 49 1 = 1, hb b 9 8, fb b 136 17, fb b 153 1 = 1, hb b 21 1, hb b 22 1, hb b 23 1, hb b 24 4, fb b 224 1, fb b 225 1 = 1⟩ })).numberAll).settleAll)) ∧
  (∀ (s : State) (p : Fin 512) (c : Ctrl) (b : Body) (e : Dev),
      s.pwr.off = 0 →
      s.toDev.inOrder p.val c →
      ctlKind c = 2 →
      creditValid c = true →
      ctlFvc c = byHELLO →
      e = s.toDev.acceptSeq p.val c →
      e.ergRuns = true →
      hb b 8 1 = 2 →
      hb b 9 8 ≠ e.sys.uid →
      e.sys.mapMode = false →
      Tab.find e.erg.assigns (hb b 9 8 * 32 + hb b 20 1 % 32) = none →
      e.erg.leading = false →
      exec (.ergAssign p c b) s = .next (s.withDev (let l := (List.range (min 3 (hb b 21 1))).map (fun i => (hb b (22 + 9 * i) 8, hb b (30 + 9 * i) 1)); ((e.mapErg (fun g => { g with assigns := restFrags (Tab.put g.assigns (hb b 9 8 * 32 + hb b 20 1 % 32) ⟨hb b 19 1, hb b 17 2, l⟩) 32 (hb b 9 8 * 32 + hb b 20 1 % 32) (hb b 21 1) 3 })).ergSend (e.mapErg (fun g => { g with assigns := restFrags (Tab.put g.assigns (hb b 9 8 * 32 + hb b 20 1 % 32) ⟨hb b 19 1, hb b 17 2, l⟩) 32 (hb b 9 8 * 32 + hb b 20 1 % 32) (hb b 21 1) 3 })).localPorts 2 (helloPayload b)).takeAssigned).settleAll)) ∧
  (∀ (s : State) (p : Fin 512) (c : Ctrl) (b : Body) (e : Dev),
      s.pwr.off = 0 →
      s.toDev.inOrder p.val c →
      ctlKind c = 2 →
      creditValid c = true →
      ctlFvc c = byHELLO →
      e = s.toDev.acceptSeq p.val c →
      e.ergRuns = true →
      hb b 8 1 = 3 →
      hb b 11 8 ≠ e.sys.uid →
      Tab.find e.erg.claims (hb b 11 8) = none →
      e.erg.claim = none →
      exec (.ergClaim p c b) s = .next (s.withDev (let f := e.mapErg (fun g => { g with claims := Tab.put g.claims (hb b 11 8) (hb b 19 4, hb b 9 2, hb b 23 1) }); f.ergSend f.upPorts 3 (helloPayload b)).settleAll)) ∧
  (∀ (s : State) (p : Fin 512) (c : Ctrl) (b : Body) (e : Dev),
      s.pwr.off = 0 →
      s.toDev.inOrder p.val c →
      ctlKind c = 2 →
      creditValid c = true →
      ctlFvc c = byHELLO →
      e = s.toDev.acceptSeq p.val c →
      e.ergRuns = true →
      hb b 8 1 = 4 →
      e.nodeValid = false →
      Tab.find e.erg.lsas (fb b 72 17 * 256 + hb b 15 1) = none →
      exec (.ergLsa p c b) s = .next (s.withDev (let x : ErgLsa := ⟨hb b 13 2, hb b 17 8, (List.range (min 15 (hb b 16 1))).map (fun i => hb b (25 + 2 * i) 2)⟩; let f := e.mapErg (fun g => { g with lsas := restFrags (Tab.put g.lsas (fb b 72 17 * 256 + hb b 15 1) x) 256 (fb b 72 17 * 256 + hb b 15 1) (hb b 16 1) 15, changed := true }); f.ergSend f.localPorts 4 (helloPayload b)).settleAll)) ∧
  (∀ (s : State) (p : Fin 512) (c : Ctrl) (b : Body) (e : Dev),
      s.pwr.off = 0 →
      s.toDev.inOrder p.val c →
      ctlKind c = 2 →
      creditValid c = true →
      ctlFvc c = byHELLO →
      e = s.toDev.acceptSeq p.val c →
      e.ergRuns = true →
      hb b 8 1 = 5 →
      e.nodeValid = false →
      Tab.find e.erg.gsums (hb b 9 2 * 8 + hb b 13 1 % 8) = none →
      exec (.ergGsum p c b) s = .next (s.withDev (let f := e.mapErg (fun g => { g with gsums := Tab.put g.gsums (hb b 9 2 * 8 + hb b 13 1 % 8) (hb b 11 2, hb b 14 42), changed := true }); f.ergSend f.upPorts 5 (helloPayload b)).settleAll)) ∧
  (∀ (s : State) (g : Nat),
      s.pwr.off = 0 →
      s.toDev.ergRuns = true →
      s.toDev.sys.mapMode = false →
      s.toDev.erg.leading = true →
      s.toDev.erg.claim = some (g, false) →
      exec .claimWaitExpiry s = .next (s.withDev (let d := s.toDev; ((d.mapErg (fun e => { e with claim := some (g, true) })).numberAll).takeAssigned).settleAll)) ∧
  (∀ (s : State) (ok : Bool) (need : Nat) (routes : List (Nat × Nat)) (psets : List (Nat × Nat)),
      s.pwr.off = 0 →
      s.toDev.ergRuns = true →
      s.toDev.nodeValid = true →
      s.toDev.erg.changed = true →
      ok = true →
      need ≤ 4096 →
      s.toDev.tablesFit psets = true →
      exec (.settleExpiry ok need routes psets) s = .next (s.withDev (let d := s.toDev; ((d.mapErg (fun e => { e with changed := false })).mapErg (fun e => { e with tables := some (routes, psets) })).useTables).settleAll)) ∧
  (∀ (s : State) (p : Fin 512),
      s.pwr.off = 0 →
      exec (.neighbourAbsent p) s = .next (s.withDev (let d := s.toDev; d.mapErg (fun e => { e with peers := Tab.del e.peers p.val })).settleAll)) ∧
  (∀ (s : State) (kind : Nat) (n : Nat),
      s.pwr.off = 0 →
      kind = 2 →
      exec (.originExpiry kind n) s = .next (s.withDev (let d := s.toDev; d.mapErg (fun e => { e with claims := Tab.del e.claims n })).settleAll)) ∧
  (∀ (s : State) (kind : Nat) (n : Nat),
      s.pwr.off = 0 →
      kind = 1 →
      exec (.originExpiry kind n) s = .next (s.withDev (let d := s.toDev; d.mapErg (fun e => { e with assigns := e.assigns.filter (fun x => leaderOf x.1 ≠ n) })).settleAll)) ∧
  (∀ (s : State) (m : Fin 64),
      s.pwr.off = 0 →
      s.toDev.ergRuns = true →
      s.toDev.leads = true →
      s.toDev.nodeValid = true →
      m.val ≠ s.toDev.nodeId % 64 →
      s.toDev.memberNumbers.contains m.val = true →
      s.toDev.memberSeen m.val = false →
      s.toDev.erg.lost.contains m.val = false →
      exec (.memberLost m) s = .next (s.withDev (let d := s.toDev; (d.mapErg (fun e => { e with lost := e.lost ++ [m.val] })).fenceOriginate 0 (nodeEp (d.nodeId / 64 * 64 + m.val)) true true).settleAll)) ∧
  (∀ (s : State) (q : Fin 4) (k : Machine.Packet) (e : Dev) (st r : Nat),
      s.pwr.off = 0 →
      k.type = tFW_MSG →
      k.enc = false →
      0 < ofBytes (k.oper.take 1) →
      ofBytes (k.oper.take 1) ≤ 3 →
      (s.toDev.takeDlv q.val 512 k).fwServe (ofBytes (k.oper.take 1)) (ofBytes ((k.oper.drop 4).take 5) % 2 ^ 36) (ofBytes ((k.oper.drop 16).take 8)) = (e, st, r) →
      exec (.fwMsg q k) s = .next (s.withDev (e.fwSend q.val (fwPacket tFW_RSP k.tc (e.nodeId * 256 + q.val * 64) k.src (fwOper (ofBytes (k.oper.take 1)) (ofBytes ((k.oper.drop 1).take 2)) st 0 r))).settleAll)) ∧
  (∀ (s : State) (q : Fin 4) (k : Machine.Packet) (o : Oob),
      s.pwr.off = 0 →
      k.type = tFW_RSP →
      k.enc = false →
      (s.toDev.takeDlv q.val 512 k).car.oob = some o →
      o.fabric = true →
      o.tag = ofBytes ((k.oper.drop 1).take 2) →
      exec (.fwRsp q k) s = .next (s.withDev (let d := s.toDev; (d.takeDlv q.val 512 k).oobEnds (ofBytes ((k.oper.drop 3).take 1)) (some (ofBytes ((k.oper.drop 16).take 8)))).settleAll))

/-- Completion (15_startup_configuration.md): the ring that joins neighbouring modules and the accesses over it. Each clause gives, for one command, the state and the operands on which
it completes and the whole state it leaves; `settleAll` is the work that the change sets in motion. -/
def Obligations.CompletionCaravan : Prop :=
  (∀ (s : State),
      s.pwr.off = 0 →
      1 ≤ s.toDev.boot.step →
      s.toDev.bit MGT_CTRL_CAR_EN onMod = true →
      s.toDev.carJoined = false →
      exec .caravanJoin s = .next (s.withDev (let d := s.toDev; (d.emit (.pin "CARAVAN_BYPASS" false)).reform).settleAll)) ∧
  (∀ (s : State),
      s.pwr.off = 0 →
      s.toDev.carJoined = true →
      exec .caravanLockLoss s = .next (s.withDev (let d := s.toDev; d.reform).settleAll)) ∧
  (∀ (s : State),
      s.pwr.off = 0 →
      s.toDev.carState = 1 →
      s.toDev.bit MGT_CARSTAT_RATE onMod = false →
      exec .caravanLockTimeout s = .next (s.withDev (let d := s.toDev; ((d.put MGT_CARSTAT_SLOWIN onMod 1).raise srcMGT 1 locModule 0).carSlow).settleAll)) ∧
  (∀ (s : State) (f : BitVec 256),
      s.pwr.off = 0 →
      s.toDev.carJoined = true →
      frCrcOk f = true →
      frType f = frELECT →
      s.toDev.carState ≠ 2 →
      frBytes f 8 8 ≠ s.toDev.sys.uid % 2 ^ 64 →
      exec (.caravanElect f) s = .next (s.withDev (let d := s.toDev; d.emit (.ring (frMake frELECT 255 255 (frHops f + 1) 0 (min (frBytes f 8 8) (d.sys.uid % 2 ^ 64))))).settleAll)) ∧
  (∀ (s : State) (f : BitVec 256),
      s.pwr.off = 0 →
      s.toDev.carJoined = true →
      frCrcOk f = true →
      frType f = frPOSITION →
      frBytes f 9 1 % 2 ≠ 1 →
      s.toDev.carMaster = false →
      exec (.caravanPosition f) s = .next (s.withDev (let d := s.toDev; (d.put MGT_CARSTAT_POSITION onMod (min 255 (frBytes f 8 1 + 1))).emit (.ring (frMake frPOSITION (frSrc f) 255 (frHops f + 1) 0 (min 254 (min 255 (frBytes f 8 1 + 1)))))).settleAll)) ∧
  (∀ (s : State) (f : BitVec 256) (res : Nat),
      s.pwr.off = 0 →
      s.toDev.carJoined = true →
      frCrcOk f = true →
      frType f = frTIME →
      s.toDev.carMaster = false →
      s.toDev.hasTimeSource = true →
      exec (.caravanTime f res) s = .next (s.withDev (let d := s.toDev; d.ringPass f (frBytes f 8 8 ||| ((frBytes f 16 4 + res) % 2 ^ 32) <<< 64)).settleAll)) ∧
  (∀ (s : State),
      s.pwr.off = 0 →
      s.toDev.carMaster = true →
      s.toDev.carState = 2 →
      exec .caravanTimeSend s = .next (s.withDev (let d := s.toDev; d.ringSend frTIME 255 0 d.fabricNow).settleAll)) ∧
  (∀ (s : State) (f : BitVec 256),
      s.pwr.off = 0 →
      s.toDev.carJoined = true →
      frCrcOk f = true →
      frType f = frREAD →
      frDst f = s.toDev.carPos →
      s.toDev.carPos ≠ 255 →
      exec (.caravanRead f) s = .next (s.withDev (let d := s.toDev; d.runAccess ⟨.ring, frBytes f 8 8 % 2 ^ 36, none, frSrc f, frTag f⟩).settleAll)) ∧
  (∀ (s : State) (f : BitVec 256),
      s.pwr.off = 0 →
      s.toDev.carJoined = true →
      frCrcOk f = true →
      frType f = frWRITE →
      frDst f = s.toDev.carPos →
      s.toDev.carPos ≠ 255 →
      exec (.caravanWrite f) s = .next (s.withDev (let d := s.toDev; d.runAccess ⟨.ring, frBytes f 8 8 % 2 ^ 36, some (BitVec.ofNat 64 (frBytes f 16 8)), frSrc f, frTag f⟩).settleAll)) ∧
  (∀ (s : State) (f : BitVec 256) (o : Oob),
      s.pwr.off = 0 →
      s.toDev.carJoined = true →
      frCrcOk f = true →
      frType f = frRESP →
      frDst f = s.toDev.carPos →
      s.toDev.carPos ≠ 255 →
      s.toDev.car.oob = some o →
      o.fabric = false →
      o.tag = frTag f →
      exec (.caravanResp f) s = .next (s.withDev (let d := s.toDev; d.oobEnds (frBytes f 8 1) (some (frBytes f 16 8))).settleAll)) ∧
  (∀ (s : State) (v : Word) (e : Dev),
      s.pwr.off = 0 →
      s.toDev.oobBusy = false →
      e = s.toDev.put MGT_OOBCMD_ADDR onMod (MGT_OOBCMD_ADDR.of v) →
      e.bit MGT_OOBTGT_PATH onMod = false →
      e.get MGT_OOBTGT_TARGET onMod % 256 ≠ e.carPos →
      e.carState = 2 →
      exec (.oobRead v) s = .next (s.withDev ((({ e with car := { e.car with oob := some ⟨e.car.nextTag, false, false⟩, nextTag := (e.car.nextTag + 1) % 65536 } } : Dev).put MGT_OOBCMD_BUSY onMod 1).ringSend frREAD (e.get MGT_OOBTGT_TARGET onMod % 256) e.car.nextTag (MGT_OOBCMD_ADDR.of v ||| 0)).settleAll)) ∧
  (∀ (s : State) (v : Word) (e : Dev),
      s.pwr.off = 0 →
      s.toDev.oobBusy = false →
      e = s.toDev.put MGT_OOBCMD_ADDR onMod (MGT_OOBCMD_ADDR.of v) →
      e.bit MGT_OOBTGT_PATH onMod = false →
      e.get MGT_OOBTGT_TARGET onMod % 256 ≠ e.carPos →
      e.carState = 2 →
      exec (.oobWrite v) s = .next (s.withDev ((({ e with car := { e.car with oob := some ⟨e.car.nextTag, true, false⟩, nextTag := (e.car.nextTag + 1) % 65536 } } : Dev).put MGT_OOBCMD_BUSY onMod 1).ringSend frWRITE (e.get MGT_OOBTGT_TARGET onMod % 256) e.car.nextTag (MGT_OOBCMD_ADDR.of v ||| (e.get MGT_OOBDATA_DATA onMod <<< 64))).settleAll)) ∧
  (∀ (s : State) (o : Oob),
      s.pwr.off = 0 →
      s.toDev.car.oob = some o →
      exec .oobTimeout s = .next (s.withDev (let d := s.toDev; (({ d with car := { d.car with oob := none } } : Dev).put MGT_OOBCMD_BUSY onMod 0).oobStatus ST_TIMEOUT).settleAll)) ∧
  (∀ (s : State),
      s.pwr.off = 0 →
      s.toDev.carJoined = true →
      s.toDev.bit MGT_CARSTAT_RATE onMod = false →
      s.toDev.carState ≠ 2 →
      exec .fallbackTrainingPattern s = .next (s.withDev (let d := s.toDev; d.carSlow).settleAll))

/-- Completion (16_power_clocks.md): supplies, power samples, temperature, domains and clocks. Each clause gives, for one command, the state and the operands on which
it completes and the whole state it leaves; `settleAll` is the work that the change sets in motion. -/
def Obligations.CompletionPower : Prop :=
  (∀ (s : State) (mv : Nat),
      mv < s.toDev.warnLevel →
      s.toDev.bit PWR_STAT_WARN onMod = false →
      exec (.vinWarn mv) s = .next (s.withDev (let e := (let d := s.toDev; ((((d.put PWR_STAT_VIN onMod (min 65535 mv)).put PWR_STAT_WARN onMod 1).inc .PWR_WARNCNT onMod).emit .pwrIrq).coneFall); if e.pwr.off = 0 then e.settleAll else e))) ∧
  (∀ (s : State) (mv : Nat),
      s.toDev.warnLevel + 250 < mv →
      s.toDev.bit PWR_STAT_WARN onMod = true →
      exec (.vinWarnRelease mv) s = .next (s.withDev (let e := (let d := s.toDev; ((d.put PWR_STAT_VIN onMod (min 65535 mv)).put PWR_STAT_WARN onMod 0).coneFall); if e.pwr.off = 0 then e.settleAll else e))) ∧
  (∀ (s : State),
      exec .vinReset s = .next (s.withDev (let e := (let d := s.toDev; let e := (if d.pwr.off = 3 then d else (d.powerOff 1).reset locModule 4 none); let f := ({ e with pwr := { e.pwr with vin := false, loss := some (e.now / 1000) } } : Dev).faultN (fun f => { f with isolate := false }); f.when (!f.pwr.vstby) (·.oasisLost)); if e.pwr.off = 0 then e.settleAll else e))) ∧
  (∀ (s : State) (mv : Nat),
      mv ≤ 20000 →
      s.toDev.pwr.off ≠ 3 →
      exec (.vinOvervoltage mv) s = .next (s.withDev (let e := (let d := s.toDev; ((d.storeShutdown 4).powerOff 2).reset locModule 4 none); if e.pwr.off = 0 then e.settleAll else e))) ∧
  (∀ (s : State),
      s.toDev.pwr.off = 1 →
      exec .vinReturn s = .next (s.withDev (let e := (let d := s.toDev; ({ d with pwr := { d.pwr with cycled := d.pwr.cycled || !d.pwr.vin, vin := true } } : Dev).powerOn); if e.pwr.off = 0 then e.settleAll else e))) ∧
  (∀ (s : State) (on : Bool),
      exec (.vstbyChange on) s = .next (s.withDev (let e := (let d := s.toDev; let e := ({ d with pwr := { d.pwr with vstby := on } } : Dev).putB PWR_STAT_VSTBY_OK onMod on; if !on && !e.pwr.vin then e.oasisLost else e); if e.pwr.off = 0 then e.settleAll else e))) ∧
  (∀ (s : State),
      s.pwr.off = 0 →
      exec .overcurrent s = .next (s.withDev (let d := s.toDev; (({ d with pwr := { d.pwr with ocLimit := 0 } } : Dev).coneFall).raise srcPWR 1 locModule 0).settleAll)) ∧
  (∀ (s : State) (mv : Nat) (iin : Nat) (pin : Nat),
      s.pwr.off = 0 →
      exec (.powerSample mv iin pin) s = .next (s.withDev (let d := s.toDev; let l := (pin :: d.pwr.samples).take d.avgWindow; let avg := l.sum / l.length; let d := ((d.put PWR_STAT_VIN onMod (min 65535 mv)).put PWR_STAT_IIN onMod (min 255 iin)).put PWR_STAT_PIN onMod (min 65535 avg); let e := ({ d with pwr := { d.pwr with samples := l } } : Dev).coneFall; { e with pwr := { e.pwr with throttle := if coneCap e.cone < avg then min 4 (e.pwr.throttle + 1) else if avg * 100 ≤ coneCap e.cone * 95 then e.pwr.throttle - 1 else e.pwr.throttle } }).settleAll)) ∧
  (∀ (s : State),
      s.pwr.off = 0 →
      s.toDev.get PWR_STAT_IIN onMod ≤ 84 →
      exec .coneRise s = .next (s.withDev (let d := s.toDev; ({ d with pwr := { d.pwr with ocLimit := min 7 (d.pwr.ocLimit + 1) } } : Dev).setCone (min d.coneLimit (d.cone + 1))).settleAll)) ∧
  (∀ (s : State),
      s.pwr.off = 0 →
      s.toDev.pwr.throttle = 4 →
      coneCap s.toDev.cone < s.toDev.get PWR_STAT_PIN onMod →
      exec .capmiss s = .next (s.withDev (let d := s.toDev; ((d.put PWR_STAT_CAPMISS onMod 1).inc .PWR_CAPMISS onMod).raise srcPWR 2 locModule 0).settleAll)) ∧
  (∀ (s : State) (tj : Nat) (die : Fin 4),
      s.pwr.off = 0 →
      400 ≤ tj →
      0 < (s.toDev.setTj tj die.val).thermalLimit →
      exec (.thermalFall tj die) s = .next (s.withDev (let d := s.toDev; ((d.setTj tj die.val).inc .PWR_THROTTLE onMod).setThermal ((d.setTj tj die.val).thermalLimit - 1)).settleAll)) ∧
  (∀ (s : State) (tj : Nat) (die : Fin 4),
      s.pwr.off = 0 →
      tj < 388 →
      exec (.thermalRise tj die) s = .next (s.withDev (let d := s.toDev; (d.setTj tj die.val).setThermal (min 7 ((d.setTj tj die.val).thermalLimit + 1))).settleAll)) ∧
  (∀ (s : State) (tj : Nat) (die : Fin 4) (e : Dev),
      s.pwr.off = 0 →
      460 ≤ tj →
      e = s.toDev.setTj tj die.val →
      e.pwr.off ≠ 3 →
      exec (.thermalShutdown tj die) s = .next (s.withDev (({ (e.storeShutdown 3).faultCause 2 with pwr := { ((e.storeShutdown 3).faultCause 2).pwr with cycled := false } } : Dev).powerOff 3).settleAll)) ∧
  (∀ (s : State) (tj : Nat),
      s.toDev.pwr.off = 3 →
      s.toDev.pwr.cycled = true →
      tj < 360 →
      exec (.thermalRestart tj) s = .next (s.withDev (let e := (let d := s.toDev; (d.powerOn.faultN (fun f => { f with shutdown := false })).reset locModule 5 none); if e.pwr.off = 0 then e.settleAll else e))) ∧
  (∀ (s : State) (q : Fin 4) (scope : Nat),
      s.pwr.off = 0 →
      s.toDev.stopFails q.val scope = none →
      scope < 4 →
      exec (.domainStop q scope) s = .next (s.withDev (let d := s.toDev; (((({ d with pwr := { d.pwr with cmd := Tab.put d.pwr.cmd q.val (1, scope) } } : Dev).domNamed q.val scope).domStatus q.val ST_OK).put PWR_DOMCTL_BUSY (onDie q.val) 1).enterRegions q.val [q.val * 4 + scope]).settleAll)) ∧
  (∀ (s : State) (q : Fin 4) (scope : Nat),
      s.pwr.off = 0 →
      scope < 4 →
      s.toDev.scopeEntering q.val scope = false →
      s.toDev.domRunning q.val = false →
      exec (.domainWake q scope) s = .next (s.withDev (let d := s.toDev; ((d.wakeRegion (q.val * 4 + scope)).domNamed q.val scope).domStatus q.val ST_OK).settleAll)) ∧
  (∀ (s : State) (q : Fin 4) (scope : Nat) (e : Dev),
      s.pwr.off = 0 →
      Tab.find s.toDev.pwr.cmd q.val = some (1, scope) →
      scope < 4 →
      e = s.toDev.each (Dev.regionsOf q.val) (fun m d => d.regionEnters m) →
      e.regionState (q.val * 4 + scope) = domSTOP →
      exec (.stopEntryComplete q) s = .next (s.withDev (e.domDone q.val ST_OK).settleAll)) ∧
  (∀ (s : State) (q : Fin 4) (scope : Nat),
      s.pwr.off = 0 →
      Tab.find s.toDev.pwr.cmd q.val = some (1, scope) →
      exec (.stopEntryTimeout q) s = .next (s.withDev (let d := s.toDev; d.abortEntry q.val).settleAll)) ∧
  (∀ (s : State) (q : Fin 4) (scope : Nat),
      s.pwr.off = 0 →
      scope < 4 →
      exec (.wakeComplete q scope) s = .next (s.withDev (let d := s.toDev; d.wakesEnd [q.val * 4 + scope] []).settleAll)) ∧
  (∀ (s : State),
      s.pwr.off = 0 →
      s.toDev.pwr.ref = true →
      exec .referenceLoss s = .next (s.withDev (let d := s.toDev; (({ d with pwr := { d.pwr with ref := false } } : Dev).inc .CLK_REFLOSS onMod).raise srcCLK 1 locModule 0).settleAll)) ∧
  (∀ (s : State),
      s.pwr.off = 0 →
      s.toDev.pwr.ref = false →
      s.toDev.clkRec = none →
      exec .referenceReturn s = .next (s.withDev (let d := s.toDev; ({ d with pwr := { d.pwr with ref := true } } : Dev)).settleAll)) ∧
  (∀ (s : State) (slot : Nat),
      s.pwr.off = 0 →
      s.toDev.clkRec = some slot →
      s.toDev.pwr.ref = false →
      exec .holdoverTimeout s = .next (s.withDev (let d := s.toDev; d.windowExpires slot false).settleAll)) ∧
  (∀ (s : State),
      s.toDev.pwr.off = 4 →
      exec .refclkArrival s = .next (s.withDev (let e := (let d := s.toDev; ({ d with pwr := { d.pwr with ref := true, off := 0 } } : Dev)); if e.pwr.off = 0 then e.settleAll else e)))

/-- Completion (17_faults_test.md): fault records, the ladder, FAULT_N, memory errors and Kiln. Each clause gives, for one command, the state and the operands on which
it completes and the whole state it leaves; `settleAll` is the work that the change sets in motion. -/
def Obligations.CompletionFault : Prop :=
  (∀ (s : State) (slot : Nat) (unserviced : Bool) (r : FRec),
      s.pwr.off = 0 →
      s.toDev.frec slot = some r →
      r.state = 1 →
      r.rung ≠ 0 →
      s.toDev.condPresent r unserviced = true →
      exec (.faultWindowExpiry slot unserviced) s = .next (s.withDev (let d := s.toDev; d.actRec slot r.rung).settleAll)) ∧
  (∀ (s : State) (slot : Nat) (unserviced : Bool) (r : FRec) (n : Nat),
      s.pwr.off = 0 →
      s.toDev.frec slot = some r →
      r.state = 2 →
      s.toDev.condPresent r unserviced = true →
      nextRung r.loc r.rung r.ceiling = some n →
      exec (.escalationTimeout slot unserviced) s = .next (s.withDev (let d := s.toDev; d.actRec slot n).settleAll)) ∧
  (∀ (s : State) (id : Fin 65536) (slot : Nat) (r : FRec),
      s.pwr.off = 0 →
      s.toDev.recOf id.val = some (slot, r) →
      exec (.faultClear id) s = .next (s.withDev (let d := s.toDev; (d.closeRec slot 1).ackStatus ST_OK).settleAll)) ∧
  (∀ (s : State) (id : Fin 65536) (slot : Nat) (r : FRec),
      s.pwr.off = 0 →
      s.toDev.recOf id.val = some (slot, r) →
      r.state = 1 →
      r.rung ≠ 0 →
      exec (.faultActNow id) s = .next (s.withDev (let d := s.toDev; (d.ackStatus ST_OK).actRec slot r.rung).settleAll)) ∧
  (∀ (s : State) (n : Nat),
      s.pwr.off = 0 →
      exec (.carryExpiry n) s = .next (s.withDev (let d := s.toDev; { d with flt := { d.flt with carry := d.flt.carry.eraseIdx n } }).settleAll)) ∧
  (∀ (s : State),
      s.pwr.off = 0 →
      s.toDev.flt.holding = false →
      exec .faultnRelease s = .next (s.withDev (let d := s.toDev; d.faultN (fun f => { f with latch := false })).settleAll)) ∧
  (∀ (s : State),
      s.pwr.off = 0 →
      s.toDev.flt.holding = true →
      exec .faultnRelease s = .next (s.withDev (let d := s.toDev; { d with flt := { d.flt with pendRelease := true } }).settleAll)) ∧
  (∀ (s : State) (on : Bool),
      s.pwr.off = 0 →
      exec (.faultnForce on) s = .next (s.withDev (let d := s.toDev; (d.putB FLT_FAULTN_FORCE onMod on).faultN (fun f => { f with force := on, holding := f.holding || on })).settleAll)) ∧
  (∀ (s : State),
      exec .faultnHoldEnd s = .next (s.withDev (let e := (let d := s.toDev; d.faultN (fun f => { f with holding := false, latch := f.latch && !f.pendRelease, pendRelease := false })); if e.pwr.off = 0 then e.settleAll else e))) ∧
  (∀ (s : State),
      s.pwr.off = 0 →
      exec .storeErase s = .next (s.withDev (let d := s.toDev; let d := d.storeWipe; { d with flt := { d.flt with store := Tab.put d.flt.store d.flt.storeNext ⟨d.flt.storeSeq + 1, d.now / 1000, [0, 0, 0, 0], 4, 0, d.flt.dropped⟩, storeSeq := d.flt.storeSeq + 1, storeNext := (d.flt.storeNext + 1) % 4096, dropped := 0 } }.put FLT_STORECMD_STATUS onMod ST_OK).settleAll)) ∧
  (∀ (s : State) (q : Fin 4),
      s.pwr.off = 0 →
      exec (.zoruriWatchdog q) s = .next (s.withDev (let d := s.toDev; d.raise srcZORURI 1 (locDie q.val) 0).settleAll)) ∧
  (∀ (s : State) (q : Fin 4),
      s.pwr.off = 0 →
      exec (.zoruriException q) s = .next (s.withDev (let d := s.toDev; d.raise srcZORURI 2 (locDie q.val) 0).settleAll)) ∧
  (∀ (s : State) (q : Fin 4),
      s.pwr.off = 0 →
      exec (.saggarWatchdog q) s = .next (s.withDev (let d := s.toDev; d.raise srcSAG 2 (locDie q.val) 0).settleAll)) ∧
  (∀ (s : State) (q : Fin 4) (kind : Nat) (x : Nat) (y : Nat) (z : Nat),
      s.pwr.off = 0 →
      kind = 1 →
      exec (.memoryError q kind x y z) s = .next (s.withDev (let d := s.toDev; (d.poisonSlot (q.val * 262144 + (x % 4) * 65536 + y % 65536) z).raise srcMEMORY 1 (locRegion (q.val * 4 + x % 4)) (y % 65536)).settleAll)) ∧
  (∀ (s : State) (q : Fin 4) (kind : Nat) (x : Nat) (y : Nat) (z : Nat),
      s.pwr.off = 0 →
      kind = 2 →
      exec (.memoryError q kind x y z) s = .next (s.withDev (let d := s.toDev; ((d.sramHit q.val y z).inc .QDC_ECCUNC ⟨q.val, sramChannel y z x⟩).raise srcMEMORY 2 (locUnit q.val 6 (sramChannel y z x)) 0).settleAll)) ∧
  (∀ (s : State) (q : Fin 4) (v : Word) (w : Word) (e : Dev),
      s.pwr.off = 0 →
      KLN_CMD_GO.of (v ||| KLN_CMD_GO.mask) ≠ 0 →
      w = v ||| KLN_CMD_GO.mask →
      e = s.toDev.wrFields .KLN_CMD (onDie q.val) w →
      s.toDev.kilnFails q.val (KLN_CMD_TEST.of w) (KLN_CMD_TARGET.of w) = none →
      exec (.kilnGo q v) s = .next (s.withDev (((((({ e with kln := { e.kln with run := Tab.put e.kln.run q.val (KLN_CMD_TEST.of w, KLN_CMD_TARGET.of w, max 1 (KLN_CMD_PARAM.of w)) } } : Dev).put KLN_RESULT_STATUS (onDie q.val) ST_OK).put KLN_RESULT_STATE (onDie q.val) 1).put KLN_RESULT_FAILS (onDie q.val) 0).put KLN_RESULT_FIRST (onDie q.val) 0)).settleAll)) ∧
  (∀ (s : State) (q : Fin 4) (fails : Nat) (first : Nat) (tx : Nat) (rx : Nat) (t x n : Nat),
      s.pwr.off = 0 →
      s.toDev.kilnRun q.val = some (t, x, n) →
      fails = 0 →
      exec (.kilnTestDone q fails first tx rx) s = .next (s.withDev (let d := s.toDev; (((((({ d with kln := { d.kln with run := Tab.del d.kln.run q.val } } : Dev).kilnEffect q.val t x 0 tx rx).put KLN_RESULT_STATE (onDie q.val) 2).put KLN_RESULT_FAILS (onDie q.val) 0).put KLN_RESULT_FIRST (onDie q.val) first).inc .KLN_RUNS (onDie q.val))).settleAll))

/-- Completion (18_performance_counters.md): programmable counters and the snapshot reader. Each clause gives, for one command, the state and the operands on which
it completes and the whole state it leaves; `settleAll` is the work that the change sets in motion. -/
def Obligations.CompletionPmc : Prop :=
  (∀ (s : State) (q : Fin 4) (k : Fin 256) (v : Word) (m : Nat),
      s.pwr.off = 0 →
      (s.toDev.sys.formS && 0x10 ≤ PMC_SEL_BLOCK.of v && PMC_SEL_BLOCK.of v ≤ 0x14) = false →
      pmcEvent (PMC_SEL_BLOCK.of v) (PMC_SEL_INSTANCE.of v) (PMC_SEL_EVENT.of v) = some m →
      PMC_SEL_FILTER.of v &&& m = PMC_SEL_FILTER.of v →
      exec (.pmcSelWrite q k v) s = .next (s.withDev (let d := s.toDev; (d.wrFields .PMC_SEL ⟨q.val, k.val⟩ v).put PMC_SEL_STATUS ⟨q.val, k.val⟩ ST_OK).settleAll)) ∧
  (∀ (s : State) (q : Fin 4) (k : Fin 256) (v : Word),
      s.pwr.off = 0 →
      exec (.pmcCntWrite q k v) s = .next (s.withDev (let d := s.toDev; d.wrFields .PMC_CNT ⟨q.val, k.val⟩ v).settleAll)) ∧
  (∀ (s : State) (path : Path) (q : Fin 4) (k : Fin 256),
      s.pwr.off = 0 →
      k.val % 2 = 0 →
      (s.toDev.emit (.readValue (pathOut path) (s.toDev.shown .PMC_CNT q.val k.val))).chained q.val (k.val + 1) = true →
      exec (.pmcCntRead path q k) s = .next (s.withDev (let d := s.toDev; let e := d.emit (.readValue (pathOut path) (d.shown .PMC_CNT q.val k.val)); e.put PMC_CHAINHI_VALUE (onDie q.val) (e.get PMC_CNT_VALUE ⟨q.val, k.val + 1⟩)).settleAll)) ∧
  (∀ (s : State) (q : Fin 4) (k : Fin 256),
      s.pwr.off = 0 →
      s.toDev.bit PMC_SEL_EN ⟨q.val, k.val⟩ = true →
      s.toDev.chained q.val k.val = false →
      exec (.counterWrap q k) s = .next (s.withDev (let d := s.toDev; d.pmcAdd q.val k.val (2 ^ 48 - d.get PMC_CNT_VALUE ⟨q.val, k.val⟩)).settleAll)) ∧
  (∀ (s : State),
      s.pwr.off = 0 →
      exec .pmcGo s = .next (s.withDev (let d := s.toDev; d.snapTrigger 2).settleAll)) ∧
  (∀ (s : State),
      s.pwr.off = 0 →
      s.toDev.get PMC_TRIG_PERIOD onMod ≠ 0 →
      exec .snapshotPeriod s = .next (s.withDev (let d := s.toDev; d.snapTrigger 1).settleAll)) ∧
  (∀ (s : State) (ok : Bool) (s2 : Snap),
      s.pwr.off = 0 →
      s.toDev.pmc.snap = some s2 →
      s2.stalled = false →
      s2.written ≠ 0 →
      ok = true →
      exec (.snapshotWritten ok) s = .next (s.withDev (let d := s.toDev; d.snapLines s2.lines).settleAll)) ∧
  (∀ (s : State) (v : Word),
      s.pwr.off = 0 →
      idx32 v.toNat (s.toDev.get PMC_RINGCI_CI onMod) ≤ idx32 (s.toDev.get PMC_RINGPI_PI onMod) (s.toDev.get PMC_RINGCI_CI onMod) →
      exec (.ringCiWrite v) s = .next (s.withDev (let d := s.toDev; d.put PMC_RINGCI_CI onMod v.toNat).settleAll)) ∧
  (∀ (s : State) (v : Word) (w : Word),
      s.pwr.off = 0 →
      w = v ||| PMC_RINGCTL_EN.mask →
      PMC_RINGCTL_PATH.of w = 0 →
      PMC_RINGCTL_EN.of w = 1 →
      exec (.ringEnable v) s = .next (s.withDev (let d := s.toDev; let e := ((((d.wrFields .PMC_RINGCTL onMod w).put PMC_RINGCTL_STATUS onMod ST_OK).put PMC_RINGPI_PI onMod 0).put PMC_RINGCI_CI onMod 0); ({ e with pmc := { e.pmc with seq := 0, snap := e.pmc.snap.map (fun s => ({ s with written := 0 } : Snap)) } } : Dev)).settleAll))

/-- Completion (19_register_map.md, 20_pins_electrical_mechanical.md): register accesses on every path, the register windows, JTAG and SMBus. Each clause gives, for one command, the state and the operands on which
it completes and the whole state it leaves; `settleAll` is the work that the change sets in motion. -/
def Obligations.CompletionAccess : Prop :=
  (∀ (s : State) (via : Via) (a : Nat) (v : Word),
      s.pwr.off = 0 →
      ¬ (via.path = .mgmt ∧ s.toDev.boot.step = 0) →
      via.path.isBar = false →
      via.whole = true →
      s.toDev.serves ⟨via.path, a, some v, 0, 0⟩ →
      exec (.registerWrite via a v) s = .next (s.withDev (let d := s.toDev; ((d.reachDomain a).writeAt via.path a v).accessEnds ⟨via.path, a, some v, 0, 0⟩ (.done v)).settleAll)) ∧
  (∀ (s : State) (via : Via) (a : Nat) (v : Word),
      s.pwr.off = 0 →
      via.path.isBar = false →
      via.whole = false →
      exec (.registerWrite via a v) s = .next (s.withDev (let d := s.toDev; d.narrowAccess ⟨via.path, a, some v, 0, 0⟩).settleAll)) ∧
  (∀ (s : State) (via : Via) (a : Nat) (v : Word) (h : Fin 5) (f : Fin 256) (b : Fin 3),
      s.pwr.off = 0 →
      via.path = .bar h f b →
      exec (.registerWrite via a v) s = .next (s.withDev (let d := s.toDev; d.barAccess h f b a via.whole (some v)).settleAll)) ∧
  (∀ (s : State) (via : Via) (a : Nat),
      s.pwr.off = 0 →
      ¬ (via.path = .mgmt ∧ s.toDev.boot.step = 0) →
      via.path.isBar = false →
      via.whole = true →
      s.toDev.serves ⟨via.path, a, none, 0, 0⟩ →
      exec (.rcRead via a) s = .next (s.withDev (let d := s.toDev; (((d.reachDomain a).readAt via.path a).1).accessEnds ⟨via.path, a, none, 0, 0⟩ (.done ((d.reachDomain a).readAt via.path a).2)).settleAll)) ∧
  (∀ (s : State) (via : Via) (a : Nat),
      s.pwr.off = 0 →
      via.path.isBar = false →
      via.whole = false →
      exec (.rcRead via a) s = .next (s.withDev (let d := s.toDev; d.narrowAccess ⟨via.path, a, none, 0, 0⟩).settleAll)) ∧
  (∀ (s : State) (via : Via) (a : Nat) (h : Fin 5) (f : Fin 256) (b : Fin 3),
      s.pwr.off = 0 →
      via.path = .bar h f b →
      exec (.rcRead via a) s = .next (s.withDev (let d := s.toDev; d.barAccess h f b a via.whole none).settleAll)) ∧
  (∀ (s : State) (w : Fin 5) (set : Option Word) (whole : Bool) (a : Nat),
      s.pwr.off = 0 →
      s.toDev.windowLive w.val = true →
      (w.val = 0 ∧ s.toDev.boot.step = 0) = False →
      set = none →
      whole = true →
      a = s.toDev.windowAddr w.val % 2 ^ 36 →
      exec (.windowDataRead w set whole) s = .next (s.withDev (let d := s.toDev; (d.setWindowAddr w.val (addrNext (d.windowAddr w.val))).runAccess ⟨windowPath w.val, a, none, 0, 0⟩).settleAll)) ∧
  (∀ (s : State) (w : Fin 5) (set : Option Word) (whole : Bool) (v : Word) (a : Nat),
      s.pwr.off = 0 →
      s.toDev.windowLive w.val = true →
      (w.val = 0 ∧ s.toDev.boot.step = 0) = False →
      set = none →
      whole = true →
      a = s.toDev.windowAddr w.val % 2 ^ 36 →
      exec (.windowDataWrite w set whole v) s = .next (s.withDev (let d := s.toDev; (d.setWindowAddr w.val (addrNext (d.windowAddr w.val))).runAccess ⟨windowPath w.val, a, some v, 0, 0⟩).settleAll)) ∧
  (∀ (s : State) (op : Nat) (addr : Nat) (v : Word),
      s.pwr.off = 0 →
      op = 1 →
      exec (.regaccUpdate op addr v) s = .next (s.withDev (let d := s.toDev; ({ d with acc := { d.acc with jtag := (addr % 2 ^ 36, v.toNat, 1) } } : Dev).runAccess ⟨.jtag, addr % 2 ^ 36, none, 0, 0⟩).settleAll)) ∧
  (∀ (s : State) (op : Nat) (addr : Nat) (v : Word),
      s.pwr.off = 0 →
      op = 2 →
      exec (.regaccUpdate op addr v) s = .next (s.withDev (let d := s.toDev; ({ d with acc := { d.acc with jtag := (addr % 2 ^ 36, v.toNat, 1) } } : Dev).runAccess ⟨.jtag, addr % 2 ^ 36, some v, 0, 0⟩).settleAll)) ∧
  (∀ (s : State),
      s.pwr.off = 0 →
      exec .regaccCapture s = .next (s.withDev (let d := s.toDev; d.emit (.jtag d.acc.jtag.2.2 (BitVec.ofNat 64 d.acc.jtag.2.1))).settleAll)) ∧
  (∀ (s : State) (adr : Nat) (code : Nat),
      adr = 0x58 + s.toDev.sys.straps →
      s.toDev.pwr.vin = true →
      exec (.smbusRead adr code) s = .next (s.withDev (let e := (let d := s.toDev; d.emit (.smbus ((d.smbusValue code).getD []))); if e.pwr.off = 0 then e.settleAll else e)))

/-- R36: the three conditions of a valid map over the eight lanes of a cluster, `mapCode w i` the code of lane i. -/
def Obligations.MapsAreValid : Prop :=
∀ w : Nat, mapValid w = true ↔
    ((∀ i < 8, mapCode w i ≠ 0 → i % codeWidth (mapCode w i) = 0) ∧
     (∀ i < 8, mapCode w i = 0 → ∃ j < i, mapCode w j ≠ 0 ∧ i < j + codeWidth (mapCode w j)) ∧
     (∀ i < 8, ∀ j < i, mapCode w j ≠ 0 → i < j + codeWidth (mapCode w j) → mapCode w i = 0))

/-- R37. The lanes of cluster c are 8c to 8c + 7; a lane whose code is not 0 is the first lane of a port. -/
def Obligations.ClusterMapWrites : Prop :=
∀ (d : Dev) (c : Fin 64) (v : Word),
    let a : At := ⟨c.val / 16, c.val % 16⟩
    let idle := ∀ i < 8, mapCode (d.get LAN_CLMAP_WIDTHS a) i ≠ 0 ∨ mapCode (LAN_CLMAP_WIDTHS.of v) i ≠ 0 →
      d.lstate (8 * c.val + i) = DISABLED ∨ d.lstate (8 * c.val + i) = OUT_OF_SERVICE
    (mapValid (LAN_CLMAP_WIDTHS.of v) = false →
      d.onlyFields (d.clusterMap c.val v) [(LAN_CLMAP_STATUS, a)] ∧ (d.clusterMap c.val v).get LAN_CLMAP_STATUS a = ST_BAD_PARAM) ∧
    (mapValid (LAN_CLMAP_WIDTHS.of v) = true → ¬ idle →
      d.onlyFields (d.clusterMap c.val v) [(LAN_CLMAP_STATUS, a)] ∧ (d.clusterMap c.val v).get LAN_CLMAP_STATUS a = ST_BUSY_IN_SERVICE) ∧
    (mapValid (LAN_CLMAP_WIDTHS.of v) = true → idle →
      (d.clusterMap c.val v).get LAN_CLMAP_WIDTHS a = LAN_CLMAP_WIDTHS.of v ∧ (d.clusterMap c.val v).get LAN_CLMAP_STATUS a = ST_OK)

/-- R39, for every lane and every written word. -/
def Obligations.CoefficientLimits : Prop :=
∀ (d : Dev) (l : Fin 512) (v : Word),
    let a := onLane l.val
    let e := d.txeq l.val v
    d.onlyFields e [(LAN_TXEQ_OVR, a), (LAN_TXEQ_EQERR, a), (LAN_TXEQ_PRE, a), (LAN_TXEQ_POST, a), (LAN_TXEQ_MAIN, a)] ∧
    (if LAN_TXEQ_PRE.of v ≤ 15 ∧ LAN_TXEQ_POST.of v ≤ 24 ∧ LAN_TXEQ_PRE.of v + LAN_TXEQ_POST.of v ≤ 24 then
       e.get LAN_TXEQ_PRE a = LAN_TXEQ_PRE.of v ∧ e.get LAN_TXEQ_POST a = LAN_TXEQ_POST.of v
     else e.get LAN_TXEQ_PRE a = d.get LAN_TXEQ_PRE a ∧ e.get LAN_TXEQ_POST a = d.get LAN_TXEQ_POST a ∧ e.get LAN_TXEQ_EQERR a = 1)

/-- R66: the unique value in [oldest unacknowledged, next to send] whose low 15 bits equal ACK, as the count of flits that it acknowledges. -/
def Obligations.AcknowledgeWindow : Prop :=
∀ (l : Link) (ack : Nat), ack < 32768 → l.window.length ≤ 16384 →
    (∀ n, l.ackCount ack = some n ↔ n ≤ l.window.length ∧ (l.oldest + n) % 32768 = ack) ∧
    (∀ n m, n ≤ l.window.length → m ≤ l.window.length → (l.oldest + n) % 32768 = ack → (l.oldest + m) % 32768 = ack → n = m)

/-- R136: against a port that is UP or draining the module refuses the write with ST_BAD_STATE and does nothing. -/
def Obligations.ReleaseRefused : Prop :=
∀ (d : Dev) (p : Fin 512) (scope : Nat), d.pexists p.val = true → 1 ≤ scope → scope ≤ 3 → (d.lstate p.val = UP ∨ d.draining p.val = true) →
    d.onlyFields (d.prtRelease p.val scope) [(PRT_RELEASE_STATUS, onLane p.val)] ∧
    (d.prtRelease p.val scope).get PRT_RELEASE_STATUS (onLane p.val) = ST_BAD_STATE

/-- R13: the route from die a to die b of a packet that enters at `ing` and leaves at `eg`. -/
def Obligations.BridgeRoutes : Prop :=
∀ (d : Dev) (a b : Fin 4) (ing eg : Nat), a ≠ b → (∀ q e : Fin 4, d.bridgeUp q.val e.val = true) → (∀ q : Fin 4, d.dieAway q.val = false) →
    d.route a.val b.val ing eg 0 =
      (if a.val ^^^ b.val ≠ 3 then some [a.val, b.val]
       else if ones (ing ^^^ eg) % 2 = 0 then some [a.val, if a.val = 0 ∨ a.val = 3 then 1 else 0, b.val]
       else some [a.val, if a.val = 0 ∨ a.val = 3 then 2 else 3, b.val])

/-- Table windows hold what is written (R464, spec/19), and reserved bits read as zero (R9, Table 5-1); a bank that is not valid takes every write
(R120, R123). -/
def Obligations.RouteReadsBack : Prop :=
∀ (d : Dev) (q : Fin 4) (bank : Fin 2) (w : Fin 65536) (v : Word), d.bankValid q.val bank.val = false →
    let e := d.routeWrite q.val bank.val w.val v
    e.routeEntry q.val bank.val (2 * w.val) = v.toNat % 2 ^ 32 ∧ e.routeEntry q.val bank.val (2 * w.val + 1) = v.toNat / 2 ^ 32 ∧
    e.readTbl q.val (.route bank.val w.val) = v.toNat % 2 ^ 16 + v.toNat / 2 ^ 32 % 2 ^ 16 * 2 ^ 32 ∧
    (∀ (x : Fin 4) (y : Fin 2) (n : Fin 131072), ¬ (x = q ∧ y = bank ∧ n.val / 2 = w.val) →
      e.routeEntry x.val y.val n.val = d.routeEntry x.val y.val n.val) ∧
    { e with win := { e.win with route := d.win.route } } = d

/-- R213: the order of the pairs, a fence that is ignored, and what the application of one stores. -/
def Obligations.FenceOrder : Prop :=
(∀ a b : Nat × Nat, pairAbove a b = true ↔ b.1 < a.1 ∨ (a.1 = b.1 ∧ b.2 < a.2)) ∧
  (∀ (d : Dev) (e gen orig : Nat) (node set : Bool), (∀ q : Fin 4, pairAbove (gen, orig) (d.fencePair q.val (epNode e)) = false) →
    d.fenceSpread e node set gen orig = d) ∧
  (∀ (d : Dev) (q : Fin 4) (e gen orig : Nat) (node set : Bool), let f := d.applyFence q.val e node set gen orig
    f.fencePair q.val (epNode e) = (gen, orig) ∧
    f.nodeFenced q.val (epNode e) = (if node then set else d.nodeFenced q.val (epNode e)) ∧
    f.epFenced q.val e = (if node then d.epFenced q.val e else set))

/-- R235, for a doorbell of function f to its queue n of kind k, the global queue g of die q. -/
def Obligations.ConsumerDoorbells : Prop :=
∀ (d : Dev) (q : Fin 4) (f : Fin 256) (k n g : Nat) (w : Word), (k = kCQ ∨ k = kEQ) → d.globalOf q.val f.val k n = some g →
    let c := w.toNat % 2 ^ 32
    let e := d.consumerDoorbell q.val k f.val n w true
    (d.queue q.val k g = none → e = d.inc .HST_DBIGN (onDie q.val)) ∧
    (∀ x, d.queue q.val k g = some x → idx32 x.pi x.ci < idx32 c x.ci → e = d.inc .HST_DBERR (onDie q.val)) ∧
    (∀ x, d.queue q.val k g = some x → idx32 c x.ci ≤ idx32 x.pi x.ci →
      ∃ y, e.queue q.val k g = some y ∧ y.ci = c ∧ y.state = x.state)

/-- R250, with free = size - (PI - CI) of the completion queue c that queue x is bound to. -/
def Obligations.AdmissionBound : Prop :=
∀ (d : Dev) (q : Fin 4) (x c : Queue) (n : Nat), d.cqOf q.val x = some (n, c) →
    (d.cqAdmits q.val x = true ↔ c.owed < (2 ^ c.log2 - idx32 c.pi c.ci) + 64) ∧
    (d.cqAdmit q.val x).queue q.val kCQ n = some { c with owed := c.owed + 1, stall := false } ∧
    (d.cqRefuse q.val x).queue q.val kCQ n = some { c with stall := true } ∧
    ((d.cqRefuse q.val x).rd .QUE_CQREFUSE (onDie q.val)).toNat = min (2 ^ 48 - 1) ((d.rd .QUE_CQREFUSE (onDie q.val)).toNat % 2 ^ 48 + 1)

/-- R267, R269: the target answers a duplicate without placing it, refuses what is beyond the window, and drops a request of no context. -/
def Obligations.DuplicatesNeverExecute : Prop :=
∀ (d : Dev) (q : Nat) (k : Packet) (g h : Conn → Packet → Bool → Dev → Dev),
    (d.ctxOf q k = none → d.requestIn q k g = d.inc .RMX_DROPCONN (onDie q)) ∧
    (∀ x, d.ctxOf q k = some x → x.isDone k.psn = true → k.type ≠ tGET_REQ → d.requestIn q k g = d.requestIn q k h) ∧
    (∀ x, d.ctxOf q k = some x → x.isDone k.psn = false → winOf x.rxwin < psnDist k.psn x.dm → d.requestIn q k g = d.requestIn q k h) ∧
    (∀ x, d.ctxOf q k = some x → x.state = connERROR → x.isDone k.psn = false → d.requestIn q k g = d.requestIn q k h)

/-- R287, R289: the outcome of a scan of the posted list from its lowest stamp; the list of a function stands in the order of its stamps. -/
def Obligations.LowestStampMatches : Prop :=
∀ (d : Dev) (q f context tag src : Nat),
    (∀ i o, d.postedMatch q f context tag src = some (i, o) → d.op i = some o ∧ keyMatches o.desc context tag src = true ∧
      ∃ before after, d.posted q f = before ++ i :: after ∧
        ∀ j ∈ before, ∀ p, d.op j = some p → keyMatches p.desc context tag src = false) ∧
    (d.postedMatch q f context tag src = none → ∀ j ∈ d.posted q f, ∀ p, d.op j = some p → keyMatches p.desc context tag src = false)

/-- R311, R312: entries that overlap a loaded entry leave in the same step. -/
def Obligations.LoadedPagesApart : Prop :=
∀ (d : Dev) (q : Nat) (e : XEnt),
    (d.l2 q).Pairwise (fun x y => x.overlaps y.space y.va (y.va + 2 ^ y.size) = false) →
    ((d.loadEnt q e).l2 q).Pairwise (fun x y => x.overlaps y.space y.va (y.va + 2 ^ y.size) = false) ∧
    ((d.loadEnt q e).l2 q).head?.map (fun x => (x.space, x.va, x.size)) = some (e.space, e.va, e.size)

/-- R356, while no verification runs. -/
def Obligations.OperatorKeyOnce : Prop :=
∀ (d : Dev) (q : Fin 4) (path : Path), d.tokBusy = false →
    (path = .mgmt → d.lifeCycle = 2 → d.sys.opkey = none →
      (d.setOpkey q.val path).sys.opkey = some (ofBytes (d.bufBytes .SAG_TOKBUF q.val 6)) ∧
      (d.setOpkey q.val path).get SAG_TOKCMD_STATUS onMod = ST_OK) ∧
    (¬ (path = .mgmt ∧ d.lifeCycle = 2 ∧ d.sys.opkey = none) →
      d.onlyFields (d.setOpkey q.val path) [(SAG_TOKCMD_STATUS, onMod)] ∧ (d.setOpkey q.val path).get SAG_TOKCMD_STATUS onMod = ST_NOT_PERMITTED)

/-- R376. Slots: 0 FACTORY at 0x0010_0000, 1 slot A, 2 slot B, 32 MiB each. A program covers 256 bytes, an erase 64 KiB, aligned, so each lies in one range. -/
def Obligations.FlashProtected : Prop :=
∀ (d : Dev) (v : Word), d.bit CFG_FLASHCMD_BUSY onMod = false →
    let a := CFG_FLASHCMD_ADDR.of v
    (d.get CFG_CTRL_FLASH_WE onMod = 0 ∨ a < 0x100000 ∨
      (∃ s, 0x100000 + s * 0x2000000 ≤ a ∧ a < 0x100000 + (s + 1) * 0x2000000 ∧ s < 3 ∧
        ((s = 0 ∧ d.lifeCycle ≠ 1) ∨ s = d.boot.dir.active ∨ (d.boot.dir.trialState ≠ 0 ∧ s = d.boot.dir.trialSlot)))) →
    ∀ g unit, (g = Dev.flashProgramCmd ∧ unit = 256) ∨ (g = Dev.flashEraseCmd ∧ unit = 65536) → a % unit = 0 →
      (d.flashCommand v g).get CFG_FLASHCMD_STATUS onMod = ST_NOT_PERMITTED ∧
      { d.flashCommand v g with regs := d.regs } = d ∧
      ∀ (f : Fld) (b : At), f ∈ f.reg.flds → b.die < 4 → ¬ (f.reg = .CFG_FLASHCMD ∧ b = onMod) → (d.flashCommand v g).get f b = d.get f b

/-- R414; TJ in quarter degrees. -/
def Obligations.ThermalLimitMoves : Prop :=
∀ (d : Dev) (tj : Nat) (die : Fin 4), d.thermalLimit ≤ 7 →
    (d.thermalFall tj die.val).thermalLimit = (if 400 ≤ tj then d.thermalLimit - 1 else d.thermalLimit) ∧
    (400 ≤ tj → 0 < d.thermalLimit → (d.thermalFall tj die.val).get PWR_THERM_THROTTLE onMod = 1 ∧
      ((d.thermalFall tj die.val).rd .PWR_THROTTLE onMod).toNat = min (2 ^ 48 - 1) ((d.rd .PWR_THROTTLE onMod).toNat % 2 ^ 48 + 1)) ∧
    (d.thermalRise tj die.val).thermalLimit = (if tj < 388 then min 7 (d.thermalLimit + 1) else d.thermalLimit) ∧
    (tj < 388 → (d.thermalRise tj die.val).get PWR_THERM_THROTTLE onMod = if d.thermalLimit < 6 then 1 else 0)

/-- R436. -/
def Obligations.AcknowledgeUnknownRecord : Prop :=
∀ (d : Dev) (id : Nat), d.recOf id = none → ∀ e, e = d.ackClear id ∨ e = d.ackAct id →
    d.onlyFields e [(FLT_ACK_STATUS, onMod)] ∧ e.get FLT_ACK_STATUS onMod = ST_BAD_STATE

/-- R442. `holding` is the millisecond after the latest cause. -/
def Obligations.FaultPin : Prop :=
∀ d : Dev,
    (d.flt.holding = false → d.faultRelease.flt = { d.flt with latch := false } ∧
      d.faultRelease.flt.pin = (d.flt.isolate || d.flt.shutdown || d.flt.force)) ∧
    (d.flt.holding = true → d.faultRelease.flt = { d.flt with pendRelease := true } ∧ d.faultRelease.flt.pin = true) ∧
    (∀ on, (d.faultForce on).flt.force = on ∧ (d.faultForce on).flt.latch = d.flt.latch ∧ (d.faultForce on).flt.isolate = d.flt.isolate ∧
      (d.faultForce on).flt.shutdown = d.flt.shutdown ∧ (d.faultForce on).get FLT_FAULTN_FORCE onMod = on.toNat)

/-- R466, R467: the path is checked first; R2 and R464: a fused block reads as zero and ignores writes. -/
def Obligations.PathRefusal : Prop :=
(∀ (d : Dev) (x : Access), d.pathMay x.path x.addr x.data.isSome = false →
    (d.tryAccess x).2 = .refused ST_NOT_PERMITTED ∧
    d.onlyFields (d.tryAccess x).1 [(FLT_ACCERR_VALID, onMod), (FLT_ACCERR_PATH, onMod), (FLT_ACCERR_REASON, onMod), (FLT_ACCERR_ADDR, onMod), (FLT_ACCERR_COUNT, onMod)] ∧
    (d.get FLT_ACCERR_VALID onMod = 0 → (d.tryAccess x).1.get FLT_ACCERR_REASON onMod = 2)) ∧
  (∀ (d : Dev) (h : Fin 4) (a : Nat), adrBlk a = 0x20 → d.pathMay (.host h) a true = false) ∧
  (∀ (d : Dev) (path : Path) (a : Nat) (v : Word), d.sys.formS = true → 0x10 ≤ adrBlk a → adrBlk a ≤ 0x14 →
    d.writeAt path a v = d ∧ d.readAt path a = (d, 0))

/-- R21 and R26. Every reset is recorded as a fault of source RESET (log entry 94). -/
def Obligations.ResetScopes : Prop :=
(∀ (d : Dev) (cause : Nat) (act : Option Nat), d.reset (locDie 0) cause act = d.reset locModule cause act) ∧
  (∀ (d : Dev) (l : Loc) (cause : Nat) (act : Option Nat), l.level ≤ 3 ∨ (l.level = 4 ∧ l.die ≠ 0) → (∃ r ∈ d.flt.resets, r.contains l = true) →
    d.reset l cause act = d.raise srcRESET l.level l cause) ∧
  (∀ (d : Dev) (l r : Loc), (∀ m < 16, d.regionState m ≠ domWAKING) → (∀ q < 4, d.dieState q ≠ domWAKING) →
    (r ∈ (d.resetBegins l).flt.resets ↔ r = l ∨ (r ∈ d.flt.resets ∧ l.contains r = false)))

/-- R485: beyond the absolute maximum ratings no behaviour is stated (log entry 21); R408 up to them. -/
def Obligations.Overvoltage : Prop :=
(∀ (s : State) (mv : Nat), 20000 < mv → exec (.vinOvervoltage mv) s = .fault .beyondRatings) ∧
  (∀ (s : State) (mv : Nat), mv ≤ 20000 → ∃ t, exec (.vinOvervoltage mv) s = .next t)

/-- The registers that R39, R43, R51 and R54 name for each command; nothing is due after it (`quiet`). -/
def Obligations.LaneFrames : Prop :=
∀ (s t : State) (l : Fin 512),
    (∀ v, exec (.txeqWrite l v) s = .next t → (s.toDev.txeq l.val v).quiet →
      t.pending = s.pending ∧ s.toDev.onlyFields t.toDev (Reg.flds .LAN_TXEQ |>.map (fun f => (f, onLane l.val)))) ∧
    (∀ inv pk, exec (.acquireLock l inv pk) s = .next t → (s.toDev.acquireLock l.val inv pk.val).quiet →
      t.pending = s.pending ∧ s.toDev.onlyFields t.toDev ((Reg.flds .LAN_RXSTAT ++ Reg.flds .LAN_RXEQ).map (fun f => (f, onLane l.val)))) ∧
    (exec (.checkerLock l) s = .next t → (s.toDev.checkerLock l.val).quiet →
      t.pending = s.pending ∧ s.toDev.onlyFields t.toDev [(LAN_PATCTL_LOCK, onLane l.val)]) ∧
    (∀ n, exec (.checkerLoss l n) s = .next t → (s.toDev.checkerLoss l.val n).quiet →
      t.pending = s.pending ∧ s.toDev.onlyFields t.toDev ((LAN_PATCTL_LOCK, onLane l.val) :: (Reg.flds .LAN_PATERR).map (fun f => (f, onLane l.val)))) ∧
    (∀ v, exec (.eyeScanStart l v) s = .next t → (s.toDev.eyeStart l.val v).quiet →
      t.pending = s.pending ∧ s.toDev.onlyFields t.toDev ((Reg.flds .LAN_ESCTL ++ Reg.flds .LAN_ESSAMP ++ Reg.flds .LAN_ESERR).map (fun f => (f, onLane l.val)))) ∧
    (∀ n, exec (.eyeScanDone l n) s = .next t → (s.toDev.eyeDone l.val n).quiet →
      t.pending = s.pending ∧ s.toDev.onlyFields t.toDev ((Reg.flds .LAN_ESCTL ++ Reg.flds .LAN_ESSAMP ++ Reg.flds .LAN_ESERR).map (fun f => (f, onLane l.val))))

/-- The registers of R316, of R230 and of the tables of spec/07, spec/09 and spec/12; nothing is due before or after it (`quiet`). -/
def Obligations.SetupFrames : Prop :=
∀ (s t : State) (q : Fin 4), s.toDev.quiet →
    (∀ n v, exec (.keyrightsWrite q n v) s = .next t → (s.toDev.keyrightsWrite q.val n.val v).quiet →
      t.pending = s.pending ∧ s.toDev.onlyFields t.toDev ((Reg.flds .QUE_KEYRIGHTS).map (fun f => (f, ⟨q.val, n.val⟩)))) ∧
    (∀ f k v, exec (.fnqWrite q f k v) s = .next t → (s.toDev.fnqWrite q.val f.val k.val v).quiet →
      t.pending = s.pending ∧ s.toDev.onlyFields t.toDev ((Reg.flds .HST_FNQ).map (fun x => (x, ⟨q.val, f.val * 4 + k.val⟩)))) ∧
    (∀ f, exec (.queueQuery q f) s = .next t → (s.toDev.queueQuery q.val f.val).quiet →
      t.pending = s.pending ∧ s.toDev.onlyFields t.toDev ((Reg.flds .QUE_CMD).map (fun x => (x, ⟨q.val, f.val⟩)) ++
        (List.range 8).flatMap (fun w => (Reg.flds .QUE_CMDBUF).map (fun x => (x, ⟨q.val, f.val * 8 + w⟩))))) ∧
    (∀ n root v, exec (.xltSpaceWrite q n root v) s = .next t → (s.toDev.spaceWrite q.val n.val root v).quiet →
      t.pending = s.pending ∧ s.toDev.onlyFields t.toDev ((Reg.flds .XLT_SPACE ++ Reg.flds .XLT_SPACEROOT).map (fun x => (x, ⟨q.val, n.val⟩)))) ∧
    (∀ (l : Fin 512) v, exec (.fwdShareWrite l v) s = .next t → (s.toDev.shareWrite l.val v).quiet →
      t.pending = s.pending ∧ s.toDev.onlyFields t.toDev ((Reg.flds .FWD_SHARE).map (fun x => (x, onLane l.val)))) ∧
    (∀ v, exec (.fwdInjWrite q v) s = .next t → (s.toDev.fwdInj q.val v).quiet →
      t.pending = s.pending ∧
      s.toDev.onlyFields { t.toDev with rtr := { t.rtr with bcred := s.rtr.bcred } } ((Reg.flds .FWD_INJ).map (fun x => (x, onDie q.val))))

/-- The words that ROUTE_TABLE_WRITE, PORT_SET_WRITE, GROUP_ENTRY_WRITE and GATE_LIST_WRITE store to, and the registers that R121, R188 and R175 name; nothing is due after (`quiet`). -/
def Obligations.TableFrames : Prop :=
∀ (s t : State) (q : Fin 4),
    (∀ bank w v, exec (.routeTableWrite q bank w v) s = .next t → (s.toDev.routeWrite q.val bank.val w v).quiet →
      (∀ k, k / 2 ≠ (q.val * 2 + bank.val) * 65536 + w → Tab.get t.win.route 0 k = Tab.get s.win.route 0 k) ∧
      s.toDev.onlyFields { t.toDev with win := { t.win with route := s.win.route } } ((Reg.flds .RTE_LIVEREJ ++ Reg.flds .RTE_TBLERR).map (fun f => (f, onDie q.val)))) ∧
    (∀ bank n w v, exec (.portSetWrite q bank n w v) s = .next t → (s.toDev.psetWrite q.val bank.val n w.val v).quiet →
      (∀ k, k / 2 ≠ ((q.val * 2 + bank.val) * 4096 + n) * 4 + w.val → Tab.get t.win.pset 0 k = Tab.get s.win.pset 0 k) ∧
      s.toDev.onlyFields { t.toDev with win := { t.win with pset := s.win.pset } } ((Reg.flds .RTE_LIVEREJ ++ Reg.flds .RTE_TBLERR).map (fun f => (f, onDie q.val)))) ∧
    (∀ g w v, exec (.groupEntryWrite q g w v) s = .next t → (s.toDev.groupWrite q.val g.val w.val v).quiet →
      (∀ k, k ≠ (q.val * 65536 + g.val) * 16 + w.val → Tab.get t.win.group 0 k = Tab.get s.win.group 0 k) ∧
      Tab.get t.win.group 0 ((q.val * 65536 + g.val) * 16 + w.val) = (if s.pwr.off = 0 then v.toNat else Tab.get s.win.group 0 ((q.val * 65536 + g.val) * 16 + w.val)) ∧
      s.toDev.onlyFields { t.toDev with win := { t.win with group := s.win.group } } ((Reg.flds .MCG_LIVEWR).map (fun f => (f, onDie q.val)))) ∧
    (∀ (p : Fin 512) l e v, exec (.gateListWrite p l e v) s = .next t → (s.toDev.gateWrite p.val l.val e.val v).quiet →
      (∀ k, k ≠ (p.val * 2 + l.val) * 256 + e.val → Tab.get t.win.gate 0 k = Tab.get s.win.gate 0 k) ∧
      s.toDev.onlyFields { t.toDev with win := { t.win with gate := s.win.gate } } ((Reg.flds .SCH_GATECTL).map (fun f => (f, onLane p.val))))

/-- Tables 4-1 to 4-4: the header fields, operands, payload and tag stand at their places in the flits; a source writes CMARK as zero (R93). -/
def Obligations.PacketsReadBack : Prop :=
∀ k : Packet, k.type < 64 → k.tc < 16 → k.epoch < 2 → k.cmark = false → k.dest < 2 ^ 25 → k.src < 2 ^ 25 → k.dconn < 2 ^ 20 →
    k.opflags < 128 → k.psn < 2 ^ 32 → k.inc < 2 ^ 32 →
    (if k.control then k.inc = 0 ∧ k.oper.length ≤ 24 ∧ k.payload = [] ∧ k.tag < 2 ^ 64
     else k.oper.length = 16 ∧ k.payload.length ≤ 4096 ∧ k.tag < 2 ^ 128) →
    Packet.ofBodies k.bodies = k

/-- R93, R101: the PCRC covers the mutable fields as zero. -/
def Obligations.PcrcMutable : Prop :=
∀ (h : Body) (t : List Body) (step cmark hops age : Nat), t ≠ [] →
    pcrcOf (setFb (setFb (setFb (setFb h 15 3 step) 23 1 cmark) 24 4 hops) 57 7 age :: t) = pcrcOf (h :: t)
end

