-- ==== Sys2Proof/Laws/Tab.lean ====
section
/-! SUPPORT. Sparse tables: what a key reads as after a write, a removal or a filter, and that each of them keeps the canonical
form. -/

namespace Sys2Proof.Machine

/-- Every key of the table is above k. -/
def Tab.above {α : Type} (k : Nat) (t : Tab α) : Prop := ∀ e ∈ t, k < e.1

theorem Tab.rising_cons {α : Type} (e : Nat × α) (t : Tab α) :
    Tab.rising (e :: t) = true ↔ Tab.above e.1 t ∧ Tab.rising t = true := by
  induction t generalizing e with
  | nil => simp [Tab.rising, Tab.above]
  | cons f t ih =>
    obtain ⟨a, x⟩ := e
    obtain ⟨b, y⟩ := f
    simp only [Tab.rising, Bool.and_eq_true, decide_eq_true_eq, Tab.above, List.forall_mem_cons, ih (b, y)]
    constructor
    · rintro ⟨h1, h2, h3⟩
      exact ⟨⟨h1, fun e he => Nat.lt_trans h1 (h2 e he)⟩, h2, h3⟩
    · rintro ⟨⟨h1, _⟩, h2, h3⟩
      exact ⟨h1, h2, h3⟩

theorem Tab.rising_nil {α : Type} : Tab.rising ([] : Tab α) = true := rfl

theorem Tab.rising_filter {α : Type} (t : Tab α) (p : Nat × α → Bool) (h : Tab.rising t = true) :
    Tab.rising (t.filter p) = true := by
  induction t with
  | nil => rfl
  | cons e t ih =>
    rw [Tab.rising_cons] at h
    by_cases hp : p e = true
    · rw [List.filter_cons_of_pos hp, Tab.rising_cons]
      exact ⟨fun x hx => h.1 x (List.mem_filter.1 hx).1, ih h.2⟩
    · rw [List.filter_cons_of_neg hp]
      exact ih h.2

theorem Tab.rising_filterMap {α : Type} (t : Tab α) (f : Nat × α → Option (Nat × α)) (h : Tab.rising t = true)
    (hf : ∀ e x, f e = some x → x.1 = e.1) : Tab.rising (t.filterMap f) = true := by
  induction t with
  | nil => rfl
  | cons e t ih =>
    rw [Tab.rising_cons] at h
    cases he : f e with
    | none => rw [List.filterMap_cons_none he]; exact ih h.2
    | some x =>
      rw [List.filterMap_cons_some he, Tab.rising_cons]
      refine ⟨fun y hy => ?_, ih h.2⟩
      obtain ⟨z, hz, hy⟩ := List.mem_filterMap.1 hy
      rw [hf e x he, hf z y hy]
      exact h.1 z hz

theorem Tab.rising_del {α : Type} (t : Tab α) (k : Nat) (h : Tab.rising t = true) : Tab.rising (Tab.del t k) = true :=
  Tab.rising_filter t _ h

theorem Tab.above_put {α : Type} (t : Tab α) (j k : Nat) (v : α) (h : Tab.above j t) (hk : j < k) :
    Tab.above j (Tab.put t k v) := by
  induction t with
  | nil => simpa [Tab.put, Tab.above] using hk
  | cons e t ih =>
    have ht : Tab.above j t := fun x hx => h x (List.mem_cons_of_mem _ hx)
    have he : j < e.1 := h e List.mem_cons_self
    simp only [Tab.put]
    split
    · exact fun x hx => by
        rcases List.mem_cons.1 hx with rfl | hx
        · exact hk
        · exact h x hx
    · split
      · exact fun x hx => by
          rcases List.mem_cons.1 hx with rfl | hx
          · exact hk
          · exact ht x hx
      · exact fun x hx => by
          rcases List.mem_cons.1 hx with rfl | hx
          · exact he
          · exact ih ht x hx

theorem Tab.rising_put {α : Type} (t : Tab α) (k : Nat) (v : α) (h : Tab.rising t = true) : Tab.rising (Tab.put t k v) = true := by
  induction t with
  | nil => rfl
  | cons e t ih =>
    have h' := (Tab.rising_cons e t).1 h
    simp only [Tab.put]
    split
    · next hk =>
      rw [Tab.rising_cons]
      refine ⟨fun x hx => ?_, h⟩
      rcases List.mem_cons.1 hx with rfl | hx
      · exact hk
      · exact Nat.lt_trans hk (h'.1 x hx)
    · next hk =>
      split
      · next hke =>
        rw [Tab.rising_cons]
        exact ⟨fun x hx => by have := h'.1 x hx; simp only at this ⊢; omega, h'.2⟩
      · next hke =>
        rw [Tab.rising_cons]
        exact ⟨Tab.above_put t _ k v h'.1 (by omega), ih h'.2⟩

theorem Tab.mem_put {α : Type} (t : Tab α) (k : Nat) (v : α) (e : Nat × α) (h : e ∈ Tab.put t k v) : e = (k, v) ∨ e ∈ t := by
  induction t with
  | nil => simpa [Tab.put] using h
  | cons f t ih =>
    simp only [Tab.put] at h
    split at h
    · exact (List.mem_cons.1 h).imp id id
    · split at h
      · exact (List.mem_cons.1 h).imp id (List.mem_cons_of_mem _)
      · rcases List.mem_cons.1 h with h | h
        · exact .inr (h ▸ List.mem_cons_self)
        · exact (ih h).imp id (List.mem_cons_of_mem _)

theorem Tab.wfBy_iff {α : Type} [DecidableEq α] (t : Tab α) (dflt : Nat → α) :
    Tab.wfBy t dflt = true ↔ Tab.rising t = true ∧ ∀ e ∈ t, e.2 ≠ dflt e.1 := by
  simp [Tab.wfBy, List.all_eq_true]

theorem Tab.wf_iff {α : Type} [DecidableEq α] (t : Tab α) (dflt : α) :
    Tab.wf t dflt = true ↔ Tab.rising t = true ∧ ∀ e ∈ t, e.2 ≠ dflt := by
  simp [Tab.wf, List.all_eq_true]

theorem Tab.wf_nil {α : Type} [DecidableEq α] (dflt : α) : Tab.wf ([] : Tab α) dflt = true := rfl

theorem Tab.wfBy_filter {α : Type} [DecidableEq α] (t : Tab α) (dflt : Nat → α) (p : Nat × α → Bool)
    (h : Tab.wfBy t dflt = true) : Tab.wfBy (t.filter p) dflt = true := by
  rw [Tab.wfBy_iff] at h ⊢
  exact ⟨Tab.rising_filter t p h.1, fun e he => h.2 e (List.mem_filter.1 he).1⟩

theorem Tab.wf_filter {α : Type} [DecidableEq α] (t : Tab α) (dflt : α) (p : Nat × α → Bool)
    (h : Tab.wf t dflt = true) : Tab.wf (t.filter p) dflt = true := by
  rw [Tab.wf_iff] at h ⊢
  exact ⟨Tab.rising_filter t p h.1, fun e he => h.2 e (List.mem_filter.1 he).1⟩

/-- A write keeps the canonical form, when the value that is dropped is the key's default. -/
theorem Tab.wfBy_set {α : Type} [DecidableEq α] (t : Tab α) (dflt : Nat → α) (k : Nat) (v : α)
    (h : Tab.wfBy t dflt = true) : Tab.wfBy (Tab.set t (dflt k) k v) dflt = true := by
  rw [Tab.wfBy_iff] at h ⊢
  unfold Tab.set
  split
  · exact ⟨Tab.rising_del t k h.1, fun e he => h.2 e (List.mem_filter.1 he).1⟩
  · next hv =>
    refine ⟨Tab.rising_put t k v h.1, fun e he => ?_⟩
    rcases Tab.mem_put t k v e he with rfl | he
    · exact hv
    · exact h.2 e he

/-- A write keeps the canonical form. -/
theorem Tab.wf_set {α : Type} [DecidableEq α] (t : Tab α) (dflt : α) (k : Nat) (v : α)
    (h : Tab.wf t dflt = true) : Tab.wf (Tab.set t dflt k v) dflt = true :=
  Tab.wfBy_set t (fun _ => dflt) k v h

/-- Writes one after another keep the canonical form. -/
theorem Tab.wf_foldl {α β : Type} [DecidableEq α] (dflt : α) (g : Tab α → β → Tab α)
    (hg : ∀ t x, Tab.wf t dflt = true → Tab.wf (g t x) dflt = true) (l : List β) (t : Tab α) (h : Tab.wf t dflt = true) :
    Tab.wf (l.foldl g t) dflt = true := by
  induction l generalizing t with
  | nil => exact h
  | cons x l ih => exact ih (g t x) (hg t x h)

/-! ## Reading -/

@[simp] theorem Tab.find_put_same {α : Type} (t : Tab α) (k : Nat) (v : α) : Tab.find (Tab.put t k v) k = some v := by
  induction t with
  | nil => simp [Tab.put, Tab.find]
  | cons e t ih =>
    simp only [Tab.put]
    split
    · simp [Tab.find]
    · split
      · simp [Tab.find]
      · next h1 h2 => simp only [Tab.find, ih]; rw [if_neg (by omega)]

theorem Tab.find_put_other {α : Type} (t : Tab α) (j k : Nat) (v : α) (h : j ≠ k) : Tab.find (Tab.put t k v) j = Tab.find t j := by
  induction t with
  | nil => simp only [Tab.put, Tab.find]; rw [if_neg (by omega)]
  | cons e t ih =>
    simp only [Tab.put]
    split
    · simp only [Tab.find]; rw [if_neg (by omega)]
    · split
      · next h1 h2 => simp only [Tab.find]; rw [if_neg (by omega), if_neg (by omega)]
      · simp only [Tab.find, ih]

theorem Tab.find_del_same {α : Type} (t : Tab α) (k : Nat) : Tab.find (Tab.del t k) k = none := by
  induction t with
  | nil => rfl
  | cons e t ih =>
    by_cases he : e.1 = k
    · have hd : Tab.del (e :: t) k = Tab.del t k := by simp [Tab.del, he]
      rw [hd]; exact ih
    · have hd : Tab.del (e :: t) k = e :: Tab.del t k := by simp [Tab.del, he]
      rw [hd]; simp only [Tab.find, ih]; rw [if_neg he]

theorem Tab.find_del_other {α : Type} (t : Tab α) (j k : Nat) (h : j ≠ k) : Tab.find (Tab.del t k) j = Tab.find t j := by
  induction t with
  | nil => rfl
  | cons e t ih =>
    by_cases he : e.1 = k
    · have hd : Tab.del (e :: t) k = Tab.del t k := by simp [Tab.del, he]
      rw [hd, ih]; simp only [Tab.find]; rw [if_neg (by omega)]
    · have hd : Tab.del (e :: t) k = e :: Tab.del t k := by simp [Tab.del, he]
      rw [hd]; simp only [Tab.find, ih]

/-- A read of the key written gives the value written. -/
@[simp] theorem Tab.get_set_same {α : Type} [DecidableEq α] (t : Tab α) (dflt : α) (k : Nat) (v : α) :
    Tab.get (Tab.set t dflt k v) dflt k = v := by
  unfold Tab.get Tab.set
  split
  · next h => rw [Tab.find_del_same]; exact h.symm
  · simp

/-- A write leaves every other key as it was. -/
theorem Tab.get_set_other {α : Type} [DecidableEq α] (t : Tab α) (dflt dflt' : α) (j k : Nat) (v : α) (h : j ≠ k) :
    Tab.get (Tab.set t dflt k v) dflt' j = Tab.get t dflt' j := by
  unfold Tab.get Tab.set
  split
  · rw [Tab.find_del_other t j k h]
  · rw [Tab.find_put_other t j k v h]

end Sys2Proof.Machine
end

