-- ==== Sys2Proof/Laws/Keep.lean ====
section
/-! SUPPORT. What every operation keeps: the canonical form of the tables, the fuses, the time; the parts of `Dev.Kept`, and the
primitive operations. -/

namespace Sys2Proof.Machine

theorem Reg.all_ctorIdx (r : Reg) : Reg.all[r.ctorIdx]? = some r := by cases r <;> rfl
theorem Reg.ctorIdx_lt (r : Reg) : r.ctorIdx < 512 := by cases r <;> decide

/-- A key names its definition and instance, the die taken modulo 4. -/
theorem regOfKey_regKey (r : Reg) (a : At) : regOfKey (regKey r a) = some (r, ⟨a.die % 4, a.idx⟩) := by
  have h := Reg.ctorIdx_lt r
  have h1 : regKey r a % 512 = r.ctorIdx := by unfold regKey; omega
  have h2 : regKey r a / 512 % 4 = a.die % 4 := by unfold regKey; omega
  have h3 : regKey r a / 2048 = a.idx := by unfold regKey; omega
  unfold regOfKey
  rw [h1, h2, h3, Reg.all_ctorIdx]
  rfl

theorem rstOfKey_regKey (r : Reg) (a : At) : rstOfKey (regKey r a) = rstVal r a := by
  unfold rstOfKey
  rw [regOfKey_regKey]
  cases r <;> simp [rstVal]

theorem Dev.tablesWf_iff (d : Dev) : d.tablesWf = true ↔
    Tab.wfBy d.regs rstOfKey = true ∧ Tab.wf d.win.route 0 = true ∧ Tab.wf d.win.pset 0 = true ∧ Tab.wf d.win.group 0 = true ∧
      Tab.wf d.win.gate 0 = true ∧ Tab.wf d.boot.flash 255 = true := by
  simp [Dev.tablesWf, and_assoc]

/-- What the fuses, the time and a module's tables are, for the lemmas of this family. -/
abbrev KeptOf := (Nat × Bool × Nat) × Nat

theorem keep_regs {kof : KeptOf} (d : Dev) (h : d.Kept kof) : Tab.wfBy d.regs rstOfKey = true := ((Dev.tablesWf_iff d).1 h.1).1
theorem keep_route {kof : KeptOf} (d : Dev) (h : d.Kept kof) : Tab.wf d.win.route 0 = true := ((Dev.tablesWf_iff d).1 h.1).2.1
theorem keep_pset {kof : KeptOf} (d : Dev) (h : d.Kept kof) : Tab.wf d.win.pset 0 = true := ((Dev.tablesWf_iff d).1 h.1).2.2.1
theorem keep_group {kof : KeptOf} (d : Dev) (h : d.Kept kof) : Tab.wf d.win.group 0 = true := ((Dev.tablesWf_iff d).1 h.1).2.2.2.1
theorem keep_gate {kof : KeptOf} (d : Dev) (h : d.Kept kof) : Tab.wf d.win.gate 0 = true := ((Dev.tablesWf_iff d).1 h.1).2.2.2.2.1
theorem keep_flash {kof : KeptOf} (d : Dev) (h : d.Kept kof) : Tab.wf d.boot.flash 255 = true := ((Dev.tablesWf_iff d).1 h.1).2.2.2.2.2

/-- The fuses of a group of module constants. -/
def SysG.fused (x : SysG) : Nat × Bool × Nat := (x.uid, x.formS, x.stepping)

/-- An update of the other groups. -/
theorem keep_mk {kof : KeptOf} (d : Dev) (b : BootG) (x : SysG) (v : Env) (hb : b.flash = d.boot.flash) (h1 : x.uid = d.sys.uid)
    (h2 : x.formS = d.sys.formS) (h3 : x.stepping = d.sys.stepping) (hv : v.time = d.env.time)
    {lnk rtr flt mcg pmc pwr xlt hst sag clv kln noc acc erg ep car} :
    (Dev.mk d.regs d.win v lnk rtr flt x mcg pmc pwr xlt hst sag clv kln noc b acc erg ep car).Kept kof = d.Kept kof := by
  simp only [Dev.Kept, Dev.tablesWf, Dev.fused, hb, h1, h2, h3, hv]

/-- An update of the table windows and other groups. -/
theorem keep_win {kof : KeptOf} (d : Dev) (w : Win) (b : BootG) (h : d.Kept kof) (h1 : Tab.wf w.route 0 = true) (h2 : Tab.wf w.pset 0 = true)
    (h3 : Tab.wf w.group 0 = true) (h4 : Tab.wf w.gate 0 = true) (hb : b.flash = d.boot.flash)
    {lnk rtr flt mcg pmc pwr xlt hst sag clv kln noc acc erg ep car} :
    (Dev.mk d.regs w d.env lnk rtr flt d.sys mcg pmc pwr xlt hst sag clv kln noc b acc erg ep car).Kept kof := by
  refine ⟨?_, h.2⟩
  have h := (Dev.tablesWf_iff d).1 h.1
  refine (Dev.tablesWf_iff _).2 ⟨h.1, h1, h2, h3, h4, ?_⟩
  rw [hb]
  exact h.2.2.2.2.2

/-- An update of the flash and other groups. -/
theorem keep_boot {kof : KeptOf} (d : Dev) (b : BootG) (h : d.Kept kof) (hb : Tab.wf b.flash 255 = true)
    {lnk rtr flt mcg pmc pwr xlt hst sag clv kln noc acc erg ep car} :
    (Dev.mk d.regs d.win d.env lnk rtr flt d.sys mcg pmc pwr xlt hst sag clv kln noc b acc erg ep car).Kept kof := by
  refine ⟨?_, h.2⟩
  have h := (Dev.tablesWf_iff d).1 h.1
  exact (Dev.tablesWf_iff _).2 ⟨h.1, h.2.1, h.2.2.1, h.2.2.2.1, h.2.2.2.2.1, hb⟩

/-- A module that starts anew, with its fuses, its time and its flash. -/
theorem keep_init {kof : KeptOf} (d : Dev) (b : BootG) (x : SysG) (v : Env) (h : d.Kept kof) (hb : b.flash = d.boot.flash)
    (h1 : x.uid = d.sys.uid) (h2 : x.formS = d.sys.formS) (h3 : x.stepping = d.sys.stepping) (hv : v.time = d.env.time)
    {lnk rtr flt mcg pmc pwr xlt hst sag clv kln noc acc erg ep car} :
    (Dev.mk Dev.init.regs Dev.init.win v lnk rtr flt x mcg pmc pwr xlt hst sag clv kln noc b acc erg ep car).Kept kof := by
  refine ⟨(Dev.tablesWf_iff _).2 ⟨rfl, rfl, rfl, rfl, rfl, ?_⟩, ?_⟩
  · have h := keep_flash d h
    rw [← hb] at h
    exact h
  · have h := h.2
    simp only [Dev.fused] at h ⊢
    rw [h1, h2, h3, hv]
    exact h

/-- An update of the registers alone. -/
theorem keep_only {kof : KeptOf} (d : Dev) (r : Tab Word) (h : d.Kept kof) (hr : Tab.wfBy r rstOfKey = true) :
    ({ d with regs := r } : Dev).Kept kof :=
  ⟨(Dev.tablesWf_iff _).2 ⟨hr, ((Dev.tablesWf_iff d).1 h.1).2⟩, h.2⟩

theorem keep_ite {kof : KeptOf} {c : Prop} [Decidable c] {a b : Dev} (ha : a.Kept kof) (hb : b.Kept kof) :
    (if c then a else b).Kept kof := by split <;> assumption

theorem keep_fst {kof : KeptOf} {α : Type} {p : Dev × α} {d : Dev} {a : α} (e : p = (d, a)) (h : p.1.Kept kof) : d.Kept kof := by
  rw [e] at h; exact h

theorem keep_foldl {kof : KeptOf} {α : Type} (l : List α) (d : Dev) (g : Dev → α → Dev) (hd : d.Kept kof)
    (hg : ∀ d x, d.Kept kof → (g d x).Kept kof) : (l.foldl g d).Kept kof := by
  induction l generalizing d with
  | nil => exact hd
  | cons x l ih => exact ih _ (hg d x hd)

theorem Dev.wr_keeps {kof : KeptOf} (d : Dev) (r : Reg) (a : At) (x : Word) (h : d.Kept kof) : (d.wr r a x).Kept kof := by
  refine keep_only d _ h ?_
  rw [← rstOfKey_regKey r a]
  exact Tab.wfBy_set d.regs rstOfKey (regKey r a) x (keep_regs d h)

end Sys2Proof.Machine
end

