-- ==== Sys2Proof/Laws/Regs.lean ====
section
/-! SUPPORT. Laws of register fields and register instances: what a put or a write changes, and that it changes nothing else. -/

namespace Sys2Proof.Machine

/-- The bits of a mask. -/
theorem Fld.mask_testBit (f : Fld) (i : Nat) :
    f.mask.getLsbD i = (decide (i < 64) && decide (f.lo ≤ i) && decide (i < f.lo + f.w)) := by
  unfold Fld.mask
  rw [BitVec.getLsbD_ofNat, Nat.testBit_shiftLeft, Nat.testBit_two_pow_sub_one]
  by_cases h1 : i < 64 <;> by_cases h2 : f.lo ≤ i <;> simp [h1, h2] <;> omega

/-- The bits of a field. -/
theorem Fld.of_testBit (f : Fld) (x : Word) (i : Nat) :
    (f.of x).testBit i = (decide (i < f.w) && x.getLsbD (f.lo + i)) := by
  unfold Fld.of
  rw [Nat.testBit_mod_two_pow, Nat.testBit_shiftRight]
  rfl

/-- The bits of a register word with a field put in. -/
theorem Fld.ins_testBit (f : Fld) (x : Word) (v i : Nat) (h : f.lo + f.w ≤ 64) :
    (f.ins x v).getLsbD i = if f.lo ≤ i ∧ i < f.lo + f.w then v.testBit (i - f.lo) else x.getLsbD i := by
  unfold Fld.ins
  rw [BitVec.getLsbD_or, BitVec.getLsbD_and, BitVec.getLsbD_not, Fld.mask_testBit, BitVec.getLsbD_ofNat, Nat.testBit_shiftLeft,
    Nat.testBit_mod_two_pow]
  by_cases h1 : i < 64
  · by_cases h2 : f.lo ≤ i
    · by_cases h3 : i < f.lo + f.w
      · have h4 : i - f.lo < f.w := by omega
        simp [h1, h2, h3, h4]
      · have h4 : ¬ (i - f.lo < f.w) := by omega
        simp [h1, h2, h3, h4]
    · simp [h1, h2]
  · have h5 : x.getLsbD i = false := BitVec.getLsbD_of_ge x i (by omega)
    have h6 : ¬ (f.lo ≤ i ∧ i < f.lo + f.w) := by omega
    simp [h1, h5, h6]

/-- The field reads what was put into it. -/
theorem Fld.of_ins (f : Fld) (x : Word) (v : Nat) (h : f.lo + f.w ≤ 64) : f.of (f.ins x v) = v % 2 ^ f.w := by
  apply Nat.eq_of_testBit_eq
  intro i
  rw [Fld.of_testBit, Fld.ins_testBit f x v _ h, Nat.testBit_mod_two_pow]
  by_cases hi : i < f.w
  · have : f.lo ≤ f.lo + i ∧ f.lo + i < f.lo + f.w := by omega
    simp [hi, this]
  · simp [hi]

/-- Another field of the register does not change. -/
theorem Fld.of_ins_other (f g : Fld) (x : Word) (v : Nat) (h : g.lo + g.w ≤ 64) (hd : f.lo + f.w ≤ g.lo ∨ g.lo + g.w ≤ f.lo) :
    f.of (g.ins x v) = f.of x := by
  apply Nat.eq_of_testBit_eq
  intro i
  rw [Fld.of_testBit, Fld.of_testBit, Fld.ins_testBit g x v _ h]
  by_cases hi : i < f.w
  · have : ¬ (g.lo ≤ f.lo + i ∧ f.lo + i < g.lo + g.w) := by omega
    simp [this]
  · simp [hi]

/-- Register definitions are told apart by their numbers. -/
theorem Reg.ctorIdx_inj {r s : Reg} (h : r.ctorIdx = s.ctorIdx) : r = s := by
  have := Reg.all_ctorIdx r
  rw [h, Reg.all_ctorIdx] at this
  exact (Option.some.inj this).symm

/-- Two register instances of the module have different keys. -/
theorem regKey_inj {r s : Reg} {a b : At} (ha : a.die < 4) (hb : b.die < 4) (h : regKey r a = regKey s b) : r = s ∧ a = b := by
  have h1 := Reg.ctorIdx_lt r
  have h2 := Reg.ctorIdx_lt s
  unfold regKey at h
  have h3 : r.ctorIdx = s.ctorIdx := by omega
  have h4 : a.idx = b.idx := by omega
  have h5 : a.die = b.die := by omega
  refine ⟨Reg.ctorIdx_inj h3, ?_⟩
  cases a; cases b; simp_all

/-- A register instance reads what was written to it. -/
@[simp] theorem Dev.rd_wr (d : Dev) (r : Reg) (a : At) (x : Word) : (d.wr r a x).rd r a = x :=
  Tab.get_set_same d.regs (rstVal r a) (regKey r a) x

/-- Any other instance does not change. -/
theorem Dev.rd_wr_other (d : Dev) (r s : Reg) (a b : At) (x : Word) (h : regKey s b ≠ regKey r a) : (d.wr r a x).rd s b = d.rd s b :=
  Tab.get_set_other d.regs (rstVal r a) (rstVal s b) (regKey s b) (regKey r a) x h

/-- A field reads what was put into it. -/
theorem Dev.get_put (d : Dev) (f : Fld) (a : At) (v : Nat) (h : f.lo + f.w ≤ 64) : (d.put f a v).get f a = v % 2 ^ f.w := by
  unfold Dev.get Dev.put
  rw [Dev.rd_wr, Fld.of_ins f _ _ h]

/-- Another field of the same instance does not change. -/
theorem Dev.get_put_field (d : Dev) (f g : Fld) (a : At) (v : Nat) (hr : f.reg = g.reg) (h : g.lo + g.w ≤ 64)
    (hd : f.lo + f.w ≤ g.lo ∨ g.lo + g.w ≤ f.lo) : (d.put g a v).get f a = d.get f a := by
  unfold Dev.get Dev.put
  rw [hr, Dev.rd_wr, Fld.of_ins_other f g _ _ h hd]

/-- A field of another instance does not change. -/
theorem Dev.get_put_other (d : Dev) (f g : Fld) (a b : At) (v : Nat) (h : regKey f.reg b ≠ regKey g.reg a) :
    (d.put g a v).get f b = d.get f b := by
  unfold Dev.get Dev.put
  rw [Dev.rd_wr_other _ _ _ _ _ _ h]

/-- The fields of a register fit into its word. -/
theorem Reg.flds_fit (r : Reg) : ∀ f ∈ r.flds, f.reg = r ∧ f.lo + f.w ≤ 64 ∧ 1 ≤ f.w := by cases r <;> decide

/-- Fields of a register stand in disjoint bits. -/
theorem Reg.flds_apart (r : Reg) : r.flds.Pairwise (fun f g => f.lo + f.w ≤ g.lo ∨ g.lo + g.w ≤ f.lo) := by cases r <;> decide

end Sys2Proof.Machine
end

