-- ==== Sys2Proof/Laws/Frame.lean ====
section
/-! SUPPORT. Laws of frames: what the register operations leave unchanged. -/

namespace Sys2Proof.Machine

/-- Nothing changes. -/
theorem Dev.onlyFields_refl (d : Dev) (l : List (Fld × At)) : d.onlyFields d l := ⟨rfl, fun _ _ _ _ _ => rfl⟩

/-- Changes add up. -/
theorem Dev.onlyFields_trans {d e f : Dev} {l : List (Fld × At)} (h1 : d.onlyFields e l) (h2 : e.onlyFields f l) :
    d.onlyFields f l := by
  refine ⟨?_, fun x a hx ha hn => (h2.2 x a hx ha hn).trans (h1.2 x a hx ha hn)⟩
  have h3 := h1.1
  have h4 := h2.1
  cases d; cases e; cases f; simp_all

/-- More fields may change. -/
theorem Dev.onlyFields_mono {d e : Dev} {l m : List (Fld × At)} (h : d.onlyFields e l) (hs : ∀ x ∈ l, x ∈ m) : d.onlyFields e m :=
  ⟨h.1, fun f a hf ha hn => h.2 f a hf ha (fun hx => hn (hs _ hx))⟩

/-- Two fields of a register are the same or stand in disjoint bits. -/
theorem Reg.flds_disjoint (r : Reg) : ∀ f ∈ r.flds, ∀ g ∈ r.flds, f = g ∨ f.lo + f.w ≤ g.lo ∨ g.lo + g.w ≤ f.lo := by
  cases r <;> decide

/-- A write of a register word that agrees with the old word in the other fields changes the listed fields alone. -/
theorem Dev.onlyFields_wr (d : Dev) (r : Reg) (b : At) (x : Word) (l : List (Fld × At)) (hb : b.die < 4)
    (h : ∀ f ∈ r.flds, (f, b) ∉ l → f.of x = f.of (d.rd r b)) : d.onlyFields (d.wr r b x) l := by
  refine ⟨rfl, fun f a hf ha hn => ?_⟩
  unfold Dev.get
  by_cases hk : regKey f.reg a = regKey r b
  · obtain ⟨h1, h2⟩ := regKey_inj ha hb hk
    subst h2
    rw [h1, Dev.rd_wr]
    exact h f (h1 ▸ hf) hn
  · rw [Dev.rd_wr_other _ _ _ _ _ _ hk]

/-- A put changes its field alone. -/
theorem Dev.onlyFields_put (d : Dev) (g : Fld) (b : At) (v : Nat) (l : List (Fld × At)) (hg : g ∈ g.reg.flds) (hb : b.die < 4)
    (hl : (g, b) ∈ l) : d.onlyFields (d.put g b v) l := by
  refine Dev.onlyFields_wr d g.reg b _ l hb (fun f hf hn => ?_)
  rcases Reg.flds_disjoint g.reg f hf g hg with h | h
  · exact absurd (h ▸ hl) hn
  · exact Fld.of_ins_other f g _ _ (Reg.flds_fit _ g hg).2.1 h

/-- A put after changes that are allowed. -/
theorem Dev.onlyFields.put {d e : Dev} {l : List (Fld × At)} (h : d.onlyFields e l) (g : Fld) (b : At) (v : Nat)
    (hg : g ∈ g.reg.flds) (hb : b.die < 4) (hl : (g, b) ∈ l) : d.onlyFields (e.put g b v) l :=
  Dev.onlyFields_trans h (Dev.onlyFields_put e g b v l hg hb hl)

/-- A put of a bit after changes that are allowed. -/
theorem Dev.onlyFields.putB {d e : Dev} {l : List (Fld × At)} (h : d.onlyFields e l) (g : Fld) (b : At) (v : Bool)
    (hg : g ∈ g.reg.flds) (hb : b.die < 4) (hl : (g, b) ∈ l) : d.onlyFields (e.putB g b v) l :=
  h.put g b v.toNat hg hb hl

/-- A counter after changes that are allowed: a register of one field. -/
theorem Dev.onlyFields.wrAll {d e : Dev} {l : List (Fld × At)} (h : d.onlyFields e l) (r : Reg) (b : At) (x : Word) (hb : b.die < 4)
    (hl : ∀ f ∈ r.flds, (f, b) ∈ l) : d.onlyFields (e.wr r b x) l :=
  Dev.onlyFields_trans h (Dev.onlyFields_wr e r b x l hb (fun f hf hn => absurd (hl f hf) hn))

/-- A step that happens when a condition holds. -/
theorem Dev.onlyFields.when {d e : Dev} {l : List (Fld × At)} (h : d.onlyFields e l) (c : Bool) (g : Dev → Dev)
    (hg : d.onlyFields (g e) l) : d.onlyFields (e.when c g) l := by
  unfold Dev.when; split <;> assumption

end Sys2Proof.Machine
end

