-- ==== Sys2Proof/Laws/KeepBase.lean ====
section
/-! SUPPORT. Every operation keeps the tables canonical, the fuses and the time: registers, records, buffers, router. -/

set_option Elab.async false

namespace Sys2Proof.Machine

/-! Machine/Ops.lean -/

theorem Dev.put_keeps {kof : KeptOf} (d : Dev) (f : Fld) (a : At) (v : Nat) (hd : d.Kept kof) :
    (Dev.put d f a v).Kept kof := by
  unfold Dev.put
  try dsimp only
  repeat' first
    | with_reducible assumption
    | intro _
    | with_reducible apply Dev.wr_keeps
    | simp only [keep_mk]
    | dsimp only
    | split
    | with_reducible refine keep_fst (by with_reducible assumption) ?_

theorem Dev.putB_keeps {kof : KeptOf} (d : Dev) (f : Fld) (a : At) (b : Bool) (hd : d.Kept kof) :
    (Dev.putB d f a b).Kept kof := by
  unfold Dev.putB
  try dsimp only
  repeat' first
    | with_reducible assumption
    | intro _
    | with_reducible apply Dev.put_keeps
    | simp only [keep_mk]
    | dsimp only
    | split
    | with_reducible refine keep_fst (by with_reducible assumption) ?_

theorem Dev.wrFields_keeps {kof : KeptOf} (d : Dev) (r : Reg) (a : At) (v : Word) (hd : d.Kept kof) :
    (Dev.wrFields d r a v).Kept kof := by
  unfold Dev.wrFields
  try dsimp only
  repeat' first
    | with_reducible assumption
    | intro _
    | with_reducible apply Dev.wr_keeps
    | simp only [keep_mk]
    | dsimp only
    | split
    | with_reducible refine keep_fst (by with_reducible assumption) ?_

theorem Dev.when_keeps {kof : KeptOf} (d : Dev) (c : Bool) (g : Dev → Dev) (hd : d.Kept kof) (hg : ∀ d, d.Kept kof → (g d).Kept kof) :
    (Dev.when d c g).Kept kof := by
  unfold Dev.when
  try dsimp only
  repeat' first
    | with_reducible assumption
    | intro _
    | with_reducible apply keep_ite
    | simp only [keep_mk]
    | with_reducible apply hg
    | dsimp only
    | split
    | with_reducible refine keep_fst (by with_reducible assumption) ?_

theorem Dev.each_keeps {kof : KeptOf} {α : Type} (d : Dev) (l : List α) (g : α → Dev → Dev) (hd : d.Kept kof) (hg : ∀ x0 d, d.Kept kof → (g x0 d).Kept kof) :
    (Dev.each d l g).Kept kof := by
  unfold Dev.each
  try dsimp only
  repeat' first
    | with_reducible assumption
    | intro _
    | simp only [keep_mk]
    | with_reducible apply keep_foldl
    | with_reducible apply hg
    | dsimp only
    | split
    | with_reducible refine keep_fst (by with_reducible assumption) ?_

theorem Dev.incBy_keeps {kof : KeptOf} (d : Dev) (r : Reg) (a : At) (n : Nat) (hd : d.Kept kof) :
    (Dev.incBy d r a n).Kept kof := by
  unfold Dev.incBy
  try dsimp only
  repeat' first
    | with_reducible assumption
    | intro _
    | with_reducible apply Dev.wr_keeps
    | simp only [keep_mk]
    | dsimp only
    | split
    | with_reducible refine keep_fst (by with_reducible assumption) ?_

theorem Dev.inc_keeps {kof : KeptOf} (d : Dev) (r : Reg) (a : At) (hd : d.Kept kof) :
    (Dev.inc d r a).Kept kof := by
  unfold Dev.inc
  try dsimp only
  repeat' first
    | with_reducible assumption
    | intro _
    | with_reducible apply Dev.incBy_keeps
    | simp only [keep_mk]
    | dsimp only
    | split
    | with_reducible refine keep_fst (by with_reducible assumption) ?_

theorem Dev.incF_keeps {kof : KeptOf} (d : Dev) (f : Fld) (a : At) (hd : d.Kept kof) :
    (Dev.incF d f a).Kept kof := by
  unfold Dev.incF
  try dsimp only
  repeat' first
    | with_reducible assumption
    | intro _
    | with_reducible apply Dev.put_keeps
    | simp only [keep_mk]
    | dsimp only
    | split
    | with_reducible refine keep_fst (by with_reducible assumption) ?_

theorem Dev.emit_keeps {kof : KeptOf} (d : Dev) (o : OutEv) (hd : d.Kept kof) :
    (Dev.emit d o).Kept kof := by
  unfold Dev.emit
  try dsimp only
  repeat' first
    | with_reducible assumption
    | intro _
    | simp only [keep_mk]
    | dsimp only
    | split
    | with_reducible refine keep_fst (by with_reducible assumption) ?_

theorem Dev.msixPend_keeps {kof : KeptOf} (d : Dev) (q f v : Nat) (b : Bool) (hd : d.Kept kof) :
    (Dev.msixPend d q f v b).Kept kof := by
  unfold Dev.msixPend
  try dsimp only
  repeat' first
    | with_reducible assumption
    | intro _
    | simp only [keep_mk]
    | dsimp only
    | split
    | with_reducible refine keep_fst (by with_reducible assumption) ?_

theorem Dev.msixSend_keeps {kof : KeptOf} (d : Dev) (q f v : Nat) (hd : d.Kept kof) :
    (Dev.msixSend d q f v).Kept kof := by
  unfold Dev.msixSend
  try dsimp only
  repeat' first
    | with_reducible assumption
    | intro _
    | with_reducible apply keep_ite
    | with_reducible apply Dev.msixPend_keeps
    | with_reducible apply Dev.emit_keeps
    | simp only [keep_mk]
    | dsimp only
    | split
    | with_reducible refine keep_fst (by with_reducible assumption) ?_

theorem Dev.msixSet_keeps {kof : KeptOf} (d : Dev) (q f v : Nat) (e : MsixEnt) (hd : d.Kept kof) :
    (Dev.msixSet d q f v e).Kept kof := by
  unfold Dev.msixSet
  try dsimp only
  repeat' first
    | with_reducible assumption
    | intro _
    | with_reducible apply keep_ite
    | with_reducible apply Dev.msixPend_keeps
    | with_reducible apply Dev.msixSend_keeps
    | simp only [keep_mk]
    | dsimp only
    | split
    | with_reducible refine keep_fst (by with_reducible assumption) ?_

theorem Dev.msixClear_keeps {kof : KeptOf} (d : Dev) (q f : Nat) (hd : d.Kept kof) :
    (Dev.msixClear d q f).Kept kof := by
  unfold Dev.msixClear
  try dsimp only
  repeat' first
    | with_reducible assumption
    | intro _
    | simp only [keep_mk]
    | dsimp only
    | split
    | with_reducible refine keep_fst (by with_reducible assumption) ?_

theorem Dev.drawn_keeps {kof : KeptOf} (d : Dev) (hd : d.Kept kof) :
    (Dev.drawn d).Kept kof := by
  unfold Dev.drawn
  try dsimp only
  repeat' first
    | with_reducible assumption
    | intro _
    | simp only [keep_mk]
    | dsimp only
    | split
    | with_reducible refine keep_fst (by with_reducible assumption) ?_

theorem Dev.freed_keeps {kof : KeptOf} (d : Dev) (hd : d.Kept kof) :
    (Dev.freed d).Kept kof := by
  unfold Dev.freed
  try dsimp only
  repeat' first
    | with_reducible assumption
    | intro _
    | simp only [keep_mk]
    | dsimp only
    | split
    | with_reducible refine keep_fst (by with_reducible assumption) ?_

/-! Machine/Operands.lean -/

theorem Dev.setLink_keeps {kof : KeptOf} (d : Dev) (p : Nat) (l : Link) (hd : d.Kept kof) :
    (Dev.setLink d p l).Kept kof := by
  unfold Dev.setLink
  try dsimp only
  repeat' first
    | with_reducible assumption
    | intro _
    | simp only [keep_mk]
    | dsimp only
    | split
    | with_reducible refine keep_fst (by with_reducible assumption) ?_

theorem Dev.modLink_keeps {kof : KeptOf} (d : Dev) (p : Nat) (g : Link → Link) (hd : d.Kept kof) :
    (Dev.modLink d p g).Kept kof := by
  unfold Dev.modLink
  try dsimp only
  repeat' first
    | with_reducible assumption
    | intro _
    | with_reducible apply Dev.setLink_keeps
    | simp only [keep_mk]
    | dsimp only
    | split
    | with_reducible refine keep_fst (by with_reducible assumption) ?_

theorem Dev.setChan_keeps {kof : KeptOf} (d : Dev) (p v : Nat) (c : Chan) (hd : d.Kept kof) :
    (Dev.setChan d p v c).Kept kof := by
  unfold Dev.setChan
  try dsimp only
  repeat' first
    | with_reducible assumption
    | intro _
    | simp only [keep_mk]
    | dsimp only
    | split
    | with_reducible refine keep_fst (by with_reducible assumption) ?_

theorem Dev.modChan_keeps {kof : KeptOf} (d : Dev) (p v : Nat) (g : Chan → Chan) (hd : d.Kept kof) :
    (Dev.modChan d p v g).Kept kof := by
  unfold Dev.modChan
  try dsimp only
  repeat' first
    | with_reducible assumption
    | intro _
    | with_reducible apply Dev.setChan_keeps
    | simp only [keep_mk]
    | dsimp only
    | split
    | with_reducible refine keep_fst (by with_reducible assumption) ?_

theorem Dev.modLane_keeps {kof : KeptOf} (d : Dev) (l : Nat) (g : LaneSt → LaneSt) (hd : d.Kept kof) :
    (Dev.modLane d l g).Kept kof := by
  unfold Dev.modLane
  try dsimp only
  repeat' first
    | with_reducible assumption
    | intro _
    | simp only [keep_mk]
    | dsimp only
    | split
    | with_reducible refine keep_fst (by with_reducible assumption) ?_

theorem Dev.setPkt_keeps {kof : KeptOf} (d : Dev) (i : Nat) (k : Pkt) (hd : d.Kept kof) :
    (Dev.setPkt d i k).Kept kof := by
  unfold Dev.setPkt
  try dsimp only
  repeat' first
    | with_reducible assumption
    | intro _
    | with_reducible apply Dev.put_keeps
    | simp only [keep_mk]
    | dsimp only
    | split
    | with_reducible refine keep_fst (by with_reducible assumption) ?_

theorem Dev.delPkt_keeps {kof : KeptOf} (d : Dev) (i : Nat) (hd : d.Kept kof) :
    (Dev.delPkt d i).Kept kof := by
  unfold Dev.delPkt
  try dsimp only
  repeat' first
    | with_reducible assumption
    | intro _
    | simp only [keep_mk]
    | dsimp only
    | split
    | with_reducible refine keep_fst (by with_reducible assumption) ?_

theorem Dev.modPkt_keeps {kof : KeptOf} (d : Dev) (i : Nat) (g : Pkt → Pkt) (hd : d.Kept kof) :
    (Dev.modPkt d i g).Kept kof := by
  unfold Dev.modPkt
  try dsimp only
  repeat' first
    | with_reducible assumption
    | intro _
    | with_reducible apply Dev.setPkt_keeps
    | simp only [keep_mk]
    | dsimp only
    | split
    | with_reducible refine keep_fst (by with_reducible assumption) ?_

theorem Dev.modEport_keeps {kof : KeptOf} (d : Dev) (p : Nat) (g : EPort → EPort) (hd : d.Kept kof) :
    (Dev.modEport d p g).Kept kof := by
  unfold Dev.modEport
  try dsimp only
  repeat' first
    | with_reducible assumption
    | intro _
    | simp only [keep_mk]
    | dsimp only
    | split
    | with_reducible refine keep_fst (by with_reducible assumption) ?_

theorem Dev.setCell_keeps {kof : KeptOf} (d : Dev) (c : Nat) (x : Cell) (hd : d.Kept kof) :
    (Dev.setCell d c x).Kept kof := by
  unfold Dev.setCell
  try dsimp only
  repeat' first
    | with_reducible assumption
    | intro _
    | with_reducible apply Dev.put_keeps
    | simp only [keep_mk]
    | dsimp only
    | split
    | with_reducible refine keep_fst (by with_reducible assumption) ?_

/-! Machine/Records.lean -/

theorem Dev.setRec_keeps {kof : KeptOf} (d : Dev) (slot : Nat) (r : FRec) (hd : d.Kept kof) :
    (Dev.setRec d slot r).Kept kof := by
  unfold Dev.setRec
  try dsimp only
  repeat' first
    | with_reducible assumption
    | intro _
    | with_reducible apply Dev.put_keeps
    | simp only [keep_mk]
    | dsimp only
    | split
    | with_reducible refine keep_fst (by with_reducible assumption) ?_

theorem Dev.storeWrite_keeps {kof : KeptOf} (d : Dev) (words : List Nat) (kind rung : Nat) (hd : d.Kept kof) :
    (Dev.storeWrite d words kind rung).Kept kof := by
  unfold Dev.storeWrite
  try dsimp only
  repeat' first
    | with_reducible assumption
    | intro _
    | with_reducible apply keep_ite
    | with_reducible apply Dev.incF_keeps
    | with_reducible apply Dev.put_keeps
    | simp only [keep_mk]
    | dsimp only
    | split
    | with_reducible refine keep_fst (by with_reducible assumption) ?_

theorem Dev.faultN_keeps {kof : KeptOf} (d : Dev) (g : FltG → FltG) (hd : d.Kept kof) :
    (Dev.faultN d g).Kept kof := by
  unfold Dev.faultN
  try dsimp only
  repeat' first
    | with_reducible assumption
    | intro _
    | with_reducible apply Dev.when_keeps
    | with_reducible apply Dev.emit_keeps
    | simp only [keep_mk]
    | dsimp only
    | split
    | with_reducible refine keep_fst (by with_reducible assumption) ?_

theorem Dev.faultIrq_keeps {kof : KeptOf} (d : Dev) (id : Nat) (hd : d.Kept kof) :
    (Dev.faultIrq d id).Kept kof := by
  unfold Dev.faultIrq
  try dsimp only
  repeat' first
    | with_reducible assumption
    | intro _
    | with_reducible apply Dev.emit_keeps
    | with_reducible apply Dev.when_keeps
    | with_reducible apply Dev.msixSend_keeps
    | simp only [keep_mk]
    | simp only [id_eq]
    | dsimp only
    | split
    | with_reducible refine keep_fst (by with_reducible assumption) ?_

theorem Dev.openRec_keeps {kof : KeptOf} (d : Dev) (slot s t : Nat) (l : Loc) (detail : Nat) (hd : d.Kept kof) :
    (Dev.openRec d slot s t l detail).Kept kof := by
  unfold Dev.openRec
  try dsimp only
  repeat' first
    | with_reducible assumption
    | intro _
    | with_reducible apply keep_ite
    | with_reducible apply Dev.put_keeps
    | with_reducible apply Dev.inc_keeps
    | with_reducible apply Dev.faultIrq_keeps
    | with_reducible apply Dev.when_keeps
    | with_reducible apply Dev.storeWrite_keeps
    | simp only [keep_mk]
    | simp only [id_eq]
    | dsimp only
    | split
    | with_reducible refine keep_fst (by with_reducible assumption) ?_

theorem Dev.noSlot_keeps {kof : KeptOf} (d : Dev) (s t : Nat) (l : Loc) (detail : Nat) (hd : d.Kept kof) :
    (Dev.noSlot d s t l detail).Kept kof := by
  unfold Dev.noSlot
  try dsimp only
  repeat' first
    | with_reducible assumption
    | intro _
    | with_reducible apply Dev.inc_keeps
    | with_reducible apply Dev.put_keeps
    | with_reducible apply Dev.when_keeps
    | with_reducible apply Dev.storeWrite_keeps
    | simp only [keep_mk]
    | dsimp only
    | split
    | with_reducible refine keep_fst (by with_reducible assumption) ?_

theorem Dev.raise_keeps {kof : KeptOf} (d : Dev) (s t : Nat) (l : Loc) (detail : Nat) (hd : d.Kept kof) :
    (Dev.raise d s t l detail).Kept kof := by
  unfold Dev.raise
  try dsimp only
  repeat' first
    | with_reducible assumption
    | intro _
    | with_reducible apply Dev.setRec_keeps
    | with_reducible apply Dev.inc_keeps
    | with_reducible apply Dev.openRec_keeps
    | with_reducible apply Dev.noSlot_keeps
    | simp only [keep_mk]
    | dsimp only
    | split
    | with_reducible refine keep_fst (by with_reducible assumption) ?_

theorem Dev.closeRec_keeps {kof : KeptOf} (d : Dev) (slot outcome : Nat) (hd : d.Kept kof) :
    (Dev.closeRec d slot outcome).Kept kof := by
  unfold Dev.closeRec
  try dsimp only
  repeat' first
    | with_reducible assumption
    | intro _
    | with_reducible apply Dev.setRec_keeps
    | simp only [keep_mk]
    | dsimp only
    | split
    | with_reducible refine keep_fst (by with_reducible assumption) ?_

/-! Machine/Domains.lean -/

theorem Dev.setRegionState_keeps {kof : KeptOf} (d : Dev) (m st : Nat) (hd : d.Kept kof) :
    (Dev.setRegionState d m st).Kept kof := by
  unfold Dev.setRegionState
  try dsimp only
  repeat' first
    | with_reducible assumption
    | intro _
    | with_reducible apply Dev.put_keeps
    | simp only [keep_mk]
    | dsimp only
    | split
    | with_reducible refine keep_fst (by with_reducible assumption) ?_

theorem Dev.setDieState_keeps {kof : KeptOf} (d : Dev) (q st : Nat) (hd : d.Kept kof) :
    (Dev.setDieState d q st).Kept kof := by
  unfold Dev.setDieState
  try dsimp only
  repeat' first
    | with_reducible assumption
    | intro _
    | with_reducible apply Dev.put_keeps
    | simp only [keep_mk]
    | dsimp only
    | split
    | with_reducible refine keep_fst (by with_reducible assumption) ?_

theorem Dev.domDone_keeps {kof : KeptOf} (d : Dev) (q st : Nat) (hd : d.Kept kof) :
    (Dev.domDone d q st).Kept kof := by
  unfold Dev.domDone
  try dsimp only
  repeat' first
    | with_reducible assumption
    | intro _
    | with_reducible apply Dev.put_keeps
    | simp only [keep_mk]
    | dsimp only
    | split
    | with_reducible refine keep_fst (by with_reducible assumption) ?_

theorem Dev.entryOff_keeps {kof : KeptOf} (d : Dev) (q : Nat) (hd : d.Kept kof) :
    (Dev.entryOff d q).Kept kof := by
  unfold Dev.entryOff
  try dsimp only
  repeat' first
    | with_reducible assumption
    | intro _
    | with_reducible apply Dev.each_keeps
    | with_reducible apply Dev.setRegionState_keeps
    | with_reducible apply Dev.when_keeps
    | with_reducible apply Dev.setDieState_keeps
    | simp only [keep_mk]
    | dsimp only
    | split
    | with_reducible refine keep_fst (by with_reducible assumption) ?_

theorem Dev.abortEntry_keeps {kof : KeptOf} (d : Dev) (q : Nat) (hd : d.Kept kof) :
    (Dev.abortEntry d q).Kept kof := by
  unfold Dev.abortEntry
  try dsimp only
  repeat' first
    | with_reducible assumption
    | intro _
    | with_reducible apply Dev.entryOff_keeps
    | with_reducible apply Dev.domDone_keeps
    | with_reducible apply Dev.inc_keeps
    | simp only [keep_mk]
    | dsimp only
    | split
    | with_reducible refine keep_fst (by with_reducible assumption) ?_

theorem Dev.arrival_keeps {kof : KeptOf} (d : Dev) (m : Nat) (hd : d.Kept kof) :
    (Dev.arrival d m).Kept kof := by
  unfold Dev.arrival
  try dsimp only
  repeat' first
    | with_reducible assumption
    | intro _
    | with_reducible apply keep_ite
    | with_reducible apply Dev.abortEntry_keeps
    | simp only [keep_mk]
    | dsimp only
    | split
    | with_reducible refine keep_fst (by with_reducible assumption) ?_

theorem Dev.arrivalDie_keeps {kof : KeptOf} (d : Dev) (q : Nat) (hd : d.Kept kof) :
    (Dev.arrivalDie d q).Kept kof := by
  unfold Dev.arrivalDie
  try dsimp only
  repeat' first
    | with_reducible assumption
    | intro _
    | with_reducible apply keep_ite
    | with_reducible apply Dev.abortEntry_keeps
    | simp only [keep_mk]
    | dsimp only
    | split
    | with_reducible refine keep_fst (by with_reducible assumption) ?_

theorem Dev.wakeDie_keeps {kof : KeptOf} (d : Dev) (q : Nat) (hd : d.Kept kof) :
    (Dev.wakeDie d q).Kept kof := by
  unfold Dev.wakeDie
  try dsimp only
  repeat' first
    | with_reducible assumption
    | intro _
    | with_reducible apply keep_ite
    | with_reducible apply Dev.setDieState_keeps
    | with_reducible apply Dev.inc_keeps
    | with_reducible apply Dev.put_keeps
    | simp only [keep_mk]
    | dsimp only
    | split
    | with_reducible refine keep_fst (by with_reducible assumption) ?_

theorem Dev.wakeRegion_keeps {kof : KeptOf} (d : Dev) (m : Nat) (hd : d.Kept kof) :
    (Dev.wakeRegion d m).Kept kof := by
  unfold Dev.wakeRegion
  try dsimp only
  repeat' first
    | with_reducible assumption
    | intro _
    | with_reducible apply keep_ite
    | with_reducible apply Dev.setRegionState_keeps
    | with_reducible apply Dev.inc_keeps
    | with_reducible apply Dev.put_keeps
    | simp only [keep_mk]
    | dsimp only
    | split
    | with_reducible refine keep_fst (by with_reducible assumption) ?_

/-! Machine/Pmc.lean -/

theorem Dev.snapTrigger_keeps {kof : KeptOf} (d : Dev) (cause : Nat) (hd : d.Kept kof) :
    (Dev.snapTrigger d cause).Kept kof := by
  unfold Dev.snapTrigger
  try dsimp only
  repeat' first
    | with_reducible assumption
    | intro _
    | with_reducible apply keep_ite
    | with_reducible apply Dev.inc_keeps
    | simp only [keep_mk]
    | dsimp only
    | split
    | with_reducible refine keep_fst (by with_reducible assumption) ?_

theorem Dev.pmcWrap_keeps {kof : KeptOf} (d : Dev) (q k : Nat) (hd : d.Kept kof) :
    (Dev.pmcWrap d q k).Kept kof := by
  unfold Dev.pmcWrap
  try dsimp only
  repeat' first
    | with_reducible assumption
    | intro _
    | with_reducible apply Dev.wr_keeps
    | with_reducible apply Dev.when_keeps
    | with_reducible apply Dev.msixSend_keeps
    | with_reducible apply Dev.snapTrigger_keeps
    | simp only [keep_mk]
    | dsimp only
    | split
    | with_reducible refine keep_fst (by with_reducible assumption) ?_

theorem Dev.pmcAdd_keeps {kof : KeptOf} (d : Dev) (q k n : Nat) (hd : d.Kept kof) :
    (Dev.pmcAdd d q k n).Kept kof := by
  unfold Dev.pmcAdd
  try dsimp only
  repeat' first
    | with_reducible assumption
    | intro _
    | with_reducible apply keep_ite
    | with_reducible apply Dev.put_keeps
    | with_reducible apply Dev.when_keeps
    | with_reducible apply Dev.snapTrigger_keeps
    | with_reducible apply Dev.pmcWrap_keeps
    | simp only [keep_mk]
    | dsimp only
    | split
    | with_reducible refine keep_fst (by with_reducible assumption) ?_

theorem Dev.event_keeps {kof : KeptOf} (d : Dev) (q blk inst ev mask n : Nat) (hd : d.Kept kof) :
    (Dev.event d q blk inst ev mask n).Kept kof := by
  unfold Dev.event
  try dsimp only
  repeat' first
    | with_reducible assumption
    | intro _
    | with_reducible apply Dev.each_keeps
    | with_reducible apply Dev.when_keeps
    | with_reducible apply Dev.pmcAdd_keeps
    | simp only [keep_mk]
    | dsimp only
    | split
    | with_reducible refine keep_fst (by with_reducible assumption) ?_

theorem Dev.portEvent_keeps {kof : KeptOf} (d : Dev) (p blk ev mask n : Nat) (hd : d.Kept kof) :
    (Dev.portEvent d p blk ev mask n).Kept kof := by
  unfold Dev.portEvent
  try dsimp only
  repeat' first
    | with_reducible assumption
    | intro _
    | with_reducible apply Dev.event_keeps
    | simp only [keep_mk]
    | dsimp only
    | split
    | with_reducible refine keep_fst (by with_reducible assumption) ?_

theorem Dev.countSlot_keeps {kof : KeptOf} (d : Dev) (p c : Nat) (hd : d.Kept kof) :
    (Dev.countSlot d p c).Kept kof := by
  unfold Dev.countSlot
  try dsimp only
  repeat' first
    | with_reducible assumption
    | intro _
    | with_reducible apply Dev.put_keeps
    | simp only [keep_mk]
    | dsimp only
    | split
    | with_reducible refine keep_fst (by with_reducible assumption) ?_

/-! Machine/Buffer.lean -/

theorem Dev.setBridgeCredit_keeps {kof : KeptOf} (d : Dev) (q e n : Nat) (x : Nat × Nat) (hd : d.Kept kof) :
    (Dev.setBridgeCredit d q e n x).Kept kof := by
  unfold Dev.setBridgeCredit
  try dsimp only
  repeat' first
    | with_reducible assumption
    | intro _
    | simp only [keep_mk]
    | dsimp only
    | split
    | with_reducible refine keep_fst (by with_reducible assumption) ?_

theorem Dev.bridgeReturn_keeps {kof : KeptOf} (d : Dev) (q e a n : Nat) (hd : d.Kept kof) :
    (Dev.bridgeReturn d q e a n).Kept kof := by
  unfold Dev.bridgeReturn
  try dsimp only
  repeat' first
    | with_reducible assumption
    | intro _
    | with_reducible apply Dev.setBridgeCredit_keeps
    | simp only [keep_mk]
    | dsimp only
    | split
    | with_reducible refine keep_fst (by with_reducible assumption) ?_

theorem Dev.bridgeGrant_keeps {kof : KeptOf} (d : Dev) (q e : Nat) (hd : d.Kept kof) :
    (Dev.bridgeGrant d q e).Kept kof := by
  unfold Dev.bridgeGrant
  try dsimp only
  repeat' first
    | with_reducible assumption
    | intro _
    | with_reducible apply Dev.each_keeps
    | with_reducible apply Dev.setBridgeCredit_keeps
    | simp only [keep_mk]
    | dsimp only
    | split
    | with_reducible refine keep_fst (by with_reducible assumption) ?_

theorem Dev.bridgeShare_keeps {kof : KeptOf} (d : Dev) (q old : Nat) (hd : d.Kept kof) :
    (Dev.bridgeShare d q old).Kept kof := by
  unfold Dev.bridgeShare
  try dsimp only
  repeat' first
    | with_reducible assumption
    | intro _
    | with_reducible apply Dev.each_keeps
    | with_reducible apply Dev.setBridgeCredit_keeps
    | simp only [keep_mk]
    | dsimp only
    | split
    | with_reducible refine keep_fst (by with_reducible assumption) ?_

theorem Dev.storeFlit_keeps {kof : KeptOf} (d : Dev) (o : Owner) (pref : Option Nat) (poison : Bool) (hd : d.Kept kof) :
    (Dev.storeFlit d o pref poison).1.Kept kof := by
  unfold Dev.storeFlit
  try dsimp only
  repeat' first
    | with_reducible assumption
    | intro _
    | with_reducible apply keep_ite
    | with_reducible apply Dev.setCell_keeps
    | with_reducible apply Dev.put_keeps
    | simp only [keep_mk]
    | dsimp only
    | split
    | with_reducible refine keep_fst (by with_reducible assumption) ?_

theorem Dev.returnCredit_keeps {kof : KeptOf} (d : Dev) (x : Cell) (hd : d.Kept kof) :
    (Dev.returnCredit d x).Kept kof := by
  unfold Dev.returnCredit
  try dsimp only
  repeat' first
    | with_reducible assumption
    | intro _
    | with_reducible apply Dev.modChan_keeps
    | with_reducible apply Dev.bridgeReturn_keeps
    | simp only [keep_mk]
    | dsimp only
    | split
    | with_reducible refine keep_fst (by with_reducible assumption) ?_

theorem Dev.staleCells_keeps {kof : KeptOf} (d : Dev) (p : Nat) (hd : d.Kept kof) :
    (Dev.staleCells d p).Kept kof := by
  unfold Dev.staleCells
  try dsimp only
  repeat' first
    | with_reducible assumption
    | intro _
    | with_reducible apply keep_ite
    | simp only [keep_mk]
    | dsimp only
    | split
    | with_reducible refine keep_fst (by with_reducible assumption) ?_

theorem Dev.dropCell_keeps {kof : KeptOf} (d : Dev) (c : Nat) (x : Cell) (hd : d.Kept kof) :
    (Dev.dropCell d c x).Kept kof := by
  unfold Dev.dropCell
  try dsimp only
  repeat' first
    | with_reducible assumption
    | intro _
    | with_reducible apply Dev.returnCredit_keeps
    | simp only [keep_mk]
    | dsimp only
    | split
    | with_reducible refine keep_fst (by with_reducible assumption) ?_

theorem Dev.freeRef_keeps {kof : KeptOf} (d : Dev) (c : Nat) (hd : d.Kept kof) :
    (Dev.freeRef d c).Kept kof := by
  unfold Dev.freeRef
  try dsimp only
  repeat' first
    | with_reducible assumption
    | intro _
    | with_reducible apply keep_ite
    | with_reducible apply Dev.raise_keeps
    | with_reducible apply Dev.dropCell_keeps
    | with_reducible apply Dev.setCell_keeps
    | simp only [keep_mk]
    | dsimp only
    | split
    | with_reducible refine keep_fst (by with_reducible assumption) ?_

theorem Dev.freeLoc_keeps {kof : KeptOf} (d : Dev) (hd : d.Kept kof) : ∀ (y0 : FLoc),
    (Dev.freeLoc d y0).Kept kof := by
  intro y0
  unfold Dev.freeLoc
  try dsimp only
  repeat' first
    | with_reducible assumption
    | intro _
    | with_reducible apply keep_ite
    | with_reducible apply Dev.freeRef_keeps
    | simp only [keep_mk]
    | dsimp only
    | split
    | with_reducible refine keep_fst (by with_reducible assumption) ?_

theorem Dev.addRef_keeps {kof : KeptOf} (d : Dev) (hd : d.Kept kof) : ∀ (y0 : FLoc),
    (Dev.addRef d y0).Kept kof := by
  intro y0
  unfold Dev.addRef
  try dsimp only
  repeat' first
    | with_reducible assumption
    | intro _
    | with_reducible apply keep_ite
    | with_reducible apply Dev.setCell_keeps
    | simp only [keep_mk]
    | dsimp only
    | split
    | with_reducible refine keep_fst (by with_reducible assumption) ?_

/-! Machine/Router.lean -/

theorem Dev.bridgeSync_keeps {kof : KeptOf} (d : Dev) (q e : Nat) (hd : d.Kept kof) :
    (Dev.bridgeSync d q e).Kept kof := by
  unfold Dev.bridgeSync
  try dsimp only
  repeat' first
    | with_reducible assumption
    | intro _
    | with_reducible apply Dev.putB_keeps
    | simp only [keep_mk]
    | dsimp only
    | split
    | with_reducible refine keep_fst (by with_reducible assumption) ?_

theorem Dev.bridgesSync_keeps {kof : KeptOf} (d : Dev) (q : Nat) (hd : d.Kept kof) :
    (Dev.bridgesSync d q).Kept kof := by
  unfold Dev.bridgesSync
  try dsimp only
  repeat' first
    | with_reducible assumption
    | intro _
    | with_reducible apply Dev.bridgeSync_keeps
    | simp only [keep_mk]
    | dsimp only
    | split
    | with_reducible refine keep_fst (by with_reducible assumption) ?_

theorem Dev.epochCount_keeps {kof : KeptOf} (d : Dev) (q : Nat) (h : Body) (delta : Int) (hd : d.Kept kof) :
    (Dev.epochCount d q h delta).Kept kof := by
  unfold Dev.epochCount
  try dsimp only
  repeat' first
    | with_reducible assumption
    | intro _
    | with_reducible apply keep_ite
    | with_reducible apply Dev.wr_keeps
    | simp only [keep_mk]
    | dsimp only
    | split
    | with_reducible refine keep_fst (by with_reducible assumption) ?_

theorem Dev.unqueuePorts_keeps {kof : KeptOf} (d : Dev) (i : Nat) (hd : d.Kept kof) :
    (Dev.unqueuePorts d i).Kept kof := by
  unfold Dev.unqueuePorts
  try dsimp only
  repeat' first
    | with_reducible assumption
    | intro _
    | simp only [keep_mk]
    | dsimp only
    | split
    | with_reducible refine keep_fst (by with_reducible assumption) ?_

theorem Dev.offBridge_keeps {kof : KeptOf} (d : Dev) (k : Pkt) (f : PFlit) (hd : d.Kept kof) :
    (Dev.offBridge d k f).Kept kof := by
  unfold Dev.offBridge
  try dsimp only
  repeat' first
    | with_reducible assumption
    | intro _
    | with_reducible apply keep_ite
    | with_reducible apply Dev.bridgeReturn_keeps
    | simp only [keep_mk]
    | dsimp only
    | split
    | with_reducible refine keep_fst (by with_reducible assumption) ?_

theorem Dev.unqueue_keeps {kof : KeptOf} (d : Dev) (i : Nat) (hd : d.Kept kof) :
    (Dev.unqueue d i).Kept kof := by
  unfold Dev.unqueue
  try dsimp only
  repeat' first
    | with_reducible assumption
    | intro _
    | with_reducible apply Dev.each_keeps
    | with_reducible apply Dev.offBridge_keeps
    | with_reducible apply Dev.unqueuePorts_keeps
    | simp only [keep_mk]
    | dsimp only
    | split
    | with_reducible refine keep_fst (by with_reducible assumption) ?_

theorem Dev.cutReceive_keeps {kof : KeptOf} (d : Dev) (i : Nat) (k : Pkt) (hd : d.Kept kof) :
    (Dev.cutReceive d i k).Kept kof := by
  unfold Dev.cutReceive
  try dsimp only
  repeat' first
    | with_reducible assumption
    | intro _
    | with_reducible apply keep_ite
    | with_reducible apply Dev.modChan_keeps
    | simp only [keep_mk]
    | dsimp only
    | split
    | with_reducible refine keep_fst (by with_reducible assumption) ?_

theorem Dev.retirePkt_keeps {kof : KeptOf} (d : Dev) (i : Nat) (k : Pkt) (hd : d.Kept kof) :
    (Dev.retirePkt d i k).Kept kof := by
  unfold Dev.retirePkt
  try dsimp only
  repeat' first
    | with_reducible assumption
    | intro _
    | with_reducible apply Dev.cutReceive_keeps
    | with_reducible apply Dev.unqueue_keeps
    | with_reducible apply Dev.each_keeps
    | with_reducible apply Dev.freeLoc_keeps
    | with_reducible apply Dev.delPkt_keeps
    | simp only [keep_mk]
    | dsimp only
    | split
    | with_reducible refine keep_fst (by with_reducible assumption) ?_

theorem Dev.countDrop_keeps {kof : KeptOf} (d : Dev) (q reason : Nat) (hd : d.Kept kof) :
    (Dev.countDrop d q reason).Kept kof := by
  unfold Dev.countDrop
  try dsimp only
  repeat' first
    | with_reducible assumption
    | intro _
    | with_reducible apply Dev.inc_keeps
    | with_reducible apply Dev.event_keeps
    | simp only [keep_mk]
    | dsimp only
    | split
    | with_reducible refine keep_fst (by with_reducible assumption) ?_

theorem Dev.dropOne_keeps {kof : KeptOf} (d : Dev) (i q reason : Nat) (hd : d.Kept kof) :
    (Dev.dropOne d i q reason).Kept kof := by
  unfold Dev.dropOne
  try dsimp only
  repeat' first
    | with_reducible assumption
    | intro _
    | with_reducible apply Dev.retirePkt_keeps
    | with_reducible apply Dev.countDrop_keeps
    | with_reducible apply Dev.epochCount_keeps
    | simp only [keep_mk]
    | dsimp only
    | split
    | with_reducible refine keep_fst (by with_reducible assumption) ?_

theorem Dev.dropPkt_keeps {kof : KeptOf} (d : Dev) (i q reason : Nat) (hd : d.Kept kof) :
    (Dev.dropPkt d i q reason).Kept kof := by
  unfold Dev.dropPkt
  try dsimp only
  repeat' first
    | with_reducible assumption
    | intro _
    | with_reducible apply Dev.each_keeps
    | with_reducible apply Dev.dropOne_keeps
    | with_reducible apply Dev.retirePkt_keeps
    | simp only [keep_mk]
    | dsimp only
    | split
    | with_reducible refine keep_fst (by with_reducible assumption) ?_

theorem Dev.deliverPkt_keeps {kof : KeptOf} (d : Dev) (i q : Nat) (hd : d.Kept kof) :
    (Dev.deliverPkt d i q).Kept kof := by
  unfold Dev.deliverPkt
  try dsimp only
  repeat' first
    | with_reducible assumption
    | intro _
    | with_reducible apply keep_ite
    | with_reducible apply Dev.dropPkt_keeps
    | with_reducible apply Dev.retirePkt_keeps
    | with_reducible apply Dev.epochCount_keeps
    | simp only [keep_mk]
    | dsimp only
    | split
    | with_reducible refine keep_fst (by with_reducible assumption) ?_

theorem Dev.bridgeSpend_keeps {kof : KeptOf} (d : Dev) (q e n : Nat) (hd : d.Kept kof) :
    (Dev.bridgeSpend d q e n).Kept kof := by
  unfold Dev.bridgeSpend
  try dsimp only
  repeat' first
    | with_reducible assumption
    | intro _
    | with_reducible apply Dev.setBridgeCredit_keeps
    | simp only [keep_mk]
    | dsimp only
    | split
    | with_reducible refine keep_fst (by with_reducible assumption) ?_

theorem Dev.pumpFlit_keeps {kof : KeptOf} (d : Dev) (i n : Nat) (hd : d.Kept kof) :
    (Dev.pumpFlit d i n).Kept kof := by
  unfold Dev.pumpFlit
  try dsimp only
  repeat' first
    | with_reducible assumption
    | intro _
    | with_reducible apply keep_ite
    | with_reducible apply Dev.freeLoc_keeps
    | with_reducible apply Dev.bridgeSpend_keeps
    | with_reducible apply Dev.setPkt_keeps
    | with_reducible apply Dev.put_keeps
    | with_reducible apply Dev.event_keeps
    | simp only [keep_mk]
    | dsimp only
    | split
    | with_reducible refine keep_fst (by with_reducible assumption) ?_

theorem Dev.pumpPkt_keeps {kof : KeptOf} (d : Dev) (i : Nat) (hd : d.Kept kof) :
    (Dev.pumpPkt d i).Kept kof := by
  unfold Dev.pumpPkt
  try dsimp only
  repeat' first
    | with_reducible assumption
    | intro _
    | with_reducible apply keep_ite
    | with_reducible apply Dev.each_keeps
    | with_reducible apply Dev.pumpFlit_keeps
    | simp only [keep_mk]
    | dsimp only
    | split
    | with_reducible refine keep_fst (by with_reducible assumption) ?_

theorem Dev.pumpAll_keeps {kof : KeptOf} (d : Dev) (hd : d.Kept kof) :
    (Dev.pumpAll d).Kept kof := by
  unfold Dev.pumpAll
  try dsimp only
  repeat' first
    | with_reducible assumption
    | intro _
    | with_reducible apply Dev.each_keeps
    | with_reducible apply Dev.pumpPkt_keeps
    | simp only [keep_mk]
    | dsimp only
    | split
    | with_reducible refine keep_fst (by with_reducible assumption) ?_

theorem Dev.deliverIfWhole_keeps {kof : KeptOf} (d : Dev) (i : Nat) (hd : d.Kept kof) :
    (Dev.deliverIfWhole d i).Kept kof := by
  unfold Dev.deliverIfWhole
  try dsimp only
  repeat' first
    | with_reducible assumption
    | intro _
    | with_reducible apply keep_ite
    | with_reducible apply Dev.deliverPkt_keeps
    | simp only [keep_mk]
    | dsimp only
    | split
    | with_reducible refine keep_fst (by with_reducible assumption) ?_

theorem Dev.admitPacket_keeps {kof : KeptOf} (d : Dev) (i p step : Nat) (hd : d.Kept kof) :
    (Dev.admitPacket d i p step).Kept kof := by
  unfold Dev.admitPacket
  try dsimp only
  repeat' first
    | with_reducible assumption
    | intro _
    | with_reducible apply keep_ite
    | with_reducible apply Dev.setPkt_keeps
    | with_reducible apply Dev.when_keeps
    | with_reducible apply Dev.inc_keeps
    | with_reducible apply Dev.portEvent_keeps
    | with_reducible apply Dev.arrival_keeps
    | with_reducible apply Dev.modEport_keeps
    | with_reducible apply Dev.pumpPkt_keeps
    | simp only [keep_mk]
    | dsimp only
    | split
    | with_reducible refine keep_fst (by with_reducible assumption) ?_

theorem Dev.enqueue_keeps {kof : KeptOf} (d : Dev) (i p step : Nat) (nonmin : Bool) (hd : d.Kept kof) :
    (Dev.enqueue d i p step nonmin).Kept kof := by
  unfold Dev.enqueue
  try dsimp only
  repeat' first
    | with_reducible assumption
    | intro _
    | with_reducible apply keep_ite
    | with_reducible apply Dev.setPkt_keeps
    | with_reducible apply Dev.when_keeps
    | with_reducible apply Dev.inc_keeps
    | with_reducible apply Dev.event_keeps
    | with_reducible apply Dev.admitPacket_keeps
    | with_reducible apply Dev.modEport_keeps
    | simp only [keep_mk]
    | dsimp only
    | split
    | with_reducible refine keep_fst (by with_reducible assumption) ?_

theorem Dev.setPath_keeps {kof : KeptOf} (d : Dev) (i b eg : Nat) (hd : d.Kept kof) :
    (Dev.setPath d i b eg).1.Kept kof := by
  unfold Dev.setPath
  try dsimp only
  repeat' first
    | with_reducible assumption
    | intro _
    | with_reducible apply Dev.setPkt_keeps
    | simp only [keep_mk]
    | dsimp only
    | split
    | with_reducible refine keep_fst (by with_reducible assumption) ?_

theorem Dev.toPort_keeps {kof : KeptOf} (d : Dev) (i p step : Nat) (nonmin : Bool) (hd : d.Kept kof) :
    (Dev.toPort d i p step nonmin).Kept kof := by
  unfold Dev.toPort
  try dsimp only
  repeat' first
    | with_reducible assumption
    | intro _
    | with_reducible apply keep_ite
    | with_reducible apply Dev.setPath_keeps
    | with_reducible apply Dev.enqueue_keeps
    | with_reducible apply Dev.dropPkt_keeps
    | simp only [keep_mk]
    | dsimp only
    | split
    | with_reducible refine keep_fst (by with_reducible assumption) ?_

theorem Dev.toDelivery_keeps {kof : KeptOf} (d : Dev) (i q : Nat) (hd : d.Kept kof) :
    (Dev.toDelivery d i q).Kept kof := by
  unfold Dev.toDelivery
  try dsimp only
  repeat' first
    | with_reducible assumption
    | intro _
    | with_reducible apply keep_ite
    | with_reducible apply Dev.wakeDie_keeps
    | with_reducible apply Dev.setPath_keeps
    | with_reducible apply Dev.setPkt_keeps
    | with_reducible apply Dev.pumpPkt_keeps
    | with_reducible apply Dev.deliverIfWhole_keeps
    | with_reducible apply Dev.dropPkt_keeps
    | simp only [keep_mk]
    | dsimp only
    | split
    | with_reducible refine keep_fst (by with_reducible assumption) ?_

theorem Dev.routePkt_keeps {kof : KeptOf} (d : Dev) (i : Nat) (hd : d.Kept kof) :
    (Dev.routePkt d i).Kept kof := by
  unfold Dev.routePkt
  try dsimp only
  repeat' first
    | with_reducible assumption
    | intro _
    | with_reducible apply Dev.event_keeps
    | with_reducible apply Dev.dropPkt_keeps
    | with_reducible apply Dev.toDelivery_keeps
    | with_reducible apply Dev.toPort_keeps
    | simp only [keep_mk]
    | dsimp only
    | split
    | with_reducible refine keep_fst (by with_reducible assumption) ?_

theorem Dev.admitWaiting_keeps {kof : KeptOf} (d : Dev) (p : Nat) (hd : d.Kept kof) : ∀ (y0 : Nat),
    (Dev.admitWaiting d p y0).Kept kof := by
  intro y0
  induction y0 generalizing d p with
  | zero =>
    unfold Dev.admitWaiting
    try dsimp only
    repeat' first
      | with_reducible assumption
      | intro _
      | with_reducible apply keep_ite
      | with_reducible apply Dev.modEport_keeps
      | with_reducible apply Dev.admitPacket_keeps
      | simp only [keep_mk]
      | dsimp only
      | split
      | with_reducible refine keep_fst (by with_reducible assumption) ?_
  | succ n0 ih =>
    unfold Dev.admitWaiting
    try dsimp only
    repeat' first
      | with_reducible assumption
      | intro _
      | with_reducible apply keep_ite
      | with_reducible apply ih
      | with_reducible apply Dev.modEport_keeps
      | with_reducible apply Dev.admitPacket_keeps
      | simp only [keep_mk]
      | dsimp only
      | split
      | with_reducible refine keep_fst (by with_reducible assumption) ?_

theorem Dev.relook_keeps {kof : KeptOf} (d : Dev) (i p : Nat) (hd : d.Kept kof) :
    (Dev.relook d i p).Kept kof := by
  unfold Dev.relook
  try dsimp only
  repeat' first
    | with_reducible assumption
    | intro _
    | with_reducible apply keep_ite
    | with_reducible apply Dev.event_keeps
    | with_reducible apply Dev.unqueuePorts_keeps
    | with_reducible apply Dev.setPkt_keeps
    | with_reducible apply Dev.toPort_keeps
    | with_reducible apply Dev.inc_keeps
    | with_reducible apply Dev.dropPkt_keeps
    | simp only [keep_mk]
    | dsimp only
    | split
    | with_reducible refine keep_fst (by with_reducible assumption) ?_

theorem Dev.relookPort_keeps {kof : KeptOf} (d : Dev) (p : Nat) (hd : d.Kept kof) :
    (Dev.relookPort d p).Kept kof := by
  unfold Dev.relookPort
  try dsimp only
  repeat' first
    | with_reducible assumption
    | intro _
    | with_reducible apply Dev.each_keeps
    | with_reducible apply Dev.relook_keeps
    | simp only [keep_mk]
    | dsimp only
    | split
    | with_reducible refine keep_fst (by with_reducible assumption) ?_

theorem Dev.portDead_keeps {kof : KeptOf} (d : Dev) (p : Nat) (hd : d.Kept kof) :
    (Dev.portDead d p).Kept kof := by
  unfold Dev.portDead
  try dsimp only
  repeat' first
    | with_reducible assumption
    | intro _
    | with_reducible apply Dev.putB_keeps
    | with_reducible apply Dev.modEport_keeps
    | with_reducible apply Dev.relookPort_keeps
    | simp only [keep_mk]
    | dsimp only
    | split
    | with_reducible refine keep_fst (by with_reducible assumption) ?_

theorem Dev.portUnroutable_keeps {kof : KeptOf} (d : Dev) (p : Nat) (hd : d.Kept kof) :
    (Dev.portUnroutable d p).Kept kof := by
  unfold Dev.portUnroutable
  try dsimp only
  repeat' first
    | with_reducible assumption
    | intro _
    | with_reducible apply Dev.modEport_keeps
    | simp only [keep_mk]
    | dsimp only
    | split
    | with_reducible refine keep_fst (by with_reducible assumption) ?_

theorem Dev.portRoutable_keeps {kof : KeptOf} (d : Dev) (p : Nat) (hd : d.Kept kof) :
    (Dev.portRoutable d p).Kept kof := by
  unfold Dev.portRoutable
  try dsimp only
  repeat' first
    | with_reducible assumption
    | intro _
    | with_reducible apply Dev.putB_keeps
    | with_reducible apply Dev.modEport_keeps
    | with_reducible apply Dev.each_keeps
    | with_reducible apply Dev.relookPort_keeps
    | simp only [keep_mk]
    | dsimp only
    | split
    | with_reducible refine keep_fst (by with_reducible assumption) ?_

theorem Dev.dropQueued_keeps {kof : KeptOf} (d : Dev) (p reason : Nat) (hd : d.Kept kof) :
    (Dev.dropQueued d p reason).Kept kof := by
  unfold Dev.dropQueued
  try dsimp only
  repeat' first
    | with_reducible assumption
    | intro _
    | with_reducible apply Dev.each_keeps
    | with_reducible apply Dev.dropPkt_keeps
    | simp only [keep_mk]
    | dsimp only
    | split
    | with_reducible refine keep_fst (by with_reducible assumption) ?_

/-! Machine/Sched.lean -/

theorem Dev.setShaper_keeps {kof : KeptOf} (d : Dev) (p t : Nat) (x : Shaper) (hd : d.Kept kof) :
    (Dev.setShaper d p t x).Kept kof := by
  unfold Dev.setShaper
  try dsimp only
  repeat' first
    | with_reducible assumption
    | intro _
    | simp only [keep_mk]
    | dsimp only
    | split
    | with_reducible refine keep_fst (by with_reducible assumption) ?_

theorem Dev.setGate_keeps {kof : KeptOf} (d : Dev) (p : Nat) (g : Gate) (hd : d.Kept kof) :
    (Dev.setGate d p g).Kept kof := by
  unfold Dev.setGate
  try dsimp only
  repeat' first
    | with_reducible assumption
    | intro _
    | simp only [keep_mk]
    | dsimp only
    | split
    | with_reducible refine keep_fst (by with_reducible assumption) ?_

theorem Dev.gateEntry_keeps {kof : KeptOf} (d : Dev) (p l e t : Nat) (hd : d.Kept kof) :
    (Dev.gateEntry d p l e t).Kept kof := by
  unfold Dev.gateEntry
  try dsimp only
  repeat' first
    | with_reducible assumption
    | intro _
    | with_reducible apply keep_ite
    | with_reducible apply Dev.put_keeps
    | with_reducible apply Dev.setGate_keeps
    | simp only [keep_mk]
    | dsimp only
    | split
    | with_reducible refine keep_fst (by with_reducible assumption) ?_

/-! Machine/Multicast.lean -/

theorem Dev.setBacked_keeps {kof : KeptOf} (d : Dev) (q g : Nat) (b : Bool) (hd : d.Kept kof) :
    (Dev.setBacked d q g b).Kept kof := by
  unfold Dev.setBacked
  try dsimp only
  repeat' first
    | with_reducible assumption
    | intro _
    | with_reducible apply Dev.put_keeps
    | simp only [keep_mk]
    | dsimp only
    | split
    | with_reducible refine keep_fst (by with_reducible assumption) ?_

theorem Dev.setGcache_keeps {kof : KeptOf} (d : Dev) (q : Nat) (l : List Nat) (hd : d.Kept kof) :
    (Dev.setGcache d q l).Kept kof := by
  unfold Dev.setGcache
  try dsimp only
  repeat' first
    | with_reducible assumption
    | intro _
    | simp only [keep_mk]
    | dsimp only
    | split
    | with_reducible refine keep_fst (by with_reducible assumption) ?_

theorem Dev.useEntry_keeps {kof : KeptOf} (d : Dev) (q g : Nat) (hd : d.Kept kof) :
    (Dev.useEntry d q g).Kept kof := by
  unfold Dev.useEntry
  try dsimp only
  repeat' first
    | with_reducible assumption
    | intro _
    | with_reducible apply Dev.setGcache_keeps
    | simp only [keep_mk]
    | dsimp only
    | split
    | with_reducible refine keep_fst (by with_reducible assumption) ?_

theorem Dev.applyFence_keeps {kof : KeptOf} (d : Dev) (q e : Nat) (node set : Bool) (gen orig : Nat) (hd : d.Kept kof) :
    (Dev.applyFence d q e node set gen orig).Kept kof := by
  unfold Dev.applyFence
  try dsimp only
  repeat' first
    | with_reducible assumption
    | intro _
    | with_reducible apply keep_ite
    | simp only [keep_mk]
    | dsimp only
    | split
    | with_reducible refine keep_fst (by with_reducible assumption) ?_

theorem Dev.copyPkt_keeps {kof : KeptOf} (d : Dev) (i member : Nat) (hd : d.Kept kof) :
    (Dev.copyPkt d i member).1.Kept kof := by
  unfold Dev.copyPkt
  try dsimp only
  repeat' first
    | with_reducible assumption
    | intro _
    | with_reducible apply Dev.each_keeps
    | with_reducible apply Dev.addRef_keeps
    | with_reducible apply Dev.setPkt_keeps
    | with_reducible apply Dev.put_keeps
    | simp only [keep_mk]
    | dsimp only
    | split
    | with_reducible refine keep_fst (by with_reducible assumption) ?_

theorem Dev.copyToPort_keeps {kof : KeptOf} (d : Dev) (i p step : Nat) (hd : d.Kept kof) :
    (Dev.copyToPort d i p step).Kept kof := by
  unfold Dev.copyToPort
  try dsimp only
  repeat' first
    | with_reducible assumption
    | intro _
    | with_reducible apply keep_ite
    | with_reducible apply Dev.copyPkt_keeps
    | with_reducible apply Dev.dropPkt_keeps
    | with_reducible apply Dev.toPort_keeps
    | simp only [keep_mk]
    | dsimp only
    | split
    | with_reducible refine keep_fst (by with_reducible assumption) ?_

theorem Dev.copyToDie_keeps {kof : KeptOf} (d : Dev) (i q member : Nat) (hd : d.Kept kof) :
    (Dev.copyToDie d i q member).Kept kof := by
  unfold Dev.copyToDie
  try dsimp only
  repeat' first
    | with_reducible assumption
    | intro _
    | with_reducible apply Dev.copyPkt_keeps
    | with_reducible apply Dev.toDelivery_keeps
    | simp only [keep_mk]
    | dsimp only
    | split
    | with_reducible refine keep_fst (by with_reducible assumption) ?_

theorem Dev.replicatePorts_keeps {kof : KeptOf} (d : Dev) (q g i : Nat) (ports : List Nat) (hd : d.Kept kof) :
    (Dev.replicatePorts d q g i ports).Kept kof := by
  unfold Dev.replicatePorts
  try dsimp only
  repeat' first
    | with_reducible assumption
    | intro _
    | with_reducible apply keep_ite
    | with_reducible apply Dev.each_keeps
    | with_reducible apply Dev.inc_keeps
    | with_reducible apply Dev.copyToPort_keeps
    | with_reducible apply Dev.event_keeps
    | simp only [keep_mk]
    | dsimp only
    | split
    | with_reducible refine keep_fst (by with_reducible assumption) ?_

theorem Dev.replicateMembers_keeps {kof : KeptOf} (d : Dev) (q g i : Nat) (hd : d.Kept kof) :
    (Dev.replicateMembers d q g i).Kept kof := by
  unfold Dev.replicateMembers
  try dsimp only
  repeat' first
    | with_reducible assumption
    | intro _
    | with_reducible apply keep_ite
    | with_reducible apply Dev.each_keeps
    | with_reducible apply Dev.inc_keeps
    | with_reducible apply Dev.copyToDie_keeps
    | with_reducible apply Dev.event_keeps
    | simp only [keep_mk]
    | dsimp only
    | split
    | with_reducible refine keep_fst (by with_reducible assumption) ?_

theorem Dev.countMembers_keeps {kof : KeptOf} (d : Dev) (q g : Nat) (hd : d.Kept kof) :
    (Dev.countMembers d q g).Kept kof := by
  unfold Dev.countMembers
  try dsimp only
  repeat' first
    | with_reducible assumption
    | intro _
    | with_reducible apply keep_ite
    | with_reducible apply Dev.each_keeps
    | with_reducible apply Dev.inc_keeps
    | with_reducible apply Dev.event_keeps
    | simp only [keep_mk]
    | dsimp only
    | split
    | with_reducible refine keep_fst (by with_reducible assumption) ?_

theorem Dev.endOriginal_keeps {kof : KeptOf} (d : Dev) (i : Nat) (hd : d.Kept kof) :
    (Dev.endOriginal d i).Kept kof := by
  unfold Dev.endOriginal
  try dsimp only
  repeat' first
    | with_reducible assumption
    | intro _
    | with_reducible apply Dev.retirePkt_keeps
    | simp only [keep_mk]
    | dsimp only
    | split
    | with_reducible refine keep_fst (by with_reducible assumption) ?_

theorem Dev.groupHandle_keeps {kof : KeptOf} (d : Dev) (i : Nat) (named : List Nat) (hd : d.Kept kof) :
    (Dev.groupHandle d i named).Kept kof := by
  unfold Dev.groupHandle
  try dsimp only
  repeat' first
    | with_reducible assumption
    | intro _
    | with_reducible apply keep_ite
    | with_reducible apply Dev.useEntry_keeps
    | with_reducible apply Dev.setPkt_keeps
    | with_reducible apply Dev.copyToPort_keeps
    | with_reducible apply Dev.copyToDie_keeps
    | with_reducible apply Dev.replicatePorts_keeps
    | with_reducible apply Dev.replicateMembers_keeps
    | with_reducible apply Dev.countMembers_keeps
    | with_reducible apply Dev.when_keeps
    | with_reducible apply Dev.endOriginal_keeps
    | simp only [keep_mk]
    | dsimp only
    | split
    | with_reducible refine keep_fst (by with_reducible assumption) ?_

theorem Dev.groupTurn_keeps {kof : KeptOf} (d : Dev) (q g i : Nat) (named : List Nat) (hd : d.Kept kof) :
    (Dev.groupTurn d q g i named).Kept kof := by
  unfold Dev.groupTurn
  try dsimp only
  repeat' first
    | with_reducible assumption
    | intro _
    | with_reducible apply keep_ite
    | with_reducible apply Dev.dropPkt_keeps
    | with_reducible apply Dev.groupHandle_keeps
    | simp only [keep_mk]
    | dsimp only
    | split
    | with_reducible refine keep_fst (by with_reducible assumption) ?_

theorem Dev.groupArrive_keeps {kof : KeptOf} (d : Dev) (i : Nat) (named : List Nat) (hd : d.Kept kof) :
    (Dev.groupArrive d i named).Kept kof := by
  unfold Dev.groupArrive
  try dsimp only
  repeat' first
    | with_reducible assumption
    | intro _
    | with_reducible apply Dev.groupTurn_keeps
    | with_reducible apply Dev.when_keeps
    | with_reducible apply Dev.inc_keeps
    | with_reducible apply Dev.event_keeps
    | simp only [keep_mk]
    | dsimp only
    | split
    | with_reducible refine keep_fst (by with_reducible assumption) ?_

/-! Machine/RouterIn.lean -/

theorem Dev.newPkt_keeps {kof : KeptOf} (d : Dev) (o : Owner) (fabric : Bool) (head : Body) (down : Bool) (hd : d.Kept kof) :
    (Dev.newPkt d o fabric head down).1.Kept kof := by
  unfold Dev.newPkt
  try dsimp only
  repeat' first
    | with_reducible assumption
    | intro _
    | with_reducible apply keep_ite
    | with_reducible apply Dev.put_keeps
    | simp only [keep_mk]
    | dsimp only
    | split
    | with_reducible refine keep_fst (by with_reducible assumption) ?_

theorem Dev.growPkt_keeps {kof : KeptOf} (d : Dev) (i : Nat) (b : Body) (poison : Bool) (loc : FLoc) (hd : d.Kept kof) :
    (Dev.growPkt d i b poison loc).Kept kof := by
  unfold Dev.growPkt
  try dsimp only
  repeat' first
    | with_reducible assumption
    | intro _
    | with_reducible apply Dev.setPkt_keeps
    | simp only [keep_mk]
    | dsimp only
    | split
    | with_reducible refine keep_fst (by with_reducible assumption) ?_

theorem Dev.addFlit_keeps {kof : KeptOf} (d : Dev) (i : Nat) (b : Body) (poison : Bool) (hd : d.Kept kof) :
    (Dev.addFlit d i b poison).Kept kof := by
  unfold Dev.addFlit
  try dsimp only
  repeat' first
    | with_reducible assumption
    | intro _
    | with_reducible apply Dev.storeFlit_keeps
    | with_reducible apply Dev.growPkt_keeps
    | with_reducible apply Dev.each_keeps
    | with_reducible apply Dev.addRef_keeps
    | simp only [keep_mk]
    | dsimp only
    | split
    | with_reducible refine keep_fst (by with_reducible assumption) ?_

theorem Dev.corruptOne_keeps {kof : KeptOf} (d : Dev) (i reason : Nat) (hd : d.Kept kof) :
    (Dev.corruptOne d i reason).Kept kof := by
  unfold Dev.corruptOne
  try dsimp only
  repeat' first
    | with_reducible assumption
    | intro _
    | with_reducible apply keep_ite
    | with_reducible apply Dev.dropOne_keeps
    | with_reducible apply Dev.setPkt_keeps
    | with_reducible apply Dev.inc_keeps
    | simp only [keep_mk]
    | dsimp only
    | split
    | with_reducible refine keep_fst (by with_reducible assumption) ?_

theorem Dev.corrupt_keeps {kof : KeptOf} (d : Dev) (i reason : Nat) (hd : d.Kept kof) :
    (Dev.corrupt d i reason).Kept kof := by
  unfold Dev.corrupt
  try dsimp only
  repeat' first
    | with_reducible assumption
    | intro _
    | with_reducible apply Dev.each_keeps
    | with_reducible apply Dev.corruptOne_keeps
    | with_reducible apply Dev.when_keeps
    | with_reducible apply Dev.setPkt_keeps
    | simp only [keep_mk]
    | dsimp only
    | split
    | with_reducible refine keep_fst (by with_reducible assumption) ?_

theorem Dev.goOn_keeps {kof : KeptOf} (d : Dev) (i : Nat) (hd : d.Kept kof) :
    (Dev.goOn d i).Kept kof := by
  unfold Dev.goOn
  try dsimp only
  repeat' first
    | with_reducible assumption
    | intro _
    | with_reducible apply Dev.each_keeps
    | with_reducible apply Dev.pumpPkt_keeps
    | with_reducible apply Dev.deliverIfWhole_keeps
    | simp only [keep_mk]
    | dsimp only
    | split
    | with_reducible refine keep_fst (by with_reducible assumption) ?_

theorem Dev.tailIn_keeps {kof : KeptOf} (d : Dev) (i : Nat) (hd : d.Kept kof) :
    (Dev.tailIn d i).Kept kof := by
  unfold Dev.tailIn
  try dsimp only
  repeat' first
    | with_reducible assumption
    | intro _
    | with_reducible apply keep_ite
    | with_reducible apply Dev.goOn_keeps
    | with_reducible apply Dev.corrupt_keeps
    | with_reducible apply Dev.when_keeps
    | with_reducible apply Dev.endOriginal_keeps
    | simp only [keep_mk]
    | dsimp only
    | split
    | with_reducible refine keep_fst (by with_reducible assumption) ?_

theorem Dev.headIn_keeps {kof : KeptOf} (d : Dev) (i : Nat) (poison badChannel : Bool) (named : List Nat) (hd : d.Kept kof) :
    (Dev.headIn d i poison badChannel named).Kept kof := by
  unfold Dev.headIn
  try dsimp only
  repeat' first
    | with_reducible assumption
    | intro _
    | with_reducible apply keep_ite
    | with_reducible apply Dev.dropPkt_keeps
    | with_reducible apply Dev.groupArrive_keeps
    | with_reducible apply Dev.routePkt_keeps
    | simp only [keep_mk]
    | dsimp only
    | split
    | with_reducible refine keep_fst (by with_reducible assumption) ?_

theorem Dev.dataIn_keeps {kof : KeptOf} (d : Dev) (p v : Nat) (head poison : Bool) (b : Body) (hd : d.Kept kof) :
    (Dev.dataIn d p v head poison b).Kept kof := by
  unfold Dev.dataIn
  try dsimp only
  repeat' first
    | with_reducible assumption
    | intro _
    | with_reducible apply keep_ite
    | with_reducible apply Dev.modChan_keeps
    | with_reducible apply Dev.newPkt_keeps
    | with_reducible apply Dev.addFlit_keeps
    | with_reducible apply Dev.headIn_keeps
    | with_reducible apply Dev.tailIn_keeps
    | with_reducible apply Dev.when_keeps
    | with_reducible apply Dev.corrupt_keeps
    | with_reducible apply Dev.storeFlit_keeps
    | with_reducible apply Dev.freeLoc_keeps
    | simp only [keep_mk]
    | dsimp only
    | split
    | with_reducible refine keep_fst (by with_reducible assumption) ?_

theorem Dev.enterRouter_keeps {kof : KeptOf} (d : Dev) (q r : Nat) (k : Packet) (ports : List Nat) (glaze : Option (Nat × Nat)) (hd : d.Kept kof) :
    (Dev.enterRouter d q r k ports glaze).Kept kof := by
  unfold Dev.enterRouter
  try dsimp only
  repeat' first
    | with_reducible assumption
    | intro _
    | with_reducible apply Dev.epochCount_keeps
    | with_reducible apply Dev.newPkt_keeps
    | with_reducible apply Dev.addFlit_keeps
    | with_reducible apply Dev.headIn_keeps
    | with_reducible apply Dev.each_keeps
    | with_reducible apply Dev.tailIn_keeps
    | simp only [keep_mk]
    | dsimp only
    | split
    | with_reducible refine keep_fst (by with_reducible assumption) ?_

theorem Dev.dropInj_keeps {kof : KeptOf} (d : Dev) (x : InjReq) (hd : d.Kept kof) :
    (Dev.dropInj d x).Kept kof := by
  unfold Dev.dropInj
  try dsimp only
  repeat' first
    | with_reducible assumption
    | intro _
    | simp only [keep_mk]
    | dsimp only
    | split
    | with_reducible refine keep_fst (by with_reducible assumption) ?_

theorem Dev.tryInject_keeps {kof : KeptOf} (d : Dev) (x : InjReq) (hd : d.Kept kof) :
    (Dev.tryInject d x).Kept kof := by
  unfold Dev.tryInject
  try dsimp only
  repeat' first
    | with_reducible assumption
    | intro _
    | with_reducible apply keep_ite
    | with_reducible apply Dev.inc_keeps
    | with_reducible apply Dev.dropInj_keeps
    | with_reducible apply Dev.enterRouter_keeps
    | simp only [keep_mk]
    | dsimp only
    | split
    | with_reducible refine keep_fst (by with_reducible assumption) ?_

theorem Dev.offerSealed_keeps {kof : KeptOf} (d : Dev) (q r : Nat) (fw : Bool) (k : Packet) (ports : List Nat) (glaze : Option (Nat × Nat)) (hd : d.Kept kof) :
    (Dev.offerSealed d q r fw k ports glaze).Kept kof := by
  unfold Dev.offerSealed
  try dsimp only
  repeat' first
    | with_reducible assumption
    | intro _
    | simp only [keep_mk]
    | dsimp only
    | split
    | with_reducible refine keep_fst (by with_reducible assumption) ?_

theorem Dev.offer_keeps {kof : KeptOf} (d : Dev) (q r : Nat) (fw : Bool) (k : Packet) (ports : List Nat) (hd : d.Kept kof) :
    (Dev.offer d q r fw k ports).Kept kof := by
  unfold Dev.offer
  try dsimp only
  repeat' first
    | with_reducible assumption
    | intro _
    | with_reducible apply Dev.offerSealed_keeps
    | simp only [keep_mk]
    | dsimp only
    | split
    | with_reducible refine keep_fst (by with_reducible assumption) ?_

theorem Dev.retryInj_keeps {kof : KeptOf} (d : Dev) (q r : Nat) (hd : d.Kept kof) :
    (Dev.retryInj d q r).Kept kof := by
  unfold Dev.retryInj
  try dsimp only
  repeat' first
    | with_reducible assumption
    | intro _
    | with_reducible apply Dev.each_keeps
    | with_reducible apply Dev.tryInject_keeps
    | simp only [keep_mk]
    | dsimp only
    | split
    | with_reducible refine keep_fst (by with_reducible assumption) ?_

theorem Dev.bridgeArrive_keeps {kof : KeptOf} (d : Dev) (q e : Nat) (hd : d.Kept kof) :
    (Dev.bridgeArrive d q e).Kept kof := by
  unfold Dev.bridgeArrive
  try dsimp only
  repeat' first
    | with_reducible assumption
    | intro _
    | with_reducible apply Dev.storeFlit_keeps
    | with_reducible apply Dev.setPkt_keeps
    | with_reducible apply Dev.pumpPkt_keeps
    | with_reducible apply Dev.deliverIfWhole_keeps
    | with_reducible apply Dev.event_keeps
    | simp only [keep_mk]
    | dsimp only
    | split
    | with_reducible refine keep_fst (by with_reducible assumption) ?_

theorem Dev.dropOnBridge_keeps {kof : KeptOf} (d : Dev) (q e reason : Nat) (hd : d.Kept kof) :
    (Dev.dropOnBridge d q e reason).Kept kof := by
  unfold Dev.dropOnBridge
  try dsimp only
  repeat' first
    | with_reducible assumption
    | intro _
    | with_reducible apply Dev.each_keeps
    | with_reducible apply Dev.dropPkt_keeps
    | simp only [keep_mk]
    | dsimp only
    | split
    | with_reducible refine keep_fst (by with_reducible assumption) ?_

theorem Dev.reroute_keeps {kof : KeptOf} (d : Dev) (i : Nat) (bad : List Nat → Bool) (wait : Bool) (hd : d.Kept kof) :
    (Dev.reroute d i bad wait).Kept kof := by
  unfold Dev.reroute
  try dsimp only
  repeat' first
    | with_reducible assumption
    | intro _
    | with_reducible apply keep_ite
    | with_reducible apply Dev.setPkt_keeps
    | with_reducible apply Dev.pumpPkt_keeps
    | with_reducible apply Dev.dropPkt_keeps
    | simp only [keep_mk]
    | dsimp only
    | split
    | with_reducible refine keep_fst (by with_reducible assumption) ?_

theorem Dev.rerouteOver_keeps {kof : KeptOf} (d : Dev) (a b : Nat) (wait : Bool) (hd : d.Kept kof) :
    (Dev.rerouteOver d a b wait).Kept kof := by
  unfold Dev.rerouteOver
  try dsimp only
  repeat' first
    | with_reducible assumption
    | intro _
    | with_reducible apply Dev.each_keeps
    | with_reducible apply Dev.reroute_keeps
    | simp only [keep_mk]
    | dsimp only
    | split
    | with_reducible refine keep_fst (by with_reducible assumption) ?_

theorem Dev.rerouteAround_keeps {kof : KeptOf} (d : Dev) (q : Nat) (wait : Bool) (hd : d.Kept kof) :
    (Dev.rerouteAround d q wait).Kept kof := by
  unfold Dev.rerouteAround
  try dsimp only
  repeat' first
    | with_reducible assumption
    | intro _
    | with_reducible apply Dev.each_keeps
    | with_reducible apply Dev.reroute_keeps
    | simp only [keep_mk]
    | dsimp only
    | split
    | with_reducible refine keep_fst (by with_reducible assumption) ?_

theorem Dev.takeBridgeDown_keeps {kof : KeptOf} (d : Dev) (q e : Nat) (hd : d.Kept kof) :
    (Dev.takeBridgeDown d q e).Kept kof := by
  unfold Dev.takeBridgeDown
  try dsimp only
  repeat' first
    | with_reducible assumption
    | intro _
    | with_reducible apply Dev.putB_keeps
    | with_reducible apply Dev.bridgeSync_keeps
    | with_reducible apply Dev.dropOnBridge_keeps
    | with_reducible apply Dev.rerouteOver_keeps
    | with_reducible apply Dev.raise_keeps
    | simp only [keep_mk]
    | dsimp only
    | split
    | with_reducible refine keep_fst (by with_reducible assumption) ?_

end Sys2Proof.Machine
end

