-- ==== Sys2Proof/Laws/KeepHost.lean ====
section
/-! SUPPORT. Every operation keeps the tables canonical, the fuses and the time: keys, translation, queues, engines, collectives. -/

set_option Elab.async false

namespace Sys2Proof.Machine

/-! Machine/Keys.lean -/

theorem Dev.useKey_keeps {kof : KeptOf} (d : Dev) (q slot : Nat) (hd : d.Kept kof) :
    (Dev.useKey d q slot).Kept kof := by
  unfold Dev.useKey
  try dsimp only
  repeat' first
    | with_reducible assumption
    | intro _
    | with_reducible apply Dev.when_keeps
    | with_reducible apply Dev.inc_keeps
    | simp only [keep_mk]
    | dsimp only
    | split
    | with_reducible refine keep_fst (by with_reducible assumption) ?_

theorem Dev.setKeySlot_keeps {kof : KeptOf} (d : Dev) (q slot state owner ctx lastinc : Nat) (hd : d.Kept kof) :
    (Dev.setKeySlot d q slot state owner ctx lastinc).Kept kof := by
  unfold Dev.setKeySlot
  try dsimp only
  repeat' first
    | with_reducible assumption
    | intro _
    | with_reducible apply Dev.put_keeps
    | simp only [keep_mk]
    | dsimp only
    | split
    | with_reducible refine keep_fst (by with_reducible assumption) ?_

theorem Dev.freeKey_keeps {kof : KeptOf} (d : Dev) (q slot : Nat) (hd : d.Kept kof) :
    (Dev.freeKey d q slot).Kept kof := by
  unfold Dev.freeKey
  try dsimp only
  repeat' first
    | with_reducible assumption
    | intro _
    | with_reducible apply keep_ite
    | with_reducible apply Dev.setKeySlot_keeps
    | with_reducible apply Dev.put_keeps
    | with_reducible apply Dev.inc_keeps
    | simp only [keep_mk]
    | dsimp only
    | split
    | with_reducible refine keep_fst (by with_reducible assumption) ?_

/-! Machine/Xlt.lean -/

theorem Dev.setL2_keeps {kof : KeptOf} (d : Dev) (q : Nat) (l : List XEnt) (hd : d.Kept kof) :
    (Dev.setL2 d q l).Kept kof := by
  unfold Dev.setL2
  try dsimp only
  repeat' first
    | with_reducible assumption
    | intro _
    | simp only [keep_mk]
    | dsimp only
    | split
    | with_reducible refine keep_fst (by with_reducible assumption) ?_

theorem Dev.setL1_keeps {kof : KeptOf} (d : Dev) (k : Nat) (l : List (Nat × Nat)) (hd : d.Kept kof) :
    (Dev.setL1 d k l).Kept kof := by
  unfold Dev.setL1
  try dsimp only
  repeat' first
    | with_reducible assumption
    | intro _
    | simp only [keep_mk]
    | dsimp only
    | split
    | with_reducible refine keep_fst (by with_reducible assumption) ?_

theorem Dev.emptyL1_keeps {kof : KeptOf} (d : Dev) (q region : Nat) (hd : d.Kept kof) :
    (Dev.emptyL1 d q region).Kept kof := by
  unfold Dev.emptyL1
  try dsimp only
  repeat' first
    | with_reducible assumption
    | intro _
    | with_reducible apply Dev.setL1_keeps
    | simp only [keep_mk]
    | dsimp only
    | split
    | with_reducible refine keep_fst (by with_reducible assumption) ?_

theorem Dev.removeEnts_keeps {kof : KeptOf} (d : Dev) (q : Nat) (p : XEnt → Bool) (hd : d.Kept kof) :
    (Dev.removeEnts d q p).Kept kof := by
  unfold Dev.removeEnts
  try dsimp only
  repeat' first
    | with_reducible assumption
    | intro _
    | with_reducible apply Dev.setL2_keeps
    | with_reducible apply Dev.each_keeps
    | with_reducible apply Dev.setL1_keeps
    | simp only [keep_mk]
    | dsimp only
    | split
    | with_reducible refine keep_fst (by with_reducible assumption) ?_

theorem Dev.loadEnt_keeps {kof : KeptOf} (d : Dev) (q : Nat) (e : XEnt) (hd : d.Kept kof) :
    (Dev.loadEnt d q e).Kept kof := by
  unfold Dev.loadEnt
  try dsimp only
  repeat' first
    | with_reducible assumption
    | intro _
    | with_reducible apply keep_ite
    | with_reducible apply Dev.removeEnts_keeps
    | with_reducible apply Dev.setL2_keeps
    | simp only [keep_mk]
    | dsimp only
    | split
    | with_reducible refine keep_fst (by with_reducible assumption) ?_

theorem Dev.unguard_keeps {kof : KeptOf} (d : Dev) (q slot : Nat) (hd : d.Kept kof) :
    (Dev.unguard d q slot).Kept kof := by
  unfold Dev.unguard
  try dsimp only
  repeat' first
    | with_reducible assumption
    | intro _
    | with_reducible apply Dev.setL2_keeps
    | simp only [keep_mk]
    | dsimp only
    | split
    | with_reducible refine keep_fst (by with_reducible assumption) ?_

theorem Dev.lookupEnt_keeps {kof : KeptOf} (d : Dev) (q : Nat) (a : XAcc) (hd : d.Kept kof) :
    (Dev.lookupEnt d q a).1.Kept kof := by
  unfold Dev.lookupEnt
  try dsimp only
  repeat' first
    | with_reducible assumption
    | intro _
    | with_reducible apply keep_ite
    | with_reducible apply Dev.event_keeps
    | with_reducible apply Dev.setL1_keeps
    | with_reducible apply Dev.setL2_keeps
    | with_reducible apply Dev.inc_keeps
    | simp only [keep_mk]
    | dsimp only
    | split
    | with_reducible refine keep_fst (by with_reducible assumption) ?_

theorem Dev.translate_keeps {kof : KeptOf} (d : Dev) (q : Nat) (a : XAcc) (hd : d.Kept kof) :
    (Dev.translate d q a).1.Kept kof := by
  unfold Dev.translate
  try dsimp only
  repeat' first
    | with_reducible assumption
    | intro _
    | with_reducible apply keep_ite
    | with_reducible apply Dev.lookupEnt_keeps
    | with_reducible apply Dev.unguard_keeps
    | simp only [keep_mk]
    | dsimp only
    | split
    | with_reducible refine keep_fst (by with_reducible assumption) ?_

theorem Dev.translateRange_keeps {kof : KeptOf} (d : Dev) (q : Nat) (a : XAcc) (hd : d.Kept kof) : ∀ (y0 : Nat),
    (Dev.translateRange d q a y0).1.Kept kof := by
  intro y0
  induction y0 generalizing d q a with
  | zero =>
    unfold Dev.translateRange
    try dsimp only
    repeat' first
      | with_reducible assumption
      | intro _
      | with_reducible apply keep_ite
      | with_reducible apply Dev.translate_keeps
      | simp only [keep_mk]
      | dsimp only
      | split
      | with_reducible refine keep_fst (by with_reducible assumption) ?_
  | succ n0 ih =>
    unfold Dev.translateRange
    try dsimp only
    repeat' first
      | with_reducible assumption
      | intro _
      | with_reducible apply keep_ite
      | with_reducible apply ih
      | with_reducible apply Dev.translate_keeps
      | simp only [keep_mk]
      | dsimp only
      | split
      | with_reducible refine keep_fst (by with_reducible assumption) ?_

theorem Dev.translateFrags_keeps {kof : KeptOf} (d : Dev) (q : Nat) (a : XAcc) (hd : d.Kept kof) : ∀ (y0 : List (Nat × Nat)),
    (Dev.translateFrags d q a y0).1.Kept kof := by
  intro y0
  induction y0 generalizing d q a with
  | nil =>
    unfold Dev.translateFrags
    try dsimp only
    repeat' first
      | with_reducible assumption
      | intro _
      | with_reducible apply keep_ite
      | with_reducible apply Dev.translateRange_keeps
      | simp only [keep_mk]
      | dsimp only
      | split
      | with_reducible refine keep_fst (by with_reducible assumption) ?_
  | cons x0 t0 ih =>
    unfold Dev.translateFrags
    try dsimp only
    repeat' first
      | with_reducible assumption
      | intro _
      | with_reducible apply keep_ite
      | with_reducible apply ih
      | with_reducible apply Dev.translateRange_keeps
      | simp only [keep_mk]
      | dsimp only
      | split
      | with_reducible refine keep_fst (by with_reducible assumption) ?_

theorem Dev.setPend_keeps {kof : KeptOf} (d : Dev) (q slot : Nat) (b : Bool) (hd : d.Kept kof) :
    (Dev.setPend d q slot b).Kept kof := by
  unfold Dev.setPend
  try dsimp only
  repeat' first
    | with_reducible assumption
    | intro _
    | with_reducible apply Dev.put_keeps
    | simp only [keep_mk]
    | dsimp only
    | split
    | with_reducible refine keep_fst (by with_reducible assumption) ?_

theorem Dev.takeSlot_keeps {kof : KeptOf} (d : Dev) (q slot : Nat) (a : XAcc) (cause : Nat) (c : Cont) (hd : d.Kept kof) :
    (Dev.takeSlot d q slot a cause c).Kept kof := by
  unfold Dev.takeSlot
  try dsimp only
  repeat' first
    | with_reducible assumption
    | intro _
    | with_reducible apply keep_ite
    | with_reducible apply Dev.put_keeps
    | with_reducible apply Dev.setPend_keeps
    | with_reducible apply Dev.inc_keeps
    | with_reducible apply Dev.event_keeps
    | simp only [keep_mk]
    | dsimp only
    | split
    | with_reducible refine keep_fst (by with_reducible assumption) ?_

theorem Dev.trapInit_keeps {kof : KeptOf} (d : Dev) (q : Nat) (a : XAcc) (cause : Nat) (c : Cont) (hd : d.Kept kof) :
    (Dev.trapInit d q a cause c).Kept kof := by
  unfold Dev.trapInit
  try dsimp only
  repeat' first
    | with_reducible assumption
    | intro _
    | with_reducible apply Dev.takeSlot_keeps
    | simp only [keep_mk]
    | dsimp only
    | split
    | with_reducible refine keep_fst (by with_reducible assumption) ?_

theorem Dev.freeTrap_keeps {kof : KeptOf} (d : Dev) (q slot : Nat) (hd : d.Kept kof) :
    (Dev.freeTrap d q slot).Kept kof := by
  unfold Dev.freeTrap
  try dsimp only
  repeat' first
    | with_reducible assumption
    | intro _
    | with_reducible apply Dev.setPend_keeps
    | with_reducible apply Dev.unguard_keeps
    | with_reducible apply Dev.takeSlot_keeps
    | simp only [keep_mk]
    | dsimp only
    | split
    | with_reducible refine keep_fst (by with_reducible assumption) ?_

theorem Dev.setBacking_keeps {kof : KeptOf} (d : Dev) (q : Nat) (l : List XEnt) (hd : d.Kept kof) :
    (Dev.setBacking d q l).Kept kof := by
  unfold Dev.setBacking
  try dsimp only
  repeat' first
    | with_reducible assumption
    | intro _
    | simp only [keep_mk]
    | dsimp only
    | split
    | with_reducible refine keep_fst (by with_reducible assumption) ?_

theorem Dev.clearFailed_keeps {kof : KeptOf} (d : Dev) (q space lo hi : Nat) (hd : d.Kept kof) :
    (Dev.clearFailed d q space lo hi).Kept kof := by
  unfold Dev.clearFailed
  try dsimp only
  repeat' first
    | with_reducible assumption
    | intro _
    | simp only [keep_mk]
    | dsimp only
    | split
    | with_reducible refine keep_fst (by with_reducible assumption) ?_

/-! Machine/Conns.lean -/

theorem Dev.hostPut_keeps {kof : KeptOf} (d : Dev) (q f : Nat) (hd : d.Kept kof) : ∀ (y0 : List (Nat × Nat)) (y1 : List Byte),
    (Dev.hostPut d q f y0 y1).Kept kof := by
  intro y0 y1
  induction y0 generalizing d q f y1 with
  | nil =>
    unfold Dev.hostPut
    try dsimp only
    repeat' first
      | with_reducible assumption
      | intro _
      | with_reducible apply keep_ite
      | with_reducible apply Dev.emit_keeps
      | with_reducible apply Dev.event_keeps
      | simp only [keep_mk]
      | dsimp only
      | split
      | with_reducible refine keep_fst (by with_reducible assumption) ?_
  | cons x0 t0 ih =>
    unfold Dev.hostPut
    try dsimp only
    repeat' first
      | with_reducible assumption
      | intro _
      | with_reducible apply keep_ite
      | with_reducible apply ih
      | with_reducible apply Dev.emit_keeps
      | with_reducible apply Dev.event_keeps
      | simp only [keep_mk]
      | dsimp only
      | split
      | with_reducible refine keep_fst (by with_reducible assumption) ?_

theorem Dev.hostEntry_keeps {kof : KeptOf} (d : Dev) (q f ba n : Nat) (data : List Byte) (hd : d.Kept kof) :
    (Dev.hostEntry d q f ba n data).Kept kof := by
  unfold Dev.hostEntry
  try dsimp only
  repeat' first
    | with_reducible assumption
    | intro _
    | with_reducible apply Dev.emit_keeps
    | with_reducible apply Dev.event_keeps
    | simp only [keep_mk]
    | dsimp only
    | split
    | with_reducible refine keep_fst (by with_reducible assumption) ?_

theorem Dev.hostGet_keeps {kof : KeptOf} (d : Dev) (q f : Nat) (parts : List (Nat × Nat)) (ents : List (Nat × Nat × Nat)) (use : RdFor) (hd : d.Kept kof) :
    (Dev.hostGet d q f parts ents use).Kept kof := by
  unfold Dev.hostGet
  try dsimp only
  repeat' first
    | with_reducible assumption
    | intro _
    | with_reducible apply Dev.put_keeps
    | with_reducible apply Dev.each_keeps
    | with_reducible apply Dev.emit_keeps
    | with_reducible apply Dev.event_keeps
    | simp only [keep_mk]
    | dsimp only
    | split
    | with_reducible refine keep_fst (by with_reducible assumption) ?_

theorem Dev.hostAtom_keeps {kof : KeptOf} (d : Dev) (q f ba op a b : Nat) (ents : List (Nat × Nat × Nat)) (use : RdFor) (hd : d.Kept kof) :
    (Dev.hostAtom d q f ba op a b ents use).Kept kof := by
  unfold Dev.hostAtom
  try dsimp only
  repeat' first
    | with_reducible assumption
    | intro _
    | with_reducible apply Dev.put_keeps
    | with_reducible apply Dev.emit_keeps
    | simp only [keep_mk]
    | dsimp only
    | split
    | with_reducible refine keep_fst (by with_reducible assumption) ?_

theorem Dev.setConn_keeps {kof : KeptOf} (d : Dev) (c : Nat) (x : Conn) (hd : d.Kept kof) :
    (Dev.setConn d c x).Kept kof := by
  unfold Dev.setConn
  try dsimp only
  repeat' first
    | with_reducible assumption
    | intro _
    | with_reducible apply Dev.put_keeps
    | simp only [keep_mk]
    | dsimp only
    | split
    | with_reducible refine keep_fst (by with_reducible assumption) ?_

theorem Dev.modConn_keeps {kof : KeptOf} (d : Dev) (c : Nat) (g : Conn → Conn) (hd : d.Kept kof) :
    (Dev.modConn d c g).Kept kof := by
  unfold Dev.modConn
  try dsimp only
  repeat' first
    | with_reducible assumption
    | intro _
    | with_reducible apply Dev.setConn_keeps
    | simp only [keep_mk]
    | dsimp only
    | split
    | with_reducible refine keep_fst (by with_reducible assumption) ?_

theorem Dev.connSend_keeps {kof : KeptOf} (d : Dev) (c : Nat) (x : Conn) (k : Packet) (rsp : Bool) (hd : d.Kept kof) :
    (Dev.connSend d c x k rsp).Kept kof := by
  unfold Dev.connSend
  try dsimp only
  repeat' first
    | with_reducible assumption
    | intro _
    | with_reducible apply keep_ite
    | with_reducible apply Dev.inc_keeps
    | with_reducible apply Dev.useKey_keeps
    | with_reducible apply Dev.offerSealed_keeps
    | with_reducible apply Dev.retryInj_keeps
    | with_reducible apply Dev.offer_keeps
    | simp only [keep_mk]
    | dsimp only
    | split
    | with_reducible refine keep_fst (by with_reducible assumption) ?_

theorem Dev.sendAck_keeps {kof : KeptOf} (d : Dev) (c psn tryN tc : Nat) (echo dup : Bool) (hd : d.Kept kof) :
    (Dev.sendAck d c psn tryN tc echo dup).Kept kof := by
  unfold Dev.sendAck
  try dsimp only
  repeat' first
    | with_reducible assumption
    | intro _
    | with_reducible apply Dev.connSend_keeps
    | simp only [keep_mk]
    | dsimp only
    | split
    | with_reducible refine keep_fst (by with_reducible assumption) ?_

theorem Dev.sendNack_keeps {kof : KeptOf} (d : Dev) (c : Nat) (k : Packet) (status hint : Nat) (hd : d.Kept kof) :
    (Dev.sendNack d c k status hint).Kept kof := by
  unfold Dev.sendNack
  try dsimp only
  repeat' first
    | with_reducible assumption
    | intro _
    | with_reducible apply Dev.connSend_keeps
    | with_reducible apply Dev.inc_keeps
    | simp only [keep_mk]
    | dsimp only
    | split
    | with_reducible refine keep_fst (by with_reducible assumption) ?_

theorem Dev.ackDup_keeps {kof : KeptOf} (d : Dev) (c : Nat) (k : Packet) (hd : d.Kept kof) :
    (Dev.ackDup d c k).Kept kof := by
  unfold Dev.ackDup
  try dsimp only
  repeat' first
    | with_reducible assumption
    | intro _
    | with_reducible apply Dev.sendAck_keeps
    | simp only [keep_mk]
    | dsimp only
    | split
    | with_reducible refine keep_fst (by with_reducible assumption) ?_

/-! Machine/Queues.lean -/

theorem Dev.setQueue_keeps {kof : KeptOf} (d : Dev) (q k n : Nat) (x : Queue) (hd : d.Kept kof) :
    (Dev.setQueue d q k n x).Kept kof := by
  unfold Dev.setQueue
  try dsimp only
  repeat' first
    | with_reducible assumption
    | intro _
    | with_reducible apply Dev.put_keeps
    | simp only [keep_mk]
    | dsimp only
    | split
    | with_reducible refine keep_fst (by with_reducible assumption) ?_

theorem Dev.modQueue_keeps {kof : KeptOf} (d : Dev) (q k n : Nat) (g : Queue → Queue) (hd : d.Kept kof) :
    (Dev.modQueue d q k n g).Kept kof := by
  unfold Dev.modQueue
  try dsimp only
  repeat' first
    | with_reducible assumption
    | intro _
    | with_reducible apply Dev.setQueue_keeps
    | simp only [keep_mk]
    | dsimp only
    | split
    | with_reducible refine keep_fst (by with_reducible assumption) ?_

theorem Dev.freeQueue_keeps {kof : KeptOf} (d : Dev) (q k n : Nat) (hd : d.Kept kof) :
    (Dev.freeQueue d q k n).Kept kof := by
  unfold Dev.freeQueue
  try dsimp only
  repeat' first
    | with_reducible assumption
    | intro _
    | simp only [keep_mk]
    | dsimp only
    | split
    | with_reducible refine keep_fst (by with_reducible assumption) ?_

theorem Dev.fireIrq_keeps {kof : KeptOf} (d : Dev) (q n : Nat) (hd : d.Kept kof) :
    (Dev.fireIrq d q n).Kept kof := by
  unfold Dev.fireIrq
  try dsimp only
  repeat' first
    | with_reducible assumption
    | intro _
    | with_reducible apply keep_ite
    | with_reducible apply Dev.setQueue_keeps
    | with_reducible apply Dev.msixSend_keeps
    | simp only [keep_mk]
    | dsimp only
    | split
    | with_reducible refine keep_fst (by with_reducible assumption) ?_

theorem Dev.moderationEnd_keeps {kof : KeptOf} (d : Dev) (q n : Nat) (hd : d.Kept kof) :
    (Dev.moderationEnd d q n).Kept kof := by
  unfold Dev.moderationEnd
  try dsimp only
  repeat' first
    | with_reducible assumption
    | intro _
    | with_reducible apply keep_ite
    | with_reducible apply Dev.setQueue_keeps
    | with_reducible apply Dev.when_keeps
    | with_reducible apply Dev.fireIrq_keeps
    | simp only [keep_mk]
    | dsimp only
    | split
    | with_reducible refine keep_fst (by with_reducible assumption) ?_

theorem Dev.eqNotify_keeps {kof : KeptOf} (d : Dev) (q n : Nat) (hd : d.Kept kof) :
    (Dev.eqNotify d q n).Kept kof := by
  unfold Dev.eqNotify
  try dsimp only
  repeat' first
    | with_reducible assumption
    | intro _
    | with_reducible apply keep_ite
    | with_reducible apply Dev.setQueue_keeps
    | with_reducible apply Dev.fireIrq_keeps
    | simp only [keep_mk]
    | dsimp only
    | split
    | with_reducible refine keep_fst (by with_reducible assumption) ?_

theorem Dev.ringWrite_keeps {kof : KeptOf} (d : Dev) (q k n : Nat) (x : Queue) (entry : Nat) (hd : d.Kept kof) :
    (Dev.ringWrite d q k n x entry).1.Kept kof := by
  unfold Dev.ringWrite
  try dsimp only
  repeat' first
    | with_reducible assumption
    | intro _
    | with_reducible apply Dev.translate_keeps
    | with_reducible apply Dev.hostEntry_keeps
    | with_reducible apply Dev.setQueue_keeps
    | with_reducible apply Dev.trapInit_keeps
    | with_reducible apply Dev.inc_keeps
    | simp only [keep_mk]
    | dsimp only
    | split
    | with_reducible refine keep_fst (by with_reducible assumption) ?_

theorem Dev.raiseLater_keeps {kof : KeptOf} (d : Dev) (q n : Nat) (e : Ev) (hd : d.Kept kof) :
    (Dev.raiseLater d q n e).Kept kof := by
  unfold Dev.raiseLater
  try dsimp only
  repeat' first
    | with_reducible assumption
    | intro _
    | with_reducible apply Dev.setQueue_keeps
    | with_reducible apply Dev.when_keeps
    | with_reducible apply Dev.inc_keeps
    | simp only [keep_mk]
    | dsimp only
    | split
    | with_reducible refine keep_fst (by with_reducible assumption) ?_

theorem Dev.writeEvents_keeps {kof : KeptOf} (d : Dev) (q n : Nat) (hd : d.Kept kof) : ∀ (y0 : Nat),
    (Dev.writeEvents d q n y0).Kept kof := by
  intro y0
  induction y0 generalizing d q n with
  | zero =>
    unfold Dev.writeEvents
    try dsimp only
    repeat' first
      | with_reducible assumption
      | intro _
      | with_reducible apply keep_ite
      | with_reducible apply Dev.ringWrite_keeps
      | with_reducible apply Dev.modQueue_keeps
      | with_reducible apply Dev.raiseLater_keeps
      | with_reducible apply Dev.eqNotify_keeps
      | simp only [keep_mk]
      | dsimp only
      | split
      | with_reducible refine keep_fst (by with_reducible assumption) ?_
  | succ n0 ih =>
    unfold Dev.writeEvents
    try dsimp only
    repeat' first
      | with_reducible assumption
      | intro _
      | with_reducible apply keep_ite
      | with_reducible apply ih
      | with_reducible apply Dev.ringWrite_keeps
      | with_reducible apply Dev.modQueue_keeps
      | with_reducible apply Dev.raiseLater_keeps
      | with_reducible apply Dev.eqNotify_keeps
      | simp only [keep_mk]
      | dsimp only
      | split
      | with_reducible refine keep_fst (by with_reducible assumption) ?_

theorem Dev.raiseEvent_keeps {kof : KeptOf} (d : Dev) (q n : Nat) (e : Ev) (hd : d.Kept kof) :
    (Dev.raiseEvent d q n e).Kept kof := by
  unfold Dev.raiseEvent
  try dsimp only
  repeat' first
    | with_reducible assumption
    | intro _
    | with_reducible apply keep_ite
    | with_reducible apply Dev.setQueue_keeps
    | with_reducible apply Dev.writeEvents_keeps
    | with_reducible apply Dev.when_keeps
    | with_reducible apply Dev.inc_keeps
    | simp only [keep_mk]
    | dsimp only
    | split
    | with_reducible refine keep_fst (by with_reducible assumption) ?_

theorem Dev.queueEvent_keeps {kof : KeptOf} (d : Dev) (q k n type lo status : Nat) (hd : d.Kept kof) :
    (Dev.queueEvent d q k n type lo status).Kept kof := by
  unfold Dev.queueEvent
  try dsimp only
  repeat' first
    | with_reducible assumption
    | intro _
    | with_reducible apply keep_ite
    | with_reducible apply Dev.raiseEvent_keeps
    | simp only [keep_mk]
    | dsimp only
    | split
    | with_reducible refine keep_fst (by with_reducible assumption) ?_

theorem Dev.cqNotify_keeps {kof : KeptOf} (d : Dev) (q n : Nat) (hd : d.Kept kof) :
    (Dev.cqNotify d q n).Kept kof := by
  unfold Dev.cqNotify
  try dsimp only
  repeat' first
    | with_reducible assumption
    | intro _
    | with_reducible apply keep_ite
    | with_reducible apply Dev.setQueue_keeps
    | with_reducible apply Dev.queueEvent_keeps
    | simp only [keep_mk]
    | dsimp only
    | split
    | with_reducible refine keep_fst (by with_reducible assumption) ?_

theorem Dev.paid_keeps {kof : KeptOf} (d : Dev) (q f e : Nat) (hd : d.Kept kof) :
    (Dev.paid d q f e).Kept kof := by
  unfold Dev.paid
  try dsimp only
  repeat' first
    | with_reducible assumption
    | intro _
    | with_reducible apply Dev.setQueue_keeps
    | simp only [keep_mk]
    | dsimp only
    | split
    | with_reducible refine keep_fst (by with_reducible assumption) ?_

theorem Dev.drainCq_keeps {kof : KeptOf} (d : Dev) (q n : Nat) (hd : d.Kept kof) : ∀ (y0 : Nat),
    (Dev.drainCq d q n y0).Kept kof := by
  intro y0
  induction y0 generalizing d q n with
  | zero =>
    unfold Dev.drainCq
    try dsimp only
    repeat' first
      | with_reducible assumption
      | intro _
      | with_reducible apply keep_ite
      | with_reducible apply Dev.ringWrite_keeps
      | with_reducible apply Dev.modQueue_keeps
      | with_reducible apply Dev.paid_keeps
      | with_reducible apply Dev.cqNotify_keeps
      | simp only [keep_mk]
      | dsimp only
      | split
      | with_reducible refine keep_fst (by with_reducible assumption) ?_
  | succ n0 ih =>
    unfold Dev.drainCq
    try dsimp only
    repeat' first
      | with_reducible assumption
      | intro _
      | with_reducible apply keep_ite
      | with_reducible apply ih
      | with_reducible apply Dev.ringWrite_keeps
      | with_reducible apply Dev.modQueue_keeps
      | with_reducible apply Dev.paid_keeps
      | with_reducible apply Dev.cqNotify_keeps
      | simp only [keep_mk]
      | dsimp only
      | split
      | with_reducible refine keep_fst (by with_reducible assumption) ?_

theorem Dev.writeCqe_keeps {kof : KeptOf} (d : Dev) (q n entry : Nat) (hd : d.Kept kof) :
    (Dev.writeCqe d q n entry).Kept kof := by
  unfold Dev.writeCqe
  try dsimp only
  repeat' first
    | with_reducible assumption
    | intro _
    | with_reducible apply keep_ite
    | with_reducible apply Dev.setQueue_keeps
    | with_reducible apply Dev.drainCq_keeps
    | with_reducible apply Dev.inc_keeps
    | with_reducible apply Dev.when_keeps
    | with_reducible apply Dev.queueEvent_keeps
    | simp only [keep_mk]
    | dsimp only
    | split
    | with_reducible refine keep_fst (by with_reducible assumption) ?_

theorem Dev.countCompletion_keeps {kof : KeptOf} (d : Dev) (q status : Nat) (hd : d.Kept kof) :
    (Dev.countCompletion d q status).Kept kof := by
  unfold Dev.countCompletion
  try dsimp only
  repeat' first
    | with_reducible assumption
    | intro _
    | with_reducible apply Dev.inc_keeps
    | with_reducible apply Dev.when_keeps
    | simp only [keep_mk]
    | dsimp only
    | split
    | with_reducible refine keep_fst (by with_reducible assumption) ?_

theorem Dev.drainRq_keeps {kof : KeptOf} (d : Dev) (q n cq : Nat) (hd : d.Kept kof) : ∀ (y0 : Nat),
    (Dev.drainRq d q n cq y0).Kept kof := by
  intro y0
  induction y0 generalizing d q n cq with
  | zero =>
    unfold Dev.drainRq
    try dsimp only
    repeat' first
      | with_reducible assumption
      | intro _
      | with_reducible apply keep_ite
      | with_reducible apply Dev.setQueue_keeps
      | with_reducible apply Dev.writeCqe_keeps
      | simp only [keep_mk]
      | dsimp only
      | split
      | with_reducible refine keep_fst (by with_reducible assumption) ?_
  | succ n0 ih =>
    unfold Dev.drainRq
    try dsimp only
    repeat' first
      | with_reducible assumption
      | intro _
      | with_reducible apply keep_ite
      | with_reducible apply ih
      | with_reducible apply Dev.setQueue_keeps
      | with_reducible apply Dev.writeCqe_keeps
      | simp only [keep_mk]
      | dsimp only
      | split
      | with_reducible refine keep_fst (by with_reducible assumption) ?_

theorem Dev.complete_keeps {kof : KeptOf} (d : Dev) (q k n index cookie bytes status aux data : Nat) (hd : d.Kept kof) :
    (Dev.complete d q k n index cookie bytes status aux data).Kept kof := by
  unfold Dev.complete
  try dsimp only
  repeat' first
    | with_reducible assumption
    | intro _
    | with_reducible apply keep_ite
    | with_reducible apply Dev.countCompletion_keeps
    | with_reducible apply Dev.setQueue_keeps
    | with_reducible apply Dev.drainRq_keeps
    | with_reducible apply Dev.writeCqe_keeps
    | simp only [keep_mk]
    | dsimp only
    | split
    | with_reducible refine keep_fst (by with_reducible assumption) ?_

theorem Dev.cqRefuse_keeps {kof : KeptOf} (d : Dev) (q : Nat) (x : Queue) (hd : d.Kept kof) :
    (Dev.cqRefuse d q x).Kept kof := by
  unfold Dev.cqRefuse
  try dsimp only
  repeat' first
    | with_reducible assumption
    | intro _
    | with_reducible apply Dev.inc_keeps
    | with_reducible apply Dev.modQueue_keeps
    | simp only [keep_mk]
    | dsimp only
    | split
    | with_reducible refine keep_fst (by with_reducible assumption) ?_

theorem Dev.cqAdmit_keeps {kof : KeptOf} (d : Dev) (q : Nat) (x : Queue) (hd : d.Kept kof) :
    (Dev.cqAdmit d q x).Kept kof := by
  unfold Dev.cqAdmit
  try dsimp only
  repeat' first
    | with_reducible assumption
    | intro _
    | with_reducible apply Dev.modQueue_keeps
    | simp only [keep_mk]
    | dsimp only
    | split
    | with_reducible refine keep_fst (by with_reducible assumption) ?_

theorem Dev.setOp_keeps {kof : KeptOf} (d : Dev) (i : Nat) (o : Op) (hd : d.Kept kof) :
    (Dev.setOp d i o).Kept kof := by
  unfold Dev.setOp
  try dsimp only
  repeat' first
    | with_reducible assumption
    | intro _
    | with_reducible apply Dev.put_keeps
    | simp only [keep_mk]
    | dsimp only
    | split
    | with_reducible refine keep_fst (by with_reducible assumption) ?_

theorem Dev.modOp_keeps {kof : KeptOf} (d : Dev) (i : Nat) (g : Op → Op) (hd : d.Kept kof) :
    (Dev.modOp d i g).Kept kof := by
  unfold Dev.modOp
  try dsimp only
  repeat' first
    | with_reducible assumption
    | intro _
    | with_reducible apply Dev.setOp_keeps
    | simp only [keep_mk]
    | dsimp only
    | split
    | with_reducible refine keep_fst (by with_reducible assumption) ?_

theorem Dev.delOp_keeps {kof : KeptOf} (d : Dev) (i : Nat) (hd : d.Kept kof) :
    (Dev.delOp d i).Kept kof := by
  unfold Dev.delOp
  try dsimp only
  repeat' first
    | with_reducible assumption
    | intro _
    | simp only [keep_mk]
    | dsimp only
    | split
    | with_reducible refine keep_fst (by with_reducible assumption) ?_

theorem Dev.setPosted_keeps {kof : KeptOf} (d : Dev) (q f : Nat) (l : List Nat) (hd : d.Kept kof) :
    (Dev.setPosted d q f l).Kept kof := by
  unfold Dev.setPosted
  try dsimp only
  repeat' first
    | with_reducible assumption
    | intro _
    | simp only [keep_mk]
    | dsimp only
    | split
    | with_reducible refine keep_fst (by with_reducible assumption) ?_

theorem Dev.flushPosted_keeps {kof : KeptOf} (d : Dev) (i : Nat) (o : Op) (hd : d.Kept kof) :
    (Dev.flushPosted d i o).Kept kof := by
  unfold Dev.flushPosted
  try dsimp only
  repeat' first
    | with_reducible assumption
    | intro _
    | with_reducible apply Dev.setPosted_keeps
    | with_reducible apply Dev.delOp_keeps
    | with_reducible apply Dev.complete_keeps
    | simp only [keep_mk]
    | dsimp only
    | split
    | with_reducible refine keep_fst (by with_reducible assumption) ?_

theorem Dev.giveUp_keeps {kof : KeptOf} (d : Dev) (q k n : Nat) (hd : d.Kept kof) :
    (Dev.giveUp d q k n).Kept kof := by
  unfold Dev.giveUp
  try dsimp only
  repeat' first
    | with_reducible assumption
    | intro _
    | with_reducible apply keep_ite
    | with_reducible apply Dev.setQueue_keeps
    | with_reducible apply Dev.each_keeps
    | with_reducible apply Dev.flushPosted_keeps
    | with_reducible apply Dev.complete_keeps
    | with_reducible apply Dev.inc_keeps
    | with_reducible apply Dev.sendNack_keeps
    | simp only [keep_mk]
    | dsimp only
    | split
    | with_reducible refine keep_fst (by with_reducible assumption) ?_

theorem Dev.queueError_keeps {kof : KeptOf} (d : Dev) (q k n status index : Nat) (hd : d.Kept kof) :
    (Dev.queueError d q k n status index).Kept kof := by
  unfold Dev.queueError
  try dsimp only
  repeat' first
    | with_reducible assumption
    | intro _
    | with_reducible apply keep_ite
    | with_reducible apply Dev.setQueue_keeps
    | with_reducible apply Dev.queueEvent_keeps
    | with_reducible apply Dev.giveUp_keeps
    | simp only [keep_mk]
    | dsimp only
    | split
    | with_reducible refine keep_fst (by with_reducible assumption) ?_

theorem Dev.finishOp_keeps {kof : KeptOf} (d : Dev) (i status bytes aux data : Nat) (bad : Bool) (hd : d.Kept kof) :
    (Dev.finishOp d i status bytes aux data bad).Kept kof := by
  unfold Dev.finishOp
  try dsimp only
  repeat' first
    | with_reducible assumption
    | intro _
    | with_reducible apply Dev.delOp_keeps
    | with_reducible apply Dev.complete_keeps
    | with_reducible apply Dev.when_keeps
    | with_reducible apply Dev.queueError_keeps
    | simp only [keep_mk]
    | dsimp only
    | split
    | with_reducible refine keep_fst (by with_reducible assumption) ?_

/-! Machine/RmxInit.lean -/

theorem Dev.setRegion_keeps {kof : KeptOf} (d : Dev) (q n : Nat) (r : Region) (hd : d.Kept kof) :
    (Dev.setRegion d q n r).Kept kof := by
  unfold Dev.setRegion
  try dsimp only
  repeat' first
    | with_reducible assumption
    | intro _
    | simp only [keep_mk]
    | dsimp only
    | split
    | with_reducible refine keep_fst (by with_reducible assumption) ?_

theorem Dev.revokeEnds_keeps {kof : KeptOf} (d : Dev) (q n : Nat) (hd : d.Kept kof) :
    (Dev.revokeEnds d q n).Kept kof := by
  unfold Dev.revokeEnds
  try dsimp only
  repeat' first
    | with_reducible assumption
    | intro _
    | with_reducible apply keep_ite
    | with_reducible apply Dev.setRegion_keeps
    | with_reducible apply Dev.raiseEvent_keeps
    | with_reducible apply Dev.finishOp_keeps
    | simp only [keep_mk]
    | dsimp only
    | split
    | with_reducible refine keep_fst (by with_reducible assumption) ?_

theorem Dev.regionIn_keeps {kof : KeptOf} (d : Dev) (q n : Nat) (hd : d.Kept kof) :
    (Dev.regionIn d q n).Kept kof := by
  unfold Dev.regionIn
  try dsimp only
  repeat' first
    | with_reducible assumption
    | intro _
    | with_reducible apply Dev.setRegion_keeps
    | simp only [keep_mk]
    | dsimp only
    | split
    | with_reducible refine keep_fst (by with_reducible assumption) ?_

theorem Dev.regionOut_keeps {kof : KeptOf} (d : Dev) (q n : Nat) (hd : d.Kept kof) :
    (Dev.regionOut d q n).Kept kof := by
  unfold Dev.regionOut
  try dsimp only
  repeat' first
    | with_reducible assumption
    | intro _
    | with_reducible apply Dev.setRegion_keeps
    | simp only [keep_mk]
    | dsimp only
    | split
    | with_reducible refine keep_fst (by with_reducible assumption) ?_

theorem Dev.revokeRndv_keeps {kof : KeptOf} (d : Dev) (q n : Nat) (hd : d.Kept kof) :
    (Dev.revokeRndv d q n).Kept kof := by
  unfold Dev.revokeRndv
  try dsimp only
  repeat' first
    | with_reducible assumption
    | intro _
    | with_reducible apply Dev.setRegion_keeps
    | simp only [keep_mk]
    | dsimp only
    | split
    | with_reducible refine keep_fst (by with_reducible assumption) ?_

theorem Dev.chargeConn_keeps {kof : KeptOf} (d : Dev) (c cost : Nat) (hd : d.Kept kof) :
    (Dev.chargeConn d c cost).Kept kof := by
  unfold Dev.chargeConn
  try dsimp only
  repeat' first
    | with_reducible assumption
    | intro _
    | with_reducible apply Dev.modConn_keeps
    | simp only [keep_mk]
    | dsimp only
    | split
    | with_reducible refine keep_fst (by with_reducible assumption) ?_

theorem Dev.rateUpdate_keeps {kof : KeptOf} (d : Dev) (c : Nat) (r : Req) (marked : Bool) (hd : d.Kept kof) :
    (Dev.rateUpdate d c r marked).Kept kof := by
  unfold Dev.rateUpdate
  try dsimp only
  repeat' first
    | with_reducible assumption
    | intro _
    | with_reducible apply keep_ite
    | with_reducible apply Dev.setConn_keeps
    | with_reducible apply Dev.inc_keeps
    | simp only [keep_mk]
    | dsimp only
    | split
    | with_reducible refine keep_fst (by with_reducible assumption) ?_

theorem Dev.queueFin_keeps {kof : KeptOf} (d : Dev) (c tc msn rkey : Nat) (hd : d.Kept kof) :
    (Dev.queueFin d c tc msn rkey).Kept kof := by
  unfold Dev.queueFin
  try dsimp only
  repeat' first
    | with_reducible assumption
    | intro _
    | with_reducible apply Dev.setConn_keeps
    | simp only [keep_mk]
    | dsimp only
    | split
    | with_reducible refine keep_fst (by with_reducible assumption) ?_

theorem Dev.setMsg_keeps {kof : KeptOf} (d : Dev) (i : Nat) (m : Msg) (hd : d.Kept kof) :
    (Dev.setMsg d i m).Kept kof := by
  unfold Dev.setMsg
  try dsimp only
  repeat' first
    | with_reducible assumption
    | intro _
    | with_reducible apply Dev.put_keeps
    | simp only [keep_mk]
    | dsimp only
    | split
    | with_reducible refine keep_fst (by with_reducible assumption) ?_

theorem Dev.delMsg_keeps {kof : KeptOf} (d : Dev) (i : Nat) (hd : d.Kept kof) :
    (Dev.delMsg d i).Kept kof := by
  unfold Dev.delMsg
  try dsimp only
  repeat' first
    | with_reducible assumption
    | intro _
    | simp only [keep_mk]
    | dsimp only
    | split
    | with_reducible refine keep_fst (by with_reducible assumption) ?_

theorem Dev.opDone_keeps {kof : KeptOf} (d : Dev) (i : Nat) (o : Op) (hd : d.Kept kof) :
    (Dev.opDone d i o).Kept kof := by
  unfold Dev.opDone
  try dsimp only
  repeat' first
    | with_reducible assumption
    | intro _
    | with_reducible apply keep_ite
    | with_reducible apply Dev.when_keeps
    | with_reducible apply Dev.revokeRndv_keeps
    | with_reducible apply Dev.delMsg_keeps
    | with_reducible apply Dev.finishOp_keeps
    | with_reducible apply Dev.queueFin_keeps
    | simp only [keep_mk]
    | dsimp only
    | split
    | with_reducible refine keep_fst (by with_reducible assumption) ?_

theorem Dev.opCheck_keeps {kof : KeptOf} (d : Dev) (i : Nat) (hd : d.Kept kof) :
    (Dev.opCheck d i).Kept kof := by
  unfold Dev.opCheck
  try dsimp only
  repeat' first
    | with_reducible assumption
    | intro _
    | with_reducible apply keep_ite
    | with_reducible apply Dev.opDone_keeps
    | simp only [keep_mk]
    | dsimp only
    | split
    | with_reducible refine keep_fst (by with_reducible assumption) ?_

theorem Dev.reqDone_keeps {kof : KeptOf} (d : Dev) (i : Nat) (hd : d.Kept kof) :
    (Dev.reqDone d i).Kept kof := by
  unfold Dev.reqDone
  try dsimp only
  repeat' first
    | with_reducible assumption
    | intro _
    | with_reducible apply Dev.modOp_keeps
    | with_reducible apply Dev.opCheck_keeps
    | simp only [keep_mk]
    | dsimp only
    | split
    | with_reducible refine keep_fst (by with_reducible assumption) ?_

theorem Dev.failOp_keeps {kof : KeptOf} (d : Dev) (i status : Nat) (hd : d.Kept kof) :
    (Dev.failOp d i status).Kept kof := by
  unfold Dev.failOp
  try dsimp only
  repeat' first
    | with_reducible assumption
    | intro _
    | with_reducible apply keep_ite
    | with_reducible apply Dev.modConn_keeps
    | with_reducible apply Dev.setOp_keeps
    | with_reducible apply Dev.opCheck_keeps
    | simp only [keep_mk]
    | dsimp only
    | split
    | with_reducible refine keep_fst (by with_reducible assumption) ?_

theorem Dev.dropMsgs_keeps {kof : KeptOf} (d : Dev) (c : Nat) (hd : d.Kept kof) :
    (Dev.dropMsgs d c).Kept kof := by
  unfold Dev.dropMsgs
  try dsimp only
  repeat' first
    | with_reducible assumption
    | intro _
    | with_reducible apply keep_ite
    | with_reducible apply Dev.modConn_keeps
    | with_reducible apply Dev.each_keeps
    | with_reducible apply Dev.complete_keeps
    | with_reducible apply Dev.setMsg_keeps
    | with_reducible apply Dev.delMsg_keeps
    | with_reducible apply Dev.when_keeps
    | with_reducible apply Dev.finishOp_keeps
    | simp only [keep_mk]
    | dsimp only
    | split
    | with_reducible refine keep_fst (by with_reducible assumption) ?_

theorem Dev.failOps_keeps {kof : KeptOf} (d : Dev) (c own status : Nat) (hd : d.Kept kof) :
    (Dev.failOps d c own status).Kept kof := by
  unfold Dev.failOps
  try dsimp only
  repeat' first
    | with_reducible assumption
    | intro _
    | with_reducible apply keep_ite
    | with_reducible apply Dev.modConn_keeps
    | with_reducible apply Dev.each_keeps
    | with_reducible apply Dev.when_keeps
    | with_reducible apply Dev.revokeRndv_keeps
    | with_reducible apply Dev.delMsg_keeps
    | with_reducible apply Dev.finishOp_keeps
    | simp only [keep_mk]
    | dsimp only
    | split
    | with_reducible refine keep_fst (by with_reducible assumption) ?_

theorem Dev.connError_keeps {kof : KeptOf} (d : Dev) (c own status : Nat) (hd : d.Kept kof) :
    (Dev.connError d c own status).Kept kof := by
  unfold Dev.connError
  try dsimp only
  repeat' first
    | with_reducible assumption
    | intro _
    | with_reducible apply keep_ite
    | with_reducible apply Dev.setConn_keeps
    | with_reducible apply Dev.inc_keeps
    | with_reducible apply Dev.failOps_keeps
    | with_reducible apply Dev.dropMsgs_keeps
    | simp only [keep_mk]
    | dsimp only
    | split
    | with_reducible refine keep_fst (by with_reducible assumption) ?_

theorem Dev.queueReq_keeps {kof : KeptOf} (d : Dev) (c : Nat) (r : Req) (hd : d.Kept kof) :
    (Dev.queueReq d c r).Kept kof := by
  unfold Dev.queueReq
  try dsimp only
  repeat' first
    | with_reducible assumption
    | intro _
    | with_reducible apply Dev.modConn_keeps
    | with_reducible apply Dev.modOp_keeps
    | simp only [keep_mk]
    | dsimp only
    | split
    | with_reducible refine keep_fst (by with_reducible assumption) ?_

theorem Dev.opStop_keeps {kof : KeptOf} (d : Dev) (i : Nat) (o : Op) (t : Tr) (a : XAcc) (hd : d.Kept kof) :
    (Dev.opStop d i o t a).Kept kof := by
  unfold Dev.opStop
  try dsimp only
  repeat' first
    | with_reducible assumption
    | intro _
    | with_reducible apply Dev.setOp_keeps
    | with_reducible apply Dev.trapInit_keeps
    | with_reducible apply Dev.failOp_keeps
    | simp only [keep_mk]
    | dsimp only
    | split
    | with_reducible refine keep_fst (by with_reducible assumption) ?_

theorem Dev.prep_keeps {kof : KeptOf} (d : Dev) (i : Nat) (hd : d.Kept kof) :
    (Dev.prep d i).Kept kof := by
  unfold Dev.prep
  try dsimp only
  repeat' first
    | with_reducible assumption
    | intro _
    | with_reducible apply keep_ite
    | with_reducible apply Dev.setOp_keeps
    | with_reducible apply Dev.queueReq_keeps
    | with_reducible apply Dev.translateFrags_keeps
    | with_reducible apply Dev.opStop_keeps
    | with_reducible apply Dev.hostGet_keeps
    | simp only [keep_mk]
    | dsimp only
    | split
    | with_reducible refine keep_fst (by with_reducible assumption) ?_

theorem Dev.psnEnd_keeps {kof : KeptOf} (d : Dev) (c : Nat) (hd : d.Kept kof) :
    (Dev.psnEnd d c).Kept kof := by
  unfold Dev.psnEnd
  try dsimp only
  repeat' first
    | with_reducible assumption
    | intro _
    | with_reducible apply keep_ite
    | with_reducible apply Dev.connError_keeps
    | simp only [keep_mk]
    | dsimp only
    | split
    | with_reducible refine keep_fst (by with_reducible assumption) ?_

theorem Dev.psnSpent_keeps {kof : KeptOf} (d : Dev) (c i : Nat) (hd : d.Kept kof) :
    (Dev.psnSpent d c i).Kept kof := by
  unfold Dev.psnSpent
  try dsimp only
  repeat' first
    | with_reducible assumption
    | intro _
    | with_reducible apply Dev.failOp_keeps
    | with_reducible apply Dev.psnEnd_keeps
    | simp only [keep_mk]
    | dsimp only
    | split
    | with_reducible refine keep_fst (by with_reducible assumption) ?_

theorem Dev.sendNext_keeps {kof : KeptOf} (d : Dev) (c : Nat) (hd : d.Kept kof) :
    (Dev.sendNext d c).Kept kof := by
  unfold Dev.sendNext
  try dsimp only
  repeat' first
    | with_reducible assumption
    | intro _
    | with_reducible apply keep_ite
    | with_reducible apply Dev.psnSpent_keeps
    | with_reducible apply Dev.setConn_keeps
    | with_reducible apply Dev.when_keeps
    | with_reducible apply Dev.modOp_keeps
    | with_reducible apply Dev.chargeConn_keeps
    | with_reducible apply Dev.event_keeps
    | with_reducible apply Dev.connSend_keeps
    | with_reducible apply Dev.prep_keeps
    | simp only [keep_mk]
    | dsimp only
    | split
    | with_reducible refine keep_fst (by with_reducible assumption) ?_

theorem Dev.resolveReq_keeps {kof : KeptOf} (d : Dev) (c psn : Nat) (hd : d.Kept kof) :
    (Dev.resolveReq d c psn).Kept kof := by
  unfold Dev.resolveReq
  try dsimp only
  repeat' first
    | with_reducible assumption
    | intro _
    | with_reducible apply Dev.modConn_keeps
    | with_reducible apply Dev.reqDone_keeps
    | with_reducible apply Dev.psnEnd_keeps
    | simp only [keep_mk]
    | dsimp only
    | split
    | with_reducible refine keep_fst (by with_reducible assumption) ?_

theorem Dev.resolveDm_keeps {kof : KeptOf} (d : Dev) (c dm : Nat) (hd : d.Kept kof) :
    (Dev.resolveDm d c dm).Kept kof := by
  unfold Dev.resolveDm
  try dsimp only
  repeat' first
    | with_reducible assumption
    | intro _
    | with_reducible apply Dev.each_keeps
    | with_reducible apply Dev.resolveReq_keeps
    | simp only [keep_mk]
    | dsimp only
    | split
    | with_reducible refine keep_fst (by with_reducible assumption) ?_

theorem Dev.resend_keeps {kof : KeptOf} (d : Dev) (c psn : Nat) (hd : d.Kept kof) :
    (Dev.resend d c psn).Kept kof := by
  unfold Dev.resend
  try dsimp only
  repeat' first
    | with_reducible assumption
    | intro _
    | with_reducible apply keep_ite
    | with_reducible apply Dev.setConn_keeps
    | with_reducible apply Dev.when_keeps
    | with_reducible apply Dev.chargeConn_keeps
    | with_reducible apply Dev.event_keeps
    | with_reducible apply Dev.connSend_keeps
    | simp only [keep_mk]
    | dsimp only
    | split
    | with_reducible refine keep_fst (by with_reducible assumption) ?_

theorem Dev.retransmit_keeps {kof : KeptOf} (d : Dev) (c psn : Nat) (hd : d.Kept kof) :
    (Dev.retransmit d c psn).Kept kof := by
  unfold Dev.retransmit
  try dsimp only
  repeat' first
    | with_reducible assumption
    | intro _
    | with_reducible apply keep_ite
    | with_reducible apply Dev.resend_keeps
    | with_reducible apply Dev.translateFrags_keeps
    | with_reducible apply Dev.modConn_keeps
    | with_reducible apply Dev.trapInit_keeps
    | with_reducible apply Dev.failOp_keeps
    | with_reducible apply Dev.resolveReq_keeps
    | with_reducible apply Dev.hostGet_keeps
    | simp only [keep_mk]
    | dsimp only
    | split
    | with_reducible refine keep_fst (by with_reducible assumption) ?_

theorem Dev.triesUp_keeps {kof : KeptOf} (d : Dev) (c : Nat) (r : Req) (status : Nat) (hd : d.Kept kof) :
    (Dev.triesUp d c r status).Kept kof := by
  unfold Dev.triesUp
  try dsimp only
  repeat' first
    | with_reducible assumption
    | intro _
    | with_reducible apply Dev.connError_keeps
    | simp only [keep_mk]
    | dsimp only
    | split
    | with_reducible refine keep_fst (by with_reducible assumption) ?_

theorem Dev.requestTimeout_keeps {kof : KeptOf} (d : Dev) (c psn : Nat) (hd : d.Kept kof) :
    (Dev.requestTimeout d c psn).Kept kof := by
  unfold Dev.requestTimeout
  try dsimp only
  repeat' first
    | with_reducible assumption
    | intro _
    | with_reducible apply keep_ite
    | with_reducible apply Dev.setConn_keeps
    | with_reducible apply Dev.inc_keeps
    | with_reducible apply Dev.rateUpdate_keeps
    | with_reducible apply Dev.retransmit_keeps
    | with_reducible apply Dev.triesUp_keeps
    | simp only [keep_mk]
    | dsimp only
    | split
    | with_reducible refine keep_fst (by with_reducible assumption) ?_

theorem Dev.hintRetry_keeps {kof : KeptOf} (d : Dev) (c psn : Nat) (hd : d.Kept kof) :
    (Dev.hintRetry d c psn).Kept kof := by
  unfold Dev.hintRetry
  try dsimp only
  repeat' first
    | with_reducible assumption
    | intro _
    | with_reducible apply keep_ite
    | with_reducible apply Dev.retransmit_keeps
    | simp only [keep_mk]
    | dsimp only
    | split
    | with_reducible refine keep_fst (by with_reducible assumption) ?_

theorem Dev.takeDlv_keeps {kof : KeptOf} (d : Dev) (q : Nat) (member : Nat) (k : Packet) (hd : d.Kept kof) :
    (Dev.takeDlv d q member k).Kept kof := by
  unfold Dev.takeDlv
  try dsimp only
  repeat' first
    | with_reducible assumption
    | intro _
    | simp only [keep_mk]
    | dsimp only
    | split
    | with_reducible refine keep_fst (by with_reducible assumption) ?_

theorem Dev.connIn_keeps {kof : KeptOf} (d : Dev) (q : Nat) (k : Packet) (rsp : Bool) (act : Conn → Packet → Dev → Dev) (hd : d.Kept kof) (hact : ∀ x0 x1 d, d.Kept kof → (act x0 x1 d).Kept kof) :
    (Dev.connIn d q k rsp act).Kept kof := by
  unfold Dev.connIn
  try dsimp only
  repeat' first
    | with_reducible assumption
    | intro _
    | with_reducible apply keep_ite
    | with_reducible apply Dev.inc_keeps
    | with_reducible apply Dev.useKey_keeps
    | simp only [keep_mk]
    | with_reducible apply hact
    | dsimp only
    | split
    | with_reducible refine keep_fst (by with_reducible assumption) ?_

theorem Dev.responseIn_keeps {kof : KeptOf} (d : Dev) (q : Nat) (k : Packet) (act : Req → Packet → Dev → Dev) (hd : d.Kept kof) (hact : ∀ x0 x1 d, d.Kept kof → (act x0 x1 d).Kept kof) :
    (Dev.responseIn d q k act).Kept kof := by
  unfold Dev.responseIn
  try dsimp only
  repeat' first
    | with_reducible assumption
    | intro _
    | with_reducible apply Dev.takeDlv_keeps
    | with_reducible apply Dev.connIn_keeps
    | with_reducible apply Dev.inc_keeps
    | simp only [keep_mk]
    | with_reducible apply hact
    | dsimp only
    | split
    | with_reducible refine keep_fst (by with_reducible assumption) ?_

theorem Dev.ackIn_keeps {kof : KeptOf} (d : Dev) (q : Nat) (k : Packet) (hd : d.Kept kof) :
    (Dev.ackIn d q k).Kept kof := by
  unfold Dev.ackIn
  try dsimp only
  repeat' first
    | with_reducible assumption
    | intro _
    | with_reducible apply keep_ite
    | with_reducible apply Dev.responseIn_keeps
    | with_reducible apply Dev.rateUpdate_keeps
    | with_reducible apply Dev.modOp_keeps
    | with_reducible apply Dev.freed_keeps
    | with_reducible apply Dev.resolveReq_keeps
    | with_reducible apply Dev.resolveDm_keeps
    | simp only [keep_mk]
    | dsimp only
    | split
    | with_reducible refine keep_fst (by with_reducible assumption) ?_

theorem Dev.nackIn_keeps {kof : KeptOf} (d : Dev) (q : Nat) (k : Packet) (hd : d.Kept kof) :
    (Dev.nackIn d q k).Kept kof := by
  unfold Dev.nackIn
  try dsimp only
  repeat' first
    | with_reducible assumption
    | intro _
    | with_reducible apply keep_ite
    | with_reducible apply Dev.responseIn_keeps
    | with_reducible apply Dev.inc_keeps
    | with_reducible apply Dev.when_keeps
    | with_reducible apply Dev.event_keeps
    | with_reducible apply Dev.rateUpdate_keeps
    | with_reducible apply Dev.resolveDm_keeps
    | with_reducible apply Dev.connError_keeps
    | with_reducible apply Dev.triesUp_keeps
    | with_reducible apply Dev.modConn_keeps
    | simp only [keep_mk]
    | dsimp only
    | split
    | with_reducible refine keep_fst (by with_reducible assumption) ?_

theorem Dev.getRspIn_keeps {kof : KeptOf} (d : Dev) (q : Nat) (k : Packet) (hd : d.Kept kof) :
    (Dev.getRspIn d q k).Kept kof := by
  unfold Dev.getRspIn
  try dsimp only
  repeat' first
    | with_reducible assumption
    | intro _
    | with_reducible apply keep_ite
    | with_reducible apply Dev.responseIn_keeps
    | with_reducible apply Dev.rateUpdate_keeps
    | with_reducible apply Dev.hostPut_keeps
    | with_reducible apply Dev.resolveReq_keeps
    | with_reducible apply Dev.resolveDm_keeps
    | simp only [keep_mk]
    | dsimp only
    | split
    | with_reducible refine keep_fst (by with_reducible assumption) ?_

theorem Dev.atomicRspIn_keeps {kof : KeptOf} (d : Dev) (q : Nat) (k : Packet) (hd : d.Kept kof) :
    (Dev.atomicRspIn d q k).Kept kof := by
  unfold Dev.atomicRspIn
  try dsimp only
  repeat' first
    | with_reducible assumption
    | intro _
    | with_reducible apply Dev.responseIn_keeps
    | with_reducible apply Dev.rateUpdate_keeps
    | with_reducible apply Dev.modOp_keeps
    | with_reducible apply Dev.resolveReq_keeps
    | simp only [keep_mk]
    | dsimp only
    | split
    | with_reducible refine keep_fst (by with_reducible assumption) ?_

theorem Dev.sourceRead_keeps {kof : KeptOf} (d : Dev) (u : RdFor) (ok : Bool) (data : List Byte) (hd : d.Kept kof) :
    (Dev.sourceRead d u ok data).Kept kof := by
  unfold Dev.sourceRead
  try dsimp only
  repeat' first
    | with_reducible assumption
    | intro _
    | with_reducible apply keep_ite
    | with_reducible apply Dev.queueReq_keeps
    | with_reducible apply Dev.setOp_keeps
    | with_reducible apply Dev.failOp_keeps
    | with_reducible apply Dev.modConn_keeps
    | with_reducible apply Dev.resend_keeps
    | with_reducible apply Dev.resolveReq_keeps
    | simp only [keep_mk]
    | dsimp only
    | split
    | with_reducible refine keep_fst (by with_reducible assumption) ?_

/-! Machine/RmxTarget.lean -/

theorem Dev.fireTriggers_keeps {kof : KeptOf} (d : Dev) (q n : Nat) (hd : d.Kept kof) :
    (Dev.fireTriggers d q n).Kept kof := by
  unfold Dev.fireTriggers
  try dsimp only
  repeat' first
    | with_reducible assumption
    | intro _
    | with_reducible apply Dev.each_keeps
    | with_reducible apply Dev.setOp_keeps
    | with_reducible apply Dev.inc_keeps
    | simp only [keep_mk]
    | dsimp only
    | split
    | with_reducible refine keep_fst (by with_reducible assumption) ?_

theorem Dev.setCtr_keeps {kof : KeptOf} (d : Dev) (q n v : Nat) (hd : d.Kept kof) :
    (Dev.setCtr d q n v).Kept kof := by
  unfold Dev.setCtr
  try dsimp only
  repeat' first
    | with_reducible assumption
    | intro _
    | with_reducible apply Dev.fireTriggers_keeps
    | simp only [keep_mk]
    | dsimp only
    | split
    | with_reducible refine keep_fst (by with_reducible assumption) ?_

theorem Dev.ctrAtomic_keeps {kof : KeptOf} (d : Dev) (q n op a b : Nat) (hd : d.Kept kof) :
    (Dev.ctrAtomic d q n op a b).Kept kof := by
  unfold Dev.ctrAtomic
  try dsimp only
  repeat' first
    | with_reducible assumption
    | intro _
    | with_reducible apply Dev.setCtr_keeps
    | simp only [keep_mk]
    | dsimp only
    | split
    | with_reducible refine keep_fst (by with_reducible assumption) ?_

theorem Dev.flushAck_keeps {kof : KeptOf} (d : Dev) (c tc : Nat) (hd : d.Kept kof) :
    (Dev.flushAck d c tc).Kept kof := by
  unfold Dev.flushAck
  try dsimp only
  repeat' first
    | with_reducible assumption
    | intro _
    | with_reducible apply keep_ite
    | with_reducible apply Dev.setConn_keeps
    | with_reducible apply Dev.sendAck_keeps
    | simp only [keep_mk]
    | dsimp only
    | split
    | with_reducible refine keep_fst (by with_reducible assumption) ?_

theorem Dev.applyCtrs_keeps {kof : KeptOf} (d : Dev) (c tc : Nat) (hd : d.Kept kof) : ∀ (y0 : Nat),
    (Dev.applyCtrs d c tc y0).Kept kof := by
  intro y0
  induction y0 generalizing d c tc with
  | zero =>
    unfold Dev.applyCtrs
    try dsimp only
    repeat' first
      | with_reducible assumption
      | intro _
      | with_reducible apply keep_ite
      | with_reducible apply Dev.setConn_keeps
      | with_reducible apply Dev.put_keeps
      | with_reducible apply Dev.wr_keeps
      | with_reducible apply Dev.setCtr_keeps
      | with_reducible apply Dev.sendAck_keeps
      | simp only [keep_mk]
      | with_reducible apply keep_foldl
      | dsimp only
      | split
      | with_reducible refine keep_fst (by with_reducible assumption) ?_
  | succ n0 ih =>
    unfold Dev.applyCtrs
    try dsimp only
    repeat' first
      | with_reducible assumption
      | intro _
      | with_reducible apply keep_ite
      | with_reducible apply ih
      | with_reducible apply Dev.setConn_keeps
      | with_reducible apply Dev.put_keeps
      | with_reducible apply Dev.wr_keeps
      | with_reducible apply Dev.setCtr_keeps
      | with_reducible apply Dev.sendAck_keeps
      | simp only [keep_mk]
      | with_reducible apply keep_foldl
      | dsimp only
      | split
      | with_reducible refine keep_fst (by with_reducible assumption) ?_

theorem Dev.psnDone_keeps {kof : KeptOf} (d : Dev) (c psn tc : Nat) (hd : d.Kept kof) :
    (Dev.psnDone d c psn tc).Kept kof := by
  unfold Dev.psnDone
  try dsimp only
  repeat' first
    | with_reducible assumption
    | intro _
    | with_reducible apply Dev.modConn_keeps
    | with_reducible apply Dev.applyCtrs_keeps
    | simp only [keep_mk]
    | dsimp only
    | split
    | with_reducible refine keep_fst (by with_reducible assumption) ?_

theorem Dev.ackAccepted_keeps {kof : KeptOf} (d : Dev) (c : Nat) (k : Packet) (inOrder : Bool) (hd : d.Kept kof) :
    (Dev.ackAccepted d c k inOrder).Kept kof := by
  unfold Dev.ackAccepted
  try dsimp only
  repeat' first
    | with_reducible assumption
    | intro _
    | with_reducible apply keep_ite
    | with_reducible apply Dev.sendAck_keeps
    | with_reducible apply Dev.modConn_keeps
    | with_reducible apply Dev.flushAck_keeps
    | simp only [keep_mk]
    | dsimp only
    | split
    | with_reducible refine keep_fst (by with_reducible assumption) ?_

theorem Dev.acceptDone_keeps {kof : KeptOf} (d : Dev) (c : Nat) (k : Packet) (hd : d.Kept kof) :
    (Dev.acceptDone d c k).Kept kof := by
  unfold Dev.acceptDone
  try dsimp only
  repeat' first
    | with_reducible assumption
    | intro _
    | with_reducible apply Dev.psnDone_keeps
    | with_reducible apply Dev.ackAccepted_keeps
    | simp only [keep_mk]
    | dsimp only
    | split
    | with_reducible refine keep_fst (by with_reducible assumption) ?_

theorem Dev.refuse_keeps {kof : KeptOf} (d : Dev) (c : Nat) (k : Packet) (status : Nat) (hd : d.Kept kof) :
    (Dev.refuse d c k status).Kept kof := by
  unfold Dev.refuse
  try dsimp only
  repeat' first
    | with_reducible assumption
    | intro _
    | with_reducible apply Dev.sendNack_keeps
    | with_reducible apply Dev.connError_keeps
    | simp only [keep_mk]
    | dsimp only
    | split
    | with_reducible refine keep_fst (by with_reducible assumption) ?_

theorem Dev.notReady_keeps {kof : KeptOf} (d : Dev) (c : Nat) (k : Packet) (hint : Nat) (hd : d.Kept kof) :
    (Dev.notReady d c k hint).Kept kof := by
  unfold Dev.notReady
  try dsimp only
  repeat' first
    | with_reducible assumption
    | intro _
    | with_reducible apply Dev.sendNack_keeps
    | simp only [keep_mk]
    | dsimp only
    | split
    | with_reducible refine keep_fst (by with_reducible assumption) ?_

theorem Dev.answerDup_keeps {kof : KeptOf} (d : Dev) (c : Nat) (k : Packet) (hd : d.Kept kof) :
    (Dev.answerDup d c k).Kept kof := by
  unfold Dev.answerDup
  try dsimp only
  repeat' first
    | with_reducible assumption
    | intro _
    | with_reducible apply keep_ite
    | with_reducible apply Dev.inc_keeps
    | with_reducible apply Dev.ackDup_keeps
    | with_reducible apply Dev.connSend_keeps
    | with_reducible apply Dev.setConn_keeps
    | with_reducible apply Dev.put_keeps
    | simp only [keep_mk]
    | dsimp only
    | split
    | with_reducible refine keep_fst (by with_reducible assumption) ?_

theorem Dev.targetStop_keeps {kof : KeptOf} (d : Dev) (q : Nat) (k : Packet) (t : Tr) (a : XAcc) (orig : Packet) (n : Nat) (hd : d.Kept kof) :
    (Dev.targetStop d q k t a orig n).Kept kof := by
  unfold Dev.targetStop
  try dsimp only
  repeat' first
    | with_reducible assumption
    | intro _
    | with_reducible apply Dev.when_keeps
    | with_reducible apply Dev.regionIn_keeps
    | with_reducible apply Dev.takeSlot_keeps
    | with_reducible apply Dev.inc_keeps
    | with_reducible apply Dev.notReady_keeps
    | with_reducible apply Dev.refuse_keeps
    | simp only [keep_mk]
    | dsimp only
    | split
    | with_reducible refine keep_fst (by with_reducible assumption) ?_

theorem Dev.placeRegion_keeps {kof : KeptOf} (d : Dev) (q : Nat) (k orig : Packet) (act : Dev → Dev) (hd : d.Kept kof) (hact : ∀ d, d.Kept kof → (act d).Kept kof) :
    (Dev.placeRegion d q k orig act).Kept kof := by
  unfold Dev.placeRegion
  try dsimp only
  repeat' first
    | with_reducible assumption
    | intro _
    | with_reducible apply Dev.translateRange_keeps
    | with_reducible apply Dev.hostPut_keeps
    | with_reducible apply Dev.targetStop_keeps
    | simp only [keep_mk]
    | with_reducible apply hact
    | dsimp only
    | split
    | with_reducible refine keep_fst (by with_reducible assumption) ?_

theorem Dev.execPutAt_keeps {kof : KeptOf} (d : Dev) (q : Nat) (k orig : Packet) (again : Bool) (hd : d.Kept kof) :
    (Dev.execPutAt d q k orig again).Kept kof := by
  unfold Dev.execPutAt
  try dsimp only
  repeat' first
    | with_reducible assumption
    | intro _
    | with_reducible apply keep_ite
    | with_reducible apply Dev.refuse_keeps
    | with_reducible apply Dev.placeRegion_keeps
    | with_reducible apply Dev.acceptDone_keeps
    | simp only [keep_mk]
    | dsimp only
    | split
    | with_reducible refine keep_fst (by with_reducible assumption) ?_

theorem Dev.execPutCtrAt_keeps {kof : KeptOf} (d : Dev) (q : Nat) (k orig : Packet) (x : Conn) (again : Bool) (hd : d.Kept kof) :
    (Dev.execPutCtrAt d q k orig x again).Kept kof := by
  unfold Dev.execPutCtrAt
  try dsimp only
  repeat' first
    | with_reducible assumption
    | intro _
    | with_reducible apply keep_ite
    | with_reducible apply Dev.refuse_keeps
    | with_reducible apply Dev.translateRange_keeps
    | with_reducible apply Dev.targetStop_keeps
    | with_reducible apply Dev.notReady_keeps
    | with_reducible apply Dev.placeRegion_keeps
    | with_reducible apply Dev.wr_keeps
    | with_reducible apply Dev.modConn_keeps
    | with_reducible apply Dev.put_keeps
    | with_reducible apply Dev.psnDone_keeps
    | simp only [keep_mk]
    | dsimp only
    | split
    | with_reducible refine keep_fst (by with_reducible assumption) ?_

theorem Dev.sendGetRsp_keeps {kof : KeptOf} (d : Dev) (c : Nat) (k : Packet) (dup : Bool) (data : List Byte) (hd : d.Kept kof) :
    (Dev.sendGetRsp d c k dup data).Kept kof := by
  unfold Dev.sendGetRsp
  try dsimp only
  repeat' first
    | with_reducible assumption
    | intro _
    | with_reducible apply keep_ite
    | with_reducible apply Dev.psnDone_keeps
    | with_reducible apply Dev.connSend_keeps
    | simp only [keep_mk]
    | dsimp only
    | split
    | with_reducible refine keep_fst (by with_reducible assumption) ?_

theorem Dev.execGetAt_keeps {kof : KeptOf} (d : Dev) (q : Nat) (k orig : Packet) (x : Conn) (dup again : Bool) (hd : d.Kept kof) :
    (Dev.execGetAt d q k orig x dup again).Kept kof := by
  unfold Dev.execGetAt
  try dsimp only
  repeat' first
    | with_reducible assumption
    | intro _
    | with_reducible apply keep_ite
    | with_reducible apply Dev.when_keeps
    | with_reducible apply Dev.inc_keeps
    | with_reducible apply Dev.refuse_keeps
    | with_reducible apply Dev.sendGetRsp_keeps
    | with_reducible apply Dev.translateRange_keeps
    | with_reducible apply Dev.targetStop_keeps
    | with_reducible apply Dev.notReady_keeps
    | with_reducible apply Dev.regionIn_keeps
    | with_reducible apply Dev.modConn_keeps
    | with_reducible apply Dev.hostGet_keeps
    | simp only [keep_mk]
    | dsimp only
    | split
    | with_reducible refine keep_fst (by with_reducible assumption) ?_

theorem Dev.sendAtomicRsp_keeps {kof : KeptOf} (d : Dev) (c : Nat) (k : Packet) (v : Nat) (hd : d.Kept kof) :
    (Dev.sendAtomicRsp d c k v).Kept kof := by
  unfold Dev.sendAtomicRsp
  try dsimp only
  repeat' first
    | with_reducible assumption
    | intro _
    | with_reducible apply Dev.modConn_keeps
    | with_reducible apply Dev.put_keeps
    | with_reducible apply Dev.psnDone_keeps
    | with_reducible apply Dev.connSend_keeps
    | simp only [keep_mk]
    | dsimp only
    | split
    | with_reducible refine keep_fst (by with_reducible assumption) ?_

theorem Dev.execAtomicAt_keeps {kof : KeptOf} (d : Dev) (q : Nat) (k orig : Packet) (x : Conn) (again : Bool) (hd : d.Kept kof) :
    (Dev.execAtomicAt d q k orig x again).Kept kof := by
  unfold Dev.execAtomicAt
  try dsimp only
  repeat' first
    | with_reducible assumption
    | intro _
    | with_reducible apply keep_ite
    | with_reducible apply Dev.refuse_keeps
    | with_reducible apply Dev.notReady_keeps
    | with_reducible apply Dev.ctrAtomic_keeps
    | with_reducible apply Dev.sendAtomicRsp_keeps
    | with_reducible apply Dev.translateRange_keeps
    | with_reducible apply Dev.targetStop_keeps
    | with_reducible apply Dev.regionIn_keeps
    | with_reducible apply Dev.modConn_keeps
    | with_reducible apply Dev.hostAtom_keeps
    | simp only [keep_mk]
    | dsimp only
    | split
    | with_reducible refine keep_fst (by with_reducible assumption) ?_

theorem Dev.requestIn_keeps {kof : KeptOf} (d : Dev) (q : Nat) (k : Packet) (execute : Conn → Packet → Bool → Dev → Dev) (hd : d.Kept kof) (hexecute : ∀ x0 x1 x2 d, d.Kept kof → (execute x0 x1 x2 d).Kept kof) :
    (Dev.requestIn d q k execute).Kept kof := by
  unfold Dev.requestIn
  try dsimp only
  repeat' first
    | with_reducible assumption
    | intro _
    | with_reducible apply keep_ite
    | with_reducible apply Dev.connIn_keeps
    | with_reducible apply Dev.answerDup_keeps
    | with_reducible apply Dev.sendNack_keeps
    | with_reducible apply Dev.refuse_keeps
    | simp only [keep_mk]
    | with_reducible apply hexecute
    | dsimp only
    | split
    | with_reducible refine keep_fst (by with_reducible assumption) ?_

theorem Dev.rmxRequest_keeps {kof : KeptOf} (d : Dev) (q : Nat) (orig : Packet) (again : Bool) (hd : d.Kept kof) :
    (Dev.rmxRequest d q orig again).Kept kof := by
  unfold Dev.rmxRequest
  try dsimp only
  repeat' first
    | with_reducible assumption
    | intro _
    | with_reducible apply keep_ite
    | with_reducible apply Dev.requestIn_keeps
    | with_reducible apply Dev.execPutAt_keeps
    | with_reducible apply Dev.execGetAt_keeps
    | with_reducible apply Dev.execAtomicAt_keeps
    | with_reducible apply Dev.execPutCtrAt_keeps
    | simp only [keep_mk]
    | dsimp only
    | split
    | with_reducible refine keep_fst (by with_reducible assumption) ?_

theorem Dev.rmxArrive_keeps {kof : KeptOf} (d : Dev) (q t : Nat) (k : Packet) (hd : d.Kept kof) :
    (Dev.rmxArrive d q t k).Kept kof := by
  unfold Dev.rmxArrive
  try dsimp only
  repeat' first
    | with_reducible assumption
    | intro _
    | with_reducible apply keep_ite
    | with_reducible apply Dev.takeDlv_keeps
    | with_reducible apply Dev.rmxRequest_keeps
    | simp only [keep_mk]
    | dsimp only
    | split
    | with_reducible refine keep_fst (by with_reducible assumption) ?_

theorem Dev.takeRead_keeps {kof : KeptOf} (d : Dev) (tag : Nat) (hd : d.Kept kof) :
    (Dev.takeRead d tag).Kept kof := by
  unfold Dev.takeRead
  try dsimp only
  repeat' first
    | with_reducible assumption
    | intro _
    | simp only [keep_mk]
    | dsimp only
    | split
    | with_reducible refine keep_fst (by with_reducible assumption) ?_

theorem Dev.served_keeps {kof : KeptOf} (d : Dev) (q c psn n : Nat) (hd : d.Kept kof) :
    (Dev.served d q c psn n).Kept kof := by
  unfold Dev.served
  try dsimp only
  repeat' first
    | with_reducible assumption
    | intro _
    | with_reducible apply Dev.modConn_keeps
    | with_reducible apply Dev.regionOut_keeps
    | simp only [keep_mk]
    | dsimp only
    | split
    | with_reducible refine keep_fst (by with_reducible assumption) ?_

theorem Dev.serveDone_keeps {kof : KeptOf} (d : Dev) (tag : Nat) (atomic ok : Bool) (data : List Byte) (hd : d.Kept kof) :
    (Dev.serveDone d tag atomic ok data).Kept kof := by
  unfold Dev.serveDone
  try dsimp only
  repeat' first
    | with_reducible assumption
    | intro _
    | with_reducible apply keep_ite
    | with_reducible apply Dev.takeRead_keeps
    | with_reducible apply Dev.served_keeps
    | with_reducible apply Dev.when_keeps
    | with_reducible apply Dev.inc_keeps
    | with_reducible apply Dev.refuse_keeps
    | with_reducible apply Dev.sendAtomicRsp_keeps
    | with_reducible apply Dev.sendGetRsp_keeps
    | simp only [keep_mk]
    | dsimp only
    | split
    | with_reducible refine keep_fst (by with_reducible assumption) ?_

/-! Machine/Mtc.lean -/

theorem Dev.stamped_keeps {kof : KeptOf} (d : Dev) (q f : Nat) (hd : d.Kept kof) :
    (Dev.stamped d q f).Kept kof := by
  unfold Dev.stamped
  try dsimp only
  repeat' first
    | with_reducible assumption
    | intro _
    | simp only [keep_mk]
    | dsimp only
    | split
    | with_reducible refine keep_fst (by with_reducible assumption) ?_

theorem Dev.trecvDone_keeps {kof : KeptOf} (d : Dev) (i : Nat) (m : Msg) (bytes : Nat) (cut : Bool) (hd : d.Kept kof) :
    (Dev.trecvDone d i m bytes cut).Kept kof := by
  unfold Dev.trecvDone
  try dsimp only
  repeat' first
    | with_reducible assumption
    | intro _
    | with_reducible apply keep_ite
    | with_reducible apply Dev.delMsg_keeps
    | with_reducible apply Dev.finishOp_keeps
    | simp only [keep_mk]
    | dsimp only
    | split
    | with_reducible refine keep_fst (by with_reducible assumption) ?_

theorem Dev.recvDone_keeps {kof : KeptOf} (d : Dev) (m : Msg) (hd : d.Kept kof) :
    (Dev.recvDone d m).Kept kof := by
  unfold Dev.recvDone
  try dsimp only
  repeat' first
    | with_reducible assumption
    | intro _
    | with_reducible apply keep_ite
    | with_reducible apply Dev.complete_keeps
    | simp only [keep_mk]
    | dsimp only
    | split
    | with_reducible refine keep_fst (by with_reducible assumption) ?_

theorem Dev.startCopy_keeps {kof : KeptOf} (d : Dev) (i : Nat) (m : Msg) (hd : d.Kept kof) :
    (Dev.startCopy d i m).Kept kof := by
  unfold Dev.startCopy
  try dsimp only
  repeat' first
    | with_reducible assumption
    | intro _
    | with_reducible apply keep_ite
    | with_reducible apply Dev.recvDone_keeps
    | with_reducible apply Dev.trecvDone_keeps
    | with_reducible apply Dev.translateFrags_keeps
    | with_reducible apply Dev.opStop_keeps
    | with_reducible apply Dev.hostGet_keeps
    | simp only [keep_mk]
    | dsimp only
    | split
    | with_reducible refine keep_fst (by with_reducible assumption) ?_

theorem Dev.copyDone_keeps {kof : KeptOf} (d : Dev) (i : Nat) (ok : Bool) (data : List Byte) (hd : d.Kept kof) :
    (Dev.copyDone d i ok data).Kept kof := by
  unfold Dev.copyDone
  try dsimp only
  repeat' first
    | with_reducible assumption
    | intro _
    | with_reducible apply keep_ite
    | with_reducible apply Dev.inc_keeps
    | with_reducible apply Dev.recvDone_keeps
    | with_reducible apply Dev.delMsg_keeps
    | with_reducible apply Dev.finishOp_keeps
    | with_reducible apply Dev.translateFrags_keeps
    | with_reducible apply Dev.hostPut_keeps
    | with_reducible apply Dev.opStop_keeps
    | with_reducible apply Dev.trecvDone_keeps
    | simp only [keep_mk]
    | dsimp only
    | split
    | with_reducible refine keep_fst (by with_reducible assumption) ?_

theorem Dev.msgCheck_keeps {kof : KeptOf} (d : Dev) (i : Nat) (hd : d.Kept kof) :
    (Dev.msgCheck d i).Kept kof := by
  unfold Dev.msgCheck
  try dsimp only
  repeat' first
    | with_reducible assumption
    | intro _
    | with_reducible apply keep_ite
    | with_reducible apply Dev.startCopy_keeps
    | with_reducible apply Dev.trecvDone_keeps
    | simp only [keep_mk]
    | dsimp only
    | split
    | with_reducible refine keep_fst (by with_reducible assumption) ?_

theorem Dev.placePiece_keeps {kof : KeptOf} (d : Dev) (q i : Nat) (m : Msg) (k orig : Packet) (off : Nat) (data : List Byte) (hd : d.Kept kof) :
    (Dev.placePiece d q i m k orig off data).Kept kof := by
  unfold Dev.placePiece
  try dsimp only
  repeat' first
    | with_reducible assumption
    | intro _
    | with_reducible apply Dev.translateFrags_keeps
    | with_reducible apply Dev.hostPut_keeps
    | with_reducible apply Dev.targetStop_keeps
    | with_reducible apply Dev.setMsg_keeps
    | with_reducible apply Dev.acceptDone_keeps
    | with_reducible apply Dev.msgCheck_keeps
    | simp only [keep_mk]
    | dsimp only
    | split
    | with_reducible refine keep_fst (by with_reducible assumption) ?_

theorem Dev.placeHead_keeps {kof : KeptOf} (d : Dev) (q i : Nat) (m : Msg) (k orig : Packet) (hd : d.Kept kof) :
    (Dev.placeHead d q i m k orig).Kept kof := by
  unfold Dev.placeHead
  try dsimp only
  repeat' first
    | with_reducible assumption
    | intro _
    | with_reducible apply keep_ite
    | with_reducible apply Dev.acceptDone_keeps
    | with_reducible apply Dev.msgCheck_keeps
    | with_reducible apply Dev.placePiece_keeps
    | simp only [keep_mk]
    | dsimp only
    | split
    | with_reducible refine keep_fst (by with_reducible assumption) ?_

theorem Dev.rqLimit_keeps {kof : KeptOf} (d : Dev) (q n : Nat) (hd : d.Kept kof) :
    (Dev.rqLimit d q n).Kept kof := by
  unfold Dev.rqLimit
  try dsimp only
  repeat' first
    | with_reducible assumption
    | intro _
    | with_reducible apply keep_ite
    | with_reducible apply Dev.setQueue_keeps
    | with_reducible apply Dev.when_keeps
    | with_reducible apply Dev.queueEvent_keeps
    | simp only [keep_mk]
    | dsimp only
    | split
    | with_reducible refine keep_fst (by with_reducible assumption) ?_

theorem Dev.consumeRq_keeps {kof : KeptOf} (d : Dev) (q n : Nat) (x : Queue) (hd : d.Kept kof) :
    (Dev.consumeRq d q n x).Kept kof := by
  unfold Dev.consumeRq
  try dsimp only
  repeat' first
    | with_reducible assumption
    | intro _
    | with_reducible apply Dev.setQueue_keeps
    | simp only [keep_mk]
    | dsimp only
    | split
    | with_reducible refine keep_fst (by with_reducible assumption) ?_

theorem Dev.startPull_keeps {kof : KeptOf} (d : Dev) (i mi : Nat) (o : Op) (m : Msg) (hd : d.Kept kof) :
    (Dev.startPull d i mi o m).Kept kof := by
  unfold Dev.startPull
  try dsimp only
  repeat' first
    | with_reducible assumption
    | intro _
    | with_reducible apply keep_ite
    | with_reducible apply Dev.setOp_keeps
    | with_reducible apply Dev.opCheck_keeps
    | with_reducible apply Dev.prep_keeps
    | simp only [keep_mk]
    | dsimp only
    | split
    | with_reducible refine keep_fst (by with_reducible assumption) ?_

theorem Dev.newMsg_keeps {kof : KeptOf} (d : Dev) (m : Msg) (hd : d.Kept kof) :
    (Dev.newMsg d m).1.Kept kof := by
  unfold Dev.newMsg
  try dsimp only
  repeat' first
    | with_reducible assumption
    | intro _
    | with_reducible apply Dev.put_keeps
    | simp only [keep_mk]
    | dsimp only
    | split
    | with_reducible refine keep_fst (by with_reducible assumption) ?_

theorem Dev.answerHead_keeps {kof : KeptOf} (d : Dev) (k : Packet) (hd : d.Kept kof) :
    (Dev.answerHead d k).Kept kof := by
  unfold Dev.answerHead
  try dsimp only
  repeat' first
    | with_reducible assumption
    | intro _
    | with_reducible apply keep_ite
    | with_reducible apply Dev.psnDone_keeps
    | with_reducible apply Dev.sendAck_keeps
    | with_reducible apply Dev.acceptDone_keeps
    | simp only [keep_mk]
    | dsimp only
    | split
    | with_reducible refine keep_fst (by with_reducible assumption) ?_

theorem Dev.nextMessage_keeps {kof : KeptOf} (d : Dev) (c : Nat) (hd : d.Kept kof) :
    (Dev.nextMessage d c).Kept kof := by
  unfold Dev.nextMessage
  try dsimp only
  repeat' first
    | with_reducible assumption
    | intro _
    | with_reducible apply Dev.modConn_keeps
    | simp only [keep_mk]
    | dsimp only
    | split
    | with_reducible refine keep_fst (by with_reducible assumption) ?_

theorem Dev.storeUnexpected_keeps {kof : KeptOf} (d : Dev) (q : Nat) (x : Conn) (k orig : Packet) (held : Bool) (hd : d.Kept kof) :
    (Dev.storeUnexpected d q x k orig held).Kept kof := by
  unfold Dev.storeUnexpected
  try dsimp only
  repeat' first
    | with_reducible assumption
    | intro _
    | with_reducible apply keep_ite
    | with_reducible apply Dev.newMsg_keeps
    | with_reducible apply Dev.stamped_keeps
    | with_reducible apply Dev.inc_keeps
    | with_reducible apply Dev.nextMessage_keeps
    | with_reducible apply Dev.answerHead_keeps
    | with_reducible apply Dev.notReady_keeps
    | with_reducible apply Dev.cqRefuse_keeps
    | with_reducible apply Dev.setQueue_keeps
    | with_reducible apply Dev.consumeRq_keeps
    | simp only [keep_mk]
    | dsimp only
    | split
    | with_reducible refine keep_fst (by with_reducible assumption) ?_

theorem Dev.headInTurn_keeps {kof : KeptOf} (d : Dev) (q : Nat) (x : Conn) (k orig : Packet) (held : Bool) (hd : d.Kept kof) :
    (Dev.headInTurn d q x k orig held).Kept kof := by
  unfold Dev.headInTurn
  try dsimp only
  repeat' first
    | with_reducible assumption
    | intro _
    | with_reducible apply keep_ite
    | with_reducible apply Dev.event_keeps
    | with_reducible apply Dev.storeUnexpected_keeps
    | with_reducible apply Dev.setPosted_keeps
    | with_reducible apply Dev.inc_keeps
    | with_reducible apply Dev.nextMessage_keeps
    | with_reducible apply Dev.newMsg_keeps
    | with_reducible apply Dev.setOp_keeps
    | with_reducible apply Dev.answerHead_keeps
    | with_reducible apply Dev.startPull_keeps
    | with_reducible apply Dev.placeHead_keeps
    | simp only [keep_mk]
    | dsimp only
    | split
    | with_reducible refine keep_fst (by with_reducible assumption) ?_

theorem Dev.holdHead_keeps {kof : KeptOf} (d : Dev) (q : Nat) (x : Conn) (k orig : Packet) (dist : Nat) (hd : d.Kept kof) :
    (Dev.holdHead d q x k orig dist).Kept kof := by
  unfold Dev.holdHead
  try dsimp only
  repeat' first
    | with_reducible assumption
    | intro _
    | with_reducible apply keep_ite
    | with_reducible apply Dev.inc_keeps
    | with_reducible apply Dev.notReady_keeps
    | with_reducible apply Dev.setConn_keeps
    | with_reducible apply Dev.when_keeps
    | simp only [keep_mk]
    | dsimp only
    | split
    | with_reducible refine keep_fst (by with_reducible assumption) ?_

theorem Dev.onHead_keeps {kof : KeptOf} (d : Dev) (q : Nat) (x : Conn) (k orig : Packet) (held : Bool) (hd : d.Kept kof) :
    (Dev.onHead d q x k orig held).Kept kof := by
  unfold Dev.onHead
  try dsimp only
  repeat' first
    | with_reducible assumption
    | intro _
    | with_reducible apply keep_ite
    | with_reducible apply Dev.refuse_keeps
    | with_reducible apply Dev.placeHead_keeps
    | with_reducible apply Dev.inc_keeps
    | with_reducible apply Dev.answerDup_keeps
    | with_reducible apply Dev.holdHead_keeps
    | with_reducible apply Dev.headInTurn_keeps
    | simp only [keep_mk]
    | dsimp only
    | split
    | with_reducible refine keep_fst (by with_reducible assumption) ?_

theorem Dev.runHeld_keeps {kof : KeptOf} (d : Dev) (q c : Nat) (hd : d.Kept kof) : ∀ (y0 : Nat),
    (Dev.runHeld d q c y0).Kept kof := by
  intro y0
  induction y0 generalizing d q c with
  | zero =>
    unfold Dev.runHeld
    try dsimp only
    repeat' first
      | with_reducible assumption
      | intro _
      | with_reducible apply keep_ite
      | with_reducible apply Dev.setConn_keeps
      | with_reducible apply Dev.requestIn_keeps
      | with_reducible apply Dev.onHead_keeps
      | simp only [keep_mk]
      | dsimp only
      | split
      | with_reducible refine keep_fst (by with_reducible assumption) ?_
  | succ n0 ih =>
    unfold Dev.runHeld
    try dsimp only
    repeat' first
      | with_reducible assumption
      | intro _
      | with_reducible apply keep_ite
      | with_reducible apply ih
      | with_reducible apply Dev.setConn_keeps
      | with_reducible apply Dev.requestIn_keeps
      | with_reducible apply Dev.onHead_keeps
      | simp only [keep_mk]
      | dsimp only
      | split
      | with_reducible refine keep_fst (by with_reducible assumption) ?_

theorem Dev.sendPiece_keeps {kof : KeptOf} (d : Dev) (q : Nat) (k orig : Packet) (hd : d.Kept kof) :
    (Dev.sendPiece d q k orig).Kept kof := by
  unfold Dev.sendPiece
  try dsimp only
  repeat' first
    | with_reducible assumption
    | intro _
    | with_reducible apply Dev.placePiece_keeps
    | with_reducible apply Dev.inc_keeps
    | with_reducible apply Dev.notReady_keeps
    | simp only [keep_mk]
    | dsimp only
    | split
    | with_reducible refine keep_fst (by with_reducible assumption) ?_

theorem Dev.finIn_keeps {kof : KeptOf} (d : Dev) (q : Nat) (k : Packet) (hd : d.Kept kof) :
    (Dev.finIn d q k).Kept kof := by
  unfold Dev.finIn
  try dsimp only
  repeat' first
    | with_reducible assumption
    | intro _
    | with_reducible apply keep_ite
    | with_reducible apply Dev.answerHead_keeps
    | with_reducible apply Dev.revokeRndv_keeps
    | with_reducible apply Dev.revokeEnds_keeps
    | with_reducible apply Dev.inc_keeps
    | simp only [keep_mk]
    | dsimp only
    | split
    | with_reducible refine keep_fst (by with_reducible assumption) ?_

theorem Dev.mtcRequest_keeps {kof : KeptOf} (d : Dev) (q : Nat) (orig : Packet) (hd : d.Kept kof) :
    (Dev.mtcRequest d q orig).Kept kof := by
  unfold Dev.mtcRequest
  try dsimp only
  repeat' first
    | with_reducible assumption
    | intro _
    | with_reducible apply keep_ite
    | with_reducible apply Dev.requestIn_keeps
    | with_reducible apply Dev.finIn_keeps
    | with_reducible apply Dev.onHead_keeps
    | with_reducible apply Dev.sendPiece_keeps
    | with_reducible apply Dev.runHeld_keeps
    | simp only [keep_mk]
    | dsimp only
    | split
    | with_reducible refine keep_fst (by with_reducible assumption) ?_

theorem Dev.mtcArrive_keeps {kof : KeptOf} (d : Dev) (q t : Nat) (fin control : Bool) (k : Packet) (hd : d.Kept kof) :
    (Dev.mtcArrive d q t fin control k).Kept kof := by
  unfold Dev.mtcArrive
  try dsimp only
  repeat' first
    | with_reducible assumption
    | intro _
    | with_reducible apply keep_ite
    | with_reducible apply Dev.takeDlv_keeps
    | with_reducible apply Dev.mtcRequest_keeps
    | simp only [keep_mk]
    | dsimp only
    | split
    | with_reducible refine keep_fst (by with_reducible assumption) ?_

theorem Dev.startTrecv_keeps {kof : KeptOf} (d : Dev) (i : Nat) (o : Op) (hd : d.Kept kof) :
    (Dev.startTrecv d i o).Kept kof := by
  unfold Dev.startTrecv
  try dsimp only
  repeat' first
    | with_reducible assumption
    | intro _
    | with_reducible apply keep_ite
    | with_reducible apply Dev.inc_keeps
    | with_reducible apply Dev.finishOp_keeps
    | with_reducible apply Dev.setOp_keeps
    | with_reducible apply Dev.setPosted_keeps
    | with_reducible apply Dev.stamped_keeps
    | with_reducible apply Dev.event_keeps
    | with_reducible apply Dev.setMsg_keeps
    | with_reducible apply Dev.startPull_keeps
    | with_reducible apply Dev.msgCheck_keeps
    | with_reducible apply Dev.translateFrags_keeps
    | with_reducible apply Dev.opStop_keeps
    | with_reducible apply Dev.hostPut_keeps
    | with_reducible apply Dev.trecvDone_keeps
    | simp only [keep_mk]
    | dsimp only
    | split
    | with_reducible refine keep_fst (by with_reducible assumption) ?_

theorem Dev.resumeTrecv_keeps {kof : KeptOf} (d : Dev) (i : Nat) (o : Op) (hd : d.Kept kof) :
    (Dev.resumeTrecv d i o).Kept kof := by
  unfold Dev.resumeTrecv
  try dsimp only
  repeat' first
    | with_reducible assumption
    | intro _
    | with_reducible apply keep_ite
    | with_reducible apply Dev.prep_keeps
    | with_reducible apply Dev.startCopy_keeps
    | with_reducible apply Dev.translateFrags_keeps
    | with_reducible apply Dev.opStop_keeps
    | with_reducible apply Dev.hostPut_keeps
    | with_reducible apply Dev.trecvDone_keeps
    | simp only [keep_mk]
    | dsimp only
    | split
    | with_reducible refine keep_fst (by with_reducible assumption) ?_

theorem Dev.takeMsn_keeps {kof : KeptOf} (d : Dev) (i : Nat) (o : Op) (hd : d.Kept kof) :
    (Dev.takeMsn d i o).Kept kof := by
  unfold Dev.takeMsn
  try dsimp only
  repeat' first
    | with_reducible assumption
    | intro _
    | with_reducible apply Dev.setConn_keeps
    | with_reducible apply Dev.setOp_keeps
    | simp only [keep_mk]
    | dsimp only
    | split
    | with_reducible refine keep_fst (by with_reducible assumption) ?_

theorem Dev.startSend_keeps {kof : KeptOf} (d : Dev) (i : Nat) (o : Op) (hd : d.Kept kof) :
    (Dev.startSend d i o).Kept kof := by
  unfold Dev.startSend
  try dsimp only
  repeat' first
    | with_reducible assumption
    | intro _
    | with_reducible apply keep_ite
    | with_reducible apply Dev.takeMsn_keeps
    | with_reducible apply Dev.prep_keeps
    | with_reducible apply Dev.setOp_keeps
    | with_reducible apply Dev.setRegion_keeps
    | simp only [keep_mk]
    | dsimp only
    | split
    | with_reducible refine keep_fst (by with_reducible assumption) ?_

theorem Dev.rndvFree_keeps {kof : KeptOf} (d : Dev) (q f : Nat) (hd : d.Kept kof) :
    (Dev.rndvFree d q f).Kept kof := by
  unfold Dev.rndvFree
  try dsimp only
  repeat' first
    | with_reducible assumption
    | intro _
    | with_reducible apply Dev.startSend_keeps
    | simp only [keep_mk]
    | dsimp only
    | split
    | with_reducible refine keep_fst (by with_reducible assumption) ?_

theorem Dev.purge_keeps {kof : KeptOf} (d : Dev) (q f : Nat) (hd : d.Kept kof) :
    (Dev.purge d q f).Kept kof := by
  unfold Dev.purge
  try dsimp only
  repeat' first
    | with_reducible assumption
    | intro _
    | with_reducible apply keep_ite
    | with_reducible apply Dev.put_keeps
    | with_reducible apply Dev.each_keeps
    | with_reducible apply Dev.delMsg_keeps
    | with_reducible apply Dev.inc_keeps
    | with_reducible apply Dev.when_keeps
    | with_reducible apply Dev.complete_keeps
    | simp only [keep_mk]
    | dsimp only
    | split
    | with_reducible refine keep_fst (by with_reducible assumption) ?_

/-! Machine/Collect.lean -/

theorem Dev.colInject_keeps {kof : KeptOf} (d : Dev) (q r : Nat) (k : Packet) (ports : List Nat) (hd : d.Kept kof) :
    (Dev.colInject d q r k ports).Kept kof := by
  unfold Dev.colInject
  try dsimp only
  repeat' first
    | with_reducible assumption
    | intro _
    | with_reducible apply keep_ite
    | with_reducible apply Dev.useKey_keeps
    | with_reducible apply Dev.offerSealed_keeps
    | with_reducible apply Dev.retryInj_keeps
    | with_reducible apply Dev.offer_keeps
    | simp only [keep_mk]
    | dsimp only
    | split
    | with_reducible refine keep_fst (by with_reducible assumption) ?_

theorem Dev.setCrec_keeps {kof : KeptOf} (d : Dev) (e g : Nat) (r : ColOp) (hd : d.Kept kof) :
    (Dev.setCrec d e g r).Kept kof := by
  unfold Dev.setCrec
  try dsimp only
  repeat' first
    | with_reducible assumption
    | intro _
    | with_reducible apply Dev.put_keeps
    | simp only [keep_mk]
    | dsimp only
    | split
    | with_reducible refine keep_fst (by with_reducible assumption) ?_

theorem Dev.modCrec_keeps {kof : KeptOf} (d : Dev) (e g seq : Nat) (f : ColOp → ColOp) (hd : d.Kept kof) :
    (Dev.modCrec d e g seq f).Kept kof := by
  unfold Dev.modCrec
  try dsimp only
  repeat' first
    | with_reducible assumption
    | intro _
    | with_reducible apply Dev.setCrec_keeps
    | simp only [keep_mk]
    | dsimp only
    | split
    | with_reducible refine keep_fst (by with_reducible assumption) ?_

theorem Dev.late_keeps {kof : KeptOf} (d : Dev) (e : Nat) (hd : d.Kept kof) :
    (Dev.late d e).Kept kof := by
  unfold Dev.late
  try dsimp only
  repeat' first
    | with_reducible assumption
    | intro _
    | with_reducible apply Dev.inc_keeps
    | simp only [keep_mk]
    | dsimp only
    | split
    | with_reducible refine keep_fst (by with_reducible assumption) ?_

theorem Dev.countShort_keeps {kof : KeptOf} (d : Dev) (e g : Nat) (r : ColOp) (short : Bool) (hd : d.Kept kof) :
    (Dev.countShort d e g r short).Kept kof := by
  unfold Dev.countShort
  try dsimp only
  repeat' first
    | with_reducible assumption
    | intro _
    | with_reducible apply Dev.when_keeps
    | with_reducible apply Dev.inc_keeps
    | simp only [keep_mk]
    | dsimp only
    | split
    | with_reducible refine keep_fst (by with_reducible assumption) ?_

theorem Dev.delMem_keeps {kof : KeptOf} (d : Dev) (m : Mem) (hd : d.Kept kof) :
    (Dev.delMem d m).Kept kof := by
  unfold Dev.delMem
  try dsimp only
  repeat' first
    | with_reducible assumption
    | intro _
    | simp only [keep_mk]
    | dsimp only
    | split
    | with_reducible refine keep_fst (by with_reducible assumption) ?_

theorem Dev.modMem_keeps {kof : KeptOf} (d : Dev) (m : Mem) (f : Mem → Mem) (hd : d.Kept kof) :
    (Dev.modMem d m f).Kept kof := by
  unfold Dev.modMem
  try dsimp only
  repeat' first
    | with_reducible assumption
    | intro _
    | with_reducible apply keep_ite
    | simp only [keep_mk]
    | dsimp only
    | split
    | with_reducible refine keep_fst (by with_reducible assumption) ?_

theorem Dev.memFinish_keeps {kof : KeptOf} (d : Dev) (m : Mem) (status bytes : Nat) (hd : d.Kept kof) :
    (Dev.memFinish d m status bytes).Kept kof := by
  unfold Dev.memFinish
  try dsimp only
  repeat' first
    | with_reducible assumption
    | intro _
    | with_reducible apply Dev.delMem_keeps
    | with_reducible apply Dev.when_keeps
    | with_reducible apply Dev.freed_keeps
    | with_reducible apply Dev.finishOp_keeps
    | simp only [keep_mk]
    | dsimp only
    | split
    | with_reducible refine keep_fst (by with_reducible assumption) ?_

theorem Dev.membersEnd_keeps {kof : KeptOf} (d : Dev) (e g seq status : Nat) (hd : d.Kept kof) :
    (Dev.membersEnd d e g seq status).Kept kof := by
  unfold Dev.membersEnd
  try dsimp only
  repeat' first
    | with_reducible assumption
    | intro _
    | with_reducible apply Dev.each_keeps
    | with_reducible apply Dev.memFinish_keeps
    | simp only [keep_mk]
    | dsimp only
    | split
    | with_reducible refine keep_fst (by with_reducible assumption) ?_

theorem Dev.closeOp_keeps {kof : KeptOf} (d : Dev) (e g : Nat) (r : ColOp) (token : Bool) (hd : d.Kept kof) :
    (Dev.closeOp d e g r token).Kept kof := by
  unfold Dev.closeOp
  try dsimp only
  repeat' first
    | with_reducible assumption
    | intro _
    | with_reducible apply Dev.setCrec_keeps
    | with_reducible apply Dev.when_keeps
    | with_reducible apply Dev.raise_keeps
    | simp only [keep_mk]
    | dsimp only
    | split
    | with_reducible refine keep_fst (by with_reducible assumption) ?_

theorem Dev.overtaken_keeps {kof : KeptOf} (d : Dev) (e g : Nat) (r : ColOp) (hd : d.Kept kof) :
    (Dev.overtaken d e g r).Kept kof := by
  unfold Dev.overtaken
  try dsimp only
  repeat' first
    | with_reducible assumption
    | intro _
    | with_reducible apply keep_ite
    | with_reducible apply Dev.closeOp_keeps
    | with_reducible apply Dev.membersEnd_keeps
    | simp only [keep_mk]
    | dsimp only
    | split
    | with_reducible refine keep_fst (by with_reducible assumption) ?_

theorem Dev.openOp_keeps {kof : KeptOf} (d : Dev) (e g seq tc : Nat) (hd : d.Kept kof) :
    (Dev.openOp d e g seq tc).1.Kept kof := by
  unfold Dev.openOp
  try dsimp only
  repeat' first
    | with_reducible assumption
    | intro _
    | with_reducible apply keep_ite
    | with_reducible apply Dev.setCrec_keeps
    | with_reducible apply Dev.overtaken_keeps
    | simp only [keep_mk]
    | dsimp only
    | split
    | with_reducible refine keep_fst (by with_reducible assumption) ?_

theorem Dev.mismatch_keeps {kof : KeptOf} (d : Dev) (e g : Nat) (r : ColOp) (hd : d.Kept kof) :
    (Dev.mismatch d e g r).Kept kof := by
  unfold Dev.mismatch
  try dsimp only
  repeat' first
    | with_reducible assumption
    | intro _
    | with_reducible apply Dev.inc_keeps
    | with_reducible apply Dev.closeOp_keeps
    | with_reducible apply Dev.membersEnd_keeps
    | simp only [keep_mk]
    | dsimp only
    | split
    | with_reducible refine keep_fst (by with_reducible assumption) ?_

theorem Dev.bufSend_keeps {kof : KeptOf} (d : Dev) (e g : Nat) (r : ColOp) (b : ChunkBuf) (k : Packet) (hd : d.Kept kof) :
    (Dev.bufSend d e g r b k).Kept kof := by
  unfold Dev.bufSend
  try dsimp only
  repeat' first
    | with_reducible assumption
    | intro _
    | with_reducible apply Dev.setCrec_keeps
    | with_reducible apply Dev.colInject_keeps
    | with_reducible apply Dev.when_keeps
    | with_reducible apply Dev.modCrec_keeps
    | simp only [keep_mk]
    | dsimp only
    | split
    | with_reducible refine keep_fst (by with_reducible assumption) ?_

theorem Dev.partialUp_keeps {kof : KeptOf} (d : Dev) (e g : Nat) (r : ColOp) (b : ChunkBuf) (hd : d.Kept kof) :
    (Dev.partialUp d e g r b).Kept kof := by
  unfold Dev.partialUp
  try dsimp only
  repeat' first
    | with_reducible assumption
    | intro _
    | with_reducible apply Dev.incBy_keeps
    | with_reducible apply Dev.event_keeps
    | with_reducible apply Dev.bufSend_keeps
    | simp only [keep_mk]
    | dsimp only
    | split
    | with_reducible refine keep_fst (by with_reducible assumption) ?_

theorem Dev.chunkDown_keeps {kof : KeptOf} (d : Dev) (e g : Nat) (r : ColOp) (b : ChunkBuf) (hd : d.Kept kof) :
    (Dev.chunkDown d e g r b).Kept kof := by
  unfold Dev.chunkDown
  try dsimp only
  repeat' first
    | with_reducible assumption
    | intro _
    | with_reducible apply keep_ite
    | with_reducible apply Dev.countShort_keeps
    | with_reducible apply Dev.when_keeps
    | with_reducible apply Dev.inc_keeps
    | with_reducible apply Dev.event_keeps
    | with_reducible apply Dev.incBy_keeps
    | with_reducible apply Dev.bufSend_keeps
    | simp only [keep_mk]
    | dsimp only
    | split
    | with_reducible refine keep_fst (by with_reducible assumption) ?_

theorem Dev.chunkCheck_keeps {kof : KeptOf} (d : Dev) (e g seq chunk phase : Nat) (hd : d.Kept kof) :
    (Dev.chunkCheck d e g seq chunk phase).Kept kof := by
  unfold Dev.chunkCheck
  try dsimp only
  repeat' first
    | with_reducible assumption
    | intro _
    | with_reducible apply keep_ite
    | with_reducible apply Dev.chunkDown_keeps
    | with_reducible apply Dev.partialUp_keeps
    | simp only [keep_mk]
    | dsimp only
    | split
    | with_reducible refine keep_fst (by with_reducible assumption) ?_

theorem Dev.contributes_keeps {kof : KeptOf} (d : Dev) (e g seq src : Nat) (p : Nat × Nat × Nat × Nat) (chunk phase nelem members : Nat) (part : Part) (hd : d.Kept kof) :
    (Dev.contributes d e g seq src p chunk phase nelem members part).Kept kof := by
  unfold Dev.contributes
  try dsimp only
  repeat' first
    | with_reducible assumption
    | intro _
    | with_reducible apply keep_ite
    | with_reducible apply Dev.late_keeps
    | with_reducible apply Dev.mismatch_keeps
    | with_reducible apply Dev.setCrec_keeps
    | with_reducible apply Dev.event_keeps
    | with_reducible apply Dev.chunkCheck_keeps
    | simp only [keep_mk]
    | dsimp only
    | split
    | with_reducible refine keep_fst (by with_reducible assumption) ?_

theorem Dev.memFail_keeps {kof : KeptOf} (d : Dev) (m : Mem) (status : Nat) (hd : d.Kept kof) :
    (Dev.memFail d m status).Kept kof := by
  unfold Dev.memFail
  try dsimp only
  repeat' first
    | with_reducible assumption
    | intro _
    | with_reducible apply Dev.memFinish_keeps
    | simp only [keep_mk]
    | dsimp only
    | split
    | with_reducible refine keep_fst (by with_reducible assumption) ?_

theorem Dev.memStop_keeps {kof : KeptOf} (d : Dev) (m : Mem) (t : Tr) (a : XAcc) (c : Cont) (hd : d.Kept kof) :
    (Dev.memStop d m t a c).Kept kof := by
  unfold Dev.memStop
  try dsimp only
  repeat' first
    | with_reducible assumption
    | intro _
    | with_reducible apply Dev.trapInit_keeps
    | with_reducible apply Dev.memFail_keeps
    | simp only [keep_mk]
    | dsimp only
    | split
    | with_reducible refine keep_fst (by with_reducible assumption) ?_

theorem Dev.feed_keeps {kof : KeptOf} (d : Dev) (m : Mem) (b : ChunkBuf) (hd : d.Kept kof) :
    (Dev.feed d m b).Kept kof := by
  unfold Dev.feed
  try dsimp only
  repeat' first
    | with_reducible assumption
    | intro _
    | with_reducible apply keep_ite
    | with_reducible apply Dev.translateFrags_keeps
    | with_reducible apply Dev.memStop_keeps
    | with_reducible apply Dev.hostGet_keeps
    | simp only [keep_mk]
    | dsimp only
    | split
    | with_reducible refine keep_fst (by with_reducible assumption) ?_

theorem Dev.feedAll_keeps {kof : KeptOf} (d : Dev) (m : Mem) (hd : d.Kept kof) :
    (Dev.feedAll d m).Kept kof := by
  unfold Dev.feedAll
  try dsimp only
  repeat' first
    | with_reducible assumption
    | intro _
    | with_reducible apply Dev.each_keeps
    | with_reducible apply Dev.feed_keeps
    | simp only [keep_mk]
    | dsimp only
    | split
    | with_reducible refine keep_fst (by with_reducible assumption) ?_

theorem Dev.contribDone_keeps {kof : KeptOf} (d : Dev) (e g seq chunk phase member : Nat) (ok : Bool) (data : List Byte) (hd : d.Kept kof) :
    (Dev.contribDone d e g seq chunk phase member ok data).Kept kof := by
  unfold Dev.contribDone
  try dsimp only
  repeat' first
    | with_reducible assumption
    | intro _
    | with_reducible apply keep_ite
    | with_reducible apply Dev.late_keeps
    | with_reducible apply Dev.inc_keeps
    | with_reducible apply Dev.memFail_keeps
    | with_reducible apply Dev.contributes_keeps
    | simp only [keep_mk]
    | dsimp only
    | split
    | with_reducible refine keep_fst (by with_reducible assumption) ?_

theorem Dev.stageCheck_keeps {kof : KeptOf} (d : Dev) (e g seq s : Nat) (hd : d.Kept kof) :
    (Dev.stageCheck d e g seq s).Kept kof := by
  unfold Dev.stageCheck
  try dsimp only
  repeat' first
    | with_reducible assumption
    | intro _
    | with_reducible apply keep_ite
    | with_reducible apply Dev.when_keeps
    | with_reducible apply Dev.inc_keeps
    | with_reducible apply Dev.setCrec_keeps
    | with_reducible apply Dev.colInject_keeps
    | simp only [keep_mk]
    | dsimp only
    | split
    | with_reducible refine keep_fst (by with_reducible assumption) ?_

theorem Dev.stageArrive_keeps {kof : KeptOf} (d : Dev) (e g seq src tc : Nat) (p : Nat × Nat × Nat × Nat) (s members : Nat) (fenced : Bool) (hd : d.Kept kof) :
    (Dev.stageArrive d e g seq src tc p s members fenced).Kept kof := by
  unfold Dev.stageArrive
  try dsimp only
  repeat' first
    | with_reducible assumption
    | intro _
    | with_reducible apply keep_ite
    | with_reducible apply Dev.openOp_keeps
    | with_reducible apply Dev.late_keeps
    | with_reducible apply Dev.mismatch_keeps
    | with_reducible apply Dev.setCrec_keeps
    | with_reducible apply Dev.stageCheck_keeps
    | simp only [keep_mk]
    | dsimp only
    | split
    | with_reducible refine keep_fst (by with_reducible assumption) ?_

theorem Dev.castNext_keeps {kof : KeptOf} (d : Dev) (m : Mem) (hd : d.Kept kof) :
    (Dev.castNext d m).Kept kof := by
  unfold Dev.castNext
  try dsimp only
  repeat' first
    | with_reducible assumption
    | intro _
    | with_reducible apply keep_ite
    | with_reducible apply Dev.put_keeps
    | with_reducible apply Dev.translateFrags_keeps
    | with_reducible apply Dev.memStop_keeps
    | with_reducible apply Dev.hostGet_keeps
    | simp only [keep_mk]
    | dsimp only
    | split
    | with_reducible refine keep_fst (by with_reducible assumption) ?_

theorem Dev.castEnd_keeps {kof : KeptOf} (d : Dev) (m : Mem) (hd : d.Kept kof) :
    (Dev.castEnd d m).Kept kof := by
  unfold Dev.castEnd
  try dsimp only
  repeat' first
    | with_reducible assumption
    | intro _
    | with_reducible apply keep_ite
    | with_reducible apply Dev.memFinish_keeps
    | simp only [keep_mk]
    | dsimp only
    | split
    | with_reducible refine keep_fst (by with_reducible assumption) ?_

theorem Dev.castDone_keeps {kof : KeptOf} (d : Dev) (i : Nat) (ok : Bool) (data : List Byte) (hd : d.Kept kof) :
    (Dev.castDone d i ok data).Kept kof := by
  unfold Dev.castDone
  try dsimp only
  repeat' first
    | with_reducible assumption
    | intro _
    | with_reducible apply keep_ite
    | with_reducible apply Dev.inc_keeps
    | with_reducible apply Dev.memFail_keeps
    | with_reducible apply Dev.modMem_keeps
    | with_reducible apply Dev.colInject_keeps
    | with_reducible apply Dev.castNext_keeps
    | with_reducible apply Dev.castEnd_keeps
    | simp only [keep_mk]
    | dsimp only
    | split
    | with_reducible refine keep_fst (by with_reducible assumption) ?_

theorem Dev.memBegin_keeps {kof : KeptOf} (d : Dev) (m : Mem) (hd : d.Kept kof) :
    (Dev.memBegin d m).Kept kof := by
  unfold Dev.memBegin
  try dsimp only
  repeat' first
    | with_reducible assumption
    | intro _
    | with_reducible apply keep_ite
    | with_reducible apply Dev.modMem_keeps
    | with_reducible apply Dev.memFinish_keeps
    | with_reducible apply Dev.castNext_keeps
    | with_reducible apply Dev.stageArrive_keeps
    | with_reducible apply Dev.openOp_keeps
    | with_reducible apply Dev.mismatch_keeps
    | with_reducible apply Dev.setCrec_keeps
    | with_reducible apply Dev.feedAll_keeps
    | simp only [keep_mk]
    | dsimp only
    | split
    | with_reducible refine keep_fst (by with_reducible assumption) ?_

theorem Dev.startHeld_keeps {kof : KeptOf} (d : Dev) (hd : d.Kept kof) :
    (Dev.startHeld d).Kept kof := by
  unfold Dev.startHeld
  try dsimp only
  repeat' first
    | with_reducible assumption
    | intro _
    | with_reducible apply Dev.each_keeps
    | with_reducible apply Dev.memBegin_keeps
    | simp only [keep_mk]
    | dsimp only
    | split
    | with_reducible refine keep_fst (by with_reducible assumption) ?_

theorem Dev.colSettle_keeps {kof : KeptOf} (d : Dev) (hd : d.Kept kof) :
    (Dev.colSettle d).Kept kof := by
  unfold Dev.colSettle
  try dsimp only
  repeat' first
    | with_reducible assumption
    | intro _
    | with_reducible apply Dev.each_keeps
    | with_reducible apply Dev.modMem_keeps
    | with_reducible apply Dev.castEnd_keeps
    | with_reducible apply Dev.startHeld_keeps
    | simp only [keep_mk]
    | dsimp only
    | split
    | with_reducible refine keep_fst (by with_reducible assumption) ?_

theorem Dev.colStart_keeps {kof : KeptOf} (d : Dev) (i : Nat) (o : Op) (hd : d.Kept kof) :
    (Dev.colStart d i o).Kept kof := by
  unfold Dev.colStart
  try dsimp only
  repeat' first
    | with_reducible assumption
    | intro _
    | with_reducible apply keep_ite
    | with_reducible apply Dev.finishOp_keeps
    | with_reducible apply Dev.freed_keeps
    | with_reducible apply Dev.startHeld_keeps
    | simp only [keep_mk]
    | dsimp only
    | split
    | with_reducible refine keep_fst (by with_reducible assumption) ?_

theorem Dev.memDown_keeps {kof : KeptOf} (d : Dev) (m : Mem) (k : Packet) (hd : d.Kept kof) :
    (Dev.memDown d m k).Kept kof := by
  unfold Dev.memDown
  try dsimp only
  repeat' first
    | with_reducible assumption
    | intro _
    | with_reducible apply keep_ite
    | with_reducible apply Dev.modMem_keeps
    | with_reducible apply Dev.memFinish_keeps
    | with_reducible apply Dev.translateRange_keeps
    | with_reducible apply Dev.memStop_keeps
    | with_reducible apply Dev.hostPut_keeps
    | simp only [keep_mk]
    | dsimp only
    | split
    | with_reducible refine keep_fst (by with_reducible assumption) ?_

theorem Dev.lateDown_keeps {kof : KeptOf} (d : Dev) (e g : Nat) (hd : d.Kept kof) :
    (Dev.lateDown d e g).Kept kof := by
  unfold Dev.lateDown
  try dsimp only
  repeat' first
    | with_reducible assumption
    | intro _
    | with_reducible apply keep_ite
    | with_reducible apply Dev.late_keeps
    | simp only [keep_mk]
    | dsimp only
    | split
    | with_reducible refine keep_fst (by with_reducible assumption) ?_

theorem Dev.tellMembers_keeps {kof : KeptOf} (d : Dev) (e g seq members : Nat) (hd : d.Kept kof) :
    (Dev.tellMembers d e g seq members).Kept kof := by
  unfold Dev.tellMembers
  try dsimp only
  repeat' first
    | with_reducible assumption
    | intro _
    | with_reducible apply Dev.each_keeps
    | with_reducible apply Dev.modMem_keeps
    | simp only [keep_mk]
    | dsimp only
    | split
    | with_reducible refine keep_fst (by with_reducible assumption) ?_

theorem Dev.redDown_keeps {kof : KeptOf} (d : Dev) (e g : Nat) (k : Packet) (hd : d.Kept kof) :
    (Dev.redDown d e g k).Kept kof := by
  unfold Dev.redDown
  try dsimp only
  repeat' first
    | with_reducible assumption
    | intro _
    | with_reducible apply keep_ite
    | with_reducible apply Dev.lateDown_keeps
    | with_reducible apply Dev.late_keeps
    | with_reducible apply Dev.tellMembers_keeps
    | with_reducible apply Dev.closeOp_keeps
    | with_reducible apply Dev.membersEnd_keeps
    | with_reducible apply Dev.setCrec_keeps
    | with_reducible apply Dev.each_keeps
    | with_reducible apply Dev.memDown_keeps
    | simp only [keep_mk]
    | dsimp only
    | split
    | with_reducible refine keep_fst (by with_reducible assumption) ?_

theorem Dev.barrierRelease_keeps {kof : KeptOf} (d : Dev) (e g : Nat) (k : Packet) (hd : d.Kept kof) :
    (Dev.barrierRelease d e g k).Kept kof := by
  unfold Dev.barrierRelease
  try dsimp only
  repeat' first
    | with_reducible assumption
    | intro _
    | with_reducible apply keep_ite
    | with_reducible apply Dev.lateDown_keeps
    | with_reducible apply Dev.late_keeps
    | with_reducible apply Dev.setCrec_keeps
    | with_reducible apply Dev.tellMembers_keeps
    | with_reducible apply Dev.each_keeps
    | with_reducible apply Dev.stageArrive_keeps
    | with_reducible apply Dev.castNext_keeps
    | with_reducible apply Dev.closeOp_keeps
    | with_reducible apply Dev.membersEnd_keeps
    | with_reducible apply Dev.memFinish_keeps
    | simp only [keep_mk]
    | dsimp only
    | split
    | with_reducible refine keep_fst (by with_reducible assumption) ?_

theorem Dev.bcastPlace_keeps {kof : KeptOf} (d : Dev) (q member : Nat) (k : Packet) (hd : d.Kept kof) :
    (Dev.bcastPlace d q member k).Kept kof := by
  unfold Dev.bcastPlace
  try dsimp only
  repeat' first
    | with_reducible assumption
    | intro _
    | with_reducible apply keep_ite
    | with_reducible apply Dev.late_keeps
    | with_reducible apply Dev.translateRange_keeps
    | with_reducible apply Dev.memStop_keeps
    | with_reducible apply Dev.hostPut_keeps
    | with_reducible apply Dev.modMem_keeps
    | with_reducible apply Dev.stageArrive_keeps
    | simp only [keep_mk]
    | dsimp only
    | split
    | with_reducible refine keep_fst (by with_reducible assumption) ?_

theorem Dev.mcastPlace_keeps {kof : KeptOf} (d : Dev) (q member : Nat) (k : Packet) (hd : d.Kept kof) :
    (Dev.mcastPlace d q member k).Kept kof := by
  unfold Dev.mcastPlace
  try dsimp only
  repeat' first
    | with_reducible assumption
    | intro _
    | with_reducible apply keep_ite
    | with_reducible apply Dev.inc_keeps
    | with_reducible apply Dev.cqRefuse_keeps
    | with_reducible apply Dev.setQueue_keeps
    | with_reducible apply Dev.translateFrags_keeps
    | with_reducible apply Dev.takeSlot_keeps
    | with_reducible apply Dev.consumeRq_keeps
    | with_reducible apply Dev.hostPut_keeps
    | with_reducible apply Dev.complete_keeps
    | simp only [keep_mk]
    | dsimp only
    | split
    | with_reducible refine keep_fst (by with_reducible assumption) ?_

theorem Dev.memberIn_keeps {kof : KeptOf} (d : Dev) (q member : Nat) (k : Packet) (hd : d.Kept kof) :
    (Dev.memberIn d q member k).Kept kof := by
  unfold Dev.memberIn
  try dsimp only
  repeat' first
    | with_reducible assumption
    | intro _
    | with_reducible apply keep_ite
    | with_reducible apply Dev.memDown_keeps
    | with_reducible apply Dev.bcastPlace_keeps
    | with_reducible apply Dev.mcastPlace_keeps
    | simp only [keep_mk]
    | dsimp only
    | split
    | with_reducible refine keep_fst (by with_reducible assumption) ?_

theorem Dev.mcastIn_keeps {kof : KeptOf} (d : Dev) (q member : Nat) (k : Packet) (hd : d.Kept kof) :
    (Dev.mcastIn d q member k).Kept kof := by
  unfold Dev.mcastIn
  try dsimp only
  repeat' first
    | with_reducible assumption
    | intro _
    | with_reducible apply keep_ite
    | with_reducible apply Dev.takeDlv_keeps
    | with_reducible apply Dev.useKey_keeps
    | with_reducible apply Dev.memberIn_keeps
    | with_reducible apply Dev.inc_keeps
    | simp only [keep_mk]
    | dsimp only
    | split
    | with_reducible refine keep_fst (by with_reducible assumption) ?_

theorem Dev.engineAuth_keeps {kof : KeptOf} (d : Dev) (e g : Nat) (down : Bool) (hd : d.Kept kof) :
    (Dev.engineAuth d e g down).Kept kof := by
  unfold Dev.engineAuth
  try dsimp only
  repeat' first
    | with_reducible assumption
    | intro _
    | with_reducible apply Dev.inc_keeps
    | with_reducible apply Dev.when_keeps
    | with_reducible apply Dev.each_keeps
    | simp only [keep_mk]
    | dsimp only
    | split
    | with_reducible refine keep_fst (by with_reducible assumption) ?_

theorem Dev.engineIn_keeps {kof : KeptOf} (d : Dev) (e t : Nat) (down : Bool) (k : Packet) (act : Packet → Dev → Dev) (hd : d.Kept kof) (hact : ∀ x0 d, d.Kept kof → (act x0 d).Kept kof) :
    (Dev.engineIn d e t down k act).Kept kof := by
  unfold Dev.engineIn
  try dsimp only
  repeat' first
    | with_reducible assumption
    | intro _
    | with_reducible apply keep_ite
    | with_reducible apply Dev.takeDlv_keeps
    | with_reducible apply Dev.late_keeps
    | with_reducible apply Dev.useKey_keeps
    | with_reducible apply Dev.engineAuth_keeps
    | simp only [keep_mk]
    | with_reducible apply hact
    | dsimp only
    | split
    | with_reducible refine keep_fst (by with_reducible assumption) ?_

theorem Dev.redUpIn_keeps {kof : KeptOf} (d : Dev) (e src : Nat) (k : Packet) (hd : d.Kept kof) :
    (Dev.redUpIn d e src k).Kept kof := by
  unfold Dev.redUpIn
  try dsimp only
  repeat' first
    | with_reducible assumption
    | intro _
    | with_reducible apply keep_ite
    | with_reducible apply Dev.engineIn_keeps
    | with_reducible apply Dev.modCrec_keeps
    | with_reducible apply Dev.contributes_keeps
    | simp only [keep_mk]
    | dsimp only
    | split
    | with_reducible refine keep_fst (by with_reducible assumption) ?_

theorem Dev.redDownIn_keeps {kof : KeptOf} (d : Dev) (e : Nat) (k : Packet) (hd : d.Kept kof) :
    (Dev.redDownIn d e k).Kept kof := by
  unfold Dev.redDownIn
  try dsimp only
  repeat' first
    | with_reducible assumption
    | intro _
    | with_reducible apply Dev.engineIn_keeps
    | with_reducible apply Dev.redDown_keeps
    | simp only [keep_mk]
    | dsimp only
    | split
    | with_reducible refine keep_fst (by with_reducible assumption) ?_

theorem Dev.barrierUpIn_keeps {kof : KeptOf} (d : Dev) (e src : Nat) (k : Packet) (hd : d.Kept kof) :
    (Dev.barrierUpIn d e src k).Kept kof := by
  unfold Dev.barrierUpIn
  try dsimp only
  repeat' first
    | with_reducible assumption
    | intro _
    | with_reducible apply keep_ite
    | with_reducible apply Dev.engineIn_keeps
    | with_reducible apply Dev.stageArrive_keeps
    | simp only [keep_mk]
    | dsimp only
    | split
    | with_reducible refine keep_fst (by with_reducible assumption) ?_

theorem Dev.barrierDownIn_keeps {kof : KeptOf} (d : Dev) (e : Nat) (k : Packet) (hd : d.Kept kof) :
    (Dev.barrierDownIn d e k).Kept kof := by
  unfold Dev.barrierDownIn
  try dsimp only
  repeat' first
    | with_reducible assumption
    | intro _
    | with_reducible apply keep_ite
    | with_reducible apply Dev.engineIn_keeps
    | with_reducible apply Dev.barrierRelease_keeps
    | simp only [keep_mk]
    | dsimp only
    | split
    | with_reducible refine keep_fst (by with_reducible assumption) ?_

theorem Dev.grantIn_keeps {kof : KeptOf} (d : Dev) (e : Nat) (k : Packet) (hd : d.Kept kof) :
    (Dev.grantIn d e k).Kept kof := by
  unfold Dev.grantIn
  try dsimp only
  repeat' first
    | with_reducible assumption
    | intro _
    | with_reducible apply keep_ite
    | with_reducible apply Dev.engineIn_keeps
    | with_reducible apply Dev.openOp_keeps
    | with_reducible apply Dev.late_keeps
    | with_reducible apply Dev.modCrec_keeps
    | with_reducible apply Dev.each_keeps
    | with_reducible apply Dev.chunkCheck_keeps
    | simp only [keep_mk]
    | dsimp only
    | split
    | with_reducible refine keep_fst (by with_reducible assumption) ?_

theorem Dev.bufferAssign_keeps {kof : KeptOf} (d : Dev) (e g seq : Nat) (hd : d.Kept kof) :
    (Dev.bufferAssign d e g seq).Kept kof := by
  unfold Dev.bufferAssign
  try dsimp only
  repeat' first
    | with_reducible assumption
    | intro _
    | with_reducible apply keep_ite
    | with_reducible apply Dev.openOp_keeps
    | with_reducible apply Dev.setCrec_keeps
    | with_reducible apply Dev.when_keeps
    | with_reducible apply Dev.colInject_keeps
    | with_reducible apply Dev.each_keeps
    | with_reducible apply Dev.feed_keeps
    | with_reducible apply Dev.chunkCheck_keeps
    | simp only [keep_mk]
    | dsimp only
    | split
    | with_reducible refine keep_fst (by with_reducible assumption) ?_

theorem Dev.epochCheck_keeps {kof : KeptOf} (d : Dev) (e g seq : Nat) (hd : d.Kept kof) :
    (Dev.epochCheck d e g seq).Kept kof := by
  unfold Dev.epochCheck
  try dsimp only
  repeat' first
    | with_reducible assumption
    | intro _
    | with_reducible apply keep_ite
    | with_reducible apply Dev.countShort_keeps
    | with_reducible apply Dev.setCrec_keeps
    | with_reducible apply Dev.colInject_keeps
    | simp only [keep_mk]
    | dsimp only
    | split
    | with_reducible refine keep_fst (by with_reducible assumption) ?_

theorem Dev.epochCountIn_keeps {kof : KeptOf} (d : Dev) (e src : Nat) (k : Packet) (hd : d.Kept kof) :
    (Dev.epochCountIn d e src k).Kept kof := by
  unfold Dev.epochCountIn
  try dsimp only
  repeat' first
    | with_reducible assumption
    | intro _
    | with_reducible apply keep_ite
    | with_reducible apply Dev.engineIn_keeps
    | with_reducible apply Dev.openOp_keeps
    | with_reducible apply Dev.late_keeps
    | with_reducible apply Dev.mismatch_keeps
    | with_reducible apply Dev.setCrec_keeps
    | with_reducible apply Dev.epochCheck_keeps
    | simp only [keep_mk]
    | dsimp only
    | split
    | with_reducible refine keep_fst (by with_reducible assumption) ?_

theorem Dev.operationTimeout_keeps {kof : KeptOf} (d : Dev) (e g seq : Nat) (hd : d.Kept kof) :
    (Dev.operationTimeout d e g seq).Kept kof := by
  unfold Dev.operationTimeout
  try dsimp only
  repeat' first
    | with_reducible assumption
    | intro _
    | with_reducible apply keep_ite
    | with_reducible apply Dev.inc_keeps
    | with_reducible apply Dev.countShort_keeps
    | with_reducible apply Dev.closeOp_keeps
    | with_reducible apply Dev.tellMembers_keeps
    | with_reducible apply Dev.membersEnd_keeps
    | with_reducible apply Dev.colInject_keeps
    | simp only [keep_mk]
    | dsimp only
    | split
    | with_reducible refine keep_fst (by with_reducible assumption) ?_

theorem Dev.memberTimeout_keeps {kof : KeptOf} (d : Dev) (e g seq member : Nat) (hd : d.Kept kof) :
    (Dev.memberTimeout d e g seq member).Kept kof := by
  unfold Dev.memberTimeout
  try dsimp only
  repeat' first
    | with_reducible assumption
    | intro _
    | with_reducible apply keep_ite
    | with_reducible apply Dev.memFinish_keeps
    | with_reducible apply Dev.closeOp_keeps
    | simp only [keep_mk]
    | dsimp only
    | split
    | with_reducible refine keep_fst (by with_reducible assumption) ?_

theorem Dev.forceOps_keeps {kof : KeptOf} (d : Dev) (e g : Nat) (hd : d.Kept kof) :
    (Dev.forceOps d e g).Kept kof := by
  unfold Dev.forceOps
  try dsimp only
  repeat' first
    | with_reducible assumption
    | intro _
    | with_reducible apply Dev.each_keeps
    | with_reducible apply Dev.closeOp_keeps
    | with_reducible apply Dev.membersEnd_keeps
    | with_reducible apply Dev.memFinish_keeps
    | simp only [keep_mk]
    | dsimp only
    | split
    | with_reducible refine keep_fst (by with_reducible assumption) ?_

theorem Dev.fenceOps_keeps {kof : KeptOf} (d : Dev) (e : Nat) (hd : d.Kept kof) :
    (Dev.fenceOps d e).Kept kof := by
  unfold Dev.fenceOps
  try dsimp only
  repeat' first
    | with_reducible assumption
    | intro _
    | with_reducible apply Dev.each_keeps
    | with_reducible apply Dev.setCrec_keeps
    | with_reducible apply Dev.epochCheck_keeps
    | with_reducible apply Dev.chunkCheck_keeps
    | with_reducible apply Dev.stageCheck_keeps
    | simp only [keep_mk]
    | dsimp only
    | split
    | with_reducible refine keep_fst (by with_reducible assumption) ?_

theorem Dev.fenceMembers_keeps {kof : KeptOf} (d : Dev) (e : Nat) (hd : d.Kept kof) :
    (Dev.fenceMembers d e).Kept kof := by
  unfold Dev.fenceMembers
  try dsimp only
  repeat' first
    | with_reducible assumption
    | intro _
    | with_reducible apply Dev.each_keeps
    | with_reducible apply Dev.memFinish_keeps
    | simp only [keep_mk]
    | dsimp only
    | split
    | with_reducible refine keep_fst (by with_reducible assumption) ?_

/-! Machine/Start.lean -/

theorem Dev.endStart_keeps {kof : KeptOf} (d : Dev) (i status : Nat) (bad : Bool) (hd : d.Kept kof) :
    (Dev.endStart d i status bad).Kept kof := by
  unfold Dev.endStart
  try dsimp only
  repeat' first
    | with_reducible assumption
    | intro _
    | with_reducible apply Dev.finishOp_keeps
    | simp only [keep_mk]
    | dsimp only
    | split
    | with_reducible refine keep_fst (by with_reducible assumption) ?_

theorem Dev.startConn_keeps {kof : KeptOf} (d : Dev) (i : Nat) (o : Op) (hd : d.Kept kof) :
    (Dev.startConn d i o).Kept kof := by
  unfold Dev.startConn
  try dsimp only
  repeat' first
    | with_reducible assumption
    | intro _
    | with_reducible apply keep_ite
    | with_reducible apply Dev.endStart_keeps
    | with_reducible apply Dev.setOp_keeps
    | with_reducible apply Dev.startSend_keeps
    | with_reducible apply Dev.prep_keeps
    | simp only [keep_mk]
    | dsimp only
    | split
    | with_reducible refine keep_fst (by with_reducible assumption) ?_

theorem Dev.runOp_keeps {kof : KeptOf} (d : Dev) (i : Nat) (hd : d.Kept kof) :
    (Dev.runOp d i).Kept kof := by
  unfold Dev.runOp
  try dsimp only
  repeat' first
    | with_reducible assumption
    | intro _
    | with_reducible apply keep_ite
    | with_reducible apply Dev.setOp_keeps
    | with_reducible apply Dev.endStart_keeps
    | with_reducible apply Dev.startConn_keeps
    | with_reducible apply Dev.startTrecv_keeps
    | with_reducible apply Dev.colStart_keeps
    | simp only [keep_mk]
    | dsimp only
    | split
    | with_reducible refine keep_fst (by with_reducible assumption) ?_

theorem Dev.readTable_keeps {kof : KeptOf} (d : Dev) (i : Nat) (hd : d.Kept kof) :
    (Dev.readTable d i).Kept kof := by
  unfold Dev.readTable
  try dsimp only
  repeat' first
    | with_reducible assumption
    | intro _
    | with_reducible apply Dev.translateRange_keeps
    | with_reducible apply Dev.setOp_keeps
    | with_reducible apply Dev.trapInit_keeps
    | with_reducible apply Dev.endStart_keeps
    | with_reducible apply Dev.hostGet_keeps
    | simp only [keep_mk]
    | dsimp only
    | split
    | with_reducible refine keep_fst (by with_reducible assumption) ?_

theorem Dev.tableDone_keeps {kof : KeptOf} (d : Dev) (i : Nat) (ok : Bool) (data : List Byte) (hd : d.Kept kof) :
    (Dev.tableDone d i ok data).Kept kof := by
  unfold Dev.tableDone
  try dsimp only
  repeat' first
    | with_reducible assumption
    | intro _
    | with_reducible apply keep_ite
    | with_reducible apply Dev.inc_keeps
    | with_reducible apply Dev.endStart_keeps
    | with_reducible apply Dev.setOp_keeps
    | with_reducible apply Dev.runOp_keeps
    | simp only [keep_mk]
    | dsimp only
    | split
    | with_reducible refine keep_fst (by with_reducible assumption) ?_

theorem Dev.runFired_keeps {kof : KeptOf} (d : Dev) (hd : d.Kept kof) :
    (Dev.runFired d).Kept kof := by
  unfold Dev.runFired
  try dsimp only
  repeat' first
    | with_reducible assumption
    | intro _
    | with_reducible apply keep_ite
    | with_reducible apply Dev.each_keeps
    | with_reducible apply Dev.endStart_keeps
    | with_reducible apply Dev.readTable_keeps
    | with_reducible apply Dev.runOp_keeps
    | simp only [keep_mk]
    | dsimp only
    | split
    | with_reducible refine keep_fst (by with_reducible assumption) ?_

theorem Dev.park_keeps {kof : KeptOf} (d : Dev) (i : Nat) (o : Op) (hd : d.Kept kof) :
    (Dev.park d i o).Kept kof := by
  unfold Dev.park
  try dsimp only
  repeat' first
    | with_reducible assumption
    | intro _
    | with_reducible apply keep_ite
    | with_reducible apply Dev.endStart_keeps
    | with_reducible apply Dev.arrivalDie_keeps
    | with_reducible apply Dev.setOp_keeps
    | with_reducible apply Dev.fireTriggers_keeps
    | with_reducible apply Dev.runFired_keeps
    | simp only [keep_mk]
    | dsimp only
    | split
    | with_reducible refine keep_fst (by with_reducible assumption) ?_

theorem Dev.fetchStop_keeps {kof : KeptOf} (d : Dev) (q k n : Nat) (x : Queue) (t : Tr) (a : XAcc) (hd : d.Kept kof) :
    (Dev.fetchStop d q k n x t a).Kept kof := by
  unfold Dev.fetchStop
  try dsimp only
  repeat' first
    | with_reducible assumption
    | intro _
    | with_reducible apply Dev.setQueue_keeps
    | with_reducible apply Dev.trapInit_keeps
    | with_reducible apply Dev.queueError_keeps
    | simp only [keep_mk]
    | dsimp only
    | split
    | with_reducible refine keep_fst (by with_reducible assumption) ?_

theorem Dev.fetch_keeps {kof : KeptOf} (d : Dev) (q n : Nat) (x : Queue) (i desc : Nat) (hd : d.Kept kof) :
    (Dev.fetch d q n x i desc).1.Kept kof := by
  unfold Dev.fetch
  try dsimp only
  repeat' first
    | with_reducible assumption
    | intro _
    | with_reducible apply keep_ite
    | with_reducible apply Dev.translate_keeps
    | with_reducible apply Dev.translateRange_keeps
    | simp only [keep_mk]
    | dsimp only
    | split
    | with_reducible refine keep_fst (by with_reducible assumption) ?_

theorem Dev.newOp_keeps {kof : KeptOf} (d : Dev) (q k n : Nat) (x : Queue) (desc : Nat) (fr : List (Nat × Nat)) (hd : d.Kept kof) :
    (Dev.newOp d q k n x desc fr).1.Kept kof := by
  unfold Dev.newOp
  try dsimp only
  repeat' first
    | with_reducible assumption
    | intro _
    | with_reducible apply keep_ite
    | with_reducible apply Dev.put_keeps
    | simp only [keep_mk]
    | dsimp only
    | split
    | with_reducible refine keep_fst (by with_reducible assumption) ?_

theorem Dev.startWork_keeps {kof : KeptOf} (d : Dev) (q n : Nat) (x : Queue) (desc : Nat) (fr : List (Nat × Nat)) (ok : Bool) (hd : d.Kept kof) :
    (Dev.startWork d q n x desc fr ok).Kept kof := by
  unfold Dev.startWork
  try dsimp only
  repeat' first
    | with_reducible assumption
    | intro _
    | with_reducible apply keep_ite
    | with_reducible apply Dev.cqRefuse_keeps
    | with_reducible apply Dev.fetch_keeps
    | with_reducible apply Dev.fetchStop_keeps
    | with_reducible apply Dev.cqAdmit_keeps
    | with_reducible apply Dev.setQueue_keeps
    | with_reducible apply Dev.event_keeps
    | with_reducible apply Dev.newOp_keeps
    | with_reducible apply Dev.inc_keeps
    | with_reducible apply Dev.endStart_keeps
    | with_reducible apply Dev.park_keeps
    | with_reducible apply Dev.runOp_keeps
    | simp only [keep_mk]
    | dsimp only
    | split
    | with_reducible refine keep_fst (by with_reducible assumption) ?_

theorem Dev.redispatch_keeps {kof : KeptOf} (d : Dev) (q : Nat) (p : Packet) (hd : d.Kept kof) :
    (Dev.redispatch d q p).Kept kof := by
  unfold Dev.redispatch
  try dsimp only
  repeat' first
    | with_reducible assumption
    | intro _
    | with_reducible apply keep_ite
    | with_reducible apply Dev.mcastPlace_keeps
    | with_reducible apply Dev.inc_keeps
    | with_reducible apply Dev.mtcRequest_keeps
    | simp only [keep_mk]
    | dsimp only
    | split
    | with_reducible refine keep_fst (by with_reducible assumption) ?_

theorem Dev.readRecv_keeps {kof : KeptOf} (d : Dev) (q n : Nat) (x : Queue) (desc : Nat) (fr : List (Nat × Nat)) (ok : Bool) (hd : d.Kept kof) :
    (Dev.readRecv d q n x desc fr ok).Kept kof := by
  unfold Dev.readRecv
  try dsimp only
  repeat' first
    | with_reducible assumption
    | intro _
    | with_reducible apply keep_ite
    | with_reducible apply Dev.cqRefuse_keeps
    | with_reducible apply Dev.fetch_keeps
    | with_reducible apply Dev.fetchStop_keeps
    | with_reducible apply Dev.cqAdmit_keeps
    | with_reducible apply Dev.event_keeps
    | with_reducible apply Dev.setQueue_keeps
    | with_reducible apply Dev.rqLimit_keeps
    | with_reducible apply Dev.when_keeps
    | with_reducible apply Dev.inc_keeps
    | with_reducible apply Dev.complete_keeps
    | with_reducible apply Dev.queueError_keeps
    | with_reducible apply Dev.each_keeps
    | with_reducible apply Dev.redispatch_keeps
    | simp only [keep_mk]
    | dsimp only
    | split
    | with_reducible refine keep_fst (by with_reducible assumption) ?_

theorem Dev.flushNext_keeps {kof : KeptOf} (d : Dev) (q k n : Nat) (x : Queue) (desc : Nat) (ok : Bool) (hd : d.Kept kof) :
    (Dev.flushNext d q k n x desc ok).Kept kof := by
  unfold Dev.flushNext
  try dsimp only
  repeat' first
    | with_reducible assumption
    | intro _
    | with_reducible apply keep_ite
    | with_reducible apply Dev.cqRefuse_keeps
    | with_reducible apply Dev.cqAdmit_keeps
    | with_reducible apply Dev.setQueue_keeps
    | with_reducible apply Dev.when_keeps
    | with_reducible apply Dev.rqLimit_keeps
    | with_reducible apply Dev.inc_keeps
    | with_reducible apply Dev.complete_keeps
    | simp only [keep_mk]
    | dsimp only
    | split
    | with_reducible refine keep_fst (by with_reducible assumption) ?_

theorem Dev.descriptorStart_keeps {kof : KeptOf} (d : Dev) (q k n : Nat) (desc : BitVec 512) (shards : List (Word × Word)) (ok : Bool) (hd : d.Kept kof) :
    (Dev.descriptorStart d q k n desc shards ok).Kept kof := by
  unfold Dev.descriptorStart
  try dsimp only
  repeat' first
    | with_reducible assumption
    | intro _
    | with_reducible apply keep_ite
    | with_reducible apply Dev.flushNext_keeps
    | with_reducible apply Dev.readRecv_keeps
    | with_reducible apply Dev.startWork_keeps
    | simp only [keep_mk]
    | dsimp only
    | split
    | with_reducible refine keep_fst (by with_reducible assumption) ?_

/-! Machine/QueueCmds.lean -/

theorem Dev.whenFunc_keeps {kof : KeptOf} (d : Dev) (q f : Nat) (g : Dev → Dev) (hd : d.Kept kof) (hg : ∀ d, d.Kept kof → (g d).Kept kof) :
    (Dev.whenFunc d q f g).Kept kof := by
  unfold Dev.whenFunc
  try dsimp only
  repeat' first
    | with_reducible assumption
    | intro _
    | with_reducible apply keep_ite
    | simp only [keep_mk]
    | with_reducible apply hg
    | dsimp only
    | split
    | with_reducible refine keep_fst (by with_reducible assumption) ?_

theorem Dev.producerDoorbell_keeps {kof : KeptOf} (d : Dev) (q k f n : Nat) (w : Word) (ok : Bool) (hd : d.Kept kof) :
    (Dev.producerDoorbell d q k f n w ok).Kept kof := by
  unfold Dev.producerDoorbell
  try dsimp only
  repeat' first
    | with_reducible assumption
    | intro _
    | with_reducible apply keep_ite
    | with_reducible apply Dev.inc_keeps
    | with_reducible apply Dev.queueError_keeps
    | with_reducible apply Dev.setQueue_keeps
    | with_reducible apply Dev.event_keeps
    | with_reducible apply Dev.rqLimit_keeps
    | simp only [keep_mk]
    | dsimp only
    | split
    | with_reducible refine keep_fst (by with_reducible assumption) ?_

theorem Dev.armQueue_keeps {kof : KeptOf} (d : Dev) (q k g : Nat) (x : Queue) (hd : d.Kept kof) :
    (Dev.armQueue d q k g x).Kept kof := by
  unfold Dev.armQueue
  try dsimp only
  repeat' first
    | with_reducible assumption
    | intro _
    | with_reducible apply keep_ite
    | with_reducible apply Dev.setQueue_keeps
    | with_reducible apply Dev.cqNotify_keeps
    | with_reducible apply Dev.eqNotify_keeps
    | simp only [keep_mk]
    | dsimp only
    | split
    | with_reducible refine keep_fst (by with_reducible assumption) ?_

theorem Dev.drainQueue_keeps {kof : KeptOf} (d : Dev) (q k g : Nat) (hd : d.Kept kof) :
    (Dev.drainQueue d q k g).Kept kof := by
  unfold Dev.drainQueue
  try dsimp only
  repeat' first
    | with_reducible assumption
    | intro _
    | with_reducible apply keep_ite
    | with_reducible apply Dev.drainCq_keeps
    | with_reducible apply Dev.writeEvents_keeps
    | simp only [keep_mk]
    | dsimp only
    | split
    | with_reducible refine keep_fst (by with_reducible assumption) ?_

theorem Dev.consumerDoorbell_keeps {kof : KeptOf} (d : Dev) (q k f n : Nat) (w : Word) (ok : Bool) (hd : d.Kept kof) :
    (Dev.consumerDoorbell d q k f n w ok).Kept kof := by
  unfold Dev.consumerDoorbell
  try dsimp only
  repeat' first
    | with_reducible assumption
    | intro _
    | with_reducible apply keep_ite
    | with_reducible apply Dev.inc_keeps
    | with_reducible apply Dev.setQueue_keeps
    | with_reducible apply Dev.event_keeps
    | with_reducible apply Dev.armQueue_keeps
    | with_reducible apply Dev.drainQueue_keeps
    | simp only [keep_mk]
    | dsimp only
    | split
    | with_reducible refine keep_fst (by with_reducible assumption) ?_

theorem Dev.counterWrite_keeps {kof : KeptOf} (d : Dev) (q n : Nat) (v : Word) (hd : d.Kept kof) :
    (Dev.counterWrite d q n v).Kept kof := by
  unfold Dev.counterWrite
  try dsimp only
  repeat' first
    | with_reducible assumption
    | intro _
    | with_reducible apply Dev.setCtr_keeps
    | simp only [keep_mk]
    | dsimp only
    | split
    | with_reducible refine keep_fst (by with_reducible assumption) ?_

theorem Dev.counterAtomic_keeps {kof : KeptOf} (d : Dev) (q n op : Nat) (a b : Word) (hd : d.Kept kof) :
    (Dev.counterAtomic d q n op a b).Kept kof := by
  unfold Dev.counterAtomic
  try dsimp only
  repeat' first
    | with_reducible assumption
    | intro _
    | with_reducible apply Dev.emit_keeps
    | with_reducible apply Dev.ctrAtomic_keeps
    | simp only [keep_mk]
    | dsimp only
    | split
    | with_reducible refine keep_fst (by with_reducible assumption) ?_

theorem Dev.keyrightsWrite_keeps {kof : KeptOf} (d : Dev) (q n : Nat) (v : Word) (hd : d.Kept kof) :
    (Dev.keyrightsWrite d q n v).Kept kof := by
  unfold Dev.keyrightsWrite
  try dsimp only
  repeat' first
    | with_reducible assumption
    | intro _
    | with_reducible apply Dev.wrFields_keeps
    | simp only [keep_mk]
    | dsimp only
    | split
    | with_reducible refine keep_fst (by with_reducible assumption) ?_

theorem Dev.queEnd_keeps {kof : KeptOf} (d : Dev) (q f st : Nat) (hd : d.Kept kof) :
    (Dev.queEnd d q f st).Kept kof := by
  unfold Dev.queEnd
  try dsimp only
  repeat' first
    | with_reducible assumption
    | intro _
    | with_reducible apply Dev.put_keeps
    | with_reducible apply Dev.putB_keeps
    | simp only [keep_mk]
    | dsimp only
    | split
    | with_reducible refine keep_fst (by with_reducible assumption) ?_

theorem Dev.queCmd_keeps {kof : KeptOf} (d : Dev) (q f : Nat) (act : Nat → Nat → Dev → Dev) (hd : d.Kept kof) (hact : ∀ x0 x1 d, d.Kept kof → (act x0 x1 d).Kept kof) :
    (Dev.queCmd d q f act).Kept kof := by
  unfold Dev.queCmd
  try dsimp only
  repeat' first
    | with_reducible assumption
    | intro _
    | with_reducible apply keep_ite
    | simp only [keep_mk]
    | with_reducible apply hact
    | dsimp only
    | split
    | with_reducible refine keep_fst (by with_reducible assumption) ?_

theorem Dev.queueCreate_keeps {kof : KeptOf} (d : Dev) (q f : Nat) (hd : d.Kept kof) :
    (Dev.queueCreate d q f).Kept kof := by
  unfold Dev.queueCreate
  try dsimp only
  repeat' first
    | with_reducible assumption
    | intro _
    | with_reducible apply keep_ite
    | with_reducible apply Dev.queCmd_keeps
    | with_reducible apply Dev.queEnd_keeps
    | with_reducible apply Dev.arrivalDie_keeps
    | with_reducible apply Dev.setQueue_keeps
    | with_reducible apply Dev.when_keeps
    | with_reducible apply Dev.put_keeps
    | simp only [keep_mk]
    | dsimp only
    | split
    | with_reducible refine keep_fst (by with_reducible assumption) ?_

theorem Dev.queuePause_keeps {kof : KeptOf} (d : Dev) (q f : Nat) (hd : d.Kept kof) :
    (Dev.queuePause d q f).Kept kof := by
  unfold Dev.queuePause
  try dsimp only
  repeat' first
    | with_reducible assumption
    | intro _
    | with_reducible apply keep_ite
    | with_reducible apply Dev.queCmd_keeps
    | with_reducible apply Dev.setQueue_keeps
    | with_reducible apply Dev.putB_keeps
    | with_reducible apply Dev.queEnd_keeps
    | simp only [keep_mk]
    | dsimp only
    | split
    | with_reducible refine keep_fst (by with_reducible assumption) ?_

theorem Dev.queuePauseDone_keeps {kof : KeptOf} (d : Dev) (q k g : Nat) (hd : d.Kept kof) :
    (Dev.queuePauseDone d q k g).Kept kof := by
  unfold Dev.queuePauseDone
  try dsimp only
  repeat' first
    | with_reducible assumption
    | intro _
    | with_reducible apply keep_ite
    | with_reducible apply Dev.setQueue_keeps
    | with_reducible apply Dev.queEnd_keeps
    | simp only [keep_mk]
    | dsimp only
    | split
    | with_reducible refine keep_fst (by with_reducible assumption) ?_

theorem Dev.queueResume_keeps {kof : KeptOf} (d : Dev) (q f : Nat) (hd : d.Kept kof) :
    (Dev.queueResume d q f).Kept kof := by
  unfold Dev.queueResume
  try dsimp only
  repeat' first
    | with_reducible assumption
    | intro _
    | with_reducible apply keep_ite
    | with_reducible apply Dev.queCmd_keeps
    | with_reducible apply Dev.setQueue_keeps
    | with_reducible apply Dev.queEnd_keeps
    | with_reducible apply Dev.runFired_keeps
    | simp only [keep_mk]
    | dsimp only
    | split
    | with_reducible refine keep_fst (by with_reducible assumption) ?_

theorem Dev.queueRecover_keeps {kof : KeptOf} (d : Dev) (q f : Nat) (hd : d.Kept kof) :
    (Dev.queueRecover d q f).Kept kof := by
  unfold Dev.queueRecover
  try dsimp only
  repeat' first
    | with_reducible assumption
    | intro _
    | with_reducible apply keep_ite
    | with_reducible apply Dev.queCmd_keeps
    | with_reducible apply Dev.setQueue_keeps
    | with_reducible apply Dev.queEnd_keeps
    | simp only [keep_mk]
    | dsimp only
    | split
    | with_reducible refine keep_fst (by with_reducible assumption) ?_

theorem Dev.queueDestroy_keeps {kof : KeptOf} (d : Dev) (q f : Nat) (hd : d.Kept kof) :
    (Dev.queueDestroy d q f).Kept kof := by
  unfold Dev.queueDestroy
  try dsimp only
  repeat' first
    | with_reducible assumption
    | intro _
    | with_reducible apply keep_ite
    | with_reducible apply Dev.queCmd_keeps
    | with_reducible apply Dev.queEnd_keeps
    | with_reducible apply Dev.freeQueue_keeps
    | with_reducible apply Dev.setQueue_keeps
    | with_reducible apply Dev.putB_keeps
    | with_reducible apply Dev.giveUp_keeps
    | simp only [keep_mk]
    | dsimp only
    | split
    | with_reducible refine keep_fst (by with_reducible assumption) ?_

theorem Dev.settleOwed_keeps {kof : KeptOf} (d : Dev) (q k g : Nat) (x : Queue) (hd : d.Kept kof) :
    (Dev.settleOwed d q k g x).Kept kof := by
  unfold Dev.settleOwed
  try dsimp only
  repeat' first
    | with_reducible assumption
    | intro _
    | with_reducible apply keep_ite
    | with_reducible apply Dev.raise_keeps
    | with_reducible apply Dev.setQueue_keeps
    | with_reducible apply Dev.each_keeps
    | with_reducible apply Dev.freed_keeps
    | with_reducible apply Dev.countCompletion_keeps
    | with_reducible apply Dev.writeCqe_keeps
    | simp only [keep_mk]
    | dsimp only
    | split
    | with_reducible refine keep_fst (by with_reducible assumption) ?_

theorem Dev.flushComplete_keeps {kof : KeptOf} (d : Dev) (q k g : Nat) (hd : d.Kept kof) :
    (Dev.flushComplete d q k g).Kept kof := by
  unfold Dev.flushComplete
  try dsimp only
  repeat' first
    | with_reducible assumption
    | intro _
    | with_reducible apply keep_ite
    | with_reducible apply Dev.settleOwed_keeps
    | with_reducible apply Dev.freeQueue_keeps
    | with_reducible apply Dev.queEnd_keeps
    | simp only [keep_mk]
    | dsimp only
    | split
    | with_reducible refine keep_fst (by with_reducible assumption) ?_

theorem Dev.queueQuery_keeps {kof : KeptOf} (d : Dev) (q f : Nat) (hd : d.Kept kof) :
    (Dev.queueQuery d q f).Kept kof := by
  unfold Dev.queueQuery
  try dsimp only
  repeat' first
    | with_reducible assumption
    | intro _
    | with_reducible apply Dev.queCmd_keeps
    | with_reducible apply Dev.each_keeps
    | with_reducible apply Dev.wr_keeps
    | with_reducible apply Dev.queEnd_keeps
    | simp only [keep_mk]
    | dsimp only
    | split
    | with_reducible refine keep_fst (by with_reducible assumption) ?_

theorem Dev.cqStallTimeout_keeps {kof : KeptOf} (d : Dev) (q g : Nat) (hd : d.Kept kof) :
    (Dev.cqStallTimeout d q g).Kept kof := by
  unfold Dev.cqStallTimeout
  try dsimp only
  repeat' first
    | with_reducible assumption
    | intro _
    | with_reducible apply keep_ite
    | with_reducible apply Dev.setQueue_keeps
    | with_reducible apply Dev.each_keeps
    | with_reducible apply Dev.queueError_keeps
    | simp only [keep_mk]
    | dsimp only
    | split
    | with_reducible refine keep_fst (by with_reducible assumption) ?_

theorem Dev.fnqWrite_keeps {kof : KeptOf} (d : Dev) (q f k : Nat) (v : Word) (hd : d.Kept kof) :
    (Dev.fnqWrite d q f k v).Kept kof := by
  unfold Dev.fnqWrite
  try dsimp only
  repeat' first
    | with_reducible assumption
    | intro _
    | with_reducible apply keep_ite
    | with_reducible apply Dev.put_keeps
    | with_reducible apply Dev.wrFields_keeps
    | simp only [keep_mk]
    | dsimp only
    | split
    | with_reducible refine keep_fst (by with_reducible assumption) ?_

theorem Dev.hostLinkUp_keeps {kof : KeptOf} (d : Dev) (q rate width : Nat) (flit sris : Bool) (hd : d.Kept kof) :
    (Dev.hostLinkUp d q rate width flit sris).Kept kof := by
  unfold Dev.hostLinkUp
  try dsimp only
  repeat' first
    | with_reducible assumption
    | intro _
    | with_reducible apply keep_ite
    | with_reducible apply Dev.putB_keeps
    | with_reducible apply Dev.put_keeps
    | simp only [keep_mk]
    | dsimp only
    | split
    | with_reducible refine keep_fst (by with_reducible assumption) ?_

/-! Machine/RmxCmds.lean -/

theorem Dev.rmxImage_keeps {kof : KeptOf} (d : Dev) (q f : Nat) (l : List Nat) (hd : d.Kept kof) :
    (Dev.rmxImage d q f l).Kept kof := by
  unfold Dev.rmxImage
  try dsimp only
  repeat' first
    | with_reducible assumption
    | intro _
    | with_reducible apply Dev.each_keeps
    | with_reducible apply Dev.wr_keeps
    | simp only [keep_mk]
    | dsimp only
    | split
    | with_reducible refine keep_fst (by with_reducible assumption) ?_

theorem Dev.rmxCmd_keeps {kof : KeptOf} (d : Dev) (q f kind : Nat) (v : Word) (act : Nat → Dev → Dev × Nat) (hd : d.Kept kof) (hact : ∀ x0 d, d.Kept kof → (act x0 d).1.Kept kof) :
    (Dev.rmxCmd d q f kind v act).Kept kof := by
  unfold Dev.rmxCmd
  try dsimp only
  repeat' first
    | with_reducible assumption
    | intro _
    | with_reducible apply keep_ite
    | with_reducible apply Dev.put_keeps
    | simp only [keep_mk]
    | with_reducible apply hact
    | dsimp only
    | split
    | with_reducible refine keep_fst (by with_reducible assumption) ?_

theorem Dev.openConn_keeps {kof : KeptOf} (d : Dev) (q f : Nat) (v : Word) (hd : d.Kept kof) :
    (Dev.openConn d q f v).Kept kof := by
  unfold Dev.openConn
  try dsimp only
  repeat' first
    | with_reducible assumption
    | intro _
    | with_reducible apply keep_ite
    | with_reducible apply Dev.rmxCmd_keeps
    | with_reducible apply Dev.setConn_keeps
    | with_reducible apply Dev.arrivalDie_keeps
    | with_reducible apply Dev.when_keeps
    | with_reducible apply Dev.setKeySlot_keeps
    | simp only [keep_mk]
    | dsimp only
    | split
    | with_reducible refine keep_fst (by with_reducible assumption) ?_

theorem Dev.closeConn_keeps {kof : KeptOf} (d : Dev) (q f : Nat) (v : Word) (hd : d.Kept kof) :
    (Dev.closeConn d q f v).Kept kof := by
  unfold Dev.closeConn
  try dsimp only
  repeat' first
    | with_reducible assumption
    | intro _
    | with_reducible apply keep_ite
    | with_reducible apply Dev.rmxCmd_keeps
    | with_reducible apply Dev.setConn_keeps
    | with_reducible apply Dev.failOps_keeps
    | with_reducible apply Dev.dropMsgs_keeps
    | simp only [keep_mk]
    | dsimp only
    | split
    | with_reducible refine keep_fst (by with_reducible assumption) ?_

theorem Dev.connectionFree_keeps {kof : KeptOf} (d : Dev) (c : Nat) (hd : d.Kept kof) :
    (Dev.connectionFree d c).Kept kof := by
  unfold Dev.connectionFree
  try dsimp only
  repeat' first
    | with_reducible assumption
    | intro _
    | with_reducible apply keep_ite
    | simp only [keep_mk]
    | dsimp only
    | split
    | with_reducible refine keep_fst (by with_reducible assumption) ?_

theorem Dev.queryConn_keeps {kof : KeptOf} (d : Dev) (q f : Nat) (v : Word) (hd : d.Kept kof) :
    (Dev.queryConn d q f v).Kept kof := by
  unfold Dev.queryConn
  try dsimp only
  repeat' first
    | with_reducible assumption
    | intro _
    | with_reducible apply Dev.rmxCmd_keeps
    | with_reducible apply Dev.rmxImage_keeps
    | simp only [keep_mk]
    | dsimp only
    | split
    | with_reducible refine keep_fst (by with_reducible assumption) ?_

theorem Dev.registerRegion_keeps {kof : KeptOf} (d : Dev) (q f : Nat) (v : Word) (hd : d.Kept kof) :
    (Dev.registerRegion d q f v).Kept kof := by
  unfold Dev.registerRegion
  try dsimp only
  repeat' first
    | with_reducible assumption
    | intro _
    | with_reducible apply keep_ite
    | with_reducible apply Dev.rmxCmd_keeps
    | with_reducible apply Dev.setRegion_keeps
    | with_reducible apply Dev.arrivalDie_keeps
    | with_reducible apply Dev.wr_keeps
    | simp only [keep_mk]
    | dsimp only
    | split
    | with_reducible refine keep_fst (by with_reducible assumption) ?_

theorem Dev.revokeRegion_keeps {kof : KeptOf} (d : Dev) (q f : Nat) (v : Word) (hd : d.Kept kof) :
    (Dev.revokeRegion d q f v).Kept kof := by
  unfold Dev.revokeRegion
  try dsimp only
  repeat' first
    | with_reducible assumption
    | intro _
    | with_reducible apply keep_ite
    | with_reducible apply Dev.rmxCmd_keeps
    | with_reducible apply Dev.setRegion_keeps
    | simp only [keep_mk]
    | dsimp only
    | split
    | with_reducible refine keep_fst (by with_reducible assumption) ?_

theorem Dev.queryReg_keeps {kof : KeptOf} (d : Dev) (q f : Nat) (v : Word) (hd : d.Kept kof) :
    (Dev.queryReg d q f v).Kept kof := by
  unfold Dev.queryReg
  try dsimp only
  repeat' first
    | with_reducible assumption
    | intro _
    | with_reducible apply keep_ite
    | with_reducible apply Dev.rmxCmd_keeps
    | with_reducible apply Dev.rmxImage_keeps
    | simp only [keep_mk]
    | dsimp only
    | split
    | with_reducible refine keep_fst (by with_reducible assumption) ?_

theorem Dev.fnresWrite_keeps {kof : KeptOf} (d : Dev) (q f kind : Nat) (v : Word) (hd : d.Kept kof) :
    (Dev.fnresWrite d q f kind v).Kept kof := by
  unfold Dev.fnresWrite
  try dsimp only
  repeat' first
    | with_reducible assumption
    | intro _
    | with_reducible apply keep_ite
    | with_reducible apply Dev.put_keeps
    | with_reducible apply Dev.wrFields_keeps
    | simp only [keep_mk]
    | dsimp only
    | split
    | with_reducible refine keep_fst (by with_reducible assumption) ?_

theorem Dev.fnrndvWrite_keeps {kof : KeptOf} (d : Dev) (q f : Nat) (v : Word) (hd : d.Kept kof) :
    (Dev.fnrndvWrite d q f v).Kept kof := by
  unfold Dev.fnrndvWrite
  try dsimp only
  repeat' first
    | with_reducible assumption
    | intro _
    | with_reducible apply keep_ite
    | with_reducible apply Dev.put_keeps
    | with_reducible apply Dev.wrFields_keeps
    | simp only [keep_mk]
    | dsimp only
    | split
    | with_reducible refine keep_fst (by with_reducible assumption) ?_

theorem Dev.ackDelay_keeps {kof : KeptOf} (d : Dev) (c tc : Nat) (hd : d.Kept kof) :
    (Dev.ackDelay d c tc).Kept kof := by
  unfold Dev.ackDelay
  try dsimp only
  repeat' first
    | with_reducible assumption
    | intro _
    | with_reducible apply Dev.flushAck_keeps
    | simp only [keep_mk]
    | dsimp only
    | split
    | with_reducible refine keep_fst (by with_reducible assumption) ?_

/-! Machine/Reader.lean -/

theorem Dev.snapEnd_keeps {kof : KeptOf} (d : Dev) (hd : d.Kept kof) :
    (Dev.snapEnd d).Kept kof := by
  unfold Dev.snapEnd
  try dsimp only
  repeat' first
    | with_reducible assumption
    | intro _
    | simp only [keep_mk]
    | dsimp only
    | split
    | with_reducible refine keep_fst (by with_reducible assumption) ?_

theorem Dev.readerFail_keeps {kof : KeptOf} (d : Dev) (st : Nat) (hd : d.Kept kof) :
    (Dev.readerFail d st).Kept kof := by
  unfold Dev.readerFail
  try dsimp only
  repeat' first
    | with_reducible assumption
    | intro _
    | with_reducible apply keep_ite
    | with_reducible apply Dev.snapEnd_keeps
    | with_reducible apply Dev.put_keeps
    | with_reducible apply Dev.inc_keeps
    | simp only [keep_mk]
    | dsimp only
    | split
    | with_reducible refine keep_fst (by with_reducible assumption) ?_

theorem Dev.readerLost_keeps {kof : KeptOf} (d : Dev) (hit : Nat → Nat → Bool) (hd : d.Kept kof) :
    (Dev.readerLost d hit).Kept kof := by
  unfold Dev.readerLost
  try dsimp only
  repeat' first
    | with_reducible assumption
    | intro _
    | with_reducible apply keep_ite
    | with_reducible apply Dev.snapEnd_keeps
    | with_reducible apply Dev.put_keeps
    | simp only [keep_mk]
    | dsimp only
    | split
    | with_reducible refine keep_fst (by with_reducible assumption) ?_

theorem Dev.snapDone_keeps {kof : KeptOf} (d : Dev) (s : Snap) (path : Nat) (hd : d.Kept kof) :
    (Dev.snapDone d s path).Kept kof := by
  unfold Dev.snapDone
  try dsimp only
  repeat' first
    | with_reducible assumption
    | intro _
    | with_reducible apply Dev.put_keeps
    | with_reducible apply Dev.inc_keeps
    | with_reducible apply Dev.when_keeps
    | with_reducible apply Dev.msixSend_keeps
    | simp only [keep_mk]
    | dsimp only
    | split
    | with_reducible refine keep_fst (by with_reducible assumption) ?_

theorem Dev.snapLines_keeps {kof : KeptOf} (d : Dev) (hd : d.Kept kof) : ∀ (y0 : Nat),
    (Dev.snapLines d y0).Kept kof := by
  intro y0
  induction y0 generalizing d with
  | zero =>
    unfold Dev.snapLines
    try dsimp only
    repeat' first
      | with_reducible assumption
      | intro _
      | with_reducible apply keep_ite
      | with_reducible apply Dev.snapDone_keeps
      | with_reducible apply Dev.emit_keeps
      | with_reducible apply Dev.translate_keeps
      | with_reducible apply Dev.hostEntry_keeps
      | with_reducible apply Dev.trapInit_keeps
      | with_reducible apply Dev.readerFail_keeps
      | simp only [keep_mk]
      | dsimp only
      | split
      | with_reducible refine keep_fst (by with_reducible assumption) ?_
  | succ n0 ih =>
    unfold Dev.snapLines
    try dsimp only
    repeat' first
      | with_reducible assumption
      | intro _
      | with_reducible apply keep_ite
      | with_reducible apply ih
      | with_reducible apply Dev.snapDone_keeps
      | with_reducible apply Dev.emit_keeps
      | with_reducible apply Dev.translate_keeps
      | with_reducible apply Dev.hostEntry_keeps
      | with_reducible apply Dev.trapInit_keeps
      | with_reducible apply Dev.readerFail_keeps
      | simp only [keep_mk]
      | dsimp only
      | split
      | with_reducible refine keep_fst (by with_reducible assumption) ?_

theorem Dev.snapWrite_keeps {kof : KeptOf} (d : Dev) (ok : Bool) (hd : d.Kept kof) :
    (Dev.snapWrite d ok).Kept kof := by
  unfold Dev.snapWrite
  try dsimp only
  repeat' first
    | with_reducible assumption
    | intro _
    | with_reducible apply keep_ite
    | with_reducible apply Dev.snapEnd_keeps
    | with_reducible apply Dev.inc_keeps
    | with_reducible apply Dev.readerFail_keeps
    | with_reducible apply Dev.snapLines_keeps
    | simp only [keep_mk]
    | dsimp only
    | split
    | with_reducible refine keep_fst (by with_reducible assumption) ?_

theorem Dev.readerResume_keeps {kof : KeptOf} (d : Dev) (hd : d.Kept kof) :
    (Dev.readerResume d).Kept kof := by
  unfold Dev.readerResume
  try dsimp only
  repeat' first
    | with_reducible assumption
    | intro _
    | with_reducible apply keep_ite
    | with_reducible apply Dev.snapLines_keeps
    | simp only [keep_mk]
    | dsimp only
    | split
    | with_reducible refine keep_fst (by with_reducible assumption) ?_

theorem Dev.ringCi_keeps {kof : KeptOf} (d : Dev) (v : Word) (hd : d.Kept kof) :
    (Dev.ringCi d v).Kept kof := by
  unfold Dev.ringCi
  try dsimp only
  repeat' first
    | with_reducible assumption
    | intro _
    | with_reducible apply keep_ite
    | with_reducible apply Dev.put_keeps
    | simp only [keep_mk]
    | dsimp only
    | split
    | with_reducible refine keep_fst (by with_reducible assumption) ?_

theorem Dev.ringCtl_keeps {kof : KeptOf} (d : Dev) (v : Word) (hd : d.Kept kof) :
    (Dev.ringCtl d v).Kept kof := by
  unfold Dev.ringCtl
  try dsimp only
  repeat' first
    | with_reducible assumption
    | intro _
    | with_reducible apply keep_ite
    | with_reducible apply Dev.put_keeps
    | with_reducible apply Dev.wrFields_keeps
    | with_reducible apply Dev.snapEnd_keeps
    | simp only [keep_mk]
    | dsimp only
    | split
    | with_reducible refine keep_fst (by with_reducible assumption) ?_

theorem Dev.pmcSel_keeps {kof : KeptOf} (d : Dev) (q k : Nat) (v : Word) (hd : d.Kept kof) :
    (Dev.pmcSel d q k v).Kept kof := by
  unfold Dev.pmcSel
  try dsimp only
  repeat' first
    | with_reducible assumption
    | intro _
    | with_reducible apply keep_ite
    | with_reducible apply Dev.put_keeps
    | with_reducible apply Dev.wrFields_keeps
    | simp only [keep_mk]
    | dsimp only
    | split
    | with_reducible refine keep_fst (by with_reducible assumption) ?_

theorem Dev.pmcCntWrite_keeps {kof : KeptOf} (d : Dev) (q k : Nat) (v : Word) (hd : d.Kept kof) :
    (Dev.pmcCntWrite d q k v).Kept kof := by
  unfold Dev.pmcCntWrite
  try dsimp only
  repeat' first
    | with_reducible assumption
    | intro _
    | with_reducible apply Dev.wrFields_keeps
    | simp only [keep_mk]
    | dsimp only
    | split
    | with_reducible refine keep_fst (by with_reducible assumption) ?_

theorem Dev.pmcCntRead_keeps {kof : KeptOf} (d : Dev) (q k : Nat) (hd : d.Kept kof) :
    (Dev.pmcCntRead d q k).Kept kof := by
  unfold Dev.pmcCntRead
  try dsimp only
  repeat' first
    | with_reducible assumption
    | intro _
    | with_reducible apply keep_ite
    | with_reducible apply Dev.put_keeps
    | simp only [keep_mk]
    | dsimp only
    | split
    | with_reducible refine keep_fst (by with_reducible assumption) ?_

theorem Dev.pmcWraps_keeps {kof : KeptOf} (d : Dev) (q k : Nat) (hd : d.Kept kof) :
    (Dev.pmcWraps d q k).Kept kof := by
  unfold Dev.pmcWraps
  try dsimp only
  repeat' first
    | with_reducible assumption
    | intro _
    | with_reducible apply keep_ite
    | with_reducible apply Dev.pmcAdd_keeps
    | simp only [keep_mk]
    | dsimp only
    | split
    | with_reducible refine keep_fst (by with_reducible assumption) ?_

theorem Dev.pmcGo_keeps {kof : KeptOf} (d : Dev) (hd : d.Kept kof) :
    (Dev.pmcGo d).Kept kof := by
  unfold Dev.pmcGo
  try dsimp only
  repeat' first
    | with_reducible assumption
    | intro _
    | with_reducible apply Dev.snapTrigger_keeps
    | simp only [keep_mk]
    | dsimp only
    | split
    | with_reducible refine keep_fst (by with_reducible assumption) ?_

theorem Dev.pmcPeriod_keeps {kof : KeptOf} (d : Dev) (hd : d.Kept kof) :
    (Dev.pmcPeriod d).Kept kof := by
  unfold Dev.pmcPeriod
  try dsimp only
  repeat' first
    | with_reducible assumption
    | intro _
    | with_reducible apply keep_ite
    | with_reducible apply Dev.snapTrigger_keeps
    | simp only [keep_mk]
    | dsimp only
    | split
    | with_reducible refine keep_fst (by with_reducible assumption) ?_

/-! Machine/Handler.lean -/

theorem Dev.opResume_keeps {kof : KeptOf} (d : Dev) (i : Nat) (hd : d.Kept kof) :
    (Dev.opResume d i).Kept kof := by
  unfold Dev.opResume
  try dsimp only
  repeat' first
    | with_reducible assumption
    | intro _
    | with_reducible apply keep_ite
    | with_reducible apply Dev.resumeTrecv_keeps
    | with_reducible apply Dev.castNext_keeps
    | with_reducible apply Dev.feedAll_keeps
    | with_reducible apply Dev.setOp_keeps
    | with_reducible apply Dev.prep_keeps
    | simp only [keep_mk]
    | dsimp only
    | split
    | with_reducible refine keep_fst (by with_reducible assumption) ?_

theorem Dev.unpark_keeps {kof : KeptOf} (d : Dev) (q n : Nat) (hd : d.Kept kof) :
    (Dev.unpark d q n).Kept kof := by
  unfold Dev.unpark
  try dsimp only
  repeat' first
    | with_reducible assumption
    | intro _
    | with_reducible apply Dev.when_keeps
    | with_reducible apply Dev.regionOut_keeps
    | simp only [keep_mk]
    | dsimp only
    | split
    | with_reducible refine keep_fst (by with_reducible assumption) ?_

theorem Dev.targetAgain_keeps {kof : KeptOf} (d : Dev) (q : Nat) (k : Packet) (n : Nat) (hd : d.Kept kof) :
    (Dev.targetAgain d q k n).Kept kof := by
  unfold Dev.targetAgain
  try dsimp only
  repeat' first
    | with_reducible assumption
    | intro _
    | with_reducible apply keep_ite
    | with_reducible apply Dev.mtcRequest_keeps
    | with_reducible apply Dev.unpark_keeps
    | with_reducible apply Dev.rmxRequest_keeps
    | simp only [keep_mk]
    | dsimp only
    | split
    | with_reducible refine keep_fst (by with_reducible assumption) ?_

theorem Dev.contRun_keeps {kof : KeptOf} (d : Dev) (q : Nat) (hd : d.Kept kof) : ∀ (y0 : Cont),
    (Dev.contRun d q y0).Kept kof := by
  intro y0
  unfold Dev.contRun
  try dsimp only
  repeat' first
    | with_reducible assumption
    | intro _
    | with_reducible apply keep_ite
    | with_reducible apply Dev.modQueue_keeps
    | with_reducible apply Dev.drainQueue_keeps
    | with_reducible apply Dev.opResume_keeps
    | with_reducible apply Dev.retransmit_keeps
    | with_reducible apply Dev.readTable_keeps
    | with_reducible apply Dev.targetAgain_keeps
    | with_reducible apply Dev.memberIn_keeps
    | with_reducible apply Dev.readerResume_keeps
    | simp only [keep_mk]
    | dsimp only
    | split
    | with_reducible refine keep_fst (by with_reducible assumption) ?_

theorem Dev.contFail_keeps {kof : KeptOf} (d : Dev) (q : Nat) (st : Nat) (hd : d.Kept kof) : ∀ (y0 : Cont),
    (Dev.contFail d q st y0).Kept kof := by
  intro y0
  unfold Dev.contFail
  try dsimp only
  repeat' first
    | with_reducible assumption
    | intro _
    | with_reducible apply keep_ite
    | with_reducible apply Dev.setQueue_keeps
    | with_reducible apply Dev.when_keeps
    | with_reducible apply Dev.queueError_keeps
    | with_reducible apply Dev.modQueue_keeps
    | with_reducible apply Dev.inc_keeps
    | with_reducible apply Dev.memFail_keeps
    | with_reducible apply Dev.failOp_keeps
    | with_reducible apply Dev.resolveReq_keeps
    | with_reducible apply Dev.endStart_keeps
    | with_reducible apply Dev.unpark_keeps
    | with_reducible apply Dev.refuse_keeps
    | with_reducible apply Dev.readerFail_keeps
    | simp only [keep_mk]
    | dsimp only
    | split
    | with_reducible refine keep_fst (by with_reducible assumption) ?_

theorem Dev.slotFail_keeps {kof : KeptOf} (d : Dev) (q slot st : Nat) (hd : d.Kept kof) :
    (Dev.slotFail d q slot st).Kept kof := by
  unfold Dev.slotFail
  try dsimp only
  repeat' first
    | with_reducible assumption
    | intro _
    | with_reducible apply Dev.freeTrap_keeps
    | with_reducible apply Dev.contFail_keeps
    | simp only [keep_mk]
    | dsimp only
    | split
    | with_reducible refine keep_fst (by with_reducible assumption) ?_

theorem Dev.slotRetry_keeps {kof : KeptOf} (d : Dev) (q slot : Nat) (hd : d.Kept kof) :
    (Dev.slotRetry d q slot).Kept kof := by
  unfold Dev.slotRetry
  try dsimp only
  repeat' first
    | with_reducible assumption
    | intro _
    | with_reducible apply Dev.translate_keeps
    | with_reducible apply Dev.freeTrap_keeps
    | with_reducible apply Dev.contRun_keeps
    | with_reducible apply Dev.trapInit_keeps
    | with_reducible apply Dev.slotFail_keeps
    | simp only [keep_mk]
    | dsimp only
    | split
    | with_reducible refine keep_fst (by with_reducible assumption) ?_

theorem Dev.slotAbsent_keeps {kof : KeptOf} (d : Dev) (q slot hint : Nat) (hd : d.Kept kof) :
    (Dev.slotAbsent d q slot hint).Kept kof := by
  unfold Dev.slotAbsent
  try dsimp only
  repeat' first
    | with_reducible assumption
    | intro _
    | with_reducible apply keep_ite
    | with_reducible apply Dev.freeTrap_keeps
    | with_reducible apply Dev.unpark_keeps
    | with_reducible apply Dev.notReady_keeps
    | with_reducible apply Dev.inc_keeps
    | with_reducible apply Dev.put_keeps
    | with_reducible apply Dev.setPend_keeps
    | simp only [keep_mk]
    | dsimp only
    | split
    | with_reducible refine keep_fst (by with_reducible assumption) ?_

theorem Dev.resolveTrap_keeps {kof : KeptOf} (d : Dev) (q id : Nat) (act : Nat → Dev → Dev) (hd : d.Kept kof) (hact : ∀ x0 d, d.Kept kof → (act x0 d).Kept kof) :
    (Dev.resolveTrap d q id act).Kept kof := by
  unfold Dev.resolveTrap
  try dsimp only
  repeat' first
    | with_reducible assumption
    | intro _
    | with_reducible apply keep_ite
    | with_reducible apply Dev.inc_keeps
    | simp only [keep_mk]
    | with_reducible apply hact
    | simp only [id_eq]
    | dsimp only
    | split
    | with_reducible refine keep_fst (by with_reducible assumption) ?_

theorem Dev.twaitTimeout_keeps {kof : KeptOf} (d : Dev) (q slot : Nat) (hd : d.Kept kof) :
    (Dev.twaitTimeout d q slot).Kept kof := by
  unfold Dev.twaitTimeout
  try dsimp only
  repeat' first
    | with_reducible assumption
    | intro _
    | with_reducible apply keep_ite
    | with_reducible apply Dev.slotAbsent_keeps
    | simp only [keep_mk]
    | dsimp only
    | split
    | with_reducible refine keep_fst (by with_reducible assumption) ?_

theorem Dev.trapHintRetry_keeps {kof : KeptOf} (d : Dev) (q slot : Nat) (hd : d.Kept kof) :
    (Dev.trapHintRetry d q slot).Kept kof := by
  unfold Dev.trapHintRetry
  try dsimp only
  repeat' first
    | with_reducible assumption
    | intro _
    | with_reducible apply keep_ite
    | with_reducible apply Dev.slotRetry_keeps
    | simp only [keep_mk]
    | dsimp only
    | split
    | with_reducible refine keep_fst (by with_reducible assumption) ?_

theorem Dev.pageFail_keeps {kof : KeptOf} (d : Dev) (q space page : Nat) (hd : d.Kept kof) :
    (Dev.pageFail d q space page).Kept kof := by
  unfold Dev.pageFail
  try dsimp only
  repeat' first
    | with_reducible assumption
    | intro _
    | with_reducible apply Dev.each_keeps
    | with_reducible apply Dev.slotFail_keeps
    | simp only [keep_mk]
    | dsimp only
    | split
    | with_reducible refine keep_fst (by with_reducible assumption) ?_

theorem Dev.pageRequest_keeps {kof : KeptOf} (d : Dev) (q : Nat) (t : Trap) (hd : d.Kept kof) :
    (Dev.pageRequest d q t).Kept kof := by
  unfold Dev.pageRequest
  try dsimp only
  repeat' first
    | with_reducible assumption
    | intro _
    | with_reducible apply keep_ite
    | with_reducible apply Dev.pageFail_keeps
    | with_reducible apply Dev.arrivalDie_keeps
    | with_reducible apply Dev.put_keeps
    | with_reducible apply Dev.inc_keeps
    | with_reducible apply Dev.raiseEvent_keeps
    | with_reducible apply Dev.each_keeps
    | with_reducible apply Dev.slotAbsent_keeps
    | simp only [keep_mk]
    | simp only [id_eq]
    | dsimp only
    | split
    | with_reducible refine keep_fst (by with_reducible assumption) ?_

theorem Dev.walkFail_keeps {kof : KeptOf} (d : Dev) (q slot : Nat) (hd : d.Kept kof) :
    (Dev.walkFail d q slot).Kept kof := by
  unfold Dev.walkFail
  try dsimp only
  repeat' first
    | with_reducible assumption
    | intro _
    | with_reducible apply Dev.inc_keeps
    | with_reducible apply Dev.slotFail_keeps
    | simp only [keep_mk]
    | dsimp only
    | split
    | with_reducible refine keep_fst (by with_reducible assumption) ?_

theorem Dev.walkRead_keeps {kof : KeptOf} (d : Dev) (q slot level table space addr : Nat) (hd : d.Kept kof) :
    (Dev.walkRead d q slot level table space addr).Kept kof := by
  unfold Dev.walkRead
  try dsimp only
  repeat' first
    | with_reducible assumption
    | intro _
    | with_reducible apply keep_ite
    | with_reducible apply Dev.walkFail_keeps
    | with_reducible apply Dev.put_keeps
    | with_reducible apply Dev.inc_keeps
    | with_reducible apply Dev.hostGet_keeps
    | simp only [keep_mk]
    | dsimp only
    | split
    | with_reducible refine keep_fst (by with_reducible assumption) ?_

theorem Dev.walkStart_keeps {kof : KeptOf} (d : Dev) (q slot : Nat) (t : Trap) (hd : d.Kept kof) :
    (Dev.walkStart d q slot t).Kept kof := by
  unfold Dev.walkStart
  try dsimp only
  repeat' first
    | with_reducible assumption
    | intro _
    | with_reducible apply Dev.walkRead_keeps
    | simp only [keep_mk]
    | dsimp only
    | split
    | with_reducible refine keep_fst (by with_reducible assumption) ?_

theorem Dev.walkStep_keeps {kof : KeptOf} (d : Dev) (q slot level a : Nat) (t : Trap) (ok : Bool) (x : Nat) (hd : d.Kept kof) :
    (Dev.walkStep d q slot level a t ok x).Kept kof := by
  unfold Dev.walkStep
  try dsimp only
  repeat' first
    | with_reducible assumption
    | intro _
    | with_reducible apply keep_ite
    | with_reducible apply Dev.inc_keeps
    | with_reducible apply Dev.walkFail_keeps
    | with_reducible apply Dev.pageRequest_keeps
    | with_reducible apply Dev.loadEnt_keeps
    | with_reducible apply Dev.slotRetry_keeps
    | with_reducible apply Dev.walkRead_keeps
    | simp only [keep_mk]
    | dsimp only
    | split
    | with_reducible refine keep_fst (by with_reducible assumption) ?_

theorem Dev.walkReadDone_keeps {kof : KeptOf} (d : Dev) (tag : Nat) (ok : Bool) (x : Word) (hd : d.Kept kof) :
    (Dev.walkReadDone d tag ok x).Kept kof := by
  unfold Dev.walkReadDone
  try dsimp only
  repeat' first
    | with_reducible assumption
    | intro _
    | with_reducible apply Dev.takeRead_keeps
    | with_reducible apply Dev.walkStep_keeps
    | simp only [keep_mk]
    | dsimp only
    | split
    | with_reducible refine keep_fst (by with_reducible assumption) ?_

theorem Dev.handlerMiss_keeps {kof : KeptOf} (d : Dev) (q slot : Nat) (hd : d.Kept kof) :
    (Dev.handlerMiss d q slot).Kept kof := by
  unfold Dev.handlerMiss
  try dsimp only
  repeat' first
    | with_reducible assumption
    | intro _
    | with_reducible apply keep_ite
    | with_reducible apply Dev.slotFail_keeps
    | with_reducible apply Dev.loadEnt_keeps
    | with_reducible apply Dev.slotRetry_keeps
    | with_reducible apply Dev.walkStart_keeps
    | with_reducible apply Dev.pageRequest_keeps
    | simp only [keep_mk]
    | dsimp only
    | split
    | with_reducible refine keep_fst (by with_reducible assumption) ?_

theorem Dev.handlerMark_keeps {kof : KeptOf} (d : Dev) (q slot : Nat) (found : Word) (hd : d.Kept kof) :
    (Dev.handlerMark d q slot found).Kept kof := by
  unfold Dev.handlerMark
  try dsimp only
  repeat' first
    | with_reducible assumption
    | intro _
    | with_reducible apply keep_ite
    | with_reducible apply Dev.slotFail_keeps
    | with_reducible apply Dev.slotRetry_keeps
    | with_reducible apply Dev.loadEnt_keeps
    | with_reducible apply Dev.setBacking_keeps
    | with_reducible apply Dev.emit_keeps
    | with_reducible apply Dev.removeEnts_keeps
    | with_reducible apply Dev.walkStart_keeps
    | simp only [keep_mk]
    | dsimp only
    | split
    | with_reducible refine keep_fst (by with_reducible assumption) ?_

theorem Dev.xltLoad_keeps {kof : KeptOf} (d : Dev) (q : Nat) (hd : d.Kept kof) :
    (Dev.xltLoad d q).Kept kof := by
  unfold Dev.xltLoad
  try dsimp only
  repeat' first
    | with_reducible assumption
    | intro _
    | with_reducible apply keep_ite
    | with_reducible apply Dev.put_keeps
    | with_reducible apply Dev.loadEnt_keeps
    | simp only [keep_mk]
    | dsimp only
    | split
    | with_reducible refine keep_fst (by with_reducible assumption) ?_

theorem Dev.xltRemove_keeps {kof : KeptOf} (d : Dev) (q : Nat) (hd : d.Kept kof) :
    (Dev.xltRemove d q).Kept kof := by
  unfold Dev.xltRemove
  try dsimp only
  repeat' first
    | with_reducible assumption
    | intro _
    | with_reducible apply Dev.removeEnts_keeps
    | with_reducible apply Dev.put_keeps
    | simp only [keep_mk]
    | dsimp only
    | split
    | with_reducible refine keep_fst (by with_reducible assumption) ?_

theorem Dev.xltEnd_keeps {kof : KeptOf} (d : Dev) (q f st : Nat) (hd : d.Kept kof) :
    (Dev.xltEnd d q f st).Kept kof := by
  unfold Dev.xltEnd
  try dsimp only
  repeat' first
    | with_reducible assumption
    | intro _
    | with_reducible apply Dev.put_keeps
    | with_reducible apply Dev.putB_keeps
    | simp only [keep_mk]
    | dsimp only
    | split
    | with_reducible refine keep_fst (by with_reducible assumption) ?_

theorem Dev.xltCmd_keeps {kof : KeptOf} (d : Dev) (q f : Nat) (act : Dev → Dev) (hd : d.Kept kof) (hact : ∀ d, d.Kept kof → (act d).Kept kof) :
    (Dev.xltCmd d q f act).Kept kof := by
  unfold Dev.xltCmd
  try dsimp only
  repeat' first
    | with_reducible assumption
    | intro _
    | with_reducible apply keep_ite
    | with_reducible apply Dev.xltEnd_keeps
    | simp only [keep_mk]
    | with_reducible apply hact
    | dsimp only
    | split
    | with_reducible refine keep_fst (by with_reducible assumption) ?_

theorem Dev.xltMap_keeps {kof : KeptOf} (d : Dev) (q f : Nat) (hd : d.Kept kof) :
    (Dev.xltMap d q f).Kept kof := by
  unfold Dev.xltMap
  try dsimp only
  repeat' first
    | with_reducible assumption
    | intro _
    | with_reducible apply keep_ite
    | with_reducible apply Dev.xltCmd_keeps
    | with_reducible apply Dev.xltEnd_keeps
    | with_reducible apply Dev.setBacking_keeps
    | with_reducible apply Dev.clearFailed_keeps
    | simp only [keep_mk]
    | dsimp only
    | split
    | with_reducible refine keep_fst (by with_reducible assumption) ?_

theorem Dev.invalStart_keeps {kof : KeptOf} (d : Dev) (q f space lo hi : Nat) (p : XEnt → Bool) (hd : d.Kept kof) :
    (Dev.invalStart d q f space lo hi p).Kept kof := by
  unfold Dev.invalStart
  try dsimp only
  repeat' first
    | with_reducible assumption
    | intro _
    | with_reducible apply Dev.removeEnts_keeps
    | with_reducible apply Dev.clearFailed_keeps
    | with_reducible apply Dev.put_keeps
    | with_reducible apply Dev.putB_keeps
    | simp only [keep_mk]
    | dsimp only
    | split
    | with_reducible refine keep_fst (by with_reducible assumption) ?_

theorem Dev.xltUnmap_keeps {kof : KeptOf} (d : Dev) (q f : Nat) (hd : d.Kept kof) :
    (Dev.xltUnmap d q f).Kept kof := by
  unfold Dev.xltUnmap
  try dsimp only
  repeat' first
    | with_reducible assumption
    | intro _
    | with_reducible apply keep_ite
    | with_reducible apply Dev.xltCmd_keeps
    | with_reducible apply Dev.xltEnd_keeps
    | with_reducible apply Dev.setBacking_keeps
    | with_reducible apply Dev.invalStart_keeps
    | simp only [keep_mk]
    | with_reducible apply keep_foldl
    | dsimp only
    | split
    | with_reducible refine keep_fst (by with_reducible assumption) ?_

theorem Dev.xltInval_keeps {kof : KeptOf} (d : Dev) (q f : Nat) (hd : d.Kept kof) :
    (Dev.xltInval d q f).Kept kof := by
  unfold Dev.xltInval
  try dsimp only
  repeat' first
    | with_reducible assumption
    | intro _
    | with_reducible apply keep_ite
    | with_reducible apply Dev.xltCmd_keeps
    | with_reducible apply Dev.xltEnd_keeps
    | with_reducible apply Dev.invalStart_keeps
    | simp only [keep_mk]
    | dsimp only
    | split
    | with_reducible refine keep_fst (by with_reducible assumption) ?_

theorem Dev.xltInvalSpace_keeps {kof : KeptOf} (d : Dev) (q f : Nat) (hd : d.Kept kof) :
    (Dev.xltInvalSpace d q f).Kept kof := by
  unfold Dev.xltInvalSpace
  try dsimp only
  repeat' first
    | with_reducible assumption
    | intro _
    | with_reducible apply keep_ite
    | with_reducible apply Dev.xltCmd_keeps
    | with_reducible apply Dev.xltEnd_keeps
    | with_reducible apply Dev.invalStart_keeps
    | simp only [keep_mk]
    | dsimp only
    | split
    | with_reducible refine keep_fst (by with_reducible assumption) ?_

theorem Dev.retryRings_keeps {kof : KeptOf} (d : Dev) (q space lo hi : Nat) (hd : d.Kept kof) :
    (Dev.retryRings d q space lo hi).Kept kof := by
  unfold Dev.retryRings
  try dsimp only
  repeat' first
    | with_reducible assumption
    | intro _
    | with_reducible apply Dev.each_keeps
    | with_reducible apply Dev.modQueue_keeps
    | with_reducible apply Dev.drainQueue_keeps
    | simp only [keep_mk]
    | dsimp only
    | split
    | with_reducible refine keep_fst (by with_reducible assumption) ?_

theorem Dev.invalComplete_keeps {kof : KeptOf} (d : Dev) (q f : Nat) (hd : d.Kept kof) :
    (Dev.invalComplete d q f).Kept kof := by
  unfold Dev.invalComplete
  try dsimp only
  repeat' first
    | with_reducible assumption
    | intro _
    | with_reducible apply keep_ite
    | with_reducible apply Dev.removeEnts_keeps
    | with_reducible apply Dev.xltEnd_keeps
    | with_reducible apply Dev.retryRings_keeps
    | simp only [keep_mk]
    | dsimp only
    | split
    | with_reducible refine keep_fst (by with_reducible assumption) ?_

theorem Dev.pgResp_keeps {kof : KeptOf} (d : Dev) (q f : Nat) (hd : d.Kept kof) :
    (Dev.pgResp d q f).Kept kof := by
  unfold Dev.pgResp
  try dsimp only
  repeat' first
    | with_reducible assumption
    | intro _
    | with_reducible apply keep_ite
    | with_reducible apply Dev.xltCmd_keeps
    | with_reducible apply Dev.xltEnd_keeps
    | with_reducible apply Dev.pageFail_keeps
    | with_reducible apply Dev.each_keeps
    | with_reducible apply Dev.handlerMiss_keeps
    | simp only [keep_mk]
    | dsimp only
    | split
    | with_reducible refine keep_fst (by with_reducible assumption) ?_

theorem Dev.pageRequestTimeout_keeps {kof : KeptOf} (d : Dev) (q id : Nat) (hd : d.Kept kof) :
    (Dev.pageRequestTimeout d q id).Kept kof := by
  unfold Dev.pageRequestTimeout
  try dsimp only
  repeat' first
    | with_reducible assumption
    | intro _
    | with_reducible apply Dev.pageFail_keeps
    | simp only [keep_mk]
    | simp only [id_eq]
    | dsimp only
    | split
    | with_reducible refine keep_fst (by with_reducible assumption) ?_

theorem Dev.spaceWrite_keeps {kof : KeptOf} (d : Dev) (q s : Nat) (root : Bool) (v : Word) (hd : d.Kept kof) :
    (Dev.spaceWrite d q s root v).Kept kof := by
  unfold Dev.spaceWrite
  try dsimp only
  repeat' first
    | with_reducible assumption
    | intro _
    | with_reducible apply keep_ite
    | with_reducible apply Dev.put_keeps
    | with_reducible apply Dev.wrFields_keeps
    | simp only [keep_mk]
    | dsimp only
    | split
    | with_reducible refine keep_fst (by with_reducible assumption) ?_

theorem Dev.initiatorRead_keeps {kof : KeptOf} (d : Dev) (tag : Nat) (ok : Bool) (data : List Byte) (hd : d.Kept kof) :
    (Dev.initiatorRead d tag ok data).Kept kof := by
  unfold Dev.initiatorRead
  try dsimp only
  repeat' first
    | with_reducible assumption
    | intro _
    | with_reducible apply Dev.takeRead_keeps
    | with_reducible apply Dev.when_keeps
    | with_reducible apply Dev.inc_keeps
    | with_reducible apply Dev.sourceRead_keeps
    | with_reducible apply Dev.contribDone_keeps
    | with_reducible apply Dev.castDone_keeps
    | with_reducible apply Dev.tableDone_keeps
    | simp only [keep_mk]
    | dsimp only
    | split
    | with_reducible refine keep_fst (by with_reducible assumption) ?_

theorem Dev.uxCopyComplete_keeps {kof : KeptOf} (d : Dev) (tag : Nat) (ok : Bool) (data : List Byte) (hd : d.Kept kof) :
    (Dev.uxCopyComplete d tag ok data).Kept kof := by
  unfold Dev.uxCopyComplete
  try dsimp only
  repeat' first
    | with_reducible assumption
    | intro _
    | with_reducible apply Dev.takeRead_keeps
    | with_reducible apply Dev.copyDone_keeps
    | simp only [keep_mk]
    | dsimp only
    | split
    | with_reducible refine keep_fst (by with_reducible assumption) ?_

theorem Dev.dropTrap_keeps {kof : KeptOf} (d : Dev) (q slot : Nat) (hd : d.Kept kof) :
    (Dev.dropTrap d q slot).Kept kof := by
  unfold Dev.dropTrap
  try dsimp only
  repeat' first
    | with_reducible assumption
    | intro _
    | with_reducible apply Dev.freeTrap_keeps
    | with_reducible apply Dev.unpark_keeps
    | simp only [keep_mk]
    | dsimp only
    | split
    | with_reducible refine keep_fst (by with_reducible assumption) ?_

theorem Dev.funcReset_keeps {kof : KeptOf} (d : Dev) (q f : Nat) (hd : d.Kept kof) :
    (Dev.funcReset d q f).Kept kof := by
  unfold Dev.funcReset
  try dsimp only
  repeat' first
    | with_reducible assumption
    | intro _
    | with_reducible apply keep_ite
    | with_reducible apply Dev.each_keeps
    | with_reducible apply Dev.dropTrap_keeps
    | with_reducible apply Dev.removeEnts_keeps
    | with_reducible apply Dev.setBacking_keeps
    | with_reducible apply Dev.revokeRndv_keeps
    | with_reducible apply Dev.revokeEnds_keeps
    | with_reducible apply Dev.freeKey_keeps
    | with_reducible apply Dev.put_keeps
    | with_reducible apply Dev.msixClear_keeps
    | with_reducible apply Dev.inc_keeps
    | with_reducible apply Dev.readerLost_keeps
    | simp only [keep_mk]
    | dsimp only
    | split
    | with_reducible refine keep_fst (by with_reducible assumption) ?_

end Sys2Proof.Machine
end

