-- ==== Sys2Proof/Laws/KeepLink.lean ====
section
/-! SUPPORT. Every operation keeps the tables canonical, the fuses and the time: lanes, links, groups, routing. -/

set_option Elab.async false

namespace Sys2Proof.Machine

/-! Machine/Kiln.lean -/

theorem Dev.sramZero_keeps {kof : KeptOf} (d : Dev) (q c : Nat) (come : Nat → Bool) (hd : d.Kept kof) :
    (Dev.sramZero d q c come).Kept kof := by
  unfold Dev.sramZero
  refine keep_win d _ _ hd ?_ ?_ ?_ ?_ rfl
  · exact keep_route d hd
  · exact keep_pset d hd
  · exact Tab.wf_filter _ _ _ (keep_group d hd)
  · exact keep_gate d hd

theorem Dev.tablesZero_keeps {kof : KeptOf} (d : Dev) (q x : Nat) (come : Nat → Bool) (hd : d.Kept kof) :
    (Dev.tablesZero d q x come).Kept kof := by
  unfold Dev.tablesZero
  refine keep_ite ?_ ?_
  · refine keep_win d _ _ hd ?_ ?_ ?_ ?_ rfl
    · exact Tab.wf_filter _ _ _ (keep_route d hd)
    · exact Tab.wf_filter _ _ _ (keep_pset d hd)
    · exact keep_group d hd
    · exact keep_gate d hd
  · simpa only [keep_mk] using hd

theorem Dev.kilnAbort_keeps {kof : KeptOf} (d : Dev) (q : Nat) (hit : Nat → Nat → Bool) (hd : d.Kept kof) :
    (Dev.kilnAbort d q hit).Kept kof := by
  unfold Dev.kilnAbort
  try dsimp only
  repeat' first
    | with_reducible assumption
    | intro _
    | with_reducible apply keep_ite
    | with_reducible apply Dev.put_keeps
    | with_reducible apply Dev.freed_keeps
    | with_reducible apply Dev.inc_keeps
    | with_reducible apply Dev.incBy_keeps
    | with_reducible apply Dev.sramZero_keeps
    | with_reducible apply Dev.tablesZero_keeps
    | simp only [keep_mk]
    | dsimp only
    | split
    | with_reducible refine keep_fst (by with_reducible assumption) ?_

theorem Dev.kilnPort_keeps {kof : KeptOf} (d : Dev) (p : Nat) (hd : d.Kept kof) :
    (Dev.kilnPort d p).Kept kof := by
  unfold Dev.kilnPort
  try dsimp only
  repeat' first
    | with_reducible assumption
    | intro _
    | with_reducible apply Dev.kilnAbort_keeps
    | simp only [keep_mk]
    | dsimp only
    | split
    | with_reducible refine keep_fst (by with_reducible assumption) ?_

/-! Machine/LinkOps.lean -/

theorem Dev.sendLinkctl_keeps {kof : KeptOf} (d : Dev) (p sub : Nat) (b : Body) (hd : d.Kept kof) :
    (Dev.sendLinkctl d p sub b).Kept kof := by
  unfold Dev.sendLinkctl
  try dsimp only
  repeat' first
    | with_reducible assumption
    | intro _
    | with_reducible apply Dev.modLink_keeps
    | simp only [keep_mk]
    | dsimp only
    | split
    | with_reducible refine keep_fst (by with_reducible assumption) ?_

theorem Dev.sendLinkctlFirst_keeps {kof : KeptOf} (d : Dev) (p sub : Nat) (b : Body) (hd : d.Kept kof) :
    (Dev.sendLinkctlFirst d p sub b).Kept kof := by
  unfold Dev.sendLinkctlFirst
  try dsimp only
  repeat' first
    | with_reducible assumption
    | intro _
    | with_reducible apply Dev.modLink_keeps
    | simp only [keep_mk]
    | dsimp only
    | split
    | with_reducible refine keep_fst (by with_reducible assumption) ?_

theorem Dev.sendBypass_keeps {kof : KeptOf} (d : Dev) (p code : Nat) (b : Body) (hd : d.Kept kof) :
    (Dev.sendBypass d p code b).Kept kof := by
  unfold Dev.sendBypass
  try dsimp only
  repeat' first
    | with_reducible assumption
    | intro _
    | with_reducible apply Dev.modLink_keeps
    | simp only [keep_mk]
    | dsimp only
    | split
    | with_reducible refine keep_fst (by with_reducible assumption) ?_

theorem Dev.dropOldDune_keeps {kof : KeptOf} (d : Dev) (p : Nat) (hd : d.Kept kof) :
    (Dev.dropOldDune d p).Kept kof := by
  unfold Dev.dropOldDune
  try dsimp only
  repeat' first
    | with_reducible assumption
    | intro _
    | with_reducible apply Dev.when_keeps
    | with_reducible apply Dev.modLink_keeps
    | simp only [keep_mk]
    | dsimp only
    | split
    | with_reducible refine keep_fst (by with_reducible assumption) ?_

theorem Dev.flitDone_keeps {kof : KeptOf} (d : Dev) (i n : Nat) (hd : d.Kept kof) :
    (Dev.flitDone d i n).Kept kof := by
  unfold Dev.flitDone
  try dsimp only
  repeat' first
    | with_reducible assumption
    | intro _
    | with_reducible apply keep_ite
    | with_reducible apply Dev.freeLoc_keeps
    | with_reducible apply Dev.complete_keeps
    | with_reducible apply Dev.delPkt_keeps
    | with_reducible apply Dev.setPkt_keeps
    | simp only [keep_mk]
    | dsimp only
    | split
    | with_reducible refine keep_fst (by with_reducible assumption) ?_

theorem Dev.ackFlits_keeps {kof : KeptOf} (d : Dev) (p n : Nat) (hd : d.Kept kof) :
    (Dev.ackFlits d p n).Kept kof := by
  unfold Dev.ackFlits
  try dsimp only
  repeat' first
    | with_reducible assumption
    | intro _
    | with_reducible apply Dev.setLink_keeps
    | with_reducible apply Dev.when_keeps
    | with_reducible apply Dev.put_keeps
    | with_reducible apply Dev.each_keeps
    | with_reducible apply Dev.flitDone_keeps
    | simp only [keep_mk]
    | dsimp only
    | split
    | with_reducible refine keep_fst (by with_reducible assumption) ?_

theorem Dev.background_keeps {kof : KeptOf} (d : Dev) (l : Nat) (hd : d.Kept kof) :
    (Dev.background d l).Kept kof := by
  unfold Dev.background
  try dsimp only
  repeat' first
    | with_reducible assumption
    | intro _
    | with_reducible apply keep_ite
    | with_reducible apply Dev.put_keeps
    | with_reducible apply Dev.freed_keeps
    | simp only [keep_mk]
    | dsimp only
    | split
    | with_reducible refine keep_fst (by with_reducible assumption) ?_

theorem Dev.coldCoefs_keeps {kof : KeptOf} (d : Dev) (l : Nat) (hd : d.Kept kof) :
    (Dev.coldCoefs d l).Kept kof := by
  unfold Dev.coldCoefs
  try dsimp only
  repeat' first
    | with_reducible assumption
    | intro _
    | with_reducible apply Dev.put_keeps
    | simp only [keep_mk]
    | dsimp only
    | split
    | with_reducible refine keep_fst (by with_reducible assumption) ?_

theorem Dev.laneOff_keeps {kof : KeptOf} (d : Dev) (l : Nat) (clear : Bool) (hd : d.Kept kof) :
    (Dev.laneOff d l clear).Kept kof := by
  unfold Dev.laneOff
  try dsimp only
  repeat' first
    | with_reducible assumption
    | intro _
    | with_reducible apply Dev.background_keeps
    | with_reducible apply Dev.modLane_keeps
    | with_reducible apply Dev.put_keeps
    | with_reducible apply Dev.when_keeps
    | with_reducible apply Dev.coldCoefs_keeps
    | simp only [keep_mk]
    | dsimp only
    | split
    | with_reducible refine keep_fst (by with_reducible assumption) ?_

theorem Dev.laneAcquire_keeps {kof : KeptOf} (d : Dev) (l : Nat) (warm : Bool) (hd : d.Kept kof) :
    (Dev.laneAcquire d l warm).Kept kof := by
  unfold Dev.laneAcquire
  try dsimp only
  repeat' first
    | with_reducible assumption
    | intro _
    | with_reducible apply Dev.background_keeps
    | with_reducible apply Dev.modLane_keeps
    | with_reducible apply Dev.put_keeps
    | with_reducible apply Dev.when_keeps
    | with_reducible apply Dev.coldCoefs_keeps
    | simp only [keep_mk]
    | dsimp only
    | split
    | with_reducible refine keep_fst (by with_reducible assumption) ?_

theorem Dev.scanRuns_keeps {kof : KeptOf} (d : Dev) (l : Nat) (hd : d.Kept kof) :
    (Dev.scanRuns d l).Kept kof := by
  unfold Dev.scanRuns
  try dsimp only
  repeat' first
    | with_reducible assumption
    | intro _
    | with_reducible apply keep_ite
    | with_reducible apply Dev.freed_keeps
    | with_reducible apply Dev.put_keeps
    | simp only [keep_mk]
    | dsimp only
    | split
    | with_reducible refine keep_fst (by with_reducible assumption) ?_

theorem Dev.abortScan_keeps {kof : KeptOf} (d : Dev) (l : Nat) (hd : d.Kept kof) :
    (Dev.abortScan d l).Kept kof := by
  unfold Dev.abortScan
  try dsimp only
  repeat' first
    | with_reducible assumption
    | intro _
    | with_reducible apply Dev.when_keeps
    | with_reducible apply Dev.scanRuns_keeps
    | with_reducible apply Dev.put_keeps
    | simp only [keep_mk]
    | dsimp only
    | split
    | with_reducible refine keep_fst (by with_reducible assumption) ?_

theorem Dev.txWakes_keeps {kof : KeptOf} (d : Dev) (l : Nat) (hd : d.Kept kof) :
    (Dev.txWakes d l).Kept kof := by
  unfold Dev.txWakes
  try dsimp only
  repeat' first
    | with_reducible assumption
    | intro _
    | with_reducible apply Dev.when_keeps
    | with_reducible apply Dev.put_keeps
    | simp only [keep_mk]
    | dsimp only
    | split
    | with_reducible refine keep_fst (by with_reducible assumption) ?_

theorem Dev.rxWakes_keeps {kof : KeptOf} (d : Dev) (l : Nat) (hd : d.Kept kof) :
    (Dev.rxWakes d l).Kept kof := by
  unfold Dev.rxWakes
  try dsimp only
  repeat' first
    | with_reducible assumption
    | intro _
    | with_reducible apply Dev.put_keeps
    | with_reducible apply Dev.laneAcquire_keeps
    | simp only [keep_mk]
    | dsimp only
    | split
    | with_reducible refine keep_fst (by with_reducible assumption) ?_

theorem Dev.laneAttempt_keeps {kof : KeptOf} (d : Dev) (l rate : Nat) (hd : d.Kept kof) :
    (Dev.laneAttempt d l rate).Kept kof := by
  unfold Dev.laneAttempt
  try dsimp only
  repeat' first
    | with_reducible assumption
    | intro _
    | with_reducible apply keep_ite
    | with_reducible apply Dev.when_keeps
    | with_reducible apply Dev.abortScan_keeps
    | with_reducible apply Dev.laneOff_keeps
    | with_reducible apply Dev.modLane_keeps
    | with_reducible apply Dev.txWakes_keeps
    | with_reducible apply Dev.put_keeps
    | with_reducible apply Dev.laneAcquire_keeps
    | with_reducible apply Dev.rxWakes_keeps
    | simp only [keep_mk]
    | dsimp only
    | split
    | with_reducible refine keep_fst (by with_reducible assumption) ?_

theorem Dev.lanesOff_keeps {kof : KeptOf} (d : Dev) (p : Nat) (hd : d.Kept kof) :
    (Dev.lanesOff d p).Kept kof := by
  unfold Dev.lanesOff
  try dsimp only
  repeat' first
    | with_reducible assumption
    | intro _
    | with_reducible apply Dev.each_keeps
    | with_reducible apply Dev.abortScan_keeps
    | with_reducible apply Dev.laneOff_keeps
    | with_reducible apply Dev.put_keeps
    | simp only [keep_mk]
    | dsimp only
    | split
    | with_reducible refine keep_fst (by with_reducible assumption) ?_

theorem Dev.lanesQuiet_keeps {kof : KeptOf} (d : Dev) (p : Nat) (hd : d.Kept kof) :
    (Dev.lanesQuiet d p).Kept kof := by
  unfold Dev.lanesQuiet
  try dsimp only
  repeat' first
    | with_reducible assumption
    | intro _
    | with_reducible apply Dev.each_keeps
    | with_reducible apply Dev.when_keeps
    | with_reducible apply Dev.put_keeps
    | with_reducible apply Dev.scanRuns_keeps
    | with_reducible apply Dev.background_keeps
    | simp only [keep_mk]
    | dsimp only
    | split
    | with_reducible refine keep_fst (by with_reducible assumption) ?_

theorem Dev.advanceInc_keeps {kof : KeptOf} (d : Dev) (p : Nat) (hd : d.Kept kof) :
    (Dev.advanceInc d p).Kept kof := by
  unfold Dev.advanceInc
  try dsimp only
  repeat' first
    | with_reducible assumption
    | intro _
    | with_reducible apply Dev.put_keeps
    | simp only [keep_mk]
    | dsimp only
    | split
    | with_reducible refine keep_fst (by with_reducible assumption) ?_

theorem Dev.dropHeld_keeps {kof : KeptOf} (d : Dev) (p reason : Nat) (hd : d.Kept kof) :
    (Dev.dropHeld d p reason).Kept kof := by
  unfold Dev.dropHeld
  try dsimp only
  repeat' first
    | with_reducible assumption
    | intro _
    | with_reducible apply Dev.incBy_keeps
    | with_reducible apply Dev.modLink_keeps
    | with_reducible apply Dev.each_keeps
    | with_reducible apply Dev.modChan_keeps
    | with_reducible apply Dev.dropPkt_keeps
    | simp only [keep_mk]
    | dsimp only
    | split
    | with_reducible refine keep_fst (by with_reducible assumption) ?_

theorem Dev.leaveUp_keeps {kof : KeptOf} (d : Dev) (p : Nat) (hd : d.Kept kof) :
    (Dev.leaveUp d p).Kept kof := by
  unfold Dev.leaveUp
  try dsimp only
  repeat' first
    | with_reducible assumption
    | intro _
    | with_reducible apply Dev.modLink_keeps
    | with_reducible apply Dev.portUnroutable_keeps
    | simp only [keep_mk]
    | dsimp only
    | split
    | with_reducible refine keep_fst (by with_reducible assumption) ?_

theorem Dev.setState_keeps {kof : KeptOf} (d : Dev) (p st : Nat) (hd : d.Kept kof) :
    (Dev.setState d p st).Kept kof := by
  unfold Dev.setState
  try dsimp only
  repeat' first
    | with_reducible assumption
    | intro _
    | with_reducible apply Dev.put_keeps
    | simp only [keep_mk]
    | dsimp only
    | split
    | with_reducible refine keep_fst (by with_reducible assumption) ?_

theorem Dev.endDrain_keeps {kof : KeptOf} (d : Dev) (p : Nat) (hd : d.Kept kof) :
    (Dev.endDrain d p).Kept kof := by
  unfold Dev.endDrain
  try dsimp only
  repeat' first
    | with_reducible assumption
    | intro _
    | with_reducible apply Dev.putB_keeps
    | with_reducible apply Dev.modLink_keeps
    | simp only [keep_mk]
    | dsimp only
    | split
    | with_reducible refine keep_fst (by with_reducible assumption) ?_

theorem Dev.enterOos_keeps {kof : KeptOf} (d : Dev) (p : Nat) (hd : d.Kept kof) :
    (Dev.enterOos d p).Kept kof := by
  unfold Dev.enterOos
  try dsimp only
  repeat' first
    | with_reducible assumption
    | intro _
    | with_reducible apply Dev.when_keeps
    | with_reducible apply Dev.leaveUp_keeps
    | with_reducible apply Dev.setState_keeps
    | with_reducible apply Dev.endDrain_keeps
    | with_reducible apply Dev.advanceInc_keeps
    | with_reducible apply Dev.modLink_keeps
    | with_reducible apply Dev.lanesOff_keeps
    | with_reducible apply Dev.dropHeld_keeps
    | simp only [keep_mk]
    | dsimp only
    | split
    | with_reducible refine keep_fst (by with_reducible assumption) ?_

theorem Dev.enterDown_keeps {kof : KeptOf} (d : Dev) (p : Nat) (hd : d.Kept kof) :
    (Dev.enterDown d p).Kept kof := by
  unfold Dev.enterDown
  try dsimp only
  repeat' first
    | with_reducible assumption
    | intro _
    | with_reducible apply Dev.when_keeps
    | with_reducible apply Dev.leaveUp_keeps
    | with_reducible apply Dev.setState_keeps
    | with_reducible apply Dev.endDrain_keeps
    | with_reducible apply Dev.modLink_keeps
    | with_reducible apply Dev.lanesQuiet_keeps
    | simp only [keep_mk]
    | dsimp only
    | split
    | with_reducible refine keep_fst (by with_reducible assumption) ?_

theorem Dev.attempt_keeps {kof : KeptOf} (d : Dev) (p : Nat) (fail : Option Nat) (hd : d.Kept kof) : ∀ (y0 : Nat),
    (Dev.attempt d p fail y0).Kept kof := by
  intro y0
  induction y0 generalizing d p fail with
  | zero =>
    unfold Dev.attempt
    try dsimp only
    repeat' first
      | with_reducible assumption
      | intro _
      | with_reducible apply keep_ite
      | with_reducible apply Dev.put_keeps
      | with_reducible apply Dev.modLink_keeps
      | with_reducible apply Dev.each_keeps
      | with_reducible apply Dev.laneAttempt_keeps
      | with_reducible apply Dev.incF_keeps
      | with_reducible apply Dev.enterDown_keeps
      | with_reducible apply Dev.enterOos_keeps
      | with_reducible apply Dev.raise_keeps
      | with_reducible apply Dev.lanesQuiet_keeps
      | simp only [keep_mk]
      | dsimp only
      | split
      | with_reducible refine keep_fst (by with_reducible assumption) ?_
  | succ n0 ih =>
    unfold Dev.attempt
    try dsimp only
    repeat' first
      | with_reducible assumption
      | intro _
      | with_reducible apply keep_ite
      | with_reducible apply ih
      | with_reducible apply Dev.put_keeps
      | with_reducible apply Dev.modLink_keeps
      | with_reducible apply Dev.each_keeps
      | with_reducible apply Dev.laneAttempt_keeps
      | with_reducible apply Dev.incF_keeps
      | with_reducible apply Dev.enterDown_keeps
      | with_reducible apply Dev.enterOos_keeps
      | with_reducible apply Dev.raise_keeps
      | with_reducible apply Dev.lanesQuiet_keeps
      | simp only [keep_mk]
      | dsimp only
      | split
      | with_reducible refine keep_fst (by with_reducible assumption) ?_

theorem Dev.startAttempt_keeps {kof : KeptOf} (d : Dev) (p : Nat) (hd : d.Kept kof) :
    (Dev.startAttempt d p).Kept kof := by
  unfold Dev.startAttempt
  try dsimp only
  repeat' first
    | with_reducible assumption
    | intro _
    | with_reducible apply Dev.attempt_keeps
    | simp only [keep_mk]
    | dsimp only
    | split
    | with_reducible refine keep_fst (by with_reducible assumption) ?_

theorem Dev.failAttempt_keeps {kof : KeptOf} (d : Dev) (p reason : Nat) (hd : d.Kept kof) :
    (Dev.failAttempt d p reason).Kept kof := by
  unfold Dev.failAttempt
  try dsimp only
  repeat' first
    | with_reducible assumption
    | intro _
    | with_reducible apply Dev.attempt_keeps
    | simp only [keep_mk]
    | dsimp only
    | split
    | with_reducible refine keep_fst (by with_reducible assumption) ?_

theorem Dev.enterTraining_keeps {kof : KeptOf} (d : Dev) (p : Nat) (hd : d.Kept kof) :
    (Dev.enterTraining d p).Kept kof := by
  unfold Dev.enterTraining
  try dsimp only
  repeat' first
    | with_reducible assumption
    | intro _
    | with_reducible apply keep_ite
    | with_reducible apply Dev.kilnPort_keeps
    | with_reducible apply Dev.setState_keeps
    | with_reducible apply Dev.put_keeps
    | with_reducible apply Dev.startAttempt_keeps
    | simp only [keep_mk]
    | dsimp only
    | split
    | with_reducible refine keep_fst (by with_reducible assumption) ?_

theorem Dev.enterRetrain_keeps {kof : KeptOf} (d : Dev) (p cause : Nat) (own : Bool) (hd : d.Kept kof) :
    (Dev.enterRetrain d p cause own).Kept kof := by
  unfold Dev.enterRetrain
  try dsimp only
  repeat' first
    | with_reducible assumption
    | intro _
    | with_reducible apply keep_ite
    | with_reducible apply Dev.leaveUp_keeps
    | with_reducible apply Dev.setState_keeps
    | with_reducible apply Dev.put_keeps
    | with_reducible apply Dev.inc_keeps
    | with_reducible apply Dev.when_keeps
    | with_reducible apply Dev.sendLinkctlFirst_keeps
    | with_reducible apply Dev.startAttempt_keeps
    | simp only [keep_mk]
    | dsimp only
    | split
    | with_reducible refine keep_fst (by with_reducible assumption) ?_

theorem Dev.greenwareFatal_keeps {kof : KeptOf} (d : Dev) (p sub : Nat) (hd : d.Kept kof) :
    (Dev.greenwareFatal d p sub).Kept kof := by
  unfold Dev.greenwareFatal
  try dsimp only
  repeat' first
    | with_reducible assumption
    | intro _
    | with_reducible apply keep_ite
    | with_reducible apply Dev.enterDown_keeps
    | with_reducible apply Dev.raise_keeps
    | simp only [keep_mk]
    | dsimp only
    | split
    | with_reducible refine keep_fst (by with_reducible assumption) ?_

theorem Dev.newLife_keeps {kof : KeptOf} (d : Dev) (p : Nat) (hd : d.Kept kof) :
    (Dev.newLife d p).Kept kof := by
  unfold Dev.newLife
  try dsimp only
  repeat' first
    | with_reducible assumption
    | intro _
    | with_reducible apply Dev.dropHeld_keeps
    | with_reducible apply Dev.each_keeps
    | with_reducible apply Dev.dropPkt_keeps
    | with_reducible apply Dev.setLink_keeps
    | with_reducible apply Dev.put_keeps
    | with_reducible apply Dev.staleCells_keeps
    | with_reducible apply Dev.modChan_keeps
    | simp only [keep_mk]
    | dsimp only
    | split
    | with_reducible refine keep_fst (by with_reducible assumption) ?_

theorem Dev.continueLife_keeps {kof : KeptOf} (d : Dev) (p : Nat) (hd : d.Kept kof) :
    (Dev.continueLife d p).Kept kof := by
  unfold Dev.continueLife
  try dsimp only
  repeat' first
    | with_reducible assumption
    | intro _
    | with_reducible apply Dev.ackFlits_keeps
    | with_reducible apply Dev.inc_keeps
    | with_reducible apply Dev.put_keeps
    | with_reducible apply Dev.setLink_keeps
    | simp only [keep_mk]
    | dsimp only
    | split
    | with_reducible refine keep_fst (by with_reducible assumption) ?_

theorem Dev.enterUp_keeps {kof : KeptOf} (d : Dev) (p : Nat) (hd : d.Kept kof) :
    (Dev.enterUp d p).Kept kof := by
  unfold Dev.enterUp
  try dsimp only
  repeat' first
    | with_reducible assumption
    | intro _
    | with_reducible apply keep_ite
    | with_reducible apply Dev.continueLife_keeps
    | with_reducible apply Dev.newLife_keeps
    | with_reducible apply Dev.setState_keeps
    | with_reducible apply Dev.put_keeps
    | with_reducible apply Dev.modLink_keeps
    | with_reducible apply Dev.when_keeps
    | with_reducible apply Dev.sendLinkctl_keeps
    | with_reducible apply Dev.portRoutable_keeps
    | with_reducible apply Dev.inc_keeps
    | with_reducible apply Dev.enterRetrain_keeps
    | simp only [keep_mk]
    | dsimp only
    | split
    | with_reducible refine keep_fst (by with_reducible assumption) ?_

theorem Dev.startDrain_keeps {kof : KeptOf} (d : Dev) (p : Nat) (commanding : Bool) (hd : d.Kept kof) :
    (Dev.startDrain d p commanding).Kept kof := by
  unfold Dev.startDrain
  try dsimp only
  repeat' first
    | with_reducible assumption
    | intro _
    | with_reducible apply Dev.putB_keeps
    | with_reducible apply Dev.modLink_keeps
    | with_reducible apply Dev.when_keeps
    | with_reducible apply Dev.portUnroutable_keeps
    | simp only [keep_mk]
    | dsimp only
    | split
    | with_reducible refine keep_fst (by with_reducible assumption) ?_

theorem Dev.applyAck_keeps {kof : KeptOf} (d : Dev) (p ack : Nat) (hd : d.Kept kof) :
    (Dev.applyAck d p ack).Kept kof := by
  unfold Dev.applyAck
  try dsimp only
  repeat' first
    | with_reducible assumption
    | intro _
    | with_reducible apply keep_ite
    | with_reducible apply Dev.ackFlits_keeps
    | with_reducible apply Dev.inc_keeps
    | with_reducible apply Dev.enterRetrain_keeps
    | simp only [keep_mk]
    | dsimp only
    | split
    | with_reducible refine keep_fst (by with_reducible assumption) ?_

theorem Dev.crcError_keeps {kof : KeptOf} (d : Dev) (p : Nat) (hd : d.Kept kof) :
    (Dev.crcError d p).Kept kof := by
  unfold Dev.crcError
  try dsimp only
  repeat' first
    | with_reducible assumption
    | intro _
    | with_reducible apply keep_ite
    | with_reducible apply Dev.inc_keeps
    | with_reducible apply Dev.portEvent_keeps
    | with_reducible apply Dev.modLink_keeps
    | with_reducible apply Dev.sendLinkctlFirst_keeps
    | simp only [keep_mk]
    | dsimp only
    | split
    | with_reducible refine keep_fst (by with_reducible assumption) ?_

theorem Dev.crcFails_keeps {kof : KeptOf} (d : Dev) (p : Nat) (hd : d.Kept kof) :
    (Dev.crcFails d p).Kept kof := by
  unfold Dev.crcFails
  try dsimp only
  repeat' first
    | with_reducible assumption
    | intro _
    | with_reducible apply keep_ite
    | with_reducible apply Dev.crcError_keeps
    | with_reducible apply Dev.inc_keeps
    | with_reducible apply Dev.portEvent_keeps
    | simp only [keep_mk]
    | dsimp only
    | split
    | with_reducible refine keep_fst (by with_reducible assumption) ?_

theorem Dev.protoError_keeps {kof : KeptOf} (d : Dev) (p : Nat) (hd : d.Kept kof) :
    (Dev.protoError d p).Kept kof := by
  unfold Dev.protoError
  try dsimp only
  repeat' first
    | with_reducible assumption
    | intro _
    | with_reducible apply keep_ite
    | with_reducible apply Dev.inc_keeps
    | with_reducible apply Dev.greenwareFatal_keeps
    | with_reducible apply Dev.crcFails_keeps
    | simp only [keep_mk]
    | dsimp only
    | split
    | with_reducible refine keep_fst (by with_reducible assumption) ?_

theorem Dev.takeMark_keeps {kof : KeptOf} (d : Dev) (p : Nat) (hd : d.Kept kof) :
    (Dev.takeMark d p).Kept kof := by
  unfold Dev.takeMark
  try dsimp only
  repeat' first
    | with_reducible assumption
    | intro _
    | with_reducible apply Dev.modLink_keeps
    | simp only [keep_mk]
    | dsimp only
    | split
    | with_reducible refine keep_fst (by with_reducible assumption) ?_

theorem Dev.applyCredit_keeps {kof : KeptOf} (d : Dev) (p v n : Nat) (hd : d.Kept kof) :
    (Dev.applyCredit d p v n).Kept kof := by
  unfold Dev.applyCredit
  try dsimp only
  repeat' first
    | with_reducible assumption
    | intro _
    | with_reducible apply Dev.modChan_keeps
    | simp only [keep_mk]
    | dsimp only
    | split
    | with_reducible refine keep_fst (by with_reducible assumption) ?_

theorem Dev.flitCredit_keeps {kof : KeptOf} (d : Dev) (p : Nat) (c : Ctrl) (hd : d.Kept kof) :
    (Dev.flitCredit d p c).Kept kof := by
  unfold Dev.flitCredit
  try dsimp only
  repeat' first
    | with_reducible assumption
    | intro _
    | with_reducible apply keep_ite
    | with_reducible apply Dev.applyCredit_keeps
    | simp only [keep_mk]
    | dsimp only
    | split
    | with_reducible refine keep_fst (by with_reducible assumption) ?_

theorem Dev.acceptSeq_keeps {kof : KeptOf} (d : Dev) (p : Nat) (c : Ctrl) (hd : d.Kept kof) :
    (Dev.acceptSeq d p c).Kept kof := by
  unfold Dev.acceptSeq
  try dsimp only
  repeat' first
    | with_reducible assumption
    | intro _
    | with_reducible apply keep_ite
    | with_reducible apply Dev.flitCredit_keeps
    | with_reducible apply Dev.modLink_keeps
    | simp only [keep_mk]
    | dsimp only
    | split
    | with_reducible refine keep_fst (by with_reducible assumption) ?_

theorem Dev.sequenced_keeps {kof : KeptOf} (d : Dev) (p : Nat) (take : Dev → Dev) (hd : d.Kept kof) (htake : ∀ d, d.Kept kof → (take d).Kept kof) :
    (Dev.sequenced d p take).Kept kof := by
  unfold Dev.sequenced
  try dsimp only
  repeat' first
    | with_reducible assumption
    | intro _
    | with_reducible apply keep_ite
    | with_reducible apply Dev.modLink_keeps
    | simp only [keep_mk]
    | with_reducible apply htake
    | dsimp only
    | split
    | with_reducible refine keep_fst (by with_reducible assumption) ?_

theorem Dev.receive_keeps {kof : KeptOf} (d : Dev) (p : Nat) (valid : Bool) (act : Dev → Dev) (hd : d.Kept kof) (hact : ∀ d, d.Kept kof → (act d).Kept kof) :
    (Dev.receive d p valid act).Kept kof := by
  unfold Dev.receive
  try dsimp only
  repeat' first
    | with_reducible assumption
    | intro _
    | with_reducible apply keep_ite
    | with_reducible apply Dev.takeMark_keeps
    | with_reducible apply Dev.crcFails_keeps
    | with_reducible apply Dev.protoError_keeps
    | simp only [keep_mk]
    | with_reducible apply hact
    | dsimp only
    | split
    | with_reducible refine keep_fst (by with_reducible assumption) ?_

theorem Dev.takeBypass_keeps {kof : KeptOf} (d : Dev) (p : Nat) (c : Ctrl) (take : Dev → Dev) (hd : d.Kept kof) (htake : ∀ d, d.Kept kof → (take d).Kept kof) :
    (Dev.takeBypass d p c take).Kept kof := by
  unfold Dev.takeBypass
  try dsimp only
  repeat' first
    | with_reducible assumption
    | intro _
    | with_reducible apply keep_ite
    | with_reducible apply Dev.receive_keeps
    | with_reducible apply Dev.applyAck_keeps
    | with_reducible apply Dev.sequenced_keeps
    | simp only [keep_mk]
    | with_reducible apply htake
    | dsimp only
    | split
    | with_reducible refine keep_fst (by with_reducible assumption) ?_

theorem Dev.receiveBypass_keeps {kof : KeptOf} (d : Dev) (p : Nat) (c : Ctrl) (act : Dev → Dev) (hd : d.Kept kof) (hact : ∀ d, d.Kept kof → (act d).Kept kof) :
    (Dev.receiveBypass d p c act).Kept kof := by
  unfold Dev.receiveBypass
  try dsimp only
  repeat' first
    | with_reducible assumption
    | intro _
    | with_reducible apply Dev.takeBypass_keeps
    | with_reducible apply Dev.acceptSeq_keeps
    | simp only [keep_mk]
    | with_reducible apply hact
    | dsimp only
    | split
    | with_reducible refine keep_fst (by with_reducible assumption) ?_

theorem Dev.receiveLinkctl_keeps {kof : KeptOf} (d : Dev) (p : Nat) (c : Ctrl) (act : Dev → Dev) (hd : d.Kept kof) (hact : ∀ d, d.Kept kof → (act d).Kept kof) :
    (Dev.receiveLinkctl d p c act).Kept kof := by
  unfold Dev.receiveLinkctl
  try dsimp only
  repeat' first
    | with_reducible assumption
    | intro _
    | with_reducible apply Dev.receive_keeps
    | with_reducible apply Dev.applyAck_keeps
    | simp only [keep_mk]
    | with_reducible apply hact
    | dsimp only
    | split
    | with_reducible refine keep_fst (by with_reducible assumption) ?_

theorem Dev.replayFrom_keeps {kof : KeptOf} (d : Dev) (p n : Nat) (hd : d.Kept kof) :
    (Dev.replayFrom d p n).Kept kof := by
  unfold Dev.replayFrom
  try dsimp only
  repeat' first
    | with_reducible assumption
    | intro _
    | with_reducible apply keep_ite
    | with_reducible apply Dev.enterRetrain_keeps
    | with_reducible apply Dev.inc_keeps
    | with_reducible apply Dev.put_keeps
    | with_reducible apply Dev.setLink_keeps
    | simp only [keep_mk]
    | dsimp only
    | split
    | with_reducible refine keep_fst (by with_reducible assumption) ?_

theorem Dev.takeCredit_keeps {kof : KeptOf} (d : Dev) (p : Nat) (hd : d.Kept kof) :
    (Dev.takeCredit d p).1.Kept kof := by
  unfold Dev.takeCredit
  try dsimp only
  repeat' first
    | with_reducible assumption
    | intro _
    | with_reducible apply Dev.modChan_keeps
    | simp only [keep_mk]
    | dsimp only
    | split
    | with_reducible refine keep_fst (by with_reducible assumption) ?_

theorem Dev.creditMessage_keeps {kof : KeptOf} (d : Dev) (p : Nat) (hd : d.Kept kof) :
    (Dev.creditMessage d p).1.Kept kof := by
  unfold Dev.creditMessage
  try dsimp only
  repeat' first
    | with_reducible assumption
    | intro _
    | with_reducible apply Dev.each_keeps
    | with_reducible apply Dev.modChan_keeps
    | simp only [keep_mk]
    | dsimp only
    | split
    | with_reducible refine keep_fst (by with_reducible assumption) ?_

/-! Machine/LinkTx.lean -/

theorem Dev.sendFlit_keeps {kof : KeptOf} (d : Dev) (p : Nat) (c : Ctrl) (b : Body) (hd : d.Kept kof) :
    (Dev.sendFlit d p c b).Kept kof := by
  unfold Dev.sendFlit
  try dsimp only
  repeat' first
    | with_reducible assumption
    | intro _
    | with_reducible apply Dev.emit_keeps
    | with_reducible apply Dev.modLink_keeps
    | simp only [keep_mk]
    | dsimp only
    | split
    | with_reducible refine keep_fst (by with_reducible assumption) ?_

theorem Dev.hold_keeps {kof : KeptOf} (d : Dev) (p : Nat) (f : SentFlit) (hd : d.Kept kof) :
    (Dev.hold d p f).Kept kof := by
  unfold Dev.hold
  try dsimp only
  repeat' first
    | with_reducible assumption
    | intro _
    | with_reducible apply keep_ite
    | with_reducible apply Dev.flitDone_keeps
    | with_reducible apply Dev.modLink_keeps
    | simp only [keep_mk]
    | dsimp only
    | split
    | with_reducible refine keep_fst (by with_reducible assumption) ?_

theorem Dev.stompHeld_keeps {kof : KeptOf} (d : Dev) (p : Nat) (f : SentFlit) (hd : d.Kept kof) :
    (Dev.stompHeld d p f).Kept kof := by
  unfold Dev.stompHeld
  try dsimp only
  repeat' first
    | with_reducible assumption
    | intro _
    | with_reducible apply Dev.when_keeps
    | with_reducible apply Dev.inc_keeps
    | with_reducible apply Dev.setPkt_keeps
    | simp only [keep_mk]
    | dsimp only
    | split
    | with_reducible refine keep_fst (by with_reducible assumption) ?_

theorem Dev.sendReplay_keeps {kof : KeptOf} (d : Dev) (p : Nat) (f : SentFlit) (hd : d.Kept kof) :
    (Dev.sendReplay d p f).Kept kof := by
  unfold Dev.sendReplay
  try dsimp only
  repeat' first
    | with_reducible assumption
    | intro _
    | with_reducible apply keep_ite
    | with_reducible apply Dev.when_keeps
    | with_reducible apply Dev.stompHeld_keeps
    | with_reducible apply Dev.modLink_keeps
    | with_reducible apply Dev.sendFlit_keeps
    | with_reducible apply Dev.portEvent_keeps
    | simp only [keep_mk]
    | dsimp only
    | split
    | with_reducible refine keep_fst (by with_reducible assumption) ?_

theorem Dev.sendNewBypass_keeps {kof : KeptOf} (d : Dev) (p : Nat) (hd : d.Kept kof) :
    (Dev.sendNewBypass d p).Kept kof := by
  unfold Dev.sendNewBypass
  try dsimp only
  repeat' first
    | with_reducible assumption
    | intro _
    | with_reducible apply keep_ite
    | with_reducible apply Dev.modLink_keeps
    | with_reducible apply Dev.sendFlit_keeps
    | with_reducible apply Dev.hold_keeps
    | with_reducible apply Dev.portEvent_keeps
    | with_reducible apply Dev.creditMessage_keeps
    | with_reducible apply Dev.takeCredit_keeps
    | simp only [keep_mk]
    | dsimp only
    | split
    | with_reducible refine keep_fst (by with_reducible assumption) ?_

theorem Dev.sendData_keeps {kof : KeptOf} (d : Dev) (p v i n : Nat) (hd : d.Kept kof) :
    (Dev.sendData d p v i n).Kept kof := by
  unfold Dev.sendData
  try dsimp only
  repeat' first
    | with_reducible assumption
    | intro _
    | with_reducible apply keep_ite
    | with_reducible apply Dev.when_keeps
    | with_reducible apply Dev.inc_keeps
    | with_reducible apply Dev.setPkt_keeps
    | with_reducible apply Dev.takeCredit_keeps
    | with_reducible apply Dev.modChan_keeps
    | with_reducible apply Dev.sendFlit_keeps
    | with_reducible apply Dev.hold_keeps
    | with_reducible apply Dev.portEvent_keeps
    | simp only [keep_mk]
    | dsimp only
    | split
    | with_reducible refine keep_fst (by with_reducible assumption) ?_

theorem Dev.startPkt_keeps {kof : KeptOf} (d : Dev) (p i : Nat) (e : EPort) (hd : d.Kept kof) :
    (Dev.startPkt d p i e).Kept kof := by
  unfold Dev.startPkt
  try dsimp only
  repeat' first
    | with_reducible assumption
    | intro _
    | with_reducible apply Dev.setShaper_keeps
    | with_reducible apply Dev.portEvent_keeps
    | with_reducible apply Dev.when_keeps
    | with_reducible apply Dev.complete_keeps
    | with_reducible apply Dev.modEport_keeps
    | with_reducible apply Dev.setPkt_keeps
    | with_reducible apply Dev.sendData_keeps
    | simp only [keep_mk]
    | dsimp only
    | split
    | with_reducible refine keep_fst (by with_reducible assumption) ?_

theorem Dev.startNew_keeps {kof : KeptOf} (d : Dev) (p : Nat) (hd : d.Kept kof) : ∀ (y0 : Nat),
    (Dev.startNew d p y0).1.Kept kof := by
  intro y0
  induction y0 generalizing d p with
  | zero =>
    unfold Dev.startNew
    try dsimp only
    repeat' first
      | with_reducible assumption
      | intro _
      | with_reducible apply keep_ite
      | with_reducible apply Dev.dropPkt_keeps
      | with_reducible apply Dev.startPkt_keeps
      | with_reducible apply Dev.modEport_keeps
      | simp only [keep_mk]
      | dsimp only
      | split
      | with_reducible refine keep_fst (by with_reducible assumption) ?_
  | succ n0 ih =>
    unfold Dev.startNew
    try dsimp only
    repeat' first
      | with_reducible assumption
      | intro _
      | with_reducible apply keep_ite
      | with_reducible apply ih
      | with_reducible apply Dev.dropPkt_keeps
      | with_reducible apply Dev.startPkt_keeps
      | with_reducible apply Dev.modEport_keeps
      | simp only [keep_mk]
      | dsimp only
      | split
      | with_reducible refine keep_fst (by with_reducible assumption) ?_

theorem Dev.dataSlot_keeps {kof : KeptOf} (d : Dev) (p : Nat) (hd : d.Kept kof) :
    (Dev.dataSlot d p).1.Kept kof := by
  unfold Dev.dataSlot
  try dsimp only
  repeat' first
    | with_reducible assumption
    | intro _
    | with_reducible apply keep_ite
    | with_reducible apply Dev.sendData_keeps
    | with_reducible apply Dev.startNew_keeps
    | simp only [keep_mk]
    | dsimp only
    | split
    | with_reducible refine keep_fst (by with_reducible assumption) ?_

theorem Dev.slotPassed_keeps {kof : KeptOf} (d : Dev) (p : Nat) (hd : d.Kept kof) :
    (Dev.slotPassed d p).Kept kof := by
  unfold Dev.slotPassed
  try dsimp only
  repeat' first
    | with_reducible assumption
    | intro _
    | with_reducible apply keep_ite
    | with_reducible apply Dev.modLink_keeps
    | simp only [keep_mk]
    | dsimp only
    | split
    | with_reducible refine keep_fst (by with_reducible assumption) ?_

theorem Dev.slotIs_keeps {kof : KeptOf} (d : Dev) (p c : Nat) (hd : d.Kept kof) :
    (Dev.slotIs d p c).Kept kof := by
  unfold Dev.slotIs
  try dsimp only
  repeat' first
    | with_reducible assumption
    | intro _
    | with_reducible apply Dev.when_keeps
    | with_reducible apply Dev.countSlot_keeps
    | simp only [keep_mk]
    | dsimp only
    | split
    | with_reducible refine keep_fst (by with_reducible assumption) ?_

theorem Dev.endBurst_keeps {kof : KeptOf} (d : Dev) (p : Nat) (hd : d.Kept kof) :
    (Dev.endBurst d p).Kept kof := by
  unfold Dev.endBurst
  try dsimp only
  repeat' first
    | with_reducible assumption
    | intro _
    | with_reducible apply Dev.when_keeps
    | with_reducible apply Dev.modLink_keeps
    | simp only [keep_mk]
    | dsimp only
    | split
    | with_reducible refine keep_fst (by with_reducible assumption) ?_

theorem Dev.moveTx_keeps {kof : KeptOf} (d : Dev) (p old new : Nat) (hd : d.Kept kof) :
    (Dev.moveTx d p old new).Kept kof := by
  unfold Dev.moveTx
  try dsimp only
  repeat' first
    | with_reducible assumption
    | intro _
    | with_reducible apply Dev.each_keeps
    | with_reducible apply Dev.when_keeps
    | with_reducible apply Dev.put_keeps
    | simp only [keep_mk]
    | dsimp only
    | split
    | with_reducible refine keep_fst (by with_reducible assumption) ?_

theorem Dev.fillSlot_keeps {kof : KeptOf} (d : Dev) (p : Nat) (hd : d.Kept kof) :
    (Dev.fillSlot d p).Kept kof := by
  unfold Dev.fillSlot
  try dsimp only
  repeat' first
    | with_reducible assumption
    | intro _
    | with_reducible apply keep_ite
    | with_reducible apply Dev.modLink_keeps
    | with_reducible apply Dev.sendFlit_keeps
    | with_reducible apply Dev.slotIs_keeps
    | with_reducible apply Dev.sendReplay_keeps
    | with_reducible apply Dev.sendNewBypass_keeps
    | with_reducible apply Dev.dataSlot_keeps
    | simp only [keep_mk]
    | dsimp only
    | split
    | with_reducible refine keep_fst (by with_reducible assumption) ?_

theorem Dev.flitSlot_keeps {kof : KeptOf} (d : Dev) (p : Nat) (hd : d.Kept kof) :
    (Dev.flitSlot d p).Kept kof := by
  unfold Dev.flitSlot
  try dsimp only
  repeat' first
    | with_reducible assumption
    | intro _
    | with_reducible apply keep_ite
    | with_reducible apply Dev.fillSlot_keeps
    | with_reducible apply Dev.slotPassed_keeps
    | with_reducible apply Dev.endBurst_keeps
    | with_reducible apply Dev.moveTx_keeps
    | with_reducible apply Dev.slotIs_keeps
    | simp only [keep_mk]
    | dsimp only
    | split
    | with_reducible refine keep_fst (by with_reducible assumption) ?_

/-! Machine/Lanes.lean -/

theorem Dev.setAdapt_keeps {kof : KeptOf} (d : Dev) (l st : Nat) (hd : d.Kept kof) :
    (Dev.setAdapt d l st).Kept kof := by
  unfold Dev.setAdapt
  try dsimp only
  repeat' first
    | with_reducible assumption
    | intro _
    | with_reducible apply Dev.put_keeps
    | simp only [keep_mk]
    | dsimp only
    | split
    | with_reducible refine keep_fst (by with_reducible assumption) ?_

theorem Dev.releaseHeld_keeps {kof : KeptOf} (d : Dev) (p : Nat) (hd : d.Kept kof) :
    (Dev.releaseHeld d p).Kept kof := by
  unfold Dev.releaseHeld
  try dsimp only
  repeat' first
    | with_reducible assumption
    | intro _
    | with_reducible apply Dev.dropHeld_keeps
    | with_reducible apply Dev.when_keeps
    | with_reducible apply Dev.advanceInc_keeps
    | simp only [keep_mk]
    | dsimp only
    | split
    | with_reducible refine keep_fst (by with_reducible assumption) ?_

theorem Dev.clusterMap_keeps {kof : KeptOf} (d : Dev) (c : Nat) (v : Word) (hd : d.Kept kof) :
    (Dev.clusterMap d c v).Kept kof := by
  unfold Dev.clusterMap
  try dsimp only
  repeat' first
    | with_reducible assumption
    | intro _
    | with_reducible apply keep_ite
    | with_reducible apply Dev.put_keeps
    | with_reducible apply Dev.each_keeps
    | with_reducible apply Dev.dropQueued_keeps
    | with_reducible apply Dev.releaseHeld_keeps
    | simp only [keep_mk]
    | dsimp only
    | split
    | with_reducible refine keep_fst (by with_reducible assumption) ?_

theorem Dev.setEq_keeps {kof : KeptOf} (d : Dev) (l pre post : Nat) (hd : d.Kept kof) :
    (Dev.setEq d l pre post).Kept kof := by
  unfold Dev.setEq
  try dsimp only
  repeat' first
    | with_reducible assumption
    | intro _
    | with_reducible apply Dev.put_keeps
    | simp only [keep_mk]
    | dsimp only
    | split
    | with_reducible refine keep_fst (by with_reducible assumption) ?_

theorem Dev.txeq_keeps {kof : KeptOf} (d : Dev) (l : Nat) (v : Word) (hd : d.Kept kof) :
    (Dev.txeq d l v).Kept kof := by
  unfold Dev.txeq
  try dsimp only
  repeat' first
    | with_reducible assumption
    | intro _
    | with_reducible apply keep_ite
    | with_reducible apply Dev.put_keeps
    | with_reducible apply Dev.when_keeps
    | with_reducible apply Dev.setEq_keeps
    | simp only [keep_mk]
    | dsimp only
    | split
    | with_reducible refine keep_fst (by with_reducible assumption) ?_

theorem Dev.coefRequest_keeps {kof : KeptOf} (d : Dev) (l : Nat) (isPre : Bool) (req : Nat) (hd : d.Kept kof) :
    (Dev.coefRequest d l isPre req).1.Kept kof := by
  unfold Dev.coefRequest
  try dsimp only
  repeat' first
    | with_reducible assumption
    | intro _
    | with_reducible apply keep_ite
    | with_reducible apply Dev.setEq_keeps
    | simp only [keep_mk]
    | dsimp only
    | split
    | with_reducible refine keep_fst (by with_reducible assumption) ?_

theorem Dev.coefAnswer_keeps {kof : KeptOf} (d : Dev) (l : Nat) (isPre : Bool) (req st : Nat) (hd : d.Kept kof) :
    (Dev.coefAnswer d l isPre req st).1.Kept kof := by
  unfold Dev.coefAnswer
  try dsimp only
  repeat' first
    | with_reducible assumption
    | intro _
    | with_reducible apply keep_ite
    | with_reducible apply Dev.coefRequest_keeps
    | simp only [keep_mk]
    | dsimp only
    | split
    | with_reducible refine keep_fst (by with_reducible assumption) ?_

theorem Dev.sendFrame_keeps {kof : KeptOf} (d : Dev) (l : Nat) (hd : d.Kept kof) :
    (Dev.sendFrame d l).Kept kof := by
  unfold Dev.sendFrame
  try dsimp only
  repeat' first
    | with_reducible assumption
    | intro _
    | with_reducible apply Dev.emit_keeps
    | simp only [keep_mk]
    | dsimp only
    | split
    | with_reducible refine keep_fst (by with_reducible assumption) ?_

theorem Dev.orderFail_keeps {kof : KeptOf} (d : Dev) (p : Nat) (hd : d.Kept kof) :
    (Dev.orderFail d p).Kept kof := by
  unfold Dev.orderFail
  try dsimp only
  repeat' first
    | with_reducible assumption
    | intro _
    | with_reducible apply Dev.put_keeps
    | with_reducible apply Dev.failAttempt_keeps
    | simp only [keep_mk]
    | dsimp only
    | split
    | with_reducible refine keep_fst (by with_reducible assumption) ?_

theorem Dev.trainingFrame_keeps {kof : KeptOf} (d : Dev) (l ctl : Nat) (hd : d.Kept kof) :
    (Dev.trainingFrame d l ctl).Kept kof := by
  unfold Dev.trainingFrame
  try dsimp only
  repeat' first
    | with_reducible assumption
    | intro _
    | with_reducible apply keep_ite
    | with_reducible apply Dev.put_keeps
    | with_reducible apply Dev.modLane_keeps
    | with_reducible apply Dev.orderFail_keeps
    | with_reducible apply Dev.coefAnswer_keeps
    | with_reducible apply Dev.sendFrame_keeps
    | simp only [keep_mk]
    | dsimp only
    | split
    | with_reducible refine keep_fst (by with_reducible assumption) ?_

theorem Dev.acquireLock_keeps {kof : KeptOf} (d : Dev) (l : Nat) (inverted : Bool) (peaking : Nat) (hd : d.Kept kof) :
    (Dev.acquireLock d l inverted peaking).Kept kof := by
  unfold Dev.acquireLock
  try dsimp only
  repeat' first
    | with_reducible assumption
    | intro _
    | with_reducible apply keep_ite
    | with_reducible apply Dev.putB_keeps
    | with_reducible apply Dev.put_keeps
    | with_reducible apply Dev.setAdapt_keeps
    | simp only [keep_mk]
    | dsimp only
    | split
    | with_reducible refine keep_fst (by with_reducible assumption) ?_

theorem Dev.laneFail_keeps {kof : KeptOf} (d : Dev) (l : Nat) (hd : d.Kept kof) :
    (Dev.laneFail d l).Kept kof := by
  unfold Dev.laneFail
  try dsimp only
  repeat' first
    | with_reducible assumption
    | intro _
    | with_reducible apply Dev.setAdapt_keeps
    | with_reducible apply Dev.put_keeps
    | with_reducible apply Dev.when_keeps
    | with_reducible apply Dev.failAttempt_keeps
    | simp only [keep_mk]
    | dsimp only
    | split
    | with_reducible refine keep_fst (by with_reducible assumption) ?_

theorem Dev.acquireTimeout_keeps {kof : KeptOf} (d : Dev) (l : Nat) (hd : d.Kept kof) :
    (Dev.acquireTimeout d l).Kept kof := by
  unfold Dev.acquireTimeout
  try dsimp only
  repeat' first
    | with_reducible assumption
    | intro _
    | with_reducible apply Dev.when_keeps
    | with_reducible apply Dev.laneFail_keeps
    | simp only [keep_mk]
    | dsimp only
    | split
    | with_reducible refine keep_fst (by with_reducible assumption) ?_

theorem Dev.adaptTimeout_keeps {kof : KeptOf} (d : Dev) (l : Nat) (hd : d.Kept kof) :
    (Dev.adaptTimeout d l).Kept kof := by
  unfold Dev.adaptTimeout
  try dsimp only
  repeat' first
    | with_reducible assumption
    | intro _
    | with_reducible apply Dev.when_keeps
    | with_reducible apply Dev.laneFail_keeps
    | simp only [keep_mk]
    | dsimp only
    | split
    | with_reducible refine keep_fst (by with_reducible assumption) ?_

theorem Dev.adaptConverged_keeps {kof : KeptOf} (d : Dev) (l tap : Nat) (hd : d.Kept kof) :
    (Dev.adaptConverged d l tap).Kept kof := by
  unfold Dev.adaptConverged
  try dsimp only
  repeat' first
    | with_reducible assumption
    | intro _
    | with_reducible apply keep_ite
    | with_reducible apply Dev.setAdapt_keeps
    | with_reducible apply Dev.put_keeps
    | with_reducible apply Dev.when_keeps
    | with_reducible apply Dev.each_keeps
    | with_reducible apply Dev.sendFrame_keeps
    | simp only [keep_mk]
    | dsimp only
    | split
    | with_reducible refine keep_fst (by with_reducible assumption) ?_

theorem Dev.drainLost_keeps {kof : KeptOf} (d : Dev) (p : Nat) (hd : d.Kept kof) :
    (Dev.drainLost d p).Kept kof := by
  unfold Dev.drainLost
  try dsimp only
  repeat' first
    | with_reducible assumption
    | intro _
    | with_reducible apply keep_ite
    | with_reducible apply Dev.enterOos_keeps
    | with_reducible apply Dev.enterDown_keeps
    | with_reducible apply Dev.put_keeps
    | simp only [keep_mk]
    | dsimp only
    | split
    | with_reducible refine keep_fst (by with_reducible assumption) ?_

theorem Dev.linkLosesLane_keeps {kof : KeptOf} (d : Dev) (p : Nat) (signal : Bool) (hd : d.Kept kof) :
    (Dev.linkLosesLane d p signal).Kept kof := by
  unfold Dev.linkLosesLane
  try dsimp only
  repeat' first
    | with_reducible assumption
    | intro _
    | with_reducible apply keep_ite
    | with_reducible apply Dev.drainLost_keeps
    | with_reducible apply Dev.enterRetrain_keeps
    | simp only [keep_mk]
    | dsimp only
    | split
    | with_reducible refine keep_fst (by with_reducible assumption) ?_

theorem Dev.lossOfSignal_keeps {kof : KeptOf} (d : Dev) (l : Nat) (signal : Bool) (hd : d.Kept kof) :
    (Dev.lossOfSignal d l signal).Kept kof := by
  unfold Dev.lossOfSignal
  try dsimp only
  repeat' first
    | with_reducible assumption
    | intro _
    | with_reducible apply keep_ite
    | with_reducible apply Dev.when_keeps
    | with_reducible apply Dev.put_keeps
    | with_reducible apply Dev.abortScan_keeps
    | with_reducible apply Dev.laneAcquire_keeps
    | with_reducible apply Dev.linkLosesLane_keeps
    | simp only [keep_mk]
    | dsimp only
    | split
    | with_reducible refine keep_fst (by with_reducible assumption) ?_

theorem Dev.rxQuiet_keeps {kof : KeptOf} (d : Dev) (l : Nat) (hd : d.Kept kof) :
    (Dev.rxQuiet d l).Kept kof := by
  unfold Dev.rxQuiet
  try dsimp only
  repeat' first
    | with_reducible assumption
    | intro _
    | with_reducible apply keep_ite
    | with_reducible apply Dev.scanRuns_keeps
    | with_reducible apply Dev.background_keeps
    | with_reducible apply Dev.setAdapt_keeps
    | with_reducible apply Dev.put_keeps
    | simp only [keep_mk]
    | dsimp only
    | split
    | with_reducible refine keep_fst (by with_reducible assumption) ?_

theorem Dev.relocked_keeps {kof : KeptOf} (d : Dev) (l : Nat) (hd : d.Kept kof) :
    (Dev.relocked d l).Kept kof := by
  unfold Dev.relocked
  try dsimp only
  repeat' first
    | with_reducible assumption
    | intro _
    | with_reducible apply keep_ite
    | with_reducible apply Dev.setAdapt_keeps
    | with_reducible apply Dev.put_keeps
    | simp only [keep_mk]
    | dsimp only
    | split
    | with_reducible refine keep_fst (by with_reducible assumption) ?_

theorem Dev.relockFails_keeps {kof : KeptOf} (d : Dev) (l : Nat) (hd : d.Kept kof) :
    (Dev.relockFails d l).Kept kof := by
  unfold Dev.relockFails
  try dsimp only
  repeat' first
    | with_reducible assumption
    | intro _
    | with_reducible apply keep_ite
    | with_reducible apply Dev.abortScan_keeps
    | with_reducible apply Dev.put_keeps
    | with_reducible apply Dev.laneAcquire_keeps
    | with_reducible apply Dev.linkLosesLane_keeps
    | simp only [keep_mk]
    | dsimp only
    | split
    | with_reducible refine keep_fst (by with_reducible assumption) ?_

theorem Dev.lineNow_keeps {kof : KeptOf} (d : Dev) (l : Nat) (was : Nat × Bool) (hd : d.Kept kof) :
    (Dev.lineNow d l was).Kept kof := by
  unfold Dev.lineNow
  try dsimp only
  repeat' first
    | with_reducible assumption
    | intro _
    | with_reducible apply Dev.when_keeps
    | with_reducible apply Dev.emit_keeps
    | simp only [keep_mk]
    | dsimp only
    | split
    | with_reducible refine keep_fst (by with_reducible assumption) ?_

theorem Dev.polarity_keeps {kof : KeptOf} (d : Dev) (l : Nat) (hd : d.Kept kof) :
    (Dev.polarity d l).Kept kof := by
  unfold Dev.polarity
  try dsimp only
  repeat' first
    | with_reducible assumption
    | intro _
    | with_reducible apply Dev.when_keeps
    | with_reducible apply Dev.put_keeps
    | simp only [keep_mk]
    | dsimp only
    | split
    | with_reducible refine keep_fst (by with_reducible assumption) ?_

theorem Dev.rxeq_keeps {kof : KeptOf} (d : Dev) (l : Nat) (v : Word) (hd : d.Kept kof) :
    (Dev.rxeq d l v).Kept kof := by
  unfold Dev.rxeq
  try dsimp only
  repeat' first
    | with_reducible assumption
    | intro _
    | with_reducible apply Dev.background_keeps
    | with_reducible apply Dev.wrFields_keeps
    | with_reducible apply Dev.when_keeps
    | with_reducible apply Dev.put_keeps
    | simp only [keep_mk]
    | dsimp only
    | split
    | with_reducible refine keep_fst (by with_reducible assumption) ?_

theorem Dev.idleWrite_keeps {kof : KeptOf} (d : Dev) (l : Nat) (v : Word) (hd : d.Kept kof) :
    (Dev.idleWrite d l v).Kept kof := by
  unfold Dev.idleWrite
  try dsimp only
  repeat' first
    | with_reducible assumption
    | intro _
    | with_reducible apply Dev.wrFields_keeps
    | with_reducible apply Dev.when_keeps
    | with_reducible apply Dev.each_keeps
    | with_reducible apply Dev.txWakes_keeps
    | with_reducible apply Dev.put_keeps
    | simp only [keep_mk]
    | dsimp only
    | split
    | with_reducible refine keep_fst (by with_reducible assumption) ?_

theorem Dev.laneCtrl_keeps {kof : KeptOf} (d : Dev) (l : Nat) (v : Word) (hd : d.Kept kof) :
    (Dev.laneCtrl d l v).Kept kof := by
  unfold Dev.laneCtrl
  try dsimp only
  repeat' first
    | with_reducible assumption
    | intro _
    | with_reducible apply Dev.wrFields_keeps
    | with_reducible apply Dev.when_keeps
    | with_reducible apply Dev.abortScan_keeps
    | with_reducible apply Dev.laneOff_keeps
    | with_reducible apply Dev.put_keeps
    | with_reducible apply Dev.linkLosesLane_keeps
    | with_reducible apply Dev.rxWakes_keeps
    | with_reducible apply Dev.txWakes_keeps
    | with_reducible apply Dev.polarity_keeps
    | with_reducible apply Dev.lineNow_keeps
    | simp only [keep_mk]
    | dsimp only
    | split
    | with_reducible refine keep_fst (by with_reducible assumption) ?_

theorem Dev.txQuiet_keeps {kof : KeptOf} (d : Dev) (p : Nat) (hd : d.Kept kof) :
    (Dev.txQuiet d p).Kept kof := by
  unfold Dev.txQuiet
  try dsimp only
  repeat' first
    | with_reducible assumption
    | intro _
    | with_reducible apply keep_ite
    | with_reducible apply Dev.each_keeps
    | with_reducible apply Dev.when_keeps
    | with_reducible apply Dev.put_keeps
    | simp only [keep_mk]
    | dsimp only
    | split
    | with_reducible refine keep_fst (by with_reducible assumption) ?_

theorem Dev.txWake_keeps {kof : KeptOf} (d : Dev) (p : Nat) (hd : d.Kept kof) :
    (Dev.txWake d p).Kept kof := by
  unfold Dev.txWake
  try dsimp only
  repeat' first
    | with_reducible assumption
    | intro _
    | with_reducible apply keep_ite
    | with_reducible apply Dev.moveTx_keeps
    | simp only [keep_mk]
    | dsimp only
    | split
    | with_reducible refine keep_fst (by with_reducible assumption) ?_

theorem Dev.maintBurst_keeps {kof : KeptOf} (d : Dev) (p : Nat) (hd : d.Kept kof) :
    (Dev.maintBurst d p).Kept kof := by
  unfold Dev.maintBurst
  try dsimp only
  repeat' first
    | with_reducible assumption
    | intro _
    | with_reducible apply keep_ite
    | with_reducible apply Dev.modLink_keeps
    | simp only [keep_mk]
    | dsimp only
    | split
    | with_reducible refine keep_fst (by with_reducible assumption) ?_

theorem Dev.codeword_keeps {kof : KeptOf} (d : Dev) (p result flits : Nat) (hd : d.Kept kof) :
    (Dev.codeword d p result flits).Kept kof := by
  unfold Dev.codeword
  try dsimp only
  repeat' first
    | with_reducible assumption
    | intro _
    | with_reducible apply keep_ite
    | with_reducible apply Dev.incF_keeps
    | with_reducible apply Dev.portEvent_keeps
    | with_reducible apply Dev.when_keeps
    | with_reducible apply Dev.modLink_keeps
    | simp only [keep_mk]
    | dsimp only
    | split
    | with_reducible refine keep_fst (by with_reducible assumption) ?_

theorem Dev.parityError_keeps {kof : KeptOf} (d : Dev) (p : Nat) (hd : d.Kept kof) :
    (Dev.parityError d p).Kept kof := by
  unfold Dev.parityError
  try dsimp only
  repeat' first
    | with_reducible assumption
    | intro _
    | with_reducible apply keep_ite
    | with_reducible apply Dev.greenwareFatal_keeps
    | simp only [keep_mk]
    | dsimp only
    | split
    | with_reducible refine keep_fst (by with_reducible assumption) ?_

theorem Dev.testStart_keeps {kof : KeptOf} (d : Dev) (l : Nat) (hd : d.Kept kof) :
    (Dev.testStart d l).Kept kof := by
  unfold Dev.testStart
  try dsimp only
  repeat' first
    | with_reducible assumption
    | intro _
    | with_reducible apply keep_ite
    | with_reducible apply Dev.txWakes_keeps
    | with_reducible apply Dev.rxWakes_keeps
    | simp only [keep_mk]
    | dsimp only
    | split
    | with_reducible refine keep_fst (by with_reducible assumption) ?_

theorem Dev.patternsOff_keeps {kof : KeptOf} (d : Dev) (p : Nat) (hd : d.Kept kof) :
    (Dev.patternsOff d p).Kept kof := by
  unfold Dev.patternsOff
  try dsimp only
  repeat' first
    | with_reducible assumption
    | intro _
    | with_reducible apply Dev.each_keeps
    | with_reducible apply Dev.put_keeps
    | simp only [keep_mk]
    | dsimp only
    | split
    | with_reducible refine keep_fst (by with_reducible assumption) ?_

theorem Dev.testQuiet_keeps {kof : KeptOf} (d : Dev) (l : Nat) (hd : d.Kept kof) :
    (Dev.testQuiet d l).Kept kof := by
  unfold Dev.testQuiet
  try dsimp only
  repeat' first
    | with_reducible assumption
    | intro _
    | with_reducible apply Dev.when_keeps
    | with_reducible apply Dev.put_keeps
    | simp only [keep_mk]
    | dsimp only
    | split
    | with_reducible refine keep_fst (by with_reducible assumption) ?_

theorem Dev.testSerial_keeps {kof : KeptOf} (d : Dev) (l : Nat) (hd : d.Kept kof) :
    (Dev.testSerial d l).Kept kof := by
  unfold Dev.testSerial
  try dsimp only
  repeat' first
    | with_reducible assumption
    | intro _
    | with_reducible apply keep_ite
    | with_reducible apply Dev.when_keeps
    | with_reducible apply Dev.put_keeps
    | with_reducible apply Dev.rxWakes_keeps
    | simp only [keep_mk]
    | dsimp only
    | split
    | with_reducible refine keep_fst (by with_reducible assumption) ?_

theorem Dev.loopback_keeps {kof : KeptOf} (d : Dev) (p : Nat) (v : Word) (hd : d.Kept kof) :
    (Dev.loopback d p v).Kept kof := by
  unfold Dev.loopback
  try dsimp only
  repeat' first
    | with_reducible assumption
    | intro _
    | with_reducible apply keep_ite
    | with_reducible apply Dev.wrFields_keeps
    | with_reducible apply Dev.put_keeps
    | with_reducible apply Dev.each_keeps
    | with_reducible apply Dev.testStart_keeps
    | with_reducible apply Dev.testSerial_keeps
    | with_reducible apply Dev.testQuiet_keeps
    | with_reducible apply Dev.when_keeps
    | with_reducible apply Dev.lanesOff_keeps
    | with_reducible apply Dev.patternsOff_keeps
    | with_reducible apply Dev.setState_keeps
    | with_reducible apply Dev.lineNow_keeps
    | simp only [keep_mk]
    | dsimp only
    | split
    | with_reducible refine keep_fst (by with_reducible assumption) ?_

theorem Dev.checkerRuns_keeps {kof : KeptOf} (d : Dev) (l : Nat) (hd : d.Kept kof) :
    (Dev.checkerRuns d l).Kept kof := by
  unfold Dev.checkerRuns
  try dsimp only
  repeat' first
    | with_reducible assumption
    | intro _
    | with_reducible apply keep_ite
    | with_reducible apply Dev.incBy_keeps
    | with_reducible apply Dev.freed_keeps
    | simp only [keep_mk]
    | dsimp only
    | split
    | with_reducible refine keep_fst (by with_reducible assumption) ?_

theorem Dev.patternCtrl_keeps {kof : KeptOf} (d : Dev) (l : Nat) (v : Word) (hd : d.Kept kof) :
    (Dev.patternCtrl d l v).Kept kof := by
  unfold Dev.patternCtrl
  try dsimp only
  repeat' first
    | with_reducible assumption
    | intro _
    | with_reducible apply Dev.checkerRuns_keeps
    | with_reducible apply Dev.put_keeps
    | with_reducible apply Dev.putB_keeps
    | with_reducible apply Dev.when_keeps
    | with_reducible apply Dev.testStart_keeps
    | with_reducible apply Dev.lineNow_keeps
    | simp only [keep_mk]
    | dsimp only
    | split
    | with_reducible refine keep_fst (by with_reducible assumption) ?_

theorem Dev.checkerLock_keeps {kof : KeptOf} (d : Dev) (l : Nat) (hd : d.Kept kof) :
    (Dev.checkerLock d l).Kept kof := by
  unfold Dev.checkerLock
  try dsimp only
  repeat' first
    | with_reducible assumption
    | intro _
    | with_reducible apply Dev.when_keeps
    | with_reducible apply Dev.put_keeps
    | simp only [keep_mk]
    | dsimp only
    | split
    | with_reducible refine keep_fst (by with_reducible assumption) ?_

theorem Dev.checkerLoss_keeps {kof : KeptOf} (d : Dev) (l errors : Nat) (hd : d.Kept kof) :
    (Dev.checkerLoss d l errors).Kept kof := by
  unfold Dev.checkerLoss
  try dsimp only
  repeat' first
    | with_reducible assumption
    | intro _
    | with_reducible apply keep_ite
    | with_reducible apply Dev.incBy_keeps
    | with_reducible apply Dev.put_keeps
    | simp only [keep_mk]
    | dsimp only
    | split
    | with_reducible refine keep_fst (by with_reducible assumption) ?_

theorem Dev.eyeStart_keeps {kof : KeptOf} (d : Dev) (l : Nat) (v : Word) (hd : d.Kept kof) :
    (Dev.eyeStart d l v).Kept kof := by
  unfold Dev.eyeStart
  try dsimp only
  repeat' first
    | with_reducible assumption
    | intro _
    | with_reducible apply keep_ite
    | with_reducible apply Dev.wrFields_keeps
    | with_reducible apply Dev.put_keeps
    | simp only [keep_mk]
    | dsimp only
    | split
    | with_reducible refine keep_fst (by with_reducible assumption) ?_

theorem Dev.eyeStop_keeps {kof : KeptOf} (d : Dev) (l : Nat) (hd : d.Kept kof) :
    (Dev.eyeStop d l).Kept kof := by
  unfold Dev.eyeStop
  try dsimp only
  repeat' first
    | with_reducible assumption
    | intro _
    | with_reducible apply Dev.abortScan_keeps
    | simp only [keep_mk]
    | dsimp only
    | split
    | with_reducible refine keep_fst (by with_reducible assumption) ?_

theorem Dev.eyeDone_keeps {kof : KeptOf} (d : Dev) (l errors : Nat) (hd : d.Kept kof) :
    (Dev.eyeDone d l errors).Kept kof := by
  unfold Dev.eyeDone
  try dsimp only
  repeat' first
    | with_reducible assumption
    | intro _
    | with_reducible apply keep_ite
    | with_reducible apply Dev.put_keeps
    | simp only [keep_mk]
    | dsimp only
    | split
    | with_reducible refine keep_fst (by with_reducible assumption) ?_

/-! Machine/Links.lean -/

theorem Dev.dataFlit_keeps {kof : KeptOf} (d : Dev) (p : Nat) (c : Ctrl) (b : Body) (hd : d.Kept kof) :
    (Dev.dataFlit d p c b).Kept kof := by
  unfold Dev.dataFlit
  try dsimp only
  repeat' first
    | with_reducible assumption
    | intro _
    | with_reducible apply keep_ite
    | with_reducible apply Dev.receive_keeps
    | with_reducible apply Dev.applyAck_keeps
    | with_reducible apply Dev.sequenced_keeps
    | with_reducible apply Dev.protoError_keeps
    | with_reducible apply Dev.acceptSeq_keeps
    | with_reducible apply Dev.dataIn_keeps
    | simp only [keep_mk]
    | simp only [id_eq]
    | dsimp only
    | split
    | with_reducible refine keep_fst (by with_reducible assumption) ?_

theorem Dev.idleFlit_keeps {kof : KeptOf} (d : Dev) (p : Nat) (c : Ctrl) (hd : d.Kept kof) :
    (Dev.idleFlit d p c).Kept kof := by
  unfold Dev.idleFlit
  try dsimp only
  repeat' first
    | with_reducible assumption
    | intro _
    | with_reducible apply Dev.receive_keeps
    | with_reducible apply Dev.applyAck_keeps
    | simp only [keep_mk]
    | dsimp only
    | split
    | with_reducible refine keep_fst (by with_reducible assumption) ?_

theorem Dev.badFlit_keeps {kof : KeptOf} (d : Dev) (p : Nat) (crc : Bool) (hd : d.Kept kof) :
    (Dev.badFlit d p crc).Kept kof := by
  unfold Dev.badFlit
  try dsimp only
  repeat' first
    | with_reducible assumption
    | intro _
    | with_reducible apply keep_ite
    | with_reducible apply Dev.takeMark_keeps
    | with_reducible apply Dev.crcFails_keeps
    | with_reducible apply Dev.protoError_keeps
    | simp only [keep_mk]
    | dsimp only
    | split
    | with_reducible refine keep_fst (by with_reducible assumption) ?_

theorem Dev.outOfWindow_keeps {kof : KeptOf} (d : Dev) (p : Nat) (hd : d.Kept kof) :
    (Dev.outOfWindow d p).Kept kof := by
  unfold Dev.outOfWindow
  try dsimp only
  repeat' first
    | with_reducible assumption
    | intro _
    | with_reducible apply Dev.inc_keeps
    | with_reducible apply Dev.enterRetrain_keeps
    | simp only [keep_mk]
    | dsimp only
    | split
    | with_reducible refine keep_fst (by with_reducible assumption) ?_

theorem Dev.replayRequest_keeps {kof : KeptOf} (d : Dev) (p s : Nat) (hd : d.Kept kof) :
    (Dev.replayRequest d p s).Kept kof := by
  unfold Dev.replayRequest
  try dsimp only
  repeat' first
    | with_reducible assumption
    | intro _
    | with_reducible apply keep_ite
    | with_reducible apply Dev.ackFlits_keeps
    | with_reducible apply Dev.replayFrom_keeps
    | with_reducible apply Dev.outOfWindow_keeps
    | simp only [keep_mk]
    | dsimp only
    | split
    | with_reducible refine keep_fst (by with_reducible assumption) ?_

theorem Dev.linkctlIn_keeps {kof : KeptOf} (d : Dev) (p sub : Nat) (c : Ctrl) (act : Dev → Dev) (hd : d.Kept kof) (hact : ∀ d, d.Kept kof → (act d).Kept kof) :
    (Dev.linkctlIn d p sub c act).Kept kof := by
  unfold Dev.linkctlIn
  try dsimp only
  repeat' first
    | with_reducible assumption
    | intro _
    | with_reducible apply keep_ite
    | with_reducible apply Dev.receive_keeps
    | with_reducible apply Dev.receiveLinkctl_keeps
    | simp only [keep_mk]
    | with_reducible apply hact
    | simp only [id_eq]
    | dsimp only
    | split
    | with_reducible refine keep_fst (by with_reducible assumption) ?_

theorem Dev.replayReqIn_keeps {kof : KeptOf} (d : Dev) (p : Nat) (c : Ctrl) (b : Body) (hd : d.Kept kof) :
    (Dev.replayReqIn d p c b).Kept kof := by
  unfold Dev.replayReqIn
  try dsimp only
  repeat' first
    | with_reducible assumption
    | intro _
    | with_reducible apply Dev.linkctlIn_keeps
    | with_reducible apply Dev.replayRequest_keeps
    | simp only [keep_mk]
    | dsimp only
    | split
    | with_reducible refine keep_fst (by with_reducible assumption) ?_

theorem Dev.replayStartIn_keeps {kof : KeptOf} (d : Dev) (p : Nat) (c : Ctrl) (b : Body) (hd : d.Kept kof) :
    (Dev.replayStartIn d p c b).Kept kof := by
  unfold Dev.replayStartIn
  try dsimp only
  repeat' first
    | with_reducible assumption
    | intro _
    | with_reducible apply keep_ite
    | with_reducible apply Dev.linkctlIn_keeps
    | with_reducible apply Dev.modLink_keeps
    | simp only [keep_mk]
    | dsimp only
    | split
    | with_reducible refine keep_fst (by with_reducible assumption) ?_

theorem Dev.replayTimer_keeps {kof : KeptOf} (d : Dev) (p : Nat) (hd : d.Kept kof) :
    (Dev.replayTimer d p).Kept kof := by
  unfold Dev.replayTimer
  try dsimp only
  repeat' first
    | with_reducible assumption
    | intro _
    | with_reducible apply keep_ite
    | with_reducible apply Dev.replayFrom_keeps
    | simp only [keep_mk]
    | dsimp only
    | split
    | with_reducible refine keep_fst (by with_reducible assumption) ?_

theorem Dev.ackFalls_keeps {kof : KeptOf} (d : Dev) (p : Nat) (hd : d.Kept kof) :
    (Dev.ackFalls d p).Kept kof := by
  unfold Dev.ackFalls
  try dsimp only
  repeat' first
    | with_reducible assumption
    | intro _
    | with_reducible apply keep_ite
    | with_reducible apply Dev.modLink_keeps
    | simp only [keep_mk]
    | dsimp only
    | split
    | with_reducible refine keep_fst (by with_reducible assumption) ?_

theorem Dev.creditFalls_keeps {kof : KeptOf} (d : Dev) (p : Nat) (hd : d.Kept kof) :
    (Dev.creditFalls d p).Kept kof := by
  unfold Dev.creditFalls
  try dsimp only
  repeat' first
    | with_reducible assumption
    | intro _
    | with_reducible apply keep_ite
    | with_reducible apply Dev.modLink_keeps
    | simp only [keep_mk]
    | dsimp only
    | split
    | with_reducible refine keep_fst (by with_reducible assumption) ?_

theorem Dev.trainSend_keeps {kof : KeptOf} (d : Dev) (p : Nat) (hd : d.Kept kof) :
    (Dev.trainSend d p).Kept kof := by
  unfold Dev.trainSend
  try dsimp only
  repeat' first
    | with_reducible assumption
    | intro _
    | with_reducible apply keep_ite
    | with_reducible apply Dev.sendLinkctl_keeps
    | simp only [keep_mk]
    | dsimp only
    | split
    | with_reducible refine keep_fst (by with_reducible assumption) ?_

theorem Dev.peerSeen_keeps {kof : KeptOf} (d : Dev) (p : Nat) (b : Body) (hd : d.Kept kof) :
    (Dev.peerSeen d p b).Kept kof := by
  unfold Dev.peerSeen
  try dsimp only
  repeat' first
    | with_reducible assumption
    | intro _
    | with_reducible apply Dev.put_keeps
    | simp only [keep_mk]
    | dsimp only
    | split
    | with_reducible refine keep_fst (by with_reducible assumption) ?_

theorem Dev.trainTake_keeps {kof : KeptOf} (d : Dev) (p : Nat) (b : Body) (hd : d.Kept kof) :
    (Dev.trainTake d p b).Kept kof := by
  unfold Dev.trainTake
  try dsimp only
  repeat' first
    | with_reducible assumption
    | intro _
    | with_reducible apply keep_ite
    | with_reducible apply Dev.modLink_keeps
    | with_reducible apply Dev.when_keeps
    | with_reducible apply Dev.sendLinkctl_keeps
    | with_reducible apply Dev.enterUp_keeps
    | simp only [keep_mk]
    | dsimp only
    | split
    | with_reducible refine keep_fst (by with_reducible assumption) ?_

theorem Dev.trainIn_keeps {kof : KeptOf} (d : Dev) (p : Nat) (c : Ctrl) (b : Body) (hd : d.Kept kof) :
    (Dev.trainIn d p c b).Kept kof := by
  unfold Dev.trainIn
  try dsimp only
  repeat' first
    | with_reducible assumption
    | intro _
    | with_reducible apply keep_ite
    | with_reducible apply Dev.receive_keeps
    | with_reducible apply Dev.peerSeen_keeps
    | with_reducible apply Dev.failAttempt_keeps
    | with_reducible apply Dev.trainTake_keeps
    | simp only [keep_mk]
    | simp only [id_eq]
    | dsimp only
    | split
    | with_reducible refine keep_fst (by with_reducible assumption) ?_

theorem Dev.lanePhaseDone_keeps {kof : KeptOf} (d : Dev) (p : Nat) (hd : d.Kept kof) :
    (Dev.lanePhaseDone d p).Kept kof := by
  unfold Dev.lanePhaseDone
  try dsimp only
  repeat' first
    | with_reducible assumption
    | intro _
    | with_reducible apply keep_ite
    | with_reducible apply Dev.modLink_keeps
    | simp only [keep_mk]
    | dsimp only
    | split
    | with_reducible refine keep_fst (by with_reducible assumption) ?_

theorem Dev.alignmentDone_keeps {kof : KeptOf} (d : Dev) (p : Nat) (hd : d.Kept kof) :
    (Dev.alignmentDone d p).Kept kof := by
  unfold Dev.alignmentDone
  try dsimp only
  repeat' first
    | with_reducible assumption
    | intro _
    | with_reducible apply keep_ite
    | with_reducible apply Dev.modLink_keeps
    | simp only [keep_mk]
    | dsimp only
    | split
    | with_reducible refine keep_fst (by with_reducible assumption) ?_

theorem Dev.trainTimeout_keeps {kof : KeptOf} (d : Dev) (p : Nat) (hd : d.Kept kof) :
    (Dev.trainTimeout d p).Kept kof := by
  unfold Dev.trainTimeout
  try dsimp only
  repeat' first
    | with_reducible assumption
    | intro _
    | with_reducible apply keep_ite
    | with_reducible apply Dev.failAttempt_keeps
    | simp only [keep_mk]
    | dsimp only
    | split
    | with_reducible refine keep_fst (by with_reducible assumption) ?_

theorem Dev.oosNotice_keeps {kof : KeptOf} (d : Dev) (p : Nat) (c : Ctrl) (hd : d.Kept kof) :
    (Dev.oosNotice d p c).Kept kof := by
  unfold Dev.oosNotice
  try dsimp only
  repeat' first
    | with_reducible assumption
    | intro _
    | with_reducible apply Dev.linkctlIn_keeps
    | with_reducible apply Dev.when_keeps
    | with_reducible apply Dev.startDrain_keeps
    | simp only [keep_mk]
    | dsimp only
    | split
    | with_reducible refine keep_fst (by with_reducible assumption) ?_

theorem Dev.sayDrained_keeps {kof : KeptOf} (d : Dev) (p : Nat) (hd : d.Kept kof) :
    (Dev.sayDrained d p).Kept kof := by
  unfold Dev.sayDrained
  try dsimp only
  repeat' first
    | with_reducible assumption
    | intro _
    | with_reducible apply keep_ite
    | with_reducible apply Dev.modLink_keeps
    | with_reducible apply Dev.sendLinkctl_keeps
    | simp only [keep_mk]
    | dsimp only
    | split
    | with_reducible refine keep_fst (by with_reducible assumption) ?_

theorem Dev.drainEnds_keeps {kof : KeptOf} (d : Dev) (p : Nat) (hd : d.Kept kof) :
    (Dev.drainEnds d p).Kept kof := by
  unfold Dev.drainEnds
  try dsimp only
  repeat' first
    | with_reducible assumption
    | intro _
    | with_reducible apply keep_ite
    | with_reducible apply Dev.sayDrained_keeps
    | with_reducible apply Dev.when_keeps
    | with_reducible apply Dev.enterOos_keeps
    | simp only [keep_mk]
    | dsimp only
    | split
    | with_reducible refine keep_fst (by with_reducible assumption) ?_

theorem Dev.drainedIn_keeps {kof : KeptOf} (d : Dev) (p : Nat) (c : Ctrl) (hd : d.Kept kof) :
    (Dev.drainedIn d p c).Kept kof := by
  unfold Dev.drainedIn
  try dsimp only
  repeat' first
    | with_reducible assumption
    | intro _
    | with_reducible apply keep_ite
    | with_reducible apply Dev.linkctlIn_keeps
    | with_reducible apply Dev.modLink_keeps
    | with_reducible apply Dev.drainEnds_keeps
    | simp only [keep_mk]
    | dsimp only
    | split
    | with_reducible refine keep_fst (by with_reducible assumption) ?_

theorem Dev.drainTimeout_keeps {kof : KeptOf} (d : Dev) (p : Nat) (hd : d.Kept kof) :
    (Dev.drainTimeout d p).Kept kof := by
  unfold Dev.drainTimeout
  try dsimp only
  repeat' first
    | with_reducible assumption
    | intro _
    | with_reducible apply keep_ite
    | with_reducible apply Dev.enterOos_keeps
    | simp only [keep_mk]
    | dsimp only
    | split
    | with_reducible refine keep_fst (by with_reducible assumption) ?_

theorem Dev.retrainReqIn_keeps {kof : KeptOf} (d : Dev) (p : Nat) (c : Ctrl) (hd : d.Kept kof) :
    (Dev.retrainReqIn d p c).Kept kof := by
  unfold Dev.retrainReqIn
  try dsimp only
  repeat' first
    | with_reducible assumption
    | intro _
    | with_reducible apply Dev.linkctlIn_keeps
    | with_reducible apply Dev.enterRetrain_keeps
    | simp only [keep_mk]
    | dsimp only
    | split
    | with_reducible refine keep_fst (by with_reducible assumption) ?_

theorem Dev.downProbe_keeps {kof : KeptOf} (d : Dev) (p : Nat) (hd : d.Kept kof) :
    (Dev.downProbe d p).Kept kof := by
  unfold Dev.downProbe
  try dsimp only
  repeat' first
    | with_reducible assumption
    | intro _
    | with_reducible apply keep_ite
    | with_reducible apply Dev.startAttempt_keeps
    | simp only [keep_mk]
    | dsimp only
    | split
    | with_reducible refine keep_fst (by with_reducible assumption) ?_

theorem Dev.signalOn_keeps {kof : KeptOf} (d : Dev) (p : Nat) (hd : d.Kept kof) :
    (Dev.signalOn d p).Kept kof := by
  unfold Dev.signalOn
  try dsimp only
  repeat' first
    | with_reducible assumption
    | intro _
    | with_reducible apply keep_ite
    | with_reducible apply Dev.each_keeps
    | with_reducible apply Dev.put_keeps
    | with_reducible apply Dev.startAttempt_keeps
    | simp only [keep_mk]
    | dsimp only
    | split
    | with_reducible refine keep_fst (by with_reducible assumption) ?_

theorem Dev.disablePort_keeps {kof : KeptOf} (d : Dev) (p : Nat) (hd : d.Kept kof) :
    (Dev.disablePort d p).Kept kof := by
  unfold Dev.disablePort
  try dsimp only
  repeat' first
    | with_reducible assumption
    | intro _
    | with_reducible apply keep_ite
    | with_reducible apply Dev.advanceInc_keeps
    | with_reducible apply Dev.dropHeld_keeps
    | with_reducible apply Dev.when_keeps
    | with_reducible apply Dev.leaveUp_keeps
    | with_reducible apply Dev.setState_keeps
    | with_reducible apply Dev.endDrain_keeps
    | with_reducible apply Dev.modLink_keeps
    | with_reducible apply Dev.lanesOff_keeps
    | with_reducible apply Dev.patternsOff_keeps
    | simp only [keep_mk]
    | dsimp only
    | split
    | with_reducible refine keep_fst (by with_reducible assumption) ?_

theorem Dev.lnkCtrl_keeps {kof : KeptOf} (d : Dev) (p : Nat) (v : Word) (hd : d.Kept kof) :
    (Dev.lnkCtrl d p v).Kept kof := by
  unfold Dev.lnkCtrl
  try dsimp only
  repeat' first
    | with_reducible assumption
    | intro _
    | with_reducible apply keep_ite
    | with_reducible apply Dev.put_keeps
    | with_reducible apply Dev.wrFields_keeps
    | with_reducible apply Dev.disablePort_keeps
    | with_reducible apply Dev.when_keeps
    | with_reducible apply Dev.enterTraining_keeps
    | simp only [keep_mk]
    | dsimp only
    | split
    | with_reducible refine keep_fst (by with_reducible assumption) ?_

theorem Dev.cmdStatus_keeps {kof : KeptOf} (d : Dev) (p st : Nat) (hd : d.Kept kof) :
    (Dev.cmdStatus d p st).Kept kof := by
  unfold Dev.cmdStatus
  try dsimp only
  repeat' first
    | with_reducible assumption
    | intro _
    | with_reducible apply Dev.put_keeps
    | simp only [keep_mk]
    | dsimp only
    | split
    | with_reducible refine keep_fst (by with_reducible assumption) ?_

theorem Dev.cmdRetrain_keeps {kof : KeptOf} (d : Dev) (p : Nat) (hd : d.Kept kof) :
    (Dev.cmdRetrain d p).Kept kof := by
  unfold Dev.cmdRetrain
  try dsimp only
  repeat' first
    | with_reducible assumption
    | intro _
    | with_reducible apply keep_ite
    | with_reducible apply Dev.cmdStatus_keeps
    | with_reducible apply Dev.enterRetrain_keeps
    | simp only [keep_mk]
    | dsimp only
    | split
    | with_reducible refine keep_fst (by with_reducible assumption) ?_

theorem Dev.cmdOos_keeps {kof : KeptOf} (d : Dev) (p : Nat) (hd : d.Kept kof) :
    (Dev.cmdOos d p).Kept kof := by
  unfold Dev.cmdOos
  try dsimp only
  repeat' first
    | with_reducible assumption
    | intro _
    | with_reducible apply keep_ite
    | with_reducible apply Dev.cmdStatus_keeps
    | with_reducible apply Dev.startDrain_keeps
    | with_reducible apply Dev.sendLinkctl_keeps
    | with_reducible apply Dev.enterOos_keeps
    | simp only [keep_mk]
    | dsimp only
    | split
    | with_reducible refine keep_fst (by with_reducible assumption) ?_

theorem Dev.cmdInService_keeps {kof : KeptOf} (d : Dev) (p : Nat) (hd : d.Kept kof) :
    (Dev.cmdInService d p).Kept kof := by
  unfold Dev.cmdInService
  try dsimp only
  repeat' first
    | with_reducible assumption
    | intro _
    | with_reducible apply keep_ite
    | with_reducible apply Dev.cmdStatus_keeps
    | with_reducible apply Dev.patternsOff_keeps
    | with_reducible apply Dev.enterTraining_keeps
    | simp only [keep_mk]
    | dsimp only
    | split
    | with_reducible refine keep_fst (by with_reducible assumption) ?_

theorem Dev.bypassIn_keeps {kof : KeptOf} (d : Dev) (p code : Nat) (c : Ctrl) (act : Dev → Dev) (hd : d.Kept kof) (hact : ∀ d, d.Kept kof → (act d).Kept kof) :
    (Dev.bypassIn d p code c act).Kept kof := by
  unfold Dev.bypassIn
  try dsimp only
  repeat' first
    | with_reducible assumption
    | intro _
    | with_reducible apply keep_ite
    | with_reducible apply Dev.receive_keeps
    | with_reducible apply Dev.receiveBypass_keeps
    | simp only [keep_mk]
    | with_reducible apply hact
    | simp only [id_eq]
    | dsimp only
    | split
    | with_reducible refine keep_fst (by with_reducible assumption) ?_

theorem Dev.creditIn_keeps {kof : KeptOf} (d : Dev) (p : Nat) (c : Ctrl) (b : Body) (hd : d.Kept kof) :
    (Dev.creditIn d p c b).Kept kof := by
  unfold Dev.creditIn
  try dsimp only
  repeat' first
    | with_reducible assumption
    | intro _
    | with_reducible apply Dev.bypassIn_keeps
    | with_reducible apply Dev.each_keeps
    | with_reducible apply Dev.applyCredit_keeps
    | simp only [keep_mk]
    | dsimp only
    | split
    | with_reducible refine keep_fst (by with_reducible assumption) ?_

theorem Dev.auditCredit_keeps {kof : KeptOf} (d : Dev) (p v ret : Nat) (hd : d.Kept kof) :
    (Dev.auditCredit d p v ret).Kept kof := by
  unfold Dev.auditCredit
  try dsimp only
  repeat' first
    | with_reducible assumption
    | intro _
    | with_reducible apply keep_ite
    | with_reducible apply Dev.setChan_keeps
    | with_reducible apply Dev.inc_keeps
    | with_reducible apply Dev.raise_keeps
    | simp only [keep_mk]
    | dsimp only
    | split
    | with_reducible refine keep_fst (by with_reducible assumption) ?_

theorem Dev.auditChannel_keeps {kof : KeptOf} (d : Dev) (p v ret acc : Nat) (hd : d.Kept kof) :
    (Dev.auditChannel d p v ret acc).Kept kof := by
  unfold Dev.auditChannel
  try dsimp only
  repeat' first
    | with_reducible assumption
    | intro _
    | with_reducible apply keep_ite
    | with_reducible apply Dev.auditCredit_keeps
    | with_reducible apply Dev.inc_keeps
    | with_reducible apply Dev.raise_keeps
    | simp only [keep_mk]
    | dsimp only
    | split
    | with_reducible refine keep_fst (by with_reducible assumption) ?_

theorem Dev.audit_keeps {kof : KeptOf} (d : Dev) (p : Nat) (b : Body) (hd : d.Kept kof) :
    (Dev.audit d p b).Kept kof := by
  unfold Dev.audit
  try dsimp only
  repeat' first
    | with_reducible assumption
    | intro _
    | with_reducible apply keep_ite
    | with_reducible apply Dev.each_keeps
    | with_reducible apply Dev.auditChannel_keeps
    | with_reducible apply Dev.enterRetrain_keeps
    | with_reducible apply Dev.advanceInc_keeps
    | simp only [keep_mk]
    | dsimp only
    | split
    | with_reducible refine keep_fst (by with_reducible assumption) ?_

theorem Dev.auditIn_keeps {kof : KeptOf} (d : Dev) (p : Nat) (c : Ctrl) (b : Body) (hd : d.Kept kof) :
    (Dev.auditIn d p c b).Kept kof := by
  unfold Dev.auditIn
  try dsimp only
  repeat' first
    | with_reducible assumption
    | intro _
    | with_reducible apply keep_ite
    | with_reducible apply Dev.receive_keeps
    | with_reducible apply Dev.takeBypass_keeps
    | with_reducible apply Dev.audit_keeps
    | with_reducible apply Dev.acceptSeq_keeps
    | simp only [keep_mk]
    | simp only [id_eq]
    | dsimp only
    | split
    | with_reducible refine keep_fst (by with_reducible assumption) ?_

theorem Dev.auditSend_keeps {kof : KeptOf} (d : Dev) (p : Nat) (hd : d.Kept kof) :
    (Dev.auditSend d p).Kept kof := by
  unfold Dev.auditSend
  try dsimp only
  repeat' first
    | with_reducible assumption
    | intro _
    | with_reducible apply keep_ite
    | with_reducible apply Dev.each_keeps
    | with_reducible apply Dev.sendBypass_keeps
    | with_reducible apply Dev.modLink_keeps
    | simp only [keep_mk]
    | dsimp only
    | split
    | with_reducible refine keep_fst (by with_reducible assumption) ?_

theorem Dev.timeSend_keeps {kof : KeptOf} (d : Dev) (p : Nat) (hd : d.Kept kof) :
    (Dev.timeSend d p).Kept kof := by
  unfold Dev.timeSend
  try dsimp only
  repeat' first
    | with_reducible assumption
    | intro _
    | with_reducible apply keep_ite
    | with_reducible apply Dev.sendBypass_keeps
    | simp only [keep_mk]
    | dsimp only
    | split
    | with_reducible refine keep_fst (by with_reducible assumption) ?_

/-! Machine/Groups.lean -/

theorem Dev.groupsProceed_keeps {kof : KeptOf} (d : Dev) (q : Nat) (hd : d.Kept kof) :
    (Dev.groupsProceed d q).Kept kof := by
  unfold Dev.groupsProceed
  try dsimp only
  repeat' first
    | with_reducible assumption
    | intro _
    | with_reducible apply Dev.each_keeps
    | with_reducible apply Dev.groupTurn_keeps
    | simp only [keep_mk]
    | dsimp only
    | split
    | with_reducible refine keep_fst (by with_reducible assumption) ?_

theorem Dev.groupFetched_keeps {kof : KeptOf} (d : Dev) (q g : Nat) (hd : d.Kept kof) :
    (Dev.groupFetched d q g).Kept kof := by
  unfold Dev.groupFetched
  try dsimp only
  repeat' first
    | with_reducible assumption
    | intro _
    | with_reducible apply keep_ite
    | with_reducible apply Dev.when_keeps
    | with_reducible apply Dev.useEntry_keeps
    | with_reducible apply Dev.groupsProceed_keeps
    | simp only [keep_mk]
    | dsimp only
    | split
    | with_reducible refine keep_fst (by with_reducible assumption) ?_

theorem Dev.gcmdStatus_keeps {kof : KeptOf} (d : Dev) (q g st : Nat) (hd : d.Kept kof) :
    (Dev.gcmdStatus d q g st).Kept kof := by
  unfold Dev.gcmdStatus
  try dsimp only
  repeat' first
    | with_reducible assumption
    | intro _
    | with_reducible apply Dev.put_keeps
    | simp only [keep_mk]
    | dsimp only
    | split
    | with_reducible refine keep_fst (by with_reducible assumption) ?_

theorem Dev.groupErr_keeps {kof : KeptOf} (d : Dev) (q g reason : Nat) (hd : d.Kept kof) :
    (Dev.groupErr d q g reason).Kept kof := by
  unfold Dev.groupErr
  try dsimp only
  repeat' first
    | with_reducible assumption
    | intro _
    | with_reducible apply keep_ite
    | with_reducible apply Dev.put_keeps
    | simp only [keep_mk]
    | dsimp only
    | split
    | with_reducible refine keep_fst (by with_reducible assumption) ?_

theorem Dev.newSeqs_keeps {kof : KeptOf} (d : Dev) (q g : Nat) (hd : d.Kept kof) :
    (Dev.newSeqs d q g).Kept kof := by
  unfold Dev.newSeqs
  try dsimp only
  repeat' first
    | with_reducible assumption
    | intro _
    | with_reducible apply keep_ite
    | simp only [keep_mk]
    | dsimp only
    | split
    | with_reducible refine keep_fst (by with_reducible assumption) ?_

theorem Dev.groupValidate_keeps {kof : KeptOf} (d : Dev) (q g : Nat) (hd : d.Kept kof) :
    (Dev.groupValidate d q g).Kept kof := by
  unfold Dev.groupValidate
  try dsimp only
  repeat' first
    | with_reducible assumption
    | intro _
    | with_reducible apply keep_ite
    | with_reducible apply Dev.gcmdStatus_keeps
    | with_reducible apply Dev.groupErr_keeps
    | with_reducible apply Dev.when_keeps
    | with_reducible apply Dev.arrival_keeps
    | with_reducible apply Dev.newSeqs_keeps
    | with_reducible apply Dev.setBacked_keeps
    | simp only [keep_mk]
    | dsimp only
    | split
    | with_reducible refine keep_fst (by with_reducible assumption) ?_

theorem Dev.groupOff_keeps {kof : KeptOf} (d : Dev) (q g : Nat) (hd : d.Kept kof) :
    (Dev.groupOff d q g).Kept kof := by
  unfold Dev.groupOff
  try dsimp only
  repeat' first
    | with_reducible assumption
    | intro _
    | with_reducible apply Dev.setBacked_keeps
    | with_reducible apply Dev.setGcache_keeps
    | with_reducible apply Dev.when_keeps
    | with_reducible apply Dev.put_keeps
    | with_reducible apply Dev.groupFetched_keeps
    | simp only [keep_mk]
    | dsimp only
    | split
    | with_reducible refine keep_fst (by with_reducible assumption) ?_

theorem Dev.groupInvalidate_keeps {kof : KeptOf} (d : Dev) (q g : Nat) (hd : d.Kept kof) :
    (Dev.groupInvalidate d q g).Kept kof := by
  unfold Dev.groupInvalidate
  try dsimp only
  repeat' first
    | with_reducible assumption
    | intro _
    | with_reducible apply keep_ite
    | with_reducible apply Dev.gcmdStatus_keeps
    | with_reducible apply Dev.groupOff_keeps
    | simp only [keep_mk]
    | dsimp only
    | split
    | with_reducible refine keep_fst (by with_reducible assumption) ?_

theorem Dev.groupForce_keeps {kof : KeptOf} (d : Dev) (q g : Nat) (hd : d.Kept kof) :
    (Dev.groupForce d q g).Kept kof := by
  unfold Dev.groupForce
  try dsimp only
  repeat' first
    | with_reducible assumption
    | intro _
    | with_reducible apply Dev.forceOps_keeps
    | with_reducible apply Dev.groupOff_keeps
    | with_reducible apply Dev.gcmdStatus_keeps
    | simp only [keep_mk]
    | dsimp only
    | split
    | with_reducible refine keep_fst (by with_reducible assumption) ?_

theorem Dev.groupWrite_keeps {kof : KeptOf} (d : Dev) (q g w : Nat) (v : Word) (hd : d.Kept kof) :
    (Dev.groupWrite d q g w v).Kept kof := by
  unfold Dev.groupWrite
  dsimp only
  have h : (d.when (d.backed q g) (·.inc .MCG_LIVEWR (onDie q))).Kept kof :=
    Dev.when_keeps _ _ _ hd (fun d hd => Dev.inc_keeps _ _ _ hd)
  refine keep_win _ _ _ h ?_ ?_ ?_ ?_ rfl
  · exact keep_route _ h
  · exact keep_pset _ h
  · exact Tab.wf_set _ _ _ _ (keep_group _ h)
  · exact keep_gate _ h

theorem Dev.fenceDie_keeps {kof : KeptOf} (d : Dev) (q e : Nat) (node set : Bool) (gen orig : Nat) (hd : d.Kept kof) :
    (Dev.fenceDie d q e node set gen orig).Kept kof := by
  unfold Dev.fenceDie
  try dsimp only
  repeat' first
    | with_reducible assumption
    | intro _
    | with_reducible apply keep_ite
    | with_reducible apply Dev.applyFence_keeps
    | with_reducible apply Dev.fenceOps_keeps
    | with_reducible apply Dev.fenceMembers_keeps
    | simp only [keep_mk]
    | dsimp only
    | split
    | with_reducible refine keep_fst (by with_reducible assumption) ?_

theorem Dev.flood_keeps {kof : KeptOf} (d : Dev) (code : Nat) (b : Body) (hd : d.Kept kof) :
    (Dev.flood d code b).Kept kof := by
  unfold Dev.flood
  try dsimp only
  repeat' first
    | with_reducible assumption
    | intro _
    | with_reducible apply Dev.each_keeps
    | with_reducible apply Dev.sendBypass_keeps
    | simp only [keep_mk]
    | dsimp only
    | split
    | with_reducible refine keep_fst (by with_reducible assumption) ?_

theorem Dev.fenceSpread_keeps {kof : KeptOf} (d : Dev) (e : Nat) (node set : Bool) (gen orig : Nat) (hd : d.Kept kof) :
    (Dev.fenceSpread d e node set gen orig).Kept kof := by
  unfold Dev.fenceSpread
  try dsimp only
  repeat' first
    | with_reducible assumption
    | intro _
    | with_reducible apply keep_ite
    | with_reducible apply Dev.each_keeps
    | with_reducible apply Dev.fenceDie_keeps
    | with_reducible apply Dev.flood_keeps
    | simp only [keep_mk]
    | dsimp only
    | split
    | with_reducible refine keep_fst (by with_reducible assumption) ?_

theorem Dev.fenceIn_keeps {kof : KeptOf} (d : Dev) (p : Nat) (c : Ctrl) (b : Body) (hd : d.Kept kof) :
    (Dev.fenceIn d p c b).Kept kof := by
  unfold Dev.fenceIn
  try dsimp only
  repeat' first
    | with_reducible assumption
    | intro _
    | with_reducible apply Dev.bypassIn_keeps
    | with_reducible apply Dev.fenceSpread_keeps
    | simp only [keep_mk]
    | dsimp only
    | split
    | with_reducible refine keep_fst (by with_reducible assumption) ?_

theorem Dev.fenceOriginate_keeps {kof : KeptOf} (d : Dev) (q e : Nat) (node set : Bool) (hd : d.Kept kof) :
    (Dev.fenceOriginate d q e node set).Kept kof := by
  unfold Dev.fenceOriginate
  try dsimp only
  repeat' first
    | with_reducible assumption
    | intro _
    | with_reducible apply keep_ite
    | with_reducible apply Dev.fenceSpread_keeps
    | simp only [keep_mk]
    | dsimp only
    | split
    | with_reducible refine keep_fst (by with_reducible assumption) ?_

theorem Dev.fenceGo_keeps {kof : KeptOf} (d : Dev) (q : Nat) (path : Path) (v : Word) (hd : d.Kept kof) :
    (Dev.fenceGo d q path v).Kept kof := by
  unfold Dev.fenceGo
  try dsimp only
  repeat' first
    | with_reducible assumption
    | intro _
    | with_reducible apply keep_ite
    | with_reducible apply Dev.wrFields_keeps
    | with_reducible apply Dev.fenceOriginate_keeps
    | with_reducible apply Dev.put_keeps
    | simp only [keep_mk]
    | dsimp only
    | split
    | with_reducible refine keep_fst (by with_reducible assumption) ?_

theorem Dev.fenceRefresh_keeps {kof : KeptOf} (d : Dev) (hd : d.Kept kof) :
    (Dev.fenceRefresh d).Kept kof := by
  unfold Dev.fenceRefresh
  try dsimp only
  repeat' first
    | with_reducible assumption
    | intro _
    | with_reducible apply keep_ite
    | with_reducible apply Dev.each_keeps
    | with_reducible apply Dev.fenceDie_keeps
    | with_reducible apply Dev.flood_keeps
    | simp only [keep_mk]
    | dsimp only
    | split
    | with_reducible refine keep_fst (by with_reducible assumption) ?_

/-! Machine/Routing.lean -/

theorem Dev.tblErr_keeps {kof : KeptOf} (d : Dev) (q bank table index reason : Nat) (hd : d.Kept kof) :
    (Dev.tblErr d q bank table index reason).Kept kof := by
  unfold Dev.tblErr
  try dsimp only
  repeat' first
    | with_reducible assumption
    | intro _
    | with_reducible apply keep_ite
    | with_reducible apply Dev.put_keeps
    | simp only [keep_mk]
    | dsimp only
    | split
    | with_reducible refine keep_fst (by with_reducible assumption) ?_

theorem Dev.epochStatus_keeps {kof : KeptOf} (d : Dev) (q st : Nat) (hd : d.Kept kof) :
    (Dev.epochStatus d q st).Kept kof := by
  unfold Dev.epochStatus
  try dsimp only
  repeat' first
    | with_reducible assumption
    | intro _
    | with_reducible apply Dev.put_keeps
    | simp only [keep_mk]
    | dsimp only
    | split
    | with_reducible refine keep_fst (by with_reducible assumption) ?_

theorem Dev.setBankValid_keeps {kof : KeptOf} (d : Dev) (q b : Nat) (v : Bool) (hd : d.Kept kof) :
    (Dev.setBankValid d q b v).Kept kof := by
  unfold Dev.setBankValid
  try dsimp only
  repeat' first
    | with_reducible assumption
    | intro _
    | with_reducible apply keep_ite
    | with_reducible apply Dev.put_keeps
    | simp only [keep_mk]
    | dsimp only
    | split
    | with_reducible refine keep_fst (by with_reducible assumption) ?_

theorem Dev.stampWrite_keeps {kof : KeptOf} (d : Dev) (q e : Nat) (hd : d.Kept kof) :
    (Dev.stampWrite d q e).Kept kof := by
  unfold Dev.stampWrite
  try dsimp only
  repeat' first
    | with_reducible assumption
    | intro _
    | with_reducible apply keep_ite
    | with_reducible apply Dev.put_keeps
    | with_reducible apply Dev.epochStatus_keeps
    | simp only [keep_mk]
    | dsimp only
    | split
    | with_reducible refine keep_fst (by with_reducible assumption) ?_

theorem Dev.retireBank_keeps {kof : KeptOf} (d : Dev) (q b : Nat) (hd : d.Kept kof) :
    (Dev.retireBank d q b).Kept kof := by
  unfold Dev.retireBank
  try dsimp only
  repeat' first
    | with_reducible assumption
    | intro _
    | with_reducible apply keep_ite
    | with_reducible apply Dev.epochStatus_keeps
    | with_reducible apply Dev.setBankValid_keeps
    | simp only [keep_mk]
    | dsimp only
    | split
    | with_reducible refine keep_fst (by with_reducible assumption) ?_

theorem Dev.validateBank_keeps {kof : KeptOf} (d : Dev) (q b : Nat) (hd : d.Kept kof) :
    (Dev.validateBank d q b).Kept kof := by
  unfold Dev.validateBank
  try dsimp only
  repeat' first
    | with_reducible assumption
    | intro _
    | with_reducible apply keep_ite
    | with_reducible apply Dev.epochStatus_keeps
    | with_reducible apply Dev.put_keeps
    | simp only [keep_mk]
    | dsimp only
    | split
    | with_reducible refine keep_fst (by with_reducible assumption) ?_

theorem Dev.eachBank_keeps {kof : KeptOf} (d : Dev) (mask : Nat) (g : Nat → Dev → Dev) (hd : d.Kept kof) (hg : ∀ x0 d, d.Kept kof → (g x0 d).Kept kof) :
    (Dev.eachBank d mask g).Kept kof := by
  unfold Dev.eachBank
  try dsimp only
  repeat' first
    | with_reducible assumption
    | intro _
    | with_reducible apply Dev.each_keeps
    | simp only [keep_mk]
    | with_reducible apply hg
    | dsimp only
    | split
    | with_reducible refine keep_fst (by with_reducible assumption) ?_

theorem Dev.rteEpoch_keeps {kof : KeptOf} (d : Dev) (q : Nat) (v : Word) (hd : d.Kept kof) :
    (Dev.rteEpoch d q v).Kept kof := by
  unfold Dev.rteEpoch
  try dsimp only
  repeat' first
    | with_reducible assumption
    | intro _
    | with_reducible apply keep_ite
    | with_reducible apply Dev.stampWrite_keeps
    | with_reducible apply Dev.eachBank_keeps
    | with_reducible apply Dev.retireBank_keeps
    | with_reducible apply Dev.validateBank_keeps
    | simp only [keep_mk]
    | dsimp only
    | split
    | with_reducible refine keep_fst (by with_reducible assumption) ?_

theorem Dev.bankCheckDone_keeps {kof : KeptOf} (d : Dev) (q : Nat) (hd : d.Kept kof) :
    (Dev.bankCheckDone d q).Kept kof := by
  unfold Dev.bankCheckDone
  try dsimp only
  repeat' first
    | with_reducible assumption
    | intro _
    | with_reducible apply Dev.put_keeps
    | with_reducible apply Dev.setBankValid_keeps
    | with_reducible apply Dev.epochStatus_keeps
    | with_reducible apply Dev.each_keeps
    | with_reducible apply Dev.retryInj_keeps
    | with_reducible apply Dev.tblErr_keeps
    | simp only [keep_mk]
    | dsimp only
    | split
    | with_reducible refine keep_fst (by with_reducible assumption) ?_

theorem Dev.putRoute_keeps {kof : KeptOf} (d : Dev) (q bank w : Nat) (v : Word) (hd : d.Kept kof) :
    (Dev.putRoute d q bank w v).Kept kof := by
  unfold Dev.putRoute
  refine keep_win d _ _ hd ?_ ?_ ?_ ?_ rfl
  · exact Tab.wf_set _ _ _ _ (Tab.wf_set _ _ _ _ (keep_route d hd))
  · exact keep_pset d hd
  · exact keep_group d hd
  · exact keep_gate d hd

theorem Dev.putPset_keeps {kof : KeptOf} (d : Dev) (q bank i w : Nat) (v : Word) (hd : d.Kept kof) :
    (Dev.putPset d q bank i w v).Kept kof := by
  unfold Dev.putPset
  refine keep_win d _ _ hd ?_ ?_ ?_ ?_ rfl
  · exact keep_route d hd
  · exact Tab.wf_set _ _ _ _ (Tab.wf_set _ _ _ _ (keep_pset d hd))
  · exact keep_group d hd
  · exact keep_gate d hd

theorem Dev.liveReject_keeps {kof : KeptOf} (d : Dev) (q bank : Nat) (f : Nat × Nat × Nat) (hd : d.Kept kof) :
    (Dev.liveReject d q bank f).Kept kof := by
  unfold Dev.liveReject
  try dsimp only
  repeat' first
    | with_reducible assumption
    | intro _
    | with_reducible apply Dev.inc_keeps
    | with_reducible apply Dev.tblErr_keeps
    | simp only [keep_mk]
    | dsimp only
    | split
    | with_reducible refine keep_fst (by with_reducible assumption) ?_

theorem Dev.routeWrite_keeps {kof : KeptOf} (d : Dev) (q bank w : Nat) (v : Word) (hd : d.Kept kof) :
    (Dev.routeWrite d q bank w v).Kept kof := by
  unfold Dev.routeWrite
  try dsimp only
  repeat' first
    | with_reducible assumption
    | intro _
    | with_reducible apply keep_ite
    | with_reducible apply Dev.putRoute_keeps
    | with_reducible apply Dev.liveReject_keeps
    | simp only [keep_mk]
    | dsimp only
    | split
    | with_reducible refine keep_fst (by with_reducible assumption) ?_

theorem Dev.psetWrite_keeps {kof : KeptOf} (d : Dev) (q bank i w : Nat) (v : Word) (hd : d.Kept kof) :
    (Dev.psetWrite d q bank i w v).Kept kof := by
  unfold Dev.psetWrite
  try dsimp only
  repeat' first
    | with_reducible assumption
    | intro _
    | with_reducible apply keep_ite
    | with_reducible apply Dev.putPset_keeps
    | with_reducible apply Dev.liveReject_keeps
    | simp only [keep_mk]
    | dsimp only
    | split
    | with_reducible refine keep_fst (by with_reducible assumption) ?_

theorem Dev.duneSend_keeps {kof : KeptOf} (d : Dev) (q : Nat) (hd : d.Kept kof) :
    (Dev.duneSend d q).Kept kof := by
  unfold Dev.duneSend
  try dsimp only
  repeat' first
    | with_reducible assumption
    | intro _
    | with_reducible apply keep_ite
    | with_reducible apply Dev.each_keeps
    | with_reducible apply Dev.dropOldDune_keeps
    | with_reducible apply Dev.sendBypass_keeps
    | with_reducible apply Dev.put_keeps
    | simp only [keep_mk]
    | dsimp only
    | split
    | with_reducible refine keep_fst (by with_reducible assumption) ?_

theorem Dev.duneStore_keeps {kof : KeptOf} (d : Dev) (q : Nat) (b : Body) (hd : d.Kept kof) :
    (Dev.duneStore d q b).Kept kof := by
  unfold Dev.duneStore
  try dsimp only
  repeat' first
    | with_reducible assumption
    | intro _
    | with_reducible apply Dev.each_keeps
    | with_reducible apply Dev.put_keeps
    | with_reducible apply Dev.when_keeps
    | with_reducible apply Dev.inc_keeps
    | simp only [keep_mk]
    | dsimp only
    | split
    | with_reducible refine keep_fst (by with_reducible assumption) ?_

theorem Dev.duneIn_keeps {kof : KeptOf} (d : Dev) (p : Nat) (c : Ctrl) (b : Body) (hd : d.Kept kof) :
    (Dev.duneIn d p c b).Kept kof := by
  unfold Dev.duneIn
  try dsimp only
  repeat' first
    | with_reducible assumption
    | intro _
    | with_reducible apply Dev.bypassIn_keeps
    | with_reducible apply Dev.duneStore_keeps
    | simp only [keep_mk]
    | dsimp only
    | split
    | with_reducible refine keep_fst (by with_reducible assumption) ?_

theorem Dev.deadTimeout_keeps {kof : KeptOf} (d : Dev) (p : Nat) (hd : d.Kept kof) :
    (Dev.deadTimeout d p).Kept kof := by
  unfold Dev.deadTimeout
  try dsimp only
  repeat' first
    | with_reducible assumption
    | intro _
    | with_reducible apply keep_ite
    | with_reducible apply Dev.portDead_keeps
    | simp only [keep_mk]
    | dsimp only
    | split
    | with_reducible refine keep_fst (by with_reducible assumption) ?_

theorem Dev.prtRelease_keeps {kof : KeptOf} (d : Dev) (p scope : Nat) (hd : d.Kept kof) :
    (Dev.prtRelease d p scope).Kept kof := by
  unfold Dev.prtRelease
  try dsimp only
  repeat' first
    | with_reducible assumption
    | intro _
    | with_reducible apply keep_ite
    | with_reducible apply Dev.put_keeps
    | with_reducible apply Dev.when_keeps
    | with_reducible apply Dev.dropQueued_keeps
    | with_reducible apply Dev.releaseHeld_keeps
    | simp only [keep_mk]
    | dsimp only
    | split
    | with_reducible refine keep_fst (by with_reducible assumption) ?_

theorem Dev.heldRelease_keeps {kof : KeptOf} (d : Dev) (p : Nat) (hd : d.Kept kof) :
    (Dev.heldRelease d p).Kept kof := by
  unfold Dev.heldRelease
  try dsimp only
  repeat' first
    | with_reducible assumption
    | intro _
    | with_reducible apply keep_ite
    | with_reducible apply Dev.prtRelease_keeps
    | simp only [keep_mk]
    | dsimp only
    | split
    | with_reducible refine keep_fst (by with_reducible assumption) ?_

theorem Dev.shareWrite_keeps {kof : KeptOf} (d : Dev) (l : Nat) (v : Word) (hd : d.Kept kof) :
    (Dev.shareWrite d l v).Kept kof := by
  unfold Dev.shareWrite
  try dsimp only
  repeat' first
    | with_reducible assumption
    | intro _
    | with_reducible apply keep_ite
    | with_reducible apply Dev.put_keeps
    | simp only [keep_mk]
    | dsimp only
    | split
    | with_reducible refine keep_fst (by with_reducible assumption) ?_

theorem Dev.fwdInj_keeps {kof : KeptOf} (d : Dev) (q : Nat) (v : Word) (hd : d.Kept kof) :
    (Dev.fwdInj d q v).Kept kof := by
  unfold Dev.fwdInj
  try dsimp only
  repeat' first
    | with_reducible assumption
    | intro _
    | with_reducible apply keep_ite
    | with_reducible apply Dev.put_keeps
    | with_reducible apply Dev.bridgeShare_keeps
    | simp only [keep_mk]
    | dsimp only
    | split
    | with_reducible refine keep_fst (by with_reducible assumption) ?_

theorem Dev.shaperEligible_keeps {kof : KeptOf} (d : Dev) (p t : Nat) (hd : d.Kept kof) :
    (Dev.shaperEligible d p t).Kept kof := by
  unfold Dev.shaperEligible
  try dsimp only
  repeat' first
    | with_reducible assumption
    | intro _
    | with_reducible apply keep_ite
    | with_reducible apply Dev.setShaper_keeps
    | simp only [keep_mk]
    | dsimp only
    | split
    | with_reducible refine keep_fst (by with_reducible assumption) ?_

theorem Dev.wheelTurn_keeps {kof : KeptOf} (d : Dev) (q : Nat) (hd : d.Kept kof) :
    (Dev.wheelTurn d q).Kept kof := by
  unfold Dev.wheelTurn
  try dsimp only
  repeat' first
    | with_reducible assumption
    | intro _
    | with_reducible apply keep_ite
    | simp only [keep_mk]
    | dsimp only
    | split
    | with_reducible refine keep_fst (by with_reducible assumption) ?_

theorem Dev.shapeWrite_keeps {kof : KeptOf} (d : Dev) (p t : Nat) (v : Word) (hd : d.Kept kof) :
    (Dev.shapeWrite d p t v).Kept kof := by
  unfold Dev.shapeWrite
  try dsimp only
  repeat' first
    | with_reducible assumption
    | intro _
    | with_reducible apply keep_ite
    | with_reducible apply Dev.wrFields_keeps
    | with_reducible apply Dev.setShaper_keeps
    | simp only [keep_mk]
    | dsimp only
    | split
    | with_reducible refine keep_fst (by with_reducible assumption) ?_

theorem Dev.shapeApply_keeps {kof : KeptOf} (d : Dev) (p t : Nat) (hd : d.Kept kof) :
    (Dev.shapeApply d p t).Kept kof := by
  unfold Dev.shapeApply
  try dsimp only
  repeat' first
    | with_reducible assumption
    | intro _
    | with_reducible apply keep_ite
    | with_reducible apply Dev.setShaper_keeps
    | simp only [keep_mk]
    | dsimp only
    | split
    | with_reducible refine keep_fst (by with_reducible assumption) ?_

theorem Dev.gateStatus_keeps {kof : KeptOf} (d : Dev) (p st : Nat) (hd : d.Kept kof) :
    (Dev.gateStatus d p st).Kept kof := by
  unfold Dev.gateStatus
  try dsimp only
  repeat' first
    | with_reducible assumption
    | intro _
    | with_reducible apply Dev.put_keeps
    | simp only [keep_mk]
    | dsimp only
    | split
    | with_reducible refine keep_fst (by with_reducible assumption) ?_

theorem Dev.gateWrite_keeps {kof : KeptOf} (d : Dev) (p l e : Nat) (v : Word) (hd : d.Kept kof) :
    (Dev.gateWrite d p l e v).Kept kof := by
  have hs (d : Dev) (x : Nat) (hd : d.Kept kof) : (d.gateStatus p x).Kept kof := Dev.gateStatus_keeps _ _ _ hd
  unfold Dev.gateWrite
  refine keep_ite hd (keep_ite (hs _ _ hd) ?_)
  have h := hs d ST_OK hd
  refine keep_win _ _ _ h ?_ ?_ ?_ ?_ rfl
  · exact keep_route _ h
  · exact keep_pset _ h
  · exact keep_group _ h
  · exact Tab.wf_set _ _ _ _ (keep_gate d hd)

theorem Dev.gateCtl_keeps {kof : KeptOf} (d : Dev) (p : Nat) (v : Word) (hd : d.Kept kof) :
    (Dev.gateCtl d p v).Kept kof := by
  unfold Dev.gateCtl
  try dsimp only
  repeat' first
    | with_reducible assumption
    | intro _
    | with_reducible apply keep_ite
    | with_reducible apply Dev.gateStatus_keeps
    | with_reducible apply Dev.wrFields_keeps
    | with_reducible apply Dev.put_keeps
    | with_reducible apply Dev.setGate_keeps
    | with_reducible apply Dev.when_keeps
    | simp only [keep_mk]
    | dsimp only
    | split
    | with_reducible refine keep_fst (by with_reducible assumption) ?_

theorem Dev.gateTakeover_keeps {kof : KeptOf} (d : Dev) (p : Nat) (hd : d.Kept kof) :
    (Dev.gateTakeover d p).Kept kof := by
  unfold Dev.gateTakeover
  try dsimp only
  repeat' first
    | with_reducible assumption
    | intro _
    | with_reducible apply keep_ite
    | with_reducible apply Dev.put_keeps
    | with_reducible apply Dev.gateEntry_keeps
    | simp only [keep_mk]
    | dsimp only
    | split
    | with_reducible refine keep_fst (by with_reducible assumption) ?_

theorem Dev.gateEntryEnd_keeps {kof : KeptOf} (d : Dev) (p : Nat) (hd : d.Kept kof) :
    (Dev.gateEntryEnd d p).Kept kof := by
  unfold Dev.gateEntryEnd
  try dsimp only
  repeat' first
    | with_reducible assumption
    | intro _
    | with_reducible apply keep_ite
    | with_reducible apply Dev.gateTakeover_keeps
    | with_reducible apply Dev.gateEntry_keeps
    | simp only [keep_mk]
    | dsimp only
    | split
    | with_reducible refine keep_fst (by with_reducible assumption) ?_

end Sys2Proof.Machine
end

