-- ==== Sys2Proof/Laws/KeepReset.lean ====
section
/-! SUPPORT. Every operation keeps the tables canonical, the fuses and the time: resets, faults, Saggar, power, Kiln, flash. -/

set_option Elab.async false

namespace Sys2Proof.Machine

/-! Machine/ResetOps.lean -/

theorem Dev.mapRegs_keeps {kof : KeptOf} (d : Dev) (sel : Reg → At → Bool) (g : Reg → At → Word → Word) (hd : d.Kept kof) :
    (Dev.mapRegs d sel g).Kept kof := by
  unfold Dev.mapRegs
  refine keep_only d _ hd ?_
  have h := (Tab.wfBy_iff _ _).1 (keep_regs d hd)
  refine (Tab.wfBy_iff _ _).2 ⟨Tab.rising_filterMap _ _ h.1 (fun e x hx => ?_), fun x hx => ?_⟩
  · revert hx
    try dsimp only
    repeat' split
    all_goals simp only [Option.some.injEq, reduceCtorEq, false_imp_iff]
    all_goals rintro rfl; rfl
  · obtain ⟨e, he, hx⟩ := List.mem_filterMap.1 hx
    revert hx
    try dsimp only
    repeat' split
    all_goals simp only [Option.some.injEq, reduceCtorEq, false_imp_iff]
    · rintro rfl; exact h.2 _ he
    · next r a hk hs hg =>
      rintro rfl
      unfold rstOfKey
      rw [hk]
      exact hg
    · rintro rfl; exact h.2 _ he

theorem Dev.resetRegs_keeps {kof : KeptOf} (d : Dev) (sel : Reg → At → Bool) (hd : d.Kept kof) :
    (Dev.resetRegs d sel).Kept kof := by
  unfold Dev.resetRegs
  try dsimp only
  repeat' first
    | with_reducible assumption
    | intro _
    | with_reducible apply Dev.mapRegs_keeps
    | simp only [keep_mk]
    | dsimp only
    | split
    | with_reducible refine keep_fst (by with_reducible assumption) ?_

theorem Dev.resetPort_keeps {kof : KeptOf} (d : Dev) (p : Nat) (hd : d.Kept kof) :
    (Dev.resetPort d p).Kept kof := by
  unfold Dev.resetPort
  try dsimp only
  repeat' first
    | with_reducible assumption
    | intro _
    | with_reducible apply Dev.kilnPort_keeps
    | with_reducible apply Dev.when_keeps
    | with_reducible apply Dev.leaveUp_keeps
    | with_reducible apply Dev.dropHeld_keeps
    | with_reducible apply Dev.setLink_keeps
    | with_reducible apply Dev.advanceInc_keeps
    | with_reducible apply Dev.put_keeps
    | with_reducible apply Dev.each_keeps
    | with_reducible apply Dev.modChan_keeps
    | with_reducible apply Dev.staleCells_keeps
    | with_reducible apply Dev.modEport_keeps
    | with_reducible apply Dev.setGate_keeps
    | with_reducible apply Dev.setShaper_keeps
    | with_reducible apply Dev.wr_keeps
    | simp only [keep_mk]
    | dsimp only
    | split
    | with_reducible refine keep_fst (by with_reducible assumption) ?_

theorem Dev.windowOff_keeps {kof : KeptOf} (d : Dev) (w : Nat) (path : Path) (hd : d.Kept kof) :
    (Dev.windowOff d w path).Kept kof := by
  unfold Dev.windowOff
  try dsimp only
  repeat' first
    | with_reducible assumption
    | intro _
    | simp only [keep_mk]
    | dsimp only
    | split
    | with_reducible refine keep_fst (by with_reducible assumption) ?_

theorem Dev.resetLane_keeps {kof : KeptOf} (d : Dev) (l : Nat) (hd : d.Kept kof) :
    (Dev.resetLane d l).Kept kof := by
  unfold Dev.resetLane
  try dsimp only
  repeat' first
    | with_reducible assumption
    | intro _
    | simp only [keep_mk]
    | dsimp only
    | split
    | with_reducible refine keep_fst (by with_reducible assumption) ?_

theorem Dev.laneSettle_keeps {kof : KeptOf} (d : Dev) (l : Nat) (hd : d.Kept kof) :
    (Dev.laneSettle d l).Kept kof := by
  unfold Dev.laneSettle
  try dsimp only
  repeat' first
    | with_reducible assumption
    | intro _
    | with_reducible apply Dev.put_keeps
    | with_reducible apply Dev.when_keeps
    | with_reducible apply Dev.polarity_keeps
    | simp only [keep_mk]
    | dsimp only
    | split
    | with_reducible refine keep_fst (by with_reducible assumption) ?_

theorem Dev.resetLanes_keeps {kof : KeptOf} (d : Dev) (q lo hi : Nat) (hd : d.Kept kof) :
    (Dev.resetLanes d q lo hi).Kept kof := by
  unfold Dev.resetLanes
  try dsimp only
  repeat' first
    | with_reducible assumption
    | intro _
    | with_reducible apply Dev.each_keeps
    | with_reducible apply Dev.resetPort_keeps
    | with_reducible apply Dev.resetLane_keeps
    | with_reducible apply Dev.resetRegs_keeps
    | with_reducible apply Dev.laneSettle_keeps
    | simp only [keep_mk]
    | dsimp only
    | split
    | with_reducible refine keep_fst (by with_reducible assumption) ?_

theorem Dev.dropBanks_keeps {kof : KeptOf} (d : Dev) (q : Nat) (bank : Nat → Bool) (hd : d.Kept kof) :
    (Dev.dropBanks d q bank).Kept kof := by
  unfold Dev.dropBanks
  try dsimp only
  repeat' first
    | with_reducible assumption
    | intro _
    | with_reducible apply Dev.each_keeps
    | with_reducible apply Dev.dropPkt_keeps
    | with_reducible apply Dev.dropCell_keeps
    | simp only [keep_mk]
    | dsimp only
    | split
    | with_reducible refine keep_fst (by with_reducible assumption) ?_

theorem Dev.startWipe_keeps {kof : KeptOf} (d : Dev) (scope die part : Nat) (hd : d.Kept kof) :
    (Dev.startWipe d scope die part).Kept kof := by
  unfold Dev.startWipe
  try dsimp only
  repeat' first
    | with_reducible assumption
    | intro _
    | with_reducible apply keep_ite
    | with_reducible apply Dev.each_keeps
    | with_reducible apply Dev.put_keeps
    | simp only [keep_mk]
    | dsimp only
    | split
    | with_reducible refine keep_fst (by with_reducible assumption) ?_

theorem Dev.eraseKeys_keeps {kof : KeptOf} (d : Dev) (q : Nat) (hd : d.Kept kof) :
    (Dev.eraseKeys d q).Kept kof := by
  unfold Dev.eraseKeys
  try dsimp only
  repeat' first
    | with_reducible assumption
    | intro _
    | with_reducible apply Dev.each_keeps
    | with_reducible apply Dev.freeKey_keeps
    | simp only [keep_mk]
    | dsimp only
    | split
    | with_reducible refine keep_fst (by with_reducible assumption) ?_

theorem Dev.clearDie_keeps {kof : KeptOf} (d : Dev) (q : Nat) (hd : d.Kept kof) :
    (Dev.clearDie d q).Kept kof := by
  unfold Dev.clearDie
  dsimp only
  refine Dev.eraseKeys_keeps _ _ ?_
  refine keep_win d _ _ hd ?_ ?_ ?_ ?_ rfl
  · exact Tab.wf_filter _ _ _ (keep_route d hd)
  · exact Tab.wf_filter _ _ _ (keep_pset d hd)
  · exact Tab.wf_filter _ _ _ (keep_group d hd)
  · exact keep_gate d hd

theorem Dev.emptyTlbs_keeps {kof : KeptOf} (d : Dev) (m : Nat) (hd : d.Kept kof) :
    (Dev.emptyTlbs d m).Kept kof := by
  unfold Dev.emptyTlbs
  try dsimp only
  repeat' first
    | with_reducible assumption
    | intro _
    | simp only [keep_mk]
    | dsimp only
    | split
    | with_reducible refine keep_fst (by with_reducible assumption) ?_

theorem Dev.clearReduction_keeps {kof : KeptOf} (d : Dev) (m : Nat) (hd : d.Kept kof) :
    (Dev.clearReduction d m).Kept kof := by
  unfold Dev.clearReduction
  try dsimp only
  repeat' first
    | with_reducible assumption
    | intro _
    | simp only [keep_mk]
    | dsimp only
    | split
    | with_reducible refine keep_fst (by with_reducible assumption) ?_

theorem Dev.bridgesReturn_keeps {kof : KeptOf} (d : Dev) (q : Nat) (hd : d.Kept kof) :
    (Dev.bridgesReturn d q).Kept kof := by
  unfold Dev.bridgesReturn
  try dsimp only
  repeat' first
    | with_reducible assumption
    | intro _
    | with_reducible apply Dev.each_keeps
    | with_reducible apply Dev.putB_keeps
    | simp only [keep_mk]
    | dsimp only
    | split
    | with_reducible refine keep_fst (by with_reducible assumption) ?_

theorem Dev.bridgeAnew_keeps {kof : KeptOf} (d : Dev) (q e : Nat) (hd : d.Kept kof) :
    (Dev.bridgeAnew d q e).Kept kof := by
  unfold Dev.bridgeAnew
  try dsimp only
  repeat' first
    | with_reducible assumption
    | intro _
    | with_reducible apply Dev.bridgeGrant_keeps
    | simp only [keep_mk]
    | dsimp only
    | split
    | with_reducible refine keep_fst (by with_reducible assumption) ?_

/-! Machine/Save.lean -/

theorem Dev.saveRegs_keeps {kof : KeptOf} (d : Dev) (sel : Reg → At → Bool) (hd : d.Kept kof) :
    (Dev.saveRegs d sel).Kept kof := by
  unfold Dev.saveRegs
  try dsimp only
  repeat' first
    | with_reducible assumption
    | intro _
    | with_reducible apply Dev.put_keeps
    | with_reducible apply Dev.mapRegs_keeps
    | simp only [keep_mk]
    | with_reducible apply keep_foldl
    | dsimp only
    | split
    | with_reducible refine keep_fst (by with_reducible assumption) ?_

theorem Dev.restoreRegs_keeps {kof : KeptOf} (d : Dev) (sel : Reg → At → Bool) (hd : d.Kept kof) :
    (Dev.restoreRegs d sel).Kept kof := by
  unfold Dev.restoreRegs
  try dsimp only
  repeat' first
    | with_reducible assumption
    | intro _
    | with_reducible apply Dev.each_keeps
    | with_reducible apply Dev.wr_keeps
    | simp only [keep_mk]
    | dsimp only
    | split
    | with_reducible refine keep_fst (by with_reducible assumption) ?_

theorem Dev.stopRegion_keeps {kof : KeptOf} (d : Dev) (m : Nat) (hd : d.Kept kof) :
    (Dev.stopRegion d m).Kept kof := by
  unfold Dev.stopRegion
  try dsimp only
  repeat' first
    | with_reducible assumption
    | intro _
    | with_reducible apply Dev.saveRegs_keeps
    | with_reducible apply Dev.each_keeps
    | with_reducible apply Dev.setLink_keeps
    | with_reducible apply Dev.put_keeps
    | with_reducible apply Dev.modChan_keeps
    | with_reducible apply Dev.setShaper_keeps
    | with_reducible apply Dev.resetLane_keeps
    | with_reducible apply Dev.emptyTlbs_keeps
    | with_reducible apply Dev.clearReduction_keeps
    | with_reducible apply Dev.setRegionState_keeps
    | with_reducible apply Dev.kilnAbort_keeps
    | simp only [keep_mk]
    | dsimp only
    | split
    | with_reducible refine keep_fst (by with_reducible assumption) ?_

theorem Dev.downKept_keeps {kof : KeptOf} (d : Dev) (q : Nat) (hd : d.Kept kof) :
    (Dev.downKept d q).Kept kof := by
  unfold Dev.downKept
  try dsimp only
  repeat' first
    | with_reducible assumption
    | intro _
    | with_reducible apply Dev.each_keeps
    | with_reducible apply Dev.putB_keeps
    | simp only [keep_mk]
    | dsimp only
    | split
    | with_reducible refine keep_fst (by with_reducible assumption) ?_

theorem Dev.stopCore_keeps {kof : KeptOf} (d : Dev) (q : Nat) (hd : d.Kept kof) :
    (Dev.stopCore d q).Kept kof := by
  unfold Dev.stopCore
  try dsimp only
  repeat' first
    | with_reducible assumption
    | intro _
    | with_reducible apply Dev.saveRegs_keeps
    | with_reducible apply Dev.clearDie_keeps
    | with_reducible apply Dev.startWipe_keeps
    | with_reducible apply Dev.setDieState_keeps
    | with_reducible apply Dev.kilnAbort_keeps
    | with_reducible apply Dev.downKept_keeps
    | with_reducible apply Dev.bridgesSync_keeps
    | with_reducible apply Dev.rerouteAround_keeps
    | simp only [keep_mk]
    | dsimp only
    | split
    | with_reducible refine keep_fst (by with_reducible assumption) ?_

theorem Dev.gateCatchUp_keeps {kof : KeptOf} (d : Dev) (p : Nat) (hd : d.Kept kof) : ∀ (y0 : Nat),
    (Dev.gateCatchUp d p y0).Kept kof := by
  intro y0
  induction y0 generalizing d p with
  | zero =>
    unfold Dev.gateCatchUp
    try dsimp only
    repeat' first
      | with_reducible assumption
      | intro _
      | with_reducible apply keep_ite
      | with_reducible apply Dev.gateEntry_keeps
      | simp only [keep_mk]
      | dsimp only
      | split
      | with_reducible refine keep_fst (by with_reducible assumption) ?_
  | succ n0 ih =>
    unfold Dev.gateCatchUp
    try dsimp only
    repeat' first
      | with_reducible assumption
      | intro _
      | with_reducible apply keep_ite
      | with_reducible apply ih
      | with_reducible apply Dev.gateEntry_keeps
      | simp only [keep_mk]
      | dsimp only
      | split
      | with_reducible refine keep_fst (by with_reducible assumption) ?_

theorem Dev.gateResume_keeps {kof : KeptOf} (d : Dev) (p : Nat) (hd : d.Kept kof) :
    (Dev.gateResume d p).Kept kof := by
  unfold Dev.gateResume
  try dsimp only
  repeat' first
    | with_reducible assumption
    | intro _
    | with_reducible apply keep_ite
    | with_reducible apply Dev.put_keeps
    | with_reducible apply Dev.gateEntry_keeps
    | with_reducible apply Dev.gateCatchUp_keeps
    | simp only [keep_mk]
    | dsimp only
    | split
    | with_reducible refine keep_fst (by with_reducible assumption) ?_

theorem Dev.wakeRegionDone_keeps {kof : KeptOf} (d : Dev) (m : Nat) (hd : d.Kept kof) :
    (Dev.wakeRegionDone d m).Kept kof := by
  unfold Dev.wakeRegionDone
  try dsimp only
  repeat' first
    | with_reducible assumption
    | intro _
    | with_reducible apply Dev.restoreRegs_keeps
    | with_reducible apply Dev.setRegionState_keeps
    | with_reducible apply Dev.each_keeps
    | with_reducible apply Dev.put_keeps
    | with_reducible apply Dev.drawn_keeps
    | with_reducible apply Dev.laneSettle_keeps
    | with_reducible apply Dev.setShaper_keeps
    | with_reducible apply Dev.gateResume_keeps
    | with_reducible apply Dev.when_keeps
    | with_reducible apply Dev.enterTraining_keeps
    | simp only [keep_mk]
    | dsimp only
    | split
    | with_reducible refine keep_fst (by with_reducible assumption) ?_

theorem Dev.wakeCoreDone_keeps {kof : KeptOf} (d : Dev) (q : Nat) (hd : d.Kept kof) :
    (Dev.wakeCoreDone d q).Kept kof := by
  unfold Dev.wakeCoreDone
  try dsimp only
  repeat' first
    | with_reducible assumption
    | intro _
    | with_reducible apply Dev.restoreRegs_keeps
    | with_reducible apply Dev.setDieState_keeps
    | with_reducible apply Dev.bridgeGrant_keeps
    | with_reducible apply Dev.bridgesSync_keeps
    | with_reducible apply Dev.pumpAll_keeps
    | simp only [keep_mk]
    | dsimp only
    | split
    | with_reducible refine keep_fst (by with_reducible assumption) ?_

theorem Dev.domIdle_keeps {kof : KeptOf} (d : Dev) (q : Nat) (hd : d.Kept kof) :
    (Dev.domIdle d q).Kept kof := by
  unfold Dev.domIdle
  try dsimp only
  repeat' first
    | with_reducible assumption
    | intro _
    | with_reducible apply keep_ite
    | with_reducible apply Dev.put_keeps
    | simp only [keep_mk]
    | dsimp only
    | split
    | with_reducible refine keep_fst (by with_reducible assumption) ?_

theorem Dev.wakesEnd_keeps {kof : KeptOf} (d : Dev) (regions dies : List Nat) (hd : d.Kept kof) :
    (Dev.wakesEnd d regions dies).Kept kof := by
  unfold Dev.wakesEnd
  try dsimp only
  repeat' first
    | with_reducible assumption
    | intro _
    | with_reducible apply Dev.each_keeps
    | with_reducible apply Dev.wakeCoreDone_keeps
    | with_reducible apply Dev.domIdle_keeps
    | with_reducible apply Dev.wakeRegionDone_keeps
    | simp only [keep_mk]
    | dsimp only
    | split
    | with_reducible refine keep_fst (by with_reducible assumption) ?_

/-! Machine/Resets.lean -/

theorem Dev.resetHost_keeps {kof : KeptOf} (d : Dev) (q : Nat) (hd : d.Kept kof) :
    (Dev.resetHost d q).Kept kof := by
  unfold Dev.resetHost
  try dsimp only
  repeat' first
    | with_reducible assumption
    | intro _
    | with_reducible apply Dev.each_keeps
    | with_reducible apply Dev.funcReset_keeps
    | with_reducible apply Dev.windowOff_keeps
    | with_reducible apply Dev.readerLost_keeps
    | with_reducible apply Dev.startWipe_keeps
    | with_reducible apply Dev.resetRegs_keeps
    | simp only [keep_mk]
    | dsimp only
    | split
    | with_reducible refine keep_fst (by with_reducible assumption) ?_

theorem Dev.resetBridge_keeps {kof : KeptOf} (d : Dev) (q e : Nat) (hd : d.Kept kof) :
    (Dev.resetBridge d q e).Kept kof := by
  unfold Dev.resetBridge
  try dsimp only
  repeat' first
    | with_reducible assumption
    | intro _
    | with_reducible apply Dev.dropOnBridge_keeps
    | simp only [keep_mk]
    | dsimp only
    | split
    | with_reducible refine keep_fst (by with_reducible assumption) ?_

theorem Dev.resetUnit_keeps {kof : KeptOf} (d : Dev) (l : Loc) (hd : d.Kept kof) :
    (Dev.resetUnit d l).Kept kof := by
  unfold Dev.resetUnit
  try dsimp only
  repeat' first
    | with_reducible assumption
    | intro _
    | with_reducible apply keep_ite
    | with_reducible apply Dev.kilnPort_keeps
    | with_reducible apply Dev.resetLane_keeps
    | with_reducible apply Dev.resetRegs_keeps
    | with_reducible apply Dev.laneSettle_keeps
    | with_reducible apply Dev.enterRetrain_keeps
    | with_reducible apply Dev.resetPort_keeps
    | with_reducible apply Dev.emptyTlbs_keeps
    | with_reducible apply Dev.clearReduction_keeps
    | with_reducible apply Dev.kilnAbort_keeps
    | with_reducible apply Dev.resetBridge_keeps
    | with_reducible apply Dev.putB_keeps
    | with_reducible apply Dev.bridgeAnew_keeps
    | with_reducible apply Dev.bridgeSync_keeps
    | with_reducible apply Dev.rerouteOver_keeps
    | with_reducible apply Dev.resetHost_keeps
    | simp only [keep_mk]
    | dsimp only
    | split
    | with_reducible refine keep_fst (by with_reducible assumption) ?_

theorem Dev.resetRegion_keeps {kof : KeptOf} (d : Dev) (m : Nat) (hd : d.Kept kof) :
    (Dev.resetRegion d m).Kept kof := by
  unfold Dev.resetRegion
  try dsimp only
  repeat' first
    | with_reducible assumption
    | intro _
    | with_reducible apply Dev.arrival_keeps
    | with_reducible apply Dev.kilnAbort_keeps
    | with_reducible apply Dev.dropBanks_keeps
    | with_reducible apply Dev.resetLanes_keeps
    | with_reducible apply Dev.emptyTlbs_keeps
    | with_reducible apply Dev.clearReduction_keeps
    | with_reducible apply Dev.startWipe_keeps
    | simp only [keep_mk]
    | dsimp only
    | split
    | with_reducible refine keep_fst (by with_reducible assumption) ?_

theorem Dev.domainsReset_keeps {kof : KeptOf} (d : Dev) (q : Nat) (hd : d.Kept kof) :
    (Dev.domainsReset d q).Kept kof := by
  unfold Dev.domainsReset
  try dsimp only
  repeat' first
    | with_reducible assumption
    | intro _
    | with_reducible apply Dev.when_keeps
    | with_reducible apply Dev.abortEntry_keeps
    | simp only [keep_mk]
    | dsimp only
    | split
    | with_reducible refine keep_fst (by with_reducible assumption) ?_

theorem Dev.resetTraffic_keeps {kof : KeptOf} (d : Dev) (q : Nat) (hd : d.Kept kof) :
    (Dev.resetTraffic d q).Kept kof := by
  unfold Dev.resetTraffic
  try dsimp only
  repeat' first
    | with_reducible assumption
    | intro _
    | with_reducible apply Dev.each_keeps
    | with_reducible apply Dev.resetPort_keeps
    | with_reducible apply Dev.resetLane_keeps
    | with_reducible apply Dev.resetBridge_keeps
    | with_reducible apply Dev.dropBanks_keeps
    | with_reducible apply Dev.bridgesReturn_keeps
    | with_reducible apply Dev.rerouteAround_keeps
    | simp only [keep_mk]
    | dsimp only
    | split
    | with_reducible refine keep_fst (by with_reducible assumption) ?_

theorem Dev.resetDie_keeps {kof : KeptOf} (d : Dev) (q : Nat) (hd : d.Kept kof) :
    (Dev.resetDie d q).Kept kof := by
  unfold Dev.resetDie
  try dsimp only
  repeat' first
    | with_reducible assumption
    | intro _
    | with_reducible apply Dev.domainsReset_keeps
    | with_reducible apply Dev.windowOff_keeps
    | with_reducible apply Dev.resetTraffic_keeps
    | with_reducible apply Dev.clearDie_keeps
    | with_reducible apply Dev.resetRegs_keeps
    | with_reducible apply Dev.wr_keeps
    | with_reducible apply Dev.each_keeps
    | with_reducible apply Dev.put_keeps
    | with_reducible apply Dev.incBy_keeps
    | with_reducible apply Dev.laneSettle_keeps
    | with_reducible apply Dev.bridgeAnew_keeps
    | with_reducible apply Dev.bridgesSync_keeps
    | with_reducible apply Dev.startWipe_keeps
    | simp only [keep_mk]
    | dsimp only
    | split
    | with_reducible refine keep_fst (by with_reducible assumption) ?_

theorem Dev.drawRandom_keeps {kof : KeptOf} (d : Dev) (hd : d.Kept kof) :
    (Dev.drawRandom d).Kept kof := by
  unfold Dev.drawRandom
  try dsimp only
  repeat' first
    | with_reducible assumption
    | intro _
    | with_reducible apply Dev.each_keeps
    | with_reducible apply Dev.put_keeps
    | with_reducible apply Dev.drawn_keeps
    | simp only [keep_mk]
    | dsimp only
    | split
    | with_reducible refine keep_fst (by with_reducible assumption) ?_

theorem Dev.isolate_keeps {kof : KeptOf} (d : Dev) (hd : d.Kept kof) :
    (Dev.isolate d).Kept kof := by
  unfold Dev.isolate
  try dsimp only
  repeat' first
    | with_reducible assumption
    | intro _
    | with_reducible apply Dev.put_keeps
    | with_reducible apply Dev.each_keeps
    | with_reducible apply Dev.enterDown_keeps
    | simp only [keep_mk]
    | dsimp only
    | split
    | with_reducible refine keep_fst (by with_reducible assumption) ?_

theorem Dev.resetModule_keeps {kof : KeptOf} (d : Dev) (cause : Nat) (hd : d.Kept kof) :
    (Dev.resetModule d cause).Kept kof := by
  unfold Dev.resetModule
  try dsimp only
  repeat' first
    | with_reducible assumption
    | intro _
    | with_reducible apply keep_ite
    | with_reducible apply Dev.isolate_keeps
    | with_reducible apply Dev.drawRandom_keeps
    | with_reducible apply Dev.put_keeps
    | with_reducible apply Dev.when_keeps
    | with_reducible apply Dev.startWipe_keeps
    | with_reducible apply Dev.emit_keeps
    | with_reducible apply Dev.each_keeps
    | with_reducible apply Dev.incBy_keeps
    | simp only [keep_mk]
    | (refine keep_init d _ _ _ hd ?_ ?_ ?_ ?_ ?_ <;> rfl)
    | dsimp only
    | split
    | with_reducible refine keep_fst (by with_reducible assumption) ?_

theorem Dev.resetRecords_keeps {kof : KeptOf} (d : Dev) (l : Loc) (not : Option Nat) (hd : d.Kept kof) :
    (Dev.resetRecords d l not).Kept kof := by
  unfold Dev.resetRecords
  try dsimp only
  repeat' first
    | with_reducible assumption
    | intro _
    | with_reducible apply Dev.each_keeps
    | with_reducible apply Dev.setRec_keeps
    | simp only [keep_mk]
    | dsimp only
    | split
    | with_reducible refine keep_fst (by with_reducible assumption) ?_

theorem Dev.resetEffects_keeps {kof : KeptOf} (d : Dev) (l : Loc) (cause : Nat) (hd : d.Kept kof) :
    (Dev.resetEffects d l cause).Kept kof := by
  unfold Dev.resetEffects
  try dsimp only
  repeat' first
    | with_reducible assumption
    | intro _
    | with_reducible apply Dev.resetUnit_keeps
    | with_reducible apply Dev.resetLanes_keeps
    | with_reducible apply Dev.resetRegion_keeps
    | with_reducible apply Dev.resetDie_keeps
    | with_reducible apply Dev.resetModule_keeps
    | simp only [keep_mk]
    | dsimp only
    | split
    | with_reducible refine keep_fst (by with_reducible assumption) ?_

theorem Dev.resetBegins_keeps {kof : KeptOf} (d : Dev) (l : Loc) (hd : d.Kept kof) :
    (Dev.resetBegins d l).Kept kof := by
  unfold Dev.resetBegins
  try dsimp only
  repeat' first
    | with_reducible assumption
    | intro _
    | with_reducible apply Dev.wakesEnd_keeps
    | simp only [keep_mk]
    | dsimp only
    | split
    | with_reducible refine keep_fst (by with_reducible assumption) ?_

theorem Dev.contactClears_keeps {kof : KeptOf} (d : Dev) (hd : d.Kept kof) :
    (Dev.contactClears d).Kept kof := by
  unfold Dev.contactClears
  try dsimp only
  repeat' first
    | with_reducible assumption
    | intro _
    | with_reducible apply Dev.put_keeps
    | with_reducible apply Dev.faultN_keeps
    | simp only [keep_mk]
    | dsimp only
    | split
    | with_reducible refine keep_fst (by with_reducible assumption) ?_

theorem Dev.reset_keeps {kof : KeptOf} (d : Dev) (l : Loc) (cause : Nat) (act : Option Nat) (hd : d.Kept kof) :
    (Dev.reset d l cause act).Kept kof := by
  unfold Dev.reset
  try dsimp only
  repeat' first
    | with_reducible assumption
    | intro _
    | with_reducible apply keep_ite
    | with_reducible apply Dev.raise_keeps
    | with_reducible apply Dev.when_keeps
    | with_reducible apply Dev.contactClears_keeps
    | with_reducible apply Dev.resetRecords_keeps
    | with_reducible apply Dev.resetBegins_keeps
    | with_reducible apply Dev.resetEffects_keeps
    | simp only [keep_mk]
    | dsimp only
    | split
    | with_reducible refine keep_fst (by with_reducible assumption) ?_

theorem Dev.portsReturn_keeps {kof : KeptOf} (d : Dev) (l : Loc) (hd : d.Kept kof) :
    (Dev.portsReturn d l).Kept kof := by
  unfold Dev.portsReturn
  try dsimp only
  repeat' first
    | with_reducible assumption
    | intro _
    | with_reducible apply keep_ite
    | with_reducible apply Dev.each_keeps
    | with_reducible apply Dev.enterTraining_keeps
    | simp only [keep_mk]
    | dsimp only
    | split
    | with_reducible refine keep_fst (by with_reducible assumption) ?_

theorem Dev.bridgesBack_keeps {kof : KeptOf} (d : Dev) (l : Loc) (hd : d.Kept kof) :
    (Dev.bridgesBack d l).Kept kof := by
  unfold Dev.bridgesBack
  try dsimp only
  repeat' first
    | with_reducible assumption
    | intro _
    | with_reducible apply keep_ite
    | with_reducible apply Dev.bridgesSync_keeps
    | with_reducible apply Dev.pumpAll_keeps
    | with_reducible apply Dev.bridgeSync_keeps
    | simp only [keep_mk]
    | dsimp only
    | split
    | with_reducible refine keep_fst (by with_reducible assumption) ?_

theorem Dev.resetEnds_keeps {kof : KeptOf} (d : Dev) (l : Loc) (hd : d.Kept kof) :
    (Dev.resetEnds d l).Kept kof := by
  unfold Dev.resetEnds
  try dsimp only
  repeat' first
    | with_reducible assumption
    | intro _
    | with_reducible apply keep_ite
    | with_reducible apply Dev.bridgesBack_keeps
    | with_reducible apply Dev.portsReturn_keeps
    | simp only [keep_mk]
    | dsimp only
    | split
    | with_reducible refine keep_fst (by with_reducible assumption) ?_

theorem Dev.resetComplete_keeps {kof : KeptOf} (d : Dev) (l : Loc) (hd : d.Kept kof) :
    (Dev.resetComplete d l).Kept kof := by
  unfold Dev.resetComplete
  try dsimp only
  repeat' first
    | with_reducible assumption
    | intro _
    | with_reducible apply keep_ite
    | with_reducible apply Dev.resetEnds_keeps
    | simp only [keep_mk]
    | dsimp only
    | split
    | with_reducible refine keep_fst (by with_reducible assumption) ?_

theorem Dev.faultCause_keeps {kof : KeptOf} (d : Dev) (which : Nat) (hd : d.Kept kof) :
    (Dev.faultCause d which).Kept kof := by
  unfold Dev.faultCause
  try dsimp only
  repeat' first
    | with_reducible assumption
    | intro _
    | with_reducible apply Dev.faultN_keeps
    | with_reducible apply Dev.isolate_keeps
    | simp only [keep_mk]
    | dsimp only
    | split
    | with_reducible refine keep_fst (by with_reducible assumption) ?_

theorem Dev.rungAction_keeps {kof : KeptOf} (d : Dev) (slot : Option Nat) (s t : Nat) (l : Loc) (rung ceil : Nat) (words : List Nat) (hd : d.Kept kof) :
    (Dev.rungAction d slot s t l rung ceil words).Kept kof := by
  unfold Dev.rungAction
  try dsimp only
  repeat' first
    | with_reducible assumption
    | intro _
    | with_reducible apply keep_ite
    | with_reducible apply Dev.inc_keeps
    | with_reducible apply Dev.storeWrite_keeps
    | with_reducible apply Dev.when_keeps
    | with_reducible apply Dev.faultCause_keeps
    | with_reducible apply Dev.isolate_keeps
    | with_reducible apply Dev.reset_keeps
    | simp only [keep_mk]
    | dsimp only
    | split
    | with_reducible refine keep_fst (by with_reducible assumption) ?_

theorem Dev.actRec_keeps {kof : KeptOf} (d : Dev) (slot rung : Nat) (hd : d.Kept kof) :
    (Dev.actRec d slot rung).Kept kof := by
  unfold Dev.actRec
  try dsimp only
  repeat' first
    | with_reducible assumption
    | intro _
    | with_reducible apply keep_ite
    | with_reducible apply Dev.setRec_keeps
    | with_reducible apply Dev.rungAction_keeps
    | simp only [keep_mk]
    | dsimp only
    | split
    | with_reducible refine keep_fst (by with_reducible assumption) ?_

theorem Dev.dueActions_keeps {kof : KeptOf} (d : Dev) (hd : d.Kept kof) :
    (Dev.dueActions d).Kept kof := by
  unfold Dev.dueActions
  try dsimp only
  repeat' first
    | with_reducible assumption
    | intro _
    | with_reducible apply keep_ite
    | with_reducible apply Dev.each_keeps
    | with_reducible apply Dev.closeRec_keeps
    | with_reducible apply Dev.actRec_keeps
    | with_reducible apply Dev.rungAction_keeps
    | simp only [keep_mk]
    | dsimp only
    | split
    | with_reducible refine keep_fst (by with_reducible assumption) ?_

theorem Dev.settle_keeps {kof : KeptOf} (d : Dev) (hd : d.Kept kof) :
    (Dev.settle d).Kept kof := by
  unfold Dev.settle
  try dsimp only
  repeat' first
    | with_reducible assumption
    | intro _
    | with_reducible apply Dev.dueActions_keeps
    | with_reducible apply Dev.runFired_keeps
    | with_reducible apply Dev.colSettle_keeps
    | simp only [keep_mk]
    | dsimp only
    | split
    | with_reducible refine keep_fst (by with_reducible assumption) ?_

/-! Machine/FaultCmds.lean -/

theorem Dev.windowExpires_keeps {kof : KeptOf} (d : Dev) (slot : Nat) (unserviced : Bool) (hd : d.Kept kof) :
    (Dev.windowExpires d slot unserviced).Kept kof := by
  unfold Dev.windowExpires
  try dsimp only
  repeat' first
    | with_reducible assumption
    | intro _
    | with_reducible apply keep_ite
    | with_reducible apply Dev.closeRec_keeps
    | with_reducible apply Dev.actRec_keeps
    | simp only [keep_mk]
    | dsimp only
    | split
    | with_reducible refine keep_fst (by with_reducible assumption) ?_

theorem Dev.escalates_keeps {kof : KeptOf} (d : Dev) (slot : Nat) (unserviced : Bool) (hd : d.Kept kof) :
    (Dev.escalates d slot unserviced).Kept kof := by
  unfold Dev.escalates
  try dsimp only
  repeat' first
    | with_reducible assumption
    | intro _
    | with_reducible apply keep_ite
    | with_reducible apply Dev.closeRec_keeps
    | with_reducible apply Dev.actRec_keeps
    | simp only [keep_mk]
    | dsimp only
    | split
    | with_reducible refine keep_fst (by with_reducible assumption) ?_

theorem Dev.ackStatus_keeps {kof : KeptOf} (d : Dev) (st : Nat) (hd : d.Kept kof) :
    (Dev.ackStatus d st).Kept kof := by
  unfold Dev.ackStatus
  try dsimp only
  repeat' first
    | with_reducible assumption
    | intro _
    | with_reducible apply Dev.put_keeps
    | simp only [keep_mk]
    | dsimp only
    | split
    | with_reducible refine keep_fst (by with_reducible assumption) ?_

theorem Dev.ackClear_keeps {kof : KeptOf} (d : Dev) (id : Nat) (hd : d.Kept kof) :
    (Dev.ackClear d id).Kept kof := by
  unfold Dev.ackClear
  try dsimp only
  repeat' first
    | with_reducible assumption
    | intro _
    | with_reducible apply Dev.closeRec_keeps
    | with_reducible apply Dev.ackStatus_keeps
    | simp only [keep_mk]
    | simp only [id_eq]
    | dsimp only
    | split
    | with_reducible refine keep_fst (by with_reducible assumption) ?_

theorem Dev.ackAct_keeps {kof : KeptOf} (d : Dev) (id : Nat) (hd : d.Kept kof) :
    (Dev.ackAct d id).Kept kof := by
  unfold Dev.ackAct
  try dsimp only
  repeat' first
    | with_reducible assumption
    | intro _
    | with_reducible apply keep_ite
    | with_reducible apply Dev.ackStatus_keeps
    | with_reducible apply Dev.actRec_keeps
    | simp only [keep_mk]
    | simp only [id_eq]
    | dsimp only
    | split
    | with_reducible refine keep_fst (by with_reducible assumption) ?_

theorem Dev.fltAck_keeps {kof : KeptOf} (d : Dev) (v : Word) (hd : d.Kept kof) :
    (Dev.fltAck d v).Kept kof := by
  unfold Dev.fltAck
  try dsimp only
  repeat' first
    | with_reducible assumption
    | intro _
    | with_reducible apply Dev.ackClear_keeps
    | with_reducible apply Dev.ackAct_keeps
    | with_reducible apply Dev.ackStatus_keeps
    | simp only [keep_mk]
    | dsimp only
    | split
    | with_reducible refine keep_fst (by with_reducible assumption) ?_

theorem Dev.carryLapses_keeps {kof : KeptOf} (d : Dev) (n : Nat) (hd : d.Kept kof) :
    (Dev.carryLapses d n).Kept kof := by
  unfold Dev.carryLapses
  try dsimp only
  repeat' first
    | with_reducible assumption
    | intro _
    | simp only [keep_mk]
    | dsimp only
    | split
    | with_reducible refine keep_fst (by with_reducible assumption) ?_

theorem Dev.faultRelease_keeps {kof : KeptOf} (d : Dev) (hd : d.Kept kof) :
    (Dev.faultRelease d).Kept kof := by
  unfold Dev.faultRelease
  try dsimp only
  repeat' first
    | with_reducible assumption
    | intro _
    | with_reducible apply keep_ite
    | with_reducible apply Dev.faultN_keeps
    | simp only [keep_mk]
    | dsimp only
    | split
    | with_reducible refine keep_fst (by with_reducible assumption) ?_

theorem Dev.faultForce_keeps {kof : KeptOf} (d : Dev) (on : Bool) (hd : d.Kept kof) :
    (Dev.faultForce d on).Kept kof := by
  unfold Dev.faultForce
  try dsimp only
  repeat' first
    | with_reducible assumption
    | intro _
    | with_reducible apply Dev.putB_keeps
    | with_reducible apply Dev.faultN_keeps
    | simp only [keep_mk]
    | dsimp only
    | split
    | with_reducible refine keep_fst (by with_reducible assumption) ?_

theorem Dev.faultHoldEnds_keeps {kof : KeptOf} (d : Dev) (hd : d.Kept kof) :
    (Dev.faultHoldEnds d).Kept kof := by
  unfold Dev.faultHoldEnds
  try dsimp only
  repeat' first
    | with_reducible assumption
    | intro _
    | with_reducible apply Dev.faultN_keeps
    | simp only [keep_mk]
    | dsimp only
    | split
    | with_reducible refine keep_fst (by with_reducible assumption) ?_

theorem Dev.fltFaultn_keeps {kof : KeptOf} (d : Dev) (v : Word) (hd : d.Kept kof) :
    (Dev.fltFaultn d v).Kept kof := by
  unfold Dev.fltFaultn
  try dsimp only
  repeat' first
    | with_reducible assumption
    | intro _
    | with_reducible apply Dev.faultForce_keeps
    | with_reducible apply Dev.when_keeps
    | with_reducible apply Dev.faultRelease_keeps
    | simp only [keep_mk]
    | dsimp only
    | split
    | with_reducible refine keep_fst (by with_reducible assumption) ?_

theorem Dev.storeWipe_keeps {kof : KeptOf} (d : Dev) (hd : d.Kept kof) :
    (Dev.storeWipe d).Kept kof := by
  unfold Dev.storeWipe
  try dsimp only
  repeat' first
    | with_reducible assumption
    | intro _
    | simp only [keep_mk]
    | dsimp only
    | split
    | with_reducible refine keep_fst (by with_reducible assumption) ?_

theorem Dev.storeErase_keeps {kof : KeptOf} (d : Dev) (hd : d.Kept kof) :
    (Dev.storeErase d).Kept kof := by
  unfold Dev.storeErase
  try dsimp only
  repeat' first
    | with_reducible assumption
    | intro _
    | with_reducible apply Dev.storeWipe_keeps
    | with_reducible apply Dev.put_keeps
    | simp only [keep_mk]
    | dsimp only
    | split
    | with_reducible refine keep_fst (by with_reducible assumption) ?_

theorem Dev.zoruriHang_keeps {kof : KeptOf} (d : Dev) (q : Nat) (hd : d.Kept kof) :
    (Dev.zoruriHang d q).Kept kof := by
  unfold Dev.zoruriHang
  try dsimp only
  repeat' first
    | with_reducible assumption
    | intro _
    | with_reducible apply Dev.raise_keeps
    | simp only [keep_mk]
    | dsimp only
    | split
    | with_reducible refine keep_fst (by with_reducible assumption) ?_

theorem Dev.zoruriException_keeps {kof : KeptOf} (d : Dev) (q : Nat) (hd : d.Kept kof) :
    (Dev.zoruriException d q).Kept kof := by
  unfold Dev.zoruriException
  try dsimp only
  repeat' first
    | with_reducible assumption
    | intro _
    | with_reducible apply Dev.raise_keeps
    | simp only [keep_mk]
    | dsimp only
    | split
    | with_reducible refine keep_fst (by with_reducible assumption) ?_

theorem Dev.saggarHang_keeps {kof : KeptOf} (d : Dev) (q : Nat) (hd : d.Kept kof) :
    (Dev.saggarHang d q).Kept kof := by
  unfold Dev.saggarHang
  try dsimp only
  repeat' first
    | with_reducible assumption
    | intro _
    | with_reducible apply Dev.raise_keeps
    | simp only [keep_mk]
    | dsimp only
    | split
    | with_reducible refine keep_fst (by with_reducible assumption) ?_

theorem Dev.poisonSlot_keeps {kof : KeptOf} (d : Dev) (c s : Nat) (hd : d.Kept kof) :
    (Dev.poisonSlot d c s).Kept kof := by
  unfold Dev.poisonSlot
  try dsimp only
  repeat' first
    | with_reducible assumption
    | intro _
    | with_reducible apply Dev.put_keeps
    | simp only [keep_mk]
    | dsimp only
    | split
    | with_reducible refine keep_fst (by with_reducible assumption) ?_

theorem Dev.bankError_keeps {kof : KeptOf} (d : Dev) (q b n s : Nat) (hd : d.Kept kof) :
    (Dev.bankError d q b n s).Kept kof := by
  unfold Dev.bankError
  try dsimp only
  repeat' first
    | with_reducible assumption
    | intro _
    | with_reducible apply Dev.poisonSlot_keeps
    | with_reducible apply Dev.raise_keeps
    | simp only [keep_mk]
    | dsimp only
    | split
    | with_reducible refine keep_fst (by with_reducible assumption) ?_

theorem Dev.sramHit_keeps {kof : KeptOf} (d : Dev) (q what n : Nat) (hd : d.Kept kof) :
    (Dev.sramHit d q what n).Kept kof := by
  unfold Dev.sramHit
  try dsimp only
  repeat' first
    | with_reducible assumption
    | intro _
    | with_reducible apply keep_ite
    | with_reducible apply Dev.connError_keeps
    | with_reducible apply Dev.setRegion_keeps
    | with_reducible apply Dev.memFail_keeps
    | with_reducible apply Dev.failOp_keeps
    | simp only [keep_mk]
    | dsimp only
    | split
    | with_reducible refine keep_fst (by with_reducible assumption) ?_

theorem Dev.memoryError_keeps {kof : KeptOf} (d : Dev) (q kind x y z : Nat) (hd : d.Kept kof) :
    (Dev.memoryError d q kind x y z).Kept kof := by
  unfold Dev.memoryError
  try dsimp only
  repeat' first
    | with_reducible assumption
    | intro _
    | with_reducible apply Dev.bankError_keeps
    | with_reducible apply Dev.sramHit_keeps
    | with_reducible apply Dev.inc_keeps
    | with_reducible apply Dev.raise_keeps
    | simp only [keep_mk]
    | dsimp only
    | split
    | with_reducible refine keep_fst (by with_reducible assumption) ?_

theorem Dev.hostInternal_keeps {kof : KeptOf} (d : Dev) (q : Nat) (hd : d.Kept kof) :
    (Dev.hostInternal d q).Kept kof := by
  unfold Dev.hostInternal
  try dsimp only
  repeat' first
    | with_reducible assumption
    | intro _
    | with_reducible apply Dev.raise_keeps
    | simp only [keep_mk]
    | dsimp only
    | split
    | with_reducible refine keep_fst (by with_reducible assumption) ?_

theorem Dev.unitReset_keeps {kof : KeptOf} (d : Dev) (q ukind i : Nat) (hd : d.Kept kof) :
    (Dev.unitReset d q ukind i).Kept kof := by
  unfold Dev.unitReset
  try dsimp only
  repeat' first
    | with_reducible assumption
    | intro _
    | with_reducible apply Dev.reset_keeps
    | simp only [keep_mk]
    | dsimp only
    | split
    | with_reducible refine keep_fst (by with_reducible assumption) ?_

theorem Dev.resetContact_keeps {kof : KeptOf} (d : Dev) (ns : Nat) (hd : d.Kept kof) :
    (Dev.resetContact d ns).Kept kof := by
  unfold Dev.resetContact
  try dsimp only
  repeat' first
    | with_reducible assumption
    | intro _
    | with_reducible apply keep_ite
    | with_reducible apply Dev.freed_keeps
    | with_reducible apply Dev.reset_keeps
    | simp only [keep_mk]
    | dsimp only
    | split
    | with_reducible refine keep_fst (by with_reducible assumption) ?_

theorem Dev.hostPerst_keeps {kof : KeptOf} (d : Dev) (q : Nat) (hd : d.Kept kof) :
    (Dev.hostPerst d q).Kept kof := by
  unfold Dev.hostPerst
  try dsimp only
  repeat' first
    | with_reducible assumption
    | intro _
    | with_reducible apply Dev.reset_keeps
    | simp only [keep_mk]
    | dsimp only
    | split
    | with_reducible refine keep_fst (by with_reducible assumption) ?_

theorem Dev.mgmtReset_keeps {kof : KeptOf} (d : Dev) (hd : d.Kept kof) :
    (Dev.mgmtReset d).Kept kof := by
  unfold Dev.mgmtReset
  try dsimp only
  repeat' first
    | with_reducible assumption
    | intro _
    | with_reducible apply Dev.windowOff_keeps
    | with_reducible apply Dev.msixClear_keeps
    | with_reducible apply Dev.readerLost_keeps
    | with_reducible apply Dev.raise_keeps
    | simp only [keep_mk]
    | dsimp only
    | split
    | with_reducible refine keep_fst (by with_reducible assumption) ?_

theorem Dev.functionReset_keeps {kof : KeptOf} (d : Dev) (q f : Nat) (hd : d.Kept kof) :
    (Dev.functionReset d q f).Kept kof := by
  unfold Dev.functionReset
  try dsimp only
  repeat' first
    | with_reducible assumption
    | intro _
    | with_reducible apply Dev.funcReset_keeps
    | with_reducible apply Dev.startWipe_keeps
    | with_reducible apply Dev.raise_keeps
    | simp only [keep_mk]
    | dsimp only
    | split
    | with_reducible refine keep_fst (by with_reducible assumption) ?_

theorem Dev.hostLinkDown_keeps {kof : KeptOf} (d : Dev) (q : Nat) (hot : Bool) (hd : d.Kept kof) :
    (Dev.hostLinkDown d q hot).Kept kof := by
  unfold Dev.hostLinkDown
  try dsimp only
  repeat' first
    | with_reducible assumption
    | intro _
    | with_reducible apply Dev.reset_keeps
    | with_reducible apply Dev.when_keeps
    | with_reducible apply Dev.raise_keeps
    | simp only [keep_mk]
    | dsimp only
    | split
    | with_reducible refine keep_fst (by with_reducible assumption) ?_

/-! Machine/Saggar.lean -/

theorem Dev.setLevel_keeps {kof : KeptOf} (d : Dev) (level signer : Nat) (hd : d.Kept kof) :
    (Dev.setLevel d level signer).Kept kof := by
  unfold Dev.setLevel
  try dsimp only
  repeat' first
    | with_reducible assumption
    | intro _
    | with_reducible apply Dev.put_keeps
    | simp only [keep_mk]
    | dsimp only
    | split
    | with_reducible refine keep_fst (by with_reducible assumption) ?_

theorem Dev.lowerLevel_keeps {kof : KeptOf} (d : Dev) (v : Nat) (hd : d.Kept kof) :
    (Dev.lowerLevel d v).Kept kof := by
  unfold Dev.lowerLevel
  try dsimp only
  repeat' first
    | with_reducible assumption
    | intro _
    | with_reducible apply keep_ite
    | with_reducible apply Dev.setLevel_keeps
    | simp only [keep_mk]
    | dsimp only
    | split
    | with_reducible refine keep_fst (by with_reducible assumption) ?_

theorem Dev.challengeRead_keeps {kof : KeptOf} (d : Dev) (hd : d.Kept kof) :
    (Dev.challengeRead d).Kept kof := by
  unfold Dev.challengeRead
  try dsimp only
  repeat' first
    | with_reducible assumption
    | intro _
    | with_reducible apply keep_ite
    | with_reducible apply Dev.put_keeps
    | with_reducible apply Dev.drawn_keeps
    | simp only [keep_mk]
    | dsimp only
    | split
    | with_reducible refine keep_fst (by with_reducible assumption) ?_

theorem Dev.entropyFails_keeps {kof : KeptOf} (d : Dev) (q : Nat) (hd : d.Kept kof) :
    (Dev.entropyFails d q).Kept kof := by
  unfold Dev.entropyFails
  try dsimp only
  repeat' first
    | with_reducible assumption
    | intro _
    | with_reducible apply Dev.raise_keeps
    | simp only [keep_mk]
    | dsimp only
    | split
    | with_reducible refine keep_fst (by with_reducible assumption) ?_

theorem Dev.entropyRecovers_keeps {kof : KeptOf} (d : Dev) (q : Nat) (hd : d.Kept kof) :
    (Dev.entropyRecovers d q).Kept kof := by
  unfold Dev.entropyRecovers
  try dsimp only
  repeat' first
    | with_reducible assumption
    | intro _
    | with_reducible apply keep_ite
    | with_reducible apply Dev.put_keeps
    | with_reducible apply Dev.drawn_keeps
    | simp only [keep_mk]
    | dsimp only
    | split
    | with_reducible refine keep_fst (by with_reducible assumption) ?_

theorem Dev.tokStatus_keeps {kof : KeptOf} (d : Dev) (st : Nat) (hd : d.Kept kof) :
    (Dev.tokStatus d st).Kept kof := by
  unfold Dev.tokStatus
  try dsimp only
  repeat' first
    | with_reducible assumption
    | intro _
    | with_reducible apply Dev.put_keeps
    | simp only [keep_mk]
    | dsimp only
    | split
    | with_reducible refine keep_fst (by with_reducible assumption) ?_

theorem Dev.present_keeps {kof : KeptOf} (d : Dev) (q : Nat) (path : Path) (hd : d.Kept kof) :
    (Dev.present d q path).Kept kof := by
  unfold Dev.present
  try dsimp only
  repeat' first
    | with_reducible assumption
    | intro _
    | with_reducible apply keep_ite
    | with_reducible apply Dev.tokStatus_keeps
    | with_reducible apply Dev.inc_keeps
    | with_reducible apply Dev.put_keeps
    | simp only [keep_mk]
    | dsimp only
    | split
    | with_reducible refine keep_fst (by with_reducible assumption) ?_

theorem Dev.eraseAllKeys_keeps {kof : KeptOf} (d : Dev) (hd : d.Kept kof) :
    (Dev.eraseAllKeys d).Kept kof := by
  unfold Dev.eraseAllKeys
  try dsimp only
  repeat' first
    | with_reducible assumption
    | intro _
    | with_reducible apply Dev.each_keeps
    | with_reducible apply Dev.eraseKeys_keeps
    | with_reducible apply Dev.connError_keeps
    | simp only [keep_mk]
    | dsimp only
    | split
    | with_reducible refine keep_fst (by with_reducible assumption) ?_

theorem Dev.grantLevel_keeps {kof : KeptOf} (d : Dev) (level signer : Nat) (hd : d.Kept kof) :
    (Dev.grantLevel d level signer).Kept kof := by
  unfold Dev.grantLevel
  try dsimp only
  repeat' first
    | with_reducible assumption
    | intro _
    | with_reducible apply keep_ite
    | with_reducible apply Dev.setLevel_keeps
    | with_reducible apply Dev.eraseAllKeys_keeps
    | with_reducible apply Dev.startWipe_keeps
    | simp only [keep_mk]
    | dsimp only
    | split
    | with_reducible refine keep_fst (by with_reducible assumption) ?_

theorem Dev.startChange_keeps {kof : KeptOf} (d : Dev) (st : Nat) (hd : d.Kept kof) :
    (Dev.startChange d st).Kept kof := by
  unfold Dev.startChange
  try dsimp only
  repeat' first
    | with_reducible assumption
    | intro _
    | with_reducible apply keep_ite
    | with_reducible apply Dev.put_keeps
    | with_reducible apply Dev.startWipe_keeps
    | simp only [keep_mk]
    | dsimp only
    | split
    | with_reducible refine keep_fst (by with_reducible assumption) ?_

theorem Dev.tokenVerified_keeps {kof : KeptOf} (d : Dev) (hd : d.Kept kof) :
    (Dev.tokenVerified d).Kept kof := by
  unfold Dev.tokenVerified
  try dsimp only
  repeat' first
    | with_reducible assumption
    | intro _
    | with_reducible apply keep_ite
    | with_reducible apply Dev.put_keeps
    | with_reducible apply Dev.tokStatus_keeps
    | with_reducible apply Dev.inc_keeps
    | with_reducible apply Dev.grantLevel_keeps
    | with_reducible apply Dev.startChange_keeps
    | simp only [keep_mk]
    | dsimp only
    | split
    | with_reducible refine keep_fst (by with_reducible assumption) ?_

theorem Dev.setOpkey_keeps {kof : KeptOf} (d : Dev) (q : Nat) (path : Path) (hd : d.Kept kof) :
    (Dev.setOpkey d q path).Kept kof := by
  unfold Dev.setOpkey
  try dsimp only
  repeat' first
    | with_reducible assumption
    | intro _
    | with_reducible apply keep_ite
    | with_reducible apply Dev.tokStatus_keeps
    | simp only [keep_mk]
    | dsimp only
    | split
    | with_reducible refine keep_fst (by with_reducible assumption) ?_

theorem Dev.tokCommand_keeps {kof : KeptOf} (d : Dev) (q : Nat) (path : Path) (v : Word) (hd : d.Kept kof) :
    (Dev.tokCommand d q path v).Kept kof := by
  unfold Dev.tokCommand
  try dsimp only
  repeat' first
    | with_reducible assumption
    | intro _
    | with_reducible apply Dev.present_keeps
    | with_reducible apply Dev.setOpkey_keeps
    | with_reducible apply Dev.tokStatus_keeps
    | simp only [keep_mk]
    | dsimp only
    | split
    | with_reducible refine keep_fst (by with_reducible assumption) ?_

theorem Dev.keyInstall_keeps {kof : KeptOf} (d : Dev) (q f slot state : Nat) (hd : d.Kept kof) :
    (Dev.keyInstall d q f slot state).Kept kof := by
  unfold Dev.keyInstall
  try dsimp only
  repeat' first
    | with_reducible assumption
    | intro _
    | with_reducible apply Dev.when_keeps
    | with_reducible apply Dev.put_keeps
    | with_reducible apply Dev.setKeySlot_keeps
    | with_reducible apply Dev.inc_keeps
    | simp only [keep_mk]
    | dsimp only
    | split
    | with_reducible refine keep_fst (by with_reducible assumption) ?_

theorem Dev.installConn_keeps {kof : KeptOf} (d : Dev) (q f slot : Nat) (hd : d.Kept kof) :
    (Dev.installConn d q f slot).1.Kept kof := by
  unfold Dev.installConn
  try dsimp only
  repeat' first
    | with_reducible assumption
    | intro _
    | with_reducible apply keep_ite
    | with_reducible apply Dev.keyInstall_keeps
    | simp only [keep_mk]
    | dsimp only
    | split
    | with_reducible refine keep_fst (by with_reducible assumption) ?_

theorem Dev.installGroup_keeps {kof : KeptOf} (d : Dev) (q f slot : Nat) (hd : d.Kept kof) :
    (Dev.installGroup d q f slot).1.Kept kof := by
  unfold Dev.installGroup
  try dsimp only
  repeat' first
    | with_reducible assumption
    | intro _
    | with_reducible apply keep_ite
    | with_reducible apply Dev.keyInstall_keeps
    | simp only [keep_mk]
    | dsimp only
    | split
    | with_reducible refine keep_fst (by with_reducible assumption) ?_

theorem Dev.keyErase_keeps {kof : KeptOf} (d : Dev) (q f slot : Nat) (hd : d.Kept kof) :
    (Dev.keyErase d q f slot).1.Kept kof := by
  unfold Dev.keyErase
  try dsimp only
  repeat' first
    | with_reducible assumption
    | intro _
    | with_reducible apply keep_ite
    | with_reducible apply Dev.freeKey_keeps
    | simp only [keep_mk]
    | dsimp only
    | split
    | with_reducible refine keep_fst (by with_reducible assumption) ?_

theorem Dev.keyCmd_keeps {kof : KeptOf} (d : Dev) (q f : Nat) (v : Word) (act : Dev → Nat → Dev × Nat) (hd : d.Kept kof) (hact : ∀ d x1, d.Kept kof → (act d x1).1.Kept kof) :
    (Dev.keyCmd d q f v act).Kept kof := by
  unfold Dev.keyCmd
  try dsimp only
  repeat' first
    | with_reducible assumption
    | intro _
    | with_reducible apply keep_ite
    | with_reducible apply Dev.put_keeps
    | with_reducible apply Dev.each_keeps
    | with_reducible apply Dev.wr_keeps
    | simp only [keep_mk]
    | with_reducible apply hact
    | dsimp only
    | split
    | with_reducible refine keep_fst (by with_reducible assumption) ?_

theorem Dev.keyInstallConn_keeps {kof : KeptOf} (d : Dev) (q f : Nat) (v : Word) (hd : d.Kept kof) :
    (Dev.keyInstallConn d q f v).Kept kof := by
  unfold Dev.keyInstallConn
  try dsimp only
  repeat' first
    | with_reducible assumption
    | intro _
    | with_reducible apply Dev.keyCmd_keeps
    | with_reducible apply Dev.installConn_keeps
    | simp only [keep_mk]
    | dsimp only
    | split
    | with_reducible refine keep_fst (by with_reducible assumption) ?_

theorem Dev.keyInstallGroup_keeps {kof : KeptOf} (d : Dev) (q f : Nat) (v : Word) (hd : d.Kept kof) :
    (Dev.keyInstallGroup d q f v).Kept kof := by
  unfold Dev.keyInstallGroup
  try dsimp only
  repeat' first
    | with_reducible assumption
    | intro _
    | with_reducible apply Dev.keyCmd_keeps
    | with_reducible apply Dev.installGroup_keeps
    | simp only [keep_mk]
    | dsimp only
    | split
    | with_reducible refine keep_fst (by with_reducible assumption) ?_

theorem Dev.keyEraseCmd_keeps {kof : KeptOf} (d : Dev) (q f : Nat) (v : Word) (hd : d.Kept kof) :
    (Dev.keyEraseCmd d q f v).Kept kof := by
  unfold Dev.keyEraseCmd
  try dsimp only
  repeat' first
    | with_reducible assumption
    | intro _
    | with_reducible apply Dev.keyCmd_keeps
    | with_reducible apply Dev.keyErase_keeps
    | simp only [keep_mk]
    | dsimp only
    | split
    | with_reducible refine keep_fst (by with_reducible assumption) ?_

theorem Dev.keyCommand_keeps {kof : KeptOf} (d : Dev) (q f : Nat) (v : Word) (hd : d.Kept kof) :
    (Dev.keyCommand d q f v).Kept kof := by
  unfold Dev.keyCommand
  try dsimp only
  repeat' first
    | with_reducible assumption
    | intro _
    | with_reducible apply Dev.put_keeps
    | with_reducible apply Dev.keyInstallConn_keeps
    | with_reducible apply Dev.keyInstallGroup_keeps
    | with_reducible apply Dev.keyEraseCmd_keeps
    | with_reducible apply Dev.keyCmd_keeps
    | simp only [keep_mk]
    | dsimp only
    | split
    | with_reducible refine keep_fst (by with_reducible assumption) ?_

theorem Dev.wipeShown_keeps {kof : KeptOf} (d : Dev) (w : Wipe) (hd : d.Kept kof) :
    (Dev.wipeShown d w).Kept kof := by
  unfold Dev.wipeShown
  try dsimp only
  repeat' first
    | with_reducible assumption
    | intro _
    | with_reducible apply keep_ite
    | with_reducible apply Dev.each_keeps
    | with_reducible apply Dev.putB_keeps
    | with_reducible apply Dev.put_keeps
    | with_reducible apply Dev.inc_keeps
    | simp only [keep_mk]
    | dsimp only
    | split
    | with_reducible refine keep_fst (by with_reducible assumption) ?_

theorem Dev.changeDone_keeps {kof : KeptOf} (d : Dev) (w : Wipe) (hd : d.Kept kof) :
    (Dev.changeDone d w).Kept kof := by
  unfold Dev.changeDone
  try dsimp only
  repeat' first
    | with_reducible assumption
    | intro _
    | with_reducible apply keep_ite
    | with_reducible apply Dev.resetEnds_keeps
    | with_reducible apply Dev.storeWipe_keeps
    | with_reducible apply Dev.reset_keeps
    | simp only [keep_mk]
    | dsimp only
    | split
    | with_reducible refine keep_fst (by with_reducible assumption) ?_

theorem Dev.wipeCalled_keeps {kof : KeptOf} (d : Dev) (w : Wipe) (hd : d.Kept kof) :
    (Dev.wipeCalled d w).Kept kof := by
  unfold Dev.wipeCalled
  try dsimp only
  repeat' first
    | with_reducible assumption
    | intro _
    | with_reducible apply keep_ite
    | with_reducible apply Dev.resetEnds_keeps
    | with_reducible apply Dev.setLevel_keeps
    | with_reducible apply Dev.changeDone_keeps
    | simp only [keep_mk]
    | dsimp only
    | split
    | with_reducible refine keep_fst (by with_reducible assumption) ?_

theorem Dev.wipeDone_keeps {kof : KeptOf} (d : Dev) (scope die part : Nat) (hd : d.Kept kof) :
    (Dev.wipeDone d scope die part).Kept kof := by
  unfold Dev.wipeDone
  try dsimp only
  repeat' first
    | with_reducible assumption
    | intro _
    | with_reducible apply Dev.wipeShown_keeps
    | with_reducible apply Dev.wipeCalled_keeps
    | simp only [keep_mk]
    | dsimp only
    | split
    | with_reducible refine keep_fst (by with_reducible assumption) ?_

/-! Machine/Power.lean -/

theorem Dev.setCone_keeps {kof : KeptOf} (d : Dev) (n : Nat) (hd : d.Kept kof) :
    (Dev.setCone d n).Kept kof := by
  unfold Dev.setCone
  try dsimp only
  repeat' first
    | with_reducible assumption
    | intro _
    | with_reducible apply Dev.put_keeps
    | with_reducible apply Dev.putB_keeps
    | simp only [keep_mk]
    | dsimp only
    | split
    | with_reducible refine keep_fst (by with_reducible assumption) ?_

theorem Dev.coneFall_keeps {kof : KeptOf} (d : Dev) (hd : d.Kept kof) :
    (Dev.coneFall d).Kept kof := by
  unfold Dev.coneFall
  try dsimp only
  repeat' first
    | with_reducible assumption
    | intro _
    | with_reducible apply Dev.setCone_keeps
    | simp only [keep_mk]
    | dsimp only
    | split
    | with_reducible refine keep_fst (by with_reducible assumption) ?_

theorem Dev.coneRise_keeps {kof : KeptOf} (d : Dev) (hd : d.Kept kof) :
    (Dev.coneRise d).Kept kof := by
  unfold Dev.coneRise
  try dsimp only
  repeat' first
    | with_reducible assumption
    | intro _
    | with_reducible apply keep_ite
    | with_reducible apply Dev.setCone_keeps
    | simp only [keep_mk]
    | dsimp only
    | split
    | with_reducible refine keep_fst (by with_reducible assumption) ?_

theorem Dev.pwrCtrl_keeps {kof : KeptOf} (d : Dev) (v : Word) (hd : d.Kept kof) :
    (Dev.pwrCtrl d v).Kept kof := by
  unfold Dev.pwrCtrl
  try dsimp only
  repeat' first
    | with_reducible assumption
    | intro _
    | with_reducible apply Dev.wrFields_keeps
    | with_reducible apply Dev.coneFall_keeps
    | simp only [keep_mk]
    | dsimp only
    | split
    | with_reducible refine keep_fst (by with_reducible assumption) ?_

theorem Dev.powerSample_keeps {kof : KeptOf} (d : Dev) (mv iin pin : Nat) (hd : d.Kept kof) :
    (Dev.powerSample d mv iin pin).Kept kof := by
  unfold Dev.powerSample
  try dsimp only
  repeat' first
    | with_reducible assumption
    | intro _
    | with_reducible apply keep_ite
    | with_reducible apply Dev.put_keeps
    | with_reducible apply Dev.coneFall_keeps
    | simp only [keep_mk]
    | dsimp only
    | split
    | with_reducible refine keep_fst (by with_reducible assumption) ?_

theorem Dev.capMiss_keeps {kof : KeptOf} (d : Dev) (hd : d.Kept kof) :
    (Dev.capMiss d).Kept kof := by
  unfold Dev.capMiss
  try dsimp only
  repeat' first
    | with_reducible assumption
    | intro _
    | with_reducible apply keep_ite
    | with_reducible apply Dev.put_keeps
    | with_reducible apply Dev.inc_keeps
    | with_reducible apply Dev.raise_keeps
    | simp only [keep_mk]
    | dsimp only
    | split
    | with_reducible refine keep_fst (by with_reducible assumption) ?_

theorem Dev.overcurrent_keeps {kof : KeptOf} (d : Dev) (hd : d.Kept kof) :
    (Dev.overcurrent d).Kept kof := by
  unfold Dev.overcurrent
  try dsimp only
  repeat' first
    | with_reducible assumption
    | intro _
    | with_reducible apply Dev.coneFall_keeps
    | with_reducible apply Dev.raise_keeps
    | simp only [keep_mk]
    | dsimp only
    | split
    | with_reducible refine keep_fst (by with_reducible assumption) ?_

theorem Dev.setTj_keeps {kof : KeptOf} (d : Dev) (tj die : Nat) (hd : d.Kept kof) :
    (Dev.setTj d tj die).Kept kof := by
  unfold Dev.setTj
  try dsimp only
  repeat' first
    | with_reducible assumption
    | intro _
    | with_reducible apply Dev.put_keeps
    | simp only [keep_mk]
    | dsimp only
    | split
    | with_reducible refine keep_fst (by with_reducible assumption) ?_

theorem Dev.setThermal_keeps {kof : KeptOf} (d : Dev) (n : Nat) (hd : d.Kept kof) :
    (Dev.setThermal d n).Kept kof := by
  unfold Dev.setThermal
  try dsimp only
  repeat' first
    | with_reducible assumption
    | intro _
    | with_reducible apply Dev.put_keeps
    | with_reducible apply Dev.putB_keeps
    | with_reducible apply Dev.coneFall_keeps
    | simp only [keep_mk]
    | dsimp only
    | split
    | with_reducible refine keep_fst (by with_reducible assumption) ?_

theorem Dev.thermalFall_keeps {kof : KeptOf} (d : Dev) (tj die : Nat) (hd : d.Kept kof) :
    (Dev.thermalFall d tj die).Kept kof := by
  unfold Dev.thermalFall
  try dsimp only
  repeat' first
    | with_reducible assumption
    | intro _
    | with_reducible apply keep_ite
    | with_reducible apply Dev.setTj_keeps
    | with_reducible apply Dev.inc_keeps
    | with_reducible apply Dev.setThermal_keeps
    | simp only [keep_mk]
    | dsimp only
    | split
    | with_reducible refine keep_fst (by with_reducible assumption) ?_

theorem Dev.thermalRise_keeps {kof : KeptOf} (d : Dev) (tj die : Nat) (hd : d.Kept kof) :
    (Dev.thermalRise d tj die).Kept kof := by
  unfold Dev.thermalRise
  try dsimp only
  repeat' first
    | with_reducible assumption
    | intro _
    | with_reducible apply keep_ite
    | with_reducible apply Dev.setTj_keeps
    | with_reducible apply Dev.setThermal_keeps
    | simp only [keep_mk]
    | dsimp only
    | split
    | with_reducible refine keep_fst (by with_reducible assumption) ?_

theorem Dev.storeShutdown_keeps {kof : KeptOf} (d : Dev) (subtype : Nat) (hd : d.Kept kof) :
    (Dev.storeShutdown d subtype).Kept kof := by
  unfold Dev.storeShutdown
  try dsimp only
  repeat' first
    | with_reducible assumption
    | intro _
    | with_reducible apply Dev.storeWrite_keeps
    | simp only [keep_mk]
    | dsimp only
    | split
    | with_reducible refine keep_fst (by with_reducible assumption) ?_

theorem Dev.powerOff_keeps {kof : KeptOf} (d : Dev) (why : Nat) (hd : d.Kept kof) :
    (Dev.powerOff d why).Kept kof := by
  unfold Dev.powerOff
  try dsimp only
  repeat' first
    | with_reducible assumption
    | intro _
    | with_reducible apply Dev.emit_keeps
    | simp only [keep_mk]
    | dsimp only
    | split
    | with_reducible refine keep_fst (by with_reducible assumption) ?_

theorem Dev.thermalShutdown_keeps {kof : KeptOf} (d : Dev) (tj die : Nat) (hd : d.Kept kof) :
    (Dev.thermalShutdown d tj die).Kept kof := by
  unfold Dev.thermalShutdown
  try dsimp only
  repeat' first
    | with_reducible assumption
    | intro _
    | with_reducible apply keep_ite
    | with_reducible apply Dev.setTj_keeps
    | with_reducible apply Dev.storeShutdown_keeps
    | with_reducible apply Dev.faultCause_keeps
    | with_reducible apply Dev.powerOff_keeps
    | simp only [keep_mk]
    | dsimp only
    | split
    | with_reducible refine keep_fst (by with_reducible assumption) ?_

theorem Dev.powerOn_keeps {kof : KeptOf} (d : Dev) (hd : d.Kept kof) :
    (Dev.powerOn d).Kept kof := by
  unfold Dev.powerOn
  try dsimp only
  repeat' first
    | with_reducible assumption
    | intro _
    | with_reducible apply keep_ite
    | with_reducible apply Dev.emit_keeps
    | simp only [keep_mk]
    | dsimp only
    | split
    | with_reducible refine keep_fst (by with_reducible assumption) ?_

theorem Dev.thermalRestart_keeps {kof : KeptOf} (d : Dev) (tj : Nat) (hd : d.Kept kof) :
    (Dev.thermalRestart d tj).Kept kof := by
  unfold Dev.thermalRestart
  try dsimp only
  repeat' first
    | with_reducible assumption
    | intro _
    | with_reducible apply keep_ite
    | with_reducible apply Dev.powerOn_keeps
    | with_reducible apply Dev.faultN_keeps
    | with_reducible apply Dev.reset_keeps
    | simp only [keep_mk]
    | dsimp only
    | split
    | with_reducible refine keep_fst (by with_reducible assumption) ?_

theorem Dev.vinWarn_keeps {kof : KeptOf} (d : Dev) (mv : Nat) (hd : d.Kept kof) :
    (Dev.vinWarn d mv).Kept kof := by
  unfold Dev.vinWarn
  try dsimp only
  repeat' first
    | with_reducible assumption
    | intro _
    | with_reducible apply keep_ite
    | with_reducible apply Dev.put_keeps
    | with_reducible apply Dev.inc_keeps
    | with_reducible apply Dev.emit_keeps
    | with_reducible apply Dev.coneFall_keeps
    | simp only [keep_mk]
    | dsimp only
    | split
    | with_reducible refine keep_fst (by with_reducible assumption) ?_

theorem Dev.vinWarnEnds_keeps {kof : KeptOf} (d : Dev) (mv : Nat) (hd : d.Kept kof) :
    (Dev.vinWarnEnds d mv).Kept kof := by
  unfold Dev.vinWarnEnds
  try dsimp only
  repeat' first
    | with_reducible assumption
    | intro _
    | with_reducible apply keep_ite
    | with_reducible apply Dev.put_keeps
    | with_reducible apply Dev.coneFall_keeps
    | simp only [keep_mk]
    | dsimp only
    | split
    | with_reducible refine keep_fst (by with_reducible assumption) ?_

theorem Dev.oasisLost_keeps {kof : KeptOf} (d : Dev) (hd : d.Kept kof) :
    (Dev.oasisLost d).Kept kof := by
  unfold Dev.oasisLost
  try dsimp only
  repeat' first
    | with_reducible assumption
    | intro _
    | with_reducible apply Dev.put_keeps
    | with_reducible apply Dev.faultN_keeps
    | simp only [keep_mk]
    | dsimp only
    | split
    | with_reducible refine keep_fst (by with_reducible assumption) ?_

theorem Dev.vinReset_keeps {kof : KeptOf} (d : Dev) (hd : d.Kept kof) :
    (Dev.vinReset d).Kept kof := by
  unfold Dev.vinReset
  try dsimp only
  repeat' first
    | with_reducible assumption
    | intro _
    | with_reducible apply keep_ite
    | with_reducible apply Dev.powerOff_keeps
    | with_reducible apply Dev.reset_keeps
    | with_reducible apply Dev.faultN_keeps
    | with_reducible apply Dev.when_keeps
    | with_reducible apply Dev.oasisLost_keeps
    | simp only [keep_mk]
    | dsimp only
    | split
    | with_reducible refine keep_fst (by with_reducible assumption) ?_

theorem Dev.vinOver_keeps {kof : KeptOf} (d : Dev) (hd : d.Kept kof) :
    (Dev.vinOver d).Kept kof := by
  unfold Dev.vinOver
  try dsimp only
  repeat' first
    | with_reducible assumption
    | intro _
    | with_reducible apply keep_ite
    | with_reducible apply Dev.storeShutdown_keeps
    | with_reducible apply Dev.powerOff_keeps
    | with_reducible apply Dev.reset_keeps
    | simp only [keep_mk]
    | dsimp only
    | split
    | with_reducible refine keep_fst (by with_reducible assumption) ?_

theorem Dev.vinReturn_keeps {kof : KeptOf} (d : Dev) (hd : d.Kept kof) :
    (Dev.vinReturn d).Kept kof := by
  unfold Dev.vinReturn
  try dsimp only
  repeat' first
    | with_reducible assumption
    | intro _
    | with_reducible apply keep_ite
    | with_reducible apply Dev.powerOn_keeps
    | simp only [keep_mk]
    | dsimp only
    | split
    | with_reducible refine keep_fst (by with_reducible assumption) ?_

theorem Dev.vstbyChange_keeps {kof : KeptOf} (d : Dev) (on : Bool) (hd : d.Kept kof) :
    (Dev.vstbyChange d on).Kept kof := by
  unfold Dev.vstbyChange
  try dsimp only
  repeat' first
    | with_reducible assumption
    | intro _
    | with_reducible apply Dev.putB_keeps
    | with_reducible apply Dev.when_keeps
    | with_reducible apply Dev.oasisLost_keeps
    | simp only [keep_mk]
    | dsimp only
    | split
    | with_reducible refine keep_fst (by with_reducible assumption) ?_

theorem Dev.domStatus_keeps {kof : KeptOf} (d : Dev) (q st : Nat) (hd : d.Kept kof) :
    (Dev.domStatus d q st).Kept kof := by
  unfold Dev.domStatus
  try dsimp only
  repeat' first
    | with_reducible assumption
    | intro _
    | with_reducible apply Dev.put_keeps
    | simp only [keep_mk]
    | dsimp only
    | split
    | with_reducible refine keep_fst (by with_reducible assumption) ?_

theorem Dev.enterRegions_keeps {kof : KeptOf} (d : Dev) (q : Nat) (l : List Nat) (hd : d.Kept kof) :
    (Dev.enterRegions d q l).Kept kof := by
  unfold Dev.enterRegions
  try dsimp only
  repeat' first
    | with_reducible assumption
    | intro _
    | with_reducible apply Dev.each_keeps
    | with_reducible apply Dev.portUnroutable_keeps
    | with_reducible apply Dev.setRegionState_keeps
    | with_reducible apply Dev.kilnAbort_keeps
    | simp only [keep_mk]
    | dsimp only
    | split
    | with_reducible refine keep_fst (by with_reducible assumption) ?_

theorem Dev.domNamed_keeps {kof : KeptOf} (d : Dev) (q scope : Nat) (hd : d.Kept kof) :
    (Dev.domNamed d q scope).Kept kof := by
  unfold Dev.domNamed
  try dsimp only
  repeat' first
    | with_reducible assumption
    | intro _
    | with_reducible apply Dev.put_keeps
    | simp only [keep_mk]
    | dsimp only
    | split
    | with_reducible refine keep_fst (by with_reducible assumption) ?_

theorem Dev.domStop_keeps {kof : KeptOf} (d : Dev) (q scope : Nat) (hd : d.Kept kof) :
    (Dev.domStop d q scope).Kept kof := by
  unfold Dev.domStop
  try dsimp only
  repeat' first
    | with_reducible assumption
    | intro _
    | with_reducible apply keep_ite
    | with_reducible apply Dev.domStatus_keeps
    | with_reducible apply Dev.put_keeps
    | with_reducible apply Dev.domNamed_keeps
    | with_reducible apply Dev.enterRegions_keeps
    | simp only [keep_mk]
    | dsimp only
    | split
    | with_reducible refine keep_fst (by with_reducible assumption) ?_

theorem Dev.domWake_keeps {kof : KeptOf} (d : Dev) (q scope : Nat) (hd : d.Kept kof) :
    (Dev.domWake d q scope).Kept kof := by
  unfold Dev.domWake
  try dsimp only
  repeat' first
    | with_reducible assumption
    | intro _
    | with_reducible apply keep_ite
    | with_reducible apply Dev.domStatus_keeps
    | with_reducible apply Dev.domNamed_keeps
    | with_reducible apply Dev.abortEntry_keeps
    | with_reducible apply Dev.wakeRegion_keeps
    | with_reducible apply Dev.wakeDie_keeps
    | simp only [keep_mk]
    | dsimp only
    | split
    | with_reducible refine keep_fst (by with_reducible assumption) ?_

theorem Dev.domctl_keeps {kof : KeptOf} (d : Dev) (q : Nat) (v : Word) (hd : d.Kept kof) :
    (Dev.domctl d q v).Kept kof := by
  unfold Dev.domctl
  try dsimp only
  repeat' first
    | with_reducible assumption
    | intro _
    | with_reducible apply keep_ite
    | with_reducible apply Dev.domNamed_keeps
    | with_reducible apply Dev.domStatus_keeps
    | with_reducible apply Dev.domStop_keeps
    | with_reducible apply Dev.domWake_keeps
    | simp only [keep_mk]
    | dsimp only
    | split
    | with_reducible refine keep_fst (by with_reducible assumption) ?_

theorem Dev.regionEnters_keeps {kof : KeptOf} (d : Dev) (m : Nat) (hd : d.Kept kof) :
    (Dev.regionEnters d m).Kept kof := by
  unfold Dev.regionEnters
  try dsimp only
  repeat' first
    | with_reducible assumption
    | intro _
    | with_reducible apply keep_ite
    | with_reducible apply Dev.stopRegion_keeps
    | with_reducible apply Dev.inc_keeps
    | simp only [keep_mk]
    | dsimp only
    | split
    | with_reducible refine keep_fst (by with_reducible assumption) ?_

theorem Dev.stopComplete_keeps {kof : KeptOf} (d : Dev) (q : Nat) (hd : d.Kept kof) :
    (Dev.stopComplete d q).Kept kof := by
  unfold Dev.stopComplete
  try dsimp only
  repeat' first
    | with_reducible assumption
    | intro _
    | with_reducible apply keep_ite
    | with_reducible apply Dev.each_keeps
    | with_reducible apply Dev.regionEnters_keeps
    | with_reducible apply Dev.domDone_keeps
    | with_reducible apply Dev.setDieState_keeps
    | with_reducible apply Dev.kilnAbort_keeps
    | with_reducible apply Dev.stopCore_keeps
    | with_reducible apply Dev.inc_keeps
    | simp only [keep_mk]
    | dsimp only
    | split
    | with_reducible refine keep_fst (by with_reducible assumption) ?_

theorem Dev.stopTimeout_keeps {kof : KeptOf} (d : Dev) (q : Nat) (hd : d.Kept kof) :
    (Dev.stopTimeout d q).Kept kof := by
  unfold Dev.stopTimeout
  try dsimp only
  repeat' first
    | with_reducible assumption
    | intro _
    | with_reducible apply Dev.abortEntry_keeps
    | simp only [keep_mk]
    | dsimp only
    | split
    | with_reducible refine keep_fst (by with_reducible assumption) ?_

theorem Dev.wakeComplete_keeps {kof : KeptOf} (d : Dev) (q scope : Nat) (hd : d.Kept kof) :
    (Dev.wakeComplete d q scope).Kept kof := by
  unfold Dev.wakeComplete
  try dsimp only
  repeat' first
    | with_reducible assumption
    | intro _
    | with_reducible apply keep_ite
    | with_reducible apply Dev.wakesEnd_keeps
    | simp only [keep_mk]
    | dsimp only
    | split
    | with_reducible refine keep_fst (by with_reducible assumption) ?_

theorem Dev.refLoss_keeps {kof : KeptOf} (d : Dev) (hd : d.Kept kof) :
    (Dev.refLoss d).Kept kof := by
  unfold Dev.refLoss
  try dsimp only
  repeat' first
    | with_reducible assumption
    | intro _
    | with_reducible apply keep_ite
    | with_reducible apply Dev.inc_keeps
    | with_reducible apply Dev.raise_keeps
    | simp only [keep_mk]
    | dsimp only
    | split
    | with_reducible refine keep_fst (by with_reducible assumption) ?_

theorem Dev.refReturn_keeps {kof : KeptOf} (d : Dev) (hd : d.Kept kof) :
    (Dev.refReturn d).Kept kof := by
  unfold Dev.refReturn
  try dsimp only
  repeat' first
    | with_reducible assumption
    | intro _
    | with_reducible apply keep_ite
    | with_reducible apply Dev.closeRec_keeps
    | simp only [keep_mk]
    | dsimp only
    | split
    | with_reducible refine keep_fst (by with_reducible assumption) ?_

theorem Dev.holdoverTimeout_keeps {kof : KeptOf} (d : Dev) (hd : d.Kept kof) :
    (Dev.holdoverTimeout d).Kept kof := by
  unfold Dev.holdoverTimeout
  try dsimp only
  repeat' first
    | with_reducible assumption
    | intro _
    | with_reducible apply keep_ite
    | with_reducible apply Dev.windowExpires_keeps
    | simp only [keep_mk]
    | dsimp only
    | split
    | with_reducible refine keep_fst (by with_reducible assumption) ?_

theorem Dev.refclkArrives_keeps {kof : KeptOf} (d : Dev) (hd : d.Kept kof) :
    (Dev.refclkArrives d).Kept kof := by
  unfold Dev.refclkArrives
  try dsimp only
  repeat' first
    | with_reducible assumption
    | intro _
    | with_reducible apply keep_ite
    | simp only [keep_mk]
    | dsimp only
    | split
    | with_reducible refine keep_fst (by with_reducible assumption) ?_

/-! Machine/Mesh.lean -/

theorem Dev.meshInject_keeps {kof : KeptOf} (d : Dev) (m : MeshMsg) (hd : d.Kept kof) :
    (Dev.meshInject d m).Kept kof := by
  unfold Dev.meshInject
  try dsimp only
  repeat' first
    | with_reducible assumption
    | intro _
    | with_reducible apply keep_ite
    | with_reducible apply Dev.put_keeps
    | with_reducible apply Dev.inc_keeps
    | with_reducible apply Dev.event_keeps
    | with_reducible apply Dev.when_keeps
    | simp only [keep_mk]
    | dsimp only
    | split
    | with_reducible refine keep_fst (by with_reducible assumption) ?_

theorem Dev.meshWait_keeps {kof : KeptOf} (d : Dev) (m : MeshMsg) (counted : Bool) (hd : d.Kept kof) :
    (Dev.meshWait d m counted).Kept kof := by
  unfold Dev.meshWait
  try dsimp only
  repeat' first
    | with_reducible assumption
    | intro _
    | with_reducible apply Dev.when_keeps
    | with_reducible apply Dev.inc_keeps
    | simp only [keep_mk]
    | dsimp only
    | split
    | with_reducible refine keep_fst (by with_reducible assumption) ?_

theorem Dev.nocStatus_keeps {kof : KeptOf} (d : Dev) (q st : Nat) (hd : d.Kept kof) :
    (Dev.nocStatus d q st).Kept kof := by
  unfold Dev.nocStatus
  try dsimp only
  repeat' first
    | with_reducible assumption
    | intro _
    | with_reducible apply Dev.put_keeps
    | simp only [keep_mk]
    | dsimp only
    | split
    | with_reducible refine keep_fst (by with_reducible assumption) ?_

theorem Dev.nocModectl_keeps {kof : KeptOf} (d : Dev) (q : Nat) (v : Word) (hd : d.Kept kof) :
    (Dev.nocModectl d q v).Kept kof := by
  unfold Dev.nocModectl
  try dsimp only
  repeat' first
    | with_reducible assumption
    | intro _
    | with_reducible apply keep_ite
    | with_reducible apply Dev.nocStatus_keeps
    | with_reducible apply Dev.wrFields_keeps
    | with_reducible apply Dev.put_keeps
    | with_reducible apply Dev.kilnAbort_keeps
    | simp only [keep_mk]
    | dsimp only
    | split
    | with_reducible refine keep_fst (by with_reducible assumption) ?_

theorem Dev.meshSwitched_keeps {kof : KeptOf} (d : Dev) (q : Nat) (hd : d.Kept kof) :
    (Dev.meshSwitched d q).Kept kof := by
  unfold Dev.meshSwitched
  try dsimp only
  repeat' first
    | with_reducible assumption
    | intro _
    | with_reducible apply Dev.put_keeps
    | with_reducible apply Dev.nocStatus_keeps
    | with_reducible apply Dev.inc_keeps
    | simp only [keep_mk]
    | dsimp only
    | split
    | with_reducible refine keep_fst (by with_reducible assumption) ?_

theorem Dev.switchAbandoned_keeps {kof : KeptOf} (d : Dev) (q : Nat) (hd : d.Kept kof) :
    (Dev.switchAbandoned d q).Kept kof := by
  unfold Dev.switchAbandoned
  try dsimp only
  repeat' first
    | with_reducible assumption
    | intro _
    | with_reducible apply Dev.put_keeps
    | with_reducible apply Dev.nocStatus_keeps
    | simp only [keep_mk]
    | dsimp only
    | split
    | with_reducible refine keep_fst (by with_reducible assumption) ?_

/-! Machine/Cycle.lean -/

theorem Dev.cycleCount_keeps {kof : KeptOf} (d : Dev) (q n k : Nat) (hd : d.Kept kof) :
    (Dev.cycleCount d q n k).Kept kof := by
  unfold Dev.cycleCount
  try dsimp only
  repeat' first
    | with_reducible assumption
    | intro _
    | with_reducible apply keep_ite
    | with_reducible apply Dev.pmcAdd_keeps
    | simp only [keep_mk]
    | dsimp only
    | split
    | with_reducible refine keep_fst (by with_reducible assumption) ?_

theorem Dev.nanosecond_keeps {kof : KeptOf} (d : Dev) (hd : d.Kept kof) :
    (Dev.nanosecond d).Kept kof := by
  unfold Dev.nanosecond
  try dsimp only
  repeat' first
    | with_reducible assumption
    | intro _
    | with_reducible apply keep_ite
    | with_reducible apply Dev.each_keeps
    | with_reducible apply Dev.cycleCount_keeps
    | simp only [keep_mk]
    | dsimp only
    | split
    | with_reducible refine keep_fst (by with_reducible assumption) ?_

/-! Machine/KilnCmds.lean -/

theorem Dev.kilnGo_keeps {kof : KeptOf} (d : Dev) (q : Nat) (v : Word) (hd : d.Kept kof) :
    (Dev.kilnGo d q v).Kept kof := by
  unfold Dev.kilnGo
  try dsimp only
  repeat' first
    | with_reducible assumption
    | intro _
    | with_reducible apply keep_ite
    | with_reducible apply Dev.wrFields_keeps
    | with_reducible apply Dev.put_keeps
    | with_reducible apply Dev.inc_keeps
    | simp only [keep_mk]
    | dsimp only
    | split
    | with_reducible refine keep_fst (by with_reducible assumption) ?_

theorem Dev.setSpare_keeps {kof : KeptOf} (d : Dev) (q e tx rx : Nat) (hd : d.Kept kof) :
    (Dev.setSpare d q e tx rx).Kept kof := by
  unfold Dev.setSpare
  try dsimp only
  repeat' first
    | with_reducible assumption
    | intro _
    | with_reducible apply Dev.put_keeps
    | simp only [keep_mk]
    | dsimp only
    | split
    | with_reducible refine keep_fst (by with_reducible assumption) ?_

theorem Dev.laneCal_keeps {kof : KeptOf} (d : Dev) (p fails : Nat) (hd : d.Kept kof) :
    (Dev.laneCal d p fails).Kept kof := by
  unfold Dev.laneCal
  try dsimp only
  repeat' first
    | with_reducible assumption
    | intro _
    | with_reducible apply keep_ite
    | with_reducible apply Dev.each_keeps
    | with_reducible apply Dev.modLane_keeps
    | with_reducible apply Dev.when_keeps
    | with_reducible apply Dev.enterTraining_keeps
    | simp only [keep_mk]
    | dsimp only
    | split
    | with_reducible refine keep_fst (by with_reducible assumption) ?_

theorem Dev.kilnEffect_keeps {kof : KeptOf} (d : Dev) (q t x fails tx rx : Nat) (hd : d.Kept kof) :
    (Dev.kilnEffect d q t x fails tx rx).Kept kof := by
  unfold Dev.kilnEffect
  try dsimp only
  repeat' first
    | with_reducible assumption
    | intro _
    | with_reducible apply Dev.laneCal_keeps
    | with_reducible apply Dev.setSpare_keeps
    | with_reducible apply Dev.sramZero_keeps
    | with_reducible apply Dev.tablesZero_keeps
    | simp only [keep_mk]
    | dsimp only
    | split
    | with_reducible refine keep_fst (by with_reducible assumption) ?_

theorem Dev.kilnDone_keeps {kof : KeptOf} (d : Dev) (q fails first tx rx : Nat) (hd : d.Kept kof) :
    (Dev.kilnDone d q fails first tx rx).Kept kof := by
  unfold Dev.kilnDone
  try dsimp only
  repeat' first
    | with_reducible assumption
    | intro _
    | with_reducible apply keep_ite
    | with_reducible apply Dev.kilnEffect_keeps
    | with_reducible apply Dev.put_keeps
    | with_reducible apply Dev.inc_keeps
    | with_reducible apply Dev.raise_keeps
    | simp only [keep_mk]
    | dsimp only
    | split
    | with_reducible refine keep_fst (by with_reducible assumption) ?_

theorem Dev.kilnWatch_keeps {kof : KeptOf} (d : Dev) (hd : d.Kept kof) :
    (Dev.kilnWatch d).Kept kof := by
  unfold Dev.kilnWatch
  try dsimp only
  repeat' first
    | with_reducible assumption
    | intro _
    | with_reducible apply keep_ite
    | with_reducible apply Dev.each_keeps
    | with_reducible apply Dev.kilnAbort_keeps
    | simp only [keep_mk]
    | dsimp only
    | split
    | with_reducible refine keep_fst (by with_reducible assumption) ?_

theorem Dev.calBridge_keeps {kof : KeptOf} (d : Dev) (q e n : Nat) (hd : d.Kept kof) :
    (Dev.calBridge d q e n).Kept kof := by
  unfold Dev.calBridge
  try dsimp only
  repeat' first
    | with_reducible assumption
    | intro _
    | with_reducible apply keep_ite
    | with_reducible apply Dev.setSpare_keeps
    | with_reducible apply Dev.put_keeps
    | with_reducible apply Dev.takeBridgeDown_keeps
    | with_reducible apply Dev.bridgeSync_keeps
    | simp only [keep_mk]
    | dsimp only
    | split
    | with_reducible refine keep_fst (by with_reducible assumption) ?_

theorem Dev.calibrated_keeps {kof : KeptOf} (d : Dev) (q : Nat) (ports : List Nat) (lanes brgh brgv : Nat) (banks chans : List Nat) (tables other : Bool) (hd : d.Kept kof) :
    (Dev.calibrated d q ports lanes brgh brgv banks chans tables other).Kept kof := by
  unfold Dev.calibrated
  try dsimp only
  repeat' first
    | with_reducible assumption
    | intro _
    | with_reducible apply keep_ite
    | with_reducible apply Dev.each_keeps
    | with_reducible apply Dev.raise_keeps
    | with_reducible apply Dev.put_keeps
    | with_reducible apply Dev.calBridge_keeps
    | with_reducible apply Dev.when_keeps
    | with_reducible apply Dev.putB_keeps
    | simp only [keep_mk]
    | dsimp only
    | split
    | with_reducible refine keep_fst (by with_reducible assumption) ?_

/-! Machine/Flash.lean -/

theorem Dev.flashErase_keeps {kof : KeptOf} (d : Dev) (a n : Nat) (hd : d.Kept kof) :
    (Dev.flashErase d a n).Kept kof := by
  unfold Dev.flashErase
  exact keep_boot d _ hd (Tab.wf_filter _ _ _ (keep_flash d hd))

theorem Dev.flashProgram_keeps {kof : KeptOf} (d : Dev) (a : Nat) (l : List Byte) (hd : d.Kept kof) :
    (Dev.flashProgram d a l).Kept kof := by
  unfold Dev.flashProgram
  exact keep_boot d _ hd (Tab.wf_foldl _ _ (fun t x h => Tab.wf_set _ _ _ _ h) _ _ (keep_flash d hd))

theorem Dev.dirRead_keeps {kof : KeptOf} (d : Dev) (hd : d.Kept kof) :
    (Dev.dirRead d).Kept kof := by
  unfold Dev.dirRead
  try dsimp only
  repeat' first
    | with_reducible assumption
    | intro _
    | with_reducible apply keep_ite
    | simp only [keep_mk]
    | dsimp only
    | split
    | with_reducible refine keep_fst (by with_reducible assumption) ?_

theorem Dev.dirChange_keeps {kof : KeptOf} (d : Dev) (rst : Bool) (g : DirRec → DirRec) (hd : d.Kept kof) :
    (Dev.dirChange d rst g).Kept kof := by
  unfold Dev.dirChange
  try dsimp only
  repeat' first
    | with_reducible assumption
    | intro _
    | simp only [keep_mk]
    | dsimp only
    | split
    | with_reducible refine keep_fst (by with_reducible assumption) ?_

theorem Dev.dirWrite_keeps {kof : KeptOf} (d : Dev) (n : Nat) (hd : d.Kept kof) :
    (Dev.dirWrite d n).Kept kof := by
  unfold Dev.dirWrite
  try dsimp only
  repeat' first
    | with_reducible assumption
    | intro _
    | with_reducible apply Dev.flashErase_keeps
    | with_reducible apply Dev.flashProgram_keeps
    | simp only [keep_mk]
    | dsimp only
    | split
    | with_reducible refine keep_fst (by with_reducible assumption) ?_

theorem Dev.dirStore_keeps {kof : KeptOf} (d : Dev) (hd : d.Kept kof) :
    (Dev.dirStore d).Kept kof := by
  unfold Dev.dirStore
  try dsimp only
  repeat' first
    | with_reducible assumption
    | intro _
    | with_reducible apply Dev.dirWrite_keeps
    | with_reducible apply Dev.when_keeps
    | simp only [keep_mk]
    | dsimp only
    | split
    | with_reducible refine keep_fst (by with_reducible assumption) ?_

theorem Dev.dirDone_keeps {kof : KeptOf} (d : Dev) (hd : d.Kept kof) :
    (Dev.dirDone d).Kept kof := by
  unfold Dev.dirDone
  try dsimp only
  repeat' first
    | with_reducible assumption
    | intro _
    | with_reducible apply Dev.dirStore_keeps
    | with_reducible apply Dev.put_keeps
    | with_reducible apply Dev.when_keeps
    | with_reducible apply Dev.reset_keeps
    | simp only [keep_mk]
    | dsimp only
    | split
    | with_reducible refine keep_fst (by with_reducible assumption) ?_

theorem Dev.bisque_keeps {kof : KeptOf} (d : Dev) (reason : Nat) (hd : d.Kept kof) :
    (Dev.bisque d reason).Kept kof := by
  unfold Dev.bisque
  try dsimp only
  repeat' first
    | with_reducible assumption
    | intro _
    | with_reducible apply keep_ite
    | with_reducible apply Dev.put_keeps
    | with_reducible apply Dev.each_keeps
    | with_reducible apply Dev.portsReturn_keeps
    | simp only [keep_mk]
    | dsimp only
    | split
    | with_reducible refine keep_fst (by with_reducible assumption) ?_

theorem Dev.slotFails_keeps {kof : KeptOf} (d : Dev) (s result : Nat) (hd : d.Kept kof) :
    (Dev.slotFails d s result).Kept kof := by
  unfold Dev.slotFails
  try dsimp only
  repeat' first
    | with_reducible assumption
    | intro _
    | with_reducible apply Dev.put_keeps
    | simp only [keep_mk]
    | dsimp only
    | split
    | with_reducible refine keep_fst (by with_reducible assumption) ?_

theorem Dev.trialFails_keeps {kof : KeptOf} (d : Dev) (s : Nat) (hd : d.Kept kof) :
    (Dev.trialFails d s).Kept kof := by
  unfold Dev.trialFails
  try dsimp only
  repeat' first
    | with_reducible assumption
    | intro _
    | with_reducible apply keep_ite
    | with_reducible apply Dev.dirChange_keeps
    | simp only [keep_mk]
    | dsimp only
    | split
    | with_reducible refine keep_fst (by with_reducible assumption) ?_

theorem Dev.choose_keeps {kof : KeptOf} (d : Dev) (hd : d.Kept kof) : ∀ (y0 : Nat),
    (Dev.choose d y0).Kept kof := by
  intro y0
  induction y0 generalizing d with
  | zero =>
    unfold Dev.choose
    try dsimp only
    repeat' first
      | with_reducible assumption
      | intro _
      | with_reducible apply keep_ite
      | with_reducible apply Dev.bisque_keeps
      | with_reducible apply Dev.slotFails_keeps
      | with_reducible apply Dev.trialFails_keeps
      | with_reducible apply Dev.when_keeps
      | with_reducible apply Dev.dirChange_keeps
      | simp only [keep_mk]
      | dsimp only
      | split
      | with_reducible refine keep_fst (by with_reducible assumption) ?_
  | succ n0 ih =>
    unfold Dev.choose
    try dsimp only
    repeat' first
      | with_reducible assumption
      | intro _
      | with_reducible apply keep_ite
      | with_reducible apply ih
      | with_reducible apply Dev.bisque_keeps
      | with_reducible apply Dev.slotFails_keeps
      | with_reducible apply Dev.trialFails_keeps
      | with_reducible apply Dev.when_keeps
      | with_reducible apply Dev.dirChange_keeps
      | simp only [keep_mk]
      | dsimp only
      | split
      | with_reducible refine keep_fst (by with_reducible assumption) ?_

theorem Dev.nextCandidate_keeps {kof : KeptOf} (d : Dev) (result : Nat) (hd : d.Kept kof) :
    (Dev.nextCandidate d result).Kept kof := by
  unfold Dev.nextCandidate
  try dsimp only
  repeat' first
    | with_reducible assumption
    | intro _
    | with_reducible apply Dev.slotFails_keeps
    | with_reducible apply Dev.trialFails_keeps
    | with_reducible apply Dev.choose_keeps
    | simp only [keep_mk]
    | dsimp only
    | split
    | with_reducible refine keep_fst (by with_reducible assumption) ?_

theorem Dev.flashInit_keeps {kof : KeptOf} (d : Dev) (ok : Bool) (hd : d.Kept kof) :
    (Dev.flashInit d ok).Kept kof := by
  unfold Dev.flashInit
  try dsimp only
  repeat' first
    | with_reducible assumption
    | intro _
    | with_reducible apply keep_ite
    | with_reducible apply Dev.bisque_keeps
    | simp only [keep_mk]
    | dsimp only
    | split
    | with_reducible refine keep_fst (by with_reducible assumption) ?_

theorem Dev.candidateChosen_keeps {kof : KeptOf} (d : Dev) (unread : List Nat) (hd : d.Kept kof) :
    (Dev.candidateChosen d unread).Kept kof := by
  unfold Dev.candidateChosen
  try dsimp only
  repeat' first
    | with_reducible assumption
    | intro _
    | with_reducible apply keep_ite
    | with_reducible apply Dev.dirRead_keeps
    | with_reducible apply Dev.each_keeps
    | with_reducible apply Dev.put_keeps
    | with_reducible apply Dev.dirChange_keeps
    | with_reducible apply Dev.choose_keeps
    | simp only [keep_mk]
    | dsimp only
    | split
    | with_reducible refine keep_fst (by with_reducible assumption) ?_

theorem Dev.saggarLoaded_keeps {kof : KeptOf} (d : Dev) (ok : Bool) (hd : d.Kept kof) :
    (Dev.saggarLoaded d ok).Kept kof := by
  unfold Dev.saggarLoaded
  try dsimp only
  repeat' first
    | with_reducible assumption
    | intro _
    | with_reducible apply keep_ite
    | with_reducible apply Dev.nextCandidate_keeps
    | with_reducible apply Dev.put_keeps
    | simp only [keep_mk]
    | dsimp only
    | split
    | with_reducible refine keep_fst (by with_reducible assumption) ?_

theorem Dev.slotStatus_keeps {kof : KeptOf} (d : Dev) (st : Nat) (hd : d.Kept kof) :
    (Dev.slotStatus d st).Kept kof := by
  unfold Dev.slotStatus
  try dsimp only
  repeat' first
    | with_reducible assumption
    | intro _
    | with_reducible apply Dev.put_keeps
    | simp only [keep_mk]
    | dsimp only
    | split
    | with_reducible refine keep_fst (by with_reducible assumption) ?_

theorem Dev.slotAccept_keeps {kof : KeptOf} (d : Dev) (rst : Bool) (g : DirRec → DirRec) (hd : d.Kept kof) :
    (Dev.slotAccept d rst g).Kept kof := by
  unfold Dev.slotAccept
  try dsimp only
  repeat' first
    | with_reducible assumption
    | intro _
    | with_reducible apply Dev.slotStatus_keeps
    | with_reducible apply Dev.put_keeps
    | with_reducible apply Dev.dirChange_keeps
    | simp only [keep_mk]
    | dsimp only
    | split
    | with_reducible refine keep_fst (by with_reducible assumption) ?_

theorem Dev.slotTrial_keeps {kof : KeptOf} (d : Dev) (s : Nat) (hd : d.Kept kof) :
    (Dev.slotTrial d s).Kept kof := by
  unfold Dev.slotTrial
  try dsimp only
  repeat' first
    | with_reducible assumption
    | intro _
    | with_reducible apply keep_ite
    | with_reducible apply Dev.slotStatus_keeps
    | with_reducible apply Dev.slotAccept_keeps
    | simp only [keep_mk]
    | dsimp only
    | split
    | with_reducible refine keep_fst (by with_reducible assumption) ?_

theorem Dev.watchdogStops_keeps {kof : KeptOf} (d : Dev) (hd : d.Kept kof) :
    (Dev.watchdogStops d).Kept kof := by
  unfold Dev.watchdogStops
  try dsimp only
  repeat' first
    | with_reducible assumption
    | intro _
    | simp only [keep_mk]
    | dsimp only
    | split
    | with_reducible refine keep_fst (by with_reducible assumption) ?_

theorem Dev.slotCommit_keeps {kof : KeptOf} (d : Dev) (path : Path) (hd : d.Kept kof) :
    (Dev.slotCommit d path).Kept kof := by
  unfold Dev.slotCommit
  try dsimp only
  repeat' first
    | with_reducible assumption
    | intro _
    | with_reducible apply keep_ite
    | with_reducible apply Dev.slotStatus_keeps
    | with_reducible apply Dev.slotAccept_keeps
    | with_reducible apply Dev.watchdogStops_keeps
    | simp only [keep_mk]
    | dsimp only
    | split
    | with_reducible refine keep_fst (by with_reducible assumption) ?_

theorem Dev.slotRevert_keeps {kof : KeptOf} (d : Dev) (hd : d.Kept kof) :
    (Dev.slotRevert d).Kept kof := by
  unfold Dev.slotRevert
  try dsimp only
  repeat' first
    | with_reducible assumption
    | intro _
    | with_reducible apply keep_ite
    | with_reducible apply Dev.slotAccept_keeps
    | with_reducible apply Dev.watchdogStops_keeps
    | with_reducible apply Dev.slotStatus_keeps
    | simp only [keep_mk]
    | dsimp only
    | split
    | with_reducible refine keep_fst (by with_reducible assumption) ?_

theorem Dev.slotReboot_keeps {kof : KeptOf} (d : Dev) (hd : d.Kept kof) :
    (Dev.slotReboot d).Kept kof := by
  unfold Dev.slotReboot
  try dsimp only
  repeat' first
    | with_reducible assumption
    | intro _
    | with_reducible apply Dev.slotStatus_keeps
    | with_reducible apply Dev.reset_keeps
    | simp only [keep_mk]
    | dsimp only
    | split
    | with_reducible refine keep_fst (by with_reducible assumption) ?_

theorem Dev.slotFree_keeps {kof : KeptOf} (d : Dev) (g : Dev → Dev) (hd : d.Kept kof) (hg : ∀ d, d.Kept kof → (g d).Kept kof) :
    (Dev.slotFree d g).Kept kof := by
  unfold Dev.slotFree
  try dsimp only
  repeat' first
    | with_reducible assumption
    | intro _
    | with_reducible apply keep_ite
    | simp only [keep_mk]
    | with_reducible apply hg
    | dsimp only
    | split
    | with_reducible refine keep_fst (by with_reducible assumption) ?_

theorem Dev.slotCommand_keeps {kof : KeptOf} (d : Dev) (path : Path) (v : Word) (hd : d.Kept kof) :
    (Dev.slotCommand d path v).Kept kof := by
  unfold Dev.slotCommand
  try dsimp only
  repeat' first
    | with_reducible assumption
    | intro _
    | with_reducible apply Dev.slotFree_keeps
    | with_reducible apply Dev.slotTrial_keeps
    | with_reducible apply Dev.slotCommit_keeps
    | with_reducible apply Dev.slotRevert_keeps
    | with_reducible apply Dev.slotReboot_keeps
    | with_reducible apply Dev.slotStatus_keeps
    | simp only [keep_mk]
    | dsimp only
    | split
    | with_reducible refine keep_fst (by with_reducible assumption) ?_

theorem Dev.watchdogExpires_keeps {kof : KeptOf} (d : Dev) (hd : d.Kept kof) :
    (Dev.watchdogExpires d).Kept kof := by
  unfold Dev.watchdogExpires
  try dsimp only
  repeat' first
    | with_reducible assumption
    | intro _
    | with_reducible apply keep_ite
    | with_reducible apply Dev.watchdogStops_keeps
    | with_reducible apply Dev.dirChange_keeps
    | with_reducible apply Dev.dirStore_keeps
    | with_reducible apply Dev.reset_keeps
    | simp only [keep_mk]
    | dsimp only
    | split
    | with_reducible refine keep_fst (by with_reducible assumption) ?_

theorem Dev.autocommit_keeps {kof : KeptOf} (d : Dev) (hd : d.Kept kof) :
    (Dev.autocommit d).Kept kof := by
  unfold Dev.autocommit
  try dsimp only
  repeat' first
    | with_reducible assumption
    | intro _
    | with_reducible apply keep_ite
    | with_reducible apply Dev.dirChange_keeps
    | with_reducible apply Dev.watchdogStops_keeps
    | simp only [keep_mk]
    | dsimp only
    | split
    | with_reducible refine keep_fst (by with_reducible assumption) ?_

theorem Dev.flashStatus_keeps {kof : KeptOf} (d : Dev) (st : Nat) (hd : d.Kept kof) :
    (Dev.flashStatus d st).Kept kof := by
  unfold Dev.flashStatus
  try dsimp only
  repeat' first
    | with_reducible assumption
    | intro _
    | with_reducible apply Dev.put_keeps
    | simp only [keep_mk]
    | dsimp only
    | split
    | with_reducible refine keep_fst (by with_reducible assumption) ?_

theorem Dev.flashRead_keeps {kof : KeptOf} (d : Dev) (a : Nat) (hd : d.Kept kof) :
    (Dev.flashRead d a).Kept kof := by
  unfold Dev.flashRead
  try dsimp only
  repeat' first
    | with_reducible assumption
    | intro _
    | with_reducible apply keep_ite
    | with_reducible apply Dev.flashStatus_keeps
    | with_reducible apply Dev.each_keeps
    | with_reducible apply Dev.wr_keeps
    | simp only [keep_mk]
    | dsimp only
    | split
    | with_reducible refine keep_fst (by with_reducible assumption) ?_

theorem Dev.flashStart_keeps {kof : KeptOf} (d : Dev) (op a unit : Nat) (data : List Byte) (hd : d.Kept kof) :
    (Dev.flashStart d op a unit data).Kept kof := by
  unfold Dev.flashStart
  try dsimp only
  repeat' first
    | with_reducible assumption
    | intro _
    | with_reducible apply keep_ite
    | with_reducible apply Dev.flashStatus_keeps
    | with_reducible apply Dev.put_keeps
    | with_reducible apply Dev.dirChange_keeps
    | simp only [keep_mk]
    | dsimp only
    | split
    | with_reducible refine keep_fst (by with_reducible assumption) ?_

theorem Dev.flashProgramCmd_keeps {kof : KeptOf} (d : Dev) (a : Nat) (hd : d.Kept kof) :
    (Dev.flashProgramCmd d a).Kept kof := by
  unfold Dev.flashProgramCmd
  try dsimp only
  repeat' first
    | with_reducible assumption
    | intro _
    | with_reducible apply Dev.flashStart_keeps
    | simp only [keep_mk]
    | dsimp only
    | split
    | with_reducible refine keep_fst (by with_reducible assumption) ?_

theorem Dev.flashEraseCmd_keeps {kof : KeptOf} (d : Dev) (a : Nat) (hd : d.Kept kof) :
    (Dev.flashEraseCmd d a).Kept kof := by
  unfold Dev.flashEraseCmd
  try dsimp only
  repeat' first
    | with_reducible assumption
    | intro _
    | with_reducible apply Dev.flashStart_keeps
    | simp only [keep_mk]
    | dsimp only
    | split
    | with_reducible refine keep_fst (by with_reducible assumption) ?_

theorem Dev.flashCommand_keeps {kof : KeptOf} (d : Dev) (v : Word) (g : Dev → Nat → Dev) (hd : d.Kept kof) (hg : ∀ d x1, d.Kept kof → (g d x1).Kept kof) :
    (Dev.flashCommand d v g).Kept kof := by
  unfold Dev.flashCommand
  try dsimp only
  repeat' first
    | with_reducible assumption
    | intro _
    | with_reducible apply keep_ite
    | with_reducible apply Dev.wrFields_keeps
    | simp only [keep_mk]
    | with_reducible apply hg
    | dsimp only
    | split
    | with_reducible refine keep_fst (by with_reducible assumption) ?_

theorem Dev.flashWrite_keeps {kof : KeptOf} (d : Dev) (v : Word) (hd : d.Kept kof) :
    (Dev.flashWrite d v).Kept kof := by
  unfold Dev.flashWrite
  try dsimp only
  repeat' first
    | with_reducible assumption
    | intro _
    | with_reducible apply Dev.flashCommand_keeps
    | with_reducible apply Dev.flashRead_keeps
    | with_reducible apply Dev.flashProgramCmd_keeps
    | with_reducible apply Dev.flashEraseCmd_keeps
    | simp only [keep_mk]
    | dsimp only
    | split
    | with_reducible refine keep_fst (by with_reducible assumption) ?_

theorem Dev.flashDone_keeps {kof : KeptOf} (d : Dev) (hd : d.Kept kof) :
    (Dev.flashDone d).Kept kof := by
  unfold Dev.flashDone
  try dsimp only
  repeat' first
    | with_reducible assumption
    | intro _
    | with_reducible apply keep_ite
    | with_reducible apply Dev.flashProgram_keeps
    | with_reducible apply Dev.flashErase_keeps
    | with_reducible apply Dev.put_keeps
    | simp only [keep_mk]
    | dsimp only
    | split
    | with_reducible refine keep_fst (by with_reducible assumption) ?_

end Sys2Proof.Machine
end

