-- ==== Sys2Proof/Laws/KeepFirmware.lean ====
section
/-! SUPPORT. Every operation keeps the tables canonical, the fuses and the time: Erg, epochs, Caravan, access paths, mesh messages, boot, the end of a command. -/

set_option Elab.async false

namespace Sys2Proof.Machine

/-! Machine/Erg.lean -/

theorem Dev.mapErg_keeps {kof : KeptOf} (d : Dev) (g : ErgG → ErgG) (hd : d.Kept kof) :
    (Dev.mapErg d g).Kept kof := by
  unfold Dev.mapErg
  try dsimp only
  repeat' first
    | with_reducible assumption
    | intro _
    | simp only [keep_mk]
    | dsimp only
    | split
    | with_reducible refine keep_fst (by with_reducible assumption) ?_

theorem Dev.ergSend_keeps {kof : KeptOf} (d : Dev) (ports : List Nat) (type : Nat) (payload : List Byte) (hd : d.Kept kof) :
    (Dev.ergSend d ports type payload).Kept kof := by
  unfold Dev.ergSend
  try dsimp only
  repeat' first
    | with_reducible assumption
    | intro _
    | with_reducible apply Dev.each_keeps
    | with_reducible apply Dev.sendBypass_keeps
    | simp only [keep_mk]
    | dsimp only
    | split
    | with_reducible refine keep_fst (by with_reducible assumption) ?_

theorem Dev.numberModule_keeps {kof : KeptOf} (d : Dev) (uid : Nat) (mem : Option Nat) (hd : d.Kept kof) :
    (Dev.numberModule d uid mem).Kept kof := by
  unfold Dev.numberModule
  try dsimp only
  repeat' first
    | with_reducible assumption
    | intro _
    | with_reducible apply keep_ite
    | with_reducible apply Dev.mapErg_keeps
    | with_reducible apply Dev.put_keeps
    | simp only [keep_mk]
    | dsimp only
    | split
    | with_reducible refine keep_fst (by with_reducible assumption) ?_

theorem Dev.numberAll_keeps {kof : KeptOf} (d : Dev) (hd : d.Kept kof) :
    (Dev.numberAll d).Kept kof := by
  unfold Dev.numberAll
  try dsimp only
  repeat' first
    | with_reducible assumption
    | intro _
    | with_reducible apply keep_ite
    | with_reducible apply Dev.numberModule_keeps
    | with_reducible apply Dev.each_keeps
    | simp only [keep_mk]
    | dsimp only
    | split
    | with_reducible refine keep_fst (by with_reducible assumption) ?_

theorem Dev.fillMembers_keeps {kof : KeptOf} (d : Dev) (hd : d.Kept kof) :
    (Dev.fillMembers d).Kept kof := by
  unfold Dev.fillMembers
  try dsimp only
  repeat' first
    | with_reducible assumption
    | intro _
    | with_reducible apply keep_ite
    | with_reducible apply Dev.put_keeps
    | with_reducible apply Dev.each_keeps
    | with_reducible apply Dev.wr_keeps
    | simp only [keep_mk]
    | dsimp only
    | split
    | with_reducible refine keep_fst (by with_reducible assumption) ?_

theorem Dev.numberGlobals_keeps {kof : KeptOf} (d : Dev) (hd : d.Kept kof) :
    (Dev.numberGlobals d).Kept kof := by
  unfold Dev.numberGlobals
  try dsimp only
  repeat' first
    | with_reducible assumption
    | intro _
    | with_reducible apply Dev.each_keeps
    | with_reducible apply Dev.put_keeps
    | simp only [keep_mk]
    | dsimp only
    | split
    | with_reducible refine keep_fst (by with_reducible assumption) ?_

theorem Dev.bisqueEnds_keeps {kof : KeptOf} (d : Dev) (hd : d.Kept kof) :
    (Dev.bisqueEnds d).Kept kof := by
  unfold Dev.bisqueEnds
  try dsimp only
  repeat' first
    | with_reducible assumption
    | intro _
    | with_reducible apply keep_ite
    | with_reducible apply Dev.put_keeps
    | with_reducible apply Dev.each_keeps
    | with_reducible apply Dev.advanceInc_keeps
    | with_reducible apply Dev.enterRetrain_keeps
    | simp only [keep_mk]
    | dsimp only
    | split
    | with_reducible refine keep_fst (by with_reducible assumption) ?_

theorem Dev.takeNode_keeps {kof : KeptOf} (d : Dev) (n : Nat) (hd : d.Kept kof) :
    (Dev.takeNode d n).Kept kof := by
  unfold Dev.takeNode
  try dsimp only
  repeat' first
    | with_reducible assumption
    | intro _
    | with_reducible apply keep_ite
    | with_reducible apply Dev.bisque_keeps
    | with_reducible apply Dev.put_keeps
    | with_reducible apply Dev.bisqueEnds_keeps
    | with_reducible apply Dev.dirChange_keeps
    | with_reducible apply Dev.fillMembers_keeps
    | with_reducible apply Dev.numberGlobals_keeps
    | simp only [keep_mk]
    | dsimp only
    | split
    | with_reducible refine keep_fst (by with_reducible assumption) ?_

theorem Dev.takeAssigned_keeps {kof : KeptOf} (d : Dev) (hd : d.Kept kof) :
    (Dev.takeAssigned d).Kept kof := by
  unfold Dev.takeAssigned
  try dsimp only
  repeat' first
    | with_reducible assumption
    | intro _
    | with_reducible apply keep_ite
    | with_reducible apply Dev.fillMembers_keeps
    | with_reducible apply Dev.takeNode_keeps
    | simp only [keep_mk]
    | dsimp only
    | split
    | with_reducible refine keep_fst (by with_reducible assumption) ?_

theorem Dev.sendAssign_keeps {kof : KeptOf} (d : Dev) (hd : d.Kept kof) :
    (Dev.sendAssign d).Kept kof := by
  unfold Dev.sendAssign
  try dsimp only
  repeat' first
    | with_reducible assumption
    | intro _
    | with_reducible apply Dev.each_keeps
    | with_reducible apply Dev.ergSend_keeps
    | simp only [keep_mk]
    | dsimp only
    | split
    | with_reducible refine keep_fst (by with_reducible assumption) ?_

theorem Dev.sendClaim_keeps {kof : KeptOf} (d : Dev) (hd : d.Kept kof) :
    (Dev.sendClaim d).Kept kof := by
  unfold Dev.sendClaim
  try dsimp only
  repeat' first
    | with_reducible assumption
    | intro _
    | with_reducible apply Dev.ergSend_keeps
    | simp only [keep_mk]
    | dsimp only
    | split
    | with_reducible refine keep_fst (by with_reducible assumption) ?_

theorem Dev.sendLsa_keeps {kof : KeptOf} (d : Dev) (hd : d.Kept kof) :
    (Dev.sendLsa d).Kept kof := by
  unfold Dev.sendLsa
  try dsimp only
  repeat' first
    | with_reducible assumption
    | intro _
    | with_reducible apply Dev.each_keeps
    | with_reducible apply Dev.ergSend_keeps
    | simp only [keep_mk]
    | dsimp only
    | split
    | with_reducible refine keep_fst (by with_reducible assumption) ?_

theorem Dev.sendGsum_keeps {kof : KeptOf} (d : Dev) (hd : d.Kept kof) :
    (Dev.sendGsum d).Kept kof := by
  unfold Dev.sendGsum
  try dsimp only
  repeat' first
    | with_reducible assumption
    | intro _
    | with_reducible apply Dev.each_keeps
    | with_reducible apply Dev.ergSend_keeps
    | simp only [keep_mk]
    | dsimp only
    | split
    | with_reducible refine keep_fst (by with_reducible assumption) ?_

theorem Dev.linkSend_keeps {kof : KeptOf} (d : Dev) (hd : d.Kept kof) :
    (Dev.linkSend d).Kept kof := by
  unfold Dev.linkSend
  try dsimp only
  repeat' first
    | with_reducible assumption
    | intro _
    | with_reducible apply keep_ite
    | with_reducible apply Dev.each_keeps
    | with_reducible apply Dev.ergSend_keeps
    | simp only [keep_mk]
    | dsimp only
    | split
    | with_reducible refine keep_fst (by with_reducible assumption) ?_

theorem Dev.ergRefresh_keeps {kof : KeptOf} (d : Dev) (hd : d.Kept kof) :
    (Dev.ergRefresh d).Kept kof := by
  unfold Dev.ergRefresh
  try dsimp only
  repeat' first
    | with_reducible assumption
    | intro _
    | with_reducible apply keep_ite
    | with_reducible apply Dev.mapErg_keeps
    | with_reducible apply Dev.sendAssign_keeps
    | with_reducible apply Dev.sendClaim_keeps
    | with_reducible apply Dev.sendLsa_keeps
    | with_reducible apply Dev.sendGsum_keeps
    | simp only [keep_mk]
    | dsimp only
    | split
    | with_reducible refine keep_fst (by with_reducible assumption) ?_

theorem Dev.ergIn_keeps {kof : KeptOf} (d : Dev) (p type : Nat) (c : Ctrl) (b : Body) (act : Dev → Dev) (hd : d.Kept kof) (hact : ∀ d, d.Kept kof → (act d).Kept kof) :
    (Dev.ergIn d p type c b act).Kept kof := by
  unfold Dev.ergIn
  try dsimp only
  repeat' first
    | with_reducible assumption
    | intro _
    | with_reducible apply keep_ite
    | with_reducible apply Dev.bypassIn_keeps
    | simp only [keep_mk]
    | with_reducible apply hact
    | dsimp only
    | split
    | with_reducible refine keep_fst (by with_reducible assumption) ?_

theorem Dev.ergLink_keeps {kof : KeptOf} (d : Dev) (p : Nat) (c : Ctrl) (b : Body) (hd : d.Kept kof) :
    (Dev.ergLink d p c b).Kept kof := by
  unfold Dev.ergLink
  try dsimp only
  repeat' first
    | with_reducible assumption
    | intro _
    | with_reducible apply Dev.ergIn_keeps
    | with_reducible apply Dev.mapErg_keeps
    | with_reducible apply Dev.put_keeps
    | with_reducible apply Dev.numberAll_keeps
    | simp only [keep_mk]
    | dsimp only
    | split
    | with_reducible refine keep_fst (by with_reducible assumption) ?_

theorem Dev.ergAssign_keeps {kof : KeptOf} (d : Dev) (p : Nat) (c : Ctrl) (b : Body) (hd : d.Kept kof) :
    (Dev.ergAssign d p c b).Kept kof := by
  unfold Dev.ergAssign
  try dsimp only
  repeat' first
    | with_reducible assumption
    | intro _
    | with_reducible apply keep_ite
    | with_reducible apply Dev.ergIn_keeps
    | with_reducible apply Dev.mapErg_keeps
    | with_reducible apply Dev.put_keeps
    | with_reducible apply Dev.ergSend_keeps
    | with_reducible apply Dev.takeAssigned_keeps
    | simp only [keep_mk]
    | dsimp only
    | split
    | with_reducible refine keep_fst (by with_reducible assumption) ?_

theorem Dev.ergClaim_keeps {kof : KeptOf} (d : Dev) (p : Nat) (c : Ctrl) (b : Body) (hd : d.Kept kof) :
    (Dev.ergClaim d p c b).Kept kof := by
  unfold Dev.ergClaim
  try dsimp only
  repeat' first
    | with_reducible assumption
    | intro _
    | with_reducible apply keep_ite
    | with_reducible apply Dev.ergIn_keeps
    | with_reducible apply Dev.mapErg_keeps
    | with_reducible apply Dev.put_keeps
    | with_reducible apply Dev.ergSend_keeps
    | simp only [keep_mk]
    | dsimp only
    | split
    | with_reducible refine keep_fst (by with_reducible assumption) ?_

theorem Dev.ergLsa_keeps {kof : KeptOf} (d : Dev) (p : Nat) (c : Ctrl) (b : Body) (hd : d.Kept kof) :
    (Dev.ergLsa d p c b).Kept kof := by
  unfold Dev.ergLsa
  try dsimp only
  repeat' first
    | with_reducible assumption
    | intro _
    | with_reducible apply keep_ite
    | with_reducible apply Dev.ergIn_keeps
    | with_reducible apply Dev.mapErg_keeps
    | with_reducible apply Dev.put_keeps
    | with_reducible apply Dev.ergSend_keeps
    | simp only [keep_mk]
    | dsimp only
    | split
    | with_reducible refine keep_fst (by with_reducible assumption) ?_

theorem Dev.ergGsum_keeps {kof : KeptOf} (d : Dev) (p : Nat) (c : Ctrl) (b : Body) (hd : d.Kept kof) :
    (Dev.ergGsum d p c b).Kept kof := by
  unfold Dev.ergGsum
  try dsimp only
  repeat' first
    | with_reducible assumption
    | intro _
    | with_reducible apply keep_ite
    | with_reducible apply Dev.ergIn_keeps
    | with_reducible apply Dev.mapErg_keeps
    | with_reducible apply Dev.put_keeps
    | with_reducible apply Dev.ergSend_keeps
    | simp only [keep_mk]
    | dsimp only
    | split
    | with_reducible refine keep_fst (by with_reducible assumption) ?_

theorem Dev.startClaim_keeps {kof : KeptOf} (d : Dev) (hd : d.Kept kof) :
    (Dev.startClaim d).Kept kof := by
  unfold Dev.startClaim
  try dsimp only
  repeat' first
    | with_reducible assumption
    | intro _
    | with_reducible apply keep_ite
    | with_reducible apply Dev.mapErg_keeps
    | with_reducible apply Dev.numberAll_keeps
    | with_reducible apply Dev.bisque_keeps
    | simp only [keep_mk]
    | dsimp only
    | split
    | with_reducible refine keep_fst (by with_reducible assumption) ?_

theorem Dev.claimWait_keeps {kof : KeptOf} (d : Dev) (hd : d.Kept kof) :
    (Dev.claimWait d).Kept kof := by
  unfold Dev.claimWait
  try dsimp only
  repeat' first
    | with_reducible assumption
    | intro _
    | with_reducible apply keep_ite
    | with_reducible apply Dev.takeNode_keeps
    | with_reducible apply Dev.bisque_keeps
    | with_reducible apply Dev.startClaim_keeps
    | with_reducible apply Dev.mapErg_keeps
    | with_reducible apply Dev.numberAll_keeps
    | with_reducible apply Dev.takeAssigned_keeps
    | simp only [keep_mk]
    | dsimp only
    | split
    | with_reducible refine keep_fst (by with_reducible assumption) ?_

theorem Dev.neighbourAbsent_keeps {kof : KeptOf} (d : Dev) (p : Nat) (hd : d.Kept kof) :
    (Dev.neighbourAbsent d p).Kept kof := by
  unfold Dev.neighbourAbsent
  try dsimp only
  repeat' first
    | with_reducible assumption
    | intro _
    | with_reducible apply Dev.mapErg_keeps
    | simp only [keep_mk]
    | dsimp only
    | split
    | with_reducible refine keep_fst (by with_reducible assumption) ?_

theorem Dev.originExpires_keeps {kof : KeptOf} (d : Dev) (kind n : Nat) (hd : d.Kept kof) :
    (Dev.originExpires d kind n).Kept kof := by
  unfold Dev.originExpires
  try dsimp only
  repeat' first
    | with_reducible assumption
    | intro _
    | with_reducible apply Dev.mapErg_keeps
    | simp only [keep_mk]
    | dsimp only
    | split
    | with_reducible refine keep_fst (by with_reducible assumption) ?_

theorem Dev.memberLost_keeps {kof : KeptOf} (d : Dev) (m : Nat) (hd : d.Kept kof) :
    (Dev.memberLost d m).Kept kof := by
  unfold Dev.memberLost
  try dsimp only
  repeat' first
    | with_reducible assumption
    | intro _
    | with_reducible apply keep_ite
    | with_reducible apply Dev.mapErg_keeps
    | with_reducible apply Dev.fenceOriginate_keeps
    | simp only [keep_mk]
    | dsimp only
    | split
    | with_reducible refine keep_fst (by with_reducible assumption) ?_

theorem Dev.membersBack_keeps {kof : KeptOf} (d : Dev) (hd : d.Kept kof) :
    (Dev.membersBack d).Kept kof := by
  unfold Dev.membersBack
  try dsimp only
  repeat' first
    | with_reducible assumption
    | intro _
    | with_reducible apply keep_ite
    | with_reducible apply Dev.each_keeps
    | with_reducible apply Dev.mapErg_keeps
    | with_reducible apply Dev.fenceOriginate_keeps
    | simp only [keep_mk]
    | dsimp only
    | split
    | with_reducible refine keep_fst (by with_reducible assumption) ?_

theorem Dev.tdistUpdate_keeps {kof : KeptOf} (d : Dev) (hd : d.Kept kof) :
    (Dev.tdistUpdate d).Kept kof := by
  unfold Dev.tdistUpdate
  try dsimp only
  repeat' first
    | with_reducible assumption
    | intro _
    | with_reducible apply keep_ite
    | with_reducible apply Dev.put_keeps
    | with_reducible apply Dev.each_keeps
    | simp only [keep_mk]
    | dsimp only
    | split
    | with_reducible refine keep_fst (by with_reducible assumption) ?_

theorem Dev.ergOriginate_keeps {kof : KeptOf} (d : Dev) (hd : d.Kept kof) :
    (Dev.ergOriginate d).Kept kof := by
  unfold Dev.ergOriginate
  try dsimp only
  repeat' first
    | with_reducible assumption
    | intro _
    | with_reducible apply keep_ite
    | with_reducible apply Dev.mapErg_keeps
    | with_reducible apply Dev.sendAssign_keeps
    | with_reducible apply Dev.sendClaim_keeps
    | with_reducible apply Dev.sendLsa_keeps
    | with_reducible apply Dev.sendGsum_keeps
    | simp only [keep_mk]
    | dsimp only
    | split
    | with_reducible refine keep_fst (by with_reducible assumption) ?_

theorem Dev.ergSettle_keeps {kof : KeptOf} (d : Dev) (hd : d.Kept kof) :
    (Dev.ergSettle d).Kept kof := by
  unfold Dev.ergSettle
  try dsimp only
  repeat' first
    | with_reducible assumption
    | intro _
    | with_reducible apply keep_ite
    | with_reducible apply Dev.tdistUpdate_keeps
    | with_reducible apply Dev.ergOriginate_keeps
    | with_reducible apply Dev.membersBack_keeps
    | with_reducible apply Dev.putB_keeps
    | simp only [keep_mk]
    | dsimp only
    | split
    | with_reducible refine keep_fst (by with_reducible assumption) ?_

/-! Machine/Epoch.lean -/

theorem Dev.correctTime_keeps {kof : KeptOf} (d : Dev) (x : Int) (hd : d.Kept kof) :
    (Dev.correctTime d x).Kept kof := by
  unfold Dev.correctTime
  try dsimp only
  repeat' first
    | with_reducible assumption
    | intro _
    | with_reducible apply Dev.each_keeps
    | with_reducible apply Dev.put_keeps
    | with_reducible apply Dev.inc_keeps
    | simp only [keep_mk]
    | dsimp only
    | split
    | with_reducible refine keep_fst (by with_reducible assumption) ?_

theorem Dev.timeTake_keeps {kof : KeptOf} (d : Dev) (p : Nat) (b : Body) (hd : d.Kept kof) :
    (Dev.timeTake d p b).Kept kof := by
  unfold Dev.timeTake
  try dsimp only
  repeat' first
    | with_reducible assumption
    | intro _
    | with_reducible apply keep_ite
    | with_reducible apply Dev.modLink_keeps
    | with_reducible apply Dev.correctTime_keeps
    | simp only [keep_mk]
    | dsimp only
    | split
    | with_reducible refine keep_fst (by with_reducible assumption) ?_

theorem Dev.timeIn_keeps {kof : KeptOf} (d : Dev) (p : Nat) (c : Ctrl) (b : Body) (hd : d.Kept kof) :
    (Dev.timeIn d p c b).Kept kof := by
  unfold Dev.timeIn
  try dsimp only
  repeat' first
    | with_reducible assumption
    | intro _
    | with_reducible apply Dev.bypassIn_keeps
    | with_reducible apply Dev.timeTake_keeps
    | simp only [keep_mk]
    | dsimp only
    | split
    | with_reducible refine keep_fst (by with_reducible assumption) ?_

theorem Dev.putTables_keeps {kof : KeptOf} (d : Dev) (q e : Nat) (t : Tab Nat × Tab Nat) (hd : d.Kept kof) :
    (Dev.putTables d q e t).Kept kof := by
  unfold Dev.putTables
  dsimp only
  refine keep_win d _ _ hd ?_ ?_ ?_ ?_ rfl
  rotate_left 2
  · exact keep_group d hd
  · exact keep_gate d hd
  · refine Tab.wf_foldl _ _ (fun t x h => ?_) _ _ (Tab.wf_filter _ _ _ (keep_route d hd))
    split
    · exact Tab.wf_set _ _ _ _ h
    · exact h
  · refine Tab.wf_foldl _ _ (fun t x h => ?_) _ _ (Tab.wf_filter _ _ _ (keep_pset d hd))
    split
    · exact Tab.wf_set _ _ _ _ h
    · exact h

theorem Dev.loadBank_keeps {kof : KeptOf} (d : Dev) (q e : Nat) (hd : d.Kept kof) :
    (Dev.loadBank d q e).Kept kof := by
  unfold Dev.loadBank
  try dsimp only
  repeat' first
    | with_reducible assumption
    | intro _
    | with_reducible apply keep_ite
    | with_reducible apply Dev.setBankValid_keeps
    | with_reducible apply Dev.putTables_keeps
    | with_reducible apply Dev.validateBank_keeps
    | simp only [keep_mk]
    | dsimp only
    | split
    | with_reducible refine keep_fst (by with_reducible assumption) ?_

theorem Dev.loadAll_keeps {kof : KeptOf} (d : Dev) (e : Nat) (hd : d.Kept kof) :
    (Dev.loadAll d e).Kept kof := by
  unfold Dev.loadAll
  try dsimp only
  repeat' first
    | with_reducible assumption
    | intro _
    | with_reducible apply Dev.each_keeps
    | with_reducible apply Dev.loadBank_keeps
    | simp only [keep_mk]
    | dsimp only
    | split
    | with_reducible refine keep_fst (by with_reducible assumption) ?_

theorem Dev.epochStart_keeps {kof : KeptOf} (d : Dev) (v e : Nat) (unsure : Bool) (hd : d.Kept kof) :
    (Dev.epochStart d v e unsure).Kept kof := by
  unfold Dev.epochStart
  try dsimp only
  repeat' first
    | with_reducible assumption
    | intro _
    | with_reducible apply Dev.loadAll_keeps
    | simp only [keep_mk]
    | dsimp only
    | split
    | with_reducible refine keep_fst (by with_reducible assumption) ?_

theorem Dev.epochAct_keeps {kof : KeptOf} (d : Dev) (v phase e : Nat) (hd : d.Kept kof) :
    (Dev.epochAct d v phase e).Kept kof := by
  unfold Dev.epochAct
  try dsimp only
  repeat' first
    | with_reducible assumption
    | intro _
    | with_reducible apply keep_ite
    | with_reducible apply Dev.epochStart_keeps
    | simp only [keep_mk]
    | dsimp only
    | split
    | with_reducible refine keep_fst (by with_reducible assumption) ?_

theorem Dev.epochWork_keeps {kof : KeptOf} (d : Dev) (hd : d.Kept kof) :
    (Dev.epochWork d).Kept kof := by
  unfold Dev.epochWork
  try dsimp only
  repeat' first
    | with_reducible assumption
    | intro _
    | with_reducible apply keep_ite
    | with_reducible apply Dev.each_keeps
    | with_reducible apply Dev.stampWrite_keeps
    | with_reducible apply Dev.retireBank_keeps
    | simp only [keep_mk]
    | dsimp only
    | split
    | with_reducible refine keep_fst (by with_reducible assumption) ?_

theorem Dev.epochSpread_keeps {kof : KeptOf} (d : Dev) (v phase e origin : Nat) (hd : d.Kept kof) :
    (Dev.epochSpread d v phase e origin).Kept kof := by
  unfold Dev.epochSpread
  try dsimp only
  repeat' first
    | with_reducible assumption
    | intro _
    | with_reducible apply keep_ite
    | with_reducible apply Dev.epochAct_keeps
    | with_reducible apply Dev.epochWork_keeps
    | with_reducible apply Dev.flood_keeps
    | simp only [keep_mk]
    | dsimp only
    | split
    | with_reducible refine keep_fst (by with_reducible assumption) ?_

theorem Dev.epochIn_keeps {kof : KeptOf} (d : Dev) (p : Nat) (c : Ctrl) (b : Body) (hd : d.Kept kof) :
    (Dev.epochIn d p c b).Kept kof := by
  unfold Dev.epochIn
  try dsimp only
  repeat' first
    | with_reducible assumption
    | intro _
    | with_reducible apply Dev.bypassIn_keeps
    | with_reducible apply Dev.epochSpread_keeps
    | simp only [keep_mk]
    | dsimp only
    | split
    | with_reducible refine keep_fst (by with_reducible assumption) ?_

theorem Dev.epochFlood_keeps {kof : KeptOf} (d : Dev) (phase : Nat) (hd : d.Kept kof) :
    (Dev.epochFlood d phase).Kept kof := by
  unfold Dev.epochFlood
  try dsimp only
  repeat' first
    | with_reducible assumption
    | intro _
    | with_reducible apply Dev.epochSpread_keeps
    | simp only [keep_mk]
    | dsimp only
    | split
    | with_reducible refine keep_fst (by with_reducible assumption) ?_

theorem Dev.countRound_keeps {kof : KeptOf} (d : Dev) (hd : d.Kept kof) :
    (Dev.countRound d).Kept kof := by
  unfold Dev.countRound
  try dsimp only
  repeat' first
    | with_reducible assumption
    | intro _
    | with_reducible apply keep_ite
    | with_reducible apply Dev.epochCountIn_keeps
    | simp only [keep_mk]
    | dsimp only
    | split
    | with_reducible refine keep_fst (by with_reducible assumption) ?_

theorem Dev.countResult_keeps {kof : KeptOf} (d : Dev) (whole : Bool) (l : List Nat) (hd : d.Kept kof) :
    (Dev.countResult d whole l).Kept kof := by
  unfold Dev.countResult
  try dsimp only
  repeat' first
    | with_reducible assumption
    | intro _
    | with_reducible apply keep_ite
    | with_reducible apply Dev.epochFlood_keeps
    | simp only [keep_mk]
    | dsimp only
    | split
    | with_reducible refine keep_fst (by with_reducible assumption) ?_

theorem Dev.redDownMsg_keeps {kof : KeptOf} (d : Dev) (e : Nat) (k : Packet) (hd : d.Kept kof) :
    (Dev.redDownMsg d e k).Kept kof := by
  unfold Dev.redDownMsg
  try dsimp only
  repeat' first
    | with_reducible assumption
    | intro _
    | with_reducible apply keep_ite
    | with_reducible apply Dev.redDownIn_keeps
    | with_reducible apply Dev.countResult_keeps
    | simp only [keep_mk]
    | dsimp only
    | split
    | with_reducible refine keep_fst (by with_reducible assumption) ?_

theorem Dev.useTables_keeps {kof : KeptOf} (d : Dev) (hd : d.Kept kof) :
    (Dev.useTables d).Kept kof := by
  unfold Dev.useTables
  try dsimp only
  repeat' first
    | with_reducible assumption
    | intro _
    | with_reducible apply keep_ite
    | with_reducible apply Dev.loadAll_keeps
    | with_reducible apply Dev.epochSpread_keeps
    | with_reducible apply Dev.each_keeps
    | with_reducible apply Dev.loadBank_keeps
    | simp only [keep_mk]
    | dsimp only
    | split
    | with_reducible refine keep_fst (by with_reducible assumption) ?_

theorem Dev.settleExpires_keeps {kof : KeptOf} (d : Dev) (ok : Bool) (need : Nat) (routes psets : List (Nat × Nat)) (hd : d.Kept kof) :
    (Dev.settleExpires d ok need routes psets).Kept kof := by
  unfold Dev.settleExpires
  try dsimp only
  repeat' first
    | with_reducible assumption
    | intro _
    | with_reducible apply keep_ite
    | with_reducible apply Dev.bisque_keeps
    | with_reducible apply Dev.mapErg_keeps
    | with_reducible apply Dev.raise_keeps
    | with_reducible apply Dev.useTables_keeps
    | simp only [keep_mk]
    | dsimp only
    | split
    | with_reducible refine keep_fst (by with_reducible assumption) ?_

theorem Dev.removeFrom_keeps {kof : KeptOf} (d : Dev) (q b i p : Nat) (hd : d.Kept kof) :
    (Dev.removeFrom d q b i p).Kept kof := by
  unfold Dev.removeFrom
  dsimp only
  refine keep_ite hd (keep_ite ?_ hd)
  refine keep_win d _ _ hd ?_ ?_ ?_ ?_ rfl
  · exact keep_route d hd
  · exact Tab.wf_foldl _ _ (fun t x h => Tab.wf_set _ _ _ _ h) _ _ (keep_pset d hd)
  · exact keep_group d hd
  · exact keep_gate d hd

theorem Dev.removedLook_keeps {kof : KeptOf} (d : Dev) (i p : Nat) (hd : d.Kept kof) :
    (Dev.removedLook d i p).Kept kof := by
  unfold Dev.removedLook
  try dsimp only
  repeat' first
    | with_reducible assumption
    | intro _
    | with_reducible apply keep_ite
    | with_reducible apply Dev.unqueuePorts_keeps
    | with_reducible apply Dev.setPkt_keeps
    | with_reducible apply Dev.toPort_keeps
    | with_reducible apply Dev.inc_keeps
    | with_reducible apply Dev.dropPkt_keeps
    | simp only [keep_mk]
    | dsimp only
    | split
    | with_reducible refine keep_fst (by with_reducible assumption) ?_

theorem Dev.removePort_keeps {kof : KeptOf} (d : Dev) (p : Nat) (hd : d.Kept kof) :
    (Dev.removePort d p).Kept kof := by
  unfold Dev.removePort
  try dsimp only
  repeat' first
    | with_reducible assumption
    | intro _
    | with_reducible apply Dev.each_keeps
    | with_reducible apply Dev.removeFrom_keeps
    | with_reducible apply Dev.removedLook_keeps
    | simp only [keep_mk]
    | dsimp only
    | split
    | with_reducible refine keep_fst (by with_reducible assumption) ?_

theorem Dev.portDies_keeps {kof : KeptOf} (d : Dev) (p : Nat) (hd : d.Kept kof) :
    (Dev.portDies d p).Kept kof := by
  unfold Dev.portDies
  try dsimp only
  repeat' first
    | with_reducible assumption
    | intro _
    | with_reducible apply keep_ite
    | with_reducible apply Dev.deadTimeout_keeps
    | with_reducible apply Dev.removePort_keeps
    | simp only [keep_mk]
    | dsimp only
    | split
    | with_reducible refine keep_fst (by with_reducible assumption) ?_

theorem Dev.installSystem_keeps {kof : KeptOf} (d : Dev) (q : Nat) (words : List Word) (hd : d.Kept kof) :
    (Dev.installSystem d q words).Kept kof := by
  unfold Dev.installSystem
  try dsimp only
  repeat' first
    | with_reducible assumption
    | intro _
    | with_reducible apply keep_ite
    | with_reducible apply Dev.setBacked_keeps
    | with_reducible apply Dev.each_keeps
    | with_reducible apply Dev.groupWrite_keeps
    | with_reducible apply Dev.groupValidate_keeps
    | simp only [keep_mk]
    | dsimp only
    | split
    | with_reducible refine keep_fst (by with_reducible assumption) ?_

theorem Dev.phaseRun_keeps {kof : KeptOf} (d : Dev) (words : List Word) (hd : d.Kept kof) :
    (Dev.phaseRun d words).Kept kof := by
  unfold Dev.phaseRun
  try dsimp only
  repeat' first
    | with_reducible assumption
    | intro _
    | with_reducible apply keep_ite
    | with_reducible apply Dev.each_keeps
    | with_reducible apply Dev.stampWrite_keeps
    | with_reducible apply Dev.installSystem_keeps
    | with_reducible apply Dev.when_keeps
    | with_reducible apply Dev.put_keeps
    | with_reducible apply Dev.meshSwitched_keeps
    | with_reducible apply Dev.dirChange_keeps
    | with_reducible apply Dev.retryInj_keeps
    | simp only [keep_mk]
    | simp only [id_eq]
    | dsimp only
    | split
    | with_reducible refine keep_fst (by with_reducible assumption) ?_

theorem Dev.ledgerAudit_keeps {kof : KeptOf} (d : Dev) (q : Nat) (hd : d.Kept kof) :
    (Dev.ledgerAudit d q).Kept kof := by
  unfold Dev.ledgerAudit
  try dsimp only
  repeat' first
    | with_reducible assumption
    | intro _
    | with_reducible apply Dev.each_keeps
    | with_reducible apply Dev.raise_keeps
    | with_reducible apply Dev.when_keeps
    | simp only [keep_mk]
    | dsimp only
    | split
    | with_reducible refine keep_fst (by with_reducible assumption) ?_

/-! Machine/Caravan.lean -/

theorem Dev.ringSend_keeps {kof : KeptOf} (d : Dev) (type dst tag payload : Nat) (hd : d.Kept kof) :
    (Dev.ringSend d type dst tag payload).Kept kof := by
  unfold Dev.ringSend
  try dsimp only
  repeat' first
    | with_reducible assumption
    | intro _
    | with_reducible apply Dev.emit_keeps
    | simp only [keep_mk]
    | dsimp only
    | split
    | with_reducible refine keep_fst (by with_reducible assumption) ?_

theorem Dev.ringPass_keeps {kof : KeptOf} (d : Dev) (f : Frame) (payload : Nat) (hd : d.Kept kof) :
    (Dev.ringPass d f payload).Kept kof := by
  unfold Dev.ringPass
  try dsimp only
  repeat' first
    | with_reducible assumption
    | intro _
    | with_reducible apply keep_ite
    | with_reducible apply Dev.emit_keeps
    | simp only [keep_mk]
    | dsimp only
    | split
    | with_reducible refine keep_fst (by with_reducible assumption) ?_

theorem Dev.frameIn_keeps {kof : KeptOf} (d : Dev) (type : Nat) (f : Frame) (act : Dev → Dev) (hd : d.Kept kof) (hact : ∀ d, d.Kept kof → (act d).Kept kof) :
    (Dev.frameIn d type f act).Kept kof := by
  unfold Dev.frameIn
  try dsimp only
  repeat' first
    | with_reducible assumption
    | intro _
    | with_reducible apply keep_ite
    | with_reducible apply Dev.inc_keeps
    | simp only [keep_mk]
    | with_reducible apply hact
    | dsimp only
    | split
    | with_reducible refine keep_fst (by with_reducible assumption) ?_

theorem Dev.frameFor_keeps {kof : KeptOf} (d : Dev) (type : Nat) (f : Frame) (act : Dev → Dev) (hd : d.Kept kof) (hact : ∀ d, d.Kept kof → (act d).Kept kof) :
    (Dev.frameFor d type f act).Kept kof := by
  unfold Dev.frameFor
  try dsimp only
  repeat' first
    | with_reducible assumption
    | intro _
    | with_reducible apply keep_ite
    | with_reducible apply Dev.frameIn_keeps
    | with_reducible apply Dev.ringPass_keeps
    | simp only [keep_mk]
    | with_reducible apply hact
    | dsimp only
    | split
    | with_reducible refine keep_fst (by with_reducible assumption) ?_

theorem Dev.oobStatus_keeps {kof : KeptOf} (d : Dev) (st : Nat) (hd : d.Kept kof) :
    (Dev.oobStatus d st).Kept kof := by
  unfold Dev.oobStatus
  try dsimp only
  repeat' first
    | with_reducible assumption
    | intro _
    | with_reducible apply Dev.put_keeps
    | simp only [keep_mk]
    | dsimp only
    | split
    | with_reducible refine keep_fst (by with_reducible assumption) ?_

theorem Dev.oobEnds_keeps {kof : KeptOf} (d : Dev) (st : Nat) (data : Option Nat) (hd : d.Kept kof) :
    (Dev.oobEnds d st data).Kept kof := by
  unfold Dev.oobEnds
  try dsimp only
  repeat' first
    | with_reducible assumption
    | intro _
    | with_reducible apply Dev.put_keeps
    | with_reducible apply Dev.oobStatus_keeps
    | with_reducible apply Dev.when_keeps
    | simp only [keep_mk]
    | dsimp only
    | split
    | with_reducible refine keep_fst (by with_reducible assumption) ?_

theorem Dev.fwSend_keeps {kof : KeptOf} (d : Dev) (q : Nat) (k : Packet) (hd : d.Kept kof) :
    (Dev.fwSend d q k).Kept kof := by
  unfold Dev.fwSend
  try dsimp only
  repeat' first
    | with_reducible assumption
    | intro _
    | with_reducible apply Dev.offer_keeps
    | with_reducible apply Dev.retryInj_keeps
    | simp only [keep_mk]
    | dsimp only
    | split
    | with_reducible refine keep_fst (by with_reducible assumption) ?_

theorem Dev.oobStart_keeps {kof : KeptOf} (d : Dev) (v : Word) (op : Nat) (hd : d.Kept kof) :
    (Dev.oobStart d v op).Kept kof := by
  unfold Dev.oobStart
  try dsimp only
  repeat' first
    | with_reducible assumption
    | intro _
    | with_reducible apply keep_ite
    | with_reducible apply Dev.put_keeps
    | with_reducible apply Dev.oobStatus_keeps
    | with_reducible apply Dev.freed_keeps
    | with_reducible apply Dev.fwSend_keeps
    | with_reducible apply Dev.ringSend_keeps
    | simp only [keep_mk]
    | dsimp only
    | split
    | with_reducible refine keep_fst (by with_reducible assumption) ?_

theorem Dev.oobCmd_keeps {kof : KeptOf} (d : Dev) (v : Word) (hd : d.Kept kof) :
    (Dev.oobCmd d v).Kept kof := by
  unfold Dev.oobCmd
  try dsimp only
  repeat' first
    | with_reducible assumption
    | intro _
    | with_reducible apply Dev.oobStart_keeps
    | simp only [keep_mk]
    | dsimp only
    | split
    | with_reducible refine keep_fst (by with_reducible assumption) ?_

theorem Dev.oobTimeout_keeps {kof : KeptOf} (d : Dev) (hd : d.Kept kof) :
    (Dev.oobTimeout d).Kept kof := by
  unfold Dev.oobTimeout
  try dsimp only
  repeat' first
    | with_reducible assumption
    | intro _
    | with_reducible apply Dev.oobEnds_keeps
    | simp only [keep_mk]
    | dsimp only
    | split
    | with_reducible refine keep_fst (by with_reducible assumption) ?_

theorem Dev.ringResp_keeps {kof : KeptOf} (d : Dev) (f : Frame) (hd : d.Kept kof) :
    (Dev.ringResp d f).Kept kof := by
  unfold Dev.ringResp
  try dsimp only
  repeat' first
    | with_reducible assumption
    | intro _
    | with_reducible apply keep_ite
    | with_reducible apply Dev.frameFor_keeps
    | with_reducible apply Dev.oobEnds_keeps
    | simp only [keep_mk]
    | dsimp only
    | split
    | with_reducible refine keep_fst (by with_reducible assumption) ?_

theorem Dev.fwRspIn_keeps {kof : KeptOf} (d : Dev) (q : Nat) (k : Packet) (hd : d.Kept kof) :
    (Dev.fwRspIn d q k).Kept kof := by
  unfold Dev.fwRspIn
  try dsimp only
  repeat' first
    | with_reducible assumption
    | intro _
    | with_reducible apply keep_ite
    | with_reducible apply Dev.takeDlv_keeps
    | with_reducible apply Dev.inc_keeps
    | with_reducible apply Dev.oobEnds_keeps
    | simp only [keep_mk]
    | dsimp only
    | split
    | with_reducible refine keep_fst (by with_reducible assumption) ?_

theorem Dev.sendElect_keeps {kof : KeptOf} (d : Dev) (hd : d.Kept kof) :
    (Dev.sendElect d).Kept kof := by
  unfold Dev.sendElect
  try dsimp only
  repeat' first
    | with_reducible assumption
    | intro _
    | with_reducible apply Dev.ringSend_keeps
    | simp only [keep_mk]
    | dsimp only
    | split
    | with_reducible refine keep_fst (by with_reducible assumption) ?_

theorem Dev.reform_keeps {kof : KeptOf} (d : Dev) (hd : d.Kept kof) :
    (Dev.reform d).Kept kof := by
  unfold Dev.reform
  try dsimp only
  repeat' first
    | with_reducible assumption
    | intro _
    | with_reducible apply Dev.put_keeps
    | with_reducible apply Dev.inc_keeps
    | with_reducible apply Dev.oobEnds_keeps
    | with_reducible apply Dev.sendElect_keeps
    | simp only [keep_mk]
    | dsimp only
    | split
    | with_reducible refine keep_fst (by with_reducible assumption) ?_

theorem Dev.carLeave_keeps {kof : KeptOf} (d : Dev) (hd : d.Kept kof) :
    (Dev.carLeave d).Kept kof := by
  unfold Dev.carLeave
  try dsimp only
  repeat' first
    | with_reducible assumption
    | intro _
    | with_reducible apply keep_ite
    | with_reducible apply Dev.put_keeps
    | with_reducible apply Dev.oobEnds_keeps
    | with_reducible apply Dev.emit_keeps
    | simp only [keep_mk]
    | dsimp only
    | split
    | with_reducible refine keep_fst (by with_reducible assumption) ?_

theorem Dev.carFollow_keeps {kof : KeptOf} (d : Dev) (hd : d.Kept kof) :
    (Dev.carFollow d).Kept kof := by
  unfold Dev.carFollow
  try dsimp only
  repeat' first
    | with_reducible assumption
    | intro _
    | with_reducible apply keep_ite
    | with_reducible apply Dev.emit_keeps
    | with_reducible apply Dev.reform_keeps
    | with_reducible apply Dev.carLeave_keeps
    | simp only [keep_mk]
    | dsimp only
    | split
    | with_reducible refine keep_fst (by with_reducible assumption) ?_

theorem Dev.mgtCtrl_keeps {kof : KeptOf} (d : Dev) (v : Word) (hd : d.Kept kof) :
    (Dev.mgtCtrl d v).Kept kof := by
  unfold Dev.mgtCtrl
  try dsimp only
  repeat' first
    | with_reducible assumption
    | intro _
    | with_reducible apply keep_ite
    | with_reducible apply Dev.wrFields_keeps
    | with_reducible apply Dev.carLeave_keeps
    | simp only [keep_mk]
    | dsimp only
    | split
    | with_reducible refine keep_fst (by with_reducible assumption) ?_

theorem Dev.carLockLoss_keeps {kof : KeptOf} (d : Dev) (hd : d.Kept kof) :
    (Dev.carLockLoss d).Kept kof := by
  unfold Dev.carLockLoss
  try dsimp only
  repeat' first
    | with_reducible assumption
    | intro _
    | with_reducible apply keep_ite
    | with_reducible apply Dev.reform_keeps
    | simp only [keep_mk]
    | dsimp only
    | split
    | with_reducible refine keep_fst (by with_reducible assumption) ?_

theorem Dev.carSlow_keeps {kof : KeptOf} (d : Dev) (hd : d.Kept kof) :
    (Dev.carSlow d).Kept kof := by
  unfold Dev.carSlow
  try dsimp only
  repeat' first
    | with_reducible assumption
    | intro _
    | with_reducible apply Dev.put_keeps
    | with_reducible apply Dev.emit_keeps
    | with_reducible apply Dev.sendElect_keeps
    | simp only [keep_mk]
    | dsimp only
    | split
    | with_reducible refine keep_fst (by with_reducible assumption) ?_

theorem Dev.carLockTimeout_keeps {kof : KeptOf} (d : Dev) (hd : d.Kept kof) :
    (Dev.carLockTimeout d).Kept kof := by
  unfold Dev.carLockTimeout
  try dsimp only
  repeat' first
    | with_reducible assumption
    | intro _
    | with_reducible apply keep_ite
    | with_reducible apply Dev.put_keeps
    | with_reducible apply Dev.raise_keeps
    | with_reducible apply Dev.carSlow_keeps
    | simp only [keep_mk]
    | dsimp only
    | split
    | with_reducible refine keep_fst (by with_reducible assumption) ?_

theorem Dev.carPattern_keeps {kof : KeptOf} (d : Dev) (hd : d.Kept kof) :
    (Dev.carPattern d).Kept kof := by
  unfold Dev.carPattern
  try dsimp only
  repeat' first
    | with_reducible assumption
    | intro _
    | with_reducible apply keep_ite
    | with_reducible apply Dev.reform_keeps
    | with_reducible apply Dev.carSlow_keeps
    | simp only [keep_mk]
    | dsimp only
    | split
    | with_reducible refine keep_fst (by with_reducible assumption) ?_

theorem Dev.ringElect_keeps {kof : KeptOf} (d : Dev) (f : Frame) (hd : d.Kept kof) :
    (Dev.ringElect d f).Kept kof := by
  unfold Dev.ringElect
  try dsimp only
  repeat' first
    | with_reducible assumption
    | intro _
    | with_reducible apply keep_ite
    | with_reducible apply Dev.frameIn_keeps
    | with_reducible apply Dev.reform_keeps
    | with_reducible apply Dev.put_keeps
    | with_reducible apply Dev.ringSend_keeps
    | with_reducible apply Dev.emit_keeps
    | simp only [keep_mk]
    | dsimp only
    | split
    | with_reducible refine keep_fst (by with_reducible assumption) ?_

theorem Dev.ringPosition_keeps {kof : KeptOf} (d : Dev) (f : Frame) (hd : d.Kept kof) :
    (Dev.ringPosition d f).Kept kof := by
  unfold Dev.ringPosition
  try dsimp only
  repeat' first
    | with_reducible assumption
    | intro _
    | with_reducible apply keep_ite
    | with_reducible apply Dev.frameIn_keeps
    | with_reducible apply Dev.put_keeps
    | with_reducible apply Dev.emit_keeps
    | with_reducible apply Dev.ringSend_keeps
    | simp only [keep_mk]
    | dsimp only
    | split
    | with_reducible refine keep_fst (by with_reducible assumption) ?_

theorem Dev.ringTime_keeps {kof : KeptOf} (d : Dev) (f : Frame) (res : Nat) (hd : d.Kept kof) :
    (Dev.ringTime d f res).Kept kof := by
  unfold Dev.ringTime
  try dsimp only
  repeat' first
    | with_reducible assumption
    | intro _
    | with_reducible apply keep_ite
    | with_reducible apply Dev.frameIn_keeps
    | with_reducible apply Dev.put_keeps
    | with_reducible apply Dev.ringPass_keeps
    | simp only [keep_mk]
    | dsimp only
    | split
    | with_reducible refine keep_fst (by with_reducible assumption) ?_

theorem Dev.ringTimeSend_keeps {kof : KeptOf} (d : Dev) (hd : d.Kept kof) :
    (Dev.ringTimeSend d).Kept kof := by
  unfold Dev.ringTimeSend
  try dsimp only
  repeat' first
    | with_reducible assumption
    | intro _
    | with_reducible apply keep_ite
    | with_reducible apply Dev.ringSend_keeps
    | simp only [keep_mk]
    | dsimp only
    | split
    | with_reducible refine keep_fst (by with_reducible assumption) ?_

/-! Machine/Access.lean -/

theorem Dev.readEffect_keeps {kof : KeptOf} (d : Dev) (r : Reg) (q i : Nat) (hd : d.Kept kof) :
    (Dev.readEffect d r q i).Kept kof := by
  unfold Dev.readEffect
  try dsimp only
  repeat' first
    | with_reducible assumption
    | intro _
    | with_reducible apply keep_ite
    | with_reducible apply Dev.challengeRead_keeps
    | with_reducible apply Dev.pmcCntRead_keeps
    | with_reducible apply Dev.freed_keeps
    | with_reducible apply Dev.put_keeps
    | simp only [keep_mk]
    | with_reducible apply keep_foldl
    | dsimp only
    | split
    | with_reducible refine keep_fst (by with_reducible assumption) ?_

theorem Dev.observe_keeps {kof : KeptOf} (d : Dev) (r : Reg) (q i : Nat) (hd : d.Kept kof) :
    (Dev.observe d r q i).Kept kof := by
  unfold Dev.observe
  try dsimp only
  repeat' first
    | with_reducible assumption
    | intro _
    | with_reducible apply Dev.background_keeps
    | with_reducible apply Dev.scanRuns_keeps
    | with_reducible apply Dev.checkerRuns_keeps
    | simp only [keep_mk]
    | dsimp only
    | split
    | with_reducible refine keep_fst (by with_reducible assumption) ?_

theorem Dev.readReg_keeps {kof : KeptOf} (d : Dev) (r : Reg) (q i : Nat) (hd : d.Kept kof) :
    (Dev.readReg d r q i).1.Kept kof := by
  unfold Dev.readReg
  try dsimp only
  repeat' first
    | with_reducible assumption
    | intro _
    | with_reducible apply keep_ite
    | with_reducible apply Dev.observe_keeps
    | with_reducible apply Dev.readEffect_keeps
    | simp only [keep_mk]
    | dsimp only
    | split
    | with_reducible refine keep_fst (by with_reducible assumption) ?_

theorem Dev.readAt_keeps {kof : KeptOf} (d : Dev) (path : Path) (a : Nat) (hd : d.Kept kof) :
    (Dev.readAt d path a).1.Kept kof := by
  unfold Dev.readAt
  try dsimp only
  repeat' first
    | with_reducible assumption
    | intro _
    | with_reducible apply keep_ite
    | with_reducible apply Dev.freed_keeps
    | with_reducible apply Dev.readReg_keeps
    | simp only [keep_mk]
    | dsimp only
    | split
    | with_reducible refine keep_fst (by with_reducible assumption) ?_

theorem Dev.lnkCmd_keeps {kof : KeptOf} (d : Dev) (p : Nat) (v : Word) (hd : d.Kept kof) :
    (Dev.lnkCmd d p v).Kept kof := by
  unfold Dev.lnkCmd
  try dsimp only
  repeat' first
    | with_reducible assumption
    | intro _
    | with_reducible apply Dev.cmdRetrain_keeps
    | with_reducible apply Dev.cmdOos_keeps
    | with_reducible apply Dev.cmdInService_keeps
    | simp only [keep_mk]
    | dsimp only
    | split
    | with_reducible refine keep_fst (by with_reducible assumption) ?_

theorem Dev.gcmd_keeps {kof : KeptOf} (d : Dev) (q : Nat) (v : Word) (hd : d.Kept kof) :
    (Dev.gcmd d q v).Kept kof := by
  unfold Dev.gcmd
  try dsimp only
  repeat' first
    | with_reducible assumption
    | intro _
    | with_reducible apply Dev.groupValidate_keeps
    | with_reducible apply Dev.groupInvalidate_keeps
    | with_reducible apply Dev.groupForce_keeps
    | with_reducible apply Dev.wrFields_keeps
    | simp only [keep_mk]
    | dsimp only
    | split
    | with_reducible refine keep_fst (by with_reducible assumption) ?_

theorem Dev.eyeWrite_keeps {kof : KeptOf} (d : Dev) (l : Nat) (v : Word) (hd : d.Kept kof) :
    (Dev.eyeWrite d l v).Kept kof := by
  unfold Dev.eyeWrite
  try dsimp only
  repeat' first
    | with_reducible assumption
    | intro _
    | with_reducible apply keep_ite
    | with_reducible apply Dev.eyeStop_keeps
    | with_reducible apply Dev.eyeStart_keeps
    | with_reducible apply Dev.wrFields_keeps
    | simp only [keep_mk]
    | dsimp only
    | split
    | with_reducible refine keep_fst (by with_reducible assumption) ?_

theorem Dev.queWrite_keeps {kof : KeptOf} (d : Dev) (q f : Nat) (v : Word) (hd : d.Kept kof) :
    (Dev.queWrite d q f v).Kept kof := by
  unfold Dev.queWrite
  try dsimp only
  repeat' first
    | with_reducible assumption
    | intro _
    | with_reducible apply Dev.queueCreate_keeps
    | with_reducible apply Dev.queuePause_keeps
    | with_reducible apply Dev.queueResume_keeps
    | with_reducible apply Dev.queueRecover_keeps
    | with_reducible apply Dev.queueDestroy_keeps
    | with_reducible apply Dev.queueQuery_keeps
    | with_reducible apply Dev.queCmd_keeps
    | with_reducible apply Dev.put_keeps
    | simp only [keep_mk]
    | dsimp only
    | split
    | with_reducible refine keep_fst (by with_reducible assumption) ?_

theorem Dev.rmxWrite_keeps {kof : KeptOf} (d : Dev) (q f : Nat) (v : Word) (hd : d.Kept kof) :
    (Dev.rmxWrite d q f v).Kept kof := by
  unfold Dev.rmxWrite
  try dsimp only
  repeat' first
    | with_reducible assumption
    | intro _
    | with_reducible apply keep_ite
    | with_reducible apply Dev.wrFields_keeps
    | with_reducible apply Dev.openConn_keeps
    | with_reducible apply Dev.closeConn_keeps
    | with_reducible apply Dev.queryConn_keeps
    | with_reducible apply Dev.registerRegion_keeps
    | with_reducible apply Dev.revokeRegion_keeps
    | with_reducible apply Dev.queryReg_keeps
    | with_reducible apply Dev.put_keeps
    | simp only [keep_mk]
    | dsimp only
    | split
    | with_reducible refine keep_fst (by with_reducible assumption) ?_

theorem Dev.mtcWrite_keeps {kof : KeptOf} (d : Dev) (q f : Nat) (v : Word) (hd : d.Kept kof) :
    (Dev.mtcWrite d q f v).Kept kof := by
  unfold Dev.mtcWrite
  try dsimp only
  repeat' first
    | with_reducible assumption
    | intro _
    | with_reducible apply Dev.purge_keeps
    | with_reducible apply Dev.put_keeps
    | simp only [keep_mk]
    | dsimp only
    | split
    | with_reducible refine keep_fst (by with_reducible assumption) ?_

theorem Dev.loadWrite_keeps {kof : KeptOf} (d : Dev) (q : Nat) (v : Word) (hd : d.Kept kof) :
    (Dev.loadWrite d q v).Kept kof := by
  unfold Dev.loadWrite
  try dsimp only
  repeat' first
    | with_reducible assumption
    | intro _
    | with_reducible apply Dev.xltLoad_keeps
    | with_reducible apply Dev.xltRemove_keeps
    | with_reducible apply Dev.put_keeps
    | simp only [keep_mk]
    | dsimp only
    | split
    | with_reducible refine keep_fst (by with_reducible assumption) ?_

theorem Dev.resolveWrite_keeps {kof : KeptOf} (d : Dev) (q : Nat) (v : Word) (hd : d.Kept kof) :
    (Dev.resolveWrite d q v).Kept kof := by
  unfold Dev.resolveWrite
  try dsimp only
  repeat' first
    | with_reducible assumption
    | intro _
    | with_reducible apply Dev.resolveTrap_keeps
    | with_reducible apply Dev.slotRetry_keeps
    | with_reducible apply Dev.slotAbsent_keeps
    | with_reducible apply Dev.slotFail_keeps
    | simp only [keep_mk]
    | dsimp only
    | split
    | with_reducible refine keep_fst (by with_reducible assumption) ?_

theorem Dev.xltWrite_keeps {kof : KeptOf} (d : Dev) (q f : Nat) (v : Word) (hd : d.Kept kof) :
    (Dev.xltWrite d q f v).Kept kof := by
  unfold Dev.xltWrite
  try dsimp only
  repeat' first
    | with_reducible assumption
    | intro _
    | with_reducible apply Dev.xltMap_keeps
    | with_reducible apply Dev.xltUnmap_keeps
    | with_reducible apply Dev.xltInval_keeps
    | with_reducible apply Dev.xltInvalSpace_keeps
    | with_reducible apply Dev.pgResp_keeps
    | with_reducible apply Dev.xltCmd_keeps
    | with_reducible apply Dev.xltEnd_keeps
    | simp only [keep_mk]
    | dsimp only
    | split
    | with_reducible refine keep_fst (by with_reducible assumption) ?_

theorem Dev.accErrWrite_keeps {kof : KeptOf} (d : Dev) (v : Word) (hd : d.Kept kof) :
    (Dev.accErrWrite d v).Kept kof := by
  unfold Dev.accErrWrite
  try dsimp only
  repeat' first
    | with_reducible assumption
    | intro _
    | with_reducible apply keep_ite
    | with_reducible apply Dev.wrFields_keeps
    | with_reducible apply Dev.put_keeps
    | simp only [keep_mk]
    | dsimp only
    | split
    | with_reducible refine keep_fst (by with_reducible assumption) ?_

theorem Dev.kilnWrite_keeps {kof : KeptOf} (d : Dev) (q : Nat) (path : Path) (v : Word) (hd : d.Kept kof) :
    (Dev.kilnWrite d q path v).Kept kof := by
  unfold Dev.kilnWrite
  try dsimp only
  repeat' first
    | with_reducible assumption
    | intro _
    | with_reducible apply Dev.kilnGo_keeps
    | simp only [keep_mk]
    | dsimp only
    | split
    | with_reducible refine keep_fst (by with_reducible assumption) ?_

theorem Dev.trigWrite_keeps {kof : KeptOf} (d : Dev) (v : Word) (hd : d.Kept kof) :
    (Dev.trigWrite d v).Kept kof := by
  unfold Dev.trigWrite
  try dsimp only
  repeat' first
    | with_reducible assumption
    | intro _
    | with_reducible apply Dev.wrFields_keeps
    | with_reducible apply Dev.when_keeps
    | with_reducible apply Dev.pmcGo_keeps
    | simp only [keep_mk]
    | dsimp only
    | split
    | with_reducible refine keep_fst (by with_reducible assumption) ?_

theorem Dev.writeReg_keeps {kof : KeptOf} (d : Dev) (path : Path) (r : Reg) (q i : Nat) (v : Word) (hd : d.Kept kof) :
    (Dev.writeReg d path r q i v).Kept kof := by
  unfold Dev.writeReg
  try dsimp only
  repeat' first
    | with_reducible assumption
    | intro _
    | with_reducible apply keep_ite
    | with_reducible apply Dev.laneCtrl_keeps
    | with_reducible apply Dev.txeq_keeps
    | with_reducible apply Dev.rxeq_keeps
    | with_reducible apply Dev.idleWrite_keeps
    | with_reducible apply Dev.loopback_keeps
    | with_reducible apply Dev.patternCtrl_keeps
    | with_reducible apply Dev.eyeWrite_keeps
    | with_reducible apply Dev.clusterMap_keeps
    | with_reducible apply Dev.lnkCtrl_keeps
    | with_reducible apply Dev.lnkCmd_keeps
    | with_reducible apply Dev.prtRelease_keeps
    | with_reducible apply Dev.rteEpoch_keeps
    | with_reducible apply Dev.shareWrite_keeps
    | with_reducible apply Dev.fwdInj_keeps
    | with_reducible apply Dev.shapeWrite_keeps
    | with_reducible apply Dev.gateCtl_keeps
    | with_reducible apply Dev.gcmd_keeps
    | with_reducible apply Dev.fenceGo_keeps
    | with_reducible apply Dev.wrFields_keeps
    | with_reducible apply Dev.nocModectl_keeps
    | with_reducible apply Dev.fnqWrite_keeps
    | with_reducible apply Dev.queWrite_keeps
    | with_reducible apply Dev.keyrightsWrite_keeps
    | with_reducible apply Dev.rmxWrite_keeps
    | with_reducible apply Dev.fnresWrite_keeps
    | with_reducible apply Dev.mtcWrite_keeps
    | with_reducible apply Dev.fnrndvWrite_keeps
    | with_reducible apply Dev.loadWrite_keeps
    | with_reducible apply Dev.resolveWrite_keeps
    | with_reducible apply Dev.xltWrite_keeps
    | with_reducible apply Dev.spaceWrite_keeps
    | with_reducible apply Dev.lowerLevel_keeps
    | with_reducible apply Dev.tokCommand_keeps
    | with_reducible apply Dev.keyCommand_keeps
    | with_reducible apply Dev.wr_keeps
    | with_reducible apply Dev.slotCommand_keeps
    | with_reducible apply Dev.flashWrite_keeps
    | with_reducible apply Dev.mgtCtrl_keeps
    | with_reducible apply Dev.oobCmd_keeps
    | with_reducible apply Dev.pwrCtrl_keeps
    | with_reducible apply Dev.domctl_keeps
    | with_reducible apply Dev.fltAck_keeps
    | with_reducible apply Dev.fltFaultn_keeps
    | with_reducible apply Dev.accErrWrite_keeps
    | with_reducible apply Dev.when_keeps
    | with_reducible apply Dev.storeErase_keeps
    | with_reducible apply Dev.kilnWrite_keeps
    | with_reducible apply Dev.pmcSel_keeps
    | with_reducible apply Dev.pmcCntWrite_keeps
    | with_reducible apply Dev.ringCtl_keeps
    | with_reducible apply Dev.trigWrite_keeps
    | with_reducible apply Dev.ringCi_keeps
    | simp only [keep_mk]
    | dsimp only
    | split
    | with_reducible refine keep_fst (by with_reducible assumption) ?_

theorem Dev.writeTbl_keeps {kof : KeptOf} (d : Dev) (q : Nat) (v : Word) (hd : d.Kept kof) : ∀ (y0 : TblWord),
    (Dev.writeTbl d q v y0).Kept kof := by
  intro y0
  unfold Dev.writeTbl
  try dsimp only
  repeat' first
    | with_reducible assumption
    | intro _
    | with_reducible apply keep_ite
    | with_reducible apply Dev.routeWrite_keeps
    | with_reducible apply Dev.psetWrite_keeps
    | with_reducible apply Dev.gateWrite_keeps
    | with_reducible apply Dev.groupWrite_keeps
    | simp only [keep_mk]
    | dsimp only
    | split
    | with_reducible refine keep_fst (by with_reducible assumption) ?_

theorem Dev.writeAt_keeps {kof : KeptOf} (d : Dev) (path : Path) (a : Nat) (v : Word) (hd : d.Kept kof) :
    (Dev.writeAt d path a v).Kept kof := by
  unfold Dev.writeAt
  try dsimp only
  repeat' first
    | with_reducible assumption
    | intro _
    | with_reducible apply keep_ite
    | with_reducible apply Dev.writeReg_keeps
    | with_reducible apply Dev.writeTbl_keeps
    | simp only [keep_mk]
    | dsimp only
    | split
    | with_reducible refine keep_fst (by with_reducible assumption) ?_

/-! Machine/AccessCmds.lean -/

theorem Dev.accErr_keeps {kof : KeptOf} (d : Dev) (path : Path) (a reason : Nat) (hd : d.Kept kof) :
    (Dev.accErr d path a reason).Kept kof := by
  unfold Dev.accErr
  try dsimp only
  repeat' first
    | with_reducible assumption
    | intro _
    | with_reducible apply keep_ite
    | with_reducible apply Dev.put_keeps
    | with_reducible apply Dev.incF_keeps
    | simp only [keep_mk]
    | dsimp only
    | split
    | with_reducible refine keep_fst (by with_reducible assumption) ?_

theorem Dev.unreachable_keeps {kof : KeptOf} (d : Dev) (x : Access) (hd : d.Kept kof) :
    (Dev.unreachable d x).1.Kept kof := by
  unfold Dev.unreachable
  try dsimp only
  repeat' first
    | with_reducible assumption
    | intro _
    | with_reducible apply Dev.accErr_keeps
    | with_reducible apply Dev.inc_keeps
    | simp only [keep_mk]
    | dsimp only
    | split
    | with_reducible refine keep_fst (by with_reducible assumption) ?_

theorem Dev.reachDomain_keeps {kof : KeptOf} (d : Dev) (a : Nat) (hd : d.Kept kof) :
    (Dev.reachDomain d a).Kept kof := by
  unfold Dev.reachDomain
  try dsimp only
  repeat' first
    | with_reducible assumption
    | intro _
    | with_reducible apply keep_ite
    | with_reducible apply Dev.arrivalDie_keeps
    | with_reducible apply Dev.wakeDie_keeps
    | with_reducible apply Dev.arrival_keeps
    | with_reducible apply Dev.wakeRegion_keeps
    | simp only [keep_mk]
    | dsimp only
    | split
    | with_reducible refine keep_fst (by with_reducible assumption) ?_

theorem Dev.performAccess_keeps {kof : KeptOf} (d : Dev) (x : Access) (hd : d.Kept kof) :
    (Dev.performAccess d x).1.Kept kof := by
  unfold Dev.performAccess
  try dsimp only
  repeat' first
    | with_reducible assumption
    | intro _
    | with_reducible apply Dev.writeAt_keeps
    | with_reducible apply Dev.readAt_keeps
    | simp only [keep_mk]
    | dsimp only
    | split
    | with_reducible refine keep_fst (by with_reducible assumption) ?_

theorem Dev.tryAccess_keeps {kof : KeptOf} (d : Dev) (x : Access) (hd : d.Kept kof) :
    (Dev.tryAccess d x).1.Kept kof := by
  unfold Dev.tryAccess
  try dsimp only
  repeat' first
    | with_reducible assumption
    | intro _
    | with_reducible apply keep_ite
    | with_reducible apply Dev.accErr_keeps
    | with_reducible apply Dev.unreachable_keeps
    | with_reducible apply Dev.reachDomain_keeps
    | with_reducible apply Dev.performAccess_keeps
    | simp only [keep_mk]
    | dsimp only
    | split
    | with_reducible refine keep_fst (by with_reducible assumption) ?_

theorem Dev.accessEnds_keeps {kof : KeptOf} (d : Dev) (x : Access) (r : AccRes) (hd : d.Kept kof) :
    (Dev.accessEnds d x r).Kept kof := by
  unfold Dev.accessEnds
  try dsimp only
  repeat' first
    | with_reducible assumption
    | intro _
    | with_reducible apply keep_ite
    | with_reducible apply Dev.inc_keeps
    | with_reducible apply Dev.ringSend_keeps
    | with_reducible apply Dev.emit_keeps
    | simp only [keep_mk]
    | dsimp only
    | split
    | with_reducible refine keep_fst (by with_reducible assumption) ?_

theorem Dev.runAccess_keeps {kof : KeptOf} (d : Dev) (x : Access) (hd : d.Kept kof) :
    (Dev.runAccess d x).Kept kof := by
  unfold Dev.runAccess
  try dsimp only
  repeat' first
    | with_reducible assumption
    | intro _
    | with_reducible apply keep_ite
    | with_reducible apply Dev.tryAccess_keeps
    | with_reducible apply Dev.accessEnds_keeps
    | simp only [keep_mk]
    | dsimp only
    | split
    | with_reducible refine keep_fst (by with_reducible assumption) ?_

theorem Dev.serveStalled_keeps {kof : KeptOf} (d : Dev) (hd : d.Kept kof) :
    (Dev.serveStalled d).Kept kof := by
  unfold Dev.serveStalled
  try dsimp only
  repeat' first
    | with_reducible assumption
    | intro _
    | with_reducible apply Dev.each_keeps
    | with_reducible apply Dev.runAccess_keeps
    | simp only [keep_mk]
    | dsimp only
    | split
    | with_reducible refine keep_fst (by with_reducible assumption) ?_

theorem Dev.narrowAccess_keeps {kof : KeptOf} (d : Dev) (x : Access) (hd : d.Kept kof) :
    (Dev.narrowAccess d x).Kept kof := by
  unfold Dev.narrowAccess
  try dsimp only
  repeat' first
    | with_reducible assumption
    | intro _
    | with_reducible apply keep_ite
    | with_reducible apply Dev.accErr_keeps
    | with_reducible apply Dev.accessEnds_keeps
    | simp only [keep_mk]
    | dsimp only
    | split
    | with_reducible refine keep_fst (by with_reducible assumption) ?_

theorem Dev.regWriteCmd_keeps {kof : KeptOf} (d : Dev) (path : Path) (a : Nat) (whole : Bool) (v : Word) (hd : d.Kept kof) :
    (Dev.regWriteCmd d path a whole v).Kept kof := by
  unfold Dev.regWriteCmd
  try dsimp only
  repeat' first
    | with_reducible assumption
    | intro _
    | with_reducible apply keep_ite
    | with_reducible apply Dev.runAccess_keeps
    | with_reducible apply Dev.narrowAccess_keeps
    | simp only [keep_mk]
    | dsimp only
    | split
    | with_reducible refine keep_fst (by with_reducible assumption) ?_

theorem Dev.regReadCmd_keeps {kof : KeptOf} (d : Dev) (path : Path) (a : Nat) (whole : Bool) (hd : d.Kept kof) :
    (Dev.regReadCmd d path a whole).Kept kof := by
  unfold Dev.regReadCmd
  try dsimp only
  repeat' first
    | with_reducible assumption
    | intro _
    | with_reducible apply keep_ite
    | with_reducible apply Dev.runAccess_keeps
    | with_reducible apply Dev.narrowAccess_keeps
    | simp only [keep_mk]
    | dsimp only
    | split
    | with_reducible refine keep_fst (by with_reducible assumption) ?_

theorem Dev.setWindowAddr_keeps {kof : KeptOf} (d : Dev) (w x : Nat) (hd : d.Kept kof) :
    (Dev.setWindowAddr d w x).Kept kof := by
  unfold Dev.setWindowAddr
  try dsimp only
  repeat' first
    | with_reducible assumption
    | intro _
    | simp only [keep_mk]
    | dsimp only
    | split
    | with_reducible refine keep_fst (by with_reducible assumption) ?_

theorem Dev.windowData_keeps {kof : KeptOf} (d : Dev) (w : Nat) (set : Option Word) (whole : Bool) (data : Option Word) (hd : d.Kept kof) :
    (Dev.windowData d w set whole data).Kept kof := by
  unfold Dev.windowData
  try dsimp only
  repeat' first
    | with_reducible assumption
    | intro _
    | with_reducible apply keep_ite
    | with_reducible apply Dev.setWindowAddr_keeps
    | with_reducible apply Dev.accErr_keeps
    | with_reducible apply Dev.emit_keeps
    | with_reducible apply Dev.runAccess_keeps
    | simp only [keep_mk]
    | dsimp only
    | split
    | with_reducible refine keep_fst (by with_reducible assumption) ?_

theorem Dev.windowRead_keeps {kof : KeptOf} (d : Dev) (w : Nat) (set : Option Word) (whole : Bool) (hd : d.Kept kof) :
    (Dev.windowRead d w set whole).Kept kof := by
  unfold Dev.windowRead
  try dsimp only
  repeat' first
    | with_reducible assumption
    | intro _
    | with_reducible apply Dev.windowData_keeps
    | simp only [keep_mk]
    | dsimp only
    | split
    | with_reducible refine keep_fst (by with_reducible assumption) ?_

theorem Dev.windowWrite_keeps {kof : KeptOf} (d : Dev) (w : Nat) (set : Option Word) (whole : Bool) (v : Word) (hd : d.Kept kof) :
    (Dev.windowWrite d w set whole v).Kept kof := by
  unfold Dev.windowWrite
  try dsimp only
  repeat' first
    | with_reducible assumption
    | intro _
    | with_reducible apply Dev.windowData_keeps
    | simp only [keep_mk]
    | dsimp only
    | split
    | with_reducible refine keep_fst (by with_reducible assumption) ?_

theorem Dev.regaccUpdate_keeps {kof : KeptOf} (d : Dev) (op addr : Nat) (v : Word) (hd : d.Kept kof) :
    (Dev.regaccUpdate d op addr v).Kept kof := by
  unfold Dev.regaccUpdate
  try dsimp only
  repeat' first
    | with_reducible assumption
    | intro _
    | with_reducible apply keep_ite
    | with_reducible apply Dev.runAccess_keeps
    | simp only [keep_mk]
    | dsimp only
    | split
    | with_reducible refine keep_fst (by with_reducible assumption) ?_

theorem Dev.regaccCapture_keeps {kof : KeptOf} (d : Dev) (hd : d.Kept kof) :
    (Dev.regaccCapture d).Kept kof := by
  unfold Dev.regaccCapture
  try dsimp only
  repeat' first
    | with_reducible assumption
    | intro _
    | with_reducible apply Dev.emit_keeps
    | simp only [keep_mk]
    | dsimp only
    | split
    | with_reducible refine keep_fst (by with_reducible assumption) ?_

theorem Dev.ringAccess'_keeps {kof : KeptOf} (d : Dev) (type : Nat) (f : Frame) (hd : d.Kept kof) :
    (Dev.ringAccess' d type f).Kept kof := by
  unfold Dev.ringAccess'
  try dsimp only
  repeat' first
    | with_reducible assumption
    | intro _
    | with_reducible apply keep_ite
    | with_reducible apply Dev.frameFor_keeps
    | with_reducible apply Dev.runAccess_keeps
    | simp only [keep_mk]
    | dsimp only
    | split
    | with_reducible refine keep_fst (by with_reducible assumption) ?_

theorem Dev.ringRead_keeps {kof : KeptOf} (d : Dev) (f : Frame) (hd : d.Kept kof) :
    (Dev.ringRead d f).Kept kof := by
  unfold Dev.ringRead
  try dsimp only
  repeat' first
    | with_reducible assumption
    | intro _
    | with_reducible apply Dev.ringAccess'_keeps
    | simp only [keep_mk]
    | dsimp only
    | split
    | with_reducible refine keep_fst (by with_reducible assumption) ?_

theorem Dev.ringWriteIn_keeps {kof : KeptOf} (d : Dev) (f : Frame) (hd : d.Kept kof) :
    (Dev.ringWriteIn d f).Kept kof := by
  unfold Dev.ringWriteIn
  try dsimp only
  repeat' first
    | with_reducible assumption
    | intro _
    | with_reducible apply Dev.ringAccess'_keeps
    | simp only [keep_mk]
    | dsimp only
    | split
    | with_reducible refine keep_fst (by with_reducible assumption) ?_

theorem Dev.fwServe_keeps {kof : KeptOf} (d : Dev) (op addr data : Nat) (hd : d.Kept kof) :
    (Dev.fwServe d op addr data).1.Kept kof := by
  unfold Dev.fwServe
  try dsimp only
  repeat' first
    | with_reducible assumption
    | intro _
    | with_reducible apply keep_ite
    | with_reducible apply Dev.tryAccess_keeps
    | simp only [keep_mk]
    | dsimp only
    | split
    | with_reducible refine keep_fst (by with_reducible assumption) ?_

theorem Dev.fwMsgIn_keeps {kof : KeptOf} (d : Dev) (q : Nat) (k : Packet) (hd : d.Kept kof) :
    (Dev.fwMsgIn d q k).Kept kof := by
  unfold Dev.fwMsgIn
  try dsimp only
  repeat' first
    | with_reducible assumption
    | intro _
    | with_reducible apply keep_ite
    | with_reducible apply Dev.takeDlv_keeps
    | with_reducible apply Dev.inc_keeps
    | with_reducible apply Dev.fwServe_keeps
    | with_reducible apply Dev.fwSend_keeps
    | simp only [keep_mk]
    | dsimp only
    | split
    | with_reducible refine keep_fst (by with_reducible assumption) ?_

theorem Dev.smbusRead_keeps {kof : KeptOf} (d : Dev) (adr code : Nat) (hd : d.Kept kof) :
    (Dev.smbusRead d adr code).Kept kof := by
  unfold Dev.smbusRead
  try dsimp only
  repeat' first
    | with_reducible assumption
    | intro _
    | with_reducible apply keep_ite
    | with_reducible apply Dev.emit_keeps
    | simp only [keep_mk]
    | dsimp only
    | split
    | with_reducible refine keep_fst (by with_reducible assumption) ?_

theorem Dev.configRequest_keeps {kof : KeptOf} (d : Dev) (q : Nat) (hd : d.Kept kof) :
    (Dev.configRequest d q).Kept kof := by
  unfold Dev.configRequest
  try dsimp only
  repeat' first
    | with_reducible assumption
    | intro _
    | with_reducible apply keep_ite
    | with_reducible apply Dev.emit_keeps
    | simp only [keep_mk]
    | dsimp only
    | split
    | with_reducible refine keep_fst (by with_reducible assumption) ?_

/-! Machine/Bars.lean -/

theorem Dev.msixWrite_keeps {kof : KeptOf} (d : Dev) (h f x : Nat) (hd : d.Kept kof) : ∀ (y0 : MsixWord),
    (Dev.msixWrite d h f x y0).Kept kof := by
  intro y0
  unfold Dev.msixWrite
  try dsimp only
  repeat' first
    | with_reducible assumption
    | intro _
    | with_reducible apply keep_ite
    | with_reducible apply Dev.msixSet_keeps
    | simp only [keep_mk]
    | dsimp only
    | split
    | with_reducible refine keep_fst (by with_reducible assumption) ?_

theorem Dev.doorbellWrite_keeps {kof : KeptOf} (d : Dev) (q f a : Nat) (whole : Bool) (v : Word) (hd : d.Kept kof) :
    (Dev.doorbellWrite d q f a whole v).Kept kof := by
  unfold Dev.doorbellWrite
  try dsimp only
  repeat' first
    | with_reducible assumption
    | intro _
    | with_reducible apply keep_ite
    | with_reducible apply Dev.producerDoorbell_keeps
    | with_reducible apply Dev.consumerDoorbell_keeps
    | simp only [keep_mk]
    | dsimp only
    | split
    | with_reducible refine keep_fst (by with_reducible assumption) ?_

theorem Dev.bar0_keeps {kof : KeptOf} (d : Dev) (h : Fin 5) (f : Fin 256) (b : Fin 3) (a : Nat) (data : Option Word) (hd : d.Kept kof) :
    (Dev.bar0 d h f b a data).Kept kof := by
  unfold Dev.bar0
  try dsimp only
  repeat' first
    | with_reducible assumption
    | intro _
    | with_reducible apply keep_ite
    | with_reducible apply Dev.emit_keeps
    | with_reducible apply Dev.windowData_keeps
    | with_reducible apply Dev.setWindowAddr_keeps
    | with_reducible apply Dev.runAccess_keeps
    | with_reducible apply Dev.msixWrite_keeps
    | simp only [keep_mk]
    | dsimp only
    | split
    | with_reducible refine keep_fst (by with_reducible assumption) ?_

theorem Dev.bar4_keeps {kof : KeptOf} (d : Dev) (q : Nat) (path : Path) (a : Nat) (whole : Bool) (data : Option Word) (hd : d.Kept kof) :
    (Dev.bar4 d q path a whole data).Kept kof := by
  unfold Dev.bar4
  try dsimp only
  repeat' first
    | with_reducible assumption
    | intro _
    | with_reducible apply keep_ite
    | with_reducible apply Dev.counterWrite_keeps
    | with_reducible apply Dev.emit_keeps
    | simp only [keep_mk]
    | dsimp only
    | split
    | with_reducible refine keep_fst (by with_reducible assumption) ?_

theorem Dev.barAccess_keeps {kof : KeptOf} (d : Dev) (h : Fin 5) (f : Fin 256) (b : Fin 3) (a : Nat) (whole : Bool) (data : Option Word) (hd : d.Kept kof) :
    (Dev.barAccess d h f b a whole data).Kept kof := by
  unfold Dev.barAccess
  try dsimp only
  repeat' first
    | with_reducible assumption
    | intro _
    | with_reducible apply keep_ite
    | with_reducible apply Dev.bar0_keeps
    | with_reducible apply Dev.narrowAccess_keeps
    | with_reducible apply Dev.doorbellWrite_keeps
    | with_reducible apply Dev.emit_keeps
    | with_reducible apply Dev.bar4_keeps
    | simp only [keep_mk]
    | dsimp only
    | split
    | with_reducible refine keep_fst (by with_reducible assumption) ?_

theorem Dev.registerWrite_keeps {kof : KeptOf} (d : Dev) (path : Path) (a : Nat) (whole : Bool) (v : Word) (hd : d.Kept kof) :
    (Dev.registerWrite d path a whole v).Kept kof := by
  unfold Dev.registerWrite
  try dsimp only
  repeat' first
    | with_reducible assumption
    | intro _
    | with_reducible apply Dev.barAccess_keeps
    | with_reducible apply Dev.regWriteCmd_keeps
    | simp only [keep_mk]
    | dsimp only
    | split
    | with_reducible refine keep_fst (by with_reducible assumption) ?_

theorem Dev.registerRead_keeps {kof : KeptOf} (d : Dev) (path : Path) (a : Nat) (whole : Bool) (hd : d.Kept kof) :
    (Dev.registerRead d path a whole).Kept kof := by
  unfold Dev.registerRead
  try dsimp only
  repeat' first
    | with_reducible assumption
    | intro _
    | with_reducible apply Dev.barAccess_keeps
    | with_reducible apply Dev.regReadCmd_keeps
    | simp only [keep_mk]
    | dsimp only
    | split
    | with_reducible refine keep_fst (by with_reducible assumption) ?_

/-! Machine/MeshCmds.lean -/

theorem Dev.meshEcc_keeps {kof : KeptOf} (d : Dev) (q ecc : Nat) (hd : d.Kept kof) :
    (Dev.meshEcc d q ecc).Kept kof := by
  unfold Dev.meshEcc
  try dsimp only
  repeat' first
    | with_reducible assumption
    | intro _
    | with_reducible apply keep_ite
    | with_reducible apply Dev.inc_keeps
    | with_reducible apply Dev.raise_keeps
    | simp only [keep_mk]
    | dsimp only
    | split
    | with_reducible refine keep_fst (by with_reducible assumption) ?_

theorem Dev.meshAnswered_keeps {kof : KeptOf} (d : Dev) (q : Nat) (hd : d.Kept kof) :
    (Dev.meshAnswered d q).Kept kof := by
  unfold Dev.meshAnswered
  try dsimp only
  repeat' first
    | with_reducible assumption
    | intro _
    | with_reducible apply Dev.put_keeps
    | simp only [keep_mk]
    | dsimp only
    | split
    | with_reducible refine keep_fst (by with_reducible assumption) ?_

theorem Dev.qdcAccesses_keeps {kof : KeptOf} (d : Dev) (m : MeshMsg) (hd : d.Kept kof) :
    (Dev.qdcAccesses d m).Kept kof := by
  unfold Dev.qdcAccesses
  try dsimp only
  repeat' first
    | with_reducible assumption
    | intro _
    | with_reducible apply keep_ite
    | with_reducible apply Dev.event_keeps
    | simp only [keep_mk]
    | dsimp only
    | split
    | with_reducible refine keep_fst (by with_reducible assumption) ?_

theorem Dev.gatewayFlits_keeps {kof : KeptOf} (d : Dev) (l : List Nat) (n : Nat) (hd : d.Kept kof) :
    (Dev.gatewayFlits d l n).Kept kof := by
  unfold Dev.gatewayFlits
  try dsimp only
  repeat' first
    | with_reducible assumption
    | intro _
    | with_reducible apply Dev.each_keeps
    | with_reducible apply Dev.event_keeps
    | simp only [keep_mk]
    | dsimp only
    | split
    | with_reducible refine keep_fst (by with_reducible assumption) ?_

theorem Dev.meshServe_keeps {kof : KeptOf} (d : Dev) (m : MeshMsg) (ecc : Nat) (hd : d.Kept kof) :
    (Dev.meshServe d m ecc).Kept kof := by
  unfold Dev.meshServe
  try dsimp only
  repeat' first
    | with_reducible assumption
    | intro _
    | with_reducible apply keep_ite
    | with_reducible apply Dev.meshEcc_keeps
    | with_reducible apply Dev.qdcAccesses_keeps
    | with_reducible apply Dev.accessEnds_keeps
    | with_reducible apply Dev.runAccess_keeps
    | with_reducible apply Dev.meshAnswered_keeps
    | simp only [keep_mk]
    | dsimp only
    | split
    | with_reducible refine keep_fst (by with_reducible assumption) ?_

theorem Dev.gatewayRefuses_keeps {kof : KeptOf} (d : Dev) (m : MeshMsg) (hd : d.Kept kof) :
    (Dev.gatewayRefuses d m).Kept kof := by
  unfold Dev.gatewayRefuses
  try dsimp only
  repeat' first
    | with_reducible assumption
    | intro _
    | with_reducible apply keep_ite
    | with_reducible apply Dev.inc_keeps
    | with_reducible apply Dev.accErr_keeps
    | with_reducible apply Dev.accessEnds_keeps
    | with_reducible apply Dev.when_keeps
    | with_reducible apply Dev.meshAnswered_keeps
    | simp only [keep_mk]
    | dsimp only
    | split
    | with_reducible refine keep_fst (by with_reducible assumption) ?_

theorem Dev.meshCross_keeps {kof : KeptOf} (d : Dev) (m : MeshMsg) (ecc : Nat) (hd : d.Kept kof) :
    (Dev.meshCross d m ecc).Kept kof := by
  unfold Dev.meshCross
  try dsimp only
  repeat' first
    | with_reducible assumption
    | intro _
    | with_reducible apply keep_ite
    | with_reducible apply Dev.gatewayRefuses_keeps
    | with_reducible apply Dev.inc_keeps
    | with_reducible apply Dev.gatewayFlits_keeps
    | with_reducible apply Dev.arrivalDie_keeps
    | with_reducible apply Dev.wakeDie_keeps
    | with_reducible apply Dev.meshServe_keeps
    | simp only [keep_mk]
    | dsimp only
    | split
    | with_reducible refine keep_fst (by with_reducible assumption) ?_

theorem Dev.meshOffer_keeps {kof : KeptOf} (d : Dev) (m : MeshMsg) (counted : Bool) (ecc : Nat) (hd : d.Kept kof) :
    (Dev.meshOffer d m counted ecc).Kept kof := by
  unfold Dev.meshOffer
  try dsimp only
  repeat' first
    | with_reducible assumption
    | intro _
    | with_reducible apply keep_ite
    | with_reducible apply Dev.meshWait_keeps
    | with_reducible apply Dev.meshInject_keeps
    | with_reducible apply Dev.meshServe_keeps
    | with_reducible apply Dev.meshCross_keeps
    | simp only [keep_mk]
    | dsimp only
    | split
    | with_reducible refine keep_fst (by with_reducible assumption) ?_

theorem Dev.meshMessage_keeps {kof : KeptOf} (d : Dev) (m : MeshMsg) (ecc : Nat) (hd : d.Kept kof) :
    (Dev.meshMessage d m ecc).Kept kof := by
  unfold Dev.meshMessage
  try dsimp only
  repeat' first
    | with_reducible assumption
    | intro _
    | with_reducible apply Dev.meshOffer_keeps
    | simp only [keep_mk]
    | dsimp only
    | split
    | with_reducible refine keep_fst (by with_reducible assumption) ?_

theorem Dev.gatewayMessage_keeps {kof : KeptOf} (d : Dev) (m : MeshMsg) (ecc : Nat) (hd : d.Kept kof) :
    (Dev.gatewayMessage d m ecc).Kept kof := by
  unfold Dev.gatewayMessage
  try dsimp only
  repeat' first
    | with_reducible assumption
    | intro _
    | with_reducible apply keep_ite
    | with_reducible apply Dev.meshOffer_keeps
    | simp only [keep_mk]
    | dsimp only
    | split
    | with_reducible refine keep_fst (by with_reducible assumption) ?_

theorem Dev.meshRetry_keeps {kof : KeptOf} (d : Dev) (p : MeshMsg → Bool) (hd : d.Kept kof) :
    (Dev.meshRetry d p).Kept kof := by
  unfold Dev.meshRetry
  try dsimp only
  repeat' first
    | with_reducible assumption
    | intro _
    | with_reducible apply Dev.each_keeps
    | with_reducible apply Dev.meshOffer_keeps
    | simp only [keep_mk]
    | dsimp only
    | split
    | with_reducible refine keep_fst (by with_reducible assumption) ?_

theorem Dev.switchWrite_keeps {kof : KeptOf} (d : Dev) (q : Nat) (v : Word) (hd : d.Kept kof) :
    (Dev.switchWrite d q v).Kept kof := by
  unfold Dev.switchWrite
  try dsimp only
  repeat' first
    | with_reducible assumption
    | intro _
    | with_reducible apply Dev.nocModectl_keeps
    | simp only [keep_mk]
    | dsimp only
    | split
    | with_reducible refine keep_fst (by with_reducible assumption) ?_

theorem Dev.holdEnds_keeps {kof : KeptOf} (d : Dev) (q : Nat) (hd : d.Kept kof) :
    (Dev.holdEnds d q).Kept kof := by
  unfold Dev.holdEnds
  try dsimp only
  repeat' first
    | with_reducible assumption
    | intro _
    | with_reducible apply Dev.meshRetry_keeps
    | with_reducible apply Dev.each_keeps
    | with_reducible apply Dev.drainQueue_keeps
    | simp only [keep_mk]
    | dsimp only
    | split
    | with_reducible refine keep_fst (by with_reducible assumption) ?_

theorem Dev.meshQuiesced_keeps {kof : KeptOf} (d : Dev) (q : Nat) (hd : d.Kept kof) :
    (Dev.meshQuiesced d q).Kept kof := by
  unfold Dev.meshQuiesced
  try dsimp only
  repeat' first
    | with_reducible assumption
    | intro _
    | with_reducible apply keep_ite
    | with_reducible apply Dev.meshSwitched_keeps
    | with_reducible apply Dev.holdEnds_keeps
    | simp only [keep_mk]
    | dsimp only
    | split
    | with_reducible refine keep_fst (by with_reducible assumption) ?_

theorem Dev.holdmaxPasses_keeps {kof : KeptOf} (d : Dev) (q : Nat) (hd : d.Kept kof) :
    (Dev.holdmaxPasses d q).Kept kof := by
  unfold Dev.holdmaxPasses
  try dsimp only
  repeat' first
    | with_reducible assumption
    | intro _
    | with_reducible apply keep_ite
    | with_reducible apply Dev.switchAbandoned_keeps
    | with_reducible apply Dev.holdEnds_keeps
    | simp only [keep_mk]
    | dsimp only
    | split
    | with_reducible refine keep_fst (by with_reducible assumption) ?_

theorem Dev.regulatorRelease_keeps {kof : KeptOf} (d : Dev) (q node cls : Nat) (hd : d.Kept kof) :
    (Dev.regulatorRelease d q node cls).Kept kof := by
  unfold Dev.regulatorRelease
  try dsimp only
  repeat' first
    | with_reducible assumption
    | intro _
    | with_reducible apply Dev.meshRetry_keeps
    | simp only [keep_mk]
    | dsimp only
    | split
    | with_reducible refine keep_fst (by with_reducible assumption) ?_

/-! Machine/Boot.lean -/

theorem Dev.cfgPair_keeps {kof : KeptOf} (d : Dev) (x : Nat × Nat) (hd : d.Kept kof) (e : Dev) (h : d.cfgPair x = some e) :
    e.Kept kof := by
  unfold Dev.cfgPair at h
  dsimp only at h
  split at h
  · cases h
  · split at h
    · cases h
    · cases h
      exact Dev.writeAt_keeps _ _ _ _ hd

theorem Dev.cfgPairs_keeps {kof : KeptOf} (l : List (Nat × Nat)) (d : Dev) (hd : d.Kept kof) (e : Dev) (h : d.cfgPairs l = some e) :
    e.Kept kof := by
  induction l generalizing d with
  | nil => cases h; exact hd
  | cons x l ih =>
    unfold Dev.cfgPairs at h
    split at h
    · next y hy => exact ih y (Dev.cfgPair_keeps d x hd y hy) h
    · cases h

theorem Dev.cfgFabric_keeps {kof : KeptOf} (d : Dev) (r : CfgRec) (hd : d.Kept kof) (e : Dev) (h : d.cfgFabric r = some e) :
    e.Kept kof := by
  unfold Dev.cfgFabric at h
  dsimp only at h
  split at h
  · cases h
  · cases h
    refine Dev.put_keeps _ _ _ _ ?_
    simpa only [keep_mk] using hd

theorem Dev.cfgRecord_keeps {kof : KeptOf} (d : Dev) (r : CfgRec) (hd : d.Kept kof) (e : Dev) (h : d.cfgRecord r = some e) :
    e.Kept kof := by
  unfold Dev.cfgRecord at h
  split at h
  · exact Dev.cfgFabric_keeps d r hd e h
  · exact Dev.cfgPairs_keeps _ d hd e h
  · cases h
    simpa only [keep_mk] using hd
  · cases h
    exact Dev.putB_keeps _ _ _ _ (Dev.put_keeps _ _ _ _ hd)
  · cases h; exact hd
  · split at h
    · cases h
    · cases h; exact hd

theorem Dev.cfgApply_keeps {kof : KeptOf} (l : List CfgRec) (d : Dev) (hd : d.Kept kof) (e : Dev) (h : d.cfgApply l = some e) :
    e.Kept kof := by
  induction l generalizing d with
  | nil => cases h; exact hd
  | cons x l ih =>
    unfold Dev.cfgApply at h
    split at h
    · next y hy => exact ih y (Dev.cfgRecord_keeps d x hd y hy) h
    · cases h

theorem Dev.cfgRun_keeps {kof : KeptOf} (d : Dev) (l : List Byte) (hd : d.Kept kof) (e : Dev) (h : d.cfgRun l = some e) :
    e.Kept kof := by
  unfold Dev.cfgRun at h
  split at h
  · split at h
    · exact Dev.cfgApply_keeps _ d hd e h
    · cases h
  · cases h

theorem Dev.slotBoots_keeps {kof : KeptOf} (d : Dev) (ver : Nat) (hd : d.Kept kof) :
    (Dev.slotBoots d ver).Kept kof := by
  unfold Dev.slotBoots
  try dsimp only
  repeat' first
    | with_reducible assumption
    | intro _
    | with_reducible apply keep_ite
    | with_reducible apply Dev.put_keeps
    | with_reducible apply Dev.putB_keeps
    | simp only [keep_mk]
    | dsimp only
    | split
    | with_reducible refine keep_fst (by with_reducible assumption) ?_

theorem Dev.cfgFails_keeps {kof : KeptOf} (d : Dev) (hd : d.Kept kof) :
    (Dev.cfgFails d).Kept kof := by
  unfold Dev.cfgFails
  try dsimp only
  repeat' first
    | with_reducible assumption
    | intro _
    | with_reducible apply Dev.slotFails_keeps
    | with_reducible apply Dev.reset_keeps
    | simp only [keep_mk]
    | dsimp only
    | split
    | with_reducible refine keep_fst (by with_reducible assumption) ?_

theorem Dev.zoruriLoaded_keeps {kof : KeptOf} (d : Dev) (ok : Bool) (hd : d.Kept kof) :
    (Dev.zoruriLoaded d ok).Kept kof := by
  unfold Dev.zoruriLoaded
  try dsimp only
  repeat' first
    | with_reducible assumption
    | intro _
    | with_reducible apply keep_ite
    | with_reducible apply Dev.nextCandidate_keeps
    | with_reducible apply Dev.slotBoots_keeps
    | with_reducible apply Dev.cfgFails_keeps
    | simp only [keep_mk]
    | with_reducible exact Dev.cfgRun_keeps _ _ hd _ (by assumption)
    | dsimp only
    | split
    | with_reducible refine keep_fst (by with_reducible assumption) ?_

theorem Dev.calibrationDone_keeps {kof : KeptOf} (d : Dev) (q : Nat) (ports : List Nat) (lanes brgh brgv : Nat) (banks chans : List Nat) (tables other : Bool) (hd : d.Kept kof) :
    (Dev.calibrationDone d q ports lanes brgh brgv banks chans tables other).Kept kof := by
  unfold Dev.calibrationDone
  try dsimp only
  repeat' first
    | with_reducible assumption
    | intro _
    | with_reducible apply keep_ite
    | with_reducible apply Dev.calibrated_keeps
    | with_reducible apply Dev.put_keeps
    | with_reducible apply Dev.portsReturn_keeps
    | simp only [keep_mk]
    | dsimp only
    | split
    | with_reducible refine keep_fst (by with_reducible assumption) ?_

/-! Machine/Run.lean -/

theorem Dev.settleAll_keeps {kof : KeptOf} (d : Dev) (hd : d.Kept kof) :
    (Dev.settleAll d).Kept kof := by
  unfold Dev.settleAll
  try dsimp only
  repeat' first
    | with_reducible assumption
    | intro _
    | with_reducible apply Dev.settle_keeps
    | with_reducible apply Dev.ergSettle_keeps
    | with_reducible apply Dev.epochWork_keeps
    | with_reducible apply Dev.serveStalled_keeps
    | with_reducible apply Dev.kilnWatch_keeps
    | simp only [keep_mk]
    | dsimp only
    | split
    | with_reducible refine keep_fst (by with_reducible assumption) ?_

theorem Dev.meshFree_keeps {kof : KeptOf} (d : Dev) (q : Nat) (g : Dev → Dev) (hd : d.Kept kof) (hg : ∀ d, d.Kept kof → (g d).Kept kof) :
    (Dev.meshFree d q g).Kept kof := by
  unfold Dev.meshFree
  try dsimp only
  repeat' first
    | with_reducible assumption
    | intro _
    | with_reducible apply keep_ite
    | simp only [keep_mk]
    | with_reducible apply hg
    | dsimp only
    | split
    | with_reducible refine keep_fst (by with_reducible assumption) ?_

theorem Dev.hostTrained_keeps {kof : KeptOf} (d : Dev) (q rate width : Nat) (flit sris : Bool) (hd : d.Kept kof) :
    (Dev.hostTrained d q rate width flit sris).Kept kof := by
  unfold Dev.hostTrained
  try dsimp only
  repeat' first
    | with_reducible assumption
    | intro _
    | with_reducible apply keep_ite
    | with_reducible apply Dev.hostLinkUp_keeps
    | simp only [keep_mk]
    | dsimp only
    | split
    | with_reducible refine keep_fst (by with_reducible assumption) ?_

theorem Dev.resetContactAny_keeps {kof : KeptOf} (d : Dev) (ns : Nat) (hd : d.Kept kof) :
    (Dev.resetContactAny d ns).Kept kof := by
  unfold Dev.resetContactAny
  try dsimp only
  repeat' first
    | with_reducible assumption
    | intro _
    | with_reducible apply keep_ite
    | with_reducible apply Dev.resetContact_keeps
    | simp only [keep_mk]
    | dsimp only
    | split
    | with_reducible refine keep_fst (by with_reducible assumption) ?_

end Sys2Proof.Machine
end

