-- ==== Sys2Proof/Laws/KeepExec.lean ====
section
/-! SUPPORT. What every meaning keeps: when it answers a next state, the queue is as before, and so is what `Dev.Kept` speaks of. -/

set_option Elab.async false

namespace Sys2Proof.Machine

/-- What `run` can do: nothing where the module is off, else the effect and what follows it. -/
theorem State.run_cases {s t : State} {f : Dev → Dev} (h : s.run f = .next t) :
    (s.pwr.off = 0 ∧ t = s.withDev (f s.toDev).settleAll) ∨ (s.pwr.off ≠ 0 ∧ t = s) := by
  unfold State.run at h
  split at h
  · next h0 => exact .inl ⟨h0, (Host.Outcome.next.inj h).symm⟩
  · next h0 => exact .inr ⟨h0, (Host.Outcome.next.inj h).symm⟩

/-- `run` answers a next state. -/
theorem State.run_next (s : State) (f : Dev → Dev) : ∃ t, s.run f = .next t := by
  unfold State.run; split <;> exact ⟨_, rfl⟩

/-- `runOasis` answers the effect and, with power, what follows it. -/
theorem State.runOasis_cases {s t : State} {f : Dev → Dev} (h : s.runOasis f = .next t) :
    t = s.withDev (if (f s.toDev).pwr.off = 0 then (f s.toDev).settleAll else f s.toDev) :=
  (Host.Outcome.next.inj h).symm

theorem State.run_keeps {kof : KeptOf} {s t : State} {f : Dev → Dev} (h : s.run f = .next t) (hd : s.toDev.Kept kof)
    (hf : ∀ d, d.Kept kof → (f d).Kept kof) : t.pending = s.pending ∧ t.toDev.Kept kof := by
  rcases State.run_cases h with ⟨_, rfl⟩ | ⟨_, rfl⟩
  · have hk := Dev.settleAll_keeps _ (hf _ hd)
    generalize (f s.toDev).settleAll = e at *
    exact ⟨rfl, hk⟩
  · exact ⟨rfl, hd⟩

theorem State.runOasis_keeps {kof : KeptOf} {s t : State} {f : Dev → Dev} (h : s.runOasis f = .next t) (hd : s.toDev.Kept kof)
    (hf : ∀ d, d.Kept kof → (f d).Kept kof) : t.pending = s.pending ∧ t.toDev.Kept kof := by
  have e := State.runOasis_cases h
  subst e
  refine ⟨rfl, ?_⟩
  show (if (f s.toDev).pwr.off = 0 then (f s.toDev).settleAll else f s.toDev).Kept kof
  split
  · exact Dev.settleAll_keeps _ (hf _ hd)
  · exact hf _ hd

theorem State.runHost_keeps {kof : KeptOf} {s t : State} {f : Dev → Dev} (h : s.runHost f = .next t) (hd : s.toDev.Kept kof)
    (hf : ∀ d, d.Kept kof → (f d).Kept kof) : t.pending = s.pending ∧ t.toDev.Kept kof := by
  refine State.run_keeps h hd (fun d hd => ?_)
  split
  · exact hd
  · exact hf d hd

theorem execRegisterWrite_keeps {kof : KeptOf} (via : Via) (a : Nat) (v : Word) (s : State) (s' : State) (hd : s.toDev.Kept kof) (h : execRegisterWrite via a v s = .next s') :
    s'.pending = s.pending ∧ s'.toDev.Kept kof := by
  refine State.run_keeps h hd (fun d hd => ?_)
  repeat' first
    | with_reducible assumption
    | intro _
    | with_reducible apply Dev.registerWrite_keeps
    | simp only [keep_mk]
    | dsimp only
    | split

theorem execRcRead_keeps {kof : KeptOf} (via : Via) (a : Nat) (s : State) (s' : State) (hd : s.toDev.Kept kof) (h : execRcRead via a s = .next s') :
    s'.pending = s.pending ∧ s'.toDev.Kept kof := by
  refine State.run_keeps h hd (fun d hd => ?_)
  repeat' first
    | with_reducible assumption
    | intro _
    | with_reducible apply Dev.registerRead_keeps
    | simp only [keep_mk]
    | dsimp only
    | split

theorem execModuleReset_keeps {kof : KeptOf} (ns : Nat) (s : State) (s' : State) (hd : s.toDev.Kept kof) (h : execModuleReset ns s = .next s') :
    s'.pending = s.pending ∧ s'.toDev.Kept kof := by
  refine State.runOasis_keeps h hd (fun d hd => ?_)
  repeat' first
    | with_reducible assumption
    | intro _
    | with_reducible apply Dev.resetContactAny_keeps
    | simp only [keep_mk]
    | dsimp only
    | split

theorem execDieReset_keeps {kof : KeptOf} (q : Fin 4) (s : State) (s' : State) (hd : s.toDev.Kept kof) (h : execDieReset q s = .next s') :
    s'.pending = s.pending ∧ s'.toDev.Kept kof := by
  refine State.run_keeps h hd (fun d hd => ?_)
  repeat' first
    | with_reducible assumption
    | intro _
    | with_reducible apply Dev.reset_keeps
    | simp only [keep_mk]
    | dsimp only
    | split

theorem execRegionReset_keeps {kof : KeptOf} (m : Fin 16) (s : State) (s' : State) (hd : s.toDev.Kept kof) (h : execRegionReset m s = .next s') :
    s'.pending = s.pending ∧ s'.toDev.Kept kof := by
  refine State.run_keeps h hd (fun d hd => ?_)
  repeat' first
    | with_reducible assumption
    | intro _
    | with_reducible apply Dev.reset_keeps
    | simp only [keep_mk]
    | dsimp only
    | split

theorem execClusterReset_keeps {kof : KeptOf} (c : Fin 64) (s : State) (s' : State) (hd : s.toDev.Kept kof) (h : execClusterReset c s = .next s') :
    s'.pending = s.pending ∧ s'.toDev.Kept kof := by
  refine State.run_keeps h hd (fun d hd => ?_)
  repeat' first
    | with_reducible assumption
    | intro _
    | with_reducible apply Dev.reset_keeps
    | simp only [keep_mk]
    | dsimp only
    | split

theorem execUnitReset_keeps {kof : KeptOf} (q : Fin 4) (ukind : Nat) (n : Nat) (s : State) (s' : State) (hd : s.toDev.Kept kof) (h : execUnitReset q ukind n s = .next s') :
    s'.pending = s.pending ∧ s'.toDev.Kept kof := by
  refine State.run_keeps h hd (fun d hd => ?_)
  repeat' first
    | with_reducible assumption
    | intro _
    | with_reducible apply Dev.unitReset_keeps
    | simp only [keep_mk]
    | dsimp only
    | split

theorem execHostPortReset_keeps {kof : KeptOf} (q : Fin 4) (s : State) (s' : State) (hd : s.toDev.Kept kof) (h : execHostPortReset q s = .next s') :
    s'.pending = s.pending ∧ s'.toDev.Kept kof := by
  refine State.run_keeps h hd (fun d hd => ?_)
  repeat' first
    | with_reducible assumption
    | intro _
    | with_reducible apply Dev.hostPerst_keeps
    | simp only [keep_mk]
    | dsimp only
    | split

theorem execMgmtPortReset_keeps {kof : KeptOf} (s : State) (s' : State) (hd : s.toDev.Kept kof) (h : execMgmtPortReset s = .next s') :
    s'.pending = s.pending ∧ s'.toDev.Kept kof := by
  refine State.run_keeps h hd (fun d hd => ?_)
  repeat' first
    | with_reducible assumption
    | intro _
    | with_reducible apply Dev.mgmtReset_keeps
    | simp only [keep_mk]
    | dsimp only
    | split

theorem execResetComplete_keeps {kof : KeptOf} (level : Nat) (q : Fin 4) (ukind : Nat) (n : Nat) (s : State) (s' : State) (hd : s.toDev.Kept kof) (h : execResetComplete level q ukind n s = .next s') :
    s'.pending = s.pending ∧ s'.toDev.Kept kof := by
  refine State.run_keeps h hd (fun d hd => ?_)
  repeat' first
    | with_reducible assumption
    | intro _
    | with_reducible apply Dev.resetComplete_keeps
    | simp only [keep_mk]
    | dsimp only
    | split

theorem execBridgeDown_keeps {kof : KeptOf} (q : Fin 4) (e : Fin 2) (s : State) (s' : State) (hd : s.toDev.Kept kof) (h : execBridgeDown q e s = .next s') :
    s'.pending = s.pending ∧ s'.toDev.Kept kof := by
  refine State.run_keeps h hd (fun d hd => ?_)
  repeat' first
    | with_reducible assumption
    | intro _
    | with_reducible apply Dev.takeBridgeDown_keeps
    | simp only [keep_mk]
    | dsimp only
    | split

theorem execBridgeFlitArrival_keeps {kof : KeptOf} (q : Fin 4) (e : Fin 2) (s : State) (s' : State) (hd : s.toDev.Kept kof) (h : execBridgeFlitArrival q e s = .next s') :
    s'.pending = s.pending ∧ s'.toDev.Kept kof := by
  refine State.run_keeps h hd (fun d hd => ?_)
  repeat' first
    | with_reducible assumption
    | intro _
    | with_reducible apply Dev.pumpAll_keeps
    | with_reducible apply Dev.bridgeArrive_keeps
    | simp only [keep_mk]
    | dsimp only
    | split

theorem execClusterMapWrite_keeps {kof : KeptOf} (c : Fin 64) (v : Word) (s : State) (s' : State) (hd : s.toDev.Kept kof) (h : execClusterMapWrite c v s = .next s') :
    s'.pending = s.pending ∧ s'.toDev.Kept kof := by
  refine State.run_keeps h hd (fun d hd => ?_)
  repeat' first
    | with_reducible assumption
    | intro _
    | with_reducible apply Dev.clusterMap_keeps
    | simp only [keep_mk]
    | dsimp only
    | split

theorem execTxeqWrite_keeps {kof : KeptOf} (l : Fin 512) (v : Word) (s : State) (s' : State) (hd : s.toDev.Kept kof) (h : execTxeqWrite l v s = .next s') :
    s'.pending = s.pending ∧ s'.toDev.Kept kof := by
  refine State.run_keeps h hd (fun d hd => ?_)
  repeat' first
    | with_reducible assumption
    | intro _
    | with_reducible apply Dev.txeq_keeps
    | simp only [keep_mk]
    | dsimp only
    | split

theorem execLaneCtrlWrite_keeps {kof : KeptOf} (l : Fin 512) (v : Word) (s : State) (s' : State) (hd : s.toDev.Kept kof) (h : execLaneCtrlWrite l v s = .next s') :
    s'.pending = s.pending ∧ s'.toDev.Kept kof := by
  refine State.run_keeps h hd (fun d hd => ?_)
  repeat' first
    | with_reducible assumption
    | intro _
    | with_reducible apply Dev.laneCtrl_keeps
    | simp only [keep_mk]
    | dsimp only
    | split

theorem execLaneTrainingFrame_keeps {kof : KeptOf} (l : Fin 512) (ctl : Nat) (s : State) (s' : State) (hd : s.toDev.Kept kof) (h : execLaneTrainingFrame l ctl s = .next s') :
    s'.pending = s.pending ∧ s'.toDev.Kept kof := by
  refine State.run_keeps h hd (fun d hd => ?_)
  repeat' first
    | with_reducible assumption
    | intro _
    | with_reducible apply Dev.trainingFrame_keeps
    | simp only [keep_mk]
    | dsimp only
    | split

theorem execAcquireLock_keeps {kof : KeptOf} (l : Fin 512) (inverted : Bool) (peaking : Fin 16) (s : State) (s' : State) (hd : s.toDev.Kept kof) (h : execAcquireLock l inverted peaking s = .next s') :
    s'.pending = s.pending ∧ s'.toDev.Kept kof := by
  refine State.run_keeps h hd (fun d hd => ?_)
  repeat' first
    | with_reducible assumption
    | intro _
    | with_reducible apply Dev.acquireLock_keeps
    | simp only [keep_mk]
    | dsimp only
    | split

theorem execAcquireTimeout_keeps {kof : KeptOf} (l : Fin 512) (s : State) (s' : State) (hd : s.toDev.Kept kof) (h : execAcquireTimeout l s = .next s') :
    s'.pending = s.pending ∧ s'.toDev.Kept kof := by
  refine State.run_keeps h hd (fun d hd => ?_)
  repeat' first
    | with_reducible assumption
    | intro _
    | with_reducible apply Dev.acquireTimeout_keeps
    | simp only [keep_mk]
    | dsimp only
    | split

theorem execAdaptConverged_keeps {kof : KeptOf} (l : Fin 512) (tap : Fin 256) (s : State) (s' : State) (hd : s.toDev.Kept kof) (h : execAdaptConverged l tap s = .next s') :
    s'.pending = s.pending ∧ s'.toDev.Kept kof := by
  refine State.run_keeps h hd (fun d hd => ?_)
  repeat' first
    | with_reducible assumption
    | intro _
    | with_reducible apply Dev.adaptConverged_keeps
    | simp only [keep_mk]
    | dsimp only
    | split

theorem execAdaptTimeout_keeps {kof : KeptOf} (l : Fin 512) (s : State) (s' : State) (hd : s.toDev.Kept kof) (h : execAdaptTimeout l s = .next s') :
    s'.pending = s.pending ∧ s'.toDev.Kept kof := by
  refine State.run_keeps h hd (fun d hd => ?_)
  repeat' first
    | with_reducible assumption
    | intro _
    | with_reducible apply Dev.adaptTimeout_keeps
    | simp only [keep_mk]
    | dsimp only
    | split

theorem execLossOfSignal_keeps {kof : KeptOf} (l : Fin 512) (signal : Bool) (s : State) (s' : State) (hd : s.toDev.Kept kof) (h : execLossOfSignal l signal s = .next s') :
    s'.pending = s.pending ∧ s'.toDev.Kept kof := by
  refine State.run_keeps h hd (fun d hd => ?_)
  repeat' first
    | with_reducible assumption
    | intro _
    | with_reducible apply Dev.lossOfSignal_keeps
    | simp only [keep_mk]
    | dsimp only
    | split

theorem execRxQuietEntry_keeps {kof : KeptOf} (l : Fin 512) (s : State) (s' : State) (hd : s.toDev.Kept kof) (h : execRxQuietEntry l s = .next s') :
    s'.pending = s.pending ∧ s'.toDev.Kept kof := by
  refine State.run_keeps h hd (fun d hd => ?_)
  repeat' first
    | with_reducible assumption
    | intro _
    | with_reducible apply Dev.rxQuiet_keeps
    | simp only [keep_mk]
    | dsimp only
    | split

theorem execRelock_keeps {kof : KeptOf} (l : Fin 512) (s : State) (s' : State) (hd : s.toDev.Kept kof) (h : execRelock l s = .next s') :
    s'.pending = s.pending ∧ s'.toDev.Kept kof := by
  refine State.run_keeps h hd (fun d hd => ?_)
  repeat' first
    | with_reducible assumption
    | intro _
    | with_reducible apply Dev.relocked_keeps
    | simp only [keep_mk]
    | dsimp only
    | split

theorem execRelockTimeout_keeps {kof : KeptOf} (l : Fin 512) (s : State) (s' : State) (hd : s.toDev.Kept kof) (h : execRelockTimeout l s = .next s') :
    s'.pending = s.pending ∧ s'.toDev.Kept kof := by
  refine State.run_keeps h hd (fun d hd => ?_)
  repeat' first
    | with_reducible assumption
    | intro _
    | with_reducible apply Dev.relockFails_keeps
    | simp only [keep_mk]
    | dsimp only
    | split

theorem execTxQuietEntry_keeps {kof : KeptOf} (p : Fin 512) (s : State) (s' : State) (hd : s.toDev.Kept kof) (h : execTxQuietEntry p s = .next s') :
    s'.pending = s.pending ∧ s'.toDev.Kept kof := by
  refine State.run_keeps h hd (fun d hd => ?_)
  repeat' first
    | with_reducible assumption
    | intro _
    | with_reducible apply Dev.txQuiet_keeps
    | simp only [keep_mk]
    | dsimp only
    | split

theorem execTxWakeDone_keeps {kof : KeptOf} (p : Fin 512) (s : State) (s' : State) (hd : s.toDev.Kept kof) (h : execTxWakeDone p s = .next s') :
    s'.pending = s.pending ∧ s'.toDev.Kept kof := by
  refine State.run_keeps h hd (fun d hd => ?_)
  repeat' first
    | with_reducible assumption
    | intro _
    | with_reducible apply Dev.txWake_keeps
    | simp only [keep_mk]
    | dsimp only
    | split

theorem execMaintBurst_keeps {kof : KeptOf} (p : Fin 512) (s : State) (s' : State) (hd : s.toDev.Kept kof) (h : execMaintBurst p s = .next s') :
    s'.pending = s.pending ∧ s'.toDev.Kept kof := by
  refine State.run_keeps h hd (fun d hd => ?_)
  repeat' first
    | with_reducible assumption
    | intro _
    | with_reducible apply Dev.maintBurst_keeps
    | simp only [keep_mk]
    | dsimp only
    | split

theorem execFecCodeword_keeps {kof : KeptOf} (p : Fin 512) (result : Nat) (flits : Nat) (s : State) (s' : State) (hd : s.toDev.Kept kof) (h : execFecCodeword p result flits s = .next s') :
    s'.pending = s.pending ∧ s'.toDev.Kept kof := by
  refine State.run_keeps h hd (fun d hd => ?_)
  repeat' first
    | with_reducible assumption
    | intro _
    | with_reducible apply Dev.codeword_keeps
    | simp only [keep_mk]
    | dsimp only
    | split

theorem execParityError_keeps {kof : KeptOf} (p : Fin 512) (s : State) (s' : State) (hd : s.toDev.Kept kof) (h : execParityError p s = .next s') :
    s'.pending = s.pending ∧ s'.toDev.Kept kof := by
  refine State.run_keeps h hd (fun d hd => ?_)
  repeat' first
    | with_reducible assumption
    | intro _
    | with_reducible apply Dev.parityError_keeps
    | simp only [keep_mk]
    | dsimp only
    | split

theorem execLoopbackWrite_keeps {kof : KeptOf} (p : Fin 512) (v : Word) (s : State) (s' : State) (hd : s.toDev.Kept kof) (h : execLoopbackWrite p v s = .next s') :
    s'.pending = s.pending ∧ s'.toDev.Kept kof := by
  refine State.run_keeps h hd (fun d hd => ?_)
  repeat' first
    | with_reducible assumption
    | intro _
    | with_reducible apply Dev.loopback_keeps
    | simp only [keep_mk]
    | dsimp only
    | split

theorem execPatternCtrlWrite_keeps {kof : KeptOf} (l : Fin 512) (v : Word) (s : State) (s' : State) (hd : s.toDev.Kept kof) (h : execPatternCtrlWrite l v s = .next s') :
    s'.pending = s.pending ∧ s'.toDev.Kept kof := by
  refine State.run_keeps h hd (fun d hd => ?_)
  repeat' first
    | with_reducible assumption
    | intro _
    | with_reducible apply Dev.patternCtrl_keeps
    | simp only [keep_mk]
    | dsimp only
    | split

theorem execCheckerLock_keeps {kof : KeptOf} (l : Fin 512) (s : State) (s' : State) (hd : s.toDev.Kept kof) (h : execCheckerLock l s = .next s') :
    s'.pending = s.pending ∧ s'.toDev.Kept kof := by
  refine State.run_keeps h hd (fun d hd => ?_)
  repeat' first
    | with_reducible assumption
    | intro _
    | with_reducible apply Dev.checkerLock_keeps
    | simp only [keep_mk]
    | dsimp only
    | split

theorem execCheckerLoss_keeps {kof : KeptOf} (l : Fin 512) (errors : Nat) (s : State) (s' : State) (hd : s.toDev.Kept kof) (h : execCheckerLoss l errors s = .next s') :
    s'.pending = s.pending ∧ s'.toDev.Kept kof := by
  refine State.run_keeps h hd (fun d hd => ?_)
  repeat' first
    | with_reducible assumption
    | intro _
    | with_reducible apply Dev.checkerLoss_keeps
    | simp only [keep_mk]
    | dsimp only
    | split

theorem execEyeScanStart_keeps {kof : KeptOf} (l : Fin 512) (v : Word) (s : State) (s' : State) (hd : s.toDev.Kept kof) (h : execEyeScanStart l v s = .next s') :
    s'.pending = s.pending ∧ s'.toDev.Kept kof := by
  refine State.run_keeps h hd (fun d hd => ?_)
  repeat' first
    | with_reducible assumption
    | intro _
    | with_reducible apply Dev.eyeStart_keeps
    | simp only [keep_mk]
    | dsimp only
    | split

theorem execEyeScanStop_keeps {kof : KeptOf} (l : Fin 512) (s : State) (s' : State) (hd : s.toDev.Kept kof) (h : execEyeScanStop l s = .next s') :
    s'.pending = s.pending ∧ s'.toDev.Kept kof := by
  refine State.run_keeps h hd (fun d hd => ?_)
  repeat' first
    | with_reducible assumption
    | intro _
    | with_reducible apply Dev.eyeStop_keeps
    | simp only [keep_mk]
    | dsimp only
    | split

theorem execEyeScanDone_keeps {kof : KeptOf} (l : Fin 512) (errors : Nat) (s : State) (s' : State) (hd : s.toDev.Kept kof) (h : execEyeScanDone l errors s = .next s') :
    s'.pending = s.pending ∧ s'.toDev.Kept kof := by
  refine State.run_keeps h hd (fun d hd => ?_)
  repeat' first
    | with_reducible assumption
    | intro _
    | with_reducible apply Dev.eyeDone_keeps
    | simp only [keep_mk]
    | dsimp only
    | split

theorem execDataFlitReceived_keeps {kof : KeptOf} (p : Fin 512) (c : Ctrl) (b : Body) (s : State) (s' : State) (hd : s.toDev.Kept kof) (h : execDataFlitReceived p c b s = .next s') :
    s'.pending = s.pending ∧ s'.toDev.Kept kof := by
  refine State.run_keeps h hd (fun d hd => ?_)
  repeat' first
    | with_reducible assumption
    | intro _
    | with_reducible apply Dev.dataFlit_keeps
    | simp only [keep_mk]
    | dsimp only
    | split

theorem execIdleFlitReceived_keeps {kof : KeptOf} (p : Fin 512) (c : Ctrl) (s : State) (s' : State) (hd : s.toDev.Kept kof) (h : execIdleFlitReceived p c s = .next s') :
    s'.pending = s.pending ∧ s'.toDev.Kept kof := by
  refine State.run_keeps h hd (fun d hd => ?_)
  repeat' first
    | with_reducible assumption
    | intro _
    | with_reducible apply Dev.idleFlit_keeps
    | simp only [keep_mk]
    | dsimp only
    | split

theorem execFlitCrcError_keeps {kof : KeptOf} (p : Fin 512) (crc : Bool) (s : State) (s' : State) (hd : s.toDev.Kept kof) (h : execFlitCrcError p crc s = .next s') :
    s'.pending = s.pending ∧ s'.toDev.Kept kof := by
  refine State.run_keeps h hd (fun d hd => ?_)
  repeat' first
    | with_reducible assumption
    | intro _
    | with_reducible apply Dev.badFlit_keeps
    | simp only [keep_mk]
    | dsimp only
    | split

theorem execReplayReq_keeps {kof : KeptOf} (p : Fin 512) (c : Ctrl) (b : Body) (s : State) (s' : State) (hd : s.toDev.Kept kof) (h : execReplayReq p c b s = .next s') :
    s'.pending = s.pending ∧ s'.toDev.Kept kof := by
  refine State.run_keeps h hd (fun d hd => ?_)
  repeat' first
    | with_reducible assumption
    | intro _
    | with_reducible apply Dev.replayReqIn_keeps
    | simp only [keep_mk]
    | dsimp only
    | split

theorem execReplayStart_keeps {kof : KeptOf} (p : Fin 512) (c : Ctrl) (b : Body) (s : State) (s' : State) (hd : s.toDev.Kept kof) (h : execReplayStart p c b s = .next s') :
    s'.pending = s.pending ∧ s'.toDev.Kept kof := by
  refine State.run_keeps h hd (fun d hd => ?_)
  repeat' first
    | with_reducible assumption
    | intro _
    | with_reducible apply Dev.replayStartIn_keeps
    | simp only [keep_mk]
    | dsimp only
    | split

theorem execReplayTimeout_keeps {kof : KeptOf} (p : Fin 512) (s : State) (s' : State) (hd : s.toDev.Kept kof) (h : execReplayTimeout p s = .next s') :
    s'.pending = s.pending ∧ s'.toDev.Kept kof := by
  refine State.run_keeps h hd (fun d hd => ?_)
  repeat' first
    | with_reducible assumption
    | intro _
    | with_reducible apply Dev.replayTimer_keeps
    | simp only [keep_mk]
    | dsimp only
    | split

theorem execAckDue_keeps {kof : KeptOf} (p : Fin 512) (s : State) (s' : State) (hd : s.toDev.Kept kof) (h : execAckDue p s = .next s') :
    s'.pending = s.pending ∧ s'.toDev.Kept kof := by
  refine State.run_keeps h hd (fun d hd => ?_)
  repeat' first
    | with_reducible assumption
    | intro _
    | with_reducible apply Dev.ackFalls_keeps
    | simp only [keep_mk]
    | dsimp only
    | split

theorem execCreditMessageDue_keeps {kof : KeptOf} (p : Fin 512) (s : State) (s' : State) (hd : s.toDev.Kept kof) (h : execCreditMessageDue p s = .next s') :
    s'.pending = s.pending ∧ s'.toDev.Kept kof := by
  refine State.run_keeps h hd (fun d hd => ?_)
  repeat' first
    | with_reducible assumption
    | intro _
    | with_reducible apply Dev.creditFalls_keeps
    | simp only [keep_mk]
    | dsimp only
    | split

theorem execTransmitFlitSlot_keeps {kof : KeptOf} (p : Fin 512) (s : State) (s' : State) (hd : s.toDev.Kept kof) (h : execTransmitFlitSlot p s = .next s') :
    s'.pending = s.pending ∧ s'.toDev.Kept kof := by
  refine State.run_keeps h hd (fun d hd => ?_)
  repeat' first
    | with_reducible assumption
    | intro _
    | with_reducible apply Dev.flitSlot_keeps
    | simp only [keep_mk]
    | dsimp only
    | split

theorem execTrainReceived_keeps {kof : KeptOf} (p : Fin 512) (c : Ctrl) (b : Body) (s : State) (s' : State) (hd : s.toDev.Kept kof) (h : execTrainReceived p c b s = .next s') :
    s'.pending = s.pending ∧ s'.toDev.Kept kof := by
  refine State.run_keeps h hd (fun d hd => ?_)
  repeat' first
    | with_reducible assumption
    | intro _
    | with_reducible apply Dev.trainIn_keeps
    | simp only [keep_mk]
    | dsimp only
    | split

theorem execTrainSend_keeps {kof : KeptOf} (p : Fin 512) (s : State) (s' : State) (hd : s.toDev.Kept kof) (h : execTrainSend p s = .next s') :
    s'.pending = s.pending ∧ s'.toDev.Kept kof := by
  refine State.run_keeps h hd (fun d hd => ?_)
  repeat' first
    | with_reducible assumption
    | intro _
    | with_reducible apply Dev.trainSend_keeps
    | simp only [keep_mk]
    | dsimp only
    | split

theorem execLanePhaseDone_keeps {kof : KeptOf} (p : Fin 512) (s : State) (s' : State) (hd : s.toDev.Kept kof) (h : execLanePhaseDone p s = .next s') :
    s'.pending = s.pending ∧ s'.toDev.Kept kof := by
  refine State.run_keeps h hd (fun d hd => ?_)
  repeat' first
    | with_reducible assumption
    | intro _
    | with_reducible apply Dev.lanePhaseDone_keeps
    | simp only [keep_mk]
    | dsimp only
    | split

theorem execAlignmentDone_keeps {kof : KeptOf} (p : Fin 512) (s : State) (s' : State) (hd : s.toDev.Kept kof) (h : execAlignmentDone p s = .next s') :
    s'.pending = s.pending ∧ s'.toDev.Kept kof := by
  refine State.run_keeps h hd (fun d hd => ?_)
  repeat' first
    | with_reducible assumption
    | intro _
    | with_reducible apply Dev.alignmentDone_keeps
    | simp only [keep_mk]
    | dsimp only
    | split

theorem execTrainTimeout_keeps {kof : KeptOf} (p : Fin 512) (s : State) (s' : State) (hd : s.toDev.Kept kof) (h : execTrainTimeout p s = .next s') :
    s'.pending = s.pending ∧ s'.toDev.Kept kof := by
  refine State.run_keeps h hd (fun d hd => ?_)
  repeat' first
    | with_reducible assumption
    | intro _
    | with_reducible apply Dev.trainTimeout_keeps
    | simp only [keep_mk]
    | dsimp only
    | split

theorem execRetrainReq_keeps {kof : KeptOf} (p : Fin 512) (c : Ctrl) (s : State) (s' : State) (hd : s.toDev.Kept kof) (h : execRetrainReq p c s = .next s') :
    s'.pending = s.pending ∧ s'.toDev.Kept kof := by
  refine State.run_keeps h hd (fun d hd => ?_)
  repeat' first
    | with_reducible assumption
    | intro _
    | with_reducible apply Dev.retrainReqIn_keeps
    | simp only [keep_mk]
    | dsimp only
    | split

theorem execOosNotice_keeps {kof : KeptOf} (p : Fin 512) (c : Ctrl) (s : State) (s' : State) (hd : s.toDev.Kept kof) (h : execOosNotice p c s = .next s') :
    s'.pending = s.pending ∧ s'.toDev.Kept kof := by
  refine State.run_keeps h hd (fun d hd => ?_)
  repeat' first
    | with_reducible assumption
    | intro _
    | with_reducible apply Dev.oosNotice_keeps
    | simp only [keep_mk]
    | dsimp only
    | split

theorem execDrainedReceived_keeps {kof : KeptOf} (p : Fin 512) (c : Ctrl) (s : State) (s' : State) (hd : s.toDev.Kept kof) (h : execDrainedReceived p c s = .next s') :
    s'.pending = s.pending ∧ s'.toDev.Kept kof := by
  refine State.run_keeps h hd (fun d hd => ?_)
  repeat' first
    | with_reducible assumption
    | intro _
    | with_reducible apply Dev.drainedIn_keeps
    | simp only [keep_mk]
    | dsimp only
    | split

theorem execWindowDrained_keeps {kof : KeptOf} (p : Fin 512) (s : State) (s' : State) (hd : s.toDev.Kept kof) (h : execWindowDrained p s = .next s') :
    s'.pending = s.pending ∧ s'.toDev.Kept kof := by
  refine State.run_keeps h hd (fun d hd => ?_)
  repeat' first
    | with_reducible assumption
    | intro _
    | with_reducible apply Dev.drainEnds_keeps
    | simp only [keep_mk]
    | dsimp only
    | split

theorem execDrainTimeout_keeps {kof : KeptOf} (p : Fin 512) (s : State) (s' : State) (hd : s.toDev.Kept kof) (h : execDrainTimeout p s = .next s') :
    s'.pending = s.pending ∧ s'.toDev.Kept kof := by
  refine State.run_keeps h hd (fun d hd => ?_)
  repeat' first
    | with_reducible assumption
    | intro _
    | with_reducible apply Dev.drainTimeout_keeps
    | simp only [keep_mk]
    | dsimp only
    | split

theorem execDownProbe_keeps {kof : KeptOf} (p : Fin 512) (s : State) (s' : State) (hd : s.toDev.Kept kof) (h : execDownProbe p s = .next s') :
    s'.pending = s.pending ∧ s'.toDev.Kept kof := by
  refine State.run_keeps h hd (fun d hd => ?_)
  repeat' first
    | with_reducible assumption
    | intro _
    | with_reducible apply Dev.downProbe_keeps
    | simp only [keep_mk]
    | dsimp only
    | split

theorem execSignalDetected_keeps {kof : KeptOf} (p : Fin 512) (s : State) (s' : State) (hd : s.toDev.Kept kof) (h : execSignalDetected p s = .next s') :
    s'.pending = s.pending ∧ s'.toDev.Kept kof := by
  refine State.run_keeps h hd (fun d hd => ?_)
  repeat' first
    | with_reducible assumption
    | intro _
    | with_reducible apply Dev.signalOn_keeps
    | simp only [keep_mk]
    | dsimp only
    | split

theorem execLinkEnable_keeps {kof : KeptOf} (p : Fin 512) (v : Word) (s : State) (s' : State) (hd : s.toDev.Kept kof) (h : execLinkEnable p v s = .next s') :
    s'.pending = s.pending ∧ s'.toDev.Kept kof := by
  refine State.run_keeps h hd (fun d hd => ?_)
  repeat' first
    | with_reducible assumption
    | intro _
    | with_reducible apply Dev.lnkCtrl_keeps
    | simp only [keep_mk]
    | dsimp only
    | split

theorem execLinkDisable_keeps {kof : KeptOf} (p : Fin 512) (v : Word) (s : State) (s' : State) (hd : s.toDev.Kept kof) (h : execLinkDisable p v s = .next s') :
    s'.pending = s.pending ∧ s'.toDev.Kept kof := by
  refine State.run_keeps h hd (fun d hd => ?_)
  repeat' first
    | with_reducible assumption
    | intro _
    | with_reducible apply Dev.lnkCtrl_keeps
    | simp only [keep_mk]
    | dsimp only
    | split

theorem execIntegWrite_keeps {kof : KeptOf} (p : Fin 512) (v : Word) (s : State) (s' : State) (hd : s.toDev.Kept kof) (h : execIntegWrite p v s = .next s') :
    s'.pending = s.pending ∧ s'.toDev.Kept kof := by
  refine State.run_keeps h hd (fun d hd => ?_)
  repeat' first
    | with_reducible assumption
    | intro _
    | with_reducible apply Dev.lnkCtrl_keeps
    | simp only [keep_mk]
    | dsimp only
    | split

theorem execLnkCmdRetrain_keeps {kof : KeptOf} (p : Fin 512) (s : State) (s' : State) (hd : s.toDev.Kept kof) (h : execLnkCmdRetrain p s = .next s') :
    s'.pending = s.pending ∧ s'.toDev.Kept kof := by
  refine State.run_keeps h hd (fun d hd => ?_)
  repeat' first
    | with_reducible assumption
    | intro _
    | with_reducible apply Dev.cmdRetrain_keeps
    | simp only [keep_mk]
    | dsimp only
    | split

theorem execLnkCmdOutOfService_keeps {kof : KeptOf} (p : Fin 512) (s : State) (s' : State) (hd : s.toDev.Kept kof) (h : execLnkCmdOutOfService p s = .next s') :
    s'.pending = s.pending ∧ s'.toDev.Kept kof := by
  refine State.run_keeps h hd (fun d hd => ?_)
  repeat' first
    | with_reducible assumption
    | intro _
    | with_reducible apply Dev.cmdOos_keeps
    | simp only [keep_mk]
    | dsimp only
    | split

theorem execLnkCmdInService_keeps {kof : KeptOf} (p : Fin 512) (s : State) (s' : State) (hd : s.toDev.Kept kof) (h : execLnkCmdInService p s = .next s') :
    s'.pending = s.pending ∧ s'.toDev.Kept kof := by
  refine State.run_keeps h hd (fun d hd => ?_)
  repeat' first
    | with_reducible assumption
    | intro _
    | with_reducible apply Dev.cmdInService_keeps
    | simp only [keep_mk]
    | dsimp only
    | split

theorem execCreditReceived_keeps {kof : KeptOf} (p : Fin 512) (c : Ctrl) (b : Body) (s : State) (s' : State) (hd : s.toDev.Kept kof) (h : execCreditReceived p c b s = .next s') :
    s'.pending = s.pending ∧ s'.toDev.Kept kof := by
  refine State.run_keeps h hd (fun d hd => ?_)
  repeat' first
    | with_reducible assumption
    | intro _
    | with_reducible apply Dev.creditIn_keeps
    | simp only [keep_mk]
    | dsimp only
    | split

theorem execAuditReceived_keeps {kof : KeptOf} (p : Fin 512) (c : Ctrl) (b : Body) (s : State) (s' : State) (hd : s.toDev.Kept kof) (h : execAuditReceived p c b s = .next s') :
    s'.pending = s.pending ∧ s'.toDev.Kept kof := by
  refine State.run_keeps h hd (fun d hd => ?_)
  repeat' first
    | with_reducible assumption
    | intro _
    | with_reducible apply Dev.auditIn_keeps
    | simp only [keep_mk]
    | dsimp only
    | split

theorem execAuditSend_keeps {kof : KeptOf} (p : Fin 512) (s : State) (s' : State) (hd : s.toDev.Kept kof) (h : execAuditSend p s = .next s') :
    s'.pending = s.pending ∧ s'.toDev.Kept kof := by
  refine State.run_keeps h hd (fun d hd => ?_)
  repeat' first
    | with_reducible assumption
    | intro _
    | with_reducible apply Dev.auditSend_keeps
    | simp only [keep_mk]
    | dsimp only
    | split

theorem execTimeReceived_keeps {kof : KeptOf} (p : Fin 512) (c : Ctrl) (b : Body) (s : State) (s' : State) (hd : s.toDev.Kept kof) (h : execTimeReceived p c b s = .next s') :
    s'.pending = s.pending ∧ s'.toDev.Kept kof := by
  refine State.run_keeps h hd (fun d hd => ?_)
  repeat' first
    | with_reducible assumption
    | intro _
    | with_reducible apply Dev.timeIn_keeps
    | simp only [keep_mk]
    | dsimp only
    | split

theorem execTimeSend_keeps {kof : KeptOf} (p : Fin 512) (s : State) (s' : State) (hd : s.toDev.Kept kof) (h : execTimeSend p s = .next s') :
    s'.pending = s.pending ∧ s'.toDev.Kept kof := by
  refine State.run_keeps h hd (fun d hd => ?_)
  repeat' first
    | with_reducible assumption
    | intro _
    | with_reducible apply Dev.timeSend_keeps
    | simp only [keep_mk]
    | dsimp only
    | split

theorem execAdmitWaitingPacket_keeps {kof : KeptOf} (p : Fin 512) (s : State) (s' : State) (hd : s.toDev.Kept kof) (h : execAdmitWaitingPacket p s = .next s') :
    s'.pending = s.pending ∧ s'.toDev.Kept kof := by
  refine State.run_keeps h hd (fun d hd => ?_)
  repeat' first
    | with_reducible assumption
    | intro _
    | with_reducible apply Dev.admitWaiting_keeps
    | simp only [keep_mk]
    | dsimp only
    | split

theorem execInjectPacket_keeps {kof : KeptOf} (q : Fin 4) (r : Fin 4) (fw : Bool) (k : Machine.Packet) (s : State) (s' : State) (hd : s.toDev.Kept kof) (h : execInjectPacket q r fw k s = .next s') :
    s'.pending = s.pending ∧ s'.toDev.Kept kof := by
  refine State.run_keeps h hd (fun d hd => ?_)
  repeat' first
    | with_reducible assumption
    | intro _
    | with_reducible apply Dev.offer_keeps
    | with_reducible apply Dev.retryInj_keeps
    | simp only [keep_mk]
    | dsimp only
    | split

theorem execInjectionRelease_keeps {kof : KeptOf} (q : Fin 4) (r : Fin 4) (s : State) (s' : State) (hd : s.toDev.Kept kof) (h : execInjectionRelease q r s = .next s') :
    s'.pending = s.pending ∧ s'.toDev.Kept kof := by
  refine State.run_keeps h hd (fun d hd => ?_)
  repeat' first
    | with_reducible assumption
    | intro _
    | with_reducible apply Dev.retryInj_keeps
    | simp only [keep_mk]
    | dsimp only
    | split

theorem execCellFree_keeps {kof : KeptOf} (c : Nat) (s : State) (s' : State) (hd : s.toDev.Kept kof) (h : execCellFree c s = .next s') :
    s'.pending = s.pending ∧ s'.toDev.Kept kof := by
  refine State.run_keeps h hd (fun d hd => ?_)
  repeat' first
    | with_reducible assumption
    | intro _
    | with_reducible apply Dev.freeRef_keeps
    | simp only [keep_mk]
    | dsimp only
    | split

theorem execDuneSend_keeps {kof : KeptOf} (q : Fin 4) (s : State) (s' : State) (hd : s.toDev.Kept kof) (h : execDuneSend q s = .next s') :
    s'.pending = s.pending ∧ s'.toDev.Kept kof := by
  refine State.run_keeps h hd (fun d hd => ?_)
  repeat' first
    | with_reducible assumption
    | intro _
    | with_reducible apply Dev.duneSend_keeps
    | simp only [keep_mk]
    | dsimp only
    | split

theorem execDuneReceived_keeps {kof : KeptOf} (p : Fin 512) (c : Ctrl) (b : Body) (s : State) (s' : State) (hd : s.toDev.Kept kof) (h : execDuneReceived p c b s = .next s') :
    s'.pending = s.pending ∧ s'.toDev.Kept kof := by
  refine State.run_keeps h hd (fun d hd => ?_)
  repeat' first
    | with_reducible assumption
    | intro _
    | with_reducible apply Dev.duneIn_keeps
    | simp only [keep_mk]
    | dsimp only
    | split

theorem execEpochValidate_keeps {kof : KeptOf} (q : Fin 4) (bank : Fin 2) (s : State) (s' : State) (hd : s.toDev.Kept kof) (h : execEpochValidate q bank s = .next s') :
    s'.pending = s.pending ∧ s'.toDev.Kept kof := by
  refine State.run_keeps h hd (fun d hd => ?_)
  repeat' first
    | with_reducible assumption
    | intro _
    | with_reducible apply Dev.validateBank_keeps
    | simp only [keep_mk]
    | dsimp only
    | split

theorem execBankCheckDone_keeps {kof : KeptOf} (q : Fin 4) (s : State) (s' : State) (hd : s.toDev.Kept kof) (h : execBankCheckDone q s = .next s') :
    s'.pending = s.pending ∧ s'.toDev.Kept kof := by
  refine State.run_keeps h hd (fun d hd => ?_)
  repeat' first
    | with_reducible assumption
    | intro _
    | with_reducible apply Dev.bankCheckDone_keeps
    | simp only [keep_mk]
    | dsimp only
    | split

theorem execEpochRetire_keeps {kof : KeptOf} (q : Fin 4) (bank : Fin 2) (s : State) (s' : State) (hd : s.toDev.Kept kof) (h : execEpochRetire q bank s = .next s') :
    s'.pending = s.pending ∧ s'.toDev.Kept kof := by
  refine State.run_keeps h hd (fun d hd => ?_)
  repeat' first
    | with_reducible assumption
    | intro _
    | with_reducible apply Dev.retireBank_keeps
    | simp only [keep_mk]
    | dsimp only
    | split

theorem execEpochStamp_keeps {kof : KeptOf} (q : Fin 4) (e : Fin 2) (s : State) (s' : State) (hd : s.toDev.Kept kof) (h : execEpochStamp q e s = .next s') :
    s'.pending = s.pending ∧ s'.toDev.Kept kof := by
  refine State.run_keeps h hd (fun d hd => ?_)
  repeat' first
    | with_reducible assumption
    | intro _
    | with_reducible apply Dev.stampWrite_keeps
    | simp only [keep_mk]
    | dsimp only
    | split

theorem execRouteTableWrite_keeps {kof : KeptOf} (q : Fin 4) (bank : Fin 2) (w : Nat) (v : Word) (s : State) (s' : State) (hd : s.toDev.Kept kof) (h : execRouteTableWrite q bank w v s = .next s') :
    s'.pending = s.pending ∧ s'.toDev.Kept kof := by
  refine State.run_keeps h hd (fun d hd => ?_)
  repeat' first
    | with_reducible assumption
    | intro _
    | with_reducible apply Dev.routeWrite_keeps
    | simp only [keep_mk]
    | dsimp only
    | split

theorem execPortSetWrite_keeps {kof : KeptOf} (q : Fin 4) (bank : Fin 2) (n : Nat) (w : Fin 4) (v : Word) (s : State) (s' : State) (hd : s.toDev.Kept kof) (h : execPortSetWrite q bank n w v s = .next s') :
    s'.pending = s.pending ∧ s'.toDev.Kept kof := by
  refine State.run_keeps h hd (fun d hd => ?_)
  repeat' first
    | with_reducible assumption
    | intro _
    | with_reducible apply Dev.psetWrite_keeps
    | simp only [keep_mk]
    | dsimp only
    | split

theorem execEpochReceived_keeps {kof : KeptOf} (p : Fin 512) (c : Ctrl) (b : Body) (s : State) (s' : State) (hd : s.toDev.Kept kof) (h : execEpochReceived p c b s = .next s') :
    s'.pending = s.pending ∧ s'.toDev.Kept kof := by
  refine State.run_keeps h hd (fun d hd => ?_)
  repeat' first
    | with_reducible assumption
    | intro _
    | with_reducible apply Dev.epochIn_keeps
    | simp only [keep_mk]
    | dsimp only
    | split

theorem execCountRound_keeps {kof : KeptOf} (s : State) (s' : State) (hd : s.toDev.Kept kof) (h : execCountRound s = .next s') :
    s'.pending = s.pending ∧ s'.toDev.Kept kof := by
  refine State.run_keeps h hd (fun d hd => ?_)
  repeat' first
    | with_reducible assumption
    | intro _
    | with_reducible apply Dev.countRound_keeps
    | simp only [keep_mk]
    | dsimp only
    | split

theorem execPortDeadTimeout_keeps {kof : KeptOf} (p : Fin 512) (s : State) (s' : State) (hd : s.toDev.Kept kof) (h : execPortDeadTimeout p s = .next s') :
    s'.pending = s.pending ∧ s'.toDev.Kept kof := by
  refine State.run_keeps h hd (fun d hd => ?_)
  repeat' first
    | with_reducible assumption
    | intro _
    | with_reducible apply Dev.portDies_keeps
    | simp only [keep_mk]
    | dsimp only
    | split

theorem execPrtReleaseQueued_keeps {kof : KeptOf} (p : Fin 512) (s : State) (s' : State) (hd : s.toDev.Kept kof) (h : execPrtReleaseQueued p s = .next s') :
    s'.pending = s.pending ∧ s'.toDev.Kept kof := by
  refine State.run_keeps h hd (fun d hd => ?_)
  repeat' first
    | with_reducible assumption
    | intro _
    | with_reducible apply Dev.prtRelease_keeps
    | simp only [keep_mk]
    | dsimp only
    | split

theorem execPrtReleaseHeld_keeps {kof : KeptOf} (p : Fin 512) (s : State) (s' : State) (hd : s.toDev.Kept kof) (h : execPrtReleaseHeld p s = .next s') :
    s'.pending = s.pending ∧ s'.toDev.Kept kof := by
  refine State.run_keeps h hd (fun d hd => ?_)
  repeat' first
    | with_reducible assumption
    | intro _
    | with_reducible apply Dev.prtRelease_keeps
    | simp only [keep_mk]
    | dsimp only
    | split

theorem execPrtReleaseBoth_keeps {kof : KeptOf} (p : Fin 512) (s : State) (s' : State) (hd : s.toDev.Kept kof) (h : execPrtReleaseBoth p s = .next s') :
    s'.pending = s.pending ∧ s'.toDev.Kept kof := by
  refine State.run_keeps h hd (fun d hd => ?_)
  repeat' first
    | with_reducible assumption
    | intro _
    | with_reducible apply Dev.prtRelease_keeps
    | simp only [keep_mk]
    | dsimp only
    | split

theorem execHeldTrafficRelease_keeps {kof : KeptOf} (p : Fin 512) (s : State) (s' : State) (hd : s.toDev.Kept kof) (h : execHeldTrafficRelease p s = .next s') :
    s'.pending = s.pending ∧ s'.toDev.Kept kof := by
  refine State.run_keeps h hd (fun d hd => ?_)
  repeat' first
    | with_reducible assumption
    | intro _
    | with_reducible apply Dev.heldRelease_keeps
    | simp only [keep_mk]
    | dsimp only
    | split

theorem execLedgerAudit_keeps {kof : KeptOf} (q : Fin 4) (s : State) (s' : State) (hd : s.toDev.Kept kof) (h : execLedgerAudit q s = .next s') :
    s'.pending = s.pending ∧ s'.toDev.Kept kof := by
  refine State.run_keeps h hd (fun d hd => ?_)
  repeat' first
    | with_reducible assumption
    | intro _
    | with_reducible apply Dev.ledgerAudit_keeps
    | simp only [keep_mk]
    | dsimp only
    | split

theorem execFwdShareWrite_keeps {kof : KeptOf} (l : Fin 512) (v : Word) (s : State) (s' : State) (hd : s.toDev.Kept kof) (h : execFwdShareWrite l v s = .next s') :
    s'.pending = s.pending ∧ s'.toDev.Kept kof := by
  refine State.run_keeps h hd (fun d hd => ?_)
  repeat' first
    | with_reducible assumption
    | intro _
    | with_reducible apply Dev.shareWrite_keeps
    | simp only [keep_mk]
    | dsimp only
    | split

theorem execFwdInjWrite_keeps {kof : KeptOf} (q : Fin 4) (v : Word) (s : State) (s' : State) (hd : s.toDev.Kept kof) (h : execFwdInjWrite q v s = .next s') :
    s'.pending = s.pending ∧ s'.toDev.Kept kof := by
  refine State.run_keeps h hd (fun d hd => ?_)
  repeat' first
    | with_reducible assumption
    | intro _
    | with_reducible apply Dev.fwdInj_keeps
    | simp only [keep_mk]
    | dsimp only
    | split

theorem execShaperEligible_keeps {kof : KeptOf} (p : Fin 512) (t : Fin 16) (s : State) (s' : State) (hd : s.toDev.Kept kof) (h : execShaperEligible p t s = .next s') :
    s'.pending = s.pending ∧ s'.toDev.Kept kof := by
  refine State.run_keeps h hd (fun d hd => ?_)
  repeat' first
    | with_reducible assumption
    | intro _
    | with_reducible apply Dev.shaperEligible_keeps
    | simp only [keep_mk]
    | dsimp only
    | split

theorem execWheelTurn_keeps {kof : KeptOf} (q : Fin 4) (s : State) (s' : State) (hd : s.toDev.Kept kof) (h : execWheelTurn q s = .next s') :
    s'.pending = s.pending ∧ s'.toDev.Kept kof := by
  refine State.run_keeps h hd (fun d hd => ?_)
  repeat' first
    | with_reducible assumption
    | intro _
    | with_reducible apply Dev.wheelTurn_keeps
    | simp only [keep_mk]
    | dsimp only
    | split

theorem execShapeWrite_keeps {kof : KeptOf} (p : Fin 512) (t : Fin 16) (v : Word) (s : State) (s' : State) (hd : s.toDev.Kept kof) (h : execShapeWrite p t v s = .next s') :
    s'.pending = s.pending ∧ s'.toDev.Kept kof := by
  refine State.run_keeps h hd (fun d hd => ?_)
  repeat' first
    | with_reducible assumption
    | intro _
    | with_reducible apply Dev.shapeWrite_keeps
    | simp only [keep_mk]
    | dsimp only
    | split

theorem execShapeApply_keeps {kof : KeptOf} (p : Fin 512) (t : Fin 16) (s : State) (s' : State) (hd : s.toDev.Kept kof) (h : execShapeApply p t s = .next s') :
    s'.pending = s.pending ∧ s'.toDev.Kept kof := by
  refine State.run_keeps h hd (fun d hd => ?_)
  repeat' first
    | with_reducible assumption
    | intro _
    | with_reducible apply Dev.shapeApply_keeps
    | simp only [keep_mk]
    | dsimp only
    | split

theorem execGateListWrite_keeps {kof : KeptOf} (p : Fin 512) (l : Fin 2) (e : Fin 256) (v : Word) (s : State) (s' : State) (hd : s.toDev.Kept kof) (h : execGateListWrite p l e v s = .next s') :
    s'.pending = s.pending ∧ s'.toDev.Kept kof := by
  refine State.run_keeps h hd (fun d hd => ?_)
  repeat' first
    | with_reducible assumption
    | intro _
    | with_reducible apply Dev.gateWrite_keeps
    | simp only [keep_mk]
    | dsimp only
    | split

theorem execGateCommit_keeps {kof : KeptOf} (p : Fin 512) (v : Word) (s : State) (s' : State) (hd : s.toDev.Kept kof) (h : execGateCommit p v s = .next s') :
    s'.pending = s.pending ∧ s'.toDev.Kept kof := by
  refine State.run_keeps h hd (fun d hd => ?_)
  repeat' first
    | with_reducible assumption
    | intro _
    | with_reducible apply Dev.gateCtl_keeps
    | simp only [keep_mk]
    | dsimp only
    | split

theorem execGateCancel_keeps {kof : KeptOf} (p : Fin 512) (v : Word) (s : State) (s' : State) (hd : s.toDev.Kept kof) (h : execGateCancel p v s = .next s') :
    s'.pending = s.pending ∧ s'.toDev.Kept kof := by
  refine State.run_keeps h hd (fun d hd => ?_)
  repeat' first
    | with_reducible assumption
    | intro _
    | with_reducible apply Dev.gateCtl_keeps
    | simp only [keep_mk]
    | dsimp only
    | split

theorem execGateTakeover_keeps {kof : KeptOf} (p : Fin 512) (s : State) (s' : State) (hd : s.toDev.Kept kof) (h : execGateTakeover p s = .next s') :
    s'.pending = s.pending ∧ s'.toDev.Kept kof := by
  refine State.run_keeps h hd (fun d hd => ?_)
  repeat' first
    | with_reducible assumption
    | intro _
    | with_reducible apply Dev.gateTakeover_keeps
    | simp only [keep_mk]
    | dsimp only
    | split

theorem execGateEntryEnd_keeps {kof : KeptOf} (p : Fin 512) (s : State) (s' : State) (hd : s.toDev.Kept kof) (h : execGateEntryEnd p s = .next s') :
    s'.pending = s.pending ∧ s'.toDev.Kept kof := by
  refine State.run_keeps h hd (fun d hd => ?_)
  repeat' first
    | with_reducible assumption
    | intro _
    | with_reducible apply Dev.gateEntryEnd_keeps
    | simp only [keep_mk]
    | dsimp only
    | split

theorem execGroupEntryFetch_keeps {kof : KeptOf} (q : Fin 4) (g : Fin 65536) (s : State) (s' : State) (hd : s.toDev.Kept kof) (h : execGroupEntryFetch q g s = .next s') :
    s'.pending = s.pending ∧ s'.toDev.Kept kof := by
  refine State.run_keeps h hd (fun d hd => ?_)
  repeat' first
    | with_reducible assumption
    | intro _
    | with_reducible apply Dev.groupFetched_keeps
    | simp only [keep_mk]
    | dsimp only
    | split

theorem execGroupValidate_keeps {kof : KeptOf} (q : Fin 4) (g : Fin 65536) (s : State) (s' : State) (hd : s.toDev.Kept kof) (h : execGroupValidate q g s = .next s') :
    s'.pending = s.pending ∧ s'.toDev.Kept kof := by
  refine State.run_keeps h hd (fun d hd => ?_)
  repeat' first
    | with_reducible assumption
    | intro _
    | with_reducible apply Dev.groupValidate_keeps
    | simp only [keep_mk]
    | dsimp only
    | split

theorem execGroupInvalidate_keeps {kof : KeptOf} (q : Fin 4) (g : Fin 65536) (s : State) (s' : State) (hd : s.toDev.Kept kof) (h : execGroupInvalidate q g s = .next s') :
    s'.pending = s.pending ∧ s'.toDev.Kept kof := by
  refine State.run_keeps h hd (fun d hd => ?_)
  repeat' first
    | with_reducible assumption
    | intro _
    | with_reducible apply Dev.groupInvalidate_keeps
    | simp only [keep_mk]
    | dsimp only
    | split

theorem execGroupForce_keeps {kof : KeptOf} (q : Fin 4) (g : Fin 65536) (s : State) (s' : State) (hd : s.toDev.Kept kof) (h : execGroupForce q g s = .next s') :
    s'.pending = s.pending ∧ s'.toDev.Kept kof := by
  refine State.run_keeps h hd (fun d hd => ?_)
  repeat' first
    | with_reducible assumption
    | intro _
    | with_reducible apply Dev.groupForce_keeps
    | simp only [keep_mk]
    | dsimp only
    | split

theorem execGroupEntryWrite_keeps {kof : KeptOf} (q : Fin 4) (g : Fin 65536) (w : Fin 16) (v : Word) (s : State) (s' : State) (hd : s.toDev.Kept kof) (h : execGroupEntryWrite q g w v s = .next s') :
    s'.pending = s.pending ∧ s'.toDev.Kept kof := by
  refine State.run_keeps h hd (fun d hd => ?_)
  repeat' first
    | with_reducible assumption
    | intro _
    | with_reducible apply Dev.groupWrite_keeps
    | simp only [keep_mk]
    | dsimp only
    | split

theorem execMcast_keeps {kof : KeptOf} (q : Fin 4) (member : Fin 256) (k : Machine.Packet) (s : State) (s' : State) (hd : s.toDev.Kept kof) (h : execMcast q member k s = .next s') :
    s'.pending = s.pending ∧ s'.toDev.Kept kof := by
  refine State.run_keeps h hd (fun d hd => ?_)
  repeat' first
    | with_reducible assumption
    | intro _
    | with_reducible apply Dev.meshFree_keeps
    | with_reducible apply Dev.mcastIn_keeps
    | simp only [keep_mk]
    | dsimp only
    | split

theorem execRedUp_keeps {kof : KeptOf} (q : Fin 4) (src : Nat) (k : Machine.Packet) (s : State) (s' : State) (hd : s.toDev.Kept kof) (h : execRedUp q src k s = .next s') :
    s'.pending = s.pending ∧ s'.toDev.Kept kof := by
  refine State.run_keeps h hd (fun d hd => ?_)
  repeat' first
    | with_reducible assumption
    | intro _
    | with_reducible apply Dev.redUpIn_keeps
    | simp only [keep_mk]
    | dsimp only
    | split

theorem execRedDown_keeps {kof : KeptOf} (q : Fin 4) (k : Machine.Packet) (s : State) (s' : State) (hd : s.toDev.Kept kof) (h : execRedDown q k s = .next s') :
    s'.pending = s.pending ∧ s'.toDev.Kept kof := by
  refine State.run_keeps h hd (fun d hd => ?_)
  repeat' first
    | with_reducible assumption
    | intro _
    | with_reducible apply Dev.meshFree_keeps
    | with_reducible apply Dev.redDownMsg_keeps
    | simp only [keep_mk]
    | dsimp only
    | split

theorem execColGrant_keeps {kof : KeptOf} (q : Fin 4) (k : Machine.Packet) (s : State) (s' : State) (hd : s.toDev.Kept kof) (h : execColGrant q k s = .next s') :
    s'.pending = s.pending ∧ s'.toDev.Kept kof := by
  refine State.run_keeps h hd (fun d hd => ?_)
  repeat' first
    | with_reducible assumption
    | intro _
    | with_reducible apply Dev.grantIn_keeps
    | simp only [keep_mk]
    | dsimp only
    | split

theorem execBufferAssign_keeps {kof : KeptOf} (q : Fin 4) (g : Fin 65536) (seq : Nat) (s : State) (s' : State) (hd : s.toDev.Kept kof) (h : execBufferAssign q g seq s = .next s') :
    s'.pending = s.pending ∧ s'.toDev.Kept kof := by
  refine State.run_keeps h hd (fun d hd => ?_)
  repeat' first
    | with_reducible assumption
    | intro _
    | with_reducible apply Dev.bufferAssign_keeps
    | simp only [keep_mk]
    | dsimp only
    | split

theorem execBarrierUp_keeps {kof : KeptOf} (q : Fin 4) (src : Nat) (k : Machine.Packet) (s : State) (s' : State) (hd : s.toDev.Kept kof) (h : execBarrierUp q src k s = .next s') :
    s'.pending = s.pending ∧ s'.toDev.Kept kof := by
  refine State.run_keeps h hd (fun d hd => ?_)
  repeat' first
    | with_reducible assumption
    | intro _
    | with_reducible apply Dev.barrierUpIn_keeps
    | simp only [keep_mk]
    | dsimp only
    | split

theorem execBarrierDown_keeps {kof : KeptOf} (q : Fin 4) (k : Machine.Packet) (s : State) (s' : State) (hd : s.toDev.Kept kof) (h : execBarrierDown q k s = .next s') :
    s'.pending = s.pending ∧ s'.toDev.Kept kof := by
  refine State.run_keeps h hd (fun d hd => ?_)
  repeat' first
    | with_reducible assumption
    | intro _
    | with_reducible apply Dev.barrierDownIn_keeps
    | simp only [keep_mk]
    | dsimp only
    | split

theorem execEpochCount_keeps {kof : KeptOf} (q : Fin 4) (src : Nat) (k : Machine.Packet) (s : State) (s' : State) (hd : s.toDev.Kept kof) (h : execEpochCount q src k s = .next s') :
    s'.pending = s.pending ∧ s'.toDev.Kept kof := by
  refine State.run_keeps h hd (fun d hd => ?_)
  repeat' first
    | with_reducible assumption
    | intro _
    | with_reducible apply Dev.epochCountIn_keeps
    | simp only [keep_mk]
    | dsimp only
    | split

theorem execOperationTimeout_keeps {kof : KeptOf} (q : Fin 4) (g : Fin 65536) (seq : Nat) (s : State) (s' : State) (hd : s.toDev.Kept kof) (h : execOperationTimeout q g seq s = .next s') :
    s'.pending = s.pending ∧ s'.toDev.Kept kof := by
  refine State.run_keeps h hd (fun d hd => ?_)
  repeat' first
    | with_reducible assumption
    | intro _
    | with_reducible apply Dev.operationTimeout_keeps
    | simp only [keep_mk]
    | dsimp only
    | split

theorem execMemberTimeout_keeps {kof : KeptOf} (q : Fin 4) (g : Fin 65536) (seq : Nat) (member : Fin 256) (s : State) (s' : State) (hd : s.toDev.Kept kof) (h : execMemberTimeout q g seq member s = .next s') :
    s'.pending = s.pending ∧ s'.toDev.Kept kof := by
  refine State.run_keeps h hd (fun d hd => ?_)
  repeat' first
    | with_reducible assumption
    | intro _
    | with_reducible apply Dev.memberTimeout_keeps
    | simp only [keep_mk]
    | dsimp only
    | split

theorem execFenceReceived_keeps {kof : KeptOf} (p : Fin 512) (c : Ctrl) (b : Body) (s : State) (s' : State) (hd : s.toDev.Kept kof) (h : execFenceReceived p c b s = .next s') :
    s'.pending = s.pending ∧ s'.toDev.Kept kof := by
  refine State.run_keeps h hd (fun d hd => ?_)
  repeat' first
    | with_reducible assumption
    | intro _
    | with_reducible apply Dev.fenceIn_keeps
    | simp only [keep_mk]
    | dsimp only
    | split

theorem execFenceGo_keeps {kof : KeptOf} (q : Fin 4) (path : Path) (v : Word) (s : State) (s' : State) (hd : s.toDev.Kept kof) (h : execFenceGo q path v s = .next s') :
    s'.pending = s.pending ∧ s'.toDev.Kept kof := by
  refine State.run_keeps h hd (fun d hd => ?_)
  repeat' first
    | with_reducible assumption
    | intro _
    | with_reducible apply Dev.fenceGo_keeps
    | simp only [keep_mk]
    | dsimp only
    | split

theorem execFenceRefresh_keeps {kof : KeptOf} (s : State) (s' : State) (hd : s.toDev.Kept kof) (h : execFenceRefresh s = .next s') :
    s'.pending = s.pending ∧ s'.toDev.Kept kof := by
  refine State.run_keeps h hd (fun d hd => ?_)
  repeat' first
    | with_reducible assumption
    | intro _
    | with_reducible apply Dev.fenceRefresh_keeps
    | simp only [keep_mk]
    | dsimp only
    | split

theorem execProducerDoorbell_keeps {kof : KeptOf} (q : Fin 4) (k : Fin 4) (f : Fin 256) (n : Fin 65536) (w : Word) (ok : Bool) (s : State) (s' : State) (hd : s.toDev.Kept kof) (h : execProducerDoorbell q k f n w ok s = .next s') :
    s'.pending = s.pending ∧ s'.toDev.Kept kof := by
  refine State.runHost_keeps h hd (fun d hd => ?_)
  repeat' first
    | with_reducible assumption
    | intro _
    | with_reducible apply Dev.whenFunc_keeps
    | with_reducible apply Dev.producerDoorbell_keeps
    | simp only [keep_mk]
    | dsimp only
    | split

theorem execConsumerDoorbell_keeps {kof : KeptOf} (q : Fin 4) (k : Fin 4) (f : Fin 256) (n : Fin 65536) (w : Word) (ok : Bool) (s : State) (s' : State) (hd : s.toDev.Kept kof) (h : execConsumerDoorbell q k f n w ok s = .next s') :
    s'.pending = s.pending ∧ s'.toDev.Kept kof := by
  refine State.runHost_keeps h hd (fun d hd => ?_)
  repeat' first
    | with_reducible assumption
    | intro _
    | with_reducible apply Dev.whenFunc_keeps
    | with_reducible apply Dev.consumerDoorbell_keeps
    | simp only [keep_mk]
    | dsimp only
    | split

theorem execCounterWrite_keeps {kof : KeptOf} (q : Fin 4) (n : Fin 262144) (v : Word) (s : State) (s' : State) (hd : s.toDev.Kept kof) (h : execCounterWrite q n v s = .next s') :
    s'.pending = s.pending ∧ s'.toDev.Kept kof := by
  refine State.runHost_keeps h hd (fun d hd => ?_)
  repeat' first
    | with_reducible assumption
    | intro _
    | with_reducible apply Dev.counterWrite_keeps
    | simp only [keep_mk]
    | dsimp only
    | split

theorem execCounterAtomic_keeps {kof : KeptOf} (q : Fin 4) (n : Fin 262144) (op : Fin 4) (x : Word) (y : Word) (s : State) (s' : State) (hd : s.toDev.Kept kof) (h : execCounterAtomic q n op x y s = .next s') :
    s'.pending = s.pending ∧ s'.toDev.Kept kof := by
  refine State.runHost_keeps h hd (fun d hd => ?_)
  repeat' first
    | with_reducible assumption
    | intro _
    | with_reducible apply Dev.counterAtomic_keeps
    | simp only [keep_mk]
    | dsimp only
    | split

theorem execKeyrightsWrite_keeps {kof : KeptOf} (q : Fin 4) (n : Fin 65536) (v : Word) (s : State) (s' : State) (hd : s.toDev.Kept kof) (h : execKeyrightsWrite q n v s = .next s') :
    s'.pending = s.pending ∧ s'.toDev.Kept kof := by
  refine State.runHost_keeps h hd (fun d hd => ?_)
  repeat' first
    | with_reducible assumption
    | intro _
    | with_reducible apply Dev.keyrightsWrite_keeps
    | simp only [keep_mk]
    | dsimp only
    | split

theorem execDescriptorStart_keeps {kof : KeptOf} (q : Fin 4) (k : Fin 4) (n : Fin 65536) (desc : BitVec 512) (shards : List (Word × Word)) (ok : Bool) (s : State) (s' : State) (hd : s.toDev.Kept kof) (h : execDescriptorStart q k n desc shards ok s = .next s') :
    s'.pending = s.pending ∧ s'.toDev.Kept kof := by
  refine State.runHost_keeps h hd (fun d hd => ?_)
  repeat' first
    | with_reducible assumption
    | intro _
    | with_reducible apply Dev.meshFree_keeps
    | with_reducible apply Dev.descriptorStart_keeps
    | simp only [keep_mk]
    | dsimp only
    | split

theorem execModerationEnd_keeps {kof : KeptOf} (q : Fin 4) (n : Fin 65536) (s : State) (s' : State) (hd : s.toDev.Kept kof) (h : execModerationEnd q n s = .next s') :
    s'.pending = s.pending ∧ s'.toDev.Kept kof := by
  refine State.runHost_keeps h hd (fun d hd => ?_)
  repeat' first
    | with_reducible assumption
    | intro _
    | with_reducible apply Dev.moderationEnd_keeps
    | simp only [keep_mk]
    | dsimp only
    | split

theorem execQueueCreate_keeps {kof : KeptOf} (q : Fin 4) (f : Fin 256) (s : State) (s' : State) (hd : s.toDev.Kept kof) (h : execQueueCreate q f s = .next s') :
    s'.pending = s.pending ∧ s'.toDev.Kept kof := by
  refine State.runHost_keeps h hd (fun d hd => ?_)
  repeat' first
    | with_reducible assumption
    | intro _
    | with_reducible apply Dev.queueCreate_keeps
    | simp only [keep_mk]
    | dsimp only
    | split

theorem execQueuePause_keeps {kof : KeptOf} (q : Fin 4) (f : Fin 256) (s : State) (s' : State) (hd : s.toDev.Kept kof) (h : execQueuePause q f s = .next s') :
    s'.pending = s.pending ∧ s'.toDev.Kept kof := by
  refine State.runHost_keeps h hd (fun d hd => ?_)
  repeat' first
    | with_reducible assumption
    | intro _
    | with_reducible apply Dev.queuePause_keeps
    | simp only [keep_mk]
    | dsimp only
    | split

theorem execQueuePauseDone_keeps {kof : KeptOf} (q : Fin 4) (k : Fin 4) (g : Fin 65536) (s : State) (s' : State) (hd : s.toDev.Kept kof) (h : execQueuePauseDone q k g s = .next s') :
    s'.pending = s.pending ∧ s'.toDev.Kept kof := by
  refine State.runHost_keeps h hd (fun d hd => ?_)
  repeat' first
    | with_reducible assumption
    | intro _
    | with_reducible apply Dev.queuePauseDone_keeps
    | simp only [keep_mk]
    | dsimp only
    | split

theorem execQueueResume_keeps {kof : KeptOf} (q : Fin 4) (f : Fin 256) (s : State) (s' : State) (hd : s.toDev.Kept kof) (h : execQueueResume q f s = .next s') :
    s'.pending = s.pending ∧ s'.toDev.Kept kof := by
  refine State.runHost_keeps h hd (fun d hd => ?_)
  repeat' first
    | with_reducible assumption
    | intro _
    | with_reducible apply Dev.queueResume_keeps
    | simp only [keep_mk]
    | dsimp only
    | split

theorem execQueueRecover_keeps {kof : KeptOf} (q : Fin 4) (f : Fin 256) (s : State) (s' : State) (hd : s.toDev.Kept kof) (h : execQueueRecover q f s = .next s') :
    s'.pending = s.pending ∧ s'.toDev.Kept kof := by
  refine State.runHost_keeps h hd (fun d hd => ?_)
  repeat' first
    | with_reducible assumption
    | intro _
    | with_reducible apply Dev.queueRecover_keeps
    | simp only [keep_mk]
    | dsimp only
    | split

theorem execQueueDestroy_keeps {kof : KeptOf} (q : Fin 4) (f : Fin 256) (s : State) (s' : State) (hd : s.toDev.Kept kof) (h : execQueueDestroy q f s = .next s') :
    s'.pending = s.pending ∧ s'.toDev.Kept kof := by
  refine State.runHost_keeps h hd (fun d hd => ?_)
  repeat' first
    | with_reducible assumption
    | intro _
    | with_reducible apply Dev.queueDestroy_keeps
    | simp only [keep_mk]
    | dsimp only
    | split

theorem execQueueQuery_keeps {kof : KeptOf} (q : Fin 4) (f : Fin 256) (s : State) (s' : State) (hd : s.toDev.Kept kof) (h : execQueueQuery q f s = .next s') :
    s'.pending = s.pending ∧ s'.toDev.Kept kof := by
  refine State.runHost_keeps h hd (fun d hd => ?_)
  repeat' first
    | with_reducible assumption
    | intro _
    | with_reducible apply Dev.queueQuery_keeps
    | simp only [keep_mk]
    | dsimp only
    | split

theorem execFlushComplete_keeps {kof : KeptOf} (q : Fin 4) (k : Fin 4) (g : Fin 65536) (s : State) (s' : State) (hd : s.toDev.Kept kof) (h : execFlushComplete q k g s = .next s') :
    s'.pending = s.pending ∧ s'.toDev.Kept kof := by
  refine State.runHost_keeps h hd (fun d hd => ?_)
  repeat' first
    | with_reducible assumption
    | intro _
    | with_reducible apply Dev.flushComplete_keeps
    | simp only [keep_mk]
    | dsimp only
    | split

theorem execCqStallTimeout_keeps {kof : KeptOf} (q : Fin 4) (g : Fin 65536) (s : State) (s' : State) (hd : s.toDev.Kept kof) (h : execCqStallTimeout q g s = .next s') :
    s'.pending = s.pending ∧ s'.toDev.Kept kof := by
  refine State.runHost_keeps h hd (fun d hd => ?_)
  repeat' first
    | with_reducible assumption
    | intro _
    | with_reducible apply Dev.cqStallTimeout_keeps
    | simp only [keep_mk]
    | dsimp only
    | split

theorem execFunctionLevelReset_keeps {kof : KeptOf} (q : Fin 4) (f : Fin 256) (s : State) (s' : State) (hd : s.toDev.Kept kof) (h : execFunctionLevelReset q f s = .next s') :
    s'.pending = s.pending ∧ s'.toDev.Kept kof := by
  refine State.runHost_keeps h hd (fun d hd => ?_)
  repeat' first
    | with_reducible assumption
    | intro _
    | with_reducible apply Dev.whenFunc_keeps
    | with_reducible apply Dev.functionReset_keeps
    | simp only [keep_mk]
    | dsimp only
    | split

theorem execD3hotToD0_keeps {kof : KeptOf} (q : Fin 4) (f : Fin 256) (s : State) (s' : State) (hd : s.toDev.Kept kof) (h : execD3hotToD0 q f s = .next s') :
    s'.pending = s.pending ∧ s'.toDev.Kept kof := by
  refine State.runHost_keeps h hd (fun d hd => ?_)
  repeat' first
    | with_reducible assumption
    | intro _
    | with_reducible apply Dev.whenFunc_keeps
    | with_reducible apply Dev.functionReset_keeps
    | simp only [keep_mk]
    | dsimp only
    | split

theorem execHostLinkDown_keeps {kof : KeptOf} (q : Fin 4) (hot : Bool) (s : State) (s' : State) (hd : s.toDev.Kept kof) (h : execHostLinkDown q hot s = .next s') :
    s'.pending = s.pending ∧ s'.toDev.Kept kof := by
  refine State.runHost_keeps h hd (fun d hd => ?_)
  repeat' first
    | with_reducible assumption
    | intro _
    | with_reducible apply Dev.hostLinkDown_keeps
    | simp only [keep_mk]
    | dsimp only
    | split

theorem execHostLinkUp_keeps {kof : KeptOf} (q : Fin 4) (rate : Nat) (width : Nat) (flit : Bool) (sris : Bool) (s : State) (s' : State) (hd : s.toDev.Kept kof) (h : execHostLinkUp q rate width flit sris s = .next s') :
    s'.pending = s.pending ∧ s'.toDev.Kept kof := by
  refine State.runHost_keeps h hd (fun d hd => ?_)
  repeat' first
    | with_reducible assumption
    | intro _
    | with_reducible apply Dev.hostTrained_keeps
    | simp only [keep_mk]
    | dsimp only
    | split

theorem execFnqWrite_keeps {kof : KeptOf} (q : Fin 4) (f : Fin 256) (k : Fin 4) (v : Word) (s : State) (s' : State) (hd : s.toDev.Kept kof) (h : execFnqWrite q f k v s = .next s') :
    s'.pending = s.pending ∧ s'.toDev.Kept kof := by
  refine State.runHost_keeps h hd (fun d hd => ?_)
  repeat' first
    | with_reducible assumption
    | intro _
    | with_reducible apply Dev.fnqWrite_keeps
    | simp only [keep_mk]
    | dsimp only
    | split

theorem execConfigurationRequest_keeps {kof : KeptOf} (q : Fin 4) (s : State) (s' : State) (hd : s.toDev.Kept kof) (h : execConfigurationRequest q s = .next s') :
    s'.pending = s.pending ∧ s'.toDev.Kept kof := by
  refine State.runHost_keeps h hd (fun d hd => ?_)
  repeat' first
    | with_reducible assumption
    | intro _
    | with_reducible apply Dev.configRequest_keeps
    | simp only [keep_mk]
    | dsimp only
    | split

theorem execHostPortInternalError_keeps {kof : KeptOf} (q : Fin 4) (s : State) (s' : State) (hd : s.toDev.Kept kof) (h : execHostPortInternalError q s = .next s') :
    s'.pending = s.pending ∧ s'.toDev.Kept kof := by
  refine State.runHost_keeps h hd (fun d hd => ?_)
  repeat' first
    | with_reducible assumption
    | intro _
    | with_reducible apply Dev.hostInternal_keeps
    | simp only [keep_mk]
    | dsimp only
    | split

theorem execOpenConn_keeps {kof : KeptOf} (q : Fin 4) (f : Fin 256) (v : Word) (s : State) (s' : State) (hd : s.toDev.Kept kof) (h : execOpenConn q f v s = .next s') :
    s'.pending = s.pending ∧ s'.toDev.Kept kof := by
  refine State.runHost_keeps h hd (fun d hd => ?_)
  repeat' first
    | with_reducible assumption
    | intro _
    | with_reducible apply Dev.openConn_keeps
    | simp only [keep_mk]
    | dsimp only
    | split

theorem execCloseConn_keeps {kof : KeptOf} (q : Fin 4) (f : Fin 256) (v : Word) (s : State) (s' : State) (hd : s.toDev.Kept kof) (h : execCloseConn q f v s = .next s') :
    s'.pending = s.pending ∧ s'.toDev.Kept kof := by
  refine State.runHost_keeps h hd (fun d hd => ?_)
  repeat' first
    | with_reducible assumption
    | intro _
    | with_reducible apply Dev.closeConn_keeps
    | simp only [keep_mk]
    | dsimp only
    | split

theorem execConnectionFree_keeps {kof : KeptOf} (c : Nat) (s : State) (s' : State) (hd : s.toDev.Kept kof) (h : execConnectionFree c s = .next s') :
    s'.pending = s.pending ∧ s'.toDev.Kept kof := by
  refine State.runHost_keeps h hd (fun d hd => ?_)
  repeat' first
    | with_reducible assumption
    | intro _
    | with_reducible apply Dev.connectionFree_keeps
    | simp only [keep_mk]
    | dsimp only
    | split

theorem execQueryConn_keeps {kof : KeptOf} (q : Fin 4) (f : Fin 256) (v : Word) (s : State) (s' : State) (hd : s.toDev.Kept kof) (h : execQueryConn q f v s = .next s') :
    s'.pending = s.pending ∧ s'.toDev.Kept kof := by
  refine State.runHost_keeps h hd (fun d hd => ?_)
  repeat' first
    | with_reducible assumption
    | intro _
    | with_reducible apply Dev.queryConn_keeps
    | simp only [keep_mk]
    | dsimp only
    | split

theorem execRegisterRegion_keeps {kof : KeptOf} (q : Fin 4) (f : Fin 256) (v : Word) (s : State) (s' : State) (hd : s.toDev.Kept kof) (h : execRegisterRegion q f v s = .next s') :
    s'.pending = s.pending ∧ s'.toDev.Kept kof := by
  refine State.runHost_keeps h hd (fun d hd => ?_)
  repeat' first
    | with_reducible assumption
    | intro _
    | with_reducible apply Dev.registerRegion_keeps
    | simp only [keep_mk]
    | dsimp only
    | split

theorem execRevokeRegion_keeps {kof : KeptOf} (q : Fin 4) (f : Fin 256) (v : Word) (s : State) (s' : State) (hd : s.toDev.Kept kof) (h : execRevokeRegion q f v s = .next s') :
    s'.pending = s.pending ∧ s'.toDev.Kept kof := by
  refine State.runHost_keeps h hd (fun d hd => ?_)
  repeat' first
    | with_reducible assumption
    | intro _
    | with_reducible apply Dev.revokeRegion_keeps
    | simp only [keep_mk]
    | dsimp only
    | split

theorem execRevokeDone_keeps {kof : KeptOf} (q : Fin 4) (n : Fin 262144) (s : State) (s' : State) (hd : s.toDev.Kept kof) (h : execRevokeDone q n s = .next s') :
    s'.pending = s.pending ∧ s'.toDev.Kept kof := by
  refine State.runHost_keeps h hd (fun d hd => ?_)
  repeat' first
    | with_reducible assumption
    | intro _
    | with_reducible apply Dev.revokeEnds_keeps
    | simp only [keep_mk]
    | dsimp only
    | split

theorem execQueryReg_keeps {kof : KeptOf} (q : Fin 4) (f : Fin 256) (v : Word) (s : State) (s' : State) (hd : s.toDev.Kept kof) (h : execQueryReg q f v s = .next s') :
    s'.pending = s.pending ∧ s'.toDev.Kept kof := by
  refine State.runHost_keeps h hd (fun d hd => ?_)
  repeat' first
    | with_reducible assumption
    | intro _
    | with_reducible apply Dev.queryReg_keeps
    | simp only [keep_mk]
    | dsimp only
    | split

theorem execRmxPut_keeps {kof : KeptOf} (q : Fin 4) (k : Machine.Packet) (s : State) (s' : State) (hd : s.toDev.Kept kof) (h : execRmxPut q k s = .next s') :
    s'.pending = s.pending ∧ s'.toDev.Kept kof := by
  refine State.runHost_keeps h hd (fun d hd => ?_)
  repeat' first
    | with_reducible assumption
    | intro _
    | with_reducible apply Dev.meshFree_keeps
    | with_reducible apply Dev.rmxArrive_keeps
    | simp only [keep_mk]
    | dsimp only
    | split

theorem execGetReq_keeps {kof : KeptOf} (q : Fin 4) (k : Machine.Packet) (s : State) (s' : State) (hd : s.toDev.Kept kof) (h : execGetReq q k s = .next s') :
    s'.pending = s.pending ∧ s'.toDev.Kept kof := by
  refine State.runHost_keeps h hd (fun d hd => ?_)
  repeat' first
    | with_reducible assumption
    | intro _
    | with_reducible apply Dev.meshFree_keeps
    | with_reducible apply Dev.rmxArrive_keeps
    | simp only [keep_mk]
    | dsimp only
    | split

theorem execAtomic_keeps {kof : KeptOf} (q : Fin 4) (k : Machine.Packet) (s : State) (s' : State) (hd : s.toDev.Kept kof) (h : execAtomic q k s = .next s') :
    s'.pending = s.pending ∧ s'.toDev.Kept kof := by
  refine State.runHost_keeps h hd (fun d hd => ?_)
  repeat' first
    | with_reducible assumption
    | intro _
    | with_reducible apply Dev.meshFree_keeps
    | with_reducible apply Dev.rmxArrive_keeps
    | simp only [keep_mk]
    | dsimp only
    | split

theorem execPutCtr_keeps {kof : KeptOf} (q : Fin 4) (k : Machine.Packet) (s : State) (s' : State) (hd : s.toDev.Kept kof) (h : execPutCtr q k s = .next s') :
    s'.pending = s.pending ∧ s'.toDev.Kept kof := by
  refine State.runHost_keeps h hd (fun d hd => ?_)
  repeat' first
    | with_reducible assumption
    | intro _
    | with_reducible apply Dev.meshFree_keeps
    | with_reducible apply Dev.rmxArrive_keeps
    | simp only [keep_mk]
    | dsimp only
    | split

theorem execHostReadComplete_keeps {kof : KeptOf} (tag : Nat) (ok : Bool) (data : List Byte) (s : State) (s' : State) (hd : s.toDev.Kept kof) (h : execHostReadComplete tag ok data s = .next s') :
    s'.pending = s.pending ∧ s'.toDev.Kept kof := by
  refine State.runHost_keeps h hd (fun d hd => ?_)
  repeat' first
    | with_reducible assumption
    | intro _
    | with_reducible apply Dev.serveDone_keeps
    | simp only [keep_mk]
    | dsimp only
    | split

theorem execHostAtomicComplete_keeps {kof : KeptOf} (tag : Nat) (ok : Bool) (data : List Byte) (s : State) (s' : State) (hd : s.toDev.Kept kof) (h : execHostAtomicComplete tag ok data s = .next s') :
    s'.pending = s.pending ∧ s'.toDev.Kept kof := by
  refine State.runHost_keeps h hd (fun d hd => ?_)
  repeat' first
    | with_reducible assumption
    | intro _
    | with_reducible apply Dev.serveDone_keeps
    | simp only [keep_mk]
    | dsimp only
    | split

theorem execAckDelayExpiry_keeps {kof : KeptOf} (c : Nat) (tc : Nat) (s : State) (s' : State) (hd : s.toDev.Kept kof) (h : execAckDelayExpiry c tc s = .next s') :
    s'.pending = s.pending ∧ s'.toDev.Kept kof := by
  refine State.runHost_keeps h hd (fun d hd => ?_)
  repeat' first
    | with_reducible assumption
    | intro _
    | with_reducible apply Dev.ackDelay_keeps
    | simp only [keep_mk]
    | dsimp only
    | split

theorem execRmxAck_keeps {kof : KeptOf} (q : Fin 4) (k : Machine.Packet) (s : State) (s' : State) (hd : s.toDev.Kept kof) (h : execRmxAck q k s = .next s') :
    s'.pending = s.pending ∧ s'.toDev.Kept kof := by
  refine State.runHost_keeps h hd (fun d hd => ?_)
  repeat' first
    | with_reducible assumption
    | intro _
    | with_reducible apply Dev.ackIn_keeps
    | simp only [keep_mk]
    | dsimp only
    | split

theorem execRmxNack_keeps {kof : KeptOf} (q : Fin 4) (k : Machine.Packet) (s : State) (s' : State) (hd : s.toDev.Kept kof) (h : execRmxNack q k s = .next s') :
    s'.pending = s.pending ∧ s'.toDev.Kept kof := by
  refine State.runHost_keeps h hd (fun d hd => ?_)
  repeat' first
    | with_reducible assumption
    | intro _
    | with_reducible apply Dev.nackIn_keeps
    | simp only [keep_mk]
    | dsimp only
    | split

theorem execGetRsp_keeps {kof : KeptOf} (q : Fin 4) (k : Machine.Packet) (s : State) (s' : State) (hd : s.toDev.Kept kof) (h : execGetRsp q k s = .next s') :
    s'.pending = s.pending ∧ s'.toDev.Kept kof := by
  refine State.runHost_keeps h hd (fun d hd => ?_)
  repeat' first
    | with_reducible assumption
    | intro _
    | with_reducible apply Dev.meshFree_keeps
    | with_reducible apply Dev.getRspIn_keeps
    | simp only [keep_mk]
    | dsimp only
    | split

theorem execAtomicRsp_keeps {kof : KeptOf} (q : Fin 4) (k : Machine.Packet) (s : State) (s' : State) (hd : s.toDev.Kept kof) (h : execAtomicRsp q k s = .next s') :
    s'.pending = s.pending ∧ s'.toDev.Kept kof := by
  refine State.runHost_keeps h hd (fun d hd => ?_)
  repeat' first
    | with_reducible assumption
    | intro _
    | with_reducible apply Dev.atomicRspIn_keeps
    | simp only [keep_mk]
    | dsimp only
    | split

theorem execRequestTimeout_keeps {kof : KeptOf} (c : Nat) (psn : Nat) (s : State) (s' : State) (hd : s.toDev.Kept kof) (h : execRequestTimeout c psn s = .next s') :
    s'.pending = s.pending ∧ s'.toDev.Kept kof := by
  refine State.runHost_keeps h hd (fun d hd => ?_)
  repeat' first
    | with_reducible assumption
    | intro _
    | with_reducible apply Dev.requestTimeout_keeps
    | simp only [keep_mk]
    | dsimp only
    | split

theorem execHintRetry_keeps {kof : KeptOf} (c : Nat) (psn : Nat) (s : State) (s' : State) (hd : s.toDev.Kept kof) (h : execHintRetry c psn s = .next s') :
    s'.pending = s.pending ∧ s'.toDev.Kept kof := by
  refine State.runHost_keeps h hd (fun d hd => ?_)
  repeat' first
    | with_reducible assumption
    | intro _
    | with_reducible apply Dev.hintRetry_keeps
    | simp only [keep_mk]
    | dsimp only
    | split

theorem execPacingEligible_keeps {kof : KeptOf} (c : Nat) (s : State) (s' : State) (hd : s.toDev.Kept kof) (h : execPacingEligible c s = .next s') :
    s'.pending = s.pending ∧ s'.toDev.Kept kof := by
  refine State.runHost_keeps h hd (fun d hd => ?_)
  repeat' first
    | with_reducible assumption
    | intro _
    | with_reducible apply Dev.sendNext_keeps
    | simp only [keep_mk]
    | dsimp only
    | split

theorem execInitiatorReadComplete_keeps {kof : KeptOf} (tag : Nat) (ok : Bool) (data : List Byte) (s : State) (s' : State) (hd : s.toDev.Kept kof) (h : execInitiatorReadComplete tag ok data s = .next s') :
    s'.pending = s.pending ∧ s'.toDev.Kept kof := by
  refine State.runHost_keeps h hd (fun d hd => ?_)
  repeat' first
    | with_reducible assumption
    | intro _
    | with_reducible apply Dev.initiatorRead_keeps
    | simp only [keep_mk]
    | dsimp only
    | split

theorem execRmxFnresWrite_keeps {kof : KeptOf} (q : Fin 4) (f : Fin 256) (kind : Fin 3) (v : Word) (s : State) (s' : State) (hd : s.toDev.Kept kof) (h : execRmxFnresWrite q f kind v s = .next s') :
    s'.pending = s.pending ∧ s'.toDev.Kept kof := by
  refine State.runHost_keeps h hd (fun d hd => ?_)
  repeat' first
    | with_reducible assumption
    | intro _
    | with_reducible apply Dev.fnresWrite_keeps
    | simp only [keep_mk]
    | dsimp only
    | split

theorem execMtcSend_keeps {kof : KeptOf} (q : Fin 4) (k : Machine.Packet) (s : State) (s' : State) (hd : s.toDev.Kept kof) (h : execMtcSend q k s = .next s') :
    s'.pending = s.pending ∧ s'.toDev.Kept kof := by
  refine State.runHost_keeps h hd (fun d hd => ?_)
  repeat' first
    | with_reducible assumption
    | intro _
    | with_reducible apply Dev.meshFree_keeps
    | with_reducible apply Dev.mtcArrive_keeps
    | simp only [keep_mk]
    | dsimp only
    | split

theorem execSendData_keeps {kof : KeptOf} (q : Fin 4) (k : Machine.Packet) (s : State) (s' : State) (hd : s.toDev.Kept kof) (h : execSendData q k s = .next s') :
    s'.pending = s.pending ∧ s'.toDev.Kept kof := by
  refine State.runHost_keeps h hd (fun d hd => ?_)
  repeat' first
    | with_reducible assumption
    | intro _
    | with_reducible apply Dev.meshFree_keeps
    | with_reducible apply Dev.mtcArrive_keeps
    | simp only [keep_mk]
    | dsimp only
    | split

theorem execRndvRts_keeps {kof : KeptOf} (q : Fin 4) (k : Machine.Packet) (s : State) (s' : State) (hd : s.toDev.Kept kof) (h : execRndvRts q k s = .next s') :
    s'.pending = s.pending ∧ s'.toDev.Kept kof := by
  refine State.runHost_keeps h hd (fun d hd => ?_)
  repeat' first
    | with_reducible assumption
    | intro _
    | with_reducible apply Dev.meshFree_keeps
    | with_reducible apply Dev.mtcArrive_keeps
    | simp only [keep_mk]
    | dsimp only
    | split

theorem execRndvFin_keeps {kof : KeptOf} (q : Fin 4) (k : Machine.Packet) (s : State) (s' : State) (hd : s.toDev.Kept kof) (h : execRndvFin q k s = .next s') :
    s'.pending = s.pending ∧ s'.toDev.Kept kof := by
  refine State.runHost_keeps h hd (fun d hd => ?_)
  repeat' first
    | with_reducible assumption
    | intro _
    | with_reducible apply Dev.meshFree_keeps
    | with_reducible apply Dev.mtcArrive_keeps
    | simp only [keep_mk]
    | dsimp only
    | split

theorem execUxCopyComplete_keeps {kof : KeptOf} (tag : Nat) (ok : Bool) (data : List Byte) (s : State) (s' : State) (hd : s.toDev.Kept kof) (h : execUxCopyComplete tag ok data s = .next s') :
    s'.pending = s.pending ∧ s'.toDev.Kept kof := by
  refine State.runHost_keeps h hd (fun d hd => ?_)
  repeat' first
    | with_reducible assumption
    | intro _
    | with_reducible apply Dev.uxCopyComplete_keeps
    | simp only [keep_mk]
    | dsimp only
    | split

theorem execRndvRegionFree_keeps {kof : KeptOf} (q : Fin 4) (f : Fin 256) (s : State) (s' : State) (hd : s.toDev.Kept kof) (h : execRndvRegionFree q f s = .next s') :
    s'.pending = s.pending ∧ s'.toDev.Kept kof := by
  refine State.runHost_keeps h hd (fun d hd => ?_)
  repeat' first
    | with_reducible assumption
    | intro _
    | with_reducible apply Dev.rndvFree_keeps
    | simp only [keep_mk]
    | dsimp only
    | split

theorem execMtcPurge_keeps {kof : KeptOf} (q : Fin 4) (f : Fin 256) (s : State) (s' : State) (hd : s.toDev.Kept kof) (h : execMtcPurge q f s = .next s') :
    s'.pending = s.pending ∧ s'.toDev.Kept kof := by
  refine State.runHost_keeps h hd (fun d hd => ?_)
  repeat' first
    | with_reducible assumption
    | intro _
    | with_reducible apply Dev.purge_keeps
    | simp only [keep_mk]
    | dsimp only
    | split

theorem execMtcFnrndvWrite_keeps {kof : KeptOf} (q : Fin 4) (f : Fin 256) (v : Word) (s : State) (s' : State) (hd : s.toDev.Kept kof) (h : execMtcFnrndvWrite q f v s = .next s') :
    s'.pending = s.pending ∧ s'.toDev.Kept kof := by
  refine State.runHost_keeps h hd (fun d hd => ?_)
  repeat' first
    | with_reducible assumption
    | intro _
    | with_reducible apply Dev.fnrndvWrite_keeps
    | simp only [keep_mk]
    | dsimp only
    | split

theorem execHandlerMiss_keeps {kof : KeptOf} (q : Fin 4) (slot : Fin 256) (s : State) (s' : State) (hd : s.toDev.Kept kof) (h : execHandlerMiss q slot s = .next s') :
    s'.pending = s.pending ∧ s'.toDev.Kept kof := by
  refine State.runHost_keeps h hd (fun d hd => ?_)
  repeat' first
    | with_reducible assumption
    | intro _
    | with_reducible apply Dev.meshFree_keeps
    | with_reducible apply Dev.handlerMiss_keeps
    | simp only [keep_mk]
    | dsimp only
    | split

theorem execHandlerMark_keeps {kof : KeptOf} (q : Fin 4) (slot : Fin 256) (found : Word) (s : State) (s' : State) (hd : s.toDev.Kept kof) (h : execHandlerMark q slot found s = .next s') :
    s'.pending = s.pending ∧ s'.toDev.Kept kof := by
  refine State.runHost_keeps h hd (fun d hd => ?_)
  repeat' first
    | with_reducible assumption
    | intro _
    | with_reducible apply Dev.meshFree_keeps
    | with_reducible apply Dev.handlerMark_keeps
    | simp only [keep_mk]
    | dsimp only
    | split

theorem execWalkReadComplete_keeps {kof : KeptOf} (tag : Nat) (ok : Bool) (x : Word) (s : State) (s' : State) (hd : s.toDev.Kept kof) (h : execWalkReadComplete tag ok x s = .next s') :
    s'.pending = s.pending ∧ s'.toDev.Kept kof := by
  refine State.runHost_keeps h hd (fun d hd => ?_)
  repeat' first
    | with_reducible assumption
    | intro _
    | with_reducible apply Dev.walkReadDone_keeps
    | simp only [keep_mk]
    | dsimp only
    | split

theorem execTrapRetry_keeps {kof : KeptOf} (q : Fin 4) (id : Fin 65536) (s : State) (s' : State) (hd : s.toDev.Kept kof) (h : execTrapRetry q id s = .next s') :
    s'.pending = s.pending ∧ s'.toDev.Kept kof := by
  refine State.runHost_keeps h hd (fun d hd => ?_)
  repeat' first
    | with_reducible assumption
    | intro _
    | with_reducible apply Dev.resolveTrap_keeps
    | with_reducible apply Dev.slotRetry_keeps
    | simp only [keep_mk]
    | dsimp only
    | split

theorem execTrapNotPresent_keeps {kof : KeptOf} (q : Fin 4) (id : Fin 65536) (hint : Fin 65536) (s : State) (s' : State) (hd : s.toDev.Kept kof) (h : execTrapNotPresent q id hint s = .next s') :
    s'.pending = s.pending ∧ s'.toDev.Kept kof := by
  refine State.runHost_keeps h hd (fun d hd => ?_)
  repeat' first
    | with_reducible assumption
    | intro _
    | with_reducible apply Dev.resolveTrap_keeps
    | with_reducible apply Dev.slotAbsent_keeps
    | simp only [keep_mk]
    | dsimp only
    | split

theorem execTrapWalkError_keeps {kof : KeptOf} (q : Fin 4) (id : Fin 65536) (s : State) (s' : State) (hd : s.toDev.Kept kof) (h : execTrapWalkError q id s = .next s') :
    s'.pending = s.pending ∧ s'.toDev.Kept kof := by
  refine State.runHost_keeps h hd (fun d hd => ?_)
  repeat' first
    | with_reducible assumption
    | intro _
    | with_reducible apply Dev.resolveTrap_keeps
    | with_reducible apply Dev.slotFail_keeps
    | simp only [keep_mk]
    | dsimp only
    | split

theorem execTrapNotPermitted_keeps {kof : KeptOf} (q : Fin 4) (id : Fin 65536) (s : State) (s' : State) (hd : s.toDev.Kept kof) (h : execTrapNotPermitted q id s = .next s') :
    s'.pending = s.pending ∧ s'.toDev.Kept kof := by
  refine State.runHost_keeps h hd (fun d hd => ?_)
  repeat' first
    | with_reducible assumption
    | intro _
    | with_reducible apply Dev.resolveTrap_keeps
    | with_reducible apply Dev.slotFail_keeps
    | simp only [keep_mk]
    | dsimp only
    | split

theorem execTwaitTimeout_keeps {kof : KeptOf} (q : Fin 4) (slot : Fin 256) (s : State) (s' : State) (hd : s.toDev.Kept kof) (h : execTwaitTimeout q slot s = .next s') :
    s'.pending = s.pending ∧ s'.toDev.Kept kof := by
  refine State.runHost_keeps h hd (fun d hd => ?_)
  repeat' first
    | with_reducible assumption
    | intro _
    | with_reducible apply Dev.twaitTimeout_keeps
    | simp only [keep_mk]
    | dsimp only
    | split

theorem execTrapHintRetry_keeps {kof : KeptOf} (q : Fin 4) (slot : Fin 256) (s : State) (s' : State) (hd : s.toDev.Kept kof) (h : execTrapHintRetry q slot s = .next s') :
    s'.pending = s.pending ∧ s'.toDev.Kept kof := by
  refine State.runHost_keeps h hd (fun d hd => ?_)
  repeat' first
    | with_reducible assumption
    | intro _
    | with_reducible apply Dev.trapHintRetry_keeps
    | simp only [keep_mk]
    | dsimp only
    | split

theorem execXltLoad_keeps {kof : KeptOf} (q : Fin 4) (s : State) (s' : State) (hd : s.toDev.Kept kof) (h : execXltLoad q s = .next s') :
    s'.pending = s.pending ∧ s'.toDev.Kept kof := by
  refine State.runHost_keeps h hd (fun d hd => ?_)
  repeat' first
    | with_reducible assumption
    | intro _
    | with_reducible apply Dev.xltLoad_keeps
    | simp only [keep_mk]
    | dsimp only
    | split

theorem execXltRemove_keeps {kof : KeptOf} (q : Fin 4) (s : State) (s' : State) (hd : s.toDev.Kept kof) (h : execXltRemove q s = .next s') :
    s'.pending = s.pending ∧ s'.toDev.Kept kof := by
  refine State.runHost_keeps h hd (fun d hd => ?_)
  repeat' first
    | with_reducible assumption
    | intro _
    | with_reducible apply Dev.xltRemove_keeps
    | simp only [keep_mk]
    | dsimp only
    | split

theorem execXltMap_keeps {kof : KeptOf} (q : Fin 4) (f : Fin 256) (s : State) (s' : State) (hd : s.toDev.Kept kof) (h : execXltMap q f s = .next s') :
    s'.pending = s.pending ∧ s'.toDev.Kept kof := by
  refine State.runHost_keeps h hd (fun d hd => ?_)
  repeat' first
    | with_reducible assumption
    | intro _
    | with_reducible apply Dev.xltMap_keeps
    | simp only [keep_mk]
    | dsimp only
    | split

theorem execXltUnmap_keeps {kof : KeptOf} (q : Fin 4) (f : Fin 256) (s : State) (s' : State) (hd : s.toDev.Kept kof) (h : execXltUnmap q f s = .next s') :
    s'.pending = s.pending ∧ s'.toDev.Kept kof := by
  refine State.runHost_keeps h hd (fun d hd => ?_)
  repeat' first
    | with_reducible assumption
    | intro _
    | with_reducible apply Dev.xltUnmap_keeps
    | simp only [keep_mk]
    | dsimp only
    | split

theorem execXltInval_keeps {kof : KeptOf} (q : Fin 4) (f : Fin 256) (s : State) (s' : State) (hd : s.toDev.Kept kof) (h : execXltInval q f s = .next s') :
    s'.pending = s.pending ∧ s'.toDev.Kept kof := by
  refine State.runHost_keeps h hd (fun d hd => ?_)
  repeat' first
    | with_reducible assumption
    | intro _
    | with_reducible apply Dev.xltInval_keeps
    | simp only [keep_mk]
    | dsimp only
    | split

theorem execXltInvalSpace_keeps {kof : KeptOf} (q : Fin 4) (f : Fin 256) (s : State) (s' : State) (hd : s.toDev.Kept kof) (h : execXltInvalSpace q f s = .next s') :
    s'.pending = s.pending ∧ s'.toDev.Kept kof := by
  refine State.runHost_keeps h hd (fun d hd => ?_)
  repeat' first
    | with_reducible assumption
    | intro _
    | with_reducible apply Dev.xltInvalSpace_keeps
    | simp only [keep_mk]
    | dsimp only
    | split

theorem execXltInvalComplete_keeps {kof : KeptOf} (q : Fin 4) (f : Fin 256) (s : State) (s' : State) (hd : s.toDev.Kept kof) (h : execXltInvalComplete q f s = .next s') :
    s'.pending = s.pending ∧ s'.toDev.Kept kof := by
  refine State.runHost_keeps h hd (fun d hd => ?_)
  repeat' first
    | with_reducible assumption
    | intro _
    | with_reducible apply Dev.invalComplete_keeps
    | simp only [keep_mk]
    | dsimp only
    | split

theorem execPgResp_keeps {kof : KeptOf} (q : Fin 4) (f : Fin 256) (s : State) (s' : State) (hd : s.toDev.Kept kof) (h : execPgResp q f s = .next s') :
    s'.pending = s.pending ∧ s'.toDev.Kept kof := by
  refine State.runHost_keeps h hd (fun d hd => ?_)
  repeat' first
    | with_reducible assumption
    | intro _
    | with_reducible apply Dev.pgResp_keeps
    | simp only [keep_mk]
    | dsimp only
    | split

theorem execPageRequestTimeout_keeps {kof : KeptOf} (q : Fin 4) (id : Nat) (s : State) (s' : State) (hd : s.toDev.Kept kof) (h : execPageRequestTimeout q id s = .next s') :
    s'.pending = s.pending ∧ s'.toDev.Kept kof := by
  refine State.runHost_keeps h hd (fun d hd => ?_)
  repeat' first
    | with_reducible assumption
    | intro _
    | with_reducible apply Dev.pageRequestTimeout_keeps
    | simp only [keep_mk]
    | dsimp only
    | split

theorem execXltSpaceWrite_keeps {kof : KeptOf} (q : Fin 4) (n : Fin 4096) (root : Bool) (v : Word) (s : State) (s' : State) (hd : s.toDev.Kept kof) (h : execXltSpaceWrite q n root v s = .next s') :
    s'.pending = s.pending ∧ s'.toDev.Kept kof := by
  refine State.runHost_keeps h hd (fun d hd => ?_)
  repeat' first
    | with_reducible assumption
    | intro _
    | with_reducible apply Dev.spaceWrite_keeps
    | simp only [keep_mk]
    | dsimp only
    | split

theorem execMeshMessage_keeps {kof : KeptOf} (m : Machine.MeshMsg) (ecc : Fin 3) (s : State) (s' : State) (hd : s.toDev.Kept kof) (h : execMeshMessage m ecc s = .next s') :
    s'.pending = s.pending ∧ s'.toDev.Kept kof := by
  refine State.run_keeps h hd (fun d hd => ?_)
  repeat' first
    | with_reducible assumption
    | intro _
    | with_reducible apply Dev.meshMessage_keeps
    | simp only [keep_mk]
    | dsimp only
    | split

theorem execGatewayMessage_keeps {kof : KeptOf} (m : Machine.MeshMsg) (ecc : Fin 3) (s : State) (s' : State) (hd : s.toDev.Kept kof) (h : execGatewayMessage m ecc s = .next s') :
    s'.pending = s.pending ∧ s'.toDev.Kept kof := by
  refine State.run_keeps h hd (fun d hd => ?_)
  repeat' first
    | with_reducible assumption
    | intro _
    | with_reducible apply Dev.gatewayMessage_keeps
    | simp only [keep_mk]
    | dsimp only
    | split

theorem execMeshSwitch_keeps {kof : KeptOf} (q : Fin 4) (v : Word) (s : State) (s' : State) (hd : s.toDev.Kept kof) (h : execMeshSwitch q v s = .next s') :
    s'.pending = s.pending ∧ s'.toDev.Kept kof := by
  refine State.run_keeps h hd (fun d hd => ?_)
  repeat' first
    | with_reducible assumption
    | intro _
    | with_reducible apply Dev.switchWrite_keeps
    | simp only [keep_mk]
    | dsimp only
    | split

theorem execMeshQuiesced_keeps {kof : KeptOf} (q : Fin 4) (s : State) (s' : State) (hd : s.toDev.Kept kof) (h : execMeshQuiesced q s = .next s') :
    s'.pending = s.pending ∧ s'.toDev.Kept kof := by
  refine State.run_keeps h hd (fun d hd => ?_)
  repeat' first
    | with_reducible assumption
    | intro _
    | with_reducible apply Dev.meshQuiesced_keeps
    | simp only [keep_mk]
    | dsimp only
    | split

theorem execHoldmaxTimeout_keeps {kof : KeptOf} (q : Fin 4) (s : State) (s' : State) (hd : s.toDev.Kept kof) (h : execHoldmaxTimeout q s = .next s') :
    s'.pending = s.pending ∧ s'.toDev.Kept kof := by
  refine State.run_keeps h hd (fun d hd => ?_)
  repeat' first
    | with_reducible assumption
    | intro _
    | with_reducible apply Dev.holdmaxPasses_keeps
    | simp only [keep_mk]
    | dsimp only
    | split

theorem execRegulatorRelease_keeps {kof : KeptOf} (q : Fin 4) (node : Fin 25) (cls : Fin 4) (s : State) (s' : State) (hd : s.toDev.Kept kof) (h : execRegulatorRelease q node cls s = .next s') :
    s'.pending = s.pending ∧ s'.toDev.Kept kof := by
  refine State.run_keeps h hd (fun d hd => ?_)
  repeat' first
    | with_reducible assumption
    | intro _
    | with_reducible apply Dev.regulatorRelease_keeps
    | simp only [keep_mk]
    | dsimp only
    | split

theorem execChallengeRead_keeps {kof : KeptOf} (path : Path) (s : State) (s' : State) (hd : s.toDev.Kept kof) (h : execChallengeRead path s = .next s') :
    s'.pending = s.pending ∧ s'.toDev.Kept kof := by
  refine State.run_keeps h hd (fun d hd => ?_)
  repeat' first
    | with_reducible assumption
    | intro _
    | with_reducible apply Dev.emit_keeps
    | with_reducible apply Dev.challengeRead_keeps
    | simp only [keep_mk]
    | dsimp only
    | split

theorem execTokenPresent_keeps {kof : KeptOf} (q : Fin 4) (path : Path) (s : State) (s' : State) (hd : s.toDev.Kept kof) (h : execTokenPresent q path s = .next s') :
    s'.pending = s.pending ∧ s'.toDev.Kept kof := by
  refine State.run_keeps h hd (fun d hd => ?_)
  repeat' first
    | with_reducible assumption
    | intro _
    | with_reducible apply Dev.present_keeps
    | simp only [keep_mk]
    | dsimp only
    | split

theorem execTokenVerified_keeps {kof : KeptOf} (s : State) (s' : State) (hd : s.toDev.Kept kof) (h : execTokenVerified s = .next s') :
    s'.pending = s.pending ∧ s'.toDev.Kept kof := by
  refine State.run_keeps h hd (fun d hd => ?_)
  repeat' first
    | with_reducible assumption
    | intro _
    | with_reducible apply Dev.tokenVerified_keeps
    | simp only [keep_mk]
    | dsimp only
    | split

theorem execSetOpkey_keeps {kof : KeptOf} (q : Fin 4) (path : Path) (s : State) (s' : State) (hd : s.toDev.Kept kof) (h : execSetOpkey q path s = .next s') :
    s'.pending = s.pending ∧ s'.toDev.Kept kof := by
  refine State.run_keeps h hd (fun d hd => ?_)
  repeat' first
    | with_reducible assumption
    | intro _
    | with_reducible apply Dev.setOpkey_keeps
    | simp only [keep_mk]
    | dsimp only
    | split

theorem execDebugLower_keeps {kof : KeptOf} (level : Fin 4) (s : State) (s' : State) (hd : s.toDev.Kept kof) (h : execDebugLower level s = .next s') :
    s'.pending = s.pending ∧ s'.toDev.Kept kof := by
  refine State.run_keeps h hd (fun d hd => ?_)
  repeat' first
    | with_reducible assumption
    | intro _
    | with_reducible apply Dev.lowerLevel_keeps
    | simp only [keep_mk]
    | dsimp only
    | split

theorem execInstallConn_keeps {kof : KeptOf} (q : Fin 4) (owner : Fin 257) (v : Word) (s : State) (s' : State) (hd : s.toDev.Kept kof) (h : execInstallConn q owner v s = .next s') :
    s'.pending = s.pending ∧ s'.toDev.Kept kof := by
  refine State.run_keeps h hd (fun d hd => ?_)
  repeat' first
    | with_reducible assumption
    | intro _
    | with_reducible apply Dev.keyInstallConn_keeps
    | simp only [keep_mk]
    | dsimp only
    | split

theorem execInstallGroup_keeps {kof : KeptOf} (q : Fin 4) (owner : Fin 257) (v : Word) (s : State) (s' : State) (hd : s.toDev.Kept kof) (h : execInstallGroup q owner v s = .next s') :
    s'.pending = s.pending ∧ s'.toDev.Kept kof := by
  refine State.run_keeps h hd (fun d hd => ?_)
  repeat' first
    | with_reducible assumption
    | intro _
    | with_reducible apply Dev.keyInstallGroup_keeps
    | simp only [keep_mk]
    | dsimp only
    | split

theorem execKeyErase_keeps {kof : KeptOf} (q : Fin 4) (owner : Fin 257) (v : Word) (s : State) (s' : State) (hd : s.toDev.Kept kof) (h : execKeyErase q owner v s = .next s') :
    s'.pending = s.pending ∧ s'.toDev.Kept kof := by
  refine State.run_keeps h hd (fun d hd => ?_)
  repeat' first
    | with_reducible assumption
    | intro _
    | with_reducible apply Dev.keyEraseCmd_keeps
    | simp only [keep_mk]
    | dsimp only
    | split

theorem execEntropyFail_keeps {kof : KeptOf} (q : Fin 4) (s : State) (s' : State) (hd : s.toDev.Kept kof) (h : execEntropyFail q s = .next s') :
    s'.pending = s.pending ∧ s'.toDev.Kept kof := by
  refine State.run_keeps h hd (fun d hd => ?_)
  repeat' first
    | with_reducible assumption
    | intro _
    | with_reducible apply Dev.entropyFails_keeps
    | simp only [keep_mk]
    | dsimp only
    | split

theorem execEntropyRecover_keeps {kof : KeptOf} (q : Fin 4) (s : State) (s' : State) (hd : s.toDev.Kept kof) (h : execEntropyRecover q s = .next s') :
    s'.pending = s.pending ∧ s'.toDev.Kept kof := by
  refine State.run_keeps h hd (fun d hd => ?_)
  repeat' first
    | with_reducible assumption
    | intro _
    | with_reducible apply Dev.entropyRecovers_keeps
    | simp only [keep_mk]
    | dsimp only
    | split

theorem execWipeDone_keeps {kof : KeptOf} (scope : Nat) (die : Nat) (part : Nat) (s : State) (s' : State) (hd : s.toDev.Kept kof) (h : execWipeDone scope die part s = .next s') :
    s'.pending = s.pending ∧ s'.toDev.Kept kof := by
  refine State.run_keeps h hd (fun d hd => ?_)
  repeat' first
    | with_reducible assumption
    | intro _
    | with_reducible apply Dev.wipeDone_keeps
    | simp only [keep_mk]
    | dsimp only
    | split

theorem execFlashInit_keeps {kof : KeptOf} (ok : Bool) (s : State) (s' : State) (hd : s.toDev.Kept kof) (h : execFlashInit ok s = .next s') :
    s'.pending = s.pending ∧ s'.toDev.Kept kof := by
  refine State.run_keeps h hd (fun d hd => ?_)
  repeat' first
    | with_reducible assumption
    | intro _
    | with_reducible apply Dev.flashInit_keeps
    | simp only [keep_mk]
    | dsimp only
    | split

theorem execCandidateChosen_keeps {kof : KeptOf} (unread : List Nat) (s : State) (s' : State) (hd : s.toDev.Kept kof) (h : execCandidateChosen unread s = .next s') :
    s'.pending = s.pending ∧ s'.toDev.Kept kof := by
  refine State.run_keeps h hd (fun d hd => ?_)
  repeat' first
    | with_reducible assumption
    | intro _
    | with_reducible apply Dev.candidateChosen_keeps
    | simp only [keep_mk]
    | dsimp only
    | split

theorem execSaggarImageLoaded_keeps {kof : KeptOf} (ok : Bool) (s : State) (s' : State) (hd : s.toDev.Kept kof) (h : execSaggarImageLoaded ok s = .next s') :
    s'.pending = s.pending ∧ s'.toDev.Kept kof := by
  refine State.run_keeps h hd (fun d hd => ?_)
  repeat' first
    | with_reducible assumption
    | intro _
    | with_reducible apply Dev.saggarLoaded_keeps
    | simp only [keep_mk]
    | dsimp only
    | split

theorem execZoruriImageLoaded_keeps {kof : KeptOf} (ok : Bool) (s : State) (s' : State) (hd : s.toDev.Kept kof) (h : execZoruriImageLoaded ok s = .next s') :
    s'.pending = s.pending ∧ s'.toDev.Kept kof := by
  refine State.run_keeps h hd (fun d hd => ?_)
  repeat' first
    | with_reducible assumption
    | intro _
    | with_reducible apply Dev.zoruriLoaded_keeps
    | simp only [keep_mk]
    | dsimp only
    | split

theorem execCalibrationDone_keeps {kof : KeptOf} (q : Fin 4) (ports : List Nat) (lanes : Nat) (brgh : Nat) (brgv : Nat) (banks : List Nat) (chans : List Nat) (tables : Bool) (other : Bool) (s : State) (s' : State) (hd : s.toDev.Kept kof) (h : execCalibrationDone q ports lanes brgh brgv banks chans tables other s = .next s') :
    s'.pending = s.pending ∧ s'.toDev.Kept kof := by
  refine State.run_keeps h hd (fun d hd => ?_)
  repeat' first
    | with_reducible assumption
    | intro _
    | with_reducible apply Dev.calibrationDone_keeps
    | simp only [keep_mk]
    | dsimp only
    | split

theorem execPhaseRun_keeps {kof : KeptOf} (words : List Word) (s : State) (s' : State) (hd : s.toDev.Kept kof) (h : execPhaseRun words s = .next s') :
    s'.pending = s.pending ∧ s'.toDev.Kept kof := by
  refine State.run_keeps h hd (fun d hd => ?_)
  repeat' first
    | with_reducible assumption
    | intro _
    | with_reducible apply Dev.phaseRun_keeps
    | simp only [keep_mk]
    | dsimp only
    | split

theorem execDirectoryUpdateDone_keeps {kof : KeptOf} (s : State) (s' : State) (hd : s.toDev.Kept kof) (h : execDirectoryUpdateDone s = .next s') :
    s'.pending = s.pending ∧ s'.toDev.Kept kof := by
  refine State.run_keeps h hd (fun d hd => ?_)
  repeat' first
    | with_reducible assumption
    | intro _
    | with_reducible apply Dev.dirDone_keeps
    | simp only [keep_mk]
    | dsimp only
    | split

theorem execSlotTrialA_keeps {kof : KeptOf} (s : State) (s' : State) (hd : s.toDev.Kept kof) (h : execSlotTrialA s = .next s') :
    s'.pending = s.pending ∧ s'.toDev.Kept kof := by
  refine State.run_keeps h hd (fun d hd => ?_)
  repeat' first
    | with_reducible assumption
    | intro _
    | with_reducible apply Dev.slotFree_keeps
    | with_reducible apply Dev.slotTrial_keeps
    | simp only [keep_mk]
    | dsimp only
    | split

theorem execSlotTrialB_keeps {kof : KeptOf} (s : State) (s' : State) (hd : s.toDev.Kept kof) (h : execSlotTrialB s = .next s') :
    s'.pending = s.pending ∧ s'.toDev.Kept kof := by
  refine State.run_keeps h hd (fun d hd => ?_)
  repeat' first
    | with_reducible assumption
    | intro _
    | with_reducible apply Dev.slotFree_keeps
    | with_reducible apply Dev.slotTrial_keeps
    | simp only [keep_mk]
    | dsimp only
    | split

theorem execSlotCommit_keeps {kof : KeptOf} (path : Path) (s : State) (s' : State) (hd : s.toDev.Kept kof) (h : execSlotCommit path s = .next s') :
    s'.pending = s.pending ∧ s'.toDev.Kept kof := by
  refine State.run_keeps h hd (fun d hd => ?_)
  repeat' first
    | with_reducible assumption
    | intro _
    | with_reducible apply Dev.slotFree_keeps
    | with_reducible apply Dev.slotCommit_keeps
    | simp only [keep_mk]
    | dsimp only
    | split

theorem execSlotRevert_keeps {kof : KeptOf} (s : State) (s' : State) (hd : s.toDev.Kept kof) (h : execSlotRevert s = .next s') :
    s'.pending = s.pending ∧ s'.toDev.Kept kof := by
  refine State.run_keeps h hd (fun d hd => ?_)
  repeat' first
    | with_reducible assumption
    | intro _
    | with_reducible apply Dev.slotFree_keeps
    | with_reducible apply Dev.slotRevert_keeps
    | simp only [keep_mk]
    | dsimp only
    | split

theorem execSlotReboot_keeps {kof : KeptOf} (s : State) (s' : State) (hd : s.toDev.Kept kof) (h : execSlotReboot s = .next s') :
    s'.pending = s.pending ∧ s'.toDev.Kept kof := by
  refine State.run_keeps h hd (fun d hd => ?_)
  repeat' first
    | with_reducible assumption
    | intro _
    | with_reducible apply Dev.slotFree_keeps
    | with_reducible apply Dev.slotReboot_keeps
    | simp only [keep_mk]
    | dsimp only
    | split

theorem execTrialWatchdog_keeps {kof : KeptOf} (s : State) (s' : State) (hd : s.toDev.Kept kof) (h : execTrialWatchdog s = .next s') :
    s'.pending = s.pending ∧ s'.toDev.Kept kof := by
  refine State.run_keeps h hd (fun d hd => ?_)
  repeat' first
    | with_reducible assumption
    | intro _
    | with_reducible apply Dev.watchdogExpires_keeps
    | simp only [keep_mk]
    | dsimp only
    | split

theorem execAutocommit_keeps {kof : KeptOf} (s : State) (s' : State) (hd : s.toDev.Kept kof) (h : execAutocommit s = .next s') :
    s'.pending = s.pending ∧ s'.toDev.Kept kof := by
  refine State.run_keeps h hd (fun d hd => ?_)
  repeat' first
    | with_reducible assumption
    | intro _
    | with_reducible apply Dev.autocommit_keeps
    | simp only [keep_mk]
    | dsimp only
    | split

theorem execFlashRead_keeps {kof : KeptOf} (v : Word) (s : State) (s' : State) (hd : s.toDev.Kept kof) (h : execFlashRead v s = .next s') :
    s'.pending = s.pending ∧ s'.toDev.Kept kof := by
  refine State.run_keeps h hd (fun d hd => ?_)
  repeat' first
    | with_reducible assumption
    | intro _
    | with_reducible apply Dev.flashCommand_keeps
    | with_reducible apply Dev.flashRead_keeps
    | simp only [keep_mk]
    | dsimp only
    | split

theorem execFlashProgram_keeps {kof : KeptOf} (v : Word) (s : State) (s' : State) (hd : s.toDev.Kept kof) (h : execFlashProgram v s = .next s') :
    s'.pending = s.pending ∧ s'.toDev.Kept kof := by
  refine State.run_keeps h hd (fun d hd => ?_)
  repeat' first
    | with_reducible assumption
    | intro _
    | with_reducible apply Dev.flashCommand_keeps
    | with_reducible apply Dev.flashProgramCmd_keeps
    | simp only [keep_mk]
    | dsimp only
    | split

theorem execFlashErase_keeps {kof : KeptOf} (v : Word) (s : State) (s' : State) (hd : s.toDev.Kept kof) (h : execFlashErase v s = .next s') :
    s'.pending = s.pending ∧ s'.toDev.Kept kof := by
  refine State.run_keeps h hd (fun d hd => ?_)
  repeat' first
    | with_reducible assumption
    | intro _
    | with_reducible apply Dev.flashCommand_keeps
    | with_reducible apply Dev.flashEraseCmd_keeps
    | simp only [keep_mk]
    | dsimp only
    | split

theorem execFlashCmdDone_keeps {kof : KeptOf} (s : State) (s' : State) (hd : s.toDev.Kept kof) (h : execFlashCmdDone s = .next s') :
    s'.pending = s.pending ∧ s'.toDev.Kept kof := by
  refine State.run_keeps h hd (fun d hd => ?_)
  repeat' first
    | with_reducible assumption
    | intro _
    | with_reducible apply Dev.flashDone_keeps
    | simp only [keep_mk]
    | dsimp only
    | split

theorem execErgLinkSend_keeps {kof : KeptOf} (s : State) (s' : State) (hd : s.toDev.Kept kof) (h : execErgLinkSend s = .next s') :
    s'.pending = s.pending ∧ s'.toDev.Kept kof := by
  refine State.run_keeps h hd (fun d hd => ?_)
  repeat' first
    | with_reducible assumption
    | intro _
    | with_reducible apply Dev.linkSend_keeps
    | simp only [keep_mk]
    | dsimp only
    | split

theorem execErgRefresh_keeps {kof : KeptOf} (s : State) (s' : State) (hd : s.toDev.Kept kof) (h : execErgRefresh s = .next s') :
    s'.pending = s.pending ∧ s'.toDev.Kept kof := by
  refine State.run_keeps h hd (fun d hd => ?_)
  repeat' first
    | with_reducible assumption
    | intro _
    | with_reducible apply Dev.ergRefresh_keeps
    | simp only [keep_mk]
    | dsimp only
    | split

theorem execErgLink_keeps {kof : KeptOf} (p : Fin 512) (c : Ctrl) (b : Body) (s : State) (s' : State) (hd : s.toDev.Kept kof) (h : execErgLink p c b s = .next s') :
    s'.pending = s.pending ∧ s'.toDev.Kept kof := by
  refine State.run_keeps h hd (fun d hd => ?_)
  repeat' first
    | with_reducible assumption
    | intro _
    | with_reducible apply Dev.ergLink_keeps
    | simp only [keep_mk]
    | dsimp only
    | split

theorem execErgAssign_keeps {kof : KeptOf} (p : Fin 512) (c : Ctrl) (b : Body) (s : State) (s' : State) (hd : s.toDev.Kept kof) (h : execErgAssign p c b s = .next s') :
    s'.pending = s.pending ∧ s'.toDev.Kept kof := by
  refine State.run_keeps h hd (fun d hd => ?_)
  repeat' first
    | with_reducible assumption
    | intro _
    | with_reducible apply Dev.ergAssign_keeps
    | simp only [keep_mk]
    | dsimp only
    | split

theorem execErgClaim_keeps {kof : KeptOf} (p : Fin 512) (c : Ctrl) (b : Body) (s : State) (s' : State) (hd : s.toDev.Kept kof) (h : execErgClaim p c b s = .next s') :
    s'.pending = s.pending ∧ s'.toDev.Kept kof := by
  refine State.run_keeps h hd (fun d hd => ?_)
  repeat' first
    | with_reducible assumption
    | intro _
    | with_reducible apply Dev.ergClaim_keeps
    | simp only [keep_mk]
    | dsimp only
    | split

theorem execErgLsa_keeps {kof : KeptOf} (p : Fin 512) (c : Ctrl) (b : Body) (s : State) (s' : State) (hd : s.toDev.Kept kof) (h : execErgLsa p c b s = .next s') :
    s'.pending = s.pending ∧ s'.toDev.Kept kof := by
  refine State.run_keeps h hd (fun d hd => ?_)
  repeat' first
    | with_reducible assumption
    | intro _
    | with_reducible apply Dev.ergLsa_keeps
    | simp only [keep_mk]
    | dsimp only
    | split

theorem execErgGsum_keeps {kof : KeptOf} (p : Fin 512) (c : Ctrl) (b : Body) (s : State) (s' : State) (hd : s.toDev.Kept kof) (h : execErgGsum p c b s = .next s') :
    s'.pending = s.pending ∧ s'.toDev.Kept kof := by
  refine State.run_keeps h hd (fun d hd => ?_)
  repeat' first
    | with_reducible assumption
    | intro _
    | with_reducible apply Dev.ergGsum_keeps
    | simp only [keep_mk]
    | dsimp only
    | split

theorem execClaimWaitExpiry_keeps {kof : KeptOf} (s : State) (s' : State) (hd : s.toDev.Kept kof) (h : execClaimWaitExpiry s = .next s') :
    s'.pending = s.pending ∧ s'.toDev.Kept kof := by
  refine State.run_keeps h hd (fun d hd => ?_)
  repeat' first
    | with_reducible assumption
    | intro _
    | with_reducible apply Dev.claimWait_keeps
    | simp only [keep_mk]
    | dsimp only
    | split

theorem execSettleExpiry_keeps {kof : KeptOf} (ok : Bool) (need : Nat) (routes : List (Nat × Nat)) (psets : List (Nat × Nat)) (s : State) (s' : State) (hd : s.toDev.Kept kof) (h : execSettleExpiry ok need routes psets s = .next s') :
    s'.pending = s.pending ∧ s'.toDev.Kept kof := by
  refine State.run_keeps h hd (fun d hd => ?_)
  repeat' first
    | with_reducible assumption
    | intro _
    | with_reducible apply Dev.settleExpires_keeps
    | simp only [keep_mk]
    | dsimp only
    | split

theorem execNeighbourAbsent_keeps {kof : KeptOf} (p : Fin 512) (s : State) (s' : State) (hd : s.toDev.Kept kof) (h : execNeighbourAbsent p s = .next s') :
    s'.pending = s.pending ∧ s'.toDev.Kept kof := by
  refine State.run_keeps h hd (fun d hd => ?_)
  repeat' first
    | with_reducible assumption
    | intro _
    | with_reducible apply Dev.neighbourAbsent_keeps
    | simp only [keep_mk]
    | dsimp only
    | split

theorem execOriginExpiry_keeps {kof : KeptOf} (kind : Nat) (n : Nat) (s : State) (s' : State) (hd : s.toDev.Kept kof) (h : execOriginExpiry kind n s = .next s') :
    s'.pending = s.pending ∧ s'.toDev.Kept kof := by
  refine State.run_keeps h hd (fun d hd => ?_)
  repeat' first
    | with_reducible assumption
    | intro _
    | with_reducible apply Dev.originExpires_keeps
    | simp only [keep_mk]
    | dsimp only
    | split

theorem execMemberLost_keeps {kof : KeptOf} (m : Fin 64) (s : State) (s' : State) (hd : s.toDev.Kept kof) (h : execMemberLost m s = .next s') :
    s'.pending = s.pending ∧ s'.toDev.Kept kof := by
  refine State.run_keeps h hd (fun d hd => ?_)
  repeat' first
    | with_reducible assumption
    | intro _
    | with_reducible apply Dev.memberLost_keeps
    | simp only [keep_mk]
    | dsimp only
    | split

theorem execFwMsg_keeps {kof : KeptOf} (q : Fin 4) (k : Machine.Packet) (s : State) (s' : State) (hd : s.toDev.Kept kof) (h : execFwMsg q k s = .next s') :
    s'.pending = s.pending ∧ s'.toDev.Kept kof := by
  refine State.run_keeps h hd (fun d hd => ?_)
  repeat' first
    | with_reducible assumption
    | intro _
    | with_reducible apply Dev.fwMsgIn_keeps
    | simp only [keep_mk]
    | dsimp only
    | split

theorem execFwRsp_keeps {kof : KeptOf} (q : Fin 4) (k : Machine.Packet) (s : State) (s' : State) (hd : s.toDev.Kept kof) (h : execFwRsp q k s = .next s') :
    s'.pending = s.pending ∧ s'.toDev.Kept kof := by
  refine State.run_keeps h hd (fun d hd => ?_)
  repeat' first
    | with_reducible assumption
    | intro _
    | with_reducible apply Dev.fwRspIn_keeps
    | simp only [keep_mk]
    | dsimp only
    | split

theorem execCaravanJoin_keeps {kof : KeptOf} (s : State) (s' : State) (hd : s.toDev.Kept kof) (h : execCaravanJoin s = .next s') :
    s'.pending = s.pending ∧ s'.toDev.Kept kof := by
  refine State.run_keeps h hd (fun d hd => ?_)
  repeat' first
    | with_reducible assumption
    | intro _
    | with_reducible apply Dev.carFollow_keeps
    | simp only [keep_mk]
    | dsimp only
    | split

theorem execCaravanLockLoss_keeps {kof : KeptOf} (s : State) (s' : State) (hd : s.toDev.Kept kof) (h : execCaravanLockLoss s = .next s') :
    s'.pending = s.pending ∧ s'.toDev.Kept kof := by
  refine State.run_keeps h hd (fun d hd => ?_)
  repeat' first
    | with_reducible assumption
    | intro _
    | with_reducible apply Dev.carLockLoss_keeps
    | simp only [keep_mk]
    | dsimp only
    | split

theorem execCaravanLockTimeout_keeps {kof : KeptOf} (s : State) (s' : State) (hd : s.toDev.Kept kof) (h : execCaravanLockTimeout s = .next s') :
    s'.pending = s.pending ∧ s'.toDev.Kept kof := by
  refine State.run_keeps h hd (fun d hd => ?_)
  repeat' first
    | with_reducible assumption
    | intro _
    | with_reducible apply Dev.carLockTimeout_keeps
    | simp only [keep_mk]
    | dsimp only
    | split

theorem execCaravanElect_keeps {kof : KeptOf} (f : BitVec 256) (s : State) (s' : State) (hd : s.toDev.Kept kof) (h : execCaravanElect f s = .next s') :
    s'.pending = s.pending ∧ s'.toDev.Kept kof := by
  refine State.run_keeps h hd (fun d hd => ?_)
  repeat' first
    | with_reducible assumption
    | intro _
    | with_reducible apply Dev.ringElect_keeps
    | simp only [keep_mk]
    | dsimp only
    | split

theorem execCaravanPosition_keeps {kof : KeptOf} (f : BitVec 256) (s : State) (s' : State) (hd : s.toDev.Kept kof) (h : execCaravanPosition f s = .next s') :
    s'.pending = s.pending ∧ s'.toDev.Kept kof := by
  refine State.run_keeps h hd (fun d hd => ?_)
  repeat' first
    | with_reducible assumption
    | intro _
    | with_reducible apply Dev.ringPosition_keeps
    | simp only [keep_mk]
    | dsimp only
    | split

theorem execCaravanTime_keeps {kof : KeptOf} (f : BitVec 256) (res : Nat) (s : State) (s' : State) (hd : s.toDev.Kept kof) (h : execCaravanTime f res s = .next s') :
    s'.pending = s.pending ∧ s'.toDev.Kept kof := by
  refine State.run_keeps h hd (fun d hd => ?_)
  repeat' first
    | with_reducible assumption
    | intro _
    | with_reducible apply Dev.ringTime_keeps
    | simp only [keep_mk]
    | dsimp only
    | split

theorem execCaravanTimeSend_keeps {kof : KeptOf} (s : State) (s' : State) (hd : s.toDev.Kept kof) (h : execCaravanTimeSend s = .next s') :
    s'.pending = s.pending ∧ s'.toDev.Kept kof := by
  refine State.run_keeps h hd (fun d hd => ?_)
  repeat' first
    | with_reducible assumption
    | intro _
    | with_reducible apply Dev.ringTimeSend_keeps
    | simp only [keep_mk]
    | dsimp only
    | split

theorem execCaravanRead_keeps {kof : KeptOf} (f : BitVec 256) (s : State) (s' : State) (hd : s.toDev.Kept kof) (h : execCaravanRead f s = .next s') :
    s'.pending = s.pending ∧ s'.toDev.Kept kof := by
  refine State.run_keeps h hd (fun d hd => ?_)
  repeat' first
    | with_reducible assumption
    | intro _
    | with_reducible apply Dev.ringRead_keeps
    | simp only [keep_mk]
    | dsimp only
    | split

theorem execCaravanWrite_keeps {kof : KeptOf} (f : BitVec 256) (s : State) (s' : State) (hd : s.toDev.Kept kof) (h : execCaravanWrite f s = .next s') :
    s'.pending = s.pending ∧ s'.toDev.Kept kof := by
  refine State.run_keeps h hd (fun d hd => ?_)
  repeat' first
    | with_reducible assumption
    | intro _
    | with_reducible apply Dev.ringWriteIn_keeps
    | simp only [keep_mk]
    | dsimp only
    | split

theorem execCaravanResp_keeps {kof : KeptOf} (f : BitVec 256) (s : State) (s' : State) (hd : s.toDev.Kept kof) (h : execCaravanResp f s = .next s') :
    s'.pending = s.pending ∧ s'.toDev.Kept kof := by
  refine State.run_keeps h hd (fun d hd => ?_)
  repeat' first
    | with_reducible assumption
    | intro _
    | with_reducible apply Dev.ringResp_keeps
    | simp only [keep_mk]
    | dsimp only
    | split

theorem execOobRead_keeps {kof : KeptOf} (v : Word) (s : State) (s' : State) (hd : s.toDev.Kept kof) (h : execOobRead v s = .next s') :
    s'.pending = s.pending ∧ s'.toDev.Kept kof := by
  refine State.run_keeps h hd (fun d hd => ?_)
  repeat' first
    | with_reducible assumption
    | intro _
    | with_reducible apply Dev.oobStart_keeps
    | simp only [keep_mk]
    | dsimp only
    | split

theorem execOobWrite_keeps {kof : KeptOf} (v : Word) (s : State) (s' : State) (hd : s.toDev.Kept kof) (h : execOobWrite v s = .next s') :
    s'.pending = s.pending ∧ s'.toDev.Kept kof := by
  refine State.run_keeps h hd (fun d hd => ?_)
  repeat' first
    | with_reducible assumption
    | intro _
    | with_reducible apply Dev.oobStart_keeps
    | simp only [keep_mk]
    | dsimp only
    | split

theorem execOobTimeout_keeps {kof : KeptOf} (s : State) (s' : State) (hd : s.toDev.Kept kof) (h : execOobTimeout s = .next s') :
    s'.pending = s.pending ∧ s'.toDev.Kept kof := by
  refine State.run_keeps h hd (fun d hd => ?_)
  repeat' first
    | with_reducible assumption
    | intro _
    | with_reducible apply Dev.oobTimeout_keeps
    | simp only [keep_mk]
    | dsimp only
    | split

theorem execFallbackTrainingPattern_keeps {kof : KeptOf} (s : State) (s' : State) (hd : s.toDev.Kept kof) (h : execFallbackTrainingPattern s = .next s') :
    s'.pending = s.pending ∧ s'.toDev.Kept kof := by
  refine State.run_keeps h hd (fun d hd => ?_)
  repeat' first
    | with_reducible assumption
    | intro _
    | with_reducible apply Dev.carPattern_keeps
    | simp only [keep_mk]
    | dsimp only
    | split

theorem execVinWarn_keeps {kof : KeptOf} (mv : Nat) (s : State) (s' : State) (hd : s.toDev.Kept kof) (h : execVinWarn mv s = .next s') :
    s'.pending = s.pending ∧ s'.toDev.Kept kof := by
  refine State.runOasis_keeps h hd (fun d hd => ?_)
  repeat' first
    | with_reducible assumption
    | intro _
    | with_reducible apply Dev.vinWarn_keeps
    | simp only [keep_mk]
    | dsimp only
    | split

theorem execVinWarnRelease_keeps {kof : KeptOf} (mv : Nat) (s : State) (s' : State) (hd : s.toDev.Kept kof) (h : execVinWarnRelease mv s = .next s') :
    s'.pending = s.pending ∧ s'.toDev.Kept kof := by
  refine State.runOasis_keeps h hd (fun d hd => ?_)
  repeat' first
    | with_reducible assumption
    | intro _
    | with_reducible apply Dev.vinWarnEnds_keeps
    | simp only [keep_mk]
    | dsimp only
    | split

theorem execVinReset_keeps {kof : KeptOf} (s : State) (s' : State) (hd : s.toDev.Kept kof) (h : execVinReset s = .next s') :
    s'.pending = s.pending ∧ s'.toDev.Kept kof := by
  refine State.runOasis_keeps h hd (fun d hd => ?_)
  repeat' first
    | with_reducible assumption
    | intro _
    | with_reducible apply Dev.vinReset_keeps
    | simp only [keep_mk]
    | dsimp only
    | split

theorem execVinOvervoltage_keeps {kof : KeptOf} (mv : Nat) (s : State) (s' : State) (hd : s.toDev.Kept kof) (h : execVinOvervoltage mv s = .next s') :
    s'.pending = s.pending ∧ s'.toDev.Kept kof := by
  unfold execVinOvervoltage at h
  split at h
  · cases h
  · exact State.runOasis_keeps h hd (fun d hd => Dev.vinOver_keeps d hd)

theorem execVinReturn_keeps {kof : KeptOf} (s : State) (s' : State) (hd : s.toDev.Kept kof) (h : execVinReturn s = .next s') :
    s'.pending = s.pending ∧ s'.toDev.Kept kof := by
  refine State.runOasis_keeps h hd (fun d hd => ?_)
  repeat' first
    | with_reducible assumption
    | intro _
    | with_reducible apply Dev.vinReturn_keeps
    | simp only [keep_mk]
    | dsimp only
    | split

theorem execVstbyChange_keeps {kof : KeptOf} (on : Bool) (s : State) (s' : State) (hd : s.toDev.Kept kof) (h : execVstbyChange on s = .next s') :
    s'.pending = s.pending ∧ s'.toDev.Kept kof := by
  refine State.runOasis_keeps h hd (fun d hd => ?_)
  repeat' first
    | with_reducible assumption
    | intro _
    | with_reducible apply Dev.vstbyChange_keeps
    | simp only [keep_mk]
    | dsimp only
    | split

theorem execOvercurrent_keeps {kof : KeptOf} (s : State) (s' : State) (hd : s.toDev.Kept kof) (h : execOvercurrent s = .next s') :
    s'.pending = s.pending ∧ s'.toDev.Kept kof := by
  refine State.run_keeps h hd (fun d hd => ?_)
  repeat' first
    | with_reducible assumption
    | intro _
    | with_reducible apply Dev.overcurrent_keeps
    | simp only [keep_mk]
    | dsimp only
    | split

theorem execPowerSample_keeps {kof : KeptOf} (mv : Nat) (iin : Nat) (pin : Nat) (s : State) (s' : State) (hd : s.toDev.Kept kof) (h : execPowerSample mv iin pin s = .next s') :
    s'.pending = s.pending ∧ s'.toDev.Kept kof := by
  refine State.run_keeps h hd (fun d hd => ?_)
  repeat' first
    | with_reducible assumption
    | intro _
    | with_reducible apply Dev.powerSample_keeps
    | simp only [keep_mk]
    | dsimp only
    | split

theorem execConeRise_keeps {kof : KeptOf} (s : State) (s' : State) (hd : s.toDev.Kept kof) (h : execConeRise s = .next s') :
    s'.pending = s.pending ∧ s'.toDev.Kept kof := by
  refine State.run_keeps h hd (fun d hd => ?_)
  repeat' first
    | with_reducible assumption
    | intro _
    | with_reducible apply Dev.coneRise_keeps
    | simp only [keep_mk]
    | dsimp only
    | split

theorem execCapmiss_keeps {kof : KeptOf} (s : State) (s' : State) (hd : s.toDev.Kept kof) (h : execCapmiss s = .next s') :
    s'.pending = s.pending ∧ s'.toDev.Kept kof := by
  refine State.run_keeps h hd (fun d hd => ?_)
  repeat' first
    | with_reducible assumption
    | intro _
    | with_reducible apply Dev.capMiss_keeps
    | simp only [keep_mk]
    | dsimp only
    | split

theorem execThermalFall_keeps {kof : KeptOf} (tj : Nat) (die : Fin 4) (s : State) (s' : State) (hd : s.toDev.Kept kof) (h : execThermalFall tj die s = .next s') :
    s'.pending = s.pending ∧ s'.toDev.Kept kof := by
  refine State.run_keeps h hd (fun d hd => ?_)
  repeat' first
    | with_reducible assumption
    | intro _
    | with_reducible apply Dev.thermalFall_keeps
    | simp only [keep_mk]
    | dsimp only
    | split

theorem execThermalRise_keeps {kof : KeptOf} (tj : Nat) (die : Fin 4) (s : State) (s' : State) (hd : s.toDev.Kept kof) (h : execThermalRise tj die s = .next s') :
    s'.pending = s.pending ∧ s'.toDev.Kept kof := by
  refine State.run_keeps h hd (fun d hd => ?_)
  repeat' first
    | with_reducible assumption
    | intro _
    | with_reducible apply Dev.thermalRise_keeps
    | simp only [keep_mk]
    | dsimp only
    | split

theorem execThermalShutdown_keeps {kof : KeptOf} (tj : Nat) (die : Fin 4) (s : State) (s' : State) (hd : s.toDev.Kept kof) (h : execThermalShutdown tj die s = .next s') :
    s'.pending = s.pending ∧ s'.toDev.Kept kof := by
  refine State.run_keeps h hd (fun d hd => ?_)
  repeat' first
    | with_reducible assumption
    | intro _
    | with_reducible apply Dev.thermalShutdown_keeps
    | simp only [keep_mk]
    | dsimp only
    | split

theorem execThermalRestart_keeps {kof : KeptOf} (tj : Nat) (s : State) (s' : State) (hd : s.toDev.Kept kof) (h : execThermalRestart tj s = .next s') :
    s'.pending = s.pending ∧ s'.toDev.Kept kof := by
  refine State.runOasis_keeps h hd (fun d hd => ?_)
  repeat' first
    | with_reducible assumption
    | intro _
    | with_reducible apply Dev.thermalRestart_keeps
    | simp only [keep_mk]
    | dsimp only
    | split

theorem execDomainStop_keeps {kof : KeptOf} (q : Fin 4) (scope : Nat) (s : State) (s' : State) (hd : s.toDev.Kept kof) (h : execDomainStop q scope s = .next s') :
    s'.pending = s.pending ∧ s'.toDev.Kept kof := by
  refine State.run_keeps h hd (fun d hd => ?_)
  repeat' first
    | with_reducible assumption
    | intro _
    | with_reducible apply Dev.domStop_keeps
    | simp only [keep_mk]
    | dsimp only
    | split

theorem execDomainWake_keeps {kof : KeptOf} (q : Fin 4) (scope : Nat) (s : State) (s' : State) (hd : s.toDev.Kept kof) (h : execDomainWake q scope s = .next s') :
    s'.pending = s.pending ∧ s'.toDev.Kept kof := by
  refine State.run_keeps h hd (fun d hd => ?_)
  repeat' first
    | with_reducible assumption
    | intro _
    | with_reducible apply Dev.domWake_keeps
    | simp only [keep_mk]
    | dsimp only
    | split

theorem execStopEntryComplete_keeps {kof : KeptOf} (q : Fin 4) (s : State) (s' : State) (hd : s.toDev.Kept kof) (h : execStopEntryComplete q s = .next s') :
    s'.pending = s.pending ∧ s'.toDev.Kept kof := by
  refine State.run_keeps h hd (fun d hd => ?_)
  repeat' first
    | with_reducible assumption
    | intro _
    | with_reducible apply Dev.stopComplete_keeps
    | simp only [keep_mk]
    | dsimp only
    | split

theorem execStopEntryTimeout_keeps {kof : KeptOf} (q : Fin 4) (s : State) (s' : State) (hd : s.toDev.Kept kof) (h : execStopEntryTimeout q s = .next s') :
    s'.pending = s.pending ∧ s'.toDev.Kept kof := by
  refine State.run_keeps h hd (fun d hd => ?_)
  repeat' first
    | with_reducible assumption
    | intro _
    | with_reducible apply Dev.stopTimeout_keeps
    | simp only [keep_mk]
    | dsimp only
    | split

theorem execWakeComplete_keeps {kof : KeptOf} (q : Fin 4) (scope : Nat) (s : State) (s' : State) (hd : s.toDev.Kept kof) (h : execWakeComplete q scope s = .next s') :
    s'.pending = s.pending ∧ s'.toDev.Kept kof := by
  refine State.run_keeps h hd (fun d hd => ?_)
  repeat' first
    | with_reducible assumption
    | intro _
    | with_reducible apply Dev.wakeComplete_keeps
    | simp only [keep_mk]
    | dsimp only
    | split

theorem execReferenceLoss_keeps {kof : KeptOf} (s : State) (s' : State) (hd : s.toDev.Kept kof) (h : execReferenceLoss s = .next s') :
    s'.pending = s.pending ∧ s'.toDev.Kept kof := by
  refine State.run_keeps h hd (fun d hd => ?_)
  repeat' first
    | with_reducible assumption
    | intro _
    | with_reducible apply Dev.refLoss_keeps
    | simp only [keep_mk]
    | dsimp only
    | split

theorem execReferenceReturn_keeps {kof : KeptOf} (s : State) (s' : State) (hd : s.toDev.Kept kof) (h : execReferenceReturn s = .next s') :
    s'.pending = s.pending ∧ s'.toDev.Kept kof := by
  refine State.run_keeps h hd (fun d hd => ?_)
  repeat' first
    | with_reducible assumption
    | intro _
    | with_reducible apply Dev.refReturn_keeps
    | simp only [keep_mk]
    | dsimp only
    | split

theorem execHoldoverTimeout_keeps {kof : KeptOf} (s : State) (s' : State) (hd : s.toDev.Kept kof) (h : execHoldoverTimeout s = .next s') :
    s'.pending = s.pending ∧ s'.toDev.Kept kof := by
  refine State.run_keeps h hd (fun d hd => ?_)
  repeat' first
    | with_reducible assumption
    | intro _
    | with_reducible apply Dev.holdoverTimeout_keeps
    | simp only [keep_mk]
    | dsimp only
    | split

theorem execRefclkArrival_keeps {kof : KeptOf} (s : State) (s' : State) (hd : s.toDev.Kept kof) (h : execRefclkArrival s = .next s') :
    s'.pending = s.pending ∧ s'.toDev.Kept kof := by
  refine State.runOasis_keeps h hd (fun d hd => ?_)
  repeat' first
    | with_reducible assumption
    | intro _
    | with_reducible apply Dev.refclkArrives_keeps
    | simp only [keep_mk]
    | dsimp only
    | split

theorem execFaultWindowExpiry_keeps {kof : KeptOf} (slot : Nat) (unserviced : Bool) (s : State) (s' : State) (hd : s.toDev.Kept kof) (h : execFaultWindowExpiry slot unserviced s = .next s') :
    s'.pending = s.pending ∧ s'.toDev.Kept kof := by
  refine State.run_keeps h hd (fun d hd => ?_)
  repeat' first
    | with_reducible assumption
    | intro _
    | with_reducible apply Dev.windowExpires_keeps
    | simp only [keep_mk]
    | dsimp only
    | split

theorem execEscalationTimeout_keeps {kof : KeptOf} (slot : Nat) (unserviced : Bool) (s : State) (s' : State) (hd : s.toDev.Kept kof) (h : execEscalationTimeout slot unserviced s = .next s') :
    s'.pending = s.pending ∧ s'.toDev.Kept kof := by
  refine State.run_keeps h hd (fun d hd => ?_)
  repeat' first
    | with_reducible assumption
    | intro _
    | with_reducible apply Dev.escalates_keeps
    | simp only [keep_mk]
    | dsimp only
    | split

theorem execFaultClear_keeps {kof : KeptOf} (id : Fin 65536) (s : State) (s' : State) (hd : s.toDev.Kept kof) (h : execFaultClear id s = .next s') :
    s'.pending = s.pending ∧ s'.toDev.Kept kof := by
  refine State.run_keeps h hd (fun d hd => ?_)
  repeat' first
    | with_reducible assumption
    | intro _
    | with_reducible apply Dev.ackClear_keeps
    | simp only [keep_mk]
    | dsimp only
    | split

theorem execFaultActNow_keeps {kof : KeptOf} (id : Fin 65536) (s : State) (s' : State) (hd : s.toDev.Kept kof) (h : execFaultActNow id s = .next s') :
    s'.pending = s.pending ∧ s'.toDev.Kept kof := by
  refine State.run_keeps h hd (fun d hd => ?_)
  repeat' first
    | with_reducible assumption
    | intro _
    | with_reducible apply Dev.ackAct_keeps
    | simp only [keep_mk]
    | dsimp only
    | split

theorem execCarryExpiry_keeps {kof : KeptOf} (n : Nat) (s : State) (s' : State) (hd : s.toDev.Kept kof) (h : execCarryExpiry n s = .next s') :
    s'.pending = s.pending ∧ s'.toDev.Kept kof := by
  refine State.run_keeps h hd (fun d hd => ?_)
  repeat' first
    | with_reducible assumption
    | intro _
    | with_reducible apply Dev.carryLapses_keeps
    | simp only [keep_mk]
    | dsimp only
    | split

theorem execFaultnRelease_keeps {kof : KeptOf} (s : State) (s' : State) (hd : s.toDev.Kept kof) (h : execFaultnRelease s = .next s') :
    s'.pending = s.pending ∧ s'.toDev.Kept kof := by
  refine State.run_keeps h hd (fun d hd => ?_)
  repeat' first
    | with_reducible assumption
    | intro _
    | with_reducible apply Dev.faultRelease_keeps
    | simp only [keep_mk]
    | dsimp only
    | split

theorem execFaultnForce_keeps {kof : KeptOf} (on : Bool) (s : State) (s' : State) (hd : s.toDev.Kept kof) (h : execFaultnForce on s = .next s') :
    s'.pending = s.pending ∧ s'.toDev.Kept kof := by
  refine State.run_keeps h hd (fun d hd => ?_)
  repeat' first
    | with_reducible assumption
    | intro _
    | with_reducible apply Dev.faultForce_keeps
    | simp only [keep_mk]
    | dsimp only
    | split

theorem execFaultnHoldEnd_keeps {kof : KeptOf} (s : State) (s' : State) (hd : s.toDev.Kept kof) (h : execFaultnHoldEnd s = .next s') :
    s'.pending = s.pending ∧ s'.toDev.Kept kof := by
  refine State.runOasis_keeps h hd (fun d hd => ?_)
  repeat' first
    | with_reducible assumption
    | intro _
    | with_reducible apply Dev.faultHoldEnds_keeps
    | simp only [keep_mk]
    | dsimp only
    | split

theorem execStoreErase_keeps {kof : KeptOf} (s : State) (s' : State) (hd : s.toDev.Kept kof) (h : execStoreErase s = .next s') :
    s'.pending = s.pending ∧ s'.toDev.Kept kof := by
  refine State.run_keeps h hd (fun d hd => ?_)
  repeat' first
    | with_reducible assumption
    | intro _
    | with_reducible apply Dev.storeErase_keeps
    | simp only [keep_mk]
    | dsimp only
    | split

theorem execZoruriWatchdog_keeps {kof : KeptOf} (q : Fin 4) (s : State) (s' : State) (hd : s.toDev.Kept kof) (h : execZoruriWatchdog q s = .next s') :
    s'.pending = s.pending ∧ s'.toDev.Kept kof := by
  refine State.run_keeps h hd (fun d hd => ?_)
  repeat' first
    | with_reducible assumption
    | intro _
    | with_reducible apply Dev.zoruriHang_keeps
    | simp only [keep_mk]
    | dsimp only
    | split

theorem execZoruriException_keeps {kof : KeptOf} (q : Fin 4) (s : State) (s' : State) (hd : s.toDev.Kept kof) (h : execZoruriException q s = .next s') :
    s'.pending = s.pending ∧ s'.toDev.Kept kof := by
  refine State.run_keeps h hd (fun d hd => ?_)
  repeat' first
    | with_reducible assumption
    | intro _
    | with_reducible apply Dev.zoruriException_keeps
    | simp only [keep_mk]
    | dsimp only
    | split

theorem execSaggarWatchdog_keeps {kof : KeptOf} (q : Fin 4) (s : State) (s' : State) (hd : s.toDev.Kept kof) (h : execSaggarWatchdog q s = .next s') :
    s'.pending = s.pending ∧ s'.toDev.Kept kof := by
  refine State.run_keeps h hd (fun d hd => ?_)
  repeat' first
    | with_reducible assumption
    | intro _
    | with_reducible apply Dev.saggarHang_keeps
    | simp only [keep_mk]
    | dsimp only
    | split

theorem execMemoryError_keeps {kof : KeptOf} (q : Fin 4) (kind : Nat) (x : Nat) (y : Nat) (z : Nat) (s : State) (s' : State) (hd : s.toDev.Kept kof) (h : execMemoryError q kind x y z s = .next s') :
    s'.pending = s.pending ∧ s'.toDev.Kept kof := by
  refine State.run_keeps h hd (fun d hd => ?_)
  repeat' first
    | with_reducible assumption
    | intro _
    | with_reducible apply Dev.memoryError_keeps
    | simp only [keep_mk]
    | dsimp only
    | split

theorem execKilnGo_keeps {kof : KeptOf} (q : Fin 4) (v : Word) (s : State) (s' : State) (hd : s.toDev.Kept kof) (h : execKilnGo q v s = .next s') :
    s'.pending = s.pending ∧ s'.toDev.Kept kof := by
  refine State.run_keeps h hd (fun d hd => ?_)
  repeat' first
    | with_reducible assumption
    | intro _
    | with_reducible apply Dev.kilnGo_keeps
    | simp only [keep_mk]
    | dsimp only
    | split

theorem execKilnTestDone_keeps {kof : KeptOf} (q : Fin 4) (fails : Nat) (first : Nat) (tx : Nat) (rx : Nat) (s : State) (s' : State) (hd : s.toDev.Kept kof) (h : execKilnTestDone q fails first tx rx s = .next s') :
    s'.pending = s.pending ∧ s'.toDev.Kept kof := by
  refine State.run_keeps h hd (fun d hd => ?_)
  repeat' first
    | with_reducible assumption
    | intro _
    | with_reducible apply Dev.kilnDone_keeps
    | simp only [keep_mk]
    | dsimp only
    | split

theorem execPmcSelWrite_keeps {kof : KeptOf} (q : Fin 4) (k : Fin 256) (v : Word) (s : State) (s' : State) (hd : s.toDev.Kept kof) (h : execPmcSelWrite q k v s = .next s') :
    s'.pending = s.pending ∧ s'.toDev.Kept kof := by
  refine State.run_keeps h hd (fun d hd => ?_)
  repeat' first
    | with_reducible assumption
    | intro _
    | with_reducible apply Dev.pmcSel_keeps
    | simp only [keep_mk]
    | dsimp only
    | split

theorem execPmcCntWrite_keeps {kof : KeptOf} (q : Fin 4) (k : Fin 256) (v : Word) (s : State) (s' : State) (hd : s.toDev.Kept kof) (h : execPmcCntWrite q k v s = .next s') :
    s'.pending = s.pending ∧ s'.toDev.Kept kof := by
  refine State.run_keeps h hd (fun d hd => ?_)
  repeat' first
    | with_reducible assumption
    | intro _
    | with_reducible apply Dev.pmcCntWrite_keeps
    | simp only [keep_mk]
    | dsimp only
    | split

theorem execPmcCntRead_keeps {kof : KeptOf} (path : Path) (q : Fin 4) (k : Fin 256) (s : State) (s' : State) (hd : s.toDev.Kept kof) (h : execPmcCntRead path q k s = .next s') :
    s'.pending = s.pending ∧ s'.toDev.Kept kof := by
  refine State.run_keeps h hd (fun d hd => ?_)
  repeat' first
    | with_reducible assumption
    | intro _
    | with_reducible apply Dev.emit_keeps
    | with_reducible apply Dev.pmcCntRead_keeps
    | simp only [keep_mk]
    | dsimp only
    | split

theorem execCounterWrap_keeps {kof : KeptOf} (q : Fin 4) (k : Fin 256) (s : State) (s' : State) (hd : s.toDev.Kept kof) (h : execCounterWrap q k s = .next s') :
    s'.pending = s.pending ∧ s'.toDev.Kept kof := by
  refine State.run_keeps h hd (fun d hd => ?_)
  repeat' first
    | with_reducible assumption
    | intro _
    | with_reducible apply Dev.pmcWraps_keeps
    | simp only [keep_mk]
    | dsimp only
    | split

theorem execPmcGo_keeps {kof : KeptOf} (s : State) (s' : State) (hd : s.toDev.Kept kof) (h : execPmcGo s = .next s') :
    s'.pending = s.pending ∧ s'.toDev.Kept kof := by
  refine State.run_keeps h hd (fun d hd => ?_)
  repeat' first
    | with_reducible assumption
    | intro _
    | with_reducible apply Dev.pmcGo_keeps
    | simp only [keep_mk]
    | dsimp only
    | split

theorem execSnapshotPeriod_keeps {kof : KeptOf} (s : State) (s' : State) (hd : s.toDev.Kept kof) (h : execSnapshotPeriod s = .next s') :
    s'.pending = s.pending ∧ s'.toDev.Kept kof := by
  refine State.run_keeps h hd (fun d hd => ?_)
  repeat' first
    | with_reducible assumption
    | intro _
    | with_reducible apply Dev.pmcPeriod_keeps
    | simp only [keep_mk]
    | dsimp only
    | split

theorem execSnapshotWritten_keeps {kof : KeptOf} (ok : Bool) (s : State) (s' : State) (hd : s.toDev.Kept kof) (h : execSnapshotWritten ok s = .next s') :
    s'.pending = s.pending ∧ s'.toDev.Kept kof := by
  refine State.run_keeps h hd (fun d hd => ?_)
  repeat' first
    | with_reducible assumption
    | intro _
    | with_reducible apply Dev.snapWrite_keeps
    | simp only [keep_mk]
    | dsimp only
    | split

theorem execRingCiWrite_keeps {kof : KeptOf} (v : Word) (s : State) (s' : State) (hd : s.toDev.Kept kof) (h : execRingCiWrite v s = .next s') :
    s'.pending = s.pending ∧ s'.toDev.Kept kof := by
  refine State.run_keeps h hd (fun d hd => ?_)
  repeat' first
    | with_reducible assumption
    | intro _
    | with_reducible apply Dev.ringCi_keeps
    | simp only [keep_mk]
    | dsimp only
    | split

theorem execRingEnable_keeps {kof : KeptOf} (v : Word) (s : State) (s' : State) (hd : s.toDev.Kept kof) (h : execRingEnable v s = .next s') :
    s'.pending = s.pending ∧ s'.toDev.Kept kof := by
  refine State.run_keeps h hd (fun d hd => ?_)
  repeat' first
    | with_reducible assumption
    | intro _
    | with_reducible apply Dev.ringCtl_keeps
    | simp only [keep_mk]
    | dsimp only
    | split

theorem execWindowDataRead_keeps {kof : KeptOf} (w : Fin 5) (set : Option Word) (whole : Bool) (s : State) (s' : State) (hd : s.toDev.Kept kof) (h : execWindowDataRead w set whole s = .next s') :
    s'.pending = s.pending ∧ s'.toDev.Kept kof := by
  refine State.run_keeps h hd (fun d hd => ?_)
  repeat' first
    | with_reducible assumption
    | intro _
    | with_reducible apply Dev.windowRead_keeps
    | simp only [keep_mk]
    | dsimp only
    | split

theorem execWindowDataWrite_keeps {kof : KeptOf} (w : Fin 5) (set : Option Word) (whole : Bool) (v : Word) (s : State) (s' : State) (hd : s.toDev.Kept kof) (h : execWindowDataWrite w set whole v s = .next s') :
    s'.pending = s.pending ∧ s'.toDev.Kept kof := by
  refine State.run_keeps h hd (fun d hd => ?_)
  repeat' first
    | with_reducible assumption
    | intro _
    | with_reducible apply Dev.windowWrite_keeps
    | simp only [keep_mk]
    | dsimp only
    | split

theorem execRegaccUpdate_keeps {kof : KeptOf} (op : Nat) (addr : Nat) (v : Word) (s : State) (s' : State) (hd : s.toDev.Kept kof) (h : execRegaccUpdate op addr v s = .next s') :
    s'.pending = s.pending ∧ s'.toDev.Kept kof := by
  refine State.run_keeps h hd (fun d hd => ?_)
  repeat' first
    | with_reducible assumption
    | intro _
    | with_reducible apply Dev.regaccUpdate_keeps
    | simp only [keep_mk]
    | dsimp only
    | split

theorem execRegaccCapture_keeps {kof : KeptOf} (s : State) (s' : State) (hd : s.toDev.Kept kof) (h : execRegaccCapture s = .next s') :
    s'.pending = s.pending ∧ s'.toDev.Kept kof := by
  refine State.run_keeps h hd (fun d hd => ?_)
  repeat' first
    | with_reducible assumption
    | intro _
    | with_reducible apply Dev.regaccCapture_keeps
    | simp only [keep_mk]
    | dsimp only
    | split

theorem execSmbusRead_keeps {kof : KeptOf} (adr : Nat) (code : Nat) (s : State) (s' : State) (hd : s.toDev.Kept kof) (h : execSmbusRead adr code s = .next s') :
    s'.pending = s.pending ∧ s'.toDev.Kept kof := by
  refine State.runOasis_keeps h hd (fun d hd => ?_)
  repeat' first
    | with_reducible assumption
    | intro _
    | with_reducible apply Dev.smbusRead_keeps
    | simp only [keep_mk]
    | dsimp only
    | split

end Sys2Proof.Machine
end

