-- ==== Sys2Proof/Laws/Shared.lean ====
section
/-! SUPPORT. What shared operations can do, said once: a flit that reaches a port, an access by a path, a field put on many places. -/

namespace Sys2Proof.Machine

/-! ## A flit that reaches a port (`Dev.receive`) -/

/-- On a link that is UP, a flit that no codeword error marks and that is validly encoded has its effect. -/
theorem Dev.receive_up {d : Dev} {p : Nat} {valid : Bool} {act : Dev → Dev} (hu : d.linkUp p = true) (hm : (d.link p).marked = 0)
    (hv : valid = true) : d.receive p valid act = act d := by
  simp [Dev.receive, Dev.flitsFlow, hu, hm, hv]

/-- A flit has one of five outcomes: nothing, a CRC failure, a protocol error, its effect on a link that is UP. -/
theorem Dev.receive_cases (d : Dev) (p : Nat) (valid : Bool) (act : Dev → Dev) :
    (d.flitsFlow p = false ∧ d.receive p valid act = d) ∨
    (d.flitsFlow p = true ∧ 0 < (d.link p).marked ∧ d.greenware p = false ∧ d.receive p valid act = (d.takeMark p).crcFails p) ∨
    (d.flitsFlow p = true ∧ valid = false ∧ d.receive p valid act = d.protoError p) ∨
    (d.linkUp p = true ∧ valid = true ∧ d.receive p valid act = act d) ∨
    (d.linkUp p = false ∧ valid = true ∧ d.receive p valid act = d) := by
  unfold Dev.receive
  split
  · next h => exact .inl ⟨by simpa using h, rfl⟩
  · next hf =>
    have hf' : d.flitsFlow p = true := by simpa using hf
    split
    · next h =>
      simp only [Bool.and_eq_true, decide_eq_true_eq, Bool.not_eq_true'] at h
      exact .inr (.inl ⟨hf', h.1, h.2, rfl⟩)
    · split
      · next h => exact .inr (.inr (.inl ⟨hf', by simpa using h, rfl⟩))
      · next hv =>
        have hv' : valid = true := by simpa using hv
        split
        · next h => exact .inr (.inr (.inr (.inl ⟨h, hv', rfl⟩)))
        · next h => exact .inr (.inr (.inr (.inr ⟨by simpa using h, hv', rfl⟩)))

/-! ## A field put on many places -/

/-- A field of another register, or of another place, keeps its value. -/
theorem Dev.get_each_put (d : Dev) (l : List Nat) (f g : Fld) (pl : Nat → At) (b : At) (v : Nat)
    (h : ∀ x ∈ l, regKey f.reg b ≠ regKey g.reg (pl x)) : (d.each l (fun x d => d.put g (pl x) v)).get f b = d.get f b := by
  unfold Dev.each
  induction l generalizing d with
  | nil => rfl
  | cons x t ih =>
    simp only [List.foldl_cons]
    rw [ih _ (fun y hy => h y (List.mem_cons_of_mem _ hy)), Dev.get_put_other _ _ _ _ _ _ (h x (List.mem_cons_self ..))]

/-- Link states are no part of what it changes. -/
theorem Dev.link_each_put (d : Dev) (l : List Nat) (g : Fld) (pl : Nat → At) (v p : Nat) :
    (d.each l (fun x d => d.put g (pl x) v)).link p = d.link p := by
  unfold Dev.each
  induction l generalizing d with
  | nil => rfl
  | cons x t ih => simp only [List.foldl_cons]; rw [ih]; rfl

end Sys2Proof.Machine
end

