-- ==== Sys2Proof/Laws/State.lean ====
section
/-! SUPPORT. What each update of the state leaves of it: one lemma per update and group of the state. -/

namespace Sys2Proof.Machine

/-! ## The block in the state -/

@[simp] theorem State.withDev_toDev (s : State) (e : Dev) : (s.withDev e).toDev = e := rfl
@[simp] theorem State.withDev_pending (s : State) (e : Dev) : (s.withDev e).pending = s.pending := rfl
@[simp] theorem State.withDev_self (s : State) : s.withDev s.toDev = s := rfl
@[simp] theorem State.withDev_withDev (s : State) (d e : Dev) : (s.withDev d).withDev e = s.withDev e := rfl

/-! ## Reading what an update wrote -/

@[simp] theorem Dev.emit_out (d : Dev) (o : OutEv) : (d.emit o).env.out = d.env.out ++ [o] := rfl
@[simp] theorem Dev.emit_time (d : Dev) (o : OutEv) : (d.emit o).env.time = d.env.time := rfl
@[simp] theorem Dev.drawn_time (d : Dev) : d.drawn.env.time = d.env.time := rfl
@[simp] theorem Dev.freed_time (d : Dev) : d.freed.env.time = d.env.time := rfl
@[simp] theorem Dev.freed_out (d : Dev) : d.freed.env.out = d.env.out := rfl
@[simp] theorem Dev.drawn_out (d : Dev) : d.drawn.env.out = d.env.out := rfl

/-! ## wr -/

@[simp] theorem Dev.wr_win (d : Dev) (r : Reg) (a : At) (x : Word) : (d.wr r a x).win = d.win := rfl
@[simp] theorem Dev.wr_env (d : Dev) (r : Reg) (a : At) (x : Word) : (d.wr r a x).env = d.env := rfl
@[simp] theorem Dev.wr_lnk (d : Dev) (r : Reg) (a : At) (x : Word) : (d.wr r a x).lnk = d.lnk := rfl
@[simp] theorem Dev.wr_rtr (d : Dev) (r : Reg) (a : At) (x : Word) : (d.wr r a x).rtr = d.rtr := rfl
@[simp] theorem Dev.wr_flt (d : Dev) (r : Reg) (a : At) (x : Word) : (d.wr r a x).flt = d.flt := rfl
@[simp] theorem Dev.wr_sys (d : Dev) (r : Reg) (a : At) (x : Word) : (d.wr r a x).sys = d.sys := rfl
@[simp] theorem Dev.wr_mcg (d : Dev) (r : Reg) (a : At) (x : Word) : (d.wr r a x).mcg = d.mcg := rfl
@[simp] theorem Dev.wr_pmc (d : Dev) (r : Reg) (a : At) (x : Word) : (d.wr r a x).pmc = d.pmc := rfl
@[simp] theorem Dev.wr_pwr (d : Dev) (r : Reg) (a : At) (x : Word) : (d.wr r a x).pwr = d.pwr := rfl
@[simp] theorem Dev.wr_xlt (d : Dev) (r : Reg) (a : At) (x : Word) : (d.wr r a x).xlt = d.xlt := rfl
@[simp] theorem Dev.wr_hst (d : Dev) (r : Reg) (a : At) (x : Word) : (d.wr r a x).hst = d.hst := rfl
@[simp] theorem Dev.wr_sag (d : Dev) (r : Reg) (a : At) (x : Word) : (d.wr r a x).sag = d.sag := rfl
@[simp] theorem Dev.wr_clv (d : Dev) (r : Reg) (a : At) (x : Word) : (d.wr r a x).clv = d.clv := rfl
@[simp] theorem Dev.wr_kln (d : Dev) (r : Reg) (a : At) (x : Word) : (d.wr r a x).kln = d.kln := rfl
@[simp] theorem Dev.wr_noc (d : Dev) (r : Reg) (a : At) (x : Word) : (d.wr r a x).noc = d.noc := rfl
@[simp] theorem Dev.wr_boot (d : Dev) (r : Reg) (a : At) (x : Word) : (d.wr r a x).boot = d.boot := rfl
@[simp] theorem Dev.wr_acc (d : Dev) (r : Reg) (a : At) (x : Word) : (d.wr r a x).acc = d.acc := rfl
@[simp] theorem Dev.wr_erg (d : Dev) (r : Reg) (a : At) (x : Word) : (d.wr r a x).erg = d.erg := rfl
@[simp] theorem Dev.wr_ep (d : Dev) (r : Reg) (a : At) (x : Word) : (d.wr r a x).ep = d.ep := rfl
@[simp] theorem Dev.wr_car (d : Dev) (r : Reg) (a : At) (x : Word) : (d.wr r a x).car = d.car := rfl

/-! ## put -/

@[simp] theorem Dev.put_win (d : Dev) (f : Fld) (a : At) (v : Nat) : (d.put f a v).win = d.win := rfl
@[simp] theorem Dev.put_env (d : Dev) (f : Fld) (a : At) (v : Nat) : (d.put f a v).env = d.env := rfl
@[simp] theorem Dev.put_lnk (d : Dev) (f : Fld) (a : At) (v : Nat) : (d.put f a v).lnk = d.lnk := rfl
@[simp] theorem Dev.put_rtr (d : Dev) (f : Fld) (a : At) (v : Nat) : (d.put f a v).rtr = d.rtr := rfl
@[simp] theorem Dev.put_flt (d : Dev) (f : Fld) (a : At) (v : Nat) : (d.put f a v).flt = d.flt := rfl
@[simp] theorem Dev.put_sys (d : Dev) (f : Fld) (a : At) (v : Nat) : (d.put f a v).sys = d.sys := rfl
@[simp] theorem Dev.put_mcg (d : Dev) (f : Fld) (a : At) (v : Nat) : (d.put f a v).mcg = d.mcg := rfl
@[simp] theorem Dev.put_pmc (d : Dev) (f : Fld) (a : At) (v : Nat) : (d.put f a v).pmc = d.pmc := rfl
@[simp] theorem Dev.put_pwr (d : Dev) (f : Fld) (a : At) (v : Nat) : (d.put f a v).pwr = d.pwr := rfl
@[simp] theorem Dev.put_xlt (d : Dev) (f : Fld) (a : At) (v : Nat) : (d.put f a v).xlt = d.xlt := rfl
@[simp] theorem Dev.put_hst (d : Dev) (f : Fld) (a : At) (v : Nat) : (d.put f a v).hst = d.hst := rfl
@[simp] theorem Dev.put_sag (d : Dev) (f : Fld) (a : At) (v : Nat) : (d.put f a v).sag = d.sag := rfl
@[simp] theorem Dev.put_clv (d : Dev) (f : Fld) (a : At) (v : Nat) : (d.put f a v).clv = d.clv := rfl
@[simp] theorem Dev.put_kln (d : Dev) (f : Fld) (a : At) (v : Nat) : (d.put f a v).kln = d.kln := rfl
@[simp] theorem Dev.put_noc (d : Dev) (f : Fld) (a : At) (v : Nat) : (d.put f a v).noc = d.noc := rfl
@[simp] theorem Dev.put_boot (d : Dev) (f : Fld) (a : At) (v : Nat) : (d.put f a v).boot = d.boot := rfl
@[simp] theorem Dev.put_acc (d : Dev) (f : Fld) (a : At) (v : Nat) : (d.put f a v).acc = d.acc := rfl
@[simp] theorem Dev.put_erg (d : Dev) (f : Fld) (a : At) (v : Nat) : (d.put f a v).erg = d.erg := rfl
@[simp] theorem Dev.put_ep (d : Dev) (f : Fld) (a : At) (v : Nat) : (d.put f a v).ep = d.ep := rfl
@[simp] theorem Dev.put_car (d : Dev) (f : Fld) (a : At) (v : Nat) : (d.put f a v).car = d.car := rfl

/-! ## putB -/

@[simp] theorem Dev.putB_win (d : Dev) (f : Fld) (a : At) (b : Bool) : (d.putB f a b).win = d.win := rfl
@[simp] theorem Dev.putB_env (d : Dev) (f : Fld) (a : At) (b : Bool) : (d.putB f a b).env = d.env := rfl
@[simp] theorem Dev.putB_lnk (d : Dev) (f : Fld) (a : At) (b : Bool) : (d.putB f a b).lnk = d.lnk := rfl
@[simp] theorem Dev.putB_rtr (d : Dev) (f : Fld) (a : At) (b : Bool) : (d.putB f a b).rtr = d.rtr := rfl
@[simp] theorem Dev.putB_flt (d : Dev) (f : Fld) (a : At) (b : Bool) : (d.putB f a b).flt = d.flt := rfl
@[simp] theorem Dev.putB_sys (d : Dev) (f : Fld) (a : At) (b : Bool) : (d.putB f a b).sys = d.sys := rfl
@[simp] theorem Dev.putB_mcg (d : Dev) (f : Fld) (a : At) (b : Bool) : (d.putB f a b).mcg = d.mcg := rfl
@[simp] theorem Dev.putB_pmc (d : Dev) (f : Fld) (a : At) (b : Bool) : (d.putB f a b).pmc = d.pmc := rfl
@[simp] theorem Dev.putB_pwr (d : Dev) (f : Fld) (a : At) (b : Bool) : (d.putB f a b).pwr = d.pwr := rfl
@[simp] theorem Dev.putB_xlt (d : Dev) (f : Fld) (a : At) (b : Bool) : (d.putB f a b).xlt = d.xlt := rfl
@[simp] theorem Dev.putB_hst (d : Dev) (f : Fld) (a : At) (b : Bool) : (d.putB f a b).hst = d.hst := rfl
@[simp] theorem Dev.putB_sag (d : Dev) (f : Fld) (a : At) (b : Bool) : (d.putB f a b).sag = d.sag := rfl
@[simp] theorem Dev.putB_clv (d : Dev) (f : Fld) (a : At) (b : Bool) : (d.putB f a b).clv = d.clv := rfl
@[simp] theorem Dev.putB_kln (d : Dev) (f : Fld) (a : At) (b : Bool) : (d.putB f a b).kln = d.kln := rfl
@[simp] theorem Dev.putB_noc (d : Dev) (f : Fld) (a : At) (b : Bool) : (d.putB f a b).noc = d.noc := rfl
@[simp] theorem Dev.putB_boot (d : Dev) (f : Fld) (a : At) (b : Bool) : (d.putB f a b).boot = d.boot := rfl
@[simp] theorem Dev.putB_acc (d : Dev) (f : Fld) (a : At) (b : Bool) : (d.putB f a b).acc = d.acc := rfl
@[simp] theorem Dev.putB_erg (d : Dev) (f : Fld) (a : At) (b : Bool) : (d.putB f a b).erg = d.erg := rfl
@[simp] theorem Dev.putB_ep (d : Dev) (f : Fld) (a : At) (b : Bool) : (d.putB f a b).ep = d.ep := rfl
@[simp] theorem Dev.putB_car (d : Dev) (f : Fld) (a : At) (b : Bool) : (d.putB f a b).car = d.car := rfl

/-! ## wrFields -/

@[simp] theorem Dev.wrFields_win (d : Dev) (r : Reg) (a : At) (v : Word) : (d.wrFields r a v).win = d.win := rfl
@[simp] theorem Dev.wrFields_env (d : Dev) (r : Reg) (a : At) (v : Word) : (d.wrFields r a v).env = d.env := rfl
@[simp] theorem Dev.wrFields_lnk (d : Dev) (r : Reg) (a : At) (v : Word) : (d.wrFields r a v).lnk = d.lnk := rfl
@[simp] theorem Dev.wrFields_rtr (d : Dev) (r : Reg) (a : At) (v : Word) : (d.wrFields r a v).rtr = d.rtr := rfl
@[simp] theorem Dev.wrFields_flt (d : Dev) (r : Reg) (a : At) (v : Word) : (d.wrFields r a v).flt = d.flt := rfl
@[simp] theorem Dev.wrFields_sys (d : Dev) (r : Reg) (a : At) (v : Word) : (d.wrFields r a v).sys = d.sys := rfl
@[simp] theorem Dev.wrFields_mcg (d : Dev) (r : Reg) (a : At) (v : Word) : (d.wrFields r a v).mcg = d.mcg := rfl
@[simp] theorem Dev.wrFields_pmc (d : Dev) (r : Reg) (a : At) (v : Word) : (d.wrFields r a v).pmc = d.pmc := rfl
@[simp] theorem Dev.wrFields_pwr (d : Dev) (r : Reg) (a : At) (v : Word) : (d.wrFields r a v).pwr = d.pwr := rfl
@[simp] theorem Dev.wrFields_xlt (d : Dev) (r : Reg) (a : At) (v : Word) : (d.wrFields r a v).xlt = d.xlt := rfl
@[simp] theorem Dev.wrFields_hst (d : Dev) (r : Reg) (a : At) (v : Word) : (d.wrFields r a v).hst = d.hst := rfl
@[simp] theorem Dev.wrFields_sag (d : Dev) (r : Reg) (a : At) (v : Word) : (d.wrFields r a v).sag = d.sag := rfl
@[simp] theorem Dev.wrFields_clv (d : Dev) (r : Reg) (a : At) (v : Word) : (d.wrFields r a v).clv = d.clv := rfl
@[simp] theorem Dev.wrFields_kln (d : Dev) (r : Reg) (a : At) (v : Word) : (d.wrFields r a v).kln = d.kln := rfl
@[simp] theorem Dev.wrFields_noc (d : Dev) (r : Reg) (a : At) (v : Word) : (d.wrFields r a v).noc = d.noc := rfl
@[simp] theorem Dev.wrFields_boot (d : Dev) (r : Reg) (a : At) (v : Word) : (d.wrFields r a v).boot = d.boot := rfl
@[simp] theorem Dev.wrFields_acc (d : Dev) (r : Reg) (a : At) (v : Word) : (d.wrFields r a v).acc = d.acc := rfl
@[simp] theorem Dev.wrFields_erg (d : Dev) (r : Reg) (a : At) (v : Word) : (d.wrFields r a v).erg = d.erg := rfl
@[simp] theorem Dev.wrFields_ep (d : Dev) (r : Reg) (a : At) (v : Word) : (d.wrFields r a v).ep = d.ep := rfl
@[simp] theorem Dev.wrFields_car (d : Dev) (r : Reg) (a : At) (v : Word) : (d.wrFields r a v).car = d.car := rfl

/-! ## incBy -/

@[simp] theorem Dev.incBy_win (d : Dev) (r : Reg) (a : At) (n : Nat) : (d.incBy r a n).win = d.win := rfl
@[simp] theorem Dev.incBy_env (d : Dev) (r : Reg) (a : At) (n : Nat) : (d.incBy r a n).env = d.env := rfl
@[simp] theorem Dev.incBy_lnk (d : Dev) (r : Reg) (a : At) (n : Nat) : (d.incBy r a n).lnk = d.lnk := rfl
@[simp] theorem Dev.incBy_rtr (d : Dev) (r : Reg) (a : At) (n : Nat) : (d.incBy r a n).rtr = d.rtr := rfl
@[simp] theorem Dev.incBy_flt (d : Dev) (r : Reg) (a : At) (n : Nat) : (d.incBy r a n).flt = d.flt := rfl
@[simp] theorem Dev.incBy_sys (d : Dev) (r : Reg) (a : At) (n : Nat) : (d.incBy r a n).sys = d.sys := rfl
@[simp] theorem Dev.incBy_mcg (d : Dev) (r : Reg) (a : At) (n : Nat) : (d.incBy r a n).mcg = d.mcg := rfl
@[simp] theorem Dev.incBy_pmc (d : Dev) (r : Reg) (a : At) (n : Nat) : (d.incBy r a n).pmc = d.pmc := rfl
@[simp] theorem Dev.incBy_pwr (d : Dev) (r : Reg) (a : At) (n : Nat) : (d.incBy r a n).pwr = d.pwr := rfl
@[simp] theorem Dev.incBy_xlt (d : Dev) (r : Reg) (a : At) (n : Nat) : (d.incBy r a n).xlt = d.xlt := rfl
@[simp] theorem Dev.incBy_hst (d : Dev) (r : Reg) (a : At) (n : Nat) : (d.incBy r a n).hst = d.hst := rfl
@[simp] theorem Dev.incBy_sag (d : Dev) (r : Reg) (a : At) (n : Nat) : (d.incBy r a n).sag = d.sag := rfl
@[simp] theorem Dev.incBy_clv (d : Dev) (r : Reg) (a : At) (n : Nat) : (d.incBy r a n).clv = d.clv := rfl
@[simp] theorem Dev.incBy_kln (d : Dev) (r : Reg) (a : At) (n : Nat) : (d.incBy r a n).kln = d.kln := rfl
@[simp] theorem Dev.incBy_noc (d : Dev) (r : Reg) (a : At) (n : Nat) : (d.incBy r a n).noc = d.noc := rfl
@[simp] theorem Dev.incBy_boot (d : Dev) (r : Reg) (a : At) (n : Nat) : (d.incBy r a n).boot = d.boot := rfl
@[simp] theorem Dev.incBy_acc (d : Dev) (r : Reg) (a : At) (n : Nat) : (d.incBy r a n).acc = d.acc := rfl
@[simp] theorem Dev.incBy_erg (d : Dev) (r : Reg) (a : At) (n : Nat) : (d.incBy r a n).erg = d.erg := rfl
@[simp] theorem Dev.incBy_ep (d : Dev) (r : Reg) (a : At) (n : Nat) : (d.incBy r a n).ep = d.ep := rfl
@[simp] theorem Dev.incBy_car (d : Dev) (r : Reg) (a : At) (n : Nat) : (d.incBy r a n).car = d.car := rfl

/-! ## inc -/

@[simp] theorem Dev.inc_win (d : Dev) (r : Reg) (a : At) : (d.inc r a).win = d.win := rfl
@[simp] theorem Dev.inc_env (d : Dev) (r : Reg) (a : At) : (d.inc r a).env = d.env := rfl
@[simp] theorem Dev.inc_lnk (d : Dev) (r : Reg) (a : At) : (d.inc r a).lnk = d.lnk := rfl
@[simp] theorem Dev.inc_rtr (d : Dev) (r : Reg) (a : At) : (d.inc r a).rtr = d.rtr := rfl
@[simp] theorem Dev.inc_flt (d : Dev) (r : Reg) (a : At) : (d.inc r a).flt = d.flt := rfl
@[simp] theorem Dev.inc_sys (d : Dev) (r : Reg) (a : At) : (d.inc r a).sys = d.sys := rfl
@[simp] theorem Dev.inc_mcg (d : Dev) (r : Reg) (a : At) : (d.inc r a).mcg = d.mcg := rfl
@[simp] theorem Dev.inc_pmc (d : Dev) (r : Reg) (a : At) : (d.inc r a).pmc = d.pmc := rfl
@[simp] theorem Dev.inc_pwr (d : Dev) (r : Reg) (a : At) : (d.inc r a).pwr = d.pwr := rfl
@[simp] theorem Dev.inc_xlt (d : Dev) (r : Reg) (a : At) : (d.inc r a).xlt = d.xlt := rfl
@[simp] theorem Dev.inc_hst (d : Dev) (r : Reg) (a : At) : (d.inc r a).hst = d.hst := rfl
@[simp] theorem Dev.inc_sag (d : Dev) (r : Reg) (a : At) : (d.inc r a).sag = d.sag := rfl
@[simp] theorem Dev.inc_clv (d : Dev) (r : Reg) (a : At) : (d.inc r a).clv = d.clv := rfl
@[simp] theorem Dev.inc_kln (d : Dev) (r : Reg) (a : At) : (d.inc r a).kln = d.kln := rfl
@[simp] theorem Dev.inc_noc (d : Dev) (r : Reg) (a : At) : (d.inc r a).noc = d.noc := rfl
@[simp] theorem Dev.inc_boot (d : Dev) (r : Reg) (a : At) : (d.inc r a).boot = d.boot := rfl
@[simp] theorem Dev.inc_acc (d : Dev) (r : Reg) (a : At) : (d.inc r a).acc = d.acc := rfl
@[simp] theorem Dev.inc_erg (d : Dev) (r : Reg) (a : At) : (d.inc r a).erg = d.erg := rfl
@[simp] theorem Dev.inc_ep (d : Dev) (r : Reg) (a : At) : (d.inc r a).ep = d.ep := rfl
@[simp] theorem Dev.inc_car (d : Dev) (r : Reg) (a : At) : (d.inc r a).car = d.car := rfl

/-! ## incF -/

@[simp] theorem Dev.incF_win (d : Dev) (f : Fld) (a : At) : (d.incF f a).win = d.win := rfl
@[simp] theorem Dev.incF_env (d : Dev) (f : Fld) (a : At) : (d.incF f a).env = d.env := rfl
@[simp] theorem Dev.incF_lnk (d : Dev) (f : Fld) (a : At) : (d.incF f a).lnk = d.lnk := rfl
@[simp] theorem Dev.incF_rtr (d : Dev) (f : Fld) (a : At) : (d.incF f a).rtr = d.rtr := rfl
@[simp] theorem Dev.incF_flt (d : Dev) (f : Fld) (a : At) : (d.incF f a).flt = d.flt := rfl
@[simp] theorem Dev.incF_sys (d : Dev) (f : Fld) (a : At) : (d.incF f a).sys = d.sys := rfl
@[simp] theorem Dev.incF_mcg (d : Dev) (f : Fld) (a : At) : (d.incF f a).mcg = d.mcg := rfl
@[simp] theorem Dev.incF_pmc (d : Dev) (f : Fld) (a : At) : (d.incF f a).pmc = d.pmc := rfl
@[simp] theorem Dev.incF_pwr (d : Dev) (f : Fld) (a : At) : (d.incF f a).pwr = d.pwr := rfl
@[simp] theorem Dev.incF_xlt (d : Dev) (f : Fld) (a : At) : (d.incF f a).xlt = d.xlt := rfl
@[simp] theorem Dev.incF_hst (d : Dev) (f : Fld) (a : At) : (d.incF f a).hst = d.hst := rfl
@[simp] theorem Dev.incF_sag (d : Dev) (f : Fld) (a : At) : (d.incF f a).sag = d.sag := rfl
@[simp] theorem Dev.incF_clv (d : Dev) (f : Fld) (a : At) : (d.incF f a).clv = d.clv := rfl
@[simp] theorem Dev.incF_kln (d : Dev) (f : Fld) (a : At) : (d.incF f a).kln = d.kln := rfl
@[simp] theorem Dev.incF_noc (d : Dev) (f : Fld) (a : At) : (d.incF f a).noc = d.noc := rfl
@[simp] theorem Dev.incF_boot (d : Dev) (f : Fld) (a : At) : (d.incF f a).boot = d.boot := rfl
@[simp] theorem Dev.incF_acc (d : Dev) (f : Fld) (a : At) : (d.incF f a).acc = d.acc := rfl
@[simp] theorem Dev.incF_erg (d : Dev) (f : Fld) (a : At) : (d.incF f a).erg = d.erg := rfl
@[simp] theorem Dev.incF_ep (d : Dev) (f : Fld) (a : At) : (d.incF f a).ep = d.ep := rfl
@[simp] theorem Dev.incF_car (d : Dev) (f : Fld) (a : At) : (d.incF f a).car = d.car := rfl

/-! ## emit -/

@[simp] theorem Dev.emit_regs (d : Dev) (o : OutEv) : (d.emit o).regs = d.regs := rfl
@[simp] theorem Dev.emit_win (d : Dev) (o : OutEv) : (d.emit o).win = d.win := rfl
@[simp] theorem Dev.emit_lnk (d : Dev) (o : OutEv) : (d.emit o).lnk = d.lnk := rfl
@[simp] theorem Dev.emit_rtr (d : Dev) (o : OutEv) : (d.emit o).rtr = d.rtr := rfl
@[simp] theorem Dev.emit_flt (d : Dev) (o : OutEv) : (d.emit o).flt = d.flt := rfl
@[simp] theorem Dev.emit_sys (d : Dev) (o : OutEv) : (d.emit o).sys = d.sys := rfl
@[simp] theorem Dev.emit_mcg (d : Dev) (o : OutEv) : (d.emit o).mcg = d.mcg := rfl
@[simp] theorem Dev.emit_pmc (d : Dev) (o : OutEv) : (d.emit o).pmc = d.pmc := rfl
@[simp] theorem Dev.emit_pwr (d : Dev) (o : OutEv) : (d.emit o).pwr = d.pwr := rfl
@[simp] theorem Dev.emit_xlt (d : Dev) (o : OutEv) : (d.emit o).xlt = d.xlt := rfl
@[simp] theorem Dev.emit_hst (d : Dev) (o : OutEv) : (d.emit o).hst = d.hst := rfl
@[simp] theorem Dev.emit_sag (d : Dev) (o : OutEv) : (d.emit o).sag = d.sag := rfl
@[simp] theorem Dev.emit_clv (d : Dev) (o : OutEv) : (d.emit o).clv = d.clv := rfl
@[simp] theorem Dev.emit_kln (d : Dev) (o : OutEv) : (d.emit o).kln = d.kln := rfl
@[simp] theorem Dev.emit_noc (d : Dev) (o : OutEv) : (d.emit o).noc = d.noc := rfl
@[simp] theorem Dev.emit_boot (d : Dev) (o : OutEv) : (d.emit o).boot = d.boot := rfl
@[simp] theorem Dev.emit_acc (d : Dev) (o : OutEv) : (d.emit o).acc = d.acc := rfl
@[simp] theorem Dev.emit_erg (d : Dev) (o : OutEv) : (d.emit o).erg = d.erg := rfl
@[simp] theorem Dev.emit_ep (d : Dev) (o : OutEv) : (d.emit o).ep = d.ep := rfl
@[simp] theorem Dev.emit_car (d : Dev) (o : OutEv) : (d.emit o).car = d.car := rfl

/-! ## drawn -/

@[simp] theorem Dev.drawn_regs (d : Dev) : (d.drawn).regs = d.regs := rfl
@[simp] theorem Dev.drawn_win (d : Dev) : (d.drawn).win = d.win := rfl
@[simp] theorem Dev.drawn_lnk (d : Dev) : (d.drawn).lnk = d.lnk := rfl
@[simp] theorem Dev.drawn_rtr (d : Dev) : (d.drawn).rtr = d.rtr := rfl
@[simp] theorem Dev.drawn_flt (d : Dev) : (d.drawn).flt = d.flt := rfl
@[simp] theorem Dev.drawn_sys (d : Dev) : (d.drawn).sys = d.sys := rfl
@[simp] theorem Dev.drawn_mcg (d : Dev) : (d.drawn).mcg = d.mcg := rfl
@[simp] theorem Dev.drawn_pmc (d : Dev) : (d.drawn).pmc = d.pmc := rfl
@[simp] theorem Dev.drawn_pwr (d : Dev) : (d.drawn).pwr = d.pwr := rfl
@[simp] theorem Dev.drawn_xlt (d : Dev) : (d.drawn).xlt = d.xlt := rfl
@[simp] theorem Dev.drawn_hst (d : Dev) : (d.drawn).hst = d.hst := rfl
@[simp] theorem Dev.drawn_sag (d : Dev) : (d.drawn).sag = d.sag := rfl
@[simp] theorem Dev.drawn_clv (d : Dev) : (d.drawn).clv = d.clv := rfl
@[simp] theorem Dev.drawn_kln (d : Dev) : (d.drawn).kln = d.kln := rfl
@[simp] theorem Dev.drawn_noc (d : Dev) : (d.drawn).noc = d.noc := rfl
@[simp] theorem Dev.drawn_boot (d : Dev) : (d.drawn).boot = d.boot := rfl
@[simp] theorem Dev.drawn_acc (d : Dev) : (d.drawn).acc = d.acc := rfl
@[simp] theorem Dev.drawn_erg (d : Dev) : (d.drawn).erg = d.erg := rfl
@[simp] theorem Dev.drawn_ep (d : Dev) : (d.drawn).ep = d.ep := rfl
@[simp] theorem Dev.drawn_car (d : Dev) : (d.drawn).car = d.car := rfl

/-! ## freed -/

@[simp] theorem Dev.freed_regs (d : Dev) : (d.freed).regs = d.regs := rfl
@[simp] theorem Dev.freed_win (d : Dev) : (d.freed).win = d.win := rfl
@[simp] theorem Dev.freed_lnk (d : Dev) : (d.freed).lnk = d.lnk := rfl
@[simp] theorem Dev.freed_rtr (d : Dev) : (d.freed).rtr = d.rtr := rfl
@[simp] theorem Dev.freed_flt (d : Dev) : (d.freed).flt = d.flt := rfl
@[simp] theorem Dev.freed_sys (d : Dev) : (d.freed).sys = d.sys := rfl
@[simp] theorem Dev.freed_mcg (d : Dev) : (d.freed).mcg = d.mcg := rfl
@[simp] theorem Dev.freed_pmc (d : Dev) : (d.freed).pmc = d.pmc := rfl
@[simp] theorem Dev.freed_pwr (d : Dev) : (d.freed).pwr = d.pwr := rfl
@[simp] theorem Dev.freed_xlt (d : Dev) : (d.freed).xlt = d.xlt := rfl
@[simp] theorem Dev.freed_hst (d : Dev) : (d.freed).hst = d.hst := rfl
@[simp] theorem Dev.freed_sag (d : Dev) : (d.freed).sag = d.sag := rfl
@[simp] theorem Dev.freed_clv (d : Dev) : (d.freed).clv = d.clv := rfl
@[simp] theorem Dev.freed_kln (d : Dev) : (d.freed).kln = d.kln := rfl
@[simp] theorem Dev.freed_noc (d : Dev) : (d.freed).noc = d.noc := rfl
@[simp] theorem Dev.freed_boot (d : Dev) : (d.freed).boot = d.boot := rfl
@[simp] theorem Dev.freed_acc (d : Dev) : (d.freed).acc = d.acc := rfl
@[simp] theorem Dev.freed_erg (d : Dev) : (d.freed).erg = d.erg := rfl
@[simp] theorem Dev.freed_ep (d : Dev) : (d.freed).ep = d.ep := rfl
@[simp] theorem Dev.freed_car (d : Dev) : (d.freed).car = d.car := rfl

/-! ## setLink -/

@[simp] theorem Dev.setLink_regs (d : Dev) (p : Nat) (l : Link) : (d.setLink p l).regs = d.regs := rfl
@[simp] theorem Dev.setLink_win (d : Dev) (p : Nat) (l : Link) : (d.setLink p l).win = d.win := rfl
@[simp] theorem Dev.setLink_env (d : Dev) (p : Nat) (l : Link) : (d.setLink p l).env = d.env := rfl
@[simp] theorem Dev.setLink_rtr (d : Dev) (p : Nat) (l : Link) : (d.setLink p l).rtr = d.rtr := rfl
@[simp] theorem Dev.setLink_flt (d : Dev) (p : Nat) (l : Link) : (d.setLink p l).flt = d.flt := rfl
@[simp] theorem Dev.setLink_sys (d : Dev) (p : Nat) (l : Link) : (d.setLink p l).sys = d.sys := rfl
@[simp] theorem Dev.setLink_mcg (d : Dev) (p : Nat) (l : Link) : (d.setLink p l).mcg = d.mcg := rfl
@[simp] theorem Dev.setLink_pmc (d : Dev) (p : Nat) (l : Link) : (d.setLink p l).pmc = d.pmc := rfl
@[simp] theorem Dev.setLink_pwr (d : Dev) (p : Nat) (l : Link) : (d.setLink p l).pwr = d.pwr := rfl
@[simp] theorem Dev.setLink_xlt (d : Dev) (p : Nat) (l : Link) : (d.setLink p l).xlt = d.xlt := rfl
@[simp] theorem Dev.setLink_hst (d : Dev) (p : Nat) (l : Link) : (d.setLink p l).hst = d.hst := rfl
@[simp] theorem Dev.setLink_sag (d : Dev) (p : Nat) (l : Link) : (d.setLink p l).sag = d.sag := rfl
@[simp] theorem Dev.setLink_clv (d : Dev) (p : Nat) (l : Link) : (d.setLink p l).clv = d.clv := rfl
@[simp] theorem Dev.setLink_kln (d : Dev) (p : Nat) (l : Link) : (d.setLink p l).kln = d.kln := rfl
@[simp] theorem Dev.setLink_noc (d : Dev) (p : Nat) (l : Link) : (d.setLink p l).noc = d.noc := rfl
@[simp] theorem Dev.setLink_boot (d : Dev) (p : Nat) (l : Link) : (d.setLink p l).boot = d.boot := rfl
@[simp] theorem Dev.setLink_acc (d : Dev) (p : Nat) (l : Link) : (d.setLink p l).acc = d.acc := rfl
@[simp] theorem Dev.setLink_erg (d : Dev) (p : Nat) (l : Link) : (d.setLink p l).erg = d.erg := rfl
@[simp] theorem Dev.setLink_ep (d : Dev) (p : Nat) (l : Link) : (d.setLink p l).ep = d.ep := rfl
@[simp] theorem Dev.setLink_car (d : Dev) (p : Nat) (l : Link) : (d.setLink p l).car = d.car := rfl

/-! ## setChan -/

@[simp] theorem Dev.setChan_regs (d : Dev) (p v : Nat) (c : Chan) : (d.setChan p v c).regs = d.regs := rfl
@[simp] theorem Dev.setChan_win (d : Dev) (p v : Nat) (c : Chan) : (d.setChan p v c).win = d.win := rfl
@[simp] theorem Dev.setChan_env (d : Dev) (p v : Nat) (c : Chan) : (d.setChan p v c).env = d.env := rfl
@[simp] theorem Dev.setChan_rtr (d : Dev) (p v : Nat) (c : Chan) : (d.setChan p v c).rtr = d.rtr := rfl
@[simp] theorem Dev.setChan_flt (d : Dev) (p v : Nat) (c : Chan) : (d.setChan p v c).flt = d.flt := rfl
@[simp] theorem Dev.setChan_sys (d : Dev) (p v : Nat) (c : Chan) : (d.setChan p v c).sys = d.sys := rfl
@[simp] theorem Dev.setChan_mcg (d : Dev) (p v : Nat) (c : Chan) : (d.setChan p v c).mcg = d.mcg := rfl
@[simp] theorem Dev.setChan_pmc (d : Dev) (p v : Nat) (c : Chan) : (d.setChan p v c).pmc = d.pmc := rfl
@[simp] theorem Dev.setChan_pwr (d : Dev) (p v : Nat) (c : Chan) : (d.setChan p v c).pwr = d.pwr := rfl
@[simp] theorem Dev.setChan_xlt (d : Dev) (p v : Nat) (c : Chan) : (d.setChan p v c).xlt = d.xlt := rfl
@[simp] theorem Dev.setChan_hst (d : Dev) (p v : Nat) (c : Chan) : (d.setChan p v c).hst = d.hst := rfl
@[simp] theorem Dev.setChan_sag (d : Dev) (p v : Nat) (c : Chan) : (d.setChan p v c).sag = d.sag := rfl
@[simp] theorem Dev.setChan_clv (d : Dev) (p v : Nat) (c : Chan) : (d.setChan p v c).clv = d.clv := rfl
@[simp] theorem Dev.setChan_kln (d : Dev) (p v : Nat) (c : Chan) : (d.setChan p v c).kln = d.kln := rfl
@[simp] theorem Dev.setChan_noc (d : Dev) (p v : Nat) (c : Chan) : (d.setChan p v c).noc = d.noc := rfl
@[simp] theorem Dev.setChan_boot (d : Dev) (p v : Nat) (c : Chan) : (d.setChan p v c).boot = d.boot := rfl
@[simp] theorem Dev.setChan_acc (d : Dev) (p v : Nat) (c : Chan) : (d.setChan p v c).acc = d.acc := rfl
@[simp] theorem Dev.setChan_erg (d : Dev) (p v : Nat) (c : Chan) : (d.setChan p v c).erg = d.erg := rfl
@[simp] theorem Dev.setChan_ep (d : Dev) (p v : Nat) (c : Chan) : (d.setChan p v c).ep = d.ep := rfl
@[simp] theorem Dev.setChan_car (d : Dev) (p v : Nat) (c : Chan) : (d.setChan p v c).car = d.car := rfl

/-! ## modLane -/

@[simp] theorem Dev.modLane_regs (d : Dev) (l : Nat) (g : LaneSt → LaneSt) : (d.modLane l g).regs = d.regs := rfl
@[simp] theorem Dev.modLane_win (d : Dev) (l : Nat) (g : LaneSt → LaneSt) : (d.modLane l g).win = d.win := rfl
@[simp] theorem Dev.modLane_env (d : Dev) (l : Nat) (g : LaneSt → LaneSt) : (d.modLane l g).env = d.env := rfl
@[simp] theorem Dev.modLane_rtr (d : Dev) (l : Nat) (g : LaneSt → LaneSt) : (d.modLane l g).rtr = d.rtr := rfl
@[simp] theorem Dev.modLane_flt (d : Dev) (l : Nat) (g : LaneSt → LaneSt) : (d.modLane l g).flt = d.flt := rfl
@[simp] theorem Dev.modLane_sys (d : Dev) (l : Nat) (g : LaneSt → LaneSt) : (d.modLane l g).sys = d.sys := rfl
@[simp] theorem Dev.modLane_mcg (d : Dev) (l : Nat) (g : LaneSt → LaneSt) : (d.modLane l g).mcg = d.mcg := rfl
@[simp] theorem Dev.modLane_pmc (d : Dev) (l : Nat) (g : LaneSt → LaneSt) : (d.modLane l g).pmc = d.pmc := rfl
@[simp] theorem Dev.modLane_pwr (d : Dev) (l : Nat) (g : LaneSt → LaneSt) : (d.modLane l g).pwr = d.pwr := rfl
@[simp] theorem Dev.modLane_xlt (d : Dev) (l : Nat) (g : LaneSt → LaneSt) : (d.modLane l g).xlt = d.xlt := rfl
@[simp] theorem Dev.modLane_hst (d : Dev) (l : Nat) (g : LaneSt → LaneSt) : (d.modLane l g).hst = d.hst := rfl
@[simp] theorem Dev.modLane_sag (d : Dev) (l : Nat) (g : LaneSt → LaneSt) : (d.modLane l g).sag = d.sag := rfl
@[simp] theorem Dev.modLane_clv (d : Dev) (l : Nat) (g : LaneSt → LaneSt) : (d.modLane l g).clv = d.clv := rfl
@[simp] theorem Dev.modLane_kln (d : Dev) (l : Nat) (g : LaneSt → LaneSt) : (d.modLane l g).kln = d.kln := rfl
@[simp] theorem Dev.modLane_noc (d : Dev) (l : Nat) (g : LaneSt → LaneSt) : (d.modLane l g).noc = d.noc := rfl
@[simp] theorem Dev.modLane_boot (d : Dev) (l : Nat) (g : LaneSt → LaneSt) : (d.modLane l g).boot = d.boot := rfl
@[simp] theorem Dev.modLane_acc (d : Dev) (l : Nat) (g : LaneSt → LaneSt) : (d.modLane l g).acc = d.acc := rfl
@[simp] theorem Dev.modLane_erg (d : Dev) (l : Nat) (g : LaneSt → LaneSt) : (d.modLane l g).erg = d.erg := rfl
@[simp] theorem Dev.modLane_ep (d : Dev) (l : Nat) (g : LaneSt → LaneSt) : (d.modLane l g).ep = d.ep := rfl
@[simp] theorem Dev.modLane_car (d : Dev) (l : Nat) (g : LaneSt → LaneSt) : (d.modLane l g).car = d.car := rfl

/-! ## setPkt -/

@[simp] theorem Dev.setPkt_regs (d : Dev) (i : Nat) (k : Pkt) : (d.setPkt i k).regs = d.regs := rfl
@[simp] theorem Dev.setPkt_win (d : Dev) (i : Nat) (k : Pkt) : (d.setPkt i k).win = d.win := rfl
@[simp] theorem Dev.setPkt_env (d : Dev) (i : Nat) (k : Pkt) : (d.setPkt i k).env = d.env := rfl
@[simp] theorem Dev.setPkt_lnk (d : Dev) (i : Nat) (k : Pkt) : (d.setPkt i k).lnk = d.lnk := rfl
@[simp] theorem Dev.setPkt_flt (d : Dev) (i : Nat) (k : Pkt) : (d.setPkt i k).flt = d.flt := rfl
@[simp] theorem Dev.setPkt_sys (d : Dev) (i : Nat) (k : Pkt) : (d.setPkt i k).sys = d.sys := rfl
@[simp] theorem Dev.setPkt_mcg (d : Dev) (i : Nat) (k : Pkt) : (d.setPkt i k).mcg = d.mcg := rfl
@[simp] theorem Dev.setPkt_pmc (d : Dev) (i : Nat) (k : Pkt) : (d.setPkt i k).pmc = d.pmc := rfl
@[simp] theorem Dev.setPkt_pwr (d : Dev) (i : Nat) (k : Pkt) : (d.setPkt i k).pwr = d.pwr := rfl
@[simp] theorem Dev.setPkt_xlt (d : Dev) (i : Nat) (k : Pkt) : (d.setPkt i k).xlt = d.xlt := rfl
@[simp] theorem Dev.setPkt_hst (d : Dev) (i : Nat) (k : Pkt) : (d.setPkt i k).hst = d.hst := rfl
@[simp] theorem Dev.setPkt_sag (d : Dev) (i : Nat) (k : Pkt) : (d.setPkt i k).sag = d.sag := rfl
@[simp] theorem Dev.setPkt_clv (d : Dev) (i : Nat) (k : Pkt) : (d.setPkt i k).clv = d.clv := rfl
@[simp] theorem Dev.setPkt_kln (d : Dev) (i : Nat) (k : Pkt) : (d.setPkt i k).kln = d.kln := rfl
@[simp] theorem Dev.setPkt_noc (d : Dev) (i : Nat) (k : Pkt) : (d.setPkt i k).noc = d.noc := rfl
@[simp] theorem Dev.setPkt_boot (d : Dev) (i : Nat) (k : Pkt) : (d.setPkt i k).boot = d.boot := rfl
@[simp] theorem Dev.setPkt_acc (d : Dev) (i : Nat) (k : Pkt) : (d.setPkt i k).acc = d.acc := rfl
@[simp] theorem Dev.setPkt_erg (d : Dev) (i : Nat) (k : Pkt) : (d.setPkt i k).erg = d.erg := rfl
@[simp] theorem Dev.setPkt_ep (d : Dev) (i : Nat) (k : Pkt) : (d.setPkt i k).ep = d.ep := rfl
@[simp] theorem Dev.setPkt_car (d : Dev) (i : Nat) (k : Pkt) : (d.setPkt i k).car = d.car := rfl

/-! ## delPkt -/

@[simp] theorem Dev.delPkt_regs (d : Dev) (i : Nat) : (d.delPkt i).regs = d.regs := rfl
@[simp] theorem Dev.delPkt_win (d : Dev) (i : Nat) : (d.delPkt i).win = d.win := rfl
@[simp] theorem Dev.delPkt_env (d : Dev) (i : Nat) : (d.delPkt i).env = d.env := rfl
@[simp] theorem Dev.delPkt_lnk (d : Dev) (i : Nat) : (d.delPkt i).lnk = d.lnk := rfl
@[simp] theorem Dev.delPkt_flt (d : Dev) (i : Nat) : (d.delPkt i).flt = d.flt := rfl
@[simp] theorem Dev.delPkt_sys (d : Dev) (i : Nat) : (d.delPkt i).sys = d.sys := rfl
@[simp] theorem Dev.delPkt_mcg (d : Dev) (i : Nat) : (d.delPkt i).mcg = d.mcg := rfl
@[simp] theorem Dev.delPkt_pmc (d : Dev) (i : Nat) : (d.delPkt i).pmc = d.pmc := rfl
@[simp] theorem Dev.delPkt_pwr (d : Dev) (i : Nat) : (d.delPkt i).pwr = d.pwr := rfl
@[simp] theorem Dev.delPkt_xlt (d : Dev) (i : Nat) : (d.delPkt i).xlt = d.xlt := rfl
@[simp] theorem Dev.delPkt_hst (d : Dev) (i : Nat) : (d.delPkt i).hst = d.hst := rfl
@[simp] theorem Dev.delPkt_sag (d : Dev) (i : Nat) : (d.delPkt i).sag = d.sag := rfl
@[simp] theorem Dev.delPkt_clv (d : Dev) (i : Nat) : (d.delPkt i).clv = d.clv := rfl
@[simp] theorem Dev.delPkt_kln (d : Dev) (i : Nat) : (d.delPkt i).kln = d.kln := rfl
@[simp] theorem Dev.delPkt_noc (d : Dev) (i : Nat) : (d.delPkt i).noc = d.noc := rfl
@[simp] theorem Dev.delPkt_boot (d : Dev) (i : Nat) : (d.delPkt i).boot = d.boot := rfl
@[simp] theorem Dev.delPkt_acc (d : Dev) (i : Nat) : (d.delPkt i).acc = d.acc := rfl
@[simp] theorem Dev.delPkt_erg (d : Dev) (i : Nat) : (d.delPkt i).erg = d.erg := rfl
@[simp] theorem Dev.delPkt_ep (d : Dev) (i : Nat) : (d.delPkt i).ep = d.ep := rfl
@[simp] theorem Dev.delPkt_car (d : Dev) (i : Nat) : (d.delPkt i).car = d.car := rfl

/-! ## modEport -/

@[simp] theorem Dev.modEport_regs (d : Dev) (p : Nat) (g : EPort → EPort) : (d.modEport p g).regs = d.regs := rfl
@[simp] theorem Dev.modEport_win (d : Dev) (p : Nat) (g : EPort → EPort) : (d.modEport p g).win = d.win := rfl
@[simp] theorem Dev.modEport_env (d : Dev) (p : Nat) (g : EPort → EPort) : (d.modEport p g).env = d.env := rfl
@[simp] theorem Dev.modEport_lnk (d : Dev) (p : Nat) (g : EPort → EPort) : (d.modEport p g).lnk = d.lnk := rfl
@[simp] theorem Dev.modEport_flt (d : Dev) (p : Nat) (g : EPort → EPort) : (d.modEport p g).flt = d.flt := rfl
@[simp] theorem Dev.modEport_sys (d : Dev) (p : Nat) (g : EPort → EPort) : (d.modEport p g).sys = d.sys := rfl
@[simp] theorem Dev.modEport_mcg (d : Dev) (p : Nat) (g : EPort → EPort) : (d.modEport p g).mcg = d.mcg := rfl
@[simp] theorem Dev.modEport_pmc (d : Dev) (p : Nat) (g : EPort → EPort) : (d.modEport p g).pmc = d.pmc := rfl
@[simp] theorem Dev.modEport_pwr (d : Dev) (p : Nat) (g : EPort → EPort) : (d.modEport p g).pwr = d.pwr := rfl
@[simp] theorem Dev.modEport_xlt (d : Dev) (p : Nat) (g : EPort → EPort) : (d.modEport p g).xlt = d.xlt := rfl
@[simp] theorem Dev.modEport_hst (d : Dev) (p : Nat) (g : EPort → EPort) : (d.modEport p g).hst = d.hst := rfl
@[simp] theorem Dev.modEport_sag (d : Dev) (p : Nat) (g : EPort → EPort) : (d.modEport p g).sag = d.sag := rfl
@[simp] theorem Dev.modEport_clv (d : Dev) (p : Nat) (g : EPort → EPort) : (d.modEport p g).clv = d.clv := rfl
@[simp] theorem Dev.modEport_kln (d : Dev) (p : Nat) (g : EPort → EPort) : (d.modEport p g).kln = d.kln := rfl
@[simp] theorem Dev.modEport_noc (d : Dev) (p : Nat) (g : EPort → EPort) : (d.modEport p g).noc = d.noc := rfl
@[simp] theorem Dev.modEport_boot (d : Dev) (p : Nat) (g : EPort → EPort) : (d.modEport p g).boot = d.boot := rfl
@[simp] theorem Dev.modEport_acc (d : Dev) (p : Nat) (g : EPort → EPort) : (d.modEport p g).acc = d.acc := rfl
@[simp] theorem Dev.modEport_erg (d : Dev) (p : Nat) (g : EPort → EPort) : (d.modEport p g).erg = d.erg := rfl
@[simp] theorem Dev.modEport_ep (d : Dev) (p : Nat) (g : EPort → EPort) : (d.modEport p g).ep = d.ep := rfl
@[simp] theorem Dev.modEport_car (d : Dev) (p : Nat) (g : EPort → EPort) : (d.modEport p g).car = d.car := rfl

/-! ## setCell -/

@[simp] theorem Dev.setCell_regs (d : Dev) (c : Nat) (x : Cell) : (d.setCell c x).regs = d.regs := rfl
@[simp] theorem Dev.setCell_win (d : Dev) (c : Nat) (x : Cell) : (d.setCell c x).win = d.win := rfl
@[simp] theorem Dev.setCell_env (d : Dev) (c : Nat) (x : Cell) : (d.setCell c x).env = d.env := rfl
@[simp] theorem Dev.setCell_lnk (d : Dev) (c : Nat) (x : Cell) : (d.setCell c x).lnk = d.lnk := rfl
@[simp] theorem Dev.setCell_flt (d : Dev) (c : Nat) (x : Cell) : (d.setCell c x).flt = d.flt := rfl
@[simp] theorem Dev.setCell_sys (d : Dev) (c : Nat) (x : Cell) : (d.setCell c x).sys = d.sys := rfl
@[simp] theorem Dev.setCell_mcg (d : Dev) (c : Nat) (x : Cell) : (d.setCell c x).mcg = d.mcg := rfl
@[simp] theorem Dev.setCell_pmc (d : Dev) (c : Nat) (x : Cell) : (d.setCell c x).pmc = d.pmc := rfl
@[simp] theorem Dev.setCell_pwr (d : Dev) (c : Nat) (x : Cell) : (d.setCell c x).pwr = d.pwr := rfl
@[simp] theorem Dev.setCell_xlt (d : Dev) (c : Nat) (x : Cell) : (d.setCell c x).xlt = d.xlt := rfl
@[simp] theorem Dev.setCell_hst (d : Dev) (c : Nat) (x : Cell) : (d.setCell c x).hst = d.hst := rfl
@[simp] theorem Dev.setCell_sag (d : Dev) (c : Nat) (x : Cell) : (d.setCell c x).sag = d.sag := rfl
@[simp] theorem Dev.setCell_clv (d : Dev) (c : Nat) (x : Cell) : (d.setCell c x).clv = d.clv := rfl
@[simp] theorem Dev.setCell_kln (d : Dev) (c : Nat) (x : Cell) : (d.setCell c x).kln = d.kln := rfl
@[simp] theorem Dev.setCell_noc (d : Dev) (c : Nat) (x : Cell) : (d.setCell c x).noc = d.noc := rfl
@[simp] theorem Dev.setCell_boot (d : Dev) (c : Nat) (x : Cell) : (d.setCell c x).boot = d.boot := rfl
@[simp] theorem Dev.setCell_acc (d : Dev) (c : Nat) (x : Cell) : (d.setCell c x).acc = d.acc := rfl
@[simp] theorem Dev.setCell_erg (d : Dev) (c : Nat) (x : Cell) : (d.setCell c x).erg = d.erg := rfl
@[simp] theorem Dev.setCell_ep (d : Dev) (c : Nat) (x : Cell) : (d.setCell c x).ep = d.ep := rfl
@[simp] theorem Dev.setCell_car (d : Dev) (c : Nat) (x : Cell) : (d.setCell c x).car = d.car := rfl

/-! ## setRec -/

@[simp] theorem Dev.setRec_regs (d : Dev) (slot : Nat) (r : FRec) : (d.setRec slot r).regs = d.regs := rfl
@[simp] theorem Dev.setRec_win (d : Dev) (slot : Nat) (r : FRec) : (d.setRec slot r).win = d.win := rfl
@[simp] theorem Dev.setRec_env (d : Dev) (slot : Nat) (r : FRec) : (d.setRec slot r).env = d.env := rfl
@[simp] theorem Dev.setRec_lnk (d : Dev) (slot : Nat) (r : FRec) : (d.setRec slot r).lnk = d.lnk := rfl
@[simp] theorem Dev.setRec_rtr (d : Dev) (slot : Nat) (r : FRec) : (d.setRec slot r).rtr = d.rtr := rfl
@[simp] theorem Dev.setRec_sys (d : Dev) (slot : Nat) (r : FRec) : (d.setRec slot r).sys = d.sys := rfl
@[simp] theorem Dev.setRec_mcg (d : Dev) (slot : Nat) (r : FRec) : (d.setRec slot r).mcg = d.mcg := rfl
@[simp] theorem Dev.setRec_pmc (d : Dev) (slot : Nat) (r : FRec) : (d.setRec slot r).pmc = d.pmc := rfl
@[simp] theorem Dev.setRec_pwr (d : Dev) (slot : Nat) (r : FRec) : (d.setRec slot r).pwr = d.pwr := rfl
@[simp] theorem Dev.setRec_xlt (d : Dev) (slot : Nat) (r : FRec) : (d.setRec slot r).xlt = d.xlt := rfl
@[simp] theorem Dev.setRec_hst (d : Dev) (slot : Nat) (r : FRec) : (d.setRec slot r).hst = d.hst := rfl
@[simp] theorem Dev.setRec_sag (d : Dev) (slot : Nat) (r : FRec) : (d.setRec slot r).sag = d.sag := rfl
@[simp] theorem Dev.setRec_clv (d : Dev) (slot : Nat) (r : FRec) : (d.setRec slot r).clv = d.clv := rfl
@[simp] theorem Dev.setRec_kln (d : Dev) (slot : Nat) (r : FRec) : (d.setRec slot r).kln = d.kln := rfl
@[simp] theorem Dev.setRec_noc (d : Dev) (slot : Nat) (r : FRec) : (d.setRec slot r).noc = d.noc := rfl
@[simp] theorem Dev.setRec_boot (d : Dev) (slot : Nat) (r : FRec) : (d.setRec slot r).boot = d.boot := rfl
@[simp] theorem Dev.setRec_acc (d : Dev) (slot : Nat) (r : FRec) : (d.setRec slot r).acc = d.acc := rfl
@[simp] theorem Dev.setRec_erg (d : Dev) (slot : Nat) (r : FRec) : (d.setRec slot r).erg = d.erg := rfl
@[simp] theorem Dev.setRec_ep (d : Dev) (slot : Nat) (r : FRec) : (d.setRec slot r).ep = d.ep := rfl
@[simp] theorem Dev.setRec_car (d : Dev) (slot : Nat) (r : FRec) : (d.setRec slot r).car = d.car := rfl

/-! ## setQueue -/

@[simp] theorem Dev.setQueue_regs (d : Dev) (q k n : Nat) (x : Queue) : (d.setQueue q k n x).regs = d.regs := rfl
@[simp] theorem Dev.setQueue_win (d : Dev) (q k n : Nat) (x : Queue) : (d.setQueue q k n x).win = d.win := rfl
@[simp] theorem Dev.setQueue_env (d : Dev) (q k n : Nat) (x : Queue) : (d.setQueue q k n x).env = d.env := rfl
@[simp] theorem Dev.setQueue_lnk (d : Dev) (q k n : Nat) (x : Queue) : (d.setQueue q k n x).lnk = d.lnk := rfl
@[simp] theorem Dev.setQueue_rtr (d : Dev) (q k n : Nat) (x : Queue) : (d.setQueue q k n x).rtr = d.rtr := rfl
@[simp] theorem Dev.setQueue_flt (d : Dev) (q k n : Nat) (x : Queue) : (d.setQueue q k n x).flt = d.flt := rfl
@[simp] theorem Dev.setQueue_sys (d : Dev) (q k n : Nat) (x : Queue) : (d.setQueue q k n x).sys = d.sys := rfl
@[simp] theorem Dev.setQueue_mcg (d : Dev) (q k n : Nat) (x : Queue) : (d.setQueue q k n x).mcg = d.mcg := rfl
@[simp] theorem Dev.setQueue_pmc (d : Dev) (q k n : Nat) (x : Queue) : (d.setQueue q k n x).pmc = d.pmc := rfl
@[simp] theorem Dev.setQueue_pwr (d : Dev) (q k n : Nat) (x : Queue) : (d.setQueue q k n x).pwr = d.pwr := rfl
@[simp] theorem Dev.setQueue_xlt (d : Dev) (q k n : Nat) (x : Queue) : (d.setQueue q k n x).xlt = d.xlt := rfl
@[simp] theorem Dev.setQueue_sag (d : Dev) (q k n : Nat) (x : Queue) : (d.setQueue q k n x).sag = d.sag := rfl
@[simp] theorem Dev.setQueue_clv (d : Dev) (q k n : Nat) (x : Queue) : (d.setQueue q k n x).clv = d.clv := rfl
@[simp] theorem Dev.setQueue_kln (d : Dev) (q k n : Nat) (x : Queue) : (d.setQueue q k n x).kln = d.kln := rfl
@[simp] theorem Dev.setQueue_noc (d : Dev) (q k n : Nat) (x : Queue) : (d.setQueue q k n x).noc = d.noc := rfl
@[simp] theorem Dev.setQueue_boot (d : Dev) (q k n : Nat) (x : Queue) : (d.setQueue q k n x).boot = d.boot := rfl
@[simp] theorem Dev.setQueue_acc (d : Dev) (q k n : Nat) (x : Queue) : (d.setQueue q k n x).acc = d.acc := rfl
@[simp] theorem Dev.setQueue_erg (d : Dev) (q k n : Nat) (x : Queue) : (d.setQueue q k n x).erg = d.erg := rfl
@[simp] theorem Dev.setQueue_ep (d : Dev) (q k n : Nat) (x : Queue) : (d.setQueue q k n x).ep = d.ep := rfl
@[simp] theorem Dev.setQueue_car (d : Dev) (q k n : Nat) (x : Queue) : (d.setQueue q k n x).car = d.car := rfl

/-! ## setOp -/

@[simp] theorem Dev.setOp_regs (d : Dev) (i : Nat) (o : Op) : (d.setOp i o).regs = d.regs := rfl
@[simp] theorem Dev.setOp_win (d : Dev) (i : Nat) (o : Op) : (d.setOp i o).win = d.win := rfl
@[simp] theorem Dev.setOp_env (d : Dev) (i : Nat) (o : Op) : (d.setOp i o).env = d.env := rfl
@[simp] theorem Dev.setOp_lnk (d : Dev) (i : Nat) (o : Op) : (d.setOp i o).lnk = d.lnk := rfl
@[simp] theorem Dev.setOp_rtr (d : Dev) (i : Nat) (o : Op) : (d.setOp i o).rtr = d.rtr := rfl
@[simp] theorem Dev.setOp_flt (d : Dev) (i : Nat) (o : Op) : (d.setOp i o).flt = d.flt := rfl
@[simp] theorem Dev.setOp_sys (d : Dev) (i : Nat) (o : Op) : (d.setOp i o).sys = d.sys := rfl
@[simp] theorem Dev.setOp_mcg (d : Dev) (i : Nat) (o : Op) : (d.setOp i o).mcg = d.mcg := rfl
@[simp] theorem Dev.setOp_pmc (d : Dev) (i : Nat) (o : Op) : (d.setOp i o).pmc = d.pmc := rfl
@[simp] theorem Dev.setOp_pwr (d : Dev) (i : Nat) (o : Op) : (d.setOp i o).pwr = d.pwr := rfl
@[simp] theorem Dev.setOp_xlt (d : Dev) (i : Nat) (o : Op) : (d.setOp i o).xlt = d.xlt := rfl
@[simp] theorem Dev.setOp_sag (d : Dev) (i : Nat) (o : Op) : (d.setOp i o).sag = d.sag := rfl
@[simp] theorem Dev.setOp_clv (d : Dev) (i : Nat) (o : Op) : (d.setOp i o).clv = d.clv := rfl
@[simp] theorem Dev.setOp_kln (d : Dev) (i : Nat) (o : Op) : (d.setOp i o).kln = d.kln := rfl
@[simp] theorem Dev.setOp_noc (d : Dev) (i : Nat) (o : Op) : (d.setOp i o).noc = d.noc := rfl
@[simp] theorem Dev.setOp_boot (d : Dev) (i : Nat) (o : Op) : (d.setOp i o).boot = d.boot := rfl
@[simp] theorem Dev.setOp_acc (d : Dev) (i : Nat) (o : Op) : (d.setOp i o).acc = d.acc := rfl
@[simp] theorem Dev.setOp_erg (d : Dev) (i : Nat) (o : Op) : (d.setOp i o).erg = d.erg := rfl
@[simp] theorem Dev.setOp_ep (d : Dev) (i : Nat) (o : Op) : (d.setOp i o).ep = d.ep := rfl
@[simp] theorem Dev.setOp_car (d : Dev) (i : Nat) (o : Op) : (d.setOp i o).car = d.car := rfl

/-! ## setConn -/

@[simp] theorem Dev.setConn_regs (d : Dev) (c : Nat) (x : Conn) : (d.setConn c x).regs = d.regs := rfl
@[simp] theorem Dev.setConn_win (d : Dev) (c : Nat) (x : Conn) : (d.setConn c x).win = d.win := rfl
@[simp] theorem Dev.setConn_env (d : Dev) (c : Nat) (x : Conn) : (d.setConn c x).env = d.env := rfl
@[simp] theorem Dev.setConn_lnk (d : Dev) (c : Nat) (x : Conn) : (d.setConn c x).lnk = d.lnk := rfl
@[simp] theorem Dev.setConn_rtr (d : Dev) (c : Nat) (x : Conn) : (d.setConn c x).rtr = d.rtr := rfl
@[simp] theorem Dev.setConn_flt (d : Dev) (c : Nat) (x : Conn) : (d.setConn c x).flt = d.flt := rfl
@[simp] theorem Dev.setConn_sys (d : Dev) (c : Nat) (x : Conn) : (d.setConn c x).sys = d.sys := rfl
@[simp] theorem Dev.setConn_mcg (d : Dev) (c : Nat) (x : Conn) : (d.setConn c x).mcg = d.mcg := rfl
@[simp] theorem Dev.setConn_pmc (d : Dev) (c : Nat) (x : Conn) : (d.setConn c x).pmc = d.pmc := rfl
@[simp] theorem Dev.setConn_pwr (d : Dev) (c : Nat) (x : Conn) : (d.setConn c x).pwr = d.pwr := rfl
@[simp] theorem Dev.setConn_xlt (d : Dev) (c : Nat) (x : Conn) : (d.setConn c x).xlt = d.xlt := rfl
@[simp] theorem Dev.setConn_sag (d : Dev) (c : Nat) (x : Conn) : (d.setConn c x).sag = d.sag := rfl
@[simp] theorem Dev.setConn_clv (d : Dev) (c : Nat) (x : Conn) : (d.setConn c x).clv = d.clv := rfl
@[simp] theorem Dev.setConn_kln (d : Dev) (c : Nat) (x : Conn) : (d.setConn c x).kln = d.kln := rfl
@[simp] theorem Dev.setConn_noc (d : Dev) (c : Nat) (x : Conn) : (d.setConn c x).noc = d.noc := rfl
@[simp] theorem Dev.setConn_boot (d : Dev) (c : Nat) (x : Conn) : (d.setConn c x).boot = d.boot := rfl
@[simp] theorem Dev.setConn_acc (d : Dev) (c : Nat) (x : Conn) : (d.setConn c x).acc = d.acc := rfl
@[simp] theorem Dev.setConn_erg (d : Dev) (c : Nat) (x : Conn) : (d.setConn c x).erg = d.erg := rfl
@[simp] theorem Dev.setConn_ep (d : Dev) (c : Nat) (x : Conn) : (d.setConn c x).ep = d.ep := rfl
@[simp] theorem Dev.setConn_car (d : Dev) (c : Nat) (x : Conn) : (d.setConn c x).car = d.car := rfl

/-! ## setL2 -/

@[simp] theorem Dev.setL2_regs (d : Dev) (q : Nat) (l : List XEnt) : (d.setL2 q l).regs = d.regs := rfl
@[simp] theorem Dev.setL2_win (d : Dev) (q : Nat) (l : List XEnt) : (d.setL2 q l).win = d.win := rfl
@[simp] theorem Dev.setL2_env (d : Dev) (q : Nat) (l : List XEnt) : (d.setL2 q l).env = d.env := rfl
@[simp] theorem Dev.setL2_lnk (d : Dev) (q : Nat) (l : List XEnt) : (d.setL2 q l).lnk = d.lnk := rfl
@[simp] theorem Dev.setL2_rtr (d : Dev) (q : Nat) (l : List XEnt) : (d.setL2 q l).rtr = d.rtr := rfl
@[simp] theorem Dev.setL2_flt (d : Dev) (q : Nat) (l : List XEnt) : (d.setL2 q l).flt = d.flt := rfl
@[simp] theorem Dev.setL2_sys (d : Dev) (q : Nat) (l : List XEnt) : (d.setL2 q l).sys = d.sys := rfl
@[simp] theorem Dev.setL2_mcg (d : Dev) (q : Nat) (l : List XEnt) : (d.setL2 q l).mcg = d.mcg := rfl
@[simp] theorem Dev.setL2_pmc (d : Dev) (q : Nat) (l : List XEnt) : (d.setL2 q l).pmc = d.pmc := rfl
@[simp] theorem Dev.setL2_pwr (d : Dev) (q : Nat) (l : List XEnt) : (d.setL2 q l).pwr = d.pwr := rfl
@[simp] theorem Dev.setL2_hst (d : Dev) (q : Nat) (l : List XEnt) : (d.setL2 q l).hst = d.hst := rfl
@[simp] theorem Dev.setL2_sag (d : Dev) (q : Nat) (l : List XEnt) : (d.setL2 q l).sag = d.sag := rfl
@[simp] theorem Dev.setL2_clv (d : Dev) (q : Nat) (l : List XEnt) : (d.setL2 q l).clv = d.clv := rfl
@[simp] theorem Dev.setL2_kln (d : Dev) (q : Nat) (l : List XEnt) : (d.setL2 q l).kln = d.kln := rfl
@[simp] theorem Dev.setL2_noc (d : Dev) (q : Nat) (l : List XEnt) : (d.setL2 q l).noc = d.noc := rfl
@[simp] theorem Dev.setL2_boot (d : Dev) (q : Nat) (l : List XEnt) : (d.setL2 q l).boot = d.boot := rfl
@[simp] theorem Dev.setL2_acc (d : Dev) (q : Nat) (l : List XEnt) : (d.setL2 q l).acc = d.acc := rfl
@[simp] theorem Dev.setL2_erg (d : Dev) (q : Nat) (l : List XEnt) : (d.setL2 q l).erg = d.erg := rfl
@[simp] theorem Dev.setL2_ep (d : Dev) (q : Nat) (l : List XEnt) : (d.setL2 q l).ep = d.ep := rfl
@[simp] theorem Dev.setL2_car (d : Dev) (q : Nat) (l : List XEnt) : (d.setL2 q l).car = d.car := rfl

end Sys2Proof.Machine
end

