-- ==== Sys2Proof/Machine/Contacts.lean ====
section
/-! DEFINITION. The contacts of the module (spec/20, R480 to R483): the grid, the contact of every signal. -/

namespace Sys2Proof.Machine

/-- A position of the grid: column X001 to X102, row Y001 to Y102, seen from the lid side (R480). -/
structure Contact where
  x : Nat
  y : Nat
deriving DecidableEq, Repr

/-- The column seen from the other side of the body: X102 for X001. -/
def mirrored (n : Nat) : Nat := 103 - n

/-- The five positions without a contact at the top left corner. -/
def Contact.atCorner (c : Contact) : Bool := (c.y = 1 && c.x ≤ 3) || (c.x = 1 && c.y ≤ 3)

/-- The position has a contact (R480). -/
def Contact.populated (c : Contact) : Bool :=
  1 ≤ c.x && c.x ≤ 102 && 1 ≤ c.y && c.y ≤ 102 && !(42 ≤ c.x && c.x ≤ 61 && 45 ≤ c.y && c.y ≤ 64) &&
  !(Contact.atCorner ⟨min c.x (mirrored c.x), min c.y (mirrored c.y)⟩)

/-- The centre of a contact from the body centre, in 0.01 mm, y increasing downward (R480). -/
def Contact.centre (c : Contact) : Int × Int := (-4747 + 94 * (c.x - 1 : Int), -4747 + 94 * (c.y - 1 : Int))

/-- The four wires of a lane. -/
inductive Wire where
  | txp
  | txn
  | rxp
  | rxn
deriving DecidableEq, Repr

/-- R482: the contact of a wire of fabric lane n. -/
def laneContact (n : Nat) (w : Wire) : Contact :=
  let d := n / 128
  let k := n % 128
  let c := if d % 2 = 0 then 3 + 3 * (k % 16) else 98 - 3 * (k % 16)
  let r := if d < 2 then 3 + 4 * (k / 16) else 97 - 4 * (k / 16)
  match w with
  | .txp => ⟨c, r + 1⟩
  | .txn => ⟨c + 1, r + 1⟩
  | .rxp => ⟨c + 1, r + 3⟩
  | .rxn => ⟨c + 2, r + 3⟩

/-- The contact of a wire of a PCI Express lane whose transmit pair starts at a position (R483). -/
def pcieContact (c r : Nat) : Wire → Contact
  | .txp => ⟨c, r⟩
  | .txn => ⟨c + 1, r⟩
  | .rxp => ⟨c, r + 2⟩
  | .rxn => ⟨c + 1, r + 2⟩

/-- R483: the contact of a wire of lane m of host port n. -/
def hostContact (n m : Nat) (w : Wire) : Contact :=
  pcieContact (if n % 2 = 0 then 6 + 2 * m else 97 - 2 * m) (if n < 2 then 36 else 64) w

/-- R483: the contact of a wire of lane m of the management port. -/
def mgmtContact (m : Nat) (w : Wire) : Contact := pcieContact (6 + 2 * m) 40 w

/-- n contacts of a row from a position on. -/
def contactRow (x y n : Nat) : List Contact := (List.range n).map (fun i => ⟨x + i, y⟩)

/-- The single contacts (Table 20-3) and the supply senses (Table 20-2). -/
def singleContacts : List (String × Contact) :=
  [("REFCLK_P", ⟨4, 48⟩), ("REFCLK_N", ⟨5, 48⟩), ("MGT_REFCLK_P", ⟨4, 44⟩), ("MGT_REFCLK_N", ⟨5, 44⟩), ("MGT_PERST_N", ⟨8, 44⟩),
   ("HP0_REFCLK_P", ⟨4, 50⟩), ("HP0_REFCLK_N", ⟨5, 50⟩), ("HP0_PERST_N", ⟨8, 50⟩), ("HP1_REFCLK_P", ⟨97, 50⟩),
   ("HP1_REFCLK_N", ⟨98, 50⟩), ("HP1_PERST_N", ⟨95, 50⟩), ("HP2_REFCLK_P", ⟨4, 58⟩), ("HP2_REFCLK_N", ⟨5, 58⟩),
   ("HP2_PERST_N", ⟨8, 58⟩), ("HP3_REFCLK_P", ⟨97, 58⟩), ("HP3_REFCLK_N", ⟨98, 58⟩), ("HP3_PERST_N", ⟨95, 58⟩),
   ("MOD_RESET_N", ⟨10, 46⟩), ("FAULT_N", ⟨12, 46⟩), ("POWER_GOOD", ⟨14, 46⟩)] ++
  [("FL_CLK", ⟨10, 52⟩), ("FL_DQS", ⟨11, 52⟩), ("FL_CS_N", ⟨12, 52⟩), ("FL_RESET_N", ⟨13, 52⟩), ("FL_DQ0", ⟨10, 54⟩),
   ("FL_DQ1", ⟨11, 54⟩), ("FL_DQ2", ⟨12, 54⟩), ("FL_DQ3", ⟨13, 54⟩), ("FL_DQ4", ⟨14, 54⟩), ("FL_DQ5", ⟨15, 54⟩),
   ("FL_DQ6", ⟨16, 54⟩), ("FL_DQ7", ⟨17, 54⟩), ("TCK", ⟨20, 48⟩), ("TMS", ⟨21, 48⟩), ("TDI", ⟨22, 48⟩), ("TDO", ⟨23, 48⟩),
   ("TRST_N", ⟨24, 48⟩), ("SMB_SCL", ⟨20, 52⟩), ("SMB_SDA", ⟨21, 52⟩), ("SMB_ADDR0", ⟨22, 52⟩), ("SMB_ADDR1", ⟨23, 52⟩),
   ("SMB_ADDR2", ⟨24, 52⟩), ("CAR_IN_P", ⟨20, 56⟩), ("CAR_IN_N", ⟨21, 56⟩), ("CAR_OUT_P", ⟨23, 56⟩), ("CAR_OUT_N", ⟨24, 56⟩),
   ("VIN_SENSE_P", ⟨44, 35⟩), ("VIN_SENSE_N", ⟨61, 35⟩)]

/-- The contacts of VIN, VSTBY and RSVD (Table 20-2). -/
def vinContacts : List Contact := (List.range 9).flatMap (fun i => contactRow 45 (35 + i) 16)
def vstbyContacts : List Contact := contactRow 30 46 4
def rsvdContacts : List Contact := (List.range 32).flatMap (fun i => contactRow 51 (3 + i) 2)

/-- The contacts of a list of lanes, by the contact of a lane's wire. -/
def lanesContacts (n : Nat) (f : Nat → Wire → Contact) : List Contact :=
  (List.range n).flatMap (fun i => [Wire.txp, .txn, .rxp, .rxn].map (f i))

/-- Every contact that carries a signal, a supply or nothing; each other populated position is GND (R481). -/
def namedContacts : List Contact :=
  lanesContacts 512 laneContact ++ (List.range 4).flatMap (fun n => lanesContacts 16 (hostContact n)) ++ lanesContacts 4 mgmtContact ++
    singleContacts.map (·.2) ++ vinContacts ++ vstbyContacts ++ rsvdContacts

/-- The position is a ground contact (R481). -/
def Contact.ground (c : Contact) : Bool := c.populated && !namedContacts.contains c

end Sys2Proof.Machine
end

