-- ==== Sys2Proof/Tests/Fixtures.lean ====
section
/-! SUPPORT. Small states, packets and records that the tests name. -/

namespace Sys2Proof.Tests
open Sys2Proof Sys2Proof.Machine

/-- The state of reset with another device in it. -/
def tState (d : Dev) : State := State.reset.withDev d

/-- A register bit or field set in the state of reset. -/
abbrev tInit : Dev := Dev.init

def tPkt : Pkt :=
  { head := 0, flits := [⟨0, false, .bridge, [1], 0⟩], total := 1, owner := .port 4 0, fabric := true, floor := 0, path := [1],
    egress := .none, nonmin := false, seq := 0, t0 := 0, started := none, stomped := false, member := 512, down := false, copies := none }

def tPacket : Machine.Packet :=
  { type := 0, tc := 0, epoch := 0, cmark := false, enc := false, conn := false, dest := 0, src := 0, dconn := 0, opflags := 0,
    psn := 0, inc := 0, control := false, oper := [], payload := [], tag := 0 }

def trainTest : Body := 5#448 ||| (1#448 <<< 120)
def hello (n : Nat) : Body := BitVec.ofNat 448 (n <<< 64)
def tADC : Dev :=
  (((tInit.put LAN_CLMAP_WIDTHS ⟨0, 0⟩ 0x5555).modLink 4 (fun l => { l with phase := .lanes })).setAdapt 4 aADAPT).modLane 4
    (fun x => { x with decoded := true })

def tBAD : Dev := { tInit with rtr := { RtrG.init with checking := [(1, 0)] } }
/-- Port set 0 of bank 0 of die 1: port 128 at step 0. -/
def tGOODBANK : Dev := tBAD.putPset 1 0 0 0 0x1080#64
/-- Port 4 is dead and holds a packet of the epoch that is not stamped. -/
def tKEEPW : Dev :=
  let d := ((tInit.put LNK_STAT_STATE (onLane 4) DOWN).put PRT_STAT_DEAD (onLane 4) 1).put RTE_EPOCH_STAMP (onDie 0) 1
  { d with rtr := { d.rtr with pkts := [(7, { tPkt with egress := .port 4 1 })], eports := [(4, { EPort.init with q := [7] })] } }
def tADMW : Dev :=
  { tInit.modLink 4 (fun l => { l with share := 378 }) with
    rtr := { RtrG.init with
      pkts := [(7, { tPkt with egress := .port 4 1 })], eports := [(4, { EPort.init with wait := [7] })] } }
def tGATE : Dev := { tInit with win := { tInit.win with gate := [(2048, 8 <<< 16), (2048 + 256, 8 <<< 16)] } }

/-! ## Groups -/

/-- The entry of group 9 on die 1: root, an engine on die 1, one of TOTAL, room for two chunks. -/
def tRoot (w0 : Nat) : Dev := { tInit with win := { tInit.win with group := [((65536 + 9) * 16, w0)] } }
def tGOODGROUP : Dev := tRoot (1 ||| 1 <<< 32)
def tENG : Dev := tInit.put CLV_CTRL_EN (onDie 1) 1
def tGRP : Dev := ((tRoot (1 ||| 1 <<< 17 ||| 1 <<< 18 ||| 2 <<< 20 ||| 1 <<< 32)).put CLV_CTRL_EN (onDie 1) 1).setBacked 1 9 true
def tGRPBR : ColOp := { ColOp.fresh 3 0 with total := some 4 }
def tGRPB : Dev := tGRP.setCrec 1 9 tGRPBR
def tGRPBE : Dev := tGRPB
/-- Packets that wait for the entry of group 9 on die 1, which is backed, or is not. -/
def tGEFN : Dev := { tInit with mcg := { McgG.init with waiting := [(1, 9, 7, [])] } }
def tGEF : Dev := tGEFN.setBacked 1 9 true
def tBARDOWN : Machine.Packet := { tPacket with type := tBARRIER, oper := [1] }
def tGRP2R : ColOp := ColOp.fresh 0 0
def tGRP2 : Dev :=
  { tGRP with win := { tGRP.win with group := Tab.set tGRP.win.group 0 ((65536 + 9) * 16 + 2) 272 } }.setCrec 1 9 tGRP2R
def tGRP2B : ChunkBuf := ChunkBuf.fresh 0 0 (tGRP2.awaitPorts 1 9) (tGRP2.awaitLocals 1 9)
def tOPTR : ColOp :=
  { ColOp.fresh 3 0 with params := some (kdBARRIER, 0, 0, 0), begun := true, stages := [{ ColStage.fresh with opened := true }, ColStage.fresh, ColStage.fresh] }
def tOPT : Dev := tGRP.setCrec 1 9 tOPTR
/-- The root of a reduction whose first chunk has been gathered. -/
def tOPTR2 : ColOp := { ColOp.fresh 3 0 with begun := true }
def tOPT2 : Dev := tGRP.setCrec 1 9 tOPTR2
def tMEMTM : Mem :=
  { die := 1, group := 9, member := 2, seq := 3, op := 7, held := false, chunks := [], ovf := false, members := 0, next := 0,
    last := none }
def tMEMT : Dev := { tInit with clv := { tInit.clv with mems := [tMEMTM] } }
def tFENC : Dev :=
  let d := tInit.put MCG_CTRL_REFRESH onMod 1
  { d with mcg := { d.mcg with mine := [(5, false, 1)], ep := [(5, true)] } }

def tSent : SentFlit := ⟨0, 0, false, 0, 0⟩

/-! ## Host ports -/

def tQueue : Queue :=
  { func := 0, qnum := 3, base := 0, log2 := 6, pi := 0, ci := 0, cqn := 0, eqn := 0, xspace := 0, vector := 0, limit := 0,
    state := qACTIVE, lasterr := 0, armed := false, owed := 0, owes := 0, held := [], stall := false, ready := [], waiting := [],
    blocked := false, issued := false, failed := false, bell := 0, cmd := 0, below := true, order := [], evs := [], later := [],
    modBusy := false, irqDue := false }

def tEnt : XEnt :=
  { space := 0, va := 0, size := 12, ba := 0x10000, key := 0, r := true, w := true, atom := true, se := true, acc := true,
    dirty := true, lock := false, walked := false, desc := 0, leaf := 0, guard := [] }

/-- Die 1 with space 0 of function 0 in force and its first page loaded. -/
def tXlt : Dev := ((tInit.put XLT_CTRL_EN (onDie 1) 1).put XLT_SPACE_EN ⟨1, 0⟩ 1).setL2 1 [tEnt]

def tDST : Dev := (tXlt.setQueue 1 0 3 { tQueue with pi := 1 }).setQueue 1 2 0 tQueue
def tDSTE : Dev := (tDST.fetch 1 3 { tQueue with pi := 1 } 0 0).1
def tDSTA : Dev × Nat × Op :=
  (((tDSTE.cqAdmit 1 { tQueue with pi := 1 }).setQueue 1 kWQ 3 { tQueue with pi := 1, ci := 1, issued := false, owes := 1 }).event 1 blkQUE 0
    0x02 0 1).newOp 1 kWQ 3 { tQueue with pi := 1 } 0 (shardFrags 0 [])

/-- A completion queue that owes one completion more than its queues have under way. -/
def tLEDQ : Dev := tInit.setQueue 1 2 3 { tQueue with owed := 1 }

/-- A TRECV of context 0 that takes any tag and any source. -/
def tTrecvAny : Op := { tDSTA.2.2 with desc := 0 }

/-- A creation image of an event queue: KIND 3, 64 entries. -/
def tQCRE : Dev := (tInit.put XLT_SPACE_EN ⟨1, 0⟩ 1).wr .QUE_CMDBUF ⟨1, 0⟩ (6#64 ||| 3#64 <<< 5)
def tQCREG : Nat := (tQCRE.globalOf 1 0 3 0).getD 0

/-! ## Connections -/

def tConn : Conn :=
  { func := 0, state := connOPEN, peer := 0, peerConn := 0, enc := false, profile := 0, rxwin := 0, peerRxwin := 0, inc := 0,
    keyslot := 0, mwin := 64, nextPsn := 0, dm := 2 ^ 32 - 1, rate := 0, lasterr := 0, cut := 0, round := 0, credit := 0, stamp := 0,
    sendQ := [], reqs := [], done := [], special := [], ackN := 0, ackPsn := 0, ackTry := 0, ackEcho := false, sendMsn := 0, starts := 0,
    nextMsn := 0, heads := [], serving := [] }

def tReq : Req :=
  { psn := 0, op := 1, pkt := { tPacket with type := tPUT, dconn := 262144 }, off := 0, len := 0, dst := [], slot := 4, cost := 1,
    tryN := 0, timed := 0, hint := false, rereading := false }

def tRegion : Region := { Region.empty with len := 4096, ctrcount := 4, state := regVALID, rights := 7, gen := 1 }

/-- Die 1 with the exchange enabled, connection 0 open, and region 0 valid. -/
def tRG : Dev :=
  ((tXlt.put RMX_CTRL_EN (onDie 1) 1).setConn 262144 tConn).setRegion 1 0 tRegion
def tRGC : Dev := tRG.setRegion 1 0 { tRegion with counter := true }
def tRkey : List Byte := toBytes 4 262144
def tKPUT : Machine.Packet := { tPacket with type := tPUT, dconn := 262144, control := true, oper := tRkey ++ toBytes 6 0 ++ [1, 2] }
def tKGET : Machine.Packet := { tPacket with type := tGET_REQ, dconn := 262144, control := true, oper := tRkey ++ toBytes 6 0 ++ toBytes 2 8 }
def tKATO : Machine.Packet := { tPacket with type := tATOMIC, dconn := 262144, control := true, oper := tRkey ++ toBytes 4 0 ++ toBytes 16 5 }
def tKPCT : Machine.Packet :=
  { tPacket with type := tPUT_CTR, dconn := 262144, control := true, oper := tRkey ++ toBytes 6 0 ++ toBytes 2 0 ++ toBytes 4 1 ++ [7] }
def tRGT : Dev := (tRG.translateRange 1 (tRG.regionAccess 1 tKPUT 0 2 1) 2).1
def tRGP : List (Nat × Nat) := (tRG.translateRange 1 (tRG.regionAccess 1 tKPUT 0 2 1) 2).2.parts
def tRGE : List (Nat × Nat × Nat) := (tRG.translateRange 1 (tRG.regionAccess 1 tKPUT 0 2 1) 2).2.ents
def tRGT2 : Dev := (tRG.translateRange 1 (tRG.regionAccess 1 tKGET 0 8 0) 3).1
def tRGP2 : List (Nat × Nat) := (tRG.translateRange 1 (tRG.regionAccess 1 tKGET 0 8 0) 3).2.parts
def tRGE2 : List (Nat × Nat × Nat) := (tRG.translateRange 1 (tRG.regionAccess 1 tKGET 0 8 0) 3).2.ents
def tRGT3 : Dev := (tRG.translateRange 1 (tRG.regionAccess 1 tKPCT 0 1 1) 2).1
def tRGP3 : List (Nat × Nat) := (tRG.translateRange 1 (tRG.regionAccess 1 tKPCT 0 1 1) 2).2.parts
def tRGE3 : List (Nat × Nat × Nat) := (tRG.translateRange 1 (tRG.regionAccess 1 tKPCT 0 1 1) 2).2.ents
def tRead (u : RdFor) (d : Dev) : Dev := { d with hst := { d.hst with reads := [(9, ⟨1, 8, u, []⟩)] } }
def tRD : Dev := tRead (.serve 262144 tKGET 0) tRG
def tRDE : Dev := (tRD.takeRead 9).served 1 262144 0 0
def tRDX : Conn := (tRDE.conn 262144).getD tConn
def tRDA : Dev := tRead (.serve 262144 tKATO 0) tRGC
def tRDAE : Dev := (tRDA.takeRead 9).served 1 262144 0 0
def tRDAX : Conn := (tRDAE.conn 262144).getD tConn
def tANX : Conn := { tConn with reqs := [tReq], nextPsn := 1 }
def tAN : Dev := (tInit.put RMX_CTRL_EN (onDie 1) 1).setConn 262144 tANX
def tANH : Dev := tAN.setConn 262144 { tANX with reqs := [{ tReq with hint := true }] }
def tKNACK : Machine.Packet := { tPacket with dconn := 262144, control := true, oper := toBytes 4 0 ++ [BitVec.ofNat 8 ST_NOT_READY] }
def tPACR : Req := tReq
def tPACX : Conn := { tConn with sendQ := [tReq], credit := 100000000 }
def tPAC : Dev := tAN.setConn 262144 tPACX
def tPACE : Dev :=
  ((tPAC.setConn 262144 { tPACX with nextPsn := 1, sendQ := [], reqs := [{ tReq with psn := 0, pkt := { tReq.pkt with psn := 0 }, slot := 4 }] }).chargeConn
    262144 1).event 1 blkRMX 0 0x01 0 1
def tPACY : Conn := (tPACE.conn 262144).getD tConn
def tINI : Dev := tRead (.piece 262144 tReq) tAN

/-! ## Matching -/

def tMT : Dev := tRG.put MTC_CTRL_EN (onDie 1) 1
def tKSND : Machine.Packet := { tPacket with type := tSEND, dconn := 262144, control := true, oper := toBytes 24 0 }
def tKSDT : Machine.Packet := { tPacket with type := tSEND, dconn := 262144, oper := toBytes 16 0, payload := [1] }
def tKRTS : Machine.Packet := { tPacket with type := tRNDV_RTS, dconn := 262144, control := true, oper := toBytes 24 0 }
def tKFINP : Machine.Packet := { tPacket with type := tRNDV_RTS, dconn := 262144, control := true, opflags := 8, oper := toBytes 24 0 }
def tMsg : Msg :=
  { die := 1, func := 0, conn := 262144, msn := 0, tag := 0, context := 0, src := 0, len := 8, stamp := 0, kind := 0, data := [],
    rkey := 0, rq := 0, rindex := 0, rdesc := ⟨0, []⟩, got := 0, placed := 0, bound := 0, cut := false }
def tMTDM : Msg := { tMsg with kind := 1 }
def tMTD : Dev := { tMT with hst := { tMT.hst with msgs := [(1, tMTDM)] } }
def tOp : Op :=
  { die := 1, kind := 0, qn := 3, func := 0, index := 0, desc := 0, keys := 0, xspace := 0, frags := [], stage := 0, order := 0,
    len := 0, off := 0, busy := false, split := false, left := 0, status := ST_OK, bytes := 0, data := 0, aux := 0, msn := 0, msg := 0,
    rndv := 0, conn := 262144, rkey := 0 }
def tMTFO : Nat × Op := (1, { tOp with rndv := 1 })
def tMTF : Dev := { tMT with hst := { tMT.hst with ops := [tMTFO], regions := [] } }
def tUX : Dev := tRead (.copy 1 1) tInit
def tRVO : Op := { tOp with desc := 7 ||| 0x20000 <<< 32, busy := true }
def tRV : Dev := { tInit.put MTC_FNRNDV_COUNT ⟨1, 0⟩ 4 with hst := { tInit.hst with ops := [(1, tRVO)] } }
def tRVN : Nat := (tRV.freeRndv 1 0).getD 0
def tPG : Dev := { tInit with hst := { tInit.hst with msgs := [(1, tMsg)] } }

/-! ## Translation -/

def tTrap : Trap :=
  { acc := ⟨0, 0, 64, 0, 0, 0, 0, 0, 0, some 0⟩, cause := 0, cont := .queue 0 3, hintWait := false }
/-- Die 1 with trap t in slot 0. -/
def tTraps (t : Trap) (d : Dev) : Dev := { d with xlt := { d.xlt with traps := [(256, t)], gens := [(256, 1)] } }
def tTR : Dev := tTraps tTrap tInit
def tTRB : Dev := (tTraps tTrap (tInit.put XLT_CTRL_EN (onDie 1) 1)).setBacking 1 [tEnt]
def tTRM : Dev := tTraps { tTrap with cause := 1 } tXlt
def tTRH : Dev := tTraps { tTrap with hintWait := true } tInit
def tTRT : Dev := tTraps { tTrap with acc := { tTrap.acc with side := 1 }, cont := .target tPacket 0 } tInit
def tTRL : Dev := tTraps tTrap tXlt
def tTRLE : Dev := (tTRL.translate 1 tTrap.acc).1
def tTRLA : Nat := 0x10000
def tTRLB : XEnt := tEnt
def tTRW : Dev :=
  let d := tRead (.walk 0) tTR
  { d with xlt := { d.xlt with walks := [(256, (2, 4096))] } }
def tTRWE : Dev := tTRW.takeRead 9
/-- An entry of size 2^12 at 0, as a load command and as a MAP. -/
def tEntW0 : Word := 12#64 <<< 6
def tEntW2 : Word := 1#64 <<< 27
def tLDE : Dev := (tInit.wr .XLT_LOAD ⟨1, 0⟩ tEntW0).wr .XLT_LOAD ⟨1, 2⟩ tEntW2
def tMAPW : Dev :=
  ((tInit.put XLT_SPACE_EN ⟨1, 0⟩ 1).wr .XLT_CMDBUF ⟨1, 0⟩ tEntW0).wr .XLT_CMDBUF ⟨1, 2⟩ tEntW2
def tINVW : Dev := (tInit.put XLT_SPACE_EN ⟨1, 0⟩ 1).wr .XLT_CMDBUF ⟨1, 1⟩ 4096#64
def tPGR : Dev :=
  let d := (tInit.put XLT_SPACE_EN ⟨1, 0⟩ 1).wr .XLT_CMDBUF ⟨1, 0⟩ (5#64 ||| 1#64 <<< 32)
  { d with xlt := { d.xlt with preqs := [(2 ^ 32 + 5, (0, 4096))] } }

/-! ## The rest of the module -/

def tMesh : Machine.MeshMsg := ⟨1, 2, 1, 3, 1, 0, 0, false, .transfer false⟩
def tRun : Dev := { tInit with boot := { BootG.init with step := 7 } }
def tRUNW : Dev :=
  let d := { tInit.put CFG_ERGSTAT_VALID onMod 1 with boot := { BootG.init with step := 6 } }
  (((d.setBankValid 0 0 true).setBankValid 1 0 true).setBankValid 2 0 true).setBankValid 3 0 true
def tAUTOW : Dev :=
  let d := { ((tRUNW.put CFG_TRIAL_AUTOCOMMIT onMod 1)) with
    boot := { BootG.init with step := 7, dir := { DirRec.blank with trialState := 2, trialSlot := 1 }, watchdog := some 5, trial := true } }
  (((d.put KLN_BOOT_PASSED (onDie 0) 1).put KLN_BOOT_PASSED (onDie 1) 1).put KLN_BOOT_PASSED (onDie 2) 1).put KLN_BOOT_PASSED (onDie 3) 1
def tFLW : Dev := tInit.put CFG_CTRL_FLASH_WE onMod 1
def tFLA : Word := 0x6200000#64 <<< 32
def tSETW : Dev := { tRun.put CFG_ERGSTAT_VALID onMod 1 with erg := { ErgG.init with changed := true } }
def tLOSTW : Dev :=
  { tRun.put CFG_ERGSTAT_VALID onMod 1 with
    erg := { ErgG.init with leading := true, numbers := [(5, 77), (0, 0)] } }
def tKFWM : Machine.Packet := { tPacket with type := tFW_MSG, oper := 3#8 :: toBytes 23 0 }
def tFWM : Dev := tRun
def tFWME : Dev := tFWM
def tFWMS : Nat := ST_OK
def tFWMR : Nat := (tFWM.shown .CFG_BOOTSTATUS 0 0).toNat
def tTIMW : Dev := (tInit.put MGT_CARSTAT_STATE onMod 1).put TIM_STAT_SRCVALID onMod 1
def tSTOPW : Dev :=
  let d := (tInit.put PWR_DOMCTL_BUSY (onDie 1) 1).setRegionState 6 domENTERING
  { d with pwr := { d.pwr with cmd := [(1, (1, 2))] } }
def tSTOPE : Dev := tSTOPW.each (Dev.regionsOf 1) (fun m d => d.regionEnters m)
def tRec : FRec :=
  { gen := 1, source := srcBRIDGE, subtype := 1, rung := 1, ceiling := 5, state := 1, outcome := 0, count := 1, loc := locBridge 1 0,
    detail := 0, time := 0, elapsed := 0, merged := true, order := 0 }
def tHOLDW : Dev :=
  { tInit with pwr := { PwrG.init with ref := false },
               flt := { FltG.init with recs := [(0, { tRec with source := srcCLK, loc := locModule })] } }
def tKGO : Dev := { tInit.put KLN_CTRL_EN (onDie 1) 1 with kln := { KlnG.init with booting := [] } }
def tKGOV : Word := KLN_CMD_TEST.ins 0 8
def tPSELV : Word := PMC_SEL_EVENT.ins (PMC_SEL_BLOCK.ins 0 1) 1
def tPSELM : Nat := 2 ^ 18 - 1
def tSNPW : Dev := { tInit with pmc := { PmcG.init with snap := some ⟨0, [], 2, 1, 1, false⟩ } }
/-- The address of FLT_CTRL, a register of the module on die 0. -/
def tRWA : Nat := 0x94000000
def tMRUN : Dev := tRun
end Sys2Proof.Tests
end

