-- ==== Sys2Proof/WellFormed.lean ====
section
/-! DEFINITION. Which commands are well formed: operands that the spec's fields and ranges can hold. -/

namespace Sys2Proof

/-- A packet whose fields fit Tables 4-1 to 4-4 (R88, R89). -/
def Machine.Packet.wf (k : Machine.Packet) : Bool :=
  decide (k.type < 64) && decide (k.tc < 16) && decide (k.epoch < 2) && decide (k.dest < 2 ^ 25) && decide (k.src < 2 ^ 25) &&
    decide (k.dconn < 2 ^ 20) && decide (k.opflags < 128) && decide (k.psn < 2 ^ 32) && decide (k.inc < 2 ^ 32) &&
    (if k.control then decide (k.oper.length ≤ 24) && k.payload.isEmpty && decide (k.tag < 2 ^ 64)
     else decide (k.oper.length = 16) && decide (k.payload.length ≤ 4096) && decide (k.tag < 2 ^ 128))

/-- A command is well formed. -/
def Instr.wf (i : Instr) : Bool :=
  match i with
  | .registerWrite _ a _ => decide (a < 2 ^ 36)
  | .rcRead _ a => decide (a < 2 ^ 36)
  | .moduleReset _ => true
  | .dieReset _ => true
  | .regionReset _ => true
  | .clusterReset _ => true
  | .unitReset _ ukind n => decide (ukind < 8) && decide (n < 1024)
  | .hostPortReset _ => true
  | .mgmtPortReset => true
  | .resetComplete level _ ukind n => decide (1 ≤ level) && decide (level ≤ 5) && decide (ukind < 8) && decide (n < 1024)
  | .bridgeDown _ _ => true
  | .bridgeFlitArrival _ _ => true
  | .clusterMapWrite _ _ => true
  | .txeqWrite _ _ => true
  | .laneCtrlWrite _ _ => true
  | .laneTrainingFrame _ _ => true
  | .acquireLock _ _ _ => true
  | .acquireTimeout _ => true
  | .adaptConverged _ _ => true
  | .adaptTimeout _ => true
  | .lossOfSignal _ _ => true
  | .rxQuietEntry _ => true
  | .relock _ => true
  | .relockTimeout _ => true
  | .txQuietEntry _ => true
  | .txWakeDone _ => true
  | .maintBurst _ => true
  | .fecCodeword _ result _ => decide (result < 3)
  | .parityError _ => true
  | .loopbackWrite _ _ => true
  | .patternCtrlWrite _ _ => true
  | .checkerLock _ => true
  | .checkerLoss _ _ => true
  | .eyeScanStart _ _ => true
  | .eyeScanStop _ => true
  | .eyeScanDone _ _ => true
  | .dataFlitReceived _ _ _ => true
  | .idleFlitReceived _ _ => true
  | .flitCrcError _ _ => true
  | .replayReq _ _ _ => true
  | .replayStart _ _ _ => true
  | .replayTimeout _ => true
  | .ackDue _ => true
  | .creditMessageDue _ => true
  | .transmitFlitSlot _ => true
  | .trainReceived _ _ _ => true
  | .trainSend _ => true
  | .lanePhaseDone _ => true
  | .alignmentDone _ => true
  | .trainTimeout _ => true
  | .retrainReq _ _ => true
  | .oosNotice _ _ => true
  | .drainedReceived _ _ => true
  | .windowDrained _ => true
  | .drainTimeout _ => true
  | .downProbe _ => true
  | .signalDetected _ => true
  | .linkEnable _ _ => true
  | .linkDisable _ _ => true
  | .integWrite _ _ => true
  | .lnkCmdRetrain _ => true
  | .lnkCmdOutOfService _ => true
  | .lnkCmdInService _ => true
  | .creditReceived _ _ _ => true
  | .auditReceived _ _ _ => true
  | .auditSend _ => true
  | .timeReceived _ _ _ => true
  | .timeSend _ => true
  | .admitWaitingPacket _ => true
  | .injectPacket _ _ _ k => k.wf
  | .injectionRelease _ _ => true
  | .cellFree c => decide (c < 1048576)
  | .duneSend _ => true
  | .duneReceived _ _ _ => true
  | .epochValidate _ _ => true
  | .bankCheckDone _ => true
  | .epochRetire _ _ => true
  | .epochStamp _ _ => true
  | .routeTableWrite _ _ w _ => decide (w < 65536)
  | .portSetWrite _ _ n _ _ => decide (n < 4096)
  | .epochReceived _ _ _ => true
  | .countRound => true
  | .portDeadTimeout _ => true
  | .prtReleaseQueued _ => true
  | .prtReleaseHeld _ => true
  | .prtReleaseBoth _ => true
  | .heldTrafficRelease _ => true
  | .ledgerAudit _ => true
  | .fwdShareWrite _ _ => true
  | .fwdInjWrite _ _ => true
  | .shaperEligible _ _ => true
  | .wheelTurn _ => true
  | .shapeWrite _ _ _ => true
  | .shapeApply _ _ => true
  | .gateListWrite _ _ _ _ => true
  | .gateCommit _ _ => true
  | .gateCancel _ _ => true
  | .gateTakeover _ => true
  | .gateEntryEnd _ => true
  | .groupEntryFetch _ _ => true
  | .groupValidate _ _ => true
  | .groupInvalidate _ _ => true
  | .groupForce _ _ => true
  | .groupEntryWrite _ _ _ _ => true
  | .mcast _ _ k => k.wf
  | .redUp _ _ k => k.wf
  | .redDown _ k => k.wf
  | .colGrant _ k => k.wf
  | .bufferAssign _ _ _ => true
  | .barrierUp _ _ k => k.wf
  | .barrierDown _ k => k.wf
  | .epochCount _ _ k => k.wf
  | .operationTimeout _ _ _ => true
  | .memberTimeout _ _ _ _ => true
  | .fenceReceived _ _ _ => true
  | .fenceGo _ _ _ => true
  | .fenceRefresh => true
  | .producerDoorbell _ _ _ _ _ _ => true
  | .consumerDoorbell _ _ _ _ _ _ => true
  | .counterWrite _ _ _ => true
  | .counterAtomic _ _ _ _ _ => true
  | .keyrightsWrite _ _ _ => true
  | .descriptorStart _ k _ _ _ _ => decide (k.val < 3)
  | .moderationEnd _ _ => true
  | .queueCreate _ _ => true
  | .queuePause _ _ => true
  | .queuePauseDone _ _ _ => true
  | .queueResume _ _ => true
  | .queueRecover _ _ => true
  | .queueDestroy _ _ => true
  | .queueQuery _ _ => true
  | .flushComplete _ _ _ => true
  | .cqStallTimeout _ _ => true
  | .functionLevelReset _ _ => true
  | .d3hotToD0 _ _ => true
  | .hostLinkDown _ _ => true
  | .hostLinkUp _ rate width _ _ => decide (rate < 4) && decide (width < 5)
  | .fnqWrite _ _ _ _ => true
  | .openConn _ _ _ => true
  | .closeConn _ _ _ => true
  | .connectionFree _ => true
  | .queryConn _ _ _ => true
  | .registerRegion _ _ _ => true
  | .revokeRegion _ _ _ => true
  | .revokeDone _ _ => true
  | .queryReg _ _ _ => true
  | .rmxPut _ k => k.wf
  | .getReq _ k => k.wf
  | .atomic _ k => k.wf
  | .putCtr _ k => k.wf
  | .hostReadComplete _ _ data => decide (data.length ≤ 4096)
  | .hostAtomicComplete _ _ data => decide (data.length ≤ 4096)
  | .ackDelayExpiry _ tc => decide (tc < 16)
  | .rmxAck _ k => k.wf
  | .rmxNack _ k => k.wf
  | .getRsp _ k => k.wf
  | .atomicRsp _ k => k.wf
  | .requestTimeout _ psn => decide (psn < 2 ^ 32)
  | .hintRetry _ psn => decide (psn < 2 ^ 32)
  | .pacingEligible _ => true
  | .mtcSend _ k => k.wf
  | .sendData _ k => k.wf
  | .rndvRts _ k => k.wf
  | .rndvFin _ k => k.wf
  | .uxCopyComplete _ _ data => decide (data.length ≤ 4096)
  | .rndvRegionFree _ _ => true
  | .mtcPurge _ _ => true
  | .handlerMiss _ _ => true
  | .handlerMark _ _ _ => true
  | .walkReadComplete _ _ _ => true
  | .trapRetry _ _ => true
  | .trapNotPresent _ _ _ => true
  | .trapWalkError _ _ => true
  | .trapNotPermitted _ _ => true
  | .twaitTimeout _ _ => true
  | .trapHintRetry _ _ => true
  | .xltLoad _ => true
  | .xltRemove _ => true
  | .xltMap _ _ => true
  | .xltUnmap _ _ => true
  | .xltInval _ _ => true
  | .xltInvalSpace _ _ => true
  | .xltInvalComplete _ _ => true
  | .pgResp _ _ => true
  | .pageRequestTimeout _ _ => true
  | .xltSpaceWrite _ _ _ _ => true
  | .meshMessage _ _ => true
  | .gatewayMessage _ _ => true
  | .meshSwitch _ _ => true
  | .meshQuiesced _ => true
  | .holdmaxTimeout _ => true
  | .regulatorRelease _ _ _ => true
  | .challengeRead _ => true
  | .tokenPresent _ _ => true
  | .tokenVerified => true
  | .setOpkey _ _ => true
  | .debugLower _ => true
  | .installConn _ _ _ => true
  | .installGroup _ _ _ => true
  | .keyErase _ _ _ => true
  | .entropyFail _ => true
  | .entropyRecover _ => true
  | .wipeDone scope die _ => decide (1 ≤ scope) && decide (scope < 8) && decide (die < 4)
  | .flashInit _ => true
  | .candidateChosen unread => unread.all (fun x => decide (x < 3))
  | .saggarImageLoaded _ => true
  | .zoruriImageLoaded _ => true
  | .calibrationDone _ ports _ _ _ banks chans _ _ => ports.all (fun x => decide (x < 512)) && banks.all (fun x => decide (x < 4)) && chans.all (fun x => decide (x < 2))
  | .phaseRun words => decide (words.length ≤ 16)
  | .directoryUpdateDone => true
  | .slotTrialA => true
  | .slotTrialB => true
  | .slotCommit _ => true
  | .slotRevert => true
  | .slotReboot => true
  | .trialWatchdog => true
  | .autocommit => true
  | .flashRead _ => true
  | .flashProgram _ => true
  | .flashErase _ => true
  | .flashCmdDone => true
  | .ergLinkSend => true
  | .ergRefresh => true
  | .ergLink _ _ _ => true
  | .ergAssign _ _ _ => true
  | .ergClaim _ _ _ => true
  | .ergLsa _ _ _ => true
  | .ergGsum _ _ _ => true
  | .claimWaitExpiry => true
  | .settleExpiry _ _ _ _ => true
  | .neighbourAbsent _ => true
  | .originExpiry _ _ => true
  | .memberLost _ => true
  | .fwMsg _ k => k.wf
  | .fwRsp _ k => k.wf
  | .caravanJoin => true
  | .caravanLockLoss => true
  | .caravanLockTimeout => true
  | .caravanElect _ => true
  | .caravanPosition _ => true
  | .caravanTime _ _ => true
  | .caravanTimeSend => true
  | .caravanRead _ => true
  | .caravanWrite _ => true
  | .caravanResp _ => true
  | .oobRead _ => true
  | .oobWrite _ => true
  | .oobTimeout => true
  | .vinWarn mv => decide (mv ≤ 20000)
  | .vinWarnRelease mv => decide (mv ≤ 20000)
  | .vinReset => true
  | .vinOvervoltage mv => decide (19000 < mv)
  | .vinReturn => true
  | .vstbyChange _ => true
  | .overcurrent => true
  | .powerSample mv _ _ => decide (mv ≤ 20000)
  | .coneRise => true
  | .capmiss => true
  | .thermalFall tj _ => decide (tj < 1024)
  | .thermalRise tj _ => decide (tj < 1024)
  | .thermalShutdown tj _ => decide (tj < 1024)
  | .thermalRestart tj => decide (tj < 1024)
  | .domainStop _ scope => decide (scope < 8)
  | .domainWake _ scope => decide (scope < 8)
  | .stopEntryComplete _ => true
  | .stopEntryTimeout _ => true
  | .wakeComplete _ scope => decide (scope ≤ 4)
  | .referenceLoss => true
  | .referenceReturn => true
  | .holdoverTimeout => true
  | .faultWindowExpiry _ _ => true
  | .escalationTimeout _ _ => true
  | .faultClear _ => true
  | .faultActNow _ => true
  | .carryExpiry _ => true
  | .faultnRelease => true
  | .faultnForce _ => true
  | .faultnHoldEnd => true
  | .storeErase => true
  | .zoruriWatchdog _ => true
  | .zoruriException _ => true
  | .saggarWatchdog _ => true
  | .memoryError _ kind _ _ _ => decide (1 ≤ kind) && decide (kind ≤ 3)
  | .kilnGo _ _ => true
  | .kilnTestDone _ _ _ _ _ => true
  | .pmcSelWrite _ _ _ => true
  | .pmcCntWrite _ _ _ => true
  | .pmcCntRead _ _ _ => true
  | .counterWrap _ _ => true
  | .pmcGo => true
  | .snapshotPeriod => true
  | .snapshotWritten _ => true
  | .ringCiWrite _ => true
  | .ringEnable _ => true
  | .windowDataRead _ _ _ => true
  | .windowDataWrite _ _ _ _ => true
  | .regaccUpdate op addr _ => decide (op < 4) && decide (addr < 2 ^ 36)
  | .regaccCapture => true
  | .smbusRead adr code => decide (adr < 128) && decide (code < 256)
  | .initiatorReadComplete _ _ data => decide (data.length ≤ 4096)
  | .configurationRequest _ => true
  | .refclkArrival => true
  | .rmxFnresWrite _ _ _ _ => true
  | .mtcFnrndvWrite _ _ _ => true
  | .hostPortInternalError _ => true
  | .fallbackTrainingPattern => true

end Sys2Proof
end

