-- ==== Sys2Proof/Tests/Slice0.lean ====
section
/-! SUPPORT. Tests of the model, and a witness for the hypotheses of each statement. -/

set_option maxRecDepth 4000
set_option Elab.async false

namespace Sys2Proof.Tests

open Sys2Proof Sys2Proof.Machine

/-! ## Well-formed commands: each check refuses a term -/

def tBadType : Machine.Packet := { tPacket with type := 64 }

theorem test_wf_address : (Instr.registerWrite ⟨.firmware, true⟩ (2 ^ 36) 0).wf = false ∧ (Instr.rcRead ⟨.firmware, true⟩ (2 ^ 36)).wf = false := by decide
theorem test_wf_reset : (Instr.unitReset 0 8 0).wf = false ∧ (Instr.unitReset 0 0 1024).wf = false ∧ (Instr.resetComplete 0 0 0 0).wf = false ∧
    (Instr.resetComplete 6 0 0 0).wf = false ∧ (Instr.resetComplete 1 0 8 0).wf = false ∧ (Instr.resetComplete 1 0 0 1024).wf = false := by decide
theorem test_wf_lane : (Instr.fecCodeword 0 3 0).wf = false ∧ (Instr.cellFree 1048576).wf = false := by decide
theorem test_wf_tables : (Instr.routeTableWrite 0 0 65536 0).wf = false ∧ (Instr.portSetWrite 0 0 4096 0 0).wf = false := by decide
theorem test_wf_packet : tBadType.wf = false ∧ { tPacket with tc := 16 }.wf = false ∧ { tPacket with epoch := 2 }.wf = false ∧
    { tPacket with dest := 2 ^ 25 }.wf = false ∧ { tPacket with src := 2 ^ 25 }.wf = false ∧ { tPacket with dconn := 2 ^ 20 }.wf = false ∧
    { tPacket with opflags := 128 }.wf = false ∧ { tPacket with psn := 2 ^ 32 }.wf = false ∧ { tPacket with inc := 2 ^ 32 }.wf = false ∧
    { tPacket with control := true, oper := List.replicate 25 0 }.wf = false ∧ { tPacket with control := true, oper := [], payload := [0] }.wf = false ∧
    { tPacket with control := true, oper := [], payload := [], tag := 2 ^ 64 }.wf = false ∧
    { tPacket with control := false, oper := [] }.wf = false ∧
    { tPacket with control := false, oper := List.replicate 16 0, payload := [], tag := 2 ^ 128 }.wf = false := by decide
theorem test_wf_packet_commands : (Instr.injectPacket 0 0 false tBadType).wf = false ∧ (Instr.mcast 0 0 tBadType).wf = false ∧
    (Instr.redUp 0 0 tBadType).wf = false ∧ (Instr.rmxPut 0 tBadType).wf = false ∧ (Instr.mtcSend 0 tBadType).wf = false ∧
    (Instr.fwMsg 0 tBadType).wf = false := by decide
theorem test_wf_host : (Instr.descriptorStart 0 3 0 0 [] true).wf = false ∧ (Instr.hostLinkUp 0 4 0 false false).wf = false ∧
    (Instr.hostLinkUp 0 0 5 false false).wf = false ∧ (Instr.ackDelayExpiry 0 16).wf = false ∧ (Instr.requestTimeout 0 (2 ^ 32)).wf = false ∧
    (Instr.hintRetry 0 (2 ^ 32)).wf = false := by decide
theorem test_wf_data : (Instr.hostReadComplete 0 true (List.replicate 4097 0)).wf = false ∧
    (Instr.uxCopyComplete 0 true (List.replicate 4097 0)).wf = false := by decide +kernel
theorem test_wf_boot : (Instr.wipeDone 0 0 0).wf = false ∧ (Instr.wipeDone 8 0 0).wf = false ∧ (Instr.wipeDone 1 4 0).wf = false ∧
    (Instr.candidateChosen [3]).wf = false ∧ (Instr.calibrationDone 0 [512] 0 0 0 [] [] false false).wf = false ∧
    (Instr.calibrationDone 0 [] 0 0 0 [4] [] false false).wf = false ∧ (Instr.calibrationDone 0 [] 0 0 0 [] [2] false false).wf = false ∧
    (Instr.phaseRun (List.replicate 17 0)).wf = false := by decide
theorem test_wf_power : (Instr.vinWarn 20001).wf = false ∧ (Instr.vinOvervoltage 19000).wf = false ∧ (Instr.powerSample 20001 0 0).wf = false ∧
    (Instr.thermalFall 1024 0).wf = false ∧ (Instr.domainStop 0 8).wf = false ∧ (Instr.wakeComplete 0 5).wf = false := by decide
theorem test_wf_test : (Instr.memoryError 0 0 0 0 0).wf = false ∧ (Instr.memoryError 0 4 0 0 0).wf = false ∧ (Instr.regaccUpdate 4 0 0).wf = false ∧
    (Instr.regaccUpdate 0 (2 ^ 36) 0).wf = false ∧ (Instr.smbusRead 128 0).wf = false ∧ (Instr.smbusRead 0 256).wf = false := by decide

/-! ## Worked examples of the specification -/

/-- spec/00: offset 0x4_2000 of block 0x05 on die Q2. -/
theorem test_management_address : adrDie 0x814042000 = 2 ∧ adrBlk 0x814042000 = 5 ∧ adrOff 0x814042000 = 0x42000 := by decide

/-- spec/01: function 5 on host port 2 of node 5,123. -/
theorem test_endpoint_address : epNode 0x00140385 = 5123 ∧ epHport 0x00140385 = 2 ∧ epFunc 0x00140385 = 5 := by decide

/-- spec/04: the header of a PUT of 1,000 bytes. -/
theorem test_put_header :
    let k : Machine.Packet := { tPacket with type := 1, tc := 3, epoch := 1, enc := true, conn := true, dest := 0x157C101, src := 0x140385, cmark := false }
    k.prefixNat 20 % 2 ^ 32 = 0x604C0501 ∧ bits (k.prefixNat 20) 32 32 = 0x0157C101 ∧ bits (k.prefixNat 20) 64 32 = 0x00140385 ∧
    typeVn 1 = some 0 ∧ (1000 + 55) / 56 + 2 = 20 := by decide

/-- spec/02, R36: lane 0 coded 0b11 and lane 2 coded 0b01 is invalid; every lane coded 0b01 is valid. -/
theorem test_map_example : mapValid (3 ||| 1 <<< 4) = false ∧ mapValid 0x5555 = true ∧ mapValid 0x0303 = true := by decide

/-- Table 7-2: cells and flits of channels 0, 5, 12 and 17 of a four-lane port with 4,096 cells. -/
theorem test_four_lane_allocations : [0, 5, 12, 17].map (fun v => (tInit.chanCells 1 4096 v, tInit.allocOf 1 4096 v)) =
    [(301, 1200), (91, 360), (161, 640), (91, 360)] := by decide +kernel

/-- Table 7-2: a single-lane port with 1,024 cells. -/
theorem test_one_lane_allocations : [0, 5, 12, 17].map (fun v => (tInit.chanCells 1 1024 v, tInit.allocOf 1 1024 v)) =
    [(69, 272), (33, 128), (45, 176), (33, 128)] := by decide +kernel

/-- spec/06: the AUDIT example on P136, channel 2: AVAIL 12 becomes 17, applied 65,534 becomes 3, one error, the link stays UP. -/
theorem test_audit_example :
    let d := (tInit.put LNK_STAT_STATE (onLane 136) UP).setChan 136 2 { Chan.init with avail := 12, applied := 65534, sent := 2 }
    let e := d.audit 136 (BitVec.ofNat 448 (3 <<< 96 ||| 64900 <<< 112))
    (e.chan 136 2).avail = 17 ∧ (e.chan 136 2).applied = 3 ∧ (e.rd .LNK_AUDITERR (onLane 136)) = 1#64 ∧ e.lstate 136 = UP := by decide +kernel

/-- Table 7-5, packets 1, 4 and 5, in whole ns. -/
theorem test_shaper_example :
    let x : Shaper := { Shaper.init with rate := 100000, burst := 4096, credit := 4096 * 8000 }
    (x.charge 1376 0 0).credit = 2720 * 8000 ∧ (x.charge 1376 0 0).wait = none ∧
    ({ x with credit := 448 * 8000, stamp := 38 }.charge 1376 38 38).wait = some 120 ∧
    ({ x with credit := 92 * 8000, stamp := 120 }.charge 1376 120 120).wait = some 224 := by decide

/-- spec/07: a list named for 10,600,000 ns takes over at the cycle boundary 10,750,000 ns. -/
theorem test_takeover_example :
    let d := ({ tInit with win := { tInit.win with gate := [(264 * 512, 250000 <<< 16)] } }.put SCH_GATECTL_RUNNING (onLane 264) 1)
    (d.setGate 264 ⟨10500000, 10000000, 1, 0, 10600000⟩).takeoverTime 264 = 10750000 := by decide +kernel

/-- Table 8-13: the exact sum has one result in both orders; fast mode has two. -/
theorem test_exact_sum :
    let a := toBlock 10 [0x4B800000]
    let b := toBlock 10 [0x3F800000]
    (((a.add b).add b).result 10).map (·.1) = [0x4B800001] ∧ ((a.add (b.add b)).result 10).map (·.1) = [0x4B800001] ∧
    (a.add b).scale = -23 ∧ (a.add b).elems = [0x0000800000800000] ∧
    fAdd 10 (fAdd 10 0x4B800000 0x3F800000) 0x3F800000 = 0x4B800000 ∧ fAdd 10 0x4B800000 (fAdd 10 0x3F800000 0x3F800000) = 0x4B800001 := by decide +kernel

/-- spec/09: a ring of 64 entries at index 0xFFFF_FFF0 takes t = 0x18, and later, CI at 0xFFFF_FFFA, t = 0x3A. -/
theorem test_doorbell_wraps : idx32 0x18 0xFFFFFFF0 = 40 ∧ idx32 0x3A 0xFFFFFFFA = 64 := by decide

/-- Table 10-9, rows 2, 3 and 6: the rate after a clean round, after a marked one, and after a second cut. -/
theorem test_rate_changes :
    let d (x : Conn) : Dev := (tInit.setConn 262144 x)
    let r (n : Nat) : Req := { tReq with psn := n }
    (((d { tConn with rate := 100000, nextPsn := 19 }).rateUpdate 262144 (r 0) false).conn 262144).map (fun x => (x.rate, x.cut, x.round)) = some (105000, 0, 19) ∧
    (((d { tConn with rate := 105000, round := 19, nextPsn := 24 }).rateUpdate 262144 (r 5) true).conn 262144).map (fun x => (x.rate, x.cut, x.round)) = some (78750, 24, 24) ∧
    (((d { tConn with rate := 78750, cut := 24, round := 24, nextPsn := 24 }).rateUpdate 262144 (r 12) true).conn 262144).map (·.rate) = some 78750 ∧
    (((d { tConn with rate := 83750, cut := 24, round := 36, nextPsn := 38 }).rateUpdate 262144 (r 30) true).conn 262144).map (fun x => (x.rate, x.cut, x.round)) = some (62812, 38, 38) := by
  decide +kernel

/-- spec/10, R269: at OPEN, PSN 0 lies at distance 1 from DM. -/
theorem test_first_psn : psnDist 0 0xFFFFFFFF = 1 ∧ atOrBelow 0xFFFFFFFF 0xFFFFFFFF = true ∧ atOrBelow 0 0xFFFFFFFF = false := by decide

/-- spec/12: the word 0x800 lets key 5 read and not write; the first part of the range ends at the 2 MiB page. -/
theorem test_translation_example :
    keyDenied 0x800 5 0 = false ∧ keyDenied 0x800 5 1 = true ∧ keyDenied 0x800 0 1 = false ∧
    (let e : XEnt := { tEnt with va := 0x7F3A00000000, size := 21, ba := 0x4180000000, key := 5 }
     ((((tXlt.setL2 1 [e]).translateRange 1 ⟨0, 0x7F3A001FF800, 6000, 0, 1, 0, 0x800, 0, 0, none⟩ 3).2.parts) = [(0x41801FF800, 2048)])) := by decide +kernel

/-- spec/14: the three nonces of the example, and the sides of the two endpoints. -/
theorem test_nonce_example :
    connNonce 700 0x2A 1 false false = 0x1_0000002A_000002BC ∧ connNonce 700 0x2A 1 true true = 0x19_0000002A_000002BC ∧
    connNonce 700 0x2A 1 false true = 0x11_0000002A_000002BC ∧ sideOf 0x00140385 0x81004 0x0157C101 0x10 = false ∧
    sideOf 0x0157C101 0x10 0x00140385 0x81004 = true := by decide

/-- Table 16-3: the VIN level at 8.48 V, 7.00 V and 12.0 V. -/
theorem test_vin_levels : vinLevel 8480 = 6 ∧ vinLevel 7000 = 5 ∧ vinLevel 12000 = 7 := by decide

/-! ## Steps -/

/-- What holds of the next state that an outcome answers; false where it answers none. -/
def tNext (o : Host.Outcome State Fault Refusal) (p : State → Bool) : Bool := match o with | .next t => p t | _ => false

/-- The queue is first in, first out, and an empty queue lets a nanosecond pass. -/
theorem test_step_order :
    tNext (step { tState tInit with pending := [.fenceRefresh, .counterWrite 1 0 5] })
      (fun t => t.pending = [Instr.counterWrite 1 0 5] && t.env.time = tInit.env.time) = true ∧
    tNext (step State.reset) (fun t => t.env.time = 1) = true := by decide +kernel

/-- Table 2-2 and R37 through the command: a one-lane map of cluster 0 makes eight ports and records ST_OK. -/
theorem test_cluster_map :
    tNext (exec (.clusterMapWrite 0 0x5555) (tState tInit)) (fun t => (List.range 8).all t.pexists && t.get LAN_CLMAP_STATUS ⟨0, 0⟩ = 0) = true := by
  decide +kernel

/-- R235 through the command: a doorbell to a FREE queue counts in HST_DBIGN. -/
theorem test_doorbell_ignored :
    tNext (exec (.consumerDoorbell 1 2 0 0 0 true) (tState tInit)) (fun t => t.rd .HST_DBIGN (onDie 1) = 1#64) = true := by decide +kernel

/-- R414 through the command: at 100 degrees the limit falls from 7 to 6. -/
theorem test_thermal_fall :
    tNext (exec (.thermalFall 400 2) (tState tInit)) (fun t => t.thermalLimit = 6 && t.get PWR_THERM_HOTDIE onMod = 2) = true := by decide +kernel

/-- R485: a supply beyond the ratings. -/
theorem test_overvoltage : (match exec (.vinOvervoltage 20001) (tState tInit) with | .fault f => f = .beyondRatings | _ => false) = true := by decide


/-- R453: with a throttle in force, THROTTLED adds one for each ROUTER cycle: 1 in the nanosecond at 0, 2 in the one at 1. -/
theorem test_cycle_count :
    let d := (((tInit.put PMC_SEL_EN ⟨1, 3⟩ 1).put PMC_SEL_BLOCK ⟨1, 3⟩ blkPWR).put PMC_SEL_EVENT ⟨1, 3⟩ 1)
    let d : Dev := { d with pwr := { d.pwr with throttle := 2 } }
    (d.nanosecond).get PMC_CNT_VALUE ⟨1, 3⟩ = 1 ∧
    ({ d with env := { d.env with time := 1 } } : Dev).nanosecond.get PMC_CNT_VALUE ⟨1, 3⟩ = 2 := by decide

/-- R482: the contacts of LN137 and LN511, as its example gives them. -/
theorem test_lane_contacts :
    laneContact 137 .txp = ⟨71, 4⟩ ∧ laneContact 137 .txn = ⟨72, 4⟩ ∧ laneContact 137 .rxp = ⟨72, 6⟩ ∧ laneContact 137 .rxn = ⟨73, 6⟩ ∧
    laneContact 511 .txp = ⟨53, 70⟩ := by decide

/-- R480, Table 20-2: 9,984 positions have a contact, 2,580 of them are named, so that 7,404 are ground. -/
theorem test_contact_counts :
    ((List.range 104).map (fun x => ((List.range 104).filter (fun y => Contact.populated ⟨x, y⟩)).length)).sum = 9984 ∧
    namedContacts.length = 2580 ∧ namedContacts.all Contact.populated = true := by decide +kernel

/-- Each clause of CompletionReset has its hypotheses met. -/
theorem witness_CompletionReset :
    (∃ (s : State) (ns : Nat), s.toDev.pwr.off ≠ 3 ∧ 10000 ≤ ns ∧ s.toDev.flt.resets = []) ∧
    (∃ (s : State) (q : Fin 4), s.pwr.off = 0 ∧ q.val ≠ 0 ∧ s.toDev.flt.resets = [] ∧ s.toDev.dieState q.val ≠ domSTOP) ∧
    (∃ (s : State) (q : Fin 4), s.pwr.off = 0 ∧ q.val = 0 ∧ s.toDev.flt.resets = []) ∧
    (∃ (s : State) (m : Fin 16), s.pwr.off = 0 ∧ s.toDev.flt.resets = [] ∧ s.toDev.regionState m.val ≠ domSTOP) ∧
    (∃ (s : State) (c : Fin 64), s.pwr.off = 0 ∧ s.toDev.flt.resets = [] ∧ s.toDev.regionState (c.val / 4) ≠ domSTOP) ∧
    (∃ (s : State) (q : Fin 4) (ukind : Nat) (n : Nat) (l : Loc), s.pwr.off = 0 ∧ unitOf q.val ukind n = some l ∧ s.toDev.flt.resets = [] ∧ s.toDev.asleep l = false) ∧
    (∃ (s : State), s.pwr.off = 0 ∧ s.toDev.flt.resets = []) ∧
    (∃ (s : State), s.pwr.off = 0) ∧
    (∃ (s : State) (level : Nat) (q : Fin 4) (ukind : Nat) (n : Nat), s.pwr.off = 0 ∧ s.toDev.wipeHolds (scopeLoc level q.val ukind n) = false ∧ s.toDev.flt.resets.contains (scopeLoc level q.val ukind n) = true) := by
  refine ⟨?_, ?_, ?_, ?_, ?_, ?_, ?_, ?_, ?_⟩
  · refine ⟨(tState (Dev.init)), 10000, ?_, ?_, ?_⟩ <;>
      first | with_reducible rfl | decide +kernel | rfl
  · refine ⟨(tState (Dev.init)), 1, ?_, ?_, ?_, ?_⟩ <;>
      first | with_reducible rfl | decide +kernel | rfl
  · refine ⟨(tState (Dev.init)), 0, ?_, ?_, ?_⟩ <;>
      first | with_reducible rfl | decide +kernel | rfl
  · refine ⟨(tState (Dev.init)), 5, ?_, ?_, ?_⟩ <;>
      first | with_reducible rfl | decide +kernel | rfl
  · refine ⟨(tState (Dev.init)), 17, ?_, ?_, ?_⟩ <;>
      first | with_reducible rfl | decide +kernel | rfl
  · refine ⟨(tState (Dev.init)), 1, 5, 1, (locBridge 1 1), ?_, ?_, ?_, ?_⟩ <;>
      first | with_reducible rfl | decide +kernel | rfl
  · refine ⟨(tState (Dev.init)), ?_, ?_⟩ <;>
      first | with_reducible rfl | decide +kernel | rfl
  · refine ⟨(tState (Dev.init)), ?_⟩ <;>
      first | with_reducible rfl | decide +kernel | rfl
  · refine ⟨(tState ({ Dev.init with flt := { FltG.init with resets := [locRegion 5] } })), 3, 0, 0, 5, ?_, ?_, ?_⟩ <;>
      first | with_reducible rfl | decide +kernel | rfl

/-- Each clause of CompletionLaneTraining has its hypotheses met. -/
theorem witness_CompletionLaneTraining :
    (∃ (s : State), s.pwr.off = 0) ∧
    (∃ (s : State) (q : Fin 4) (e : Fin 2) (i : Nat) (n : Nat) (rest : List (Nat × Nat)) (k : Pkt) (f : PFlit), s.pwr.off = 0 ∧ s.toDev.pumpAll = s.toDev ∧ Tab.get s.toDev.rtr.bridges [] (acrossBridge q.val e.val * 2 + e.val) = (i, n) :: rest ∧ s.toDev.pkt i = some k ∧ k.flits[n]? = some f) ∧
    (∃ (s : State) (c : Fin 64) (v : Word), s.pwr.off = 0 ∧ mapValid (LAN_CLMAP_WIDTHS.of v) = true ∧ (mapPorts c.val (s.toDev.get LAN_CLMAP_WIDTHS ⟨c.val / 16, c.val % 16⟩) ++ mapPorts c.val (LAN_CLMAP_WIDTHS.of v)).all s.toDev.portIdle = true) ∧
    (∃ (s : State) (v : Word), s.pwr.off = 0 ∧ eqOk (LAN_TXEQ_PRE.of v) (LAN_TXEQ_POST.of v) = true ∧ LAN_TXEQ_EQERR.of v = 0) ∧
    (∃ (s : State) (l : Fin 512) (v : Word), s.pwr.off = 0 ∧ (s.toDev.wrFields .LAN_CTRL (onLane l.val) v).bit LAN_CTRL_RXEN (onLane l.val) = true ∧ (s.toDev.wrFields .LAN_CTRL (onLane l.val) v).bit LAN_CTRL_TXEN (onLane l.val) = true ∧ s.toDev.portIdle (s.toDev.lanePort l.val) = true ∧ (s.toDev.wrFields .LAN_CTRL (onLane l.val) v).portIdle (s.toDev.lanePort l.val) = true) ∧
    (∃ (s : State) (l : Fin 512), s.pwr.off = 0 ∧ s.toDev.inLanePhase (s.toDev.lanePort l.val) = true ∧ s.toDev.adapt l.val = aTRACK ∧ (s.toDev.lane l.val).decoded = true) ∧
    (∃ (s : State) (l : Fin 512) (inverted : Bool), s.pwr.off = 0 ∧ s.toDev.adapt l.val = aACQUIRE ∧ s.toDev.inversion l.val inverted = inverted ∧ ((s.toDev.putB LAN_RXSTAT_POL_INV (onLane l.val) inverted).put LAN_RXSTAT_SIG_DET (onLane l.val) 1).bit LAN_RXEQ_CTLE_OVR (onLane l.val) = false) ∧
    (∃ (s : State) (l : Fin 512), s.pwr.off = 0 ∧ s.toDev.adapt l.val = aACQUIRE) ∧
    (∃ (s : State) (l : Fin 512) (tap : Fin 256) (e : Dev), s.pwr.off = 0 ∧ s.toDev.adapt l.val = aADAPT ∧ e = ((s.toDev.setAdapt l.val aTRACK).put LAN_RXEQ_DFE1 (onLane l.val) tap.val).put LAN_IDLE_RX_STATE (onLane l.val) 0 ∧ e.inLanePhase (s.toDev.lanePort l.val) = false) ∧
    (∃ (s : State) (l : Fin 512) (tap : Fin 256) (e : Dev), s.pwr.off = 0 ∧ s.toDev.adapt l.val = aADAPT ∧ e = ((s.toDev.setAdapt l.val aTRACK).put LAN_RXEQ_DFE1 (onLane l.val) tap.val).put LAN_IDLE_RX_STATE (onLane l.val) 0 ∧ e.inLanePhase (s.toDev.lanePort l.val) = true ∧ e.portReady (s.toDev.lanePort l.val) = true) ∧
    (∃ (s : State) (l : Fin 512), s.pwr.off = 0 ∧ s.toDev.adapt l.val = aADAPT) ∧
    (∃ (s : State) (l : Fin 512) (signal : Bool), s.pwr.off = 0 ∧ s.toDev.adapt l.val = aTRACK ∧ signal = false) ∧
    (∃ (s : State) (l : Fin 512) (signal : Bool) (e : Dev), s.pwr.off = 0 ∧ signal = true ∧ e = s.toDev.put LAN_RXSTAT_SIG_DET (onLane l.val) 0 ∧ e.adapt l.val = aTRACK) ∧
    (∃ (s : State) (l : Fin 512), s.pwr.off = 0 ∧ s.toDev.adapt l.val = aTRACK ∧ s.toDev.lstate (s.toDev.lanePort l.val) = UP ∧ s.toDev.idleMode (s.toDev.lanePort l.val) ≠ 0 ∧ s.toDev.get LAN_IDLE_RXQ_DLY (onLane l.val) ≠ 0) ∧
    (∃ (s : State) (l : Fin 512), s.pwr.off = 0 ∧ s.toDev.adapt l.val = aHOLD) ∧
    (∃ (s : State) (l : Fin 512), s.pwr.off = 0 ∧ s.toDev.adapt l.val = aHOLD) ∧
    (∃ (s : State) (p : Fin 512), s.pwr.off = 0 ∧ s.toDev.pexists p.val = true ∧ s.toDev.lstate p.val = UP ∧ s.toDev.idleMode p.val ≠ 0 ∧ s.toDev.toSend p.val = false) ∧
    (∃ (s : State) (p : Fin 512), s.pwr.off = 0 ∧ s.toDev.pexists p.val = true) ∧
    (∃ (s : State) (p : Fin 512), s.pwr.off = 0 ∧ s.toDev.linkUp p.val = true ∧ s.toDev.rxMostly p.val = true) := by
  refine ⟨?_, ?_, ?_, ?_, ?_, ?_, ?_, ?_, ?_, ?_, ?_, ?_, ?_, ?_, ?_, ?_, ?_, ?_, ?_⟩
  · refine ⟨(tState (Dev.init)), ?_⟩ <;>
      first | with_reducible rfl | decide +kernel | rfl
  · refine ⟨(tState ({ Dev.init with rtr := { RtrG.init with bridges := [(acrossBridge 1 0 * 2, [(7, 0)])], pkts := [(7, tPkt)] } })), 1, 0, 7, 0, [], tPkt, ⟨0, false, .bridge, [1], 0⟩, ?_, ?_, ?_, ?_, ?_⟩ <;>
      first | with_reducible rfl | decide +kernel | rfl
  · refine ⟨(tState (Dev.init)), 3, 0x5555#64, ?_, ?_, ?_⟩ <;>
      first | with_reducible rfl | decide +kernel | rfl
  · refine ⟨(tState (Dev.init)), 0#64, ?_, ?_, ?_⟩ <;>
      first | with_reducible rfl | decide +kernel | rfl
  · refine ⟨(tState (Dev.init)), 5, (LAN_CTRL_RXEN.ins (LAN_CTRL_TXEN.ins (LAN_CTRL_POL_AUTO.ins 0 1) 1) 1), ?_, ?_, ?_, ?_, ?_⟩ <;>
      first | with_reducible rfl | decide +kernel | rfl
  · refine ⟨(tState ((((Dev.init.modLink 4 (fun l => { l with phase := .lanes })).setAdapt 4 aTRACK).modLane 4 (fun x => { x with decoded := true })))), 4, ?_, ?_, ?_, ?_⟩ <;>
      first | with_reducible rfl | decide +kernel | rfl
  · refine ⟨(tState ((Dev.init.setAdapt 3 aACQUIRE))), 3, false, ?_, ?_, ?_, ?_⟩ <;>
      first | with_reducible rfl | decide +kernel | rfl
  · refine ⟨(tState ((Dev.init.setAdapt 3 aACQUIRE))), 3, ?_, ?_⟩ <;>
      first | with_reducible rfl | decide +kernel | rfl
  · refine ⟨(tState ((Dev.init.setAdapt 3 aADAPT))), 3, 9, ((((Dev.init.setAdapt 3 aADAPT).setAdapt 3 aTRACK).put LAN_RXEQ_DFE1 (onLane 3) 9).put LAN_IDLE_RX_STATE (onLane 3) 0), ?_, ?_, ?_, ?_⟩ <;>
      first | with_reducible rfl | decide +kernel | rfl
  · refine ⟨(tState (tADC)), 4, 9, (((tADC.setAdapt 4 aTRACK).put LAN_RXEQ_DFE1 (onLane 4) 9).put LAN_IDLE_RX_STATE (onLane 4) 0), ?_, ?_, ?_, ?_, ?_⟩ <;>
      first | with_reducible rfl | decide +kernel | rfl
  · refine ⟨(tState ((Dev.init.setAdapt 3 aADAPT))), 3, ?_, ?_⟩ <;>
      first | with_reducible rfl | decide +kernel | rfl
  · refine ⟨(tState ((Dev.init.setAdapt 3 aTRACK))), 3, false, ?_, ?_, ?_⟩ <;>
      first | with_reducible rfl | decide +kernel | rfl
  · refine ⟨(tState ((Dev.init.setAdapt 3 aTRACK))), 3, true, ((Dev.init.setAdapt 3 aTRACK).put LAN_RXSTAT_SIG_DET (onLane 3) 0), ?_, ?_, ?_, ?_⟩ <;>
      first | with_reducible rfl | decide +kernel | rfl
  · refine ⟨(tState ((((((Dev.init.setAdapt 4 aTRACK).put LNK_STAT_STATE (onLane 4) UP).put LAN_IDLE_MODE (onLane 4) 1).put LAN_IDLE_RXQ_DLY (onLane 4) 5)))), 4, ?_, ?_, ?_, ?_, ?_⟩ <;>
      first | with_reducible rfl | decide +kernel | rfl
  · refine ⟨(tState ((Dev.init.setAdapt 4 aHOLD))), 4, ?_, ?_⟩ <;>
      first | with_reducible rfl | decide +kernel | rfl
  · refine ⟨(tState ((Dev.init.setAdapt 4 aHOLD))), 4, ?_, ?_⟩ <;>
      first | with_reducible rfl | decide +kernel | rfl
  · refine ⟨(tState (((((Dev.init.put LNK_STAT_STATE (onLane 4) UP).put LAN_IDLE_MODE (onLane 4) 1).put LAN_IDLE_TXQ_DLY (onLane 4) 5).put LAN_IDLE_TX_STATE (onLane 4) 0))), 4, ?_, ?_, ?_, ?_, ?_⟩ <;>
      first | with_reducible rfl | decide +kernel | rfl
  · refine ⟨(tState ((Dev.init.put LAN_IDLE_TX_STATE (onLane 4) 3))), 4, ?_, ?_⟩ <;>
      first | with_reducible rfl | decide +kernel | rfl
  · refine ⟨(tState (((Dev.init.put LNK_STAT_STATE (onLane 4) UP).put LAN_IDLE_MODE (onLane 4) 2))), 4, ?_, ?_, ?_⟩ <;>
      first | with_reducible rfl | decide +kernel | rfl

/-- Each clause of CompletionLaneTest has its hypotheses met. -/
theorem witness_CompletionLaneTest :
    (∃ (s : State) (p : Fin 512) (result : Nat), s.pwr.off = 0 ∧ s.toDev.pexists p.val = true ∧ s.toDev.greenware p.val = false ∧ result = 1) ∧
    (∃ (s : State) (p : Fin 512) (result : Nat), s.pwr.off = 0 ∧ s.toDev.pexists p.val = true ∧ s.toDev.greenware p.val = false ∧ result = 2 ∧ s.toDev.flitsFlow p.val = true) ∧
    (∃ (s : State) (p : Fin 512) (result : Nat), s.pwr.off = 0 ∧ s.toDev.pexists p.val = true ∧ s.toDev.greenware p.val = false ∧ result = 2 ∧ s.toDev.flitsFlow p.val = false) ∧
    (∃ (s : State) (p : Fin 512), s.pwr.off = 0 ∧ s.toDev.pexists p.val = true ∧ s.toDev.greenware p.val = true) ∧
    (∃ (s : State) (p : Fin 512) (v : Word), s.pwr.off = 0 ∧ s.toDev.pexists p.val = true ∧ s.toDev.lstate p.val = OUT_OF_SERVICE ∧ LAN_LPBK_MODE.of v = 1) ∧
    (∃ (s : State) (l : Fin 512), s.pwr.off = 0 ∧ s.toDev.lstate (s.toDev.lanePort l.val) = OUT_OF_SERVICE) ∧
    (∃ (s : State) (l : Fin 512), s.pwr.off = 0 ∧ s.toDev.bit LAN_PATCTL_CHK_EN (onLane l.val) = true ∧ s.toDev.patternComes l.val = true) ∧
    (∃ (s : State) (l : Fin 512), s.pwr.off = 0 ∧ s.toDev.bit LAN_PATCTL_CHK_EN (onLane l.val) = true ∧ s.toDev.bit LAN_PATCTL_LOCK (onLane l.val) = true) ∧
    (∃ (s : State) (l : Fin 512) (v : Word), s.pwr.off = 0 ∧ s.toDev.bit LAN_ESCTL_BUSY (onLane l.val) = false ∧ (s.toDev.wrFields .LAN_ESCTL (onLane l.val) v).adapt l.val = aTRACK ∧ (s.toDev.wrFields .LAN_ESCTL (onLane l.val) v).get LAN_ESCTL_EYE (onLane l.val) ≠ 3) ∧
    (∃ (s : State) (l : Fin 512), s.pwr.off = 0 ∧ s.toDev.bit LAN_ESCTL_BUSY (onLane l.val) = true) ∧
    (∃ (s : State) (l : Fin 512), s.pwr.off = 0 ∧ s.toDev.bit LAN_ESCTL_BUSY (onLane l.val) = true ∧ s.toDev.adapt l.val = aTRACK) := by
  refine ⟨?_, ?_, ?_, ?_, ?_, ?_, ?_, ?_, ?_, ?_, ?_⟩
  · refine ⟨(tState (Dev.init)), 4, 1, ?_, ?_, ?_, ?_⟩ <;>
      first | with_reducible rfl | decide +kernel | rfl
  · refine ⟨(tState ((Dev.init.put LNK_STAT_STATE (onLane 4) UP))), 4, 2, ?_, ?_, ?_, ?_, ?_⟩ <;>
      first | with_reducible rfl | decide +kernel | rfl
  · refine ⟨(tState (Dev.init)), 4, 2, ?_, ?_, ?_, ?_, ?_⟩ <;>
      first | with_reducible rfl | decide +kernel | rfl
  · refine ⟨(tState ((Dev.init.put LNK_STAT_MODE (onLane 4) 1))), 4, ?_, ?_, ?_⟩ <;>
      first | with_reducible rfl | decide +kernel | rfl
  · refine ⟨(tState ((Dev.init.put LNK_STAT_STATE (onLane 4) OUT_OF_SERVICE))), 4, (LAN_LPBK_MODE.ins 0 1), ?_, ?_, ?_, ?_⟩ <;>
      first | with_reducible rfl | decide +kernel | rfl
  · refine ⟨(tState ((Dev.init.put LNK_STAT_STATE (onLane 4) OUT_OF_SERVICE))), 4, ?_, ?_⟩ <;>
      first | with_reducible rfl | decide +kernel | rfl
  · refine ⟨(tState ((Dev.init.put LAN_PATCTL_CHK_EN (onLane 4) 1))), 4, ?_, ?_, ?_⟩ <;>
      first | with_reducible rfl | decide +kernel | rfl
  · refine ⟨(tState (((Dev.init.put LAN_PATCTL_CHK_EN (onLane 4) 1).put LAN_PATCTL_LOCK (onLane 4) 1))), 4, ?_, ?_, ?_⟩ <;>
      first | with_reducible rfl | decide +kernel | rfl
  · refine ⟨(tState ((Dev.init.setAdapt 4 aTRACK))), 4, 0#64, ?_, ?_, ?_, ?_⟩ <;>
      first | with_reducible rfl | decide +kernel | rfl
  · refine ⟨(tState ((Dev.init.put LAN_ESCTL_BUSY (onLane 4) 1))), 4, ?_, ?_⟩ <;>
      first | with_reducible rfl | decide +kernel | rfl
  · refine ⟨(tState (((Dev.init.put LAN_ESCTL_BUSY (onLane 4) 1).setAdapt 4 aTRACK))), 4, ?_, ?_, ?_⟩ <;>
      first | with_reducible rfl | decide +kernel | rfl

/-- Each clause of CompletionLinkFlits has its hypotheses met. -/
theorem witness_CompletionLinkFlits :
    (∃ (s : State) (p : Fin 512) (c : Ctrl) (b : Body) (v : Nat), s.pwr.off = 0 ∧ s.toDev.inOrder p.val c ∧ s.toDev.inBisque = false ∧ ctlKind c = 1 ∧ creditValid c = true ∧ vcIndex (ctlFvc c) = some v ∧ s.toDev.framingFault p.val v (ctlHead c) b = false) ∧
    (∃ (s : State) (p : Fin 512) (c : Ctrl), s.pwr.off = 0 ∧ s.toDev.linkUp p.val = true ∧ (s.toDev.link p.val).marked = 0 ∧ ctlKind c = 0 ∧ ctlCcnt c = 0 ∧ vcIndex 0 = some 0) ∧
    (∃ (s : State) (p : Fin 512) (crc : Bool) (e : Dev), s.pwr.off = 0 ∧ s.toDev.linkUp p.val = true ∧ crc = true ∧ s.toDev.greenware p.val = false ∧ e = ((s.toDev.takeMark p.val).inc .LNK_CRCERR (onLane p.val)).portEvent p.val blkLNK 0x03 0 1 ∧ (e.link p.val).discarding = false) ∧
    (∃ (s : State) (p : Fin 512) (c : Ctrl), s.pwr.off = 0 ∧ s.toDev.linkUp p.val = true ∧ (s.toDev.link p.val).marked = 0 ∧ ctlKind c = 3 ∧ ctlCcnt c = 0 ∧ ctlFvc c = subREPLAY_REQ) ∧
    (∃ (s : State) (p : Fin 512) (c : Ctrl), s.pwr.off = 0 ∧ s.toDev.linkUp p.val = true ∧ (s.toDev.link p.val).marked = 0 ∧ s.toDev.greenware p.val = false ∧ ctlKind c = 3 ∧ ctlCcnt c = 0 ∧ ctlFvc c = subREPLAY_START ∧ (s.toDev.link p.val).ackCount (ctlAck c) = some 0) ∧
    (∃ (s : State) (p : Fin 512), s.pwr.off = 0 ∧ s.toDev.linkUp p.val = true ∧ s.toDev.greenware p.val = false ∧ (s.toDev.link p.val).window ≠ []) ∧
    (∃ (s : State) (p : Fin 512), s.pwr.off = 0 ∧ s.toDev.linkUp p.val = true ∧ (s.toDev.link p.val).ackTimer = true) ∧
    (∃ (s : State) (p : Fin 512), s.pwr.off = 0 ∧ s.toDev.linkUp p.val = true ∧ (s.toDev.mostOwed p.val).isSome = true) ∧
    (∃ (s : State) (p : Fin 512) (m : Nat × Body) (rest : List (Nat × Body)), s.pwr.off = 0 ∧ s.toDev.linkUp p.val = true ∧ s.toDev.txState p.val = 0 ∧ (s.toDev.link p.val).linkctl = m :: rest) := by
  refine ⟨?_, ?_, ?_, ?_, ?_, ?_, ?_, ?_, ?_⟩
  · refine ⟨(tState ((Dev.init.put LNK_STAT_STATE (onLane 4) UP))), 4, (mkCtl 1 0 0 0 0 true false), (1#448 ||| (1#448 <<< 6) ||| (1#448 <<< 30)), 0, ?_, ?_, ?_, ?_, ?_, ?_, ?_⟩ <;>
      first | with_reducible rfl | decide +kernel | rfl
  · refine ⟨(tState ((Dev.init.put LNK_STAT_STATE (onLane 4) UP))), 4, 0#32, ?_, ?_, ?_, ?_, ?_, ?_⟩ <;>
      first | with_reducible rfl | decide +kernel | rfl
  · refine ⟨(tState ((Dev.init.put LNK_STAT_STATE (onLane 4) UP))), 4, true, ((((Dev.init.put LNK_STAT_STATE (onLane 4) UP).takeMark 4).inc .LNK_CRCERR (onLane 4)).portEvent 4 blkLNK 0x03 0 1), ?_, ?_, ?_, ?_, ?_, ?_⟩ <;>
      first | with_reducible rfl | decide +kernel | rfl
  · refine ⟨(tState ((Dev.init.put LNK_STAT_STATE (onLane 4) UP))), 4, (mkCtl 3 0 0 0 subREPLAY_REQ false false), ?_, ?_, ?_, ?_, ?_, ?_⟩ <;>
      first | with_reducible rfl | decide +kernel | rfl
  · refine ⟨(tState ((Dev.init.put LNK_STAT_STATE (onLane 4) UP))), 4, (mkCtl 3 0 0 0 subREPLAY_START false false), ?_, ?_, ?_, ?_, ?_, ?_, ?_, ?_⟩ <;>
      first | with_reducible rfl | decide +kernel | rfl
  · refine ⟨(tState (((Dev.init.put LNK_STAT_STATE (onLane 4) UP).modLink 4 (fun l => { l with window := [⟨0, 0, true, 0, 0⟩] })))), 4, ?_, ?_, ?_, ?_⟩ <;>
      first | with_reducible rfl | decide +kernel | rfl
  · refine ⟨(tState (((Dev.init.put LNK_STAT_STATE (onLane 4) UP).modLink 4 (fun l => { l with ackTimer := true })))), 4, ?_, ?_, ?_⟩ <;>
      first | with_reducible rfl | decide +kernel | rfl
  · refine ⟨(tState (((Dev.init.put LNK_STAT_STATE (onLane 4) UP).modChan 4 2 (fun c => { c with owed := 3 })))), 4, ?_, ?_, ?_⟩ <;>
      first | with_reducible rfl | decide +kernel | rfl
  · refine ⟨(tState ((((Dev.init.put LNK_STAT_STATE (onLane 4) UP).put LAN_IDLE_TX_STATE (onLane 4) 0).sendLinkctl 4 subRETRAIN_REQ 0))), 4, (subRETRAIN_REQ, 0), [], ?_, ?_, ?_, ?_⟩ <;>
      first | with_reducible rfl | decide +kernel | rfl

/-- Each clause of CompletionLinkControl has its hypotheses met. -/
theorem witness_CompletionLinkControl :
    (∃ (s : State) (p : Fin 512) (c : Ctrl) (b : Body), s.pwr.off = 0 ∧ s.toDev.pexists p.val = true ∧ s.toDev.lstate p.val = TRAINING ∧ (s.toDev.link p.val).marked = 0 ∧ trainValid c = true ∧ ((s.toDev.peerSeen p.val b).link p.val).phase = .params ∧ ((s.toDev.peerSeen p.val b).link p.val).gotTrain = false ∧ (s.toDev.peerSeen p.val b).trainFails p.val b = none) ∧
    (∃ (s : State) (p : Fin 512), s.pwr.off = 0 ∧ s.toDev.pexists p.val = true ∧ (s.toDev.link p.val).phase = .params) ∧
    (∃ (s : State) (p : Fin 512), s.pwr.off = 0 ∧ s.toDev.pexists p.val = true ∧ s.toDev.inLanePhase p.val = true ∧ s.toDev.portReady p.val = true) ∧
    (∃ (s : State) (p : Fin 512), s.pwr.off = 0 ∧ s.toDev.pexists p.val = true ∧ (s.toDev.link p.val).phase = .alignment) ∧
    (∃ (s : State) (p : Fin 512), s.pwr.off = 0 ∧ s.toDev.pexists p.val = true ∧ s.toDev.inAttempt p.val = true) ∧
    (∃ (s : State) (p : Fin 512) (c : Ctrl), s.pwr.off = 0 ∧ s.toDev.linkUp p.val = true ∧ (s.toDev.link p.val).marked = 0 ∧ s.toDev.greenware p.val = false ∧ ctlKind c = 3 ∧ ctlCcnt c = 0 ∧ ctlFvc c = subRETRAIN_REQ ∧ (s.toDev.link p.val).ackCount (ctlAck c) = some 0) ∧
    (∃ (s : State) (p : Fin 512) (c : Ctrl), s.pwr.off = 0 ∧ s.toDev.linkUp p.val = true ∧ (s.toDev.link p.val).marked = 0 ∧ s.toDev.greenware p.val = false ∧ ctlKind c = 3 ∧ ctlCcnt c = 0 ∧ ctlFvc c = subOOS_NOTICE ∧ (s.toDev.link p.val).ackCount (ctlAck c) = some 0) ∧
    (∃ (s : State) (p : Fin 512) (c : Ctrl), s.pwr.off = 0 ∧ s.toDev.linkUp p.val = true ∧ (s.toDev.link p.val).marked = 0 ∧ s.toDev.greenware p.val = false ∧ ctlKind c = 3 ∧ ctlCcnt c = 0 ∧ ctlFvc c = subDRAINED ∧ (s.toDev.link p.val).ackCount (ctlAck c) = some 0 ∧ s.toDev.draining p.val = true) ∧
    (∃ (s : State) (p : Fin 512), s.pwr.off = 0 ∧ s.toDev.linkUp p.val = true ∧ s.toDev.draining p.val = true ∧ s.toDev.windowEmpty p.val = true ∧ (s.toDev.link p.val).commanding = false) ∧
    (∃ (s : State) (p : Fin 512), s.pwr.off = 0 ∧ s.toDev.linkUp p.val = true ∧ s.toDev.draining p.val = true ∧ (s.toDev.link p.val).commanding = true) ∧
    (∃ (s : State) (p : Fin 512), s.pwr.off = 0 ∧ s.toDev.pexists p.val = true ∧ s.toDev.lstate p.val = DOWN ∧ s.toDev.inAttempt p.val = false ∧ s.toDev.get LNK_TIMERS2_DOWN_PROBE (onLane p.val) ≠ 0) ∧
    (∃ (s : State) (p : Fin 512), s.pwr.off = 0 ∧ s.toDev.pexists p.val = true ∧ s.toDev.lstate p.val = DOWN ∧ s.toDev.inAttempt p.val = false) ∧
    (∃ (s : State) (p : Fin 512), s.pwr.off = 0 ∧ s.toDev.pexists p.val = true ∧ (s.toDev.lstate p.val ≠ DOWN ∨ s.toDev.inAttempt p.val = true)) ∧
    (∃ (s : State) (p : Fin 512) (v : Word), s.pwr.off = 0 ∧ s.toDev.pexists p.val = true ∧ LNK_CTRL_INTEG.of (v ||| 1#64) = 0 ∧ LNK_CTRL_EN.of (v ||| 1#64) = 1 ∧ ((s.toDev.wrFields .LNK_CTRL (onLane p.val) (v ||| 1#64)).put LNK_CTRL_STATUS (onLane p.val) ST_OK).lstate p.val = DISABLED) ∧
    (∃ (s : State) (p : Fin 512) (v : Word), s.pwr.off = 0 ∧ s.toDev.pexists p.val = true ∧ LNK_CTRL_INTEG.of (v &&& ~~~ 1#64) = 0 ∧ LNK_CTRL_EN.of (v &&& ~~~ 1#64) = 0) ∧
    (∃ (s : State) (p : Fin 512) (v : Word), s.pwr.off = 0 ∧ s.toDev.pexists p.val = true ∧ LNK_CTRL_INTEG.of v = 1 ∧ s.toDev.greenAllowed p.val = true ∧ LNK_CTRL_EN.of v = 1 ∧ ((s.toDev.wrFields .LNK_CTRL (onLane p.val) v).put LNK_CTRL_STATUS (onLane p.val) ST_OK).lstate p.val = UP) ∧
    (∃ (s : State) (p : Fin 512), s.pwr.off = 0 ∧ s.toDev.linkUp p.val = true) ∧
    (∃ (s : State) (p : Fin 512), s.pwr.off = 0 ∧ s.toDev.linkUp p.val = true ∧ s.toDev.draining p.val = false) ∧
    (∃ (s : State) (p : Fin 512), s.pwr.off = 0 ∧ s.toDev.pexists p.val = true ∧ s.toDev.lstate p.val = OUT_OF_SERVICE ∧ s.toDev.get LAN_LPBK_MODE (onLane p.val) = 0) := by
  refine ⟨?_, ?_, ?_, ?_, ?_, ?_, ?_, ?_, ?_, ?_, ?_, ?_, ?_, ?_, ?_, ?_, ?_, ?_, ?_⟩
  · refine ⟨(tState (((({ Dev.init with sys := { SysG.init with fabricId := 5 } } : Dev).modLink 4 (fun l => { l with phase := .params })).put LNK_STAT_STATE (onLane 4) TRAINING))), 4, (mkCtl 3 0 0 0 subTRAIN false false), (trainTest), ?_, ?_, ?_, ?_, ?_, ?_, ?_, ?_⟩ <;>
      first | with_reducible rfl | decide +kernel | rfl
  · refine ⟨(tState ((Dev.init.modLink 4 (fun l => { l with phase := .params })))), 4, ?_, ?_, ?_⟩ <;>
      first | with_reducible rfl | decide +kernel | rfl
  · refine ⟨(tState ((((Dev.init.put LAN_CLMAP_WIDTHS ⟨0, 0⟩ 0x5555).modLink 4 (fun l => { l with phase := .lanes })).setAdapt 4 aTRACK).modLane 4 (fun x => { x with decoded := true }))), 4, ?_, ?_, ?_, ?_⟩ <;>
      first | with_reducible rfl | decide +kernel | rfl
  · refine ⟨(tState ((Dev.init.modLink 4 (fun l => { l with phase := .alignment })))), 4, ?_, ?_, ?_⟩ <;>
      first | with_reducible rfl | decide +kernel | rfl
  · refine ⟨(tState ((Dev.init.modLink 4 (fun l => { l with phase := .alignment })))), 4, ?_, ?_, ?_⟩ <;>
      first | with_reducible rfl | decide +kernel | rfl
  · refine ⟨(tState ((Dev.init.put LNK_STAT_STATE (onLane 4) UP))), 4, (mkCtl 3 0 0 0 subRETRAIN_REQ false false), ?_, ?_, ?_, ?_, ?_, ?_, ?_, ?_⟩ <;>
      first | with_reducible rfl | decide +kernel | rfl
  · refine ⟨(tState ((Dev.init.put LNK_STAT_STATE (onLane 4) UP))), 4, (mkCtl 3 0 0 0 subOOS_NOTICE false false), ?_, ?_, ?_, ?_, ?_, ?_, ?_, ?_⟩ <;>
      first | with_reducible rfl | decide +kernel | rfl
  · refine ⟨(tState (((Dev.init.put LNK_STAT_STATE (onLane 4) UP).putB LNK_STAT_DRAINING (onLane 4) true))), 4, (mkCtl 3 0 0 0 subDRAINED false false), ?_, ?_, ?_, ?_, ?_, ?_, ?_, ?_, ?_⟩ <;>
      first | with_reducible rfl | decide +kernel | rfl
  · refine ⟨(tState (((Dev.init.put LNK_STAT_STATE (onLane 4) UP).putB LNK_STAT_DRAINING (onLane 4) true))), 4, ?_, ?_, ?_, ?_, ?_⟩ <;>
      first | with_reducible rfl | decide +kernel | rfl
  · refine ⟨(tState ((((Dev.init.put LNK_STAT_STATE (onLane 4) UP).putB LNK_STAT_DRAINING (onLane 4) true).modLink 4 (fun l => { l with commanding := true })))), 4, ?_, ?_, ?_, ?_⟩ <;>
      first | with_reducible rfl | decide +kernel | rfl
  · refine ⟨(tState ((Dev.init.put LNK_STAT_STATE (onLane 4) DOWN))), 4, ?_, ?_, ?_, ?_, ?_⟩ <;>
      first | with_reducible rfl | decide +kernel | rfl
  · refine ⟨(tState ((Dev.init.put LNK_STAT_STATE (onLane 4) DOWN))), 4, ?_, ?_, ?_, ?_⟩ <;>
      first | with_reducible rfl | decide +kernel | rfl
  · refine ⟨(tState ((Dev.init.put LNK_STAT_STATE (onLane 4) UP))), 4, ?_, ?_, ?_⟩ <;>
      first | with_reducible rfl | decide +kernel | rfl
  · refine ⟨(tState (Dev.init)), 4, 0#64, ?_, ?_, ?_, ?_, ?_⟩ <;>
      first | with_reducible rfl | decide +kernel | rfl
  · refine ⟨(tState ((Dev.init.put LNK_STAT_STATE (onLane 4) UP))), 4, 0#64, ?_, ?_, ?_, ?_⟩ <;>
      first | with_reducible rfl | decide +kernel | rfl
  · refine ⟨(tState ((({ (Dev.init.put LNK_STAT_STATE (onLane 4) UP) with sys := { SysG.init with sysModules := 4 } } : Dev).put LAN_CTRL_RATE (onLane 4) 1))), 4, (LNK_CTRL_INTEG.ins (LNK_CTRL_EN.ins 0 1) 1), ?_, ?_, ?_, ?_, ?_, ?_⟩ <;>
      first | with_reducible rfl | decide +kernel | rfl
  · refine ⟨(tState ((Dev.init.put LNK_STAT_STATE (onLane 4) UP))), 4, ?_, ?_⟩ <;>
      first | with_reducible rfl | decide +kernel | rfl
  · refine ⟨(tState ((Dev.init.put LNK_STAT_STATE (onLane 4) UP))), 4, ?_, ?_, ?_⟩ <;>
      first | with_reducible rfl | decide +kernel | rfl
  · refine ⟨(tState ((Dev.init.put LNK_STAT_STATE (onLane 4) OUT_OF_SERVICE))), 4, ?_, ?_, ?_, ?_⟩ <;>
      first | with_reducible rfl | decide +kernel | rfl

/-- Each clause of CompletionLinkBypass has its hypotheses met. -/
theorem witness_CompletionLinkBypass :
    (∃ (s : State) (p : Fin 512) (c : Ctrl), s.pwr.off = 0 ∧ s.toDev.inOrder p.val c ∧ ctlKind c = 2 ∧ creditValid c = true ∧ ctlFvc c = byCREDIT) ∧
    (∃ (s : State) (p : Fin 512) (c : Ctrl), s.pwr.off = 0 ∧ s.toDev.inOrder p.val c ∧ ctlKind c = 2 ∧ creditValid c = true ∧ ctlFvc c = byAUDIT) ∧
    (∃ (s : State) (p : Fin 512), s.pwr.off = 0 ∧ s.toDev.linkUp p.val = true) ∧
    (∃ (s : State) (p : Fin 512) (c : Ctrl), s.pwr.off = 0 ∧ s.toDev.inOrder p.val c ∧ ctlKind c = 2 ∧ creditValid c = true ∧ ctlFvc c = byTIME) ∧
    (∃ (s : State) (p : Fin 512), s.pwr.off = 0 ∧ s.toDev.linkUp p.val = true) ∧
    (∃ (s : State) (p : Fin 512) (c : Ctrl), s.pwr.off = 0 ∧ s.toDev.inOrder p.val c ∧ ctlKind c = 2 ∧ creditValid c = true ∧ ctlFvc c = byDUNE) ∧
    (∃ (s : State) (p : Fin 512) (c : Ctrl), s.pwr.off = 0 ∧ s.toDev.inOrder p.val c ∧ ctlKind c = 2 ∧ creditValid c = true ∧ ctlFvc c = byEPOCH) := by
  refine ⟨?_, ?_, ?_, ?_, ?_, ?_, ?_⟩
  · refine ⟨(tState ((Dev.init.put LNK_STAT_STATE (onLane 4) UP))), 4, (mkCtl 2 0 0 0 byCREDIT true false), ?_, ?_, ?_, ?_, ?_⟩ <;>
      first | with_reducible rfl | decide +kernel | rfl
  · refine ⟨(tState ((Dev.init.put LNK_STAT_STATE (onLane 4) UP))), 4, (mkCtl 2 0 0 0 byAUDIT true false), ?_, ?_, ?_, ?_, ?_⟩ <;>
      first | with_reducible rfl | decide +kernel | rfl
  · refine ⟨(tState ((Dev.init.put LNK_STAT_STATE (onLane 4) UP))), 4, ?_, ?_⟩ <;>
      first | with_reducible rfl | decide +kernel | rfl
  · refine ⟨(tState ((Dev.init.put LNK_STAT_STATE (onLane 4) UP))), 4, (mkCtl 2 0 0 0 byTIME true false), ?_, ?_, ?_, ?_, ?_⟩ <;>
      first | with_reducible rfl | decide +kernel | rfl
  · refine ⟨(tState ((Dev.init.put LNK_STAT_STATE (onLane 4) UP))), 4, ?_, ?_⟩ <;>
      first | with_reducible rfl | decide +kernel | rfl
  · refine ⟨(tState ((Dev.init.put LNK_STAT_STATE (onLane 4) UP))), 4, (mkCtl 2 0 0 0 byDUNE true false), ?_, ?_, ?_, ?_, ?_⟩ <;>
      first | with_reducible rfl | decide +kernel | rfl
  · refine ⟨(tState ((Dev.init.put LNK_STAT_STATE (onLane 4) UP))), 4, (mkCtl 2 0 0 0 byEPOCH true false), ?_, ?_, ?_, ?_, ?_⟩ <;>
      first | with_reducible rfl | decide +kernel | rfl

/-- Each clause of CompletionRouter has its hypotheses met. -/
theorem witness_CompletionRouter :
    (∃ (s : State) (p : Fin 512) (i : Nat) (rest : List Nat) (k : Pkt) (pp : Nat) (step : Nat), s.pwr.off = 0 ∧ (s.toDev.eport p.val).wait = i :: rest ∧ s.toDev.pkt i = some k ∧ k.egress = .port pp step ∧ s.toDev.fits p.val k = true) ∧
    (∃ (s : State), s.pwr.off = 0) ∧
    (∃ (s : State) (q : Fin 4) (r : Fin 4) (x : InjReq) (rest : List InjReq), s.pwr.off = 0 ∧ s.toDev.waitingInj q.val r.val = x :: rest) ∧
    (∃ (s : State) (c : Nat) (x : Cell), s.pwr.off = 0 ∧ s.toDev.cell c = some x ∧ x.refs = 1) ∧
    (∃ (s : State) (c : Nat) (x : Cell), s.pwr.off = 0 ∧ s.toDev.cell c = some x ∧ 1 < x.refs) ∧
    (∃ (s : State) (q : Fin 4), s.pwr.off = 0 ∧ s.toDev.bit RTE_DUNE_EN (onDie q.val) = true) ∧
    (∃ (s : State) (q : Fin 4) (bank : Fin 2), s.pwr.off = 0 ∧ s.toDev.bankValid q.val bank.val = false ∧ s.toDev.checkingOn q.val = false) ∧
    (∃ (s : State) (q : Fin 4) (b : Nat), s.pwr.off = 0 ∧ Tab.find s.toDev.rtr.checking q.val = some b ∧ (({ s.toDev with rtr := { s.toDev.rtr with checking := Tab.del s.toDev.rtr.checking q.val } } : Dev).put RTE_EPOCH_CHECKING (onDie q.val) 0).bankFails q.val b = none) ∧
    (∃ (s : State) (q : Fin 4) (b : Nat) (t : Nat) (i : Nat) (r : Nat), s.pwr.off = 0 ∧ Tab.find s.toDev.rtr.checking q.val = some b ∧ (({ s.toDev with rtr := { s.toDev.rtr with checking := Tab.del s.toDev.rtr.checking q.val } } : Dev).put RTE_EPOCH_CHECKING (onDie q.val) 0).bankFails q.val b = some (t, i, r)) ∧
    (∃ (s : State) (q : Fin 4) (bank : Fin 2), s.pwr.off = 0 ∧ s.toDev.get RTE_EPOCH_STAMP (onDie q.val) ≠ bank.val ∧ s.toDev.checkingOn q.val = false) ∧
    (∃ (s : State) (q : Fin 4) (e : Fin 2), s.pwr.off = 0 ∧ s.toDev.bankValid q.val e.val = true) ∧
    (∃ (s : State) (q : Fin 4) (bank : Fin 2), s.pwr.off = 0 ∧ s.toDev.bankValid q.val bank.val = false) ∧
    (∃ (s : State) (q : Fin 4) (bank : Fin 2), s.pwr.off = 0 ∧ s.toDev.bankValid q.val bank.val = false) := by
  refine ⟨?_, ?_, ?_, ?_, ?_, ?_, ?_, ?_, ?_, ?_, ?_, ?_, ?_⟩
  · refine ⟨(tState (tADMW)), 4, 7, [], { tPkt with egress := .port 4 1 }, 4, 1, ?_, ?_, ?_, ?_, ?_⟩ <;>
      first | with_reducible rfl | decide +kernel | rfl
  · refine ⟨(tState (Dev.init)), ?_⟩ <;>
      first | with_reducible rfl | decide +kernel | rfl
  · refine ⟨(tState ({ Dev.init with rtr := { RtrG.init with inj := [⟨1, 2, false, tPacket, [], false, none⟩] } })), 1, 2, ⟨1, 2, false, tPacket, [], false, none⟩, [], ?_, ?_⟩ <;>
      first | with_reducible rfl | decide +kernel | rfl
  · refine ⟨(tState ({ Dev.init with rtr := { RtrG.init with cells := [(3, ⟨4, 1, 0, .port 4 0, 0⟩)] } })), 3, ⟨4, 1, 0, .port 4 0, 0⟩, ?_, ?_, ?_⟩ <;>
      first | with_reducible rfl | decide +kernel | rfl
  · refine ⟨(tState ({ Dev.init with rtr := { RtrG.init with cells := [(3, ⟨4, 2, 0, .port 4 0, 0⟩)] } })), 3, ⟨4, 2, 0, .port 4 0, 0⟩, ?_, ?_, ?_⟩ <;>
      first | with_reducible rfl | decide +kernel | rfl
  · refine ⟨(tState ((Dev.init.put RTE_DUNE_EN (onDie 1) 1))), 1, ?_, ?_⟩ <;>
      first | with_reducible rfl | decide +kernel | rfl
  · refine ⟨(tState (Dev.init)), 1, 0, ?_, ?_, ?_⟩ <;>
      first | with_reducible rfl | decide +kernel | rfl
  · refine ⟨(tState (tGOODBANK)), 1, 0, ?_, ?_, ?_⟩ <;>
      first | with_reducible rfl | decide +kernel | rfl
  · refine ⟨(tState (tBAD)), 1, 0, 1, 0, 5, ?_, ?_, ?_⟩ <;>
      first | with_reducible rfl | decide +kernel | rfl
  · refine ⟨(tState (Dev.init)), 1, 1, ?_, ?_, ?_⟩ <;>
      first | with_reducible rfl | decide +kernel | rfl
  · refine ⟨(tState ((Dev.init.setBankValid 1 0 true))), 1, 0, ?_, ?_⟩ <;>
      first | with_reducible rfl | decide +kernel | rfl
  · refine ⟨(tState (Dev.init)), 1, 0, ?_, ?_⟩ <;>
      first | with_reducible rfl | decide +kernel | rfl
  · refine ⟨(tState (Dev.init)), 1, 0, ?_, ?_⟩ <;>
      first | with_reducible rfl | decide +kernel | rfl

/-- Each clause of CompletionRelease has its hypotheses met. -/
theorem witness_CompletionRelease :
    (∃ (s : State), s.pwr.off = 0 ∧ s.toDev.ep.running = true ∧ s.toDev.backed 0 sysGroup = true ∧ s.toDev.roundHeld (s.toDev.gEngdie 0 sysGroup) s.toDev.ep.opseq = false) ∧
    (∃ (s : State) (p : Fin 512), s.pwr.off = 0 ∧ s.toDev.pexists p.val = true ∧ (s.toDev.eport p.val).deadTimer = true) ∧
    (∃ (s : State) (p : Fin 512), s.pwr.off = 0 ∧ s.toDev.pexists p.val = true ∧ s.toDev.lstate p.val ≠ UP ∧ s.toDev.draining p.val = false) ∧
    (∃ (s : State) (p : Fin 512), s.pwr.off = 0 ∧ s.toDev.pexists p.val = true ∧ s.toDev.lstate p.val ≠ UP ∧ s.toDev.draining p.val = false) ∧
    (∃ (s : State) (p : Fin 512), s.pwr.off = 0 ∧ s.toDev.pexists p.val = true ∧ s.toDev.lstate p.val ≠ UP ∧ s.toDev.draining p.val = false) ∧
    (∃ (s : State) (p : Fin 512), s.pwr.off = 0 ∧ s.toDev.pexists p.val = true ∧ s.toDev.bit PRT_STAT_DEAD (onLane p.val) = true ∧ s.toDev.keepsCount p.val = true ∧ s.toDev.lstate p.val ≠ UP ∧ s.toDev.draining p.val = false) ∧
    (∃ (s : State) (q : Fin 4), s.pwr.off = 0 ∧ (List.range 4).filter (fun b => !s.toDev.regionOff (q.val * 4 + b) && s.toDev.cellBad q.val b) = [] ∧ s.toDev.hst.queues.filter (fun e => e.1 / 262144 = q.val && e.1 / 65536 % 4 = kCQ && e.2.owed ≠ s.toDev.cqUnderWay q.val e.2 + e.2.held.length) = [] ∧ (s.toDev.get RMX_CTRAPPLIED_TOTAL (onDie q.val) + s.toDev.incrementsHeld q.val) % 2 ^ 48 = s.toDev.get RMX_CTRPLACED_TOTAL (onDie q.val)) ∧
    (∃ (s : State) (q : Fin 4), s.pwr.off = 0 ∧ (List.range 4).filter (fun b => !s.toDev.regionOff (q.val * 4 + b) && s.toDev.cellBad q.val b) = [] ∧ s.toDev.hst.queues.filter (fun e => e.1 / 262144 = q.val && e.1 / 65536 % 4 = kCQ && e.2.owed ≠ s.toDev.cqUnderWay q.val e.2 + e.2.held.length) = [] ∧ (s.toDev.get RMX_CTRAPPLIED_TOTAL (onDie q.val) + s.toDev.incrementsHeld q.val) % 2 ^ 48 ≠ s.toDev.get RMX_CTRPLACED_TOTAL (onDie q.val)) ∧
    (∃ (s : State) (q : Fin 4) (bad : List (Nat × Queue)) (e : Dev), s.pwr.off = 0 ∧ (List.range 4).filter (fun b => !s.toDev.regionOff (q.val * 4 + b) && s.toDev.cellBad q.val b) = [] ∧ s.toDev.hst.queues.filter (fun e => e.1 / 262144 = q.val && e.1 / 65536 % 4 = kCQ && e.2.owed ≠ s.toDev.cqUnderWay q.val e.2 + e.2.held.length) = bad ∧ e = s.toDev.each bad (fun x d => d.raise srcCONSERVE 5 (locUnit q.val 3 (x.1 % 4)) (x.1 % 65536)) ∧ (e.get RMX_CTRAPPLIED_TOTAL (onDie q.val) + e.incrementsHeld q.val) % 2 ^ 48 = e.get RMX_CTRPLACED_TOTAL (onDie q.val)) := by
  refine ⟨?_, ?_, ?_, ?_, ?_, ?_, ?_, ?_, ?_⟩
  · refine ⟨(tState ((({ Dev.init with ep := { EpochG.init with running := true } } : Dev).setBacked 0 sysGroup true))), ?_, ?_, ?_, ?_⟩ <;>
      first | with_reducible rfl | decide +kernel | rfl
  · refine ⟨(tState ((Dev.init.modEport 4 (fun e => { e with deadTimer := true })))), 4, ?_, ?_, ?_⟩ <;>
      first | with_reducible rfl | decide +kernel | rfl
  · refine ⟨(tState ((Dev.init.put LNK_STAT_STATE (onLane 4) DOWN))), 4, ?_, ?_, ?_, ?_⟩ <;>
      first | with_reducible rfl | decide +kernel | rfl
  · refine ⟨(tState ((Dev.init.put LNK_STAT_STATE (onLane 4) DOWN))), 4, ?_, ?_, ?_, ?_⟩ <;>
      first | with_reducible rfl | decide +kernel | rfl
  · refine ⟨(tState ((Dev.init.put LNK_STAT_STATE (onLane 4) DOWN))), 4, ?_, ?_, ?_, ?_⟩ <;>
      first | with_reducible rfl | decide +kernel | rfl
  · refine ⟨(tState (tKEEPW)), 4, ?_, ?_, ?_, ?_, ?_, ?_⟩ <;>
      first | with_reducible rfl | decide +kernel | rfl
  · refine ⟨(tState (Dev.init)), 1, ?_, ?_, ?_, ?_⟩ <;>
      first | with_reducible rfl | decide +kernel | rfl
  · refine ⟨(tState ((Dev.init.put RMX_CTRPLACED_TOTAL (onDie 1) 5))), 1, ?_, ?_, ?_, ?_⟩ <;>
      first | with_reducible rfl | decide +kernel | rfl
  · refine ⟨(tState (tLEDQ)), 1, [((1 * 4 + 2) * 65536 + 3, { tQueue with owed := 1 })], (tLEDQ.raise srcCONSERVE 5 (locUnit 1 3 3) 3), ?_, ?_, ?_, ?_, ?_⟩ <;>
      first | with_reducible rfl | decide +kernel | rfl

/-- Each clause of CompletionScheduling has its hypotheses met. -/
theorem witness_CompletionScheduling :
    (∃ (s : State) (l : Fin 512) (v : Word), s.pwr.off = 0 ∧ 378 ≤ FWD_SHARE_CELLS.of v ∧ (s.toDev.put FWD_SHARE_CELLS (onLane l.val) (FWD_SHARE_CELLS.of v)).commitment (l.val / 128) ≤ (s.toDev.put FWD_SHARE_CELLS (onLane l.val) (FWD_SHARE_CELLS.of v)).bankCells (l.val / 128)) ∧
    (∃ (s : State) (q : Fin 4) (v : Word), s.pwr.off = 0 ∧ 20 ≤ FWD_INJ_INJ.of v ∧ 20 ≤ FWD_INJ_BRG.of v ∧ ((s.toDev.put FWD_INJ_INJ (onDie q.val) (FWD_INJ_INJ.of v)).put FWD_INJ_BRG (onDie q.val) (FWD_INJ_BRG.of v)).commitment q.val ≤ ((s.toDev.put FWD_INJ_INJ (onDie q.val) (FWD_INJ_INJ.of v)).put FWD_INJ_BRG (onDie q.val) (FWD_INJ_BRG.of v)).bankCells q.val) ∧
    (∃ (s : State) (p : Fin 512) (t : Fin 16) (e : Nat), s.pwr.off = 0 ∧ s.toDev.pexists p.val = true ∧ (s.toDev.shaper p.val t.val).wait = some e ∧ (s.toDev.shaper p.val t.val).wheel = true ∧ e ≤ s.toDev.fabricNow) ∧
    (∃ (s : State), s.pwr.off = 0) ∧
    (∃ (s : State) (p : Fin 512), s.pwr.off = 0 ∧ s.toDev.pexists p.val = true) ∧
    (∃ (s : State) (p : Fin 512) (t : Fin 16) (b : Nat), s.pwr.off = 0 ∧ s.toDev.pexists p.val = true ∧ (s.toDev.shaper p.val t.val).applyAt = some b ∧ b ≤ s.toDev.fabricNow) ∧
    (∃ (s : State) (p : Fin 512) (l : Fin 2), s.pwr.off = 0 ∧ s.toDev.pexists p.val = true ∧ (s.toDev.gateRunning p.val && s.toDev.gateActive p.val = l.val) = false ∧ (s.toDev.gatePending p.val && s.toDev.shadow p.val = l.val) = false) ∧
    (∃ (s : State) (p : Fin 512) (v : Word), s.pwr.off = 0 ∧ s.toDev.pexists p.val = true ∧ SCH_GATECTL_CANCEL.of (v ||| SCH_GATECTL_COMMIT.mask) = 0 ∧ SCH_GATECTL_COMMIT.of (v ||| SCH_GATECTL_COMMIT.mask) = 1 ∧ s.toDev.gatePending p.val = false ∧ s.toDev.gateListOk p.val (SCH_GATECTL_LEN.of (v ||| SCH_GATECTL_COMMIT.mask)) = true) ∧
    (∃ (s : State) (p : Fin 512) (v : Word), s.pwr.off = 0 ∧ s.toDev.pexists p.val = true ∧ SCH_GATECTL_COMMIT.of (v ||| SCH_GATECTL_CANCEL.mask) = 0 ∧ SCH_GATECTL_CANCEL.of (v ||| SCH_GATECTL_CANCEL.mask) = 1) ∧
    (∃ (s : State) (p : Fin 512), s.pwr.off = 0 ∧ s.toDev.pexists p.val = true ∧ s.toDev.gatePending p.val = true ∧ s.toDev.takeoverTime p.val ≤ s.toDev.fabricNow) ∧
    (∃ (s : State) (p : Fin 512), s.pwr.off = 0 ∧ s.toDev.pexists p.val = true ∧ s.toDev.gateRunning p.val = true ∧ (s.toDev.gate p.val).entryEnd ≤ s.toDev.fabricNow ∧ s.toDev.gatePending p.val = false) := by
  refine ⟨?_, ?_, ?_, ?_, ?_, ?_, ?_, ?_, ?_, ?_, ?_⟩
  · refine ⟨(tState (Dev.init)), 4, 378#64, ?_, ?_, ?_⟩ <;>
      first | with_reducible rfl | decide +kernel | rfl
  · refine ⟨(tState (Dev.init)), 1, (FWD_INJ_INJ.ins (FWD_INJ_BRG.ins 0 20) 20), ?_, ?_, ?_, ?_⟩ <;>
      first | with_reducible rfl | decide +kernel | rfl
  · refine ⟨(tState ((Dev.init.setShaper 4 2 { Shaper.init with wait := some 0, wheel := true }))), 4, 2, 0, ?_, ?_, ?_, ?_, ?_⟩ <;>
      first | with_reducible rfl | decide +kernel | rfl
  · refine ⟨(tState (Dev.init)), ?_⟩ <;>
      first | with_reducible rfl | decide +kernel | rfl
  · refine ⟨(tState (Dev.init)), 4, ?_, ?_⟩ <;>
      first | with_reducible rfl | decide +kernel | rfl
  · refine ⟨(tState ((Dev.init.setShaper 4 2 { Shaper.init with applyAt := some 0 }))), 4, 2, 0, ?_, ?_, ?_, ?_⟩ <;>
      first | with_reducible rfl | decide +kernel | rfl
  · refine ⟨(tState (Dev.init)), 4, 0, ?_, ?_, ?_, ?_⟩ <;>
      first | with_reducible rfl | decide +kernel | rfl
  · refine ⟨(tState (tGATE)), 4, (SCH_GATECTL_LEN.ins 0 1), ?_, ?_, ?_, ?_, ?_, ?_⟩ <;>
      first | with_reducible rfl | decide +kernel | rfl
  · refine ⟨(tState (Dev.init)), 4, 0#64, ?_, ?_, ?_, ?_⟩ <;>
      first | with_reducible rfl | decide +kernel | rfl
  · refine ⟨(tState ((Dev.init.put SCH_GATECTL_PENDING (onLane 4) 1))), 4, ?_, ?_, ?_, ?_⟩ <;>
      first | with_reducible rfl | decide +kernel | rfl
  · refine ⟨(tState ((Dev.init.put SCH_GATECTL_RUNNING (onLane 4) 1))), 4, ?_, ?_, ?_, ?_, ?_⟩ <;>
      first | with_reducible rfl | decide +kernel | rfl

/-- Each clause of CompletionGroup has its hypotheses met. -/
theorem witness_CompletionGroup :
    (∃ (s : State) (q : Fin 4) (g : Fin 65536), s.pwr.off = 0 ∧ s.toDev.mcg.waiting.any (fun w => w.1 = q.val && w.2.1 = g.val) = true ∧ s.toDev.backed q.val g.val = true) ∧
    (∃ (s : State) (q : Fin 4) (g : Fin 65536), s.pwr.off = 0 ∧ s.toDev.mcg.waiting.any (fun w => w.1 = q.val && w.2.1 = g.val) = true ∧ s.toDev.backed q.val g.val = false) ∧
    (∃ (s : State) (q : Fin 4) (g : Fin 65536), s.pwr.off = 0 ∧ s.toDev.backed q.val g.val = false ∧ s.toDev.groupFails q.val g.val = none) ∧
    (∃ (s : State) (q : Fin 4) (g : Fin 65536), s.pwr.off = 0 ∧ s.toDev.groupOpen q.val g.val = false) ∧
    (∃ (s : State), s.pwr.off = 0) ∧
    (∃ (s : State) (q : Fin 4) (g : Fin 65536), s.pwr.off = 0 ∧ s.toDev.backed q.val g.val = false) ∧
    (∃ (s : State) (q : Fin 4) (g : Fin 65536), s.pwr.off = 0 ∧ s.toDev.backed q.val g.val = true) ∧
    (∃ (s : State) (q : Fin 4) (member : Fin 256) (k : Machine.Packet) (o : Packet), s.pwr.off = 0 ∧ s.toDev.meshHold q.val = false ∧ k.type = tMCAST ∧ o = s.toDev.oldestFor q.val member.val k ∧ o.type = tMCAST ∧ o.enc = false ∧ (s.toDev.takeDlv q.val member.val o).gEnc q.val (o.dest % 65536) = false) ∧
    (∃ (s : State) (q : Fin 4) (k : Machine.Packet), s.pwr.off = 0 ∧ s.toDev.engineTakes q.val tRED_UP k) ∧
    (∃ (s : State) (q : Fin 4) (k : Machine.Packet), s.pwr.off = 0 ∧ s.toDev.meshHold q.val = false ∧ s.toDev.engineTakes q.val tRED_DOWN k ∧ k.dest % 65536 ≠ sysGroup) ∧
    (∃ (s : State) (q : Fin 4) (k : Machine.Packet) (e : Dev) (r : ColOp) (ph : Nat) (chunks : List Nat), s.pwr.off = 0 ∧ s.toDev.engineTakes q.val tCOL_GRANT k ∧ (s.toDev.takeDlv q.val 257 k).openOp q.val (k.dest % 65536) (cSeq k) k.tc = (e, true) ∧ e.openCrec q.val (k.dest % 65536) (cSeq k) = some r ∧ ph = bits (ofBytes (k.oper.take 2)) 12 1 ∧ chunks = ((List.range (cByte k 2)).map (cChunk k + ·)).filter (fun c => !r.down.contains (c, ph)) ∧ chunks ≠ []) ∧
    (∃ (s : State) (q : Fin 4) (g : Fin 65536) (seq : Nat) (e : Dev) (r : ColOp) (c : Nat) (ph : Nat), s.pwr.off = 0 ∧ s.toDev.bufsInUse q.val g.val < s.toDev.gWindow q.val g.val ∧ s.toDev.openOp q.val g.val seq 0 = (e, true) ∧ e.openCrec q.val g.val seq = some r ∧ r.nextBuf = some (c, ph) ∧ e.awaitPorts q.val g.val = [] ∧ (e.setCrec q.val g.val { r with bufs := r.bufs ++ [ChunkBuf.fresh c ph [] (e.awaitLocals q.val g.val)], next0 := if ph = 0 then c + 1 else r.next0, next1 := if ph = 1 then c + 1 else r.next1 }).memsOf q.val g.val seq = []) ∧
    (∃ (s : State) (q : Fin 4) (k : Machine.Packet), s.pwr.off = 0 ∧ s.toDev.engineTakes q.val tBARRIER k ∧ cDir k = 0) ∧
    (∃ (s : State) (q : Fin 4) (k : Machine.Packet), s.pwr.off = 0 ∧ s.toDev.engineTakes q.val tBARRIER k ∧ cDir k = 1) ∧
    (∃ (s : State) (q : Fin 4) (src : Nat) (k : Machine.Packet) (e : Dev) (r : ColOp) (b : ChunkBuf), s.pwr.off = 0 ∧ s.toDev.engineTakes q.val tEPOCH_COUNT k ∧ (s.toDev.takeDlv q.val 257 k).openOp q.val (k.dest % 65536) (cSeq k) k.tc = (e, true) ∧ e.openCrec q.val (k.dest % 65536) (cSeq k) = some r ∧ (r.begun = false ∨ r.epoch.isSome = true) ∧ r.agrees (cParams k) = true ∧ b = r.epoch.getD (ChunkBuf.fresh 0 0 (e.awaitPorts q.val (k.dest % 65536)) (e.awaitLocals q.val (k.dest % 65536))) ∧ src < 512 ∧ b.ports.contains src = true) ∧
    (∃ (s : State) (q : Fin 4) (g : Fin 65536) (seq : Nat) (r : ColOp) (k : Packet), s.pwr.off = 0 ∧ s.toDev.openCrec q.val g.val seq = some r ∧ s.toDev.gRoot q.val g.val = true ∧ r.begun = true ∧ k = s.toDev.timeoutPacket q.val g.val r ∧ r.stagesOf ≠ []) ∧
    (∃ (s : State) (q : Fin 4) (g : Fin 65536) (seq : Nat) (r : ColOp) (k : Packet), s.pwr.off = 0 ∧ s.toDev.openCrec q.val g.val seq = some r ∧ s.toDev.gRoot q.val g.val = true ∧ r.begun = true ∧ k = s.toDev.timeoutPacket q.val g.val r ∧ r.stagesOf = []) ∧
    (∃ (s : State) (q : Fin 4) (g : Fin 65536) (seq : Nat) (member : Fin 256) (m : Mem), s.pwr.off = 0 ∧ s.toDev.clv.mems.find? (fun m => m.die = q.val && m.group = g.val && m.seq = seq && m.member = member.val) = some m ∧ (s.toDev.memFinish m ST_INCOMPLETE 0).openCrec q.val g.val seq = none) ∧
    (∃ (s : State) (p : Fin 512) (c : Ctrl), s.pwr.off = 0 ∧ s.toDev.inOrder p.val c ∧ ctlKind c = 2 ∧ creditValid c = true ∧ ctlFvc c = byFENCE) ∧
    (∃ (s : State) (path : Path), s.pwr.off = 0 ∧ path = .mgmt) ∧
    (∃ (s : State) (m : Nat × Bool × Nat), s.pwr.off = 0 ∧ s.toDev.get MCG_CTRL_REFRESH onMod ≠ 0 ∧ s.toDev.mcg.mine.filter s.toDev.fenceStands = [m]) := by
  refine ⟨?_, ?_, ?_, ?_, ?_, ?_, ?_, ?_, ?_, ?_, ?_, ?_, ?_, ?_, ?_, ?_, ?_, ?_, ?_, ?_, ?_⟩
  · refine ⟨(tState (tGEF)), 1, 9, ?_, ?_, ?_⟩ <;>
      first | with_reducible rfl | decide +kernel | rfl
  · refine ⟨(tState (tGEFN)), 1, 9, ?_, ?_, ?_⟩ <;>
      first | with_reducible rfl | decide +kernel | rfl
  · refine ⟨(tState (tGOODGROUP)), 1, 9, ?_, ?_, ?_⟩ <;>
      first | with_reducible rfl | decide +kernel | rfl
  · refine ⟨(tState (Dev.init)), 1, 9, ?_, ?_⟩ <;>
      first | with_reducible rfl | decide +kernel | rfl
  · refine ⟨(tState (Dev.init)), ?_⟩ <;>
      first | with_reducible rfl | decide +kernel | rfl
  · refine ⟨(tState (Dev.init)), 1, 9, ?_, ?_⟩ <;>
      first | with_reducible rfl | decide +kernel | rfl
  · refine ⟨(tState ((Dev.init.setBacked 1 9 true))), 1, 9, ?_, ?_⟩ <;>
      first | with_reducible rfl | decide +kernel | rfl
  · refine ⟨(tState (Dev.init)), 1, 3, { tPacket with type := tMCAST }, { tPacket with type := tMCAST }, ?_, ?_, ?_, ?_, ?_, ?_, ?_⟩ <;>
      first | with_reducible rfl | decide +kernel | rfl
  · refine ⟨(tState (tENG)), 1, { tPacket with type := tRED_UP }, ?_, ?_⟩ <;>
      first | with_reducible rfl | decide +kernel | rfl
  · refine ⟨(tState (tENG)), 1, { tPacket with type := tRED_DOWN }, ?_, ?_, ?_, ?_⟩ <;>
      first | with_reducible rfl | decide +kernel | rfl
  · refine ⟨(tState (tGRP)), 1, { tPacket with type := tCOL_GRANT, dest := 9, oper := [0, 0, 1] }, (tGRP.setCrec 1 9 (ColOp.fresh 0 0)), (ColOp.fresh 0 0), 0, [0], ?_, ?_, ?_, ?_, ?_, ?_, ?_⟩ <;>
      first | with_reducible rfl | decide +kernel | rfl
  · refine ⟨(tState (tGRPB)), 1, 9, 3, tGRPBE, tGRPBR, 0, 0, ?_, ?_, ?_, ?_, ?_, ?_, ?_⟩ <;>
      first | with_reducible rfl | decide +kernel | rfl
  · refine ⟨(tState (tENG)), 1, { tPacket with type := tBARRIER }, ?_, ?_, ?_⟩ <;>
      first | with_reducible rfl | decide +kernel | rfl
  · refine ⟨(tState (tENG)), 1, tBARDOWN, ?_, ?_, ?_⟩ <;>
      first | with_reducible rfl | decide +kernel | rfl
  · refine ⟨(tState (tGRP2)), 1, 4, { tPacket with type := tEPOCH_COUNT, dest := 9 }, tGRP2, tGRP2R, tGRP2B, ?_, ?_, ?_, ?_, ?_, ?_, ?_, ?_, ?_⟩ <;>
      first | with_reducible rfl | decide +kernel | rfl
  · refine ⟨(tState (tOPT)), 1, 9, 3, tOPTR, (tOPT.timeoutPacket 1 9 tOPTR), ?_, ?_, ?_, ?_, ?_, ?_⟩ <;>
      first | with_reducible rfl | decide +kernel | rfl
  · refine ⟨(tState (tOPT2)), 1, 9, 3, tOPTR2, (tOPT2.timeoutPacket 1 9 tOPTR2), ?_, ?_, ?_, ?_, ?_, ?_⟩ <;>
      first | with_reducible rfl | decide +kernel | rfl
  · refine ⟨(tState (tMEMT)), 1, 9, 3, 2, tMEMTM, ?_, ?_, ?_⟩ <;>
      first | with_reducible rfl | decide +kernel | rfl
  · refine ⟨(tState ((Dev.init.put LNK_STAT_STATE (onLane 4) UP))), 4, (mkCtl 2 0 0 0 byFENCE true false), ?_, ?_, ?_, ?_, ?_⟩ <;>
      first | with_reducible rfl | decide +kernel | rfl
  · refine ⟨(tState (Dev.init)), .mgmt, ?_, ?_⟩ <;>
      first | with_reducible rfl | decide +kernel | rfl
  · refine ⟨(tState (tFENC)), (5, false, 1), ?_, ?_, ?_⟩ <;>
      first | with_reducible rfl | decide +kernel | rfl

/-- Each clause of CompletionHost has its hypotheses met. -/
theorem witness_CompletionHost :
    (∃ (s : State) (q : Fin 4) (k : Fin 4) (f : Fin 256) (n : Fin 65536) (w : Word) (ok : Bool) (g : Nat) (x : Queue), s.pwr.off = 0 ∧ s.sys.formS = false ∧ s.toDev.funcOn q.val f.val = true ∧ ok = true ∧ s.toDev.globalOf q.val f.val k.val n.val = some g ∧ s.toDev.queue q.val k.val g = some x ∧ x.state = qACTIVE ∧ idx32 (bits w.toNat 0 32) x.ci ≤ x.size ∧ x.fill ≤ idx32 (bits w.toNat 0 32) x.ci ∧ k.val ≠ kRQ) ∧
    (∃ (s : State) (q : Fin 4) (k : Fin 4) (f : Fin 256) (n : Fin 65536) (w : Word) (ok : Bool) (g : Nat) (x : Queue), s.pwr.off = 0 ∧ s.sys.formS = false ∧ s.toDev.funcOn q.val f.val = true ∧ ok = true ∧ s.toDev.globalOf q.val f.val k.val n.val = some g ∧ s.toDev.queue q.val k.val g = some x ∧ idx32 (bits w.toNat 0 32) x.ci ≤ x.fill ∧ bits w.toNat 63 1 = 0) ∧
    (∃ (s : State), s.pwr.off = 0 ∧ s.sys.formS = false) ∧
    (∃ (s : State), s.pwr.off = 0 ∧ s.sys.formS = false) ∧
    (∃ (s : State), s.pwr.off = 0 ∧ s.sys.formS = false) ∧
    (∃ (s : State) (q : Fin 4) (k : Fin 4) (n : Fin 65536) (desc : BitVec 512) (shards : List (Word × Word)) (ok : Bool) (y : Queue) (e : Dev) (a : Dev × Nat × Op), s.pwr.off = 0 ∧ s.sys.formS = false ∧ s.toDev.meshHold q.val = false ∧ k.val = kWQ ∧ s.toDev.queue q.val k.val n.val = some y ∧ y.fill ≠ 0 ∧ y.blocked = false ∧ y.state = qACTIVE ∧ s.toDev.mayStart q.val n.val desc.toNat = true ∧ s.toDev.cqAdmits q.val y = true ∧ s.toDev.fetch q.val n.val y y.ci desc.toNat = (e, none) ∧ ok = true ∧ a = ((((e.cqAdmit q.val y).setQueue q.val kWQ n.val { y with ci := (y.ci + 1) % 2 ^ 32, issued := false, owes := y.owes + 1 }).event q.val blkQUE 0 0x02 0 1).newOp q.val kWQ n.val y desc.toNat (shardFrags desc.toNat shards)) ∧ a.1.descBad q.val kWQ desc.toNat (shardFrags desc.toNat shards) = false ∧ dTrig desc.toNat = false) ∧
    (∃ (s : State) (q : Fin 4) (n : Fin 65536) (x : Queue), s.pwr.off = 0 ∧ s.sys.formS = false ∧ s.toDev.queue q.val kEQ n.val = some x ∧ x.modBusy = true ∧ x.irqDue = true) ∧
    (∃ (s : State) (q : Fin 4) (f : Fin 256) (g : Nat), s.pwr.off = 0 ∧ s.sys.formS = false ∧ s.toDev.bit QUE_CMD_BUSY ⟨q.val, f.val⟩ = false ∧ s.toDev.globalOf q.val f.val (s.toDev.imgKind q.val f.val) (s.toDev.imgQnum q.val f.val) = some g ∧ s.toDev.queue q.val (s.toDev.imgKind q.val f.val) g = none ∧ s.toDev.createOk q.val f.val (s.toDev.imgKind q.val f.val) (s.toDev.imgQueue q.val f.val) = true) ∧
    (∃ (s : State) (q : Fin 4) (f : Fin 256) (g : Nat) (x : Queue), s.pwr.off = 0 ∧ s.sys.formS = false ∧ s.toDev.bit QUE_CMD_BUSY ⟨q.val, f.val⟩ = false ∧ s.toDev.localQueue q.val f.val (s.toDev.imgKind q.val f.val) (s.toDev.imgQnum q.val f.val) = some (g, x) ∧ s.toDev.imgKind q.val f.val ≤ kRQ ∧ x.state = qACTIVE) ∧
    (∃ (s : State) (q : Fin 4) (k : Fin 4) (g : Fin 65536) (x : Queue), s.pwr.off = 0 ∧ s.sys.formS = false ∧ s.toDev.queue q.val k.val g.val = some x ∧ x.cmd = 2 ∧ s.toDev.inProgress q.val k.val g.val = false) ∧
    (∃ (s : State) (q : Fin 4) (f : Fin 256) (g : Nat) (x : Queue), s.pwr.off = 0 ∧ s.sys.formS = false ∧ s.toDev.bit QUE_CMD_BUSY ⟨q.val, f.val⟩ = false ∧ s.toDev.localQueue q.val f.val (s.toDev.imgKind q.val f.val) (s.toDev.imgQnum q.val f.val) = some (g, x) ∧ s.toDev.imgKind q.val f.val ≤ kRQ ∧ x.state = qPAUSED) ∧
    (∃ (s : State) (q : Fin 4) (f : Fin 256) (g : Nat) (x : Queue), s.pwr.off = 0 ∧ s.sys.formS = false ∧ s.toDev.bit QUE_CMD_BUSY ⟨q.val, f.val⟩ = false ∧ s.toDev.localQueue q.val f.val (s.toDev.imgKind q.val f.val) (s.toDev.imgQnum q.val f.val) = some (g, x) ∧ s.toDev.imgKind q.val f.val ≤ kRQ ∧ x.state = qERROR ∧ s.toDev.flushed q.val (s.toDev.imgKind q.val f.val) g x = true) ∧
    (∃ (s : State) (q : Fin 4) (f : Fin 256) (g : Nat) (x : Queue), s.pwr.off = 0 ∧ s.sys.formS = false ∧ s.toDev.bit QUE_CMD_BUSY ⟨q.val, f.val⟩ = false ∧ s.toDev.localQueue q.val f.val (s.toDev.imgKind q.val f.val) (s.toDev.imgQnum q.val f.val) = some (g, x) ∧ s.toDev.imgKind q.val f.val = kWQ) ∧
    (∃ (s : State) (q : Fin 4) (f : Fin 256) (g : Nat) (x : Queue), s.pwr.off = 0 ∧ s.sys.formS = false ∧ s.toDev.bit QUE_CMD_BUSY ⟨q.val, f.val⟩ = false ∧ s.toDev.localQueue q.val f.val (s.toDev.imgKind q.val f.val) (s.toDev.imgQnum q.val f.val) = some (g, x)) ∧
    (∃ (s : State) (q : Fin 4) (k : Fin 4) (g : Fin 65536) (x : Queue), s.pwr.off = 0 ∧ s.sys.formS = false ∧ s.toDev.queue q.val k.val g.val = some x ∧ x.state = qDRAINING ∧ s.toDev.flushed q.val k.val g.val x = true) ∧
    (∃ (s : State) (q : Fin 4) (g : Fin 65536) (c : Queue), s.pwr.off = 0 ∧ s.sys.formS = false ∧ s.toDev.queue q.val kCQ g.val = some c ∧ c.stall = true) ∧
    (∃ (s : State) (q : Fin 4) (f : Fin 256), s.pwr.off = 0 ∧ s.sys.formS = false ∧ s.toDev.funcOn q.val f.val = true) ∧
    (∃ (s : State) (q : Fin 4) (f : Fin 256), s.pwr.off = 0 ∧ s.sys.formS = false ∧ s.toDev.funcOn q.val f.val = true) ∧
    (∃ (s : State) (hot : Bool), s.pwr.off = 0 ∧ s.sys.formS = false ∧ hot = false ∧ s.toDev.flt.resets = []) ∧
    (∃ (s : State), s.pwr.off = 0 ∧ s.sys.formS = false ∧ 5 ≤ s.toDev.boot.step ∧ s.toDev.boot.step ≠ 8 ∧ s.toDev.get CFG_BOOTSTATUS_BISQUE onMod = 0) ∧
    (∃ (s : State) (q : Fin 4) (f : Fin 256) (k : Fin 4) (v : Word), s.pwr.off = 0 ∧ s.sys.formS = false ∧ (List.range 256).any (fun g => g ≠ f.val && rangesMeet (HST_FNQ_BASE.of v) (HST_FNQ_COUNT.of v) (s.toDev.get HST_FNQ_BASE ⟨q.val, g * 4 + k.val⟩) (s.toDev.get HST_FNQ_COUNT ⟨q.val, g * 4 + k.val⟩)) = false ∧ HST_FNQ_BASE.of v + HST_FNQ_COUNT.of v ≤ (if (k.val : Nat) = kEQ then 1024 else 65536) ∧ (f.val % 64 = 0 ∨ HST_FNQ_COUNT.of v ≤ (if (k.val : Nat) = kEQ then 64 else 4096)) ∧ s.toDev.queuesIn q.val k.val (HST_FNQ_BASE.of v) (HST_FNQ_COUNT.of v) = false ∧ s.toDev.queuesIn q.val k.val (s.toDev.get HST_FNQ_BASE ⟨q.val, f.val * 4 + k.val⟩) (s.toDev.get HST_FNQ_COUNT ⟨q.val, f.val * 4 + k.val⟩) = false) ∧
    (∃ (s : State), s.pwr.off = 0 ∧ s.sys.formS = false ∧ 5 ≤ s.toDev.boot.step ∧ s.toDev.boot.step ≠ 8) ∧
    (∃ (s : State), s.pwr.off = 0 ∧ s.sys.formS = false) := by
  refine ⟨?_, ?_, ?_, ?_, ?_, ?_, ?_, ?_, ?_, ?_, ?_, ?_, ?_, ?_, ?_, ?_, ?_, ?_, ?_, ?_, ?_, ?_, ?_⟩
  · refine ⟨(tState ((Dev.init.setQueue 1 0 3 tQueue))), 1, 0, 0, 3, 2#64, true, 3, tQueue, ?_, ?_, ?_, ?_, ?_, ?_, ?_, ?_, ?_, ?_⟩ <;>
      first | with_reducible rfl | decide +kernel | rfl
  · refine ⟨(tState ((Dev.init.setQueue 1 2 3 { tQueue with pi := 2 }))), 1, 2, 0, 3, 1#64, true, 3, { tQueue with pi := 2 }, ?_, ?_, ?_, ?_, ?_, ?_, ?_, ?_⟩ <;>
      first | with_reducible rfl | decide +kernel | rfl
  · refine ⟨(tState (Dev.init)), ?_, ?_⟩ <;>
      first | with_reducible rfl | decide +kernel | rfl
  · refine ⟨(tState (Dev.init)), ?_, ?_⟩ <;>
      first | with_reducible rfl | decide +kernel | rfl
  · refine ⟨(tState (Dev.init)), ?_, ?_⟩ <;>
      first | with_reducible rfl | decide +kernel | rfl
  · refine ⟨(tState (tDST)), 1, 0, 3, 0#512, [], true, { tQueue with pi := 1 }, tDSTE, tDSTA, ?_, ?_, ?_, ?_, ?_, ?_, ?_, ?_, ?_, ?_, ?_, ?_, ?_, ?_, ?_⟩ <;>
      first | with_reducible rfl | decide +kernel | rfl
  · refine ⟨(tState ((Dev.init.setQueue 1 3 3 { tQueue with modBusy := true, irqDue := true }))), 1, 3, { tQueue with modBusy := true, irqDue := true }, ?_, ?_, ?_, ?_, ?_⟩ <;>
      first | with_reducible rfl | decide +kernel | rfl
  · refine ⟨(tState (tQCRE)), 1, 0, tQCREG, ?_, ?_, ?_, ?_, ?_, ?_⟩ <;>
      first | with_reducible rfl | decide +kernel | rfl
  · refine ⟨(tState ((Dev.init.setQueue 1 0 0 tQueue))), 1, 0, 0, tQueue, ?_, ?_, ?_, ?_, ?_, ?_⟩ <;>
      first | with_reducible rfl | decide +kernel | rfl
  · refine ⟨(tState ((Dev.init.setQueue 1 0 3 { tQueue with cmd := 2 }))), 1, 0, 3, { tQueue with cmd := 2 }, ?_, ?_, ?_, ?_, ?_⟩ <;>
      first | with_reducible rfl | decide +kernel | rfl
  · refine ⟨(tState ((Dev.init.setQueue 1 0 0 { tQueue with state := qPAUSED }))), 1, 0, 0, { tQueue with state := qPAUSED }, ?_, ?_, ?_, ?_, ?_, ?_⟩ <;>
      first | with_reducible rfl | decide +kernel | rfl
  · refine ⟨(tState ((Dev.init.setQueue 1 0 0 { tQueue with state := qERROR }))), 1, 0, 0, { tQueue with state := qERROR }, ?_, ?_, ?_, ?_, ?_, ?_, ?_⟩ <;>
      first | with_reducible rfl | decide +kernel | rfl
  · refine ⟨(tState ((Dev.init.setQueue 1 0 0 tQueue))), 1, 0, 0, tQueue, ?_, ?_, ?_, ?_, ?_⟩ <;>
      first | with_reducible rfl | decide +kernel | rfl
  · refine ⟨(tState ((Dev.init.setQueue 1 0 0 tQueue))), 1, 0, 0, tQueue, ?_, ?_, ?_, ?_⟩ <;>
      first | with_reducible rfl | decide +kernel | rfl
  · refine ⟨(tState ((Dev.init.setQueue 1 0 3 { tQueue with state := qDRAINING }))), 1, 0, 3, { tQueue with state := qDRAINING }, ?_, ?_, ?_, ?_, ?_⟩ <;>
      first | with_reducible rfl | decide +kernel | rfl
  · refine ⟨(tState ((Dev.init.setQueue 1 2 3 { tQueue with stall := true }))), 1, 3, { tQueue with stall := true }, ?_, ?_, ?_, ?_⟩ <;>
      first | with_reducible rfl | decide +kernel | rfl
  · refine ⟨(tState (Dev.init)), 1, 3, ?_, ?_, ?_⟩ <;>
      first | with_reducible rfl | decide +kernel | rfl
  · refine ⟨(tState (Dev.init)), 1, 3, ?_, ?_, ?_⟩ <;>
      first | with_reducible rfl | decide +kernel | rfl
  · refine ⟨(tState (Dev.init)), false, ?_, ?_, ?_, ?_⟩ <;>
      first | with_reducible rfl | decide +kernel | rfl
  · refine ⟨(tState (({ Dev.init with boot := { BootG.init with step := 7 } } : Dev))), ?_, ?_, ?_, ?_, ?_⟩ <;>
      first | with_reducible rfl | decide +kernel | rfl
  · refine ⟨(tState (Dev.init)), 1, 0, 0, 0#64, ?_, ?_, ?_, ?_, ?_, ?_, ?_⟩ <;>
      first | with_reducible rfl | decide +kernel | rfl
  · refine ⟨(tState (({ Dev.init with boot := { BootG.init with step := 7 } } : Dev))), ?_, ?_, ?_, ?_⟩ <;>
      first | with_reducible rfl | decide +kernel | rfl
  · refine ⟨(tState (Dev.init)), ?_, ?_⟩ <;>
      first | with_reducible rfl | decide +kernel | rfl

/-- Each clause of CompletionRemote has its hypotheses met. -/
theorem witness_CompletionRemote :
    (∃ (s : State) (q : Fin 4) (f : Fin 256) (v : Word) (e : Dev) (n : Nat), s.pwr.off = 0 ∧ s.sys.formS = false ∧ s.toDev.bit RMX_CMD_BUSY ⟨q.val, f.val⟩ = false ∧ (s.toDev.put RMX_CMD_INDEX ⟨q.val, f.val⟩ (RMX_CMD_INDEX.of v)).wiping q.val f.val = false ∧ (s.toDev.put RMX_CMD_INDEX ⟨q.val, f.val⟩ (RMX_CMD_INDEX.of v)).inRange q.val f.val 0 (RMX_CMD_INDEX.of v) = true ∧ e = s.toDev.put RMX_CMD_INDEX ⟨q.val, f.val⟩ (RMX_CMD_INDEX.of v) ∧ n = RMX_CMD_INDEX.of v ∧ e.conn (q.val * 262144 + n) = none ∧ bits (rmxWord e q.val f.val 0) 48 2 = 0 ∧ Tab.get e.hst.lastInc 0 (q.val * 262144 + n) < bits (rmxWord e q.val f.val 1) 0 32 ∧ 0 < bits (rmxWord e q.val f.val 1) 48 13 ∧ bits (rmxWord e q.val f.val 1) 48 13 ≤ 4096 ∧ bits (rmxWord e q.val f.val 0) 52 12 = 0 ∧ bits (rmxWord e q.val f.val 3) 28 4 = 0 ∧ bits (rmxWord e q.val f.val 0) 45 1 = 0) ∧
    (∃ (s : State) (q : Fin 4) (f : Fin 256) (v : Word) (e : Dev) (n : Nat) (x : Conn), s.pwr.off = 0 ∧ s.sys.formS = false ∧ s.toDev.bit RMX_CMD_BUSY ⟨q.val, f.val⟩ = false ∧ (s.toDev.put RMX_CMD_INDEX ⟨q.val, f.val⟩ (RMX_CMD_INDEX.of v)).wiping q.val f.val = false ∧ (s.toDev.put RMX_CMD_INDEX ⟨q.val, f.val⟩ (RMX_CMD_INDEX.of v)).inRange q.val f.val 0 (RMX_CMD_INDEX.of v) = true ∧ e = s.toDev.put RMX_CMD_INDEX ⟨q.val, f.val⟩ (RMX_CMD_INDEX.of v) ∧ n = RMX_CMD_INDEX.of v ∧ e.conn (q.val * 262144 + n) = some x ∧ x.func = f.val ∧ x.state = connOPEN) ∧
    (∃ (s : State) (c : Nat) (x : Conn), s.pwr.off = 0 ∧ s.sys.formS = false ∧ s.toDev.conn c = some x ∧ x.state = connCLOSING ∧ s.toDev.connBusy c x = false) ∧
    (∃ (s : State) (q : Fin 4) (f : Fin 256) (v : Word) (e : Dev) (n : Nat) (x : Conn), s.pwr.off = 0 ∧ s.sys.formS = false ∧ s.toDev.bit RMX_CMD_BUSY ⟨q.val, f.val⟩ = false ∧ (s.toDev.put RMX_CMD_INDEX ⟨q.val, f.val⟩ (RMX_CMD_INDEX.of v)).wiping q.val f.val = false ∧ (s.toDev.put RMX_CMD_INDEX ⟨q.val, f.val⟩ (RMX_CMD_INDEX.of v)).inRange q.val f.val 0 (RMX_CMD_INDEX.of v) = true ∧ e = s.toDev.put RMX_CMD_INDEX ⟨q.val, f.val⟩ (RMX_CMD_INDEX.of v) ∧ n = RMX_CMD_INDEX.of v ∧ e.conn (q.val * 262144 + n) = some x) ∧
    (∃ (s : State) (q : Fin 4) (f : Fin 256) (v : Word) (e : Dev) (n : Nat), s.pwr.off = 0 ∧ s.sys.formS = false ∧ s.toDev.bit RMX_CMD_BUSY ⟨q.val, f.val⟩ = false ∧ (s.toDev.put RMX_CMD_INDEX ⟨q.val, f.val⟩ (RMX_CMD_INDEX.of v)).wiping q.val f.val = false ∧ (s.toDev.put RMX_CMD_INDEX ⟨q.val, f.val⟩ (RMX_CMD_INDEX.of v)).inRange q.val f.val 1 (RMX_CMD_INDEX.of v) = true ∧ e = s.toDev.put RMX_CMD_INDEX ⟨q.val, f.val⟩ (RMX_CMD_INDEX.of v) ∧ n = RMX_CMD_INDEX.of v ∧ e.isRndv q.val f.val n = false ∧ (e.region q.val n).state = regFREE ∧ bits (rmxWord e q.val f.val 1) 0 48 ≠ 0 ∧ bits (rmxWord e q.val f.val 2) 59 1 = 0 ∧ bits (rmxWord e q.val f.val 2) 18 17 ≤ 65536 ∧ e.spaceOk q.val f.val (bits (rmxWord e q.val f.val 1) 48 16) = true ∧ e.get RMX_FNRES_BASE ⟨q.val, f.val * 3 + 2⟩ ≤ bits (rmxWord e q.val f.val 2) 0 18 ∧ bits (rmxWord e q.val f.val 2) 0 18 + bits (rmxWord e q.val f.val 2) 18 17 ≤ e.get RMX_FNRES_BASE ⟨q.val, f.val * 3 + 2⟩ + e.get RMX_FNRES_COUNT ⟨q.val, f.val * 3 + 2⟩) ∧
    (∃ (s : State) (q : Fin 4) (f : Fin 256) (v : Word) (e : Dev) (n : Nat), s.pwr.off = 0 ∧ s.sys.formS = false ∧ s.toDev.bit RMX_CMD_BUSY ⟨q.val, f.val⟩ = false ∧ (s.toDev.put RMX_CMD_INDEX ⟨q.val, f.val⟩ (RMX_CMD_INDEX.of v)).wiping q.val f.val = false ∧ (s.toDev.put RMX_CMD_INDEX ⟨q.val, f.val⟩ (RMX_CMD_INDEX.of v)).inRange q.val f.val 1 (RMX_CMD_INDEX.of v) = true ∧ e = s.toDev.put RMX_CMD_INDEX ⟨q.val, f.val⟩ (RMX_CMD_INDEX.of v) ∧ n = RMX_CMD_INDEX.of v ∧ e.isRndv q.val f.val n = false ∧ (e.region q.val n).state = regVALID) ∧
    (∃ (s : State) (q : Fin 4) (n : Fin 262144) (e : Nat), s.pwr.off = 0 ∧ s.sys.formS = false ∧ (s.toDev.region q.val n.val).state = regREVOKING ∧ (s.toDev.region q.val n.val).inflight = 0 ∧ (s.toDev.region q.val n.val).eqn.bind (fun e => s.toDev.globalOf q.val (s.toDev.region q.val n.val).owner kEQ e) = some e) ∧
    (∃ (s : State) (q : Fin 4) (f : Fin 256) (v : Word) (e : Dev) (n : Nat), s.pwr.off = 0 ∧ s.sys.formS = false ∧ s.toDev.bit RMX_CMD_BUSY ⟨q.val, f.val⟩ = false ∧ (s.toDev.put RMX_CMD_INDEX ⟨q.val, f.val⟩ (RMX_CMD_INDEX.of v)).wiping q.val f.val = false ∧ (s.toDev.put RMX_CMD_INDEX ⟨q.val, f.val⟩ (RMX_CMD_INDEX.of v)).inRange q.val f.val 1 (RMX_CMD_INDEX.of v) = true ∧ e = s.toDev.put RMX_CMD_INDEX ⟨q.val, f.val⟩ (RMX_CMD_INDEX.of v) ∧ n = RMX_CMD_INDEX.of v ∧ e.isRndv q.val f.val n = false) ∧
    (∃ (s : State) (q : Fin 4) (k : Machine.Packet) (e : Dev) (x : Conn) (t : Dev) (parts : List (Nat × Nat)) (ents : List (Nat × Nat × Nat)), s.pwr.off = 0 ∧ s.sys.formS = false ∧ s.toDev.meshHold q.val = false ∧ e = s.toDev.takeDlv q.val 512 k ∧ e.accepts q.val k x ∧ k.type = tPUT ∧ e.regionOk q.val k (kRoff k) (kData k).length 1 = true ∧ e.translateRange q.val (e.regionAccess q.val k (kRoff k) (kData k).length 1) ((kData k).length / 4096 + 2) = (t, ⟨parts, ents, none⟩)) ∧
    (∃ (s : State) (q : Fin 4) (k : Machine.Packet) (e : Dev) (x : Conn) (t : Dev) (parts : List (Nat × Nat)) (ents : List (Nat × Nat × Nat)), s.pwr.off = 0 ∧ s.sys.formS = false ∧ s.toDev.meshHold q.val = false ∧ e = s.toDev.takeDlv q.val 512 k ∧ e.accepts q.val k x ∧ k.type = tGET_REQ ∧ e.regionOk q.val k (kRoff k) (kGetLen k) 0 = true ∧ (e.region q.val (kRkey k % 262144)).counter = false ∧ x.serving.contains k.psn = false ∧ e.translateRange q.val (e.regionAccess q.val k (kRoff k) (kGetLen k) 0) 3 = (t, ⟨parts, ents, none⟩)) ∧
    (∃ (s : State) (q : Fin 4) (k : Machine.Packet) (e : Dev) (x : Conn), s.pwr.off = 0 ∧ s.sys.formS = false ∧ s.toDev.meshHold q.val = false ∧ e = s.toDev.takeDlv q.val 512 k ∧ e.accepts q.val k x ∧ k.type = tATOMIC ∧ e.regionOk q.val k (8 * kWoff k) 8 2 = true ∧ kAop k ≠ 3 ∧ (e.region q.val (kRkey k % 262144)).counter = true ∧ x.slotFree (kSlot k) = true) ∧
    (∃ (s : State) (q : Fin 4) (k : Machine.Packet) (e : Dev) (x : Conn) (t : Dev) (parts : List (Nat × Nat)) (ents : List (Nat × Nat × Nat)), s.pwr.off = 0 ∧ s.sys.formS = false ∧ s.toDev.meshHold q.val = false ∧ e = s.toDev.takeDlv q.val 512 k ∧ e.accepts q.val k x ∧ k.type = tPUT_CTR ∧ e.regionOk q.val k (kRoff k) (kData k).length 1 = true ∧ x.slotFree (kSlot k) = true ∧ e.translateRange q.val (e.regionAccess q.val k (kRoff k) (kData k).length 1) ((kData k).length / 4096 + 2) = (t, ⟨parts, ents, none⟩)) ∧
    (∃ (s : State) (tag : Nat) (ok : Bool) (q : Nat) (l : Nat) (c : Nat) (n : Nat) (k : Machine.Packet) (es : List (Nat × Nat × Nat)) (e : Dev) (x : Conn), s.pwr.off = 0 ∧ s.sys.formS = false ∧ Tab.find s.toDev.hst.reads tag = some ⟨q, l, .serve c k n, es⟩ ∧ k.type = tGET_REQ ∧ ok = true ∧ e = (s.toDev.takeRead tag).served q c k.psn n ∧ e.conn c = some x ∧ x.state = connOPEN) ∧
    (∃ (s : State) (tag : Nat) (ok : Bool) (q : Nat) (l : Nat) (c : Nat) (n : Nat) (k : Machine.Packet) (es : List (Nat × Nat × Nat)) (e : Dev) (x : Conn), s.pwr.off = 0 ∧ s.sys.formS = false ∧ Tab.find s.toDev.hst.reads tag = some ⟨q, l, .serve c k n, es⟩ ∧ k.type = tATOMIC ∧ ok = true ∧ e = (s.toDev.takeRead tag).served q c k.psn n ∧ e.conn c = some x ∧ x.state = connOPEN) ∧
    (∃ (s : State) (c : Nat) (x : Conn), s.pwr.off = 0 ∧ s.sys.formS = false ∧ s.toDev.conn c = some x ∧ x.ackN ≠ 0) ∧
    (∃ (s : State) (q : Fin 4) (k : Machine.Packet) (e : Dev) (x : Conn) (r : Req), s.pwr.off = 0 ∧ s.sys.formS = false ∧ e = s.toDev.takeDlv q.val 512 k ∧ e.answers q.val k x r ∧ r.pkt.type ≠ tATOMIC) ∧
    (∃ (s : State) (q : Fin 4) (k : Machine.Packet) (e : Dev) (x : Conn) (r : Req), s.pwr.off = 0 ∧ s.sys.formS = false ∧ e = s.toDev.takeDlv q.val 512 k ∧ e.answers q.val k x r ∧ ofBytes ((k.oper.drop 4).take 1) = ST_NOT_READY ∧ k.opflags % 8 ≠ 7 ∧ r.tryN < 7) ∧
    (∃ (s : State) (q : Fin 4) (k : Machine.Packet) (e : Dev) (x : Conn) (r : Req), s.pwr.off = 0 ∧ s.sys.formS = false ∧ s.toDev.meshHold q.val = false ∧ e = s.toDev.takeDlv q.val 512 k ∧ e.answers q.val k x r ∧ k.control = true) ∧
    (∃ (s : State) (q : Fin 4) (k : Machine.Packet) (e : Dev) (x : Conn) (r : Req), s.pwr.off = 0 ∧ s.sys.formS = false ∧ e = s.toDev.takeDlv q.val 512 k ∧ e.answers q.val k x r) ∧
    (∃ (s : State) (c : Nat) (psn : Nat) (x : Conn) (r : Req), s.pwr.off = 0 ∧ s.sys.formS = false ∧ s.toDev.conn c = some x ∧ x.req psn = some r ∧ r.hint = false ∧ r.rereading = false ∧ r.timed < s.toDev.retryMax (connDie c) x.profile ∧ r.tryN < 7) ∧
    (∃ (s : State) (c : Nat) (psn : Nat) (r : Req), s.pwr.off = 0 ∧ s.sys.formS = false ∧ (s.toDev.conn c).bind (fun x => x.req psn) = some r ∧ r.hint = true ∧ r.rereading = false) ∧
    (∃ (s : State) (c : Nat) (x : Conn) (y : Conn) (r : Req) (e : Dev), s.pwr.off = 0 ∧ s.sys.formS = false ∧ s.toDev.conn c = some x ∧ x.state = connOPEN ∧ s.toDev.nextReq c x = some r ∧ x.nextPsn < 2 ^ 32 ∧ r.pkt.type = tPUT ∧ e = ((s.toDev.setConn c { x with nextPsn := x.nextPsn + 1, sendQ := dropFirst r x.sendQ, reqs := x.reqs ++ [{ r with psn := x.nextPsn, pkt := { r.pkt with psn := x.nextPsn }, slot := 4 }] }).chargeConn c r.cost).event (connDie c) blkRMX 0 0x01 0 1 ∧ e.conn c = some y) ∧
    (∃ (s : State) (tag : Nat) (ok : Bool) (rd : Rd) (c : Nat) (r : Req), s.pwr.off = 0 ∧ s.sys.formS = false ∧ Tab.find s.toDev.hst.reads tag = some rd ∧ rd.use = .piece c r ∧ ok = true) ∧
    (∃ (s : State) (q : Fin 4) (f : Fin 256) (kind : Fin 3) (v : Word), s.pwr.off = 0 ∧ s.sys.formS = false ∧ (List.range 256).any (fun g => g ≠ f.val && rangesMeet (RMX_FNRES_BASE.of v) (RMX_FNRES_COUNT.of v) (s.toDev.get RMX_FNRES_BASE ⟨q.val, g * 3 + kind.val⟩) (s.toDev.get RMX_FNRES_COUNT ⟨q.val, g * 3 + kind.val⟩)) = false ∧ RMX_FNRES_BASE.of v + RMX_FNRES_COUNT.of v ≤ 262144 ∧ s.toDev.resIn q.val kind.val (RMX_FNRES_BASE.of v) (RMX_FNRES_COUNT.of v) = false ∧ s.toDev.resIn q.val kind.val (s.toDev.get RMX_FNRES_BASE ⟨q.val, f.val * 3 + kind.val⟩) (s.toDev.get RMX_FNRES_COUNT ⟨q.val, f.val * 3 + kind.val⟩) = false) := by
  refine ⟨?_, ?_, ?_, ?_, ?_, ?_, ?_, ?_, ?_, ?_, ?_, ?_, ?_, ?_, ?_, ?_, ?_, ?_, ?_, ?_, ?_, ?_, ?_, ?_⟩
  · refine ⟨(tState ((((Dev.init.wr .RMX_CMDBUF ⟨1, 1⟩ (1#64 ||| (64#64 <<< 48))))))), 1, 0, 0#64, ((((Dev.init.wr .RMX_CMDBUF ⟨1, 1⟩ (1#64 ||| (64#64 <<< 48))))).put RMX_CMD_INDEX ⟨1, 0⟩ 0), 0, ?_, ?_, ?_, ?_, ?_, ?_, ?_, ?_, ?_, ?_, ?_, ?_, ?_, ?_, ?_⟩ <;>
      first | with_reducible rfl | decide +kernel | rfl
  · refine ⟨(tState ((Dev.init.setConn 262144 tConn))), 1, 0, 0#64, ((Dev.init.setConn 262144 tConn).put RMX_CMD_INDEX ⟨1, 0⟩ 0), 0, tConn, ?_, ?_, ?_, ?_, ?_, ?_, ?_, ?_, ?_, ?_⟩ <;>
      first | with_reducible rfl | decide +kernel | rfl
  · refine ⟨(tState ((Dev.init.setConn 262144 { tConn with state := connCLOSING }))), 262144, { tConn with state := connCLOSING }, ?_, ?_, ?_, ?_, ?_⟩ <;>
      first | with_reducible rfl | decide +kernel | rfl
  · refine ⟨(tState ((Dev.init.setConn 262144 tConn))), 1, 0, 0#64, ((Dev.init.setConn 262144 tConn).put RMX_CMD_INDEX ⟨1, 0⟩ 0), 0, tConn, ?_, ?_, ?_, ?_, ?_, ?_, ?_, ?_⟩ <;>
      first | with_reducible rfl | decide +kernel | rfl
  · refine ⟨(tState ((Dev.init.wr .RMX_CMDBUF ⟨1, 1⟩ 4096#64))), 1, 0, 0#64, ((Dev.init.wr .RMX_CMDBUF ⟨1, 1⟩ 4096#64).put RMX_CMD_INDEX ⟨1, 0⟩ 0), 0, ?_, ?_, ?_, ?_, ?_, ?_, ?_, ?_, ?_, ?_, ?_, ?_, ?_, ?_, ?_⟩ <;>
      first | with_reducible rfl | decide +kernel | rfl
  · refine ⟨(tState ((Dev.init.setRegion 1 0 { Region.empty with state := regVALID }))), 1, 0, 0#64, ((Dev.init.setRegion 1 0 { Region.empty with state := regVALID }).put RMX_CMD_INDEX ⟨1, 0⟩ 0), 0, ?_, ?_, ?_, ?_, ?_, ?_, ?_, ?_, ?_⟩ <;>
      first | with_reducible rfl | decide +kernel | rfl
  · refine ⟨(tState ((Dev.init.setRegion 1 5 { Region.empty with state := regREVOKING, eqn := some 0 }))), 1, 5, 0, ?_, ?_, ?_, ?_, ?_⟩ <;>
      first | with_reducible rfl | decide +kernel | rfl
  · refine ⟨(tState (Dev.init)), 1, 0, 0#64, (Dev.init.put RMX_CMD_INDEX ⟨1, 0⟩ 0), 0, ?_, ?_, ?_, ?_, ?_, ?_, ?_, ?_⟩ <;>
      first | with_reducible rfl | decide +kernel | rfl
  · refine ⟨(tState (tRG)), 1, tKPUT, tRG, tConn, tRGT, tRGP, tRGE, ?_, ?_, ?_, ?_, ?_, ?_, ?_, ?_⟩ <;>
      first | with_reducible rfl | decide +kernel | rfl
  · refine ⟨(tState (tRG)), 1, tKGET, tRG, tConn, tRGT2, tRGP2, tRGE2, ?_, ?_, ?_, ?_, ?_, ?_, ?_, ?_, ?_, ?_⟩ <;>
      first | with_reducible rfl | decide +kernel | rfl
  · refine ⟨(tState (tRGC)), 1, tKATO, tRGC, tConn, ?_, ?_, ?_, ?_, ?_, ?_, ?_, ?_, ?_, ?_⟩ <;>
      first | with_reducible rfl | decide +kernel | rfl
  · refine ⟨(tState (tRG)), 1, tKPCT, tRG, tConn, tRGT3, tRGP3, tRGE3, ?_, ?_, ?_, ?_, ?_, ?_, ?_, ?_, ?_⟩ <;>
      first | with_reducible rfl | decide +kernel | rfl
  · refine ⟨(tState (tRD)), 9, true, 1, 8, 262144, 0, tKGET, [], tRDE, tRDX, ?_, ?_, ?_, ?_, ?_, ?_, ?_, ?_⟩ <;>
      first | with_reducible rfl | decide +kernel | rfl
  · refine ⟨(tState (tRDA)), 9, true, 1, 8, 262144, 0, tKATO, [], tRDAE, tRDAX, ?_, ?_, ?_, ?_, ?_, ?_, ?_, ?_⟩ <;>
      first | with_reducible rfl | decide +kernel | rfl
  · refine ⟨(tState ((Dev.init.setConn 262144 { tConn with ackN := 2 }))), 262144, { tConn with ackN := 2 }, ?_, ?_, ?_, ?_⟩ <;>
      first | with_reducible rfl | decide +kernel | rfl
  · refine ⟨(tState (tAN)), 1, { tPacket with dconn := 262144, control := true }, tAN, tANX, tReq, ?_, ?_, ?_, ?_, ?_⟩ <;>
      first | with_reducible rfl | decide +kernel | rfl
  · refine ⟨(tState (tAN)), 1, tKNACK, tAN, tANX, tReq, ?_, ?_, ?_, ?_, ?_, ?_, ?_⟩ <;>
      first | with_reducible rfl | decide +kernel | rfl
  · refine ⟨(tState (tAN)), 1, { tPacket with dconn := 262144, control := true }, tAN, tANX, tReq, ?_, ?_, ?_, ?_, ?_, ?_⟩ <;>
      first | with_reducible rfl | decide +kernel | rfl
  · refine ⟨(tState (tAN)), 1, { tPacket with dconn := 262144, control := true }, tAN, tANX, tReq, ?_, ?_, ?_, ?_⟩ <;>
      first | with_reducible rfl | decide +kernel | rfl
  · refine ⟨(tState (tAN)), 262144, 0, tANX, tReq, ?_, ?_, ?_, ?_, ?_, ?_, ?_, ?_⟩ <;>
      first | with_reducible rfl | decide +kernel | rfl
  · refine ⟨(tState (tANH)), 262144, 0, { tReq with hint := true }, ?_, ?_, ?_, ?_, ?_⟩ <;>
      first | with_reducible rfl | decide +kernel | rfl
  · refine ⟨(tState (tPAC)), 262144, tPACX, tPACY, tPACR, tPACE, ?_, ?_, ?_, ?_, ?_, ?_, ?_, ?_, ?_⟩ <;>
      first | with_reducible rfl | decide +kernel | rfl
  · refine ⟨(tState (tINI)), 9, true, ⟨1, 8, .piece 262144 tReq, []⟩, 262144, tReq, ?_, ?_, ?_, ?_, ?_⟩ <;>
      first | with_reducible rfl | decide +kernel | rfl
  · refine ⟨(tState (Dev.init)), 1, 0, 1, 0#64, ?_, ?_, ?_, ?_, ?_, ?_⟩ <;>
      first | with_reducible rfl | decide +kernel | rfl

/-- Each clause of CompletionMatch has its hypotheses met. -/
theorem witness_CompletionMatch :
    (∃ (s : State) (q : Fin 4) (k : Machine.Packet) (e : Dev) (x : Conn), s.pwr.off = 0 ∧ s.sys.formS = false ∧ s.toDev.meshHold q.val = false ∧ e = s.toDev.takeDlv q.val 512 k ∧ e.accepts q.val k x ∧ k.type = tSEND ∧ k.control = true ∧ kFin k = false ∧ e.bit MTC_CTRL_EN (onDie q.val) = true ∧ (e.msgAt k.dconn (kMsn k)).filter (fun m => m.2.bound ≠ 0) = none ∧ kMsn k = x.nextMsn % 65536) ∧
    (∃ (s : State) (q : Fin 4) (k : Machine.Packet) (e : Dev) (x : Conn) (i : Nat) (m : Msg), s.pwr.off = 0 ∧ s.sys.formS = false ∧ s.toDev.meshHold q.val = false ∧ e = s.toDev.takeDlv q.val 512 k ∧ e.accepts q.val k x ∧ k.type = tSEND ∧ k.control = false ∧ kFin k = false ∧ (e.msgAt k.dconn (kMsn k)).filter (fun m => m.2.bound ≠ 0 || m.2.kind = 1) = some (i, m)) ∧
    (∃ (s : State) (q : Fin 4) (k : Machine.Packet) (e : Dev) (x : Conn), s.pwr.off = 0 ∧ s.sys.formS = false ∧ s.toDev.meshHold q.val = false ∧ e = s.toDev.takeDlv q.val 512 k ∧ e.accepts q.val k x ∧ k.type = tRNDV_RTS ∧ k.control = true ∧ kFin k = false ∧ e.bit MTC_CTRL_EN (onDie q.val) = true ∧ (e.msgAt k.dconn (kMsn k)).filter (fun m => m.2.bound ≠ 0) = none ∧ kMsn k = x.nextMsn % 65536) ∧
    (∃ (s : State) (q : Fin 4) (k : Machine.Packet) (e : Dev) (x : Conn), s.pwr.off = 0 ∧ s.sys.formS = false ∧ s.toDev.meshHold q.val = false ∧ e = s.toDev.takeDlv q.val 512 k ∧ e.accepts q.val k x ∧ k.type = tRNDV_RTS ∧ k.control = true ∧ kFin k = true ∧ e.hst.ops.find? (fun z => z.2.die = q.val && z.2.conn = k.dconn && z.2.rndv = kRndvKey k % 262144 + 1) = none) ∧
    (∃ (s : State) (q : Fin 4) (k : Machine.Packet) (e : Dev) (x : Conn) (o : Nat × Op), s.pwr.off = 0 ∧ s.sys.formS = false ∧ s.toDev.meshHold q.val = false ∧ e = s.toDev.takeDlv q.val 512 k ∧ e.accepts q.val k x ∧ k.type = tRNDV_RTS ∧ k.control = true ∧ kFin k = true ∧ e.hst.ops.find? (fun z => z.2.die = q.val && z.2.conn = k.dconn && z.2.rndv = kRndvKey k % 262144 + 1) = some o ∧ (e.region q.val (kRndvKey k % 262144)).gen = kRndvKey k / 262144) ∧
    (∃ (s : State) (tag : Nat) (q : Nat) (n : Nat) (o : Nat) (i : Nat) (es : List (Nat × Nat × Nat)), s.pwr.off = 0 ∧ s.sys.formS = false ∧ Tab.find s.toDev.hst.reads tag = some ⟨q, n, .copy o i, es⟩) ∧
    (∃ (s : State) (q : Fin 4) (f : Fin 256) (i : Nat) (o : Op) (n : Nat), s.pwr.off = 0 ∧ s.sys.formS = false ∧ s.toDev.hst.ops.find? (fun e => e.2.die = q.val && e.2.func = f.val && s.toDev.sendWaits e.2) = some (i, o) ∧ s.toDev.byRendezvous o = true ∧ s.toDev.freeRndv o.die o.func = some n) ∧
    (∃ (s : State) (q : Fin 4) (f : Fin 256) (e : Nat × Msg), s.pwr.off = 0 ∧ s.sys.formS = false ∧ s.toDev.wiping q.val f.val = false ∧ (s.toDev.msgsOf q.val).filter (fun e => e.2.func = f.val && e.2.bound = 0 && e.2.kind ≠ 2) = [e] ∧ e.2.kind = 0) ∧
    (∃ (s : State) (q : Fin 4) (f : Fin 256) (v : Word), s.pwr.off = 0 ∧ s.sys.formS = false ∧ (List.range 256).any (fun g => g ≠ f.val && rangesMeet (MTC_FNRNDV_BASE.of v) (MTC_FNRNDV_COUNT.of v) (s.toDev.get MTC_FNRNDV_BASE ⟨q.val, g⟩) (s.toDev.get MTC_FNRNDV_COUNT ⟨q.val, g⟩)) = false ∧ MTC_FNRNDV_COUNT.of v ≤ 4096 ∧ (MTC_FNRNDV_COUNT.of v = 0 ∨ (s.toDev.get RMX_FNRES_BASE ⟨q.val, f.val * 3 + 1⟩ ≤ MTC_FNRNDV_BASE.of v ∧ MTC_FNRNDV_BASE.of v + MTC_FNRNDV_COUNT.of v ≤ s.toDev.get RMX_FNRES_BASE ⟨q.val, f.val * 3 + 1⟩ + s.toDev.get RMX_FNRES_COUNT ⟨q.val, f.val * 3 + 1⟩)) ∧ s.toDev.resIn q.val 1 (MTC_FNRNDV_BASE.of v) (MTC_FNRNDV_COUNT.of v) = false ∧ s.toDev.resIn q.val 1 (s.toDev.get MTC_FNRNDV_BASE ⟨q.val, f.val⟩) (s.toDev.get MTC_FNRNDV_COUNT ⟨q.val, f.val⟩) = false) := by
  refine ⟨?_, ?_, ?_, ?_, ?_, ?_, ?_, ?_, ?_⟩
  · refine ⟨(tState (tMT)), 1, tKSND, tMT, tConn, ?_, ?_, ?_, ?_, ?_, ?_, ?_, ?_, ?_, ?_, ?_⟩ <;>
      first | with_reducible rfl | decide +kernel | rfl
  · refine ⟨(tState (tMTD)), 1, tKSDT, tMTD, tConn, 1, tMTDM, ?_, ?_, ?_, ?_, ?_, ?_, ?_, ?_, ?_⟩ <;>
      first | with_reducible rfl | decide +kernel | rfl
  · refine ⟨(tState (tMT)), 1, tKRTS, tMT, tConn, ?_, ?_, ?_, ?_, ?_, ?_, ?_, ?_, ?_, ?_, ?_⟩ <;>
      first | with_reducible rfl | decide +kernel | rfl
  · refine ⟨(tState (tMT)), 1, tKFINP, tMT, tConn, ?_, ?_, ?_, ?_, ?_, ?_, ?_, ?_, ?_⟩ <;>
      first | with_reducible rfl | decide +kernel | rfl
  · refine ⟨(tState (tMTF)), 1, tKFINP, tMTF, tConn, tMTFO, ?_, ?_, ?_, ?_, ?_, ?_, ?_, ?_, ?_, ?_⟩ <;>
      first | with_reducible rfl | decide +kernel | rfl
  · refine ⟨(tState (tUX)), 9, 1, 8, 1, 1, [], ?_, ?_, ?_⟩ <;>
      first | with_reducible rfl | decide +kernel | rfl
  · refine ⟨(tState (tRV)), 1, 0, 1, tRVO, tRVN, ?_, ?_, ?_, ?_, ?_⟩ <;>
      first | with_reducible rfl | decide +kernel | rfl
  · refine ⟨(tState (tPG)), 1, 0, (1, tMsg), ?_, ?_, ?_, ?_, ?_⟩ <;>
      first | with_reducible rfl | decide +kernel | rfl
  · refine ⟨(tState (Dev.init)), 1, 0, 0#64, ?_, ?_, ?_, ?_, ?_, ?_, ?_⟩ <;>
      first | with_reducible rfl | decide +kernel | rfl

/-- Each clause of CompletionTranslation has its hypotheses met. -/
theorem witness_CompletionTranslation :
    (∃ (s : State) (q : Fin 4) (slot : Fin 256) (t : Trap) (e : XEnt), s.pwr.off = 0 ∧ s.sys.formS = false ∧ s.toDev.meshHold q.val = false ∧ s.toDev.trap q.val slot.val = some t ∧ t.cause = 0 ∧ t.hintWait = false ∧ Tab.find s.toDev.xlt.walks (q.val * 256 + slot.val) = none ∧ s.toDev.pageFailed q.val t.acc.space t.acc.addr = false ∧ (s.toDev.backing q.val).find? (fun e => e.covers t.acc.space t.acc.addr) = some e) ∧
    (∃ (s : State) (q : Fin 4) (slot : Fin 256) (t : Trap) (e : XEnt), s.pwr.off = 0 ∧ s.sys.formS = false ∧ s.toDev.meshHold q.val = false ∧ s.toDev.trap q.val slot.val = some t ∧ t.cause ≠ 0 ∧ t.hintWait = false ∧ s.toDev.pageFailed q.val t.acc.space t.acc.addr = false ∧ (s.toDev.l2 q.val).find? (fun e => e.covers t.acc.space t.acc.addr) = some e ∧ e.walked = false) ∧
    (∃ (s : State) (tag : Nat) (ok : Bool) (x : Word) (q : Nat) (l : Nat) (slot : Nat) (level : Nat) (a : Nat) (es : List (Nat × Nat × Nat)) (e : Dev) (t : Trap), s.pwr.off = 0 ∧ s.sys.formS = false ∧ Tab.find s.toDev.hst.reads tag = some ⟨q, l, .walk slot, es⟩ ∧ e = s.toDev.takeRead tag ∧ Tab.find e.xlt.walks (q * 256 + slot) = some (level, a) ∧ e.trap q slot = some t ∧ ok = true ∧ bits x.toNat 0 1 = 0) ∧
    (∃ (s : State) (q : Fin 4) (id : Fin 65536) (slot : Nat) (t : Trap) (e : Dev) (a : Nat) (b : XEnt), s.pwr.off = 0 ∧ s.sys.formS = false ∧ s.toDev.trapOf q.val id.val = some (slot, t) ∧ t.hintWait = false ∧ s.toDev.trap q.val slot = some t ∧ s.toDev.translate q.val t.acc = (e, .ok a b)) ∧
    (∃ (s : State) (q : Fin 4) (id : Fin 65536) (slot : Nat) (k : Nat) (n : Nat) (t : Trap), s.pwr.off = 0 ∧ s.sys.formS = false ∧ s.toDev.trapOf q.val id.val = some (slot, t) ∧ t.hintWait = false ∧ s.toDev.trap q.val slot = some t ∧ t.cont = .queue k n) ∧
    (∃ (s : State) (q : Fin 4) (id : Fin 65536) (slot : Nat) (t : Trap), s.pwr.off = 0 ∧ s.sys.formS = false ∧ s.toDev.trapOf q.val id.val = some (slot, t) ∧ t.hintWait = false ∧ s.toDev.trap q.val slot = some t) ∧
    (∃ (s : State) (q : Fin 4) (id : Fin 65536) (slot : Nat) (t : Trap), s.pwr.off = 0 ∧ s.sys.formS = false ∧ s.toDev.trapOf q.val id.val = some (slot, t) ∧ t.hintWait = false ∧ s.toDev.trap q.val slot = some t) ∧
    (∃ (s : State) (q : Fin 4) (slot : Fin 256) (t : Trap) (k : Machine.Packet) (n : Nat), s.pwr.off = 0 ∧ s.sys.formS = false ∧ s.toDev.trap q.val slot.val = some t ∧ t.acc.side = 1 ∧ t.cont = .target k n) ∧
    (∃ (s : State) (q : Fin 4) (slot : Fin 256) (t : Trap), s.pwr.off = 0 ∧ s.sys.formS = false ∧ s.toDev.trap q.val slot.val = some t ∧ t.hintWait = true) ∧
    (∃ (s : State) (q : Fin 4) (w : Nat → Nat), s.pwr.off = 0 ∧ s.sys.formS = false ∧ w = loadWord s.toDev q.val ∧ entOk (w 0) (w 1) (w 2) (w 3) = true ∧ (entOf (w 0) (w 1) (w 2) (w 3)).space < 4096 ∧ s.toDev.mayLock q.val (entOf (w 0) (w 1) (w 2) (w 3)) = true) ∧
    (∃ (s : State), s.pwr.off = 0 ∧ s.sys.formS = false) ∧
    (∃ (s : State) (q : Fin 4) (f : Fin 256) (w : Nat → Nat) (e : XEnt), s.pwr.off = 0 ∧ s.sys.formS = false ∧ s.toDev.bit XLT_CMD_BUSY ⟨q.val, f.val⟩ = false ∧ s.toDev.wiping q.val f.val = false ∧ w = xltWord s.toDev q.val f.val ∧ entOk (w 0) (w 1) (w 2) (w 3) = true ∧ e = entOf (w 0) (w 1) (w 2) (w 3) ∧ s.toDev.ownsSpace q.val f.val e.space = true ∧ (s.toDev.backing q.val).any (fun x => x.overlaps e.space e.va (e.va + 2 ^ e.size)) = false ∧ (s.toDev.backing q.val).length < 1048576) ∧
    (∃ (s : State) (q : Fin 4) (f : Fin 256), s.pwr.off = 0 ∧ s.sys.formS = false ∧ s.toDev.bit XLT_CMD_BUSY ⟨q.val, f.val⟩ = false ∧ s.toDev.wiping q.val f.val = false ∧ s.toDev.ownsSpace q.val f.val (bits (xltWord s.toDev q.val f.val 2) 0 16) = true) ∧
    (∃ (s : State) (q : Fin 4) (f : Fin 256), s.pwr.off = 0 ∧ s.sys.formS = false ∧ s.toDev.bit XLT_CMD_BUSY ⟨q.val, f.val⟩ = false ∧ s.toDev.wiping q.val f.val = false ∧ s.toDev.ownsSpace q.val f.val (bits (xltWord s.toDev q.val f.val 2) 0 16) = true ∧ xltWord s.toDev q.val f.val 1 ≠ 0 ∧ xltWord s.toDev q.val f.val 1 ≤ 2 ^ 57) ∧
    (∃ (s : State) (q : Fin 4) (f : Fin 256), s.pwr.off = 0 ∧ s.sys.formS = false ∧ s.toDev.bit XLT_CMD_BUSY ⟨q.val, f.val⟩ = false ∧ s.toDev.wiping q.val f.val = false ∧ s.toDev.ownsSpace q.val f.val (bits (xltWord s.toDev q.val f.val 2) 0 16) = true) ∧
    (∃ (s : State) (q : Fin 4) (f : Fin 256) (v : Inval), s.pwr.off = 0 ∧ s.sys.formS = false ∧ Tab.find s.toDev.xlt.invals (q.val * 256 + f.val) = some v ∧ s.toDev.usedBy q.val v.space v.lo v.hi = false) ∧
    (∃ (s : State) (q : Fin 4) (f : Fin 256) (s2 : Nat) (page : Nat), s.pwr.off = 0 ∧ s.sys.formS = false ∧ s.toDev.bit XLT_CMD_BUSY ⟨q.val, f.val⟩ = false ∧ s.toDev.wiping q.val f.val = false ∧ bits (xltWord s.toDev q.val f.val 0) 32 1 = 1 ∧ (Tab.find s.toDev.xlt.preqs (q.val * 2 ^ 32 + bits (xltWord s.toDev q.val f.val 0) 0 32)).filter (fun r => s.toDev.ownsSpace q.val f.val r.1) = some (s2, page)) ∧
    (∃ (s : State) (q : Fin 4) (id : Nat) (s2 : Nat) (page : Nat), s.pwr.off = 0 ∧ s.sys.formS = false ∧ Tab.find s.toDev.xlt.preqs (q.val * 2 ^ 32 + id) = some (s2, page)) ∧
    (∃ (s : State) (q : Fin 4) (n : Fin 4096) (root : Bool), s.pwr.off = 0 ∧ s.sys.formS = false ∧ root = false ∧ s.toDev.spaceInUse q.val n.val = false) ∧
    (∃ (s : State) (q : Fin 4) (n : Fin 4096) (root : Bool), s.pwr.off = 0 ∧ s.sys.formS = false ∧ root = true ∧ s.toDev.spaceInUse q.val n.val = false) := by
  refine ⟨?_, ?_, ?_, ?_, ?_, ?_, ?_, ?_, ?_, ?_, ?_, ?_, ?_, ?_, ?_, ?_, ?_, ?_, ?_, ?_⟩
  · refine ⟨(tState (tTRB)), 1, 0, tTrap, tEnt, ?_, ?_, ?_, ?_, ?_, ?_, ?_, ?_, ?_⟩ <;>
      first | with_reducible rfl | decide +kernel | rfl
  · refine ⟨(tState (tTRM)), 1, 0, { tTrap with cause := 1 }, tEnt, ?_, ?_, ?_, ?_, ?_, ?_, ?_, ?_, ?_⟩ <;>
      first | with_reducible rfl | decide +kernel | rfl
  · refine ⟨(tState (tTRW)), 9, true, 0#64, 1, 8, 0, 2, 4096, [], tTRWE, tTrap, ?_, ?_, ?_, ?_, ?_, ?_, ?_, ?_⟩ <;>
      first | with_reducible rfl | decide +kernel | rfl
  · refine ⟨(tState (tTRL)), 1, 256, 0, tTrap, tTRLE, tTRLA, tTRLB, ?_, ?_, ?_, ?_, ?_, ?_⟩ <;>
      first | with_reducible rfl | decide +kernel | rfl
  · refine ⟨(tState (tTR)), 1, 256, 0, 0, 3, tTrap, ?_, ?_, ?_, ?_, ?_, ?_⟩ <;>
      first | with_reducible rfl | decide +kernel | rfl
  · refine ⟨(tState (tTR)), 1, 256, 0, tTrap, ?_, ?_, ?_, ?_, ?_⟩ <;>
      first | with_reducible rfl | decide +kernel | rfl
  · refine ⟨(tState (tTR)), 1, 256, 0, tTrap, ?_, ?_, ?_, ?_, ?_⟩ <;>
      first | with_reducible rfl | decide +kernel | rfl
  · refine ⟨(tState (tTRT)), 1, 0, { tTrap with acc := { tTrap.acc with side := 1 }, cont := .target tPacket 0 }, tPacket, 0, ?_, ?_, ?_, ?_, ?_⟩ <;>
      first | with_reducible rfl | decide +kernel | rfl
  · refine ⟨(tState (tTRH)), 1, 0, { tTrap with hintWait := true }, ?_, ?_, ?_, ?_⟩ <;>
      first | with_reducible rfl | decide +kernel | rfl
  · refine ⟨(tState (tLDE)), 1, (loadWord tLDE 1), ?_, ?_, ?_, ?_, ?_, ?_⟩ <;>
      first | with_reducible rfl | decide +kernel | rfl
  · refine ⟨(tState (Dev.init)), ?_, ?_⟩ <;>
      first | with_reducible rfl | decide +kernel | rfl
  · refine ⟨(tState (tMAPW)), 1, 0, (xltWord tMAPW 1 0), (entOf (xltWord tMAPW 1 0 0) (xltWord tMAPW 1 0 1) (xltWord tMAPW 1 0 2) (xltWord tMAPW 1 0 3)), ?_, ?_, ?_, ?_, ?_, ?_, ?_, ?_, ?_, ?_⟩ <;>
      first | with_reducible rfl | decide +kernel | rfl
  · refine ⟨(tState (Dev.init)), 1, 0, ?_, ?_, ?_, ?_, ?_⟩ <;>
      first | with_reducible rfl | decide +kernel | rfl
  · refine ⟨(tState (tINVW)), 1, 0, ?_, ?_, ?_, ?_, ?_, ?_, ?_⟩ <;>
      first | with_reducible rfl | decide +kernel | rfl
  · refine ⟨(tState (Dev.init)), 1, 0, ?_, ?_, ?_, ?_, ?_⟩ <;>
      first | with_reducible rfl | decide +kernel | rfl
  · refine ⟨(tState (({ Dev.init with xlt := { XltG.init with invals := [(256, ⟨0, 0, 4096⟩)] } } : Dev))), 1, 0, ⟨0, 0, 4096⟩, ?_, ?_, ?_, ?_⟩ <;>
      first | with_reducible rfl | decide +kernel | rfl
  · refine ⟨(tState (tPGR)), 1, 0, 0, 4096, ?_, ?_, ?_, ?_, ?_, ?_⟩ <;>
      first | with_reducible rfl | decide +kernel | rfl
  · refine ⟨(tState (({ Dev.init with xlt := { XltG.init with preqs := [(2 ^ 32 + 5, (0, 4096))] } } : Dev))), 1, 5, 0, 4096, ?_, ?_, ?_⟩ <;>
      first | with_reducible rfl | decide +kernel | rfl
  · refine ⟨(tState (Dev.init)), 1, 7, false, ?_, ?_, ?_, ?_⟩ <;>
      first | with_reducible rfl | decide +kernel | rfl
  · refine ⟨(tState (Dev.init)), 1, 7, true, ?_, ?_, ?_, ?_⟩ <;>
      first | with_reducible rfl | decide +kernel | rfl

/-- Each clause of CompletionMesh has its hypotheses met. -/
theorem witness_CompletionMesh :
    (∃ (s : State) (m : Machine.MeshMsg) (m2 : Machine.MeshMsg), s.pwr.off = 0 ∧ m.sdie = m.ddie ∧ s.toDev.nodeAbsent m.snode.val = false ∧ s.toDev.meshNormal m.sdie.val = true ∧ m.cls ≠ 3 ∧ m2 = s.toDev.meshClass m.sdie.val m ∧ m2.sdie = m2.ddie ∧ s.toDev.holdStops m2 = false ∧ s.toDev.regHolds m2 = false ∧ s.toDev.meshBehind m2 = false) ∧
    (∃ (s : State) (m : Machine.MeshMsg) (m2 : Machine.MeshMsg) (l : List Nat), s.pwr.off = 0 ∧ m.sdie ≠ m.ddie ∧ s.toDev.nodeAbsent m.snode.val = false ∧ s.toDev.meshNormal m.sdie.val = true ∧ m.cls ≠ 3 ∧ m2 = s.toDev.meshClass m.sdie.val m ∧ m2.sdie ≠ m2.ddie ∧ m2.cls ≠ 3 ∧ s.toDev.holdStops m2 = false ∧ s.toDev.regHolds m2 = false ∧ s.toDev.meshBehind m2 = false ∧ (s.toDev.meshInject m2).route m2.sdie.val m2.ddie.val (128 * m2.sdie.val) (128 * m2.ddie.val) 0 = some l ∧ (s.toDev.meshInject m2).dieInReset m2.ddie.val = false) ∧
    (∃ (s : State) (q : Fin 4) (v : Word), s.pwr.off = 0 ∧ s.toDev.meshHold q.val = false ∧ NOC_MODECTL_SWITCH.of (v ||| NOC_MODECTL_SWITCH.mask) = 1 ∧ NOC_MODECTL_TARGET.of (v ||| NOC_MODECTL_SWITCH.mask) ≠ s.toDev.get NOC_MODECTL_MODE (onDie q.val)) ∧
    (∃ (s : State) (q : Fin 4), s.pwr.off = 0 ∧ s.toDev.meshHold q.val = true ∧ s.toDev.get NOC_STAT_OUTSTANDING (onDie q.val) = 0) ∧
    (∃ (s : State) (q : Fin 4), s.pwr.off = 0 ∧ s.toDev.meshHold q.val = true) ∧
    (∃ (s : State) (q : Fin 4) (node : Fin 25) (cls : Fin 4) (x : Machine.MeshMsg × Bool), s.pwr.off = 0 ∧ s.toDev.noc.held.filter (fun x => x.1.sdie.val = q.val && x.1.snode.val = node.val && x.1.cls.val = cls.val) = [x]) := by
  refine ⟨?_, ?_, ?_, ?_, ?_, ?_⟩
  · refine ⟨(tState ((Dev.init.put NOC_MODECTL_MODE (onDie 1) 1))), tMesh, tMesh, ?_, ?_, ?_, ?_, ?_, ?_, ?_, ?_, ?_, ?_⟩ <;>
      first | with_reducible rfl | decide +kernel | rfl
  · refine ⟨(tState ((Dev.init.put NOC_MODECTL_MODE (onDie 1) 1))), { tMesh with ddie := 0 }, { tMesh with ddie := 0 }, [1, 0], ?_, ?_, ?_, ?_, ?_, ?_, ?_, ?_, ?_, ?_, ?_, ?_, ?_⟩ <;>
      first | with_reducible rfl | decide +kernel | rfl
  · refine ⟨(tState (Dev.init)), 1, (NOC_MODECTL_TARGET.ins 0 1), ?_, ?_, ?_, ?_⟩ <;>
      first | with_reducible rfl | decide +kernel | rfl
  · refine ⟨(tState ((Dev.init.put NOC_MODECTL_HOLD (onDie 1) 1))), 1, ?_, ?_, ?_⟩ <;>
      first | with_reducible rfl | decide +kernel | rfl
  · refine ⟨(tState ((Dev.init.put NOC_MODECTL_HOLD (onDie 1) 1))), 1, ?_, ?_⟩ <;>
      first | with_reducible rfl | decide +kernel | rfl
  · refine ⟨(tState (({ Dev.init with noc := { MeshG.init with held := [(tMesh, true)] } } : Dev))), 1, 2, 1, (tMesh, true), ?_, ?_⟩ <;>
      first | with_reducible rfl | decide +kernel | rfl

/-- Each clause of CompletionSaggar has its hypotheses met. -/
theorem witness_CompletionSaggar :
    (∃ (s : State), s.pwr.off = 0 ∧ s.toDev.sag.noEntropy.contains 0 = false) ∧
    (∃ (s : State) (path : Path), s.pwr.off = 0 ∧ s.toDev.tokBusy = false ∧ path = .mgmt ∧ s.toDev.sag.wipes = []) ∧
    (∃ (s : State) (t : Token), s.pwr.off = 0 ∧ s.toDev.sag.token = some t) ∧
    (∃ (s : State) (path : Path), s.pwr.off = 0 ∧ s.toDev.tokBusy = false ∧ path = .mgmt ∧ s.toDev.lifeCycle = 2 ∧ s.toDev.sys.opkey = none) ∧
    (∃ (s : State) (level : Fin 4), s.pwr.off = 0 ∧ level.val < s.toDev.debugLevel ∧ level.val ≠ defaultLevel s.toDev.lifeCycle) ∧
    (∃ (s : State) (q : Fin 4) (owner : Fin 257) (v : Word) (e : Dev) (n : Nat), s.pwr.off = 0 ∧ e = s.toDev.put SAG_KEYCMD_SLOT ⟨q.val, owner.val⟩ (SAG_KEYCMD_SLOT.of v) ∧ n = SAG_KEYCMD_SLOT.of v ∧ e.wipingKeys q.val owner.val = false ∧ owner.val ≤ 255 ∧ e.keyState q.val n = keyFREE ∧ e.keyQuotaFull q.val owner.val = false ∧ e.keysAllowed = true) ∧
    (∃ (s : State) (q : Fin 4) (owner : Fin 257) (v : Word) (e : Dev) (n : Nat), s.pwr.off = 0 ∧ e = s.toDev.put SAG_KEYCMD_SLOT ⟨q.val, owner.val⟩ (SAG_KEYCMD_SLOT.of v) ∧ n = SAG_KEYCMD_SLOT.of v ∧ e.wipingKeys q.val owner.val = false ∧ owner.val = 256 ∧ e.keyState q.val n = keyFREE ∧ e.keysAllowed = true) ∧
    (∃ (s : State) (q : Fin 4) (owner : Fin 257) (v : Word) (e : Dev) (n : Nat), s.pwr.off = 0 ∧ e = s.toDev.put SAG_KEYCMD_SLOT ⟨q.val, owner.val⟩ (SAG_KEYCMD_SLOT.of v) ∧ n = SAG_KEYCMD_SLOT.of v ∧ e.wipingKeys q.val owner.val = false ∧ e.keyState q.val n ≠ keyFREE ∧ e.keyOwner q.val n = owner.val ∧ e.keyInUse q.val n = false) ∧
    (∃ (s : State), s.pwr.off = 0) ∧
    (∃ (s : State) (q : Fin 4), s.pwr.off = 0 ∧ q.val ≠ 0) ∧
    (∃ (s : State) (scope : Nat) (die : Nat) (part : Nat) (w : Wipe), s.pwr.off = 0 ∧ s.toDev.sag.wipes.find? (fun w => w.scope = scope && w.die = die && w.part = part) = some w) := by
  refine ⟨?_, ?_, ?_, ?_, ?_, ?_, ?_, ?_, ?_, ?_, ?_⟩
  · refine ⟨(tState (Dev.init)), ?_, ?_⟩ <;>
      first | with_reducible rfl | decide +kernel | rfl
  · refine ⟨(tState (Dev.init)), .mgmt, ?_, ?_, ?_, ?_⟩ <;>
      first | with_reducible rfl | decide +kernel | rfl
  · refine ⟨(tState (({ Dev.init with sag := { SagG.init with token := some ⟨0, [], []⟩ } } : Dev))), ⟨0, [], []⟩, ?_, ?_⟩ <;>
      first | with_reducible rfl | decide +kernel | rfl
  · refine ⟨(tState (Dev.init)), .mgmt, ?_, ?_, ?_, ?_, ?_⟩ <;>
      first | with_reducible rfl | decide +kernel | rfl
  · refine ⟨(tState ((Dev.init.put SAG_DBG_LEVEL onMod 3))), 1, ?_, ?_, ?_⟩ <;>
      first | with_reducible rfl | decide +kernel | rfl
  · refine ⟨(tState (Dev.init)), 1, 0, 0#64, (Dev.init.put SAG_KEYCMD_SLOT ⟨1, 0⟩ 0), 0, ?_, ?_, ?_, ?_, ?_, ?_, ?_, ?_⟩ <;>
      first | with_reducible rfl | decide +kernel | rfl
  · refine ⟨(tState (Dev.init)), 1, 256, 0#64, (Dev.init.put SAG_KEYCMD_SLOT ⟨1, 256⟩ 0), 0, ?_, ?_, ?_, ?_, ?_, ?_, ?_⟩ <;>
      first | with_reducible rfl | decide +kernel | rfl
  · refine ⟨(tState ((Dev.init.setKeySlot 1 0 keyCONN 0 0 0))), 1, 0, 0#64, ((Dev.init.setKeySlot 1 0 keyCONN 0 0 0).put SAG_KEYCMD_SLOT ⟨1, 0⟩ 0), 0, ?_, ?_, ?_, ?_, ?_, ?_, ?_⟩ <;>
      first | with_reducible rfl | decide +kernel | rfl
  · refine ⟨(tState (Dev.init)), ?_⟩ <;>
      first | with_reducible rfl | decide +kernel | rfl
  · refine ⟨(tState (Dev.init)), 1, ?_, ?_⟩ <;>
      first | with_reducible rfl | decide +kernel | rfl
  · refine ⟨(tState (({ Dev.init with sag := { SagG.init with wipes := [⟨3, 1, 2, 0⟩] } } : Dev))), 3, 1, 2, ⟨3, 1, 2, 0⟩, ?_, ?_⟩ <;>
      first | with_reducible rfl | decide +kernel | rfl

/-- Each clause of CompletionBoot has its hypotheses met. -/
theorem witness_CompletionBoot :
    (∃ (s : State) (ok : Bool), s.pwr.off = 0 ∧ s.toDev.boot.step = 1 ∧ s.toDev.lifeCycle ≠ 0 ∧ s.toDev.lifeCycle ≠ 4 ∧ ok = true) ∧
    (∃ (s : State) (ok : Bool), s.pwr.off = 0 ∧ s.toDev.boot.step = 1 ∧ s.toDev.lifeCycle ≠ 0 ∧ s.toDev.lifeCycle ≠ 4 ∧ ok = false) ∧
    (∃ (s : State) (unread : List Nat) (e : Dev), s.pwr.off = 0 ∧ s.toDev.boot.step = 2 ∧ e = ({ s.toDev with boot := { s.toDev.boot with unread := unread } } : Dev).dirRead ∧ e.boot.tried = [] ∧ e.boot.dir.trialState ≠ 2) ∧
    (∃ (s : State) (ok : Bool), s.pwr.off = 0 ∧ s.toDev.boot.step = 3 ∧ s.toDev.boot.update = none ∧ ok = true) ∧
    (∃ (s : State) (ok : Bool), s.pwr.off = 0 ∧ s.toDev.boot.step = 4 ∧ s.toDev.boot.update = none ∧ ok = true) ∧
    (∃ (s : State) (q : Fin 4) (ports : List Nat) (lanes : Nat) (brgh : Nat) (brgv : Nat) (banks : List Nat) (chans : List Nat) (tables : Bool) (other : Bool) (e : Dev), s.pwr.off = 0 ∧ s.toDev.boot.step = 5 ∧ s.toDev.kln.booting.contains q.val = true ∧ e = s.toDev.calibrated q.val ports lanes brgh brgv banks chans tables other ∧ e.kln.booting = []) ∧
    (∃ (s : State), s.pwr.off = 0 ∧ s.toDev.boot.step = 6 ∧ s.toDev.nodeValid = true ∧ s.toDev.isolated = false ∧ s.toDev.ownDies.all (fun q => s.toDev.bankValid q s.toDev.ep.target) = true) ∧
    (∃ (s : State), s.pwr.off = 0 ∧ s.toDev.boot.update = some false) ∧
    (∃ (s : State), s.pwr.off = 0 ∧ s.toDev.boot.update = some true) ∧
    (∃ (s : State), s.pwr.off = 0 ∧ s.toDev.bit CFG_SLOTCMD_BUSY onMod = false ∧ s.toDev.boot.dir.trialState = 0 ∧ s.toDev.boot.dir.active ≠ 1) ∧
    (∃ (s : State), s.pwr.off = 0 ∧ s.toDev.bit CFG_SLOTCMD_BUSY onMod = false ∧ s.toDev.boot.dir.trialState = 0 ∧ s.toDev.boot.dir.active ≠ 2) ∧
    (∃ (s : State) (path : Path), s.pwr.off = 0 ∧ s.toDev.bit CFG_SLOTCMD_BUSY onMod = false ∧ path = .mgmt ∧ s.toDev.boot.dir.trialState = 2) ∧
    (∃ (s : State), s.pwr.off = 0 ∧ s.toDev.bit CFG_SLOTCMD_BUSY onMod = false ∧ s.toDev.boot.dir.trialState = 2) ∧
    (∃ (s : State), s.pwr.off = 0 ∧ s.toDev.bit CFG_SLOTCMD_BUSY onMod = false) ∧
    (∃ (s : State), s.pwr.off = 0 ∧ s.toDev.boot.dir.trialState = 2 ∧ s.toDev.boot.watchdog.isSome = true) ∧
    (∃ (s : State), s.pwr.off = 0 ∧ s.toDev.boot.dir.trialState = 2 ∧ s.toDev.boot.trial = true ∧ s.toDev.bit CFG_TRIAL_AUTOCOMMIT onMod = true ∧ 5 ≤ s.toDev.boot.step ∧ (List.range 4).all (fun q => s.toDev.bit KLN_BOOT_PASSED (onDie q)) = true ∧ s.toDev.bit CFG_ERGSTAT_VALID onMod = true ∧ s.toDev.banksValid = true) ∧
    (∃ (s : State) (v : Word), s.pwr.off = 0 ∧ s.toDev.bit CFG_FLASHCMD_BUSY onMod = false ∧ CFG_FLASHCMD_ADDR.of v % 256 = 0) ∧
    (∃ (s : State) (v : Word) (e : Dev), s.pwr.off = 0 ∧ s.toDev.bit CFG_FLASHCMD_BUSY onMod = false ∧ e = s.toDev.wrFields .CFG_FLASHCMD onMod v ∧ CFG_FLASHCMD_ADDR.of v % 256 = 0 ∧ e.flashProtected (CFG_FLASHCMD_ADDR.of v) = false ∧ flashSlot (CFG_FLASHCMD_ADDR.of v) = none) ∧
    (∃ (s : State) (v : Word) (e : Dev), s.pwr.off = 0 ∧ s.toDev.bit CFG_FLASHCMD_BUSY onMod = false ∧ e = s.toDev.wrFields .CFG_FLASHCMD onMod v ∧ CFG_FLASHCMD_ADDR.of v % 65536 = 0 ∧ e.flashProtected (CFG_FLASHCMD_ADDR.of v) = false ∧ flashSlot (CFG_FLASHCMD_ADDR.of v) = none) ∧
    (∃ (s : State) (a : Nat) (data : List Byte), s.pwr.off = 0 ∧ s.toDev.boot.flashCmd = some (2, a, data)) := by
  refine ⟨?_, ?_, ?_, ?_, ?_, ?_, ?_, ?_, ?_, ?_, ?_, ?_, ?_, ?_, ?_, ?_, ?_, ?_, ?_, ?_⟩
  · refine ⟨(tState (Dev.init)), true, ?_, ?_, ?_, ?_, ?_⟩ <;>
      first | with_reducible rfl | decide +kernel | rfl
  · refine ⟨(tState (Dev.init)), false, ?_, ?_, ?_, ?_, ?_⟩ <;>
      first | with_reducible rfl | decide +kernel | rfl
  · refine ⟨(tState (({ Dev.init with boot := { BootG.init with step := 2 } } : Dev))), [], (({ Dev.init with boot := { BootG.init with step := 2 } } : Dev).dirRead), ?_, ?_, ?_, ?_, ?_⟩ <;>
      first | with_reducible rfl | decide +kernel | rfl
  · refine ⟨(tState (({ Dev.init with boot := { BootG.init with step := 3 } } : Dev))), true, ?_, ?_, ?_, ?_⟩ <;>
      first | with_reducible rfl | decide +kernel | rfl
  · refine ⟨(tState (({ Dev.init with boot := { BootG.init with step := 4 } } : Dev))), true, ?_, ?_, ?_, ?_⟩ <;>
      first | with_reducible rfl | decide +kernel | rfl
  · refine ⟨(tState (({ Dev.init with boot := { BootG.init with step := 5 }, kln := { KlnG.init with booting := [1] } } : Dev))), 1, [], 0, 0, 0, [], [], false, false, (({ Dev.init with boot := { BootG.init with step := 5 }, kln := { KlnG.init with booting := [1] } } : Dev).calibrated 1 [] 0 0 0 [] [] false false), ?_, ?_, ?_, ?_, ?_⟩ <;>
      first | with_reducible rfl | decide +kernel | rfl
  · refine ⟨(tState (tRUNW)), ?_, ?_, ?_, ?_, ?_⟩ <;>
      first | with_reducible rfl | decide +kernel | rfl
  · refine ⟨(tState (({ Dev.init with boot := { BootG.init with step := 7, update := some false } } : Dev))), ?_, ?_⟩ <;>
      first | with_reducible rfl | decide +kernel | rfl
  · refine ⟨(tState (({ Dev.init with boot := { BootG.init with step := 7, update := some true } } : Dev))), ?_, ?_⟩ <;>
      first | with_reducible rfl | decide +kernel | rfl
  · refine ⟨(tState (({ Dev.init with boot := { BootG.init with step := 7 } } : Dev))), ?_, ?_, ?_, ?_⟩ <;>
      first | with_reducible rfl | decide +kernel | rfl
  · refine ⟨(tState (({ Dev.init with boot := { BootG.init with step := 7 } } : Dev))), ?_, ?_, ?_, ?_⟩ <;>
      first | with_reducible rfl | decide +kernel | rfl
  · refine ⟨(tState (({ Dev.init with boot := { BootG.init with step := 7, dir := { DirRec.blank with trialState := 2, trialSlot := 1 }, watchdog := some 5, trial := true } } : Dev))), .mgmt, ?_, ?_, ?_, ?_⟩ <;>
      first | with_reducible rfl | decide +kernel | rfl
  · refine ⟨(tState (({ Dev.init with boot := { BootG.init with step := 7, dir := { DirRec.blank with trialState := 2, trialSlot := 1 }, watchdog := some 5, trial := true } } : Dev))), ?_, ?_, ?_⟩ <;>
      first | with_reducible rfl | decide +kernel | rfl
  · refine ⟨(tState (({ Dev.init with boot := { BootG.init with step := 7 } } : Dev))), ?_, ?_⟩ <;>
      first | with_reducible rfl | decide +kernel | rfl
  · refine ⟨(tState (({ Dev.init with boot := { BootG.init with step := 7, dir := { DirRec.blank with trialState := 2, trialSlot := 1 }, watchdog := some 5, trial := true } } : Dev))), ?_, ?_, ?_⟩ <;>
      first | with_reducible rfl | decide +kernel | rfl
  · refine ⟨(tState (tAUTOW)), ?_, ?_, ?_, ?_, ?_, ?_, ?_, ?_⟩ <;>
      first | with_reducible rfl | decide +kernel | rfl
  · refine ⟨(tState (Dev.init)), 0#64, ?_, ?_, ?_⟩ <;>
      first | with_reducible rfl | decide +kernel | rfl
  · refine ⟨(tState (tFLW)), tFLA, (tFLW.wrFields .CFG_FLASHCMD onMod tFLA), ?_, ?_, ?_, ?_, ?_, ?_⟩ <;>
      first | with_reducible rfl | decide +kernel | rfl
  · refine ⟨(tState (tFLW)), tFLA, (tFLW.wrFields .CFG_FLASHCMD onMod tFLA), ?_, ?_, ?_, ?_, ?_, ?_⟩ <;>
      first | with_reducible rfl | decide +kernel | rfl
  · refine ⟨(tState (({ Dev.init with boot := { BootG.init with step := 7, flashCmd := some (2, 0x1000, []) } } : Dev))), 0x1000, [], ?_, ?_⟩ <;>
      first | with_reducible rfl | decide +kernel | rfl

/-- Each clause of CompletionErg has its hypotheses met. -/
theorem witness_CompletionErg :
    (∃ (s : State), s.pwr.off = 0 ∧ s.toDev.ergRuns = true) ∧
    (∃ (s : State), s.pwr.off = 0 ∧ s.toDev.ergRuns = true) ∧
    (∃ (s : State) (p : Fin 512) (c : Ctrl) (b : Body) (e : Dev), s.pwr.off = 0 ∧ s.toDev.inOrder p.val c ∧ ctlKind c = 2 ∧ creditValid c = true ∧ ctlFvc c = byHELLO ∧ e = s.toDev.acceptSeq p.val c ∧ e.ergRuns = true ∧ hb b 8 1 = 1) ∧
    (∃ (s : State) (p : Fin 512) (c : Ctrl) (b : Body) (e : Dev), s.pwr.off = 0 ∧ s.toDev.inOrder p.val c ∧ ctlKind c = 2 ∧ creditValid c = true ∧ ctlFvc c = byHELLO ∧ e = s.toDev.acceptSeq p.val c ∧ e.ergRuns = true ∧ hb b 8 1 = 2 ∧ hb b 9 8 ≠ e.sys.uid ∧ e.sys.mapMode = false ∧ Tab.find e.erg.assigns (hb b 9 8 * 32 + hb b 20 1 % 32) = none ∧ e.erg.leading = false) ∧
    (∃ (s : State) (p : Fin 512) (c : Ctrl) (b : Body) (e : Dev), s.pwr.off = 0 ∧ s.toDev.inOrder p.val c ∧ ctlKind c = 2 ∧ creditValid c = true ∧ ctlFvc c = byHELLO ∧ e = s.toDev.acceptSeq p.val c ∧ e.ergRuns = true ∧ hb b 8 1 = 3 ∧ hb b 11 8 ≠ e.sys.uid ∧ Tab.find e.erg.claims (hb b 11 8) = none ∧ e.erg.claim = none) ∧
    (∃ (s : State) (p : Fin 512) (c : Ctrl) (b : Body) (e : Dev), s.pwr.off = 0 ∧ s.toDev.inOrder p.val c ∧ ctlKind c = 2 ∧ creditValid c = true ∧ ctlFvc c = byHELLO ∧ e = s.toDev.acceptSeq p.val c ∧ e.ergRuns = true ∧ hb b 8 1 = 4 ∧ e.nodeValid = false ∧ Tab.find e.erg.lsas (fb b 72 17 * 256 + hb b 15 1) = none) ∧
    (∃ (s : State) (p : Fin 512) (c : Ctrl) (b : Body) (e : Dev), s.pwr.off = 0 ∧ s.toDev.inOrder p.val c ∧ ctlKind c = 2 ∧ creditValid c = true ∧ ctlFvc c = byHELLO ∧ e = s.toDev.acceptSeq p.val c ∧ e.ergRuns = true ∧ hb b 8 1 = 5 ∧ e.nodeValid = false ∧ Tab.find e.erg.gsums (hb b 9 2 * 8 + hb b 13 1 % 8) = none) ∧
    (∃ (s : State) (g : Nat), s.pwr.off = 0 ∧ s.toDev.ergRuns = true ∧ s.toDev.sys.mapMode = false ∧ s.toDev.erg.leading = true ∧ s.toDev.erg.claim = some (g, false)) ∧
    (∃ (s : State) (ok : Bool) (need : Nat) (psets : List (Nat × Nat)), s.pwr.off = 0 ∧ s.toDev.ergRuns = true ∧ s.toDev.nodeValid = true ∧ s.toDev.erg.changed = true ∧ ok = true ∧ need ≤ 4096 ∧ s.toDev.tablesFit psets = true) ∧
    (∃ (s : State), s.pwr.off = 0) ∧
    (∃ (s : State) (kind : Nat), s.pwr.off = 0 ∧ kind = 2) ∧
    (∃ (s : State) (kind : Nat), s.pwr.off = 0 ∧ kind = 1) ∧
    (∃ (s : State) (m : Fin 64), s.pwr.off = 0 ∧ s.toDev.ergRuns = true ∧ s.toDev.leads = true ∧ s.toDev.nodeValid = true ∧ m.val ≠ s.toDev.nodeId % 64 ∧ s.toDev.memberNumbers.contains m.val = true ∧ s.toDev.memberSeen m.val = false ∧ s.toDev.erg.lost.contains m.val = false) ∧
    (∃ (s : State) (q : Fin 4) (k : Machine.Packet) (e : Dev) (st : Nat) (r : Nat), s.pwr.off = 0 ∧ k.type = tFW_MSG ∧ k.enc = false ∧ 0 < ofBytes (k.oper.take 1) ∧ ofBytes (k.oper.take 1) ≤ 3 ∧ (s.toDev.takeDlv q.val 512 k).fwServe (ofBytes (k.oper.take 1)) (ofBytes ((k.oper.drop 4).take 5) % 2 ^ 36) (ofBytes ((k.oper.drop 16).take 8)) = (e, st, r)) ∧
    (∃ (s : State) (q : Fin 4) (k : Machine.Packet) (o : Oob), s.pwr.off = 0 ∧ k.type = tFW_RSP ∧ k.enc = false ∧ (s.toDev.takeDlv q.val 512 k).car.oob = some o ∧ o.fabric = true ∧ o.tag = ofBytes ((k.oper.drop 1).take 2)) := by
  refine ⟨?_, ?_, ?_, ?_, ?_, ?_, ?_, ?_, ?_, ?_, ?_, ?_, ?_, ?_, ?_⟩
  · refine ⟨(tState (({ Dev.init with boot := { BootG.init with step := 7 } } : Dev))), ?_, ?_⟩ <;>
      first | with_reducible rfl | decide +kernel | rfl
  · refine ⟨(tState (({ Dev.init with boot := { BootG.init with step := 7 } } : Dev))), ?_, ?_⟩ <;>
      first | with_reducible rfl | decide +kernel | rfl
  · refine ⟨(tState ((({ Dev.init with boot := { BootG.init with step := 7 } } : Dev).put LNK_STAT_STATE (onLane 4) UP))), 4, (mkCtl 2 0 0 0 byHELLO true false), (hello 1), ((({ Dev.init with boot := { BootG.init with step := 7 } } : Dev).put LNK_STAT_STATE (onLane 4) UP).acceptSeq 4 (mkCtl 2 0 0 0 byHELLO true false)), ?_, ?_, ?_, ?_, ?_, ?_, ?_, ?_⟩ <;>
      first | with_reducible rfl | decide +kernel | rfl
  · refine ⟨(tState ((({ Dev.init with boot := { BootG.init with step := 7 } } : Dev).put LNK_STAT_STATE (onLane 4) UP))), 4, (mkCtl 2 0 0 0 byHELLO true false), (hello 2 ||| (77#448 <<< 72)), ((({ Dev.init with boot := { BootG.init with step := 7 } } : Dev).put LNK_STAT_STATE (onLane 4) UP).acceptSeq 4 (mkCtl 2 0 0 0 byHELLO true false)), ?_, ?_, ?_, ?_, ?_, ?_, ?_, ?_, ?_, ?_, ?_, ?_⟩ <;>
      first | with_reducible rfl | decide +kernel | rfl
  · refine ⟨(tState ((({ Dev.init with boot := { BootG.init with step := 7 } } : Dev).put LNK_STAT_STATE (onLane 4) UP))), 4, (mkCtl 2 0 0 0 byHELLO true false), (hello 3 ||| (77#448 <<< 88)), ((({ Dev.init with boot := { BootG.init with step := 7 } } : Dev).put LNK_STAT_STATE (onLane 4) UP).acceptSeq 4 (mkCtl 2 0 0 0 byHELLO true false)), ?_, ?_, ?_, ?_, ?_, ?_, ?_, ?_, ?_, ?_, ?_⟩ <;>
      first | with_reducible rfl | decide +kernel | rfl
  · refine ⟨(tState ((({ Dev.init with boot := { BootG.init with step := 7 } } : Dev).put LNK_STAT_STATE (onLane 4) UP))), 4, (mkCtl 2 0 0 0 byHELLO true false), (hello 4), ((({ Dev.init with boot := { BootG.init with step := 7 } } : Dev).put LNK_STAT_STATE (onLane 4) UP).acceptSeq 4 (mkCtl 2 0 0 0 byHELLO true false)), ?_, ?_, ?_, ?_, ?_, ?_, ?_, ?_, ?_, ?_⟩ <;>
      first | with_reducible rfl | decide +kernel | rfl
  · refine ⟨(tState ((({ Dev.init with boot := { BootG.init with step := 7 } } : Dev).put LNK_STAT_STATE (onLane 4) UP))), 4, (mkCtl 2 0 0 0 byHELLO true false), (hello 5), ((({ Dev.init with boot := { BootG.init with step := 7 } } : Dev).put LNK_STAT_STATE (onLane 4) UP).acceptSeq 4 (mkCtl 2 0 0 0 byHELLO true false)), ?_, ?_, ?_, ?_, ?_, ?_, ?_, ?_, ?_, ?_⟩ <;>
      first | with_reducible rfl | decide +kernel | rfl
  · refine ⟨(tState (({ ({ Dev.init with boot := { BootG.init with step := 7 } } : Dev) with erg := { ErgG.init with leading := true, claim := some (5, false) } } : Dev))), 5, ?_, ?_, ?_, ?_, ?_⟩ <;>
      first | with_reducible rfl | decide +kernel | rfl
  · refine ⟨(tState (tSETW)), true, 5, [], ?_, ?_, ?_, ?_, ?_, ?_, ?_⟩ <;>
      first | with_reducible rfl | decide +kernel | rfl
  · refine ⟨(tState (Dev.init)), ?_⟩ <;>
      first | with_reducible rfl | decide +kernel | rfl
  · refine ⟨(tState (Dev.init)), 2, ?_, ?_⟩ <;>
      first | with_reducible rfl | decide +kernel | rfl
  · refine ⟨(tState (Dev.init)), 1, ?_, ?_⟩ <;>
      first | with_reducible rfl | decide +kernel | rfl
  · refine ⟨(tState (tLOSTW)), 5, ?_, ?_, ?_, ?_, ?_, ?_, ?_, ?_⟩ <;>
      first | with_reducible rfl | decide +kernel | rfl
  · refine ⟨(tState (tFWM)), 1, tKFWM, tFWME, tFWMS, tFWMR, ?_, ?_, ?_, ?_, ?_, ?_⟩ <;>
      first | with_reducible rfl | decide +kernel | rfl
  · refine ⟨(tState (({ Dev.init with car := { CarG.init with oob := some ⟨0, false, true⟩ } } : Dev))), 1, { tPacket with type := tFW_RSP }, ⟨0, false, true⟩, ?_, ?_, ?_, ?_, ?_, ?_⟩ <;>
      first | with_reducible rfl | decide +kernel | rfl

/-- Each clause of CompletionCaravan has its hypotheses met. -/
theorem witness_CompletionCaravan :
    (∃ (s : State), s.pwr.off = 0 ∧ 1 ≤ s.toDev.boot.step ∧ s.toDev.bit MGT_CTRL_CAR_EN onMod = true ∧ s.toDev.carJoined = false) ∧
    (∃ (s : State), s.pwr.off = 0 ∧ s.toDev.carJoined = true) ∧
    (∃ (s : State), s.pwr.off = 0 ∧ s.toDev.carState = 1 ∧ s.toDev.bit MGT_CARSTAT_RATE onMod = false) ∧
    (∃ (s : State) (f : BitVec 256), s.pwr.off = 0 ∧ s.toDev.carJoined = true ∧ frCrcOk f = true ∧ frType f = frELECT ∧ s.toDev.carState ≠ 2 ∧ frBytes f 8 8 ≠ s.toDev.sys.uid % 2 ^ 64) ∧
    (∃ (s : State) (f : BitVec 256), s.pwr.off = 0 ∧ s.toDev.carJoined = true ∧ frCrcOk f = true ∧ frType f = frPOSITION ∧ frBytes f 9 1 % 2 ≠ 1 ∧ s.toDev.carMaster = false) ∧
    (∃ (s : State) (f : BitVec 256), s.pwr.off = 0 ∧ s.toDev.carJoined = true ∧ frCrcOk f = true ∧ frType f = frTIME ∧ s.toDev.carMaster = false ∧ s.toDev.hasTimeSource = true) ∧
    (∃ (s : State), s.pwr.off = 0 ∧ s.toDev.carMaster = true ∧ s.toDev.carState = 2) ∧
    (∃ (s : State) (f : BitVec 256), s.pwr.off = 0 ∧ s.toDev.carJoined = true ∧ frCrcOk f = true ∧ frType f = frREAD ∧ frDst f = s.toDev.carPos ∧ s.toDev.carPos ≠ 255) ∧
    (∃ (s : State) (f : BitVec 256), s.pwr.off = 0 ∧ s.toDev.carJoined = true ∧ frCrcOk f = true ∧ frType f = frWRITE ∧ frDst f = s.toDev.carPos ∧ s.toDev.carPos ≠ 255) ∧
    (∃ (s : State) (f : BitVec 256) (o : Oob), s.pwr.off = 0 ∧ s.toDev.carJoined = true ∧ frCrcOk f = true ∧ frType f = frRESP ∧ frDst f = s.toDev.carPos ∧ s.toDev.carPos ≠ 255 ∧ s.toDev.car.oob = some o ∧ o.fabric = false ∧ o.tag = frTag f) ∧
    (∃ (s : State) (v : Word) (e : Dev), s.pwr.off = 0 ∧ s.toDev.oobBusy = false ∧ e = s.toDev.put MGT_OOBCMD_ADDR onMod (MGT_OOBCMD_ADDR.of v) ∧ e.bit MGT_OOBTGT_PATH onMod = false ∧ e.get MGT_OOBTGT_TARGET onMod % 256 ≠ e.carPos ∧ e.carState = 2) ∧
    (∃ (s : State) (v : Word) (e : Dev), s.pwr.off = 0 ∧ s.toDev.oobBusy = false ∧ e = s.toDev.put MGT_OOBCMD_ADDR onMod (MGT_OOBCMD_ADDR.of v) ∧ e.bit MGT_OOBTGT_PATH onMod = false ∧ e.get MGT_OOBTGT_TARGET onMod % 256 ≠ e.carPos ∧ e.carState = 2) ∧
    (∃ (s : State) (o : Oob), s.pwr.off = 0 ∧ s.toDev.car.oob = some o) ∧
    (∃ (s : State), s.pwr.off = 0 ∧ s.toDev.carJoined = true ∧ s.toDev.bit MGT_CARSTAT_RATE onMod = false ∧ s.toDev.carState ≠ 2) := by
  refine ⟨?_, ?_, ?_, ?_, ?_, ?_, ?_, ?_, ?_, ?_, ?_, ?_, ?_, ?_⟩
  · refine ⟨(tState ((({ Dev.init with boot := { BootG.init with step := 7 } } : Dev).put MGT_CTRL_CAR_EN onMod 1))), ?_, ?_, ?_, ?_⟩ <;>
      first | with_reducible rfl | decide +kernel | rfl
  · refine ⟨(tState ((Dev.init.put MGT_CARSTAT_STATE onMod 2))), ?_, ?_⟩ <;>
      first | with_reducible rfl | decide +kernel | rfl
  · refine ⟨(tState ((Dev.init.put MGT_CARSTAT_STATE onMod 1))), ?_, ?_, ?_⟩ <;>
      first | with_reducible rfl | decide +kernel | rfl
  · refine ⟨(tState ((Dev.init.put MGT_CARSTAT_STATE onMod 1))), (frMake frELECT 255 255 0 0 77), ?_, ?_, ?_, ?_, ?_, ?_⟩ <;>
      first | with_reducible rfl | decide +kernel | rfl
  · refine ⟨(tState ((Dev.init.put MGT_CARSTAT_STATE onMod 1))), (frMake frPOSITION 0 255 0 0 3), ?_, ?_, ?_, ?_, ?_, ?_⟩ <;>
      first | with_reducible rfl | decide +kernel | rfl
  · refine ⟨(tState (tTIMW)), (frMake frTIME 0 255 0 0 3), ?_, ?_, ?_, ?_, ?_, ?_⟩ <;>
      first | with_reducible rfl | decide +kernel | rfl
  · refine ⟨(tState (((Dev.init.put MGT_CARSTAT_STATE onMod 2).put MGT_CARSTAT_MASTER onMod 1))), ?_, ?_, ?_⟩ <;>
      first | with_reducible rfl | decide +kernel | rfl
  · refine ⟨(tState (((Dev.init.put MGT_CARSTAT_STATE onMod 2).put MGT_CARSTAT_POSITION onMod 3))), (frMake frREAD 0 3 0 1 8), ?_, ?_, ?_, ?_, ?_, ?_⟩ <;>
      first | with_reducible rfl | decide +kernel | rfl
  · refine ⟨(tState (((Dev.init.put MGT_CARSTAT_STATE onMod 2).put MGT_CARSTAT_POSITION onMod 3))), (frMake frWRITE 0 3 0 1 8), ?_, ?_, ?_, ?_, ?_, ?_⟩ <;>
      first | with_reducible rfl | decide +kernel | rfl
  · refine ⟨(tState (({ ((Dev.init.put MGT_CARSTAT_STATE onMod 2).put MGT_CARSTAT_POSITION onMod 3) with car := { CarG.init with oob := some ⟨1, false, false⟩ } } : Dev))), (frMake frRESP 0 3 0 1 8), ⟨1, false, false⟩, ?_, ?_, ?_, ?_, ?_, ?_, ?_, ?_, ?_⟩ <;>
      first | with_reducible rfl | decide +kernel | rfl
  · refine ⟨(tState (((Dev.init.put MGT_CARSTAT_STATE onMod 2).put MGT_CARSTAT_POSITION onMod 3))), 8#64, (((Dev.init.put MGT_CARSTAT_STATE onMod 2).put MGT_CARSTAT_POSITION onMod 3).put MGT_OOBCMD_ADDR onMod 8), ?_, ?_, ?_, ?_, ?_, ?_⟩ <;>
      first | with_reducible rfl | decide +kernel | rfl
  · refine ⟨(tState (((Dev.init.put MGT_CARSTAT_STATE onMod 2).put MGT_CARSTAT_POSITION onMod 3))), 8#64, (((Dev.init.put MGT_CARSTAT_STATE onMod 2).put MGT_CARSTAT_POSITION onMod 3).put MGT_OOBCMD_ADDR onMod 8), ?_, ?_, ?_, ?_, ?_, ?_⟩ <;>
      first | with_reducible rfl | decide +kernel | rfl
  · refine ⟨(tState (({ ((Dev.init.put MGT_CARSTAT_STATE onMod 2).put MGT_CARSTAT_POSITION onMod 3) with car := { CarG.init with oob := some ⟨1, false, false⟩ } } : Dev))), ⟨1, false, false⟩, ?_, ?_⟩ <;>
      first | with_reducible rfl | decide +kernel | rfl
  · refine ⟨(tState ((Dev.init.put MGT_CARSTAT_STATE onMod 1))), ?_, ?_, ?_, ?_⟩ <;>
      first | with_reducible rfl | decide +kernel | rfl

/-- Each clause of CompletionPower has its hypotheses met. -/
theorem witness_CompletionPower :
    (∃ (s : State) (mv : Nat), mv < s.toDev.warnLevel ∧ s.toDev.bit PWR_STAT_WARN onMod = false) ∧
    (∃ (s : State) (mv : Nat), s.toDev.warnLevel + 250 < mv ∧ s.toDev.bit PWR_STAT_WARN onMod = true) ∧
    (True) ∧
    (∃ (s : State) (mv : Nat), mv ≤ 20000 ∧ s.toDev.pwr.off ≠ 3) ∧
    (∃ (s : State), s.toDev.pwr.off = 1) ∧
    (True) ∧
    (∃ (s : State), s.pwr.off = 0) ∧
    (∃ (s : State), s.pwr.off = 0) ∧
    (∃ (s : State), s.pwr.off = 0 ∧ s.toDev.get PWR_STAT_IIN onMod ≤ 84) ∧
    (∃ (s : State), s.pwr.off = 0 ∧ s.toDev.pwr.throttle = 4 ∧ coneCap s.toDev.cone < s.toDev.get PWR_STAT_PIN onMod) ∧
    (∃ (s : State) (tj : Nat) (die : Fin 4), s.pwr.off = 0 ∧ 400 ≤ tj ∧ 0 < (s.toDev.setTj tj die.val).thermalLimit) ∧
    (∃ (s : State) (tj : Nat), s.pwr.off = 0 ∧ tj < 388) ∧
    (∃ (s : State) (tj : Nat) (die : Fin 4) (e : Dev), s.pwr.off = 0 ∧ 460 ≤ tj ∧ e = s.toDev.setTj tj die.val ∧ e.pwr.off ≠ 3) ∧
    (∃ (s : State) (tj : Nat), s.toDev.pwr.off = 3 ∧ s.toDev.pwr.cycled = true ∧ tj < 360) ∧
    (∃ (s : State) (q : Fin 4) (scope : Nat), s.pwr.off = 0 ∧ s.toDev.stopFails q.val scope = none ∧ scope < 4) ∧
    (∃ (s : State) (q : Fin 4) (scope : Nat), s.pwr.off = 0 ∧ scope < 4 ∧ s.toDev.scopeEntering q.val scope = false ∧ s.toDev.domRunning q.val = false) ∧
    (∃ (s : State) (q : Fin 4) (scope : Nat) (e : Dev), s.pwr.off = 0 ∧ Tab.find s.toDev.pwr.cmd q.val = some (1, scope) ∧ scope < 4 ∧ e = s.toDev.each (Dev.regionsOf q.val) (fun m d => d.regionEnters m) ∧ e.regionState (q.val * 4 + scope) = domSTOP) ∧
    (∃ (s : State) (q : Fin 4) (scope : Nat), s.pwr.off = 0 ∧ Tab.find s.toDev.pwr.cmd q.val = some (1, scope)) ∧
    (∃ (s : State) (scope : Nat), s.pwr.off = 0 ∧ scope < 4) ∧
    (∃ (s : State), s.pwr.off = 0 ∧ s.toDev.pwr.ref = true) ∧
    (∃ (s : State), s.pwr.off = 0 ∧ s.toDev.pwr.ref = false ∧ s.toDev.clkRec = none) ∧
    (∃ (s : State) (slot : Nat), s.pwr.off = 0 ∧ s.toDev.clkRec = some slot ∧ s.toDev.pwr.ref = false) ∧
    (∃ (s : State), s.toDev.pwr.off = 4) := by
  refine ⟨?_, ?_, ?_, ?_, ?_, ?_, ?_, ?_, ?_, ?_, ?_, ?_, ?_, ?_, ?_, ?_, ?_, ?_, ?_, ?_, ?_, ?_, ?_⟩
  · refine ⟨(tState (Dev.init)), 100, ?_, ?_⟩ <;>
      first | with_reducible rfl | decide +kernel | rfl
  · refine ⟨(tState ((Dev.init.put PWR_STAT_WARN onMod 1))), 20000, ?_, ?_⟩ <;>
      first | with_reducible rfl | decide +kernel | rfl
  · trivial
  · refine ⟨(tState (Dev.init)), 19000, ?_, ?_⟩ <;>
      first | with_reducible rfl | decide +kernel | rfl
  · refine ⟨(tState (({ Dev.init with pwr := { PwrG.init with off := 1, vin := false } } : Dev))), ?_⟩ <;>
      first | with_reducible rfl | decide +kernel | rfl
  · trivial
  · refine ⟨(tState (Dev.init)), ?_⟩ <;>
      first | with_reducible rfl | decide +kernel | rfl
  · refine ⟨(tState (Dev.init)), ?_⟩ <;>
      first | with_reducible rfl | decide +kernel | rfl
  · refine ⟨(tState (Dev.init)), ?_, ?_⟩ <;>
      first | with_reducible rfl | decide +kernel | rfl
  · refine ⟨(tState ((({ Dev.init with pwr := { PwrG.init with throttle := 4 } } : Dev).put PWR_STAT_PIN onMod 900))), ?_, ?_, ?_⟩ <;>
      first | with_reducible rfl | decide +kernel | rfl
  · refine ⟨(tState (Dev.init)), 401, 1, ?_, ?_, ?_⟩ <;>
      first | with_reducible rfl | decide +kernel | rfl
  · refine ⟨(tState (Dev.init)), 300, ?_, ?_⟩ <;>
      first | with_reducible rfl | decide +kernel | rfl
  · refine ⟨(tState (Dev.init)), 470, 1, (Dev.init.setTj 470 1), ?_, ?_, ?_, ?_⟩ <;>
      first | with_reducible rfl | decide +kernel | rfl
  · refine ⟨(tState (({ Dev.init with pwr := { PwrG.init with off := 3, cycled := true } } : Dev))), 300, ?_, ?_, ?_⟩ <;>
      first | with_reducible rfl | decide +kernel | rfl
  · refine ⟨(tState (Dev.init)), 1, 2, ?_, ?_, ?_⟩ <;>
      first | with_reducible rfl | decide +kernel | rfl
  · refine ⟨(tState ((Dev.init.setRegionState 6 domSTOP))), 1, 2, ?_, ?_, ?_, ?_⟩ <;>
      first | with_reducible rfl | decide +kernel | rfl
  · refine ⟨(tState (tSTOPW)), 1, 2, tSTOPE, ?_, ?_, ?_, ?_, ?_⟩ <;>
      first | with_reducible rfl | decide +kernel | rfl
  · refine ⟨(tState (({ Dev.init with pwr := { PwrG.init with cmd := [(1, (1, 2))] } } : Dev))), 1, 2, ?_, ?_⟩ <;>
      first | with_reducible rfl | decide +kernel | rfl
  · refine ⟨(tState ((Dev.init.setRegionState 6 domWAKING))), 2, ?_, ?_⟩ <;>
      first | with_reducible rfl | decide +kernel | rfl
  · refine ⟨(tState (Dev.init)), ?_, ?_⟩ <;>
      first | with_reducible rfl | decide +kernel | rfl
  · refine ⟨(tState (({ Dev.init with pwr := { PwrG.init with ref := false } } : Dev))), ?_, ?_, ?_⟩ <;>
      first | with_reducible rfl | decide +kernel | rfl
  · refine ⟨(tState (tHOLDW)), 0, ?_, ?_, ?_⟩ <;>
      first | with_reducible rfl | decide +kernel | rfl
  · refine ⟨(tState (({ Dev.init with pwr := { PwrG.init with off := 4, ref := false } } : Dev))), ?_⟩ <;>
      first | with_reducible rfl | decide +kernel | rfl

/-- Each clause of CompletionFault has its hypotheses met. -/
theorem witness_CompletionFault :
    (∃ (s : State) (slot : Nat) (unserviced : Bool) (r : FRec), s.pwr.off = 0 ∧ s.toDev.frec slot = some r ∧ r.state = 1 ∧ r.rung ≠ 0 ∧ s.toDev.condPresent r unserviced = true) ∧
    (∃ (s : State) (slot : Nat) (unserviced : Bool) (r : FRec) (n : Nat), s.pwr.off = 0 ∧ s.toDev.frec slot = some r ∧ r.state = 2 ∧ s.toDev.condPresent r unserviced = true ∧ nextRung r.loc r.rung r.ceiling = some n) ∧
    (∃ (s : State) (id : Fin 65536) (slot : Nat) (r : FRec), s.pwr.off = 0 ∧ s.toDev.recOf id.val = some (slot, r)) ∧
    (∃ (s : State) (id : Fin 65536) (slot : Nat) (r : FRec), s.pwr.off = 0 ∧ s.toDev.recOf id.val = some (slot, r) ∧ r.state = 1 ∧ r.rung ≠ 0) ∧
    (∃ (s : State), s.pwr.off = 0) ∧
    (∃ (s : State), s.pwr.off = 0 ∧ s.toDev.flt.holding = false) ∧
    (∃ (s : State), s.pwr.off = 0 ∧ s.toDev.flt.holding = true) ∧
    (∃ (s : State), s.pwr.off = 0) ∧
    (True) ∧
    (∃ (s : State), s.pwr.off = 0) ∧
    (∃ (s : State), s.pwr.off = 0) ∧
    (∃ (s : State), s.pwr.off = 0) ∧
    (∃ (s : State), s.pwr.off = 0) ∧
    (∃ (s : State) (kind : Nat), s.pwr.off = 0 ∧ kind = 1) ∧
    (∃ (s : State) (kind : Nat), s.pwr.off = 0 ∧ kind = 2) ∧
    (∃ (s : State) (q : Fin 4) (v : Word) (w : Word) (e : Dev), s.pwr.off = 0 ∧ KLN_CMD_GO.of (v ||| KLN_CMD_GO.mask) ≠ 0 ∧ w = v ||| KLN_CMD_GO.mask ∧ e = s.toDev.wrFields .KLN_CMD (onDie q.val) w ∧ s.toDev.kilnFails q.val (KLN_CMD_TEST.of w) (KLN_CMD_TARGET.of w) = none) ∧
    (∃ (s : State) (q : Fin 4) (fails : Nat) (t : Nat) (x : Nat) (n : Nat), s.pwr.off = 0 ∧ s.toDev.kilnRun q.val = some (t, x, n) ∧ fails = 0) := by
  refine ⟨?_, ?_, ?_, ?_, ?_, ?_, ?_, ?_, ?_, ?_, ?_, ?_, ?_, ?_, ?_, ?_, ?_⟩
  · refine ⟨(tState (({ Dev.init with flt := { FltG.init with recs := [(3, tRec)] } } : Dev))), 3, true, tRec, ?_, ?_, ?_, ?_, ?_⟩ <;>
      first | with_reducible rfl | decide +kernel | rfl
  · refine ⟨(tState (({ Dev.init with flt := { FltG.init with recs := [(3, { tRec with state := 2 })] } } : Dev))), 3, true, { tRec with state := 2 }, 4, ?_, ?_, ?_, ?_, ?_⟩ <;>
      first | with_reducible rfl | decide +kernel | rfl
  · refine ⟨(tState (({ Dev.init with flt := { FltG.init with recs := [(3, tRec)] } } : Dev))), 259, 3, tRec, ?_, ?_⟩ <;>
      first | with_reducible rfl | decide +kernel | rfl
  · refine ⟨(tState (({ Dev.init with flt := { FltG.init with recs := [(3, tRec)] } } : Dev))), 259, 3, tRec, ?_, ?_, ?_, ?_⟩ <;>
      first | with_reducible rfl | decide +kernel | rfl
  · refine ⟨(tState (Dev.init)), ?_⟩ <;>
      first | with_reducible rfl | decide +kernel | rfl
  · refine ⟨(tState (Dev.init)), ?_, ?_⟩ <;>
      first | with_reducible rfl | decide +kernel | rfl
  · refine ⟨(tState (({ Dev.init with flt := { FltG.init with holding := true } } : Dev))), ?_, ?_⟩ <;>
      first | with_reducible rfl | decide +kernel | rfl
  · refine ⟨(tState (Dev.init)), ?_⟩ <;>
      first | with_reducible rfl | decide +kernel | rfl
  · trivial
  · refine ⟨(tState (Dev.init)), ?_⟩ <;>
      first | with_reducible rfl | decide +kernel | rfl
  · refine ⟨(tState (Dev.init)), ?_⟩ <;>
      first | with_reducible rfl | decide +kernel | rfl
  · refine ⟨(tState (Dev.init)), ?_⟩ <;>
      first | with_reducible rfl | decide +kernel | rfl
  · refine ⟨(tState (Dev.init)), ?_⟩ <;>
      first | with_reducible rfl | decide +kernel | rfl
  · refine ⟨(tState (Dev.init)), 1, ?_, ?_⟩ <;>
      first | with_reducible rfl | decide +kernel | rfl
  · refine ⟨(tState (Dev.init)), 2, ?_, ?_⟩ <;>
      first | with_reducible rfl | decide +kernel | rfl
  · refine ⟨(tState (tKGO)), 1, tKGOV, (tKGOV ||| KLN_CMD_GO.mask), (tKGO.wrFields .KLN_CMD (onDie 1) (tKGOV ||| KLN_CMD_GO.mask)), ?_, ?_, ?_, ?_, ?_⟩ <;>
      first | with_reducible rfl | decide +kernel | rfl
  · refine ⟨(tState (({ Dev.init with kln := { KlnG.init with run := [(1, (7, 0, 1))] } } : Dev))), 1, 0, 7, 0, 1, ?_, ?_, ?_⟩ <;>
      first | with_reducible rfl | decide +kernel | rfl

/-- Each clause of CompletionPmc has its hypotheses met. -/
theorem witness_CompletionPmc :
    (∃ (s : State) (v : Word) (m : Nat), s.pwr.off = 0 ∧ (s.toDev.sys.formS && 0x10 ≤ PMC_SEL_BLOCK.of v && PMC_SEL_BLOCK.of v ≤ 0x14) = false ∧ pmcEvent (PMC_SEL_BLOCK.of v) (PMC_SEL_INSTANCE.of v) (PMC_SEL_EVENT.of v) = some m ∧ PMC_SEL_FILTER.of v &&& m = PMC_SEL_FILTER.of v) ∧
    (∃ (s : State), s.pwr.off = 0) ∧
    (∃ (s : State) (path : Path) (q : Fin 4) (k : Fin 256), s.pwr.off = 0 ∧ k.val % 2 = 0 ∧ (s.toDev.emit (.readValue (pathOut path) (s.toDev.shown .PMC_CNT q.val k.val))).chained q.val (k.val + 1) = true) ∧
    (∃ (s : State) (q : Fin 4) (k : Fin 256), s.pwr.off = 0 ∧ s.toDev.bit PMC_SEL_EN ⟨q.val, k.val⟩ = true ∧ s.toDev.chained q.val k.val = false) ∧
    (∃ (s : State), s.pwr.off = 0) ∧
    (∃ (s : State), s.pwr.off = 0 ∧ s.toDev.get PMC_TRIG_PERIOD onMod ≠ 0) ∧
    (∃ (s : State) (ok : Bool) (s2 : Snap), s.pwr.off = 0 ∧ s.toDev.pmc.snap = some s2 ∧ s2.stalled = false ∧ s2.written ≠ 0 ∧ ok = true) ∧
    (∃ (s : State) (v : Word), s.pwr.off = 0 ∧ idx32 v.toNat (s.toDev.get PMC_RINGCI_CI onMod) ≤ idx32 (s.toDev.get PMC_RINGPI_PI onMod) (s.toDev.get PMC_RINGCI_CI onMod)) ∧
    (∃ (s : State) (v : Word) (w : Word), s.pwr.off = 0 ∧ w = v ||| PMC_RINGCTL_EN.mask ∧ PMC_RINGCTL_PATH.of w = 0 ∧ PMC_RINGCTL_EN.of w = 1) := by
  refine ⟨?_, ?_, ?_, ?_, ?_, ?_, ?_, ?_, ?_⟩
  · refine ⟨(tState (Dev.init)), tPSELV, tPSELM, ?_, ?_, ?_, ?_⟩ <;>
      first | with_reducible rfl | decide +kernel | rfl
  · refine ⟨(tState (Dev.init)), ?_⟩ <;>
      first | with_reducible rfl | decide +kernel | rfl
  · refine ⟨(tState ((Dev.init.put PMC_SEL_CHAIN ⟨1, 1⟩ 1))), .mgmt, 1, 0, ?_, ?_, ?_⟩ <;>
      first | with_reducible rfl | decide +kernel | rfl
  · refine ⟨(tState ((Dev.init.put PMC_SEL_EN ⟨1, 0⟩ 1))), 1, 0, ?_, ?_, ?_⟩ <;>
      first | with_reducible rfl | decide +kernel | rfl
  · refine ⟨(tState (Dev.init)), ?_⟩ <;>
      first | with_reducible rfl | decide +kernel | rfl
  · refine ⟨(tState ((Dev.init.put PMC_TRIG_PERIOD onMod 5))), ?_, ?_⟩ <;>
      first | with_reducible rfl | decide +kernel | rfl
  · refine ⟨(tState (tSNPW)), true, ⟨0, [], 2, 1, 1, false⟩, ?_, ?_, ?_, ?_, ?_⟩ <;>
      first | with_reducible rfl | decide +kernel | rfl
  · refine ⟨(tState (Dev.init)), 0#64, ?_, ?_⟩ <;>
      first | with_reducible rfl | decide +kernel | rfl
  · refine ⟨(tState (Dev.init)), 0#64, PMC_RINGCTL_EN.mask, ?_, ?_, ?_, ?_⟩ <;>
      first | with_reducible rfl | decide +kernel | rfl

/-- Each clause of CompletionAccess has its hypotheses met. -/
theorem witness_CompletionAccess :
    (∃ (s : State) (via : Via) (a : Nat) (v : Word), s.pwr.off = 0 ∧ (¬ (via.path = .mgmt ∧ s.toDev.boot.step = 0)) ∧ via.path.isBar = false ∧ via.whole = true ∧ s.toDev.serves ⟨via.path, a, some v, 0, 0⟩) ∧
    (∃ (s : State) (via : Via), s.pwr.off = 0 ∧ via.path.isBar = false ∧ via.whole = false) ∧
    (∃ (s : State) (via : Via) (h : Fin 5) (f : Fin 256) (b : Fin 3), s.pwr.off = 0 ∧ via.path = .bar h f b) ∧
    (∃ (s : State) (via : Via) (a : Nat), s.pwr.off = 0 ∧ (¬ (via.path = .mgmt ∧ s.toDev.boot.step = 0)) ∧ via.path.isBar = false ∧ via.whole = true ∧ s.toDev.serves ⟨via.path, a, none, 0, 0⟩) ∧
    (∃ (s : State) (via : Via), s.pwr.off = 0 ∧ via.path.isBar = false ∧ via.whole = false) ∧
    (∃ (s : State) (via : Via) (h : Fin 5) (f : Fin 256) (b : Fin 3), s.pwr.off = 0 ∧ via.path = .bar h f b) ∧
    (∃ (s : State) (w : Fin 5) (set : Option Word) (whole : Bool) (a : Nat), s.pwr.off = 0 ∧ s.toDev.windowLive w.val = true ∧ ((w.val = 0 ∧ s.toDev.boot.step = 0) = False) ∧ set = none ∧ whole = true ∧ a = s.toDev.windowAddr w.val % 2 ^ 36) ∧
    (∃ (s : State) (w : Fin 5) (set : Option Word) (whole : Bool) (a : Nat), s.pwr.off = 0 ∧ s.toDev.windowLive w.val = true ∧ ((w.val = 0 ∧ s.toDev.boot.step = 0) = False) ∧ set = none ∧ whole = true ∧ a = s.toDev.windowAddr w.val % 2 ^ 36) ∧
    (∃ (s : State) (op : Nat), s.pwr.off = 0 ∧ op = 1) ∧
    (∃ (s : State) (op : Nat), s.pwr.off = 0 ∧ op = 2) ∧
    (∃ (s : State), s.pwr.off = 0) ∧
    (∃ (s : State) (adr : Nat), adr = 0x58 + s.toDev.sys.straps ∧ s.toDev.pwr.vin = true) := by
  refine ⟨?_, ?_, ?_, ?_, ?_, ?_, ?_, ?_, ?_, ?_, ?_, ?_⟩
  · refine ⟨(tState (tMRUN)), ⟨.mgmt, true⟩, tRWA, 5#64, ?_, ?_, ?_, ?_, ?_⟩ <;>
      first | with_reducible rfl | decide +kernel | rfl
  · refine ⟨(tState (Dev.init)), ⟨.mgmt, false⟩, ?_, ?_, ?_⟩ <;>
      first | with_reducible rfl | decide +kernel | rfl
  · refine ⟨(tState (Dev.init)), ⟨.bar 1 3 1, true⟩, 1, 3, 1, ?_, ?_⟩ <;>
      first | with_reducible rfl | decide +kernel | rfl
  · refine ⟨(tState (tMRUN)), ⟨.mgmt, true⟩, tRWA, ?_, ?_, ?_, ?_, ?_⟩ <;>
      first | with_reducible rfl | decide +kernel | rfl
  · refine ⟨(tState (Dev.init)), ⟨.mgmt, false⟩, ?_, ?_, ?_⟩ <;>
      first | with_reducible rfl | decide +kernel | rfl
  · refine ⟨(tState (Dev.init)), ⟨.bar 1 3 1, true⟩, 1, 3, 1, ?_, ?_⟩ <;>
      first | with_reducible rfl | decide +kernel | rfl
  · refine ⟨(tState (Dev.init)), 0, none, true, 0, ?_, ?_, ?_, ?_, ?_, ?_⟩ <;>
      first | with_reducible rfl | decide +kernel | rfl
  · refine ⟨(tState (Dev.init)), 0, none, true, 0, ?_, ?_, ?_, ?_, ?_, ?_⟩ <;>
      first | with_reducible rfl | decide +kernel | rfl
  · refine ⟨(tState (Dev.init)), 1, ?_, ?_⟩ <;>
      first | with_reducible rfl | decide +kernel | rfl
  · refine ⟨(tState (Dev.init)), 2, ?_, ?_⟩ <;>
      first | with_reducible rfl | decide +kernel | rfl
  · refine ⟨(tState (Dev.init)), ?_⟩ <;>
      first | with_reducible rfl | decide +kernel | rfl
  · refine ⟨(tState (Dev.init)), 88, ?_, ?_⟩ <;>
      first | with_reducible rfl | decide +kernel | rfl

/-- A state with a command in front. -/
theorem witness_StepRunsFront : ({ tState tInit with pending := [.fenceRefresh] } : State).pending = Instr.fenceRefresh :: [] := rfl


/-- The reset state has an empty queue and no enabled counter. -/
theorem witness_StepIdles : State.reset.pending = [] ∧ (∀ q < 4, State.reset.toDev.pmcEnabled q = []) := ⟨rfl, by decide⟩


/-- Counter 3 of die 1 counts the throttle's cycles. -/
theorem witness_CyclesCounted :
    let d := (((tInit.put PMC_SEL_EN ⟨1, 3⟩ 1).put PMC_SEL_BLOCK ⟨1, 3⟩ blkPWR).put PMC_SEL_EVENT ⟨1, 3⟩ 1)
    d.pwr.off = 0 ∧ d.dieState 1 ≠ domSTOP ∧ (∀ i < 4, d.pmcEnabled i = if i = 1 then [3] else []) ∧ d.chained 1 3 = false := by
  decide


/-- A command that answers a next state. -/
theorem witness_ExecKeepsQueue : ∃ t, exec .fenceRefresh (tState tInit) = .next t := ⟨_, rfl⟩


/-- The reset state is canonical, and a step of it answers a next state. -/
theorem witness_StepKeepsCanonical : State.reset.tablesWf = true ∧ ∃ t, step State.reset = .next t := ⟨by decide, _, rfl⟩


/-- Bit 63 of LNK_CTRL is in no field. -/
theorem witness_FieldWrites : (∃ f, f ∈ Reg.flds .LNK_CTRL) ∧ ∀ f ∈ Reg.flds .LNK_CTRL, ¬ (f.lo ≤ 63 ∧ 63 < f.lo + f.w) := ⟨⟨_, List.mem_cons_self⟩, by decide⟩


/-- SAG_TOKCMD has a WO field. -/
theorem witness_ReservedBitsReadZero : ∃ f ∈ Reg.flds .SAG_TOKCMD, f.acc = .wo := by decide


/-- LNK_ACKERR is such a register, with an RC field. -/
theorem witness_CountersSaturate : Reg.LNK_ACKERR ≠ .SAG_CHAL ∧ Reg.LNK_ACKERR ≠ .PMC_CNT ∧ Reg.LNK_ACKERR ≠ .SAG_WIPE ∧
    ∃ f ∈ Reg.flds .LNK_ACKERR, f.acc = .rc := by decide


/-- A module that is off, and a command that only a powered module serves. -/
theorem witness_UnpoweredDoesNothing : (tState { tInit with pwr := { tInit.pwr with off := 3 } }).pwr.off ≠ 0 ∧
    (match Instr.fenceRefresh with
      | .moduleReset _ | .vinReset | .vinWarn _ | .vinWarnRelease _ | .vinOvervoltage _ | .vinReturn | .vstbyChange _ | .thermalRestart _ | .refclkArrival
      | .smbusRead _ _ | .faultnHoldEnd => False
      | _ => True) := ⟨by decide, trivial⟩


/-- An invalid map; a valid map with a port that is up; a valid map on idle ports. -/
theorem witness_ClusterMapWrites :
    mapValid (LAN_CLMAP_WIDTHS.of 0x0#64) = false ∧
    (mapValid (LAN_CLMAP_WIDTHS.of 0x5555#64) = true ∧
      ¬ (∀ i < 8, mapCode ((tInit.put LNK_STAT_STATE (onLane 0) UP).get LAN_CLMAP_WIDTHS ⟨0, 0⟩) i ≠ 0 ∨ mapCode (LAN_CLMAP_WIDTHS.of 0x5555#64) i ≠ 0 →
        (tInit.put LNK_STAT_STATE (onLane 0) UP).lstate i = DISABLED ∨ (tInit.put LNK_STAT_STATE (onLane 0) UP).lstate i = OUT_OF_SERVICE)) ∧
    (∀ i < 8, mapCode (tInit.get LAN_CLMAP_WIDTHS ⟨0, 0⟩) i ≠ 0 ∨ mapCode (LAN_CLMAP_WIDTHS.of 0x5555#64) i ≠ 0 →
        tInit.lstate i = DISABLED ∨ tInit.lstate i = OUT_OF_SERVICE) := by
  refine ⟨by decide, ⟨by decide, ?_⟩, ?_⟩ <;> decide +kernel


/-- An ACK at either end of a window of two flits, and one outside it. -/
theorem witness_AcknowledgeWindow :
    let l : Link := { Link.init with oldest := 32767, window := [tSent, tSent] }
    l.window.length ≤ 16384 ∧ l.ackCount 32767 = some 0 ∧ l.ackCount 1 = some 2 ∧ l.ackCount 2 = none := by decide


/-- Port 0, up; port 0, which drains in RETRAIN. -/
theorem witness_ReleaseRefused : (tInit.put LNK_STAT_STATE (onLane 0) UP).pexists 0 = true ∧ (tInit.put LNK_STAT_STATE (onLane 0) UP).lstate 0 = UP ∧
    (let d := (tInit.put LNK_STAT_STATE (onLane 0) RETRAIN).put LNK_STAT_DRAINING (onLane 0) 1
     d.pexists 0 = true ∧ d.lstate 0 ≠ UP ∧ d.draining 0 = true) := by
  decide +kernel


/-- At reset every bridge is up and every die serves. -/
theorem witness_BridgeRoutes : (∀ q e : Fin 4, tInit.bridgeUp q.val e.val = true) ∧ (∀ q : Fin 4, tInit.dieAway q.val = false) := by decide +kernel


/-- No bank is valid at reset. -/
theorem witness_RouteReadsBack : tInit.bankValid 3 1 = false := by decide +kernel


/-- A fence of generation 0 supersedes nowhere. -/
theorem witness_FenceOrder : ∀ q : Fin 4, pairAbove (0, 0) (tInit.fencePair q.val (epNode 0)) = false := by decide +kernel


/-- A free queue; a queue with two entries unread, at its last accepted index and one beyond. -/
theorem witness_ConsumerDoorbells :
    tInit.globalOf 1 0 kCQ 0 = some 0 ∧ tInit.queue 1 kCQ 0 = none ∧
    (let d := tInit.setQueue 1 kCQ 0 { tQueue with pi := 1, ci := 4294967295 }
     d.globalOf 1 0 kCQ 0 = some 0 ∧ d.queue 1 kCQ 0 = some { tQueue with pi := 1, ci := 4294967295 } ∧
     idx32 1 4294967295 ≤ idx32 1 4294967295 ∧ idx32 1 4294967295 < idx32 2 4294967295) := by decide +kernel


/-- A work queue bound to completion queue 0. -/
theorem witness_AdmissionBound : (tInit.setQueue 1 kCQ 0 tQueue).cqOf 1 tQueue = some (0, tQueue) := by decide +kernel


/-- A request of no context; a PUT that is done; a PUT beyond the window; a new PUT on a connection in ERROR. -/
theorem witness_DuplicatesNeverExecute :
    tInit.ctxOf 1 tKPUT = none ∧ tKPUT.type ≠ tGET_REQ ∧
    (∃ x, tRG.ctxOf 1 { tKPUT with psn := 4294967295 } = some x ∧ x.isDone 4294967295 = true) ∧
    (∃ x, tRG.ctxOf 1 { tKPUT with psn := 2000 } = some x ∧ x.isDone 2000 = false ∧ winOf x.rxwin < psnDist 2000 x.dm) ∧
    (∃ x, (tRG.setConn 262144 { tConn with state := connERROR }).ctxOf 1 tKPUT = some x ∧ x.state = connERROR ∧ x.isDone tKPUT.psn = false) := by
  refine ⟨by decide +kernel, by decide +kernel, ⟨_, rfl, ?_⟩, ⟨_, rfl, ?_⟩, ⟨_, rfl, ?_⟩⟩ <;> decide +kernel


/-- Nothing is posted; one entry is posted that takes any tag and source of context 0. -/
theorem witness_LowestStampMatches :
    tInit.postedMatch 1 0 0 0 0 = none ∧
    ({ (tInit.setOp 4 tTrecvAny) with hst := { (tInit.setOp 4 tTrecvAny).hst with posted := [(256, [4])] } } : Dev).postedMatch 1 0 0 7 9 = some (4, tTrecvAny) := by
  decide +kernel


/-- A level with one entry. -/
theorem witness_LoadedPagesApart :
    tXlt.l2 1 ≠ [] ∧ (tXlt.l2 1).Pairwise (fun x y => x.overlaps y.space y.va (y.va + 2 ^ y.size) = false) := by decide +kernel


/-- A SECURED module without an operator key, reached by the management port and by JTAG. -/
theorem witness_OperatorKeyOnce : tInit.tokBusy = false ∧ tInit.lifeCycle = 2 ∧ tInit.sys.opkey = none ∧ ¬ (Path.jtag = .mgmt) := by decide +kernel


/-- FLASH_WE is 0 at reset; with it, the directory, FACTORY and the active slot are protected at their first and last bytes. -/
theorem witness_FlashProtected :
    tInit.bit CFG_FLASHCMD_BUSY onMod = false ∧ tInit.get CFG_CTRL_FLASH_WE onMod = 0 ∧
    CFG_FLASHCMD_ADDR.of (CFG_FLASHCMD_ADDR.ins 0 0xFFF00) < 0x100000 ∧
    (0x100000 ≤ CFG_FLASHCMD_ADDR.of (CFG_FLASHCMD_ADDR.ins 0 0x100000) ∧ tInit.lifeCycle ≠ 1) ∧
    CFG_FLASHCMD_ADDR.of (CFG_FLASHCMD_ADDR.ins 0 0x100000) % 65536 = 0 := by decide +kernel


/-- The limit is 7 at reset. -/
theorem witness_ThermalLimitMoves : tInit.thermalLimit ≤ 7 ∧ 0 < tInit.thermalLimit := by decide +kernel


/-- No record at reset. -/
theorem witness_AcknowledgeUnknownRecord : tInit.recOf 0 = none ∧ tInit.recOf 65535 = none := by decide +kernel


/-- Before and within the millisecond. -/
theorem witness_FaultPin : tInit.flt.holding = false ∧ { tInit.flt with holding := true }.holding = true := by decide +kernel


/-- A host port's write to the SAG block; form S and a block that is fused off, its first and last. -/
theorem witness_PathRefusal :
    tInit.pathMay (.host 1) (0x20 * 2 ^ 26) true = false ∧ tInit.get FLT_ACCERR_VALID onMod = 0 ∧ adrBlk (0x20 * 2 ^ 26) = 0x20 ∧
    ({ tInit with sys := { tInit.sys with formS := true } } : Dev).sys.formS = true ∧ adrBlk (0x10 * 2 ^ 26) = 0x10 ∧ adrBlk (0x14 * 2 ^ 26) = 0x14 := by
  decide +kernel


/-- A region reset during a reset of its die. -/
theorem witness_ResetScopes :
    ((locRegion 5).level ≤ 3 ∧ ∃ r ∈ ({ tInit with flt := { tInit.flt with resets := [locDie 1] } } : Dev).flt.resets, r.contains (locRegion 5) = true) ∧
    (∀ m < 16, tInit.regionState m ≠ domWAKING) ∧ (∀ q < 4, tInit.dieState q ≠ domWAKING) := by
  decide +kernel


/-- A powered module on which nothing is due after each command. -/
theorem witness_LaneFrames :
    (tInit.txeq 7 0x0#64).quiet ∧ (tInit.acquireLock 7 false 3).quiet ∧ (tInit.checkerLock 7).quiet ∧ (tInit.checkerLoss 7 5).quiet ∧
    (tInit.eyeStart 7 0x1#64).quiet ∧ (tInit.eyeDone 7 5).quiet := by
  refine ⟨?_, ?_, ?_, ?_, ?_, ?_⟩ <;> decide +kernel


/-- A module on which nothing is due before or after each write. -/
theorem witness_SetupFrames :
    tInit.quiet ∧ (tInit.keyrightsWrite 1 9 0x5#64).quiet ∧ (tInit.fnqWrite 1 7 2 0x0#64).quiet ∧ (tInit.queueQuery 1 7).quiet ∧
    (tInit.spaceWrite 1 9 false 0x1#64).quiet ∧ (tInit.spaceWrite 1 9 true 0x1000#64).quiet ∧ (tInit.shareWrite 8 0x200#64).quiet ∧
    (tInit.fwdInj 1 0x1000100#64).quiet := by
  refine ⟨?_, ?_, ?_, ?_, ?_, ?_, ?_, ?_⟩ <;> decide +kernel


/-- A module on which nothing is due after each write. -/
theorem witness_TableFrames :
    (tInit.routeWrite 3 1 5 0x1#64).quiet ∧ (tInit.psetWrite 3 1 5 3 0x1#64).quiet ∧ (tInit.groupWrite 3 5 2 0x1#64).quiet ∧ (tInit.gateWrite 4 1 5 0x1#64).quiet := by
  refine ⟨?_, ?_, ?_, ?_⟩ <;> decide +kernel


/-- The longest control packet, and the longest data packet. -/
theorem witness_PacketsReadBack :
    (∃ c : Packet, c.control = true ∧ c.inc = 0 ∧ c.oper.length = 24 ∧ c.payload = [] ∧ c.tag = 2 ^ 64 - 1 ∧ c.type < 64 ∧ c.tc < 16 ∧ c.epoch < 2 ∧
      c.cmark = false ∧ c.dest < 2 ^ 25 ∧ c.src < 2 ^ 25 ∧ c.dconn < 2 ^ 20 ∧ c.opflags < 128 ∧ c.psn < 2 ^ 32) ∧
    (∃ c : Packet, c.control = false ∧ c.oper.length = 16 ∧ c.payload.length = 4096 ∧ c.tag = 2 ^ 128 - 1 ∧ c.type < 64 ∧ c.tc < 16 ∧ c.epoch < 2 ∧
      c.cmark = false ∧ c.dest < 2 ^ 25 ∧ c.src < 2 ^ 25 ∧ c.dconn < 2 ^ 20 ∧ c.opflags < 128 ∧ c.psn < 2 ^ 32 ∧ c.inc < 2 ^ 32) :=
  ⟨⟨{ tPacket with control := true, inc := 0, oper := List.replicate 24 255#8, payload := [], tag := 2 ^ 64 - 1 }, by decide⟩,
   ⟨{ tPacket with control := false, oper := List.replicate 16 255#8, payload := List.replicate 4096 1#8, tag := 2 ^ 128 - 1 },
    rfl, rfl, List.length_replicate, rfl, by decide⟩⟩


/-- A packet of two flits. -/
theorem witness_PcrcMutable : ([0] : List Body) ≠ [] := by decide


end Sys2Proof.Tests
end

/-! # R37: what a write of a cluster map does -/

namespace Sys2Proof.Machine

/-- Every port that a map starts in a cluster is at `8 c + i` for a lane i whose code is not 0. -/
theorem mem_mapPorts {c widths p : Nat} : p ∈ mapPorts c widths ↔ ∃ i < 8, mapCode widths i ≠ 0 ∧ 8 * c + i = p := by
  simp [mapPorts, and_assoc]

/-- R37: the two link states that let a cluster be mapped anew. -/
theorem Dev.portIdle_iff {d : Dev} {p : Nat} : d.portIdle p = true ↔ d.lstate p = DISABLED ∨ d.lstate p = OUT_OF_SERVICE := by
  simp [Dev.portIdle]

/-- The ports under two maps are idle when every lane that starts a port under either of them is. -/
theorem Dev.all_portIdle_mapPorts {d : Dev} {c old new : Nat} :
    (mapPorts c old ++ mapPorts c new).all d.portIdle = true ↔
      ∀ i < 8, mapCode old i ≠ 0 ∨ mapCode new i ≠ 0 → d.lstate (8 * c + i) = DISABLED ∨ d.lstate (8 * c + i) = OUT_OF_SERVICE := by
  simp only [List.all_eq_true, List.mem_append, mem_mapPorts, Dev.portIdle_iff]
  constructor
  · rintro h i hi (ho | hn)
    · exact h _ (.inl ⟨i, hi, ho, rfl⟩)
    · exact h _ (.inr ⟨i, hi, hn, rfl⟩)
  · rintro h _ (⟨i, hi, ho, rfl⟩ | ⟨i, hi, hn, rfl⟩)
    · exact h i hi (.inl ho)
    · exact h i hi (.inr hn)

/-- An invalid map. -/
theorem Dev.clusterMap_of_invalid (d : Dev) (c : Nat) (v : Word) (hv : mapValid (LAN_CLMAP_WIDTHS.of v) = false) :
    d.clusterMap c v = d.put LAN_CLMAP_STATUS ⟨c / 16, c % 16⟩ ST_BAD_PARAM := by
  simp [Dev.clusterMap, hv]

/-- A valid map while a port under the old or the new map is in service. -/
theorem Dev.clusterMap_of_busy (d : Dev) (c : Nat) (v : Word) (hv : mapValid (LAN_CLMAP_WIDTHS.of v) = true)
    (hb : (mapPorts c (d.get LAN_CLMAP_WIDTHS ⟨c / 16, c % 16⟩) ++ mapPorts c (LAN_CLMAP_WIDTHS.of v)).all d.portIdle ≠ true) :
    d.clusterMap c v = d.put LAN_CLMAP_STATUS ⟨c / 16, c % 16⟩ ST_BUSY_IN_SERVICE := by
  simp only [Dev.clusterMap, hv, eq_false_of_ne_true hb, Bool.not_true, Bool.not_false, Bool.false_eq_true, if_false, if_true]

/-- A valid map on idle ports: whatever becomes of the ports that cease to exist (R38), WIDTHS and STATUS are put last. -/
theorem Dev.clusterMap_of_idle (d : Dev) (c : Nat) (v : Word) (hv : mapValid (LAN_CLMAP_WIDTHS.of v) = true)
    (hi : (mapPorts c (d.get LAN_CLMAP_WIDTHS ⟨c / 16, c % 16⟩) ++ mapPorts c (LAN_CLMAP_WIDTHS.of v)).all d.portIdle = true) :
    ∃ e : Dev, d.clusterMap c v =
      (e.put LAN_CLMAP_WIDTHS ⟨c / 16, c % 16⟩ (LAN_CLMAP_WIDTHS.of v)).put LAN_CLMAP_STATUS ⟨c / 16, c % 16⟩ ST_OK := by
  simp only [Dev.clusterMap, hv, hi, Bool.not_true, Bool.false_eq_true, if_false]
  exact ⟨_, rfl⟩

/-- A refusal: STATUS alone changes, and records the reason. -/
theorem Dev.put_clmapStatus (d : Dev) (a : At) (st : Nat) (ha : a.die < 4) (hs : st < 256) :
    d.onlyFields (d.put LAN_CLMAP_STATUS a st) [(LAN_CLMAP_STATUS, a)] ∧ (d.put LAN_CLMAP_STATUS a st).get LAN_CLMAP_STATUS a = st :=
  ⟨Dev.onlyFields_put d LAN_CLMAP_STATUS a st _ (by decide) ha (List.mem_singleton_self _),
    (Dev.get_put d LAN_CLMAP_STATUS a st (by decide)).trans (Nat.mod_eq_of_lt hs)⟩

/-- The last two puts of a map that is applied. -/
theorem Dev.get_put_clmap (d : Dev) (a : At) (v : Word) :
    let e := (d.put LAN_CLMAP_WIDTHS a (LAN_CLMAP_WIDTHS.of v)).put LAN_CLMAP_STATUS a ST_OK
    e.get LAN_CLMAP_WIDTHS a = LAN_CLMAP_WIDTHS.of v ∧ e.get LAN_CLMAP_STATUS a = ST_OK := by
  refine ⟨?_, Dev.get_put _ LAN_CLMAP_STATUS a ST_OK (by decide)⟩
  rw [Dev.get_put_field _ LAN_CLMAP_WIDTHS LAN_CLMAP_STATUS a ST_OK rfl (by decide) (.inl (by decide)),
    Dev.get_put _ LAN_CLMAP_WIDTHS a _ (by decide)]
  exact Nat.mod_mod _ _

/-- Settles O36: the three outcomes of the model's write, by validity and by the ports under both maps. -/
theorem clusterMapWrites : Obligations.ClusterMapWrites := by
  intro d c v a idle
  have ha : a.die < 4 := by show c.val / 16 < 4; omega
  refine ⟨fun hv => ?_, fun hv hb => ?_, fun hv hi => ?_⟩
  · rw [d.clusterMap_of_invalid c v hv]
    exact d.put_clmapStatus a ST_BAD_PARAM ha (by decide)
  · rw [d.clusterMap_of_busy c v hv (mt Dev.all_portIdle_mapPorts.1 hb)]
    exact d.put_clmapStatus a ST_BUSY_IN_SERVICE ha (by decide)
  · obtain ⟨e, he⟩ := d.clusterMap_of_idle c v hv (Dev.all_portIdle_mapPorts.2 hi)
    rw [he]
    exact e.get_put_clmap a v

end Sys2Proof.Machine

/-! # R235: what a doorbell of a completion or event queue does -/

namespace Sys2Proof.Machine

/-! ## What leaves the table of queues as it is -/

theorem Dev.when_queues {g : Dev → Dev} (hg : ∀ d, (g d).hst.queues = d.hst.queues) (d : Dev) (c : Bool) :
    (d.when c g).hst.queues = d.hst.queues := by
  cases c
  · rfl
  · exact hg d

theorem Dev.each_queues {α : Type} {g : α → Dev → Dev} (hg : ∀ x d, (g x d).hst.queues = d.hst.queues) (d : Dev) (l : List α) :
    (d.each l g).hst.queues = d.hst.queues := by
  unfold Dev.each
  induction l generalizing d with
  | nil => rfl
  | cons x t ih => exact (ih (g x d)).trans (hg x d)

@[simp] theorem Dev.msixSend_queues (d : Dev) (q f v : Nat) : (d.msixSend q f v).hst.queues = d.hst.queues := by
  unfold Dev.msixSend
  dsimp only
  split <;> rfl

@[simp] theorem Dev.snapTrigger_queues (d : Dev) (cause : Nat) : (d.snapTrigger cause).hst.queues = d.hst.queues := by
  unfold Dev.snapTrigger
  repeat' split
  all_goals rfl

@[simp] theorem Dev.pmcWrap_queues (d : Dev) (q k : Nat) : (d.pmcWrap q k).hst.queues = d.hst.queues := by
  simp [Dev.pmcWrap, Dev.when_queues]

@[simp] theorem Dev.pmcAdd_queues (d : Dev) (q k n : Nat) : (d.pmcAdd q k n).hst.queues = d.hst.queues := by
  unfold Dev.pmcAdd
  dsimp only
  split
  · rfl
  · repeat' split
    all_goals simp [Dev.when_queues]

@[simp] theorem Dev.event_queues (d : Dev) (q blk inst ev mask n : Nat) : (d.event q blk inst ev mask n).hst.queues = d.hst.queues :=
  Dev.each_queues (fun _ e => Dev.when_queues (fun _ => Dev.pmcAdd_queues ..) e _) d _

@[simp] theorem Dev.hostEntry_queues (d : Dev) (q f ba n : Nat) (data : List Byte) : (d.hostEntry q f ba n data).hst.queues = d.hst.queues :=
  Dev.event_queues ..

@[simp] theorem Dev.lookupEnt_queues (d : Dev) (q : Nat) (a : XAcc) : (d.lookupEnt q a).1.hst.queues = d.hst.queues := by
  unfold Dev.lookupEnt
  dsimp only
  split
  · simp only [Dev.event_queues]
  · split <;> simp [Dev.setL1]

@[simp] theorem Dev.translate_queues (d : Dev) (q : Nat) (a : XAcc) : (d.translate q a).1.hst.queues = d.hst.queues := by
  have hl := d.lookupEnt_queues q a
  unfold Dev.translate
  split
  · rfl
  · split <;> next h =>
      rw [h] at hl
      repeat' split
      all_goals exact hl

@[simp] theorem Dev.takeSlot_queues (d : Dev) (q slot : Nat) (a : XAcc) (cause : Nat) (c : Cont) :
    (d.takeSlot q slot a cause c).hst.queues = d.hst.queues := by
  simp [Dev.takeSlot, Dev.setPend]

@[simp] theorem Dev.trapInit_queues (d : Dev) (q : Nat) (a : XAcc) (cause : Nat) (c : Cont) :
    (d.trapInit q a cause c).hst.queues = d.hst.queues := by
  unfold Dev.trapInit
  split
  · exact Dev.takeSlot_queues ..
  · rfl

/-! ## What leaves every CI and state as it is -/

/-- CI and the state of the queue at a key. -/
def cursors (t : Tab Queue) (j : Nat) : Option (Nat × Nat) := (Tab.find t j).map (fun x => (x.ci, x.state))

theorem Dev.cursors_of_queue {d : Dev} {q k n : Nat} {x : Queue} (h : d.queue q k n = some x) :
    cursors d.hst.queues (qKey q k n) = some (x.ci, x.state) :=
  congrArg (Option.map _) h

theorem Dev.queue_of_cursors {d : Dev} {q k n c st : Nat} (h : cursors d.hst.queues (qKey q k n) = some (c, st)) :
    ∃ y, d.queue q k n = some y ∧ y.ci = c ∧ y.state = st := by
  simpa [cursors, Dev.queue] using h

theorem cursors_put_same (t : Tab Queue) (j : Nat) (y : Queue) : cursors (Tab.put t j y) j = some (y.ci, y.state) := by
  simp [cursors]

/-- A queue is replaced by one of the same CI and state. -/
theorem Dev.setQueue_cursors {d : Dev} {q k n : Nat} {y : Queue} (h : cursors d.hst.queues (qKey q k n) = some (y.ci, y.state)) :
    cursors (d.setQueue q k n y).hst.queues = cursors d.hst.queues := by
  funext j
  by_cases hj : j = qKey q k n
  · rw [hj, h]
    exact cursors_put_same ..
  · exact congrArg (Option.map _) (Tab.find_put_other _ _ _ _ hj)

theorem Dev.modQueue_cursors {q k n : Nat} {g : Queue → Queue} (hg : ∀ x, (g x).ci = x.ci ∧ (g x).state = x.state) (d : Dev) :
    cursors (d.modQueue q k n g).hst.queues = cursors d.hst.queues := by
  unfold Dev.modQueue
  split
  · next x hx =>
    refine Dev.setQueue_cursors ?_
    rw [(hg x).1, (hg x).2]
    exact Dev.cursors_of_queue hx
  · rfl

/-- The write of a ring moves PI, or marks the queue that waits or failed. -/
theorem Dev.ringWrite_cursors {d : Dev} {q k n : Nat} {x : Queue} (hx : d.queue q k n = some x) (entry : Nat) :
    cursors (d.ringWrite q k n x entry).1.hst.queues = cursors d.hst.queues := by
  have hc := Dev.cursors_of_queue hx
  have ht := d.translate_queues q (d.ringAccess q n x)
  unfold Dev.ringWrite
  split <;> next h =>
    simp only [h] at ht
    simp only [Dev.trapInit_queues, Dev.inc_hst]
    rw [Dev.setQueue_cursors] <;> simp [ht, hc]

@[simp] theorem Dev.fireIrq_cursors (d : Dev) (q n : Nat) : cursors (d.fireIrq q n).hst.queues = cursors d.hst.queues := by
  unfold Dev.fireIrq
  split
  · rfl
  · next x hx =>
    have hc := Dev.cursors_of_queue hx
    split <;> rw [Dev.setQueue_cursors] <;> simp [hc]

@[simp] theorem Dev.eqNotify_cursors (d : Dev) (q n : Nat) : cursors (d.eqNotify q n).hst.queues = cursors d.hst.queues := by
  unfold Dev.eqNotify
  split
  · next x hx =>
    split
    · rw [Dev.fireIrq_cursors, Dev.setQueue_cursors]; exact (Dev.cursors_of_queue hx :)
    · rfl
  · rfl

@[simp] theorem Dev.raiseLater_cursors (d : Dev) (q n : Nat) (e : Ev) : cursors (d.raiseLater q n e).hst.queues = cursors d.hst.queues := by
  unfold Dev.raiseLater
  split
  · rfl
  · next x hx =>
    split
    · rfl
    · rw [Dev.when_queues (g := (·.inc .QUE_EQHOLD (onDie q))) (fun _ => rfl), Dev.setQueue_cursors]; exact (Dev.cursors_of_queue hx :)

@[simp] theorem Dev.writeEvents_cursors (d : Dev) (q n fuel : Nat) :
    cursors (d.writeEvents q n fuel).hst.queues = cursors d.hst.queues := by
  induction fuel generalizing d with
  | zero => rfl
  | succ fuel ih =>
    unfold Dev.writeEvents
    split
    · rfl
    · next x hx =>
      split
      · rfl
      · next e t _ =>
        have hw := Dev.ringWrite_cursors hx e.entry
        split
        · rfl
        · split <;> next h =>
            rw [h] at hw
            simp [ih, Dev.modQueue_cursors, hw]

@[simp] theorem Dev.raiseEvent_cursors (d : Dev) (q n : Nat) (e : Ev) : cursors (d.raiseEvent q n e).hst.queues = cursors d.hst.queues := by
  unfold Dev.raiseEvent
  split
  · rfl
  · next x hx =>
    have hc := Dev.cursors_of_queue hx
    dsimp only
    split
    · exact Dev.setQueue_cursors hc
    · rw [Dev.when_queues (g := (·.inc .QUE_EQHOLD (onDie q))) (fun _ => rfl), Dev.writeEvents_cursors, Dev.setQueue_cursors]; exact hc

@[simp] theorem Dev.queueEvent_cursors (d : Dev) (q k n type lo status : Nat) :
    cursors (d.queueEvent q k n type lo status).hst.queues = cursors d.hst.queues := by
  unfold Dev.queueEvent
  split
  · rfl
  · dsimp only
    split <;> simp

@[simp] theorem Dev.cqNotify_cursors (d : Dev) (q n : Nat) : cursors (d.cqNotify q n).hst.queues = cursors d.hst.queues := by
  unfold Dev.cqNotify
  split
  · next x hx =>
    split
    · rw [Dev.queueEvent_cursors, Dev.setQueue_cursors]; exact (Dev.cursors_of_queue hx :)
    · rfl
  · rfl

@[simp] theorem Dev.paid_cursors (d : Dev) (q f e : Nat) : cursors (d.paid q f e).hst.queues = cursors d.hst.queues := by
  unfold Dev.paid
  split
  · next g y h =>
    have hy : d.queue q (bits e 144 2) g = some y := by
      simp only [Dev.localQueue, Option.bind_eq_some_iff, Option.map_eq_some_iff, Prod.mk.injEq] at h
      obtain ⟨_, -, _, hq, rfl, rfl⟩ := h
      exact hq
    exact Dev.setQueue_cursors (Dev.cursors_of_queue hy :)
  · rfl

@[simp] theorem Dev.drainCq_cursors (d : Dev) (q n fuel : Nat) : cursors (d.drainCq q n fuel).hst.queues = cursors d.hst.queues := by
  induction fuel generalizing d with
  | zero => rfl
  | succ fuel ih =>
    unfold Dev.drainCq
    split
    · rfl
    · next x hx =>
      split
      · rfl
      · next e t _ =>
        have hw := Dev.ringWrite_cursors hx e
        split
        · rfl
        · split <;> next h =>
            rw [h] at hw
            simp [ih, Dev.modQueue_cursors, hw]

@[simp] theorem Dev.drainQueue_cursors (d : Dev) (q k g : Nat) : cursors (d.drainQueue q k g).hst.queues = cursors d.hst.queues := by
  unfold Dev.drainQueue
  split
  · exact Dev.drainCq_cursors ..
  · exact Dev.writeEvents_cursors ..

theorem Dev.armQueue_cursors {d : Dev} {q k g : Nat} {x : Queue} (h : cursors d.hst.queues (qKey q k g) = some (x.ci, x.state)) :
    cursors (d.armQueue q k g x).hst.queues = cursors d.hst.queues := by
  unfold Dev.armQueue
  extract_lets e
  have he : cursors e.hst.queues = cursors d.hst.queues := Dev.setQueue_cursors h
  split
  · exact he
  · split
    · rw [Dev.cqNotify_cursors, he]
    · rw [Dev.eqNotify_cursors, he]

/-! ## The three outcomes of a doorbell -/

section
variable {d : Dev} {q k f n g : Nat} {w : Word} (hg : d.globalOf q f k n = some g)
include hg

/-- A doorbell to a FREE queue. -/
theorem Dev.consumerDoorbell_of_free (hx : d.queue q k g = none) :
    d.consumerDoorbell q k f n w true = d.inc .HST_DBIGN (onDie q) := by
  simp [Dev.consumerDoorbell, hg, hx]

/-- A doorbell that would move CI past PI. -/
theorem Dev.consumerDoorbell_of_beyond {x : Queue} (hx : d.queue q k g = some x) (hc : x.fill < idx32 (bits w.toNat 0 32) x.ci) :
    d.consumerDoorbell q k f n w true = d.inc .HST_DBERR (onDie q) := by
  simp [Dev.consumerDoorbell, hg, hx, hc]

/-- A doorbell that is accepted moves CI; neither ARM nor the writes of the ring that follow move it again, nor the state. -/
theorem Dev.consumerDoorbell_of_accepted {x : Queue} (hx : d.queue q k g = some x) (hc : idx32 (bits w.toNat 0 32) x.ci ≤ x.fill) :
    cursors (d.consumerDoorbell q k f n w true).hst.queues (qKey q k g) = some (bits w.toNat 0 32, x.state) := by
  have hs (y : Queue) : cursors ((d.setQueue q k g y).event q blkQUE 0 0x01 0 1).hst.queues (qKey q k g) = some (y.ci, y.state) := by
    rw [Dev.event_queues]
    exact cursors_put_same ..
  simp only [Dev.consumerDoorbell, if_true, hg, hx, Nat.not_lt.2 hc, if_false, Dev.drainQueue_cursors]
  split
  · rw [Dev.armQueue_cursors (hs _), hs]
  · exact hs _

end

/-- Settles O43: the three outcomes of the model's doorbell, the last by CI and the state of the queue's key. -/
theorem consumerDoorbells : Obligations.ConsumerDoorbells := by
  intro d q f k n g w _ hg c e
  have hw : bits w.toNat 0 32 = c := rfl
  exact ⟨fun hx => Dev.consumerDoorbell_of_free hg hx, fun x hx hb => Dev.consumerDoorbell_of_beyond hg hx hb,
    fun x hx ha => Dev.queue_of_cursors (hw ▸ Dev.consumerDoorbell_of_accepted hg hx ha)⟩

end Sys2Proof.Machine

/-! # What every command and every step does: the forms of a command, the queue, the canonical form -/

namespace Sys2Proof.Machine

/-! ## The two forms of a command -/

/-- The commands that Oasis, its sensors and the contacts serve while the module is off (R406, R415, R494). -/
def servedOff : Instr → Bool
  | .moduleReset _ | .vinReset | .vinWarn _ | .vinWarnRelease _ | .vinOvervoltage _ | .vinReturn | .vstbyChange _ | .thermalRestart _
  | .refclkArrival | .smbusRead _ _ | .faultnHoldEnd => true
  | _ => false

/-- A command of the host ports is a command that does nothing on form S. -/
theorem State.runHost_eq_run (s : State) (f : Dev → Dev) : s.runHost f = s.run (fun d => if d.sys.formS then d else f d) := rfl

/-- Every other command runs only on a module that has its supplies and its reference. -/
theorem exec_eq_run {c : Instr} (h : servedOff c = false) : ∃ f, ∀ s, exec c s = s.run f := by
  cases c
  case moduleReset | vinReset | vinWarn | vinWarnRelease | vinOvervoltage | vinReturn | vstbyChange | thermalRestart | refclkArrival | smbusRead
    | faultnHoldEnd => cases h
  case producerDoorbell | consumerDoorbell | counterWrite | counterAtomic | keyrightsWrite | descriptorStart | moderationEnd | queueCreate | queuePause
    | queuePauseDone | queueResume | queueRecover | queueDestroy | queueQuery | flushComplete | cqStallTimeout | functionLevelReset | d3hotToD0 |
    hostLinkDown | hostLinkUp | fnqWrite | openConn | closeConn | connectionFree | queryConn | registerRegion | revokeRegion | revokeDone | queryReg |
    rmxPut | getReq | atomic | putCtr | hostReadComplete | hostAtomicComplete | ackDelayExpiry | rmxAck | rmxNack | getRsp | atomicRsp | requestTimeout |
    hintRetry | pacingEligible | mtcSend | sendData | rndvRts | rndvFin | uxCopyComplete | rndvRegionFree | mtcPurge | handlerMiss | handlerMark |
    walkReadComplete | trapRetry | trapNotPresent | trapWalkError | trapNotPermitted | twaitTimeout | trapHintRetry | xltLoad | xltRemove | xltMap |
    xltUnmap | xltInval | xltInvalSpace | xltInvalComplete | pgResp | pageRequestTimeout | xltSpaceWrite | initiatorReadComplete | configurationRequest |
    rmxFnresWrite | mtcFnrndvWrite | hostPortInternalError =>
    dsimp only [exec]
    exact ⟨_, fun s => .trans rfl (s.runHost_eq_run _)⟩
  all_goals
    dsimp only [exec]
    exact ⟨_, fun _ => rfl⟩

/-- VIN_OVERVOLTAGE beyond the ratings stops; up to them it runs. -/
theorem exec_vinOvervoltage (mv : Nat) (s : State) :
    exec (.vinOvervoltage mv) s = if 20000 < mv then .fault .beyondRatings else s.runOasis Dev.vinOver := rfl

/-- A command that Oasis serves runs whatever the supplies, or stops beyond the ratings. -/
theorem exec_eq_runOasis {c : Instr} (h : servedOff c = true) :
    ∃ f, ∀ s, exec c s = s.runOasis f ∨ exec c s = .fault .beyondRatings := by
  cases c
  case vinOvervoltage mv =>
    refine ⟨Dev.vinOver, fun s => ?_⟩
    rw [exec_vinOvervoltage]
    split
    · exact .inr rfl
    · exact .inl rfl
  case moduleReset | vinReset | vinWarn | vinWarnRelease | vinReturn | vstbyChange | thermalRestart | refclkArrival | smbusRead | faultnHoldEnd =>
    dsimp only [exec]
    exact ⟨_, fun _ => .inl rfl⟩
  all_goals cases h

/-! ## The queue -/

theorem State.run_pending {s t : State} {f : Dev → Dev} (h : s.run f = .next t) : t.pending = s.pending := by
  obtain ⟨-, rfl⟩ | ⟨-, rfl⟩ := State.run_cases h <;> rfl

theorem State.runOasis_pending {s t : State} {f : Dev → Dev} (h : s.runOasis f = .next t) : t.pending = s.pending := by
  rw [State.runOasis_cases h]
  rfl

/-- Settles O4, by the two forms of a command. -/
theorem execKeepsQueue : Obligations.ExecKeepsQueue := by
  intro c s t h
  cases hc : servedOff c
  · obtain ⟨f, hf⟩ := exec_eq_run hc
    exact State.run_pending ((hf s).symm.trans h)
  · obtain ⟨f, hf⟩ := exec_eq_runOasis hc
    obtain hs | hs := hf s
    · exact State.runOasis_pending (hs.symm.trans h)
    · cases hs.symm.trans h

/-- Settles O11: a command of the first form does nothing while the module is off. -/
theorem unpoweredDoesNothing : Obligations.UnpoweredDoesNothing := by
  intro c s hoff hc
  have hserved : servedOff c = false := by
    revert hc
    unfold servedOff
    split <;> simp
  obtain ⟨f, hf⟩ := exec_eq_run hserved
  rw [hf s, State.run, if_neg hoff]

/-- Settles O55: the stop beyond 20 V, the run up to it. -/
theorem overvoltage : Obligations.Overvoltage := by
  exact ⟨fun s mv h => (exec_vinOvervoltage mv s).trans (if_pos h),
    fun s mv h => ⟨_, (exec_vinOvervoltage mv s).trans (if_neg (Nat.not_lt.2 h))⟩⟩

/-! ## The canonical form, the fuses and the time -/

/-- Every command keeps the tables canonical, the fuses and the time. -/
theorem exec_keeps {kof : KeptOf} {c : Instr} {s u : State} (hd : s.toDev.Kept kof) (h : exec c s = .next u) :
    u.pending = s.pending ∧ u.toDev.Kept kof := by
  cases c with
  | registerWrite via a v => exact execRegisterWrite_keeps via a v s u hd h
  | rcRead via a => exact execRcRead_keeps via a s u hd h
  | moduleReset ns => exact execModuleReset_keeps ns s u hd h
  | dieReset q => exact execDieReset_keeps q s u hd h
  | regionReset m => exact execRegionReset_keeps m s u hd h
  | clusterReset c => exact execClusterReset_keeps c s u hd h
  | unitReset q ukind n => exact execUnitReset_keeps q ukind n s u hd h
  | hostPortReset q => exact execHostPortReset_keeps q s u hd h
  | mgmtPortReset => exact execMgmtPortReset_keeps s u hd h
  | resetComplete level q ukind n => exact execResetComplete_keeps level q ukind n s u hd h
  | bridgeDown q e => exact execBridgeDown_keeps q e s u hd h
  | bridgeFlitArrival q e => exact execBridgeFlitArrival_keeps q e s u hd h
  | clusterMapWrite c v => exact execClusterMapWrite_keeps c v s u hd h
  | txeqWrite l v => exact execTxeqWrite_keeps l v s u hd h
  | laneCtrlWrite l v => exact execLaneCtrlWrite_keeps l v s u hd h
  | laneTrainingFrame l ctl => exact execLaneTrainingFrame_keeps l ctl s u hd h
  | acquireLock l inverted peaking => exact execAcquireLock_keeps l inverted peaking s u hd h
  | acquireTimeout l => exact execAcquireTimeout_keeps l s u hd h
  | adaptConverged l tap => exact execAdaptConverged_keeps l tap s u hd h
  | adaptTimeout l => exact execAdaptTimeout_keeps l s u hd h
  | lossOfSignal l signal => exact execLossOfSignal_keeps l signal s u hd h
  | rxQuietEntry l => exact execRxQuietEntry_keeps l s u hd h
  | relock l => exact execRelock_keeps l s u hd h
  | relockTimeout l => exact execRelockTimeout_keeps l s u hd h
  | txQuietEntry p => exact execTxQuietEntry_keeps p s u hd h
  | txWakeDone p => exact execTxWakeDone_keeps p s u hd h
  | maintBurst p => exact execMaintBurst_keeps p s u hd h
  | fecCodeword p result flits => exact execFecCodeword_keeps p result flits s u hd h
  | parityError p => exact execParityError_keeps p s u hd h
  | loopbackWrite p v => exact execLoopbackWrite_keeps p v s u hd h
  | patternCtrlWrite l v => exact execPatternCtrlWrite_keeps l v s u hd h
  | checkerLock l => exact execCheckerLock_keeps l s u hd h
  | checkerLoss l errors => exact execCheckerLoss_keeps l errors s u hd h
  | eyeScanStart l v => exact execEyeScanStart_keeps l v s u hd h
  | eyeScanStop l => exact execEyeScanStop_keeps l s u hd h
  | eyeScanDone l errors => exact execEyeScanDone_keeps l errors s u hd h
  | dataFlitReceived p c b => exact execDataFlitReceived_keeps p c b s u hd h
  | idleFlitReceived p c => exact execIdleFlitReceived_keeps p c s u hd h
  | flitCrcError p crc => exact execFlitCrcError_keeps p crc s u hd h
  | replayReq p c b => exact execReplayReq_keeps p c b s u hd h
  | replayStart p c b => exact execReplayStart_keeps p c b s u hd h
  | replayTimeout p => exact execReplayTimeout_keeps p s u hd h
  | ackDue p => exact execAckDue_keeps p s u hd h
  | creditMessageDue p => exact execCreditMessageDue_keeps p s u hd h
  | transmitFlitSlot p => exact execTransmitFlitSlot_keeps p s u hd h
  | trainReceived p c b => exact execTrainReceived_keeps p c b s u hd h
  | trainSend p => exact execTrainSend_keeps p s u hd h
  | lanePhaseDone p => exact execLanePhaseDone_keeps p s u hd h
  | alignmentDone p => exact execAlignmentDone_keeps p s u hd h
  | trainTimeout p => exact execTrainTimeout_keeps p s u hd h
  | retrainReq p c => exact execRetrainReq_keeps p c s u hd h
  | oosNotice p c => exact execOosNotice_keeps p c s u hd h
  | drainedReceived p c => exact execDrainedReceived_keeps p c s u hd h
  | windowDrained p => exact execWindowDrained_keeps p s u hd h
  | drainTimeout p => exact execDrainTimeout_keeps p s u hd h
  | downProbe p => exact execDownProbe_keeps p s u hd h
  | signalDetected p => exact execSignalDetected_keeps p s u hd h
  | linkEnable p v => exact execLinkEnable_keeps p v s u hd h
  | linkDisable p v => exact execLinkDisable_keeps p v s u hd h
  | integWrite p v => exact execIntegWrite_keeps p v s u hd h
  | lnkCmdRetrain p => exact execLnkCmdRetrain_keeps p s u hd h
  | lnkCmdOutOfService p => exact execLnkCmdOutOfService_keeps p s u hd h
  | lnkCmdInService p => exact execLnkCmdInService_keeps p s u hd h
  | creditReceived p c b => exact execCreditReceived_keeps p c b s u hd h
  | auditReceived p c b => exact execAuditReceived_keeps p c b s u hd h
  | auditSend p => exact execAuditSend_keeps p s u hd h
  | timeReceived p c b => exact execTimeReceived_keeps p c b s u hd h
  | timeSend p => exact execTimeSend_keeps p s u hd h
  | admitWaitingPacket p => exact execAdmitWaitingPacket_keeps p s u hd h
  | injectPacket q r fw k => exact execInjectPacket_keeps q r fw k s u hd h
  | injectionRelease q r => exact execInjectionRelease_keeps q r s u hd h
  | cellFree c => exact execCellFree_keeps c s u hd h
  | duneSend q => exact execDuneSend_keeps q s u hd h
  | duneReceived p c b => exact execDuneReceived_keeps p c b s u hd h
  | epochValidate q bank => exact execEpochValidate_keeps q bank s u hd h
  | bankCheckDone q => exact execBankCheckDone_keeps q s u hd h
  | epochRetire q bank => exact execEpochRetire_keeps q bank s u hd h
  | epochStamp q e => exact execEpochStamp_keeps q e s u hd h
  | routeTableWrite q bank w v => exact execRouteTableWrite_keeps q bank w v s u hd h
  | portSetWrite q bank n w v => exact execPortSetWrite_keeps q bank n w v s u hd h
  | epochReceived p c b => exact execEpochReceived_keeps p c b s u hd h
  | countRound => exact execCountRound_keeps s u hd h
  | portDeadTimeout p => exact execPortDeadTimeout_keeps p s u hd h
  | prtReleaseQueued p => exact execPrtReleaseQueued_keeps p s u hd h
  | prtReleaseHeld p => exact execPrtReleaseHeld_keeps p s u hd h
  | prtReleaseBoth p => exact execPrtReleaseBoth_keeps p s u hd h
  | heldTrafficRelease p => exact execHeldTrafficRelease_keeps p s u hd h
  | ledgerAudit q => exact execLedgerAudit_keeps q s u hd h
  | fwdShareWrite l v => exact execFwdShareWrite_keeps l v s u hd h
  | fwdInjWrite q v => exact execFwdInjWrite_keeps q v s u hd h
  | shaperEligible p t => exact execShaperEligible_keeps p t s u hd h
  | wheelTurn q => exact execWheelTurn_keeps q s u hd h
  | shapeWrite p t v => exact execShapeWrite_keeps p t v s u hd h
  | shapeApply p t => exact execShapeApply_keeps p t s u hd h
  | gateListWrite p l e v => exact execGateListWrite_keeps p l e v s u hd h
  | gateCommit p v => exact execGateCommit_keeps p v s u hd h
  | gateCancel p v => exact execGateCancel_keeps p v s u hd h
  | gateTakeover p => exact execGateTakeover_keeps p s u hd h
  | gateEntryEnd p => exact execGateEntryEnd_keeps p s u hd h
  | groupEntryFetch q g => exact execGroupEntryFetch_keeps q g s u hd h
  | groupValidate q g => exact execGroupValidate_keeps q g s u hd h
  | groupInvalidate q g => exact execGroupInvalidate_keeps q g s u hd h
  | groupForce q g => exact execGroupForce_keeps q g s u hd h
  | groupEntryWrite q g w v => exact execGroupEntryWrite_keeps q g w v s u hd h
  | mcast q member k => exact execMcast_keeps q member k s u hd h
  | redUp q src k => exact execRedUp_keeps q src k s u hd h
  | redDown q k => exact execRedDown_keeps q k s u hd h
  | colGrant q k => exact execColGrant_keeps q k s u hd h
  | bufferAssign q g seq => exact execBufferAssign_keeps q g seq s u hd h
  | barrierUp q src k => exact execBarrierUp_keeps q src k s u hd h
  | barrierDown q k => exact execBarrierDown_keeps q k s u hd h
  | epochCount q src k => exact execEpochCount_keeps q src k s u hd h
  | operationTimeout q g seq => exact execOperationTimeout_keeps q g seq s u hd h
  | memberTimeout q g seq member => exact execMemberTimeout_keeps q g seq member s u hd h
  | fenceReceived p c b => exact execFenceReceived_keeps p c b s u hd h
  | fenceGo q path v => exact execFenceGo_keeps q path v s u hd h
  | fenceRefresh => exact execFenceRefresh_keeps s u hd h
  | producerDoorbell q k f n w ok => exact execProducerDoorbell_keeps q k f n w ok s u hd h
  | consumerDoorbell q k f n w ok => exact execConsumerDoorbell_keeps q k f n w ok s u hd h
  | counterWrite q n v => exact execCounterWrite_keeps q n v s u hd h
  | counterAtomic q n op x y => exact execCounterAtomic_keeps q n op x y s u hd h
  | keyrightsWrite q n v => exact execKeyrightsWrite_keeps q n v s u hd h
  | descriptorStart q k n desc shards ok => exact execDescriptorStart_keeps q k n desc shards ok s u hd h
  | moderationEnd q n => exact execModerationEnd_keeps q n s u hd h
  | queueCreate q f => exact execQueueCreate_keeps q f s u hd h
  | queuePause q f => exact execQueuePause_keeps q f s u hd h
  | queuePauseDone q k g => exact execQueuePauseDone_keeps q k g s u hd h
  | queueResume q f => exact execQueueResume_keeps q f s u hd h
  | queueRecover q f => exact execQueueRecover_keeps q f s u hd h
  | queueDestroy q f => exact execQueueDestroy_keeps q f s u hd h
  | queueQuery q f => exact execQueueQuery_keeps q f s u hd h
  | flushComplete q k g => exact execFlushComplete_keeps q k g s u hd h
  | cqStallTimeout q g => exact execCqStallTimeout_keeps q g s u hd h
  | functionLevelReset q f => exact execFunctionLevelReset_keeps q f s u hd h
  | d3hotToD0 q f => exact execD3hotToD0_keeps q f s u hd h
  | hostLinkDown q hot => exact execHostLinkDown_keeps q hot s u hd h
  | hostLinkUp q rate width flit sris => exact execHostLinkUp_keeps q rate width flit sris s u hd h
  | fnqWrite q f k v => exact execFnqWrite_keeps q f k v s u hd h
  | openConn q f v => exact execOpenConn_keeps q f v s u hd h
  | closeConn q f v => exact execCloseConn_keeps q f v s u hd h
  | connectionFree c => exact execConnectionFree_keeps c s u hd h
  | queryConn q f v => exact execQueryConn_keeps q f v s u hd h
  | registerRegion q f v => exact execRegisterRegion_keeps q f v s u hd h
  | revokeRegion q f v => exact execRevokeRegion_keeps q f v s u hd h
  | revokeDone q n => exact execRevokeDone_keeps q n s u hd h
  | queryReg q f v => exact execQueryReg_keeps q f v s u hd h
  | rmxPut q k => exact execRmxPut_keeps q k s u hd h
  | getReq q k => exact execGetReq_keeps q k s u hd h
  | atomic q k => exact execAtomic_keeps q k s u hd h
  | putCtr q k => exact execPutCtr_keeps q k s u hd h
  | hostReadComplete tag ok data => exact execHostReadComplete_keeps tag ok data s u hd h
  | hostAtomicComplete tag ok data => exact execHostAtomicComplete_keeps tag ok data s u hd h
  | ackDelayExpiry c tc => exact execAckDelayExpiry_keeps c tc s u hd h
  | rmxAck q k => exact execRmxAck_keeps q k s u hd h
  | rmxNack q k => exact execRmxNack_keeps q k s u hd h
  | getRsp q k => exact execGetRsp_keeps q k s u hd h
  | atomicRsp q k => exact execAtomicRsp_keeps q k s u hd h
  | requestTimeout c psn => exact execRequestTimeout_keeps c psn s u hd h
  | hintRetry c psn => exact execHintRetry_keeps c psn s u hd h
  | pacingEligible c => exact execPacingEligible_keeps c s u hd h
  | mtcSend q k => exact execMtcSend_keeps q k s u hd h
  | sendData q k => exact execSendData_keeps q k s u hd h
  | rndvRts q k => exact execRndvRts_keeps q k s u hd h
  | rndvFin q k => exact execRndvFin_keeps q k s u hd h
  | uxCopyComplete tag ok data => exact execUxCopyComplete_keeps tag ok data s u hd h
  | rndvRegionFree q f => exact execRndvRegionFree_keeps q f s u hd h
  | mtcPurge q f => exact execMtcPurge_keeps q f s u hd h
  | handlerMiss q slot => exact execHandlerMiss_keeps q slot s u hd h
  | handlerMark q slot found => exact execHandlerMark_keeps q slot found s u hd h
  | walkReadComplete tag ok x => exact execWalkReadComplete_keeps tag ok x s u hd h
  | trapRetry q id => exact execTrapRetry_keeps q id s u hd h
  | trapNotPresent q id hint => exact execTrapNotPresent_keeps q id hint s u hd h
  | trapWalkError q id => exact execTrapWalkError_keeps q id s u hd h
  | trapNotPermitted q id => exact execTrapNotPermitted_keeps q id s u hd h
  | twaitTimeout q slot => exact execTwaitTimeout_keeps q slot s u hd h
  | trapHintRetry q slot => exact execTrapHintRetry_keeps q slot s u hd h
  | xltLoad q => exact execXltLoad_keeps q s u hd h
  | xltRemove q => exact execXltRemove_keeps q s u hd h
  | xltMap q f => exact execXltMap_keeps q f s u hd h
  | xltUnmap q f => exact execXltUnmap_keeps q f s u hd h
  | xltInval q f => exact execXltInval_keeps q f s u hd h
  | xltInvalSpace q f => exact execXltInvalSpace_keeps q f s u hd h
  | xltInvalComplete q f => exact execXltInvalComplete_keeps q f s u hd h
  | pgResp q f => exact execPgResp_keeps q f s u hd h
  | pageRequestTimeout q id => exact execPageRequestTimeout_keeps q id s u hd h
  | xltSpaceWrite q n root v => exact execXltSpaceWrite_keeps q n root v s u hd h
  | meshMessage m ecc => exact execMeshMessage_keeps m ecc s u hd h
  | gatewayMessage m ecc => exact execGatewayMessage_keeps m ecc s u hd h
  | meshSwitch q v => exact execMeshSwitch_keeps q v s u hd h
  | meshQuiesced q => exact execMeshQuiesced_keeps q s u hd h
  | holdmaxTimeout q => exact execHoldmaxTimeout_keeps q s u hd h
  | regulatorRelease q node cls => exact execRegulatorRelease_keeps q node cls s u hd h
  | challengeRead path => exact execChallengeRead_keeps path s u hd h
  | tokenPresent q path => exact execTokenPresent_keeps q path s u hd h
  | tokenVerified => exact execTokenVerified_keeps s u hd h
  | setOpkey q path => exact execSetOpkey_keeps q path s u hd h
  | debugLower level => exact execDebugLower_keeps level s u hd h
  | installConn q owner v => exact execInstallConn_keeps q owner v s u hd h
  | installGroup q owner v => exact execInstallGroup_keeps q owner v s u hd h
  | keyErase q owner v => exact execKeyErase_keeps q owner v s u hd h
  | entropyFail q => exact execEntropyFail_keeps q s u hd h
  | entropyRecover q => exact execEntropyRecover_keeps q s u hd h
  | wipeDone scope die part => exact execWipeDone_keeps scope die part s u hd h
  | flashInit ok => exact execFlashInit_keeps ok s u hd h
  | candidateChosen unread => exact execCandidateChosen_keeps unread s u hd h
  | saggarImageLoaded ok => exact execSaggarImageLoaded_keeps ok s u hd h
  | zoruriImageLoaded ok => exact execZoruriImageLoaded_keeps ok s u hd h
  | calibrationDone q ports lanes brgh brgv banks chans tables other => exact execCalibrationDone_keeps q ports lanes brgh brgv banks chans tables other s u hd h
  | phaseRun words => exact execPhaseRun_keeps words s u hd h
  | directoryUpdateDone => exact execDirectoryUpdateDone_keeps s u hd h
  | slotTrialA => exact execSlotTrialA_keeps s u hd h
  | slotTrialB => exact execSlotTrialB_keeps s u hd h
  | slotCommit path => exact execSlotCommit_keeps path s u hd h
  | slotRevert => exact execSlotRevert_keeps s u hd h
  | slotReboot => exact execSlotReboot_keeps s u hd h
  | trialWatchdog => exact execTrialWatchdog_keeps s u hd h
  | autocommit => exact execAutocommit_keeps s u hd h
  | flashRead v => exact execFlashRead_keeps v s u hd h
  | flashProgram v => exact execFlashProgram_keeps v s u hd h
  | flashErase v => exact execFlashErase_keeps v s u hd h
  | flashCmdDone => exact execFlashCmdDone_keeps s u hd h
  | ergLinkSend => exact execErgLinkSend_keeps s u hd h
  | ergRefresh => exact execErgRefresh_keeps s u hd h
  | ergLink p c b => exact execErgLink_keeps p c b s u hd h
  | ergAssign p c b => exact execErgAssign_keeps p c b s u hd h
  | ergClaim p c b => exact execErgClaim_keeps p c b s u hd h
  | ergLsa p c b => exact execErgLsa_keeps p c b s u hd h
  | ergGsum p c b => exact execErgGsum_keeps p c b s u hd h
  | claimWaitExpiry => exact execClaimWaitExpiry_keeps s u hd h
  | settleExpiry ok need routes psets => exact execSettleExpiry_keeps ok need routes psets s u hd h
  | neighbourAbsent p => exact execNeighbourAbsent_keeps p s u hd h
  | originExpiry kind n => exact execOriginExpiry_keeps kind n s u hd h
  | memberLost m => exact execMemberLost_keeps m s u hd h
  | fwMsg q k => exact execFwMsg_keeps q k s u hd h
  | fwRsp q k => exact execFwRsp_keeps q k s u hd h
  | caravanJoin => exact execCaravanJoin_keeps s u hd h
  | caravanLockLoss => exact execCaravanLockLoss_keeps s u hd h
  | caravanLockTimeout => exact execCaravanLockTimeout_keeps s u hd h
  | caravanElect f => exact execCaravanElect_keeps f s u hd h
  | caravanPosition f => exact execCaravanPosition_keeps f s u hd h
  | caravanTime f res => exact execCaravanTime_keeps f res s u hd h
  | caravanTimeSend => exact execCaravanTimeSend_keeps s u hd h
  | caravanRead f => exact execCaravanRead_keeps f s u hd h
  | caravanWrite f => exact execCaravanWrite_keeps f s u hd h
  | caravanResp f => exact execCaravanResp_keeps f s u hd h
  | oobRead v => exact execOobRead_keeps v s u hd h
  | oobWrite v => exact execOobWrite_keeps v s u hd h
  | oobTimeout => exact execOobTimeout_keeps s u hd h
  | vinWarn mv => exact execVinWarn_keeps mv s u hd h
  | vinWarnRelease mv => exact execVinWarnRelease_keeps mv s u hd h
  | vinReset => exact execVinReset_keeps s u hd h
  | vinOvervoltage mv => exact execVinOvervoltage_keeps mv s u hd h
  | vinReturn => exact execVinReturn_keeps s u hd h
  | vstbyChange on => exact execVstbyChange_keeps on s u hd h
  | overcurrent => exact execOvercurrent_keeps s u hd h
  | powerSample mv iin pin => exact execPowerSample_keeps mv iin pin s u hd h
  | coneRise => exact execConeRise_keeps s u hd h
  | capmiss => exact execCapmiss_keeps s u hd h
  | thermalFall tj die => exact execThermalFall_keeps tj die s u hd h
  | thermalRise tj die => exact execThermalRise_keeps tj die s u hd h
  | thermalShutdown tj die => exact execThermalShutdown_keeps tj die s u hd h
  | thermalRestart tj => exact execThermalRestart_keeps tj s u hd h
  | domainStop q scope => exact execDomainStop_keeps q scope s u hd h
  | domainWake q scope => exact execDomainWake_keeps q scope s u hd h
  | stopEntryComplete q => exact execStopEntryComplete_keeps q s u hd h
  | stopEntryTimeout q => exact execStopEntryTimeout_keeps q s u hd h
  | wakeComplete q scope => exact execWakeComplete_keeps q scope s u hd h
  | referenceLoss => exact execReferenceLoss_keeps s u hd h
  | referenceReturn => exact execReferenceReturn_keeps s u hd h
  | holdoverTimeout => exact execHoldoverTimeout_keeps s u hd h
  | faultWindowExpiry slot unserviced => exact execFaultWindowExpiry_keeps slot unserviced s u hd h
  | escalationTimeout slot unserviced => exact execEscalationTimeout_keeps slot unserviced s u hd h
  | faultClear id => exact execFaultClear_keeps id s u hd h
  | faultActNow id => exact execFaultActNow_keeps id s u hd h
  | carryExpiry n => exact execCarryExpiry_keeps n s u hd h
  | faultnRelease => exact execFaultnRelease_keeps s u hd h
  | faultnForce on => exact execFaultnForce_keeps on s u hd h
  | faultnHoldEnd => exact execFaultnHoldEnd_keeps s u hd h
  | storeErase => exact execStoreErase_keeps s u hd h
  | zoruriWatchdog q => exact execZoruriWatchdog_keeps q s u hd h
  | zoruriException q => exact execZoruriException_keeps q s u hd h
  | saggarWatchdog q => exact execSaggarWatchdog_keeps q s u hd h
  | memoryError q kind x y z => exact execMemoryError_keeps q kind x y z s u hd h
  | kilnGo q v => exact execKilnGo_keeps q v s u hd h
  | kilnTestDone q fails first tx rx => exact execKilnTestDone_keeps q fails first tx rx s u hd h
  | pmcSelWrite q k v => exact execPmcSelWrite_keeps q k v s u hd h
  | pmcCntWrite q k v => exact execPmcCntWrite_keeps q k v s u hd h
  | pmcCntRead path q k => exact execPmcCntRead_keeps path q k s u hd h
  | counterWrap q k => exact execCounterWrap_keeps q k s u hd h
  | pmcGo => exact execPmcGo_keeps s u hd h
  | snapshotPeriod => exact execSnapshotPeriod_keeps s u hd h
  | snapshotWritten ok => exact execSnapshotWritten_keeps ok s u hd h
  | ringCiWrite v => exact execRingCiWrite_keeps v s u hd h
  | ringEnable v => exact execRingEnable_keeps v s u hd h
  | windowDataRead w set whole => exact execWindowDataRead_keeps w set whole s u hd h
  | windowDataWrite w set whole v => exact execWindowDataWrite_keeps w set whole v s u hd h
  | regaccUpdate op addr v => exact execRegaccUpdate_keeps op addr v s u hd h
  | regaccCapture => exact execRegaccCapture_keeps s u hd h
  | smbusRead adr code => exact execSmbusRead_keeps adr code s u hd h
  | initiatorReadComplete tag ok data => exact execInitiatorReadComplete_keeps tag ok data s u hd h
  | configurationRequest q => exact execConfigurationRequest_keeps q s u hd h
  | refclkArrival => exact execRefclkArrival_keeps s u hd h
  | rmxFnresWrite q f kind v => exact execRmxFnresWrite_keeps q f kind v s u hd h
  | mtcFnrndvWrite q f v => exact execMtcFnrndvWrite_keeps q f v s u hd h
  | hostPortInternalError q => exact execHostPortInternalError_keeps q s u hd h
  | fallbackTrainingPattern => exact execFallbackTrainingPattern_keeps s u hd h

/-- An idle step takes one nanosecond; the tables stay canonical and the fuses as they are. -/
theorem State.idle_keeps (s : State) (u : Nat × Bool × Nat) (n : Nat) (hd : s.toDev.Kept (u, n)) : s.idle.toDev.Kept (u, n + 1) := by
  obtain ⟨hwf, hfused, htime⟩ : s.toDev.nanosecond.tablesWf = true ∧ s.toDev.nanosecond.fused = u ∧ s.toDev.nanosecond.env.time = n := by
    simpa [Dev.Kept] using s.toDev.nanosecond_keeps hd
  exact ⟨hwf, Prod.ext hfused (congrArg (· + 1) htime)⟩

/-- A step on an empty queue. -/
theorem step_of_nil {s : State} (h : s.pending = []) : step s = .next s.idle := by
  simp [step, h]

/-- A step on a queue that is not empty. -/
theorem step_of_cons {s : State} {c : Instr} {rest : List Instr} (h : s.pending = c :: rest) :
    step s = exec c { s with pending := rest } := by
  simp [step, h]

/-- Settles O5: what every command and the idle step keep. -/
theorem stepKeepsCanonical : Obligations.StepKeepsCanonical := by
  intro s t hwf hstep
  have hd : s.toDev.Kept (s.fused, s.env.time) := ⟨hwf, rfl⟩
  cases hp : s.pending with
  | nil =>
    obtain rfl := Host.Outcome.next.inj ((step_of_nil hp).symm.trans hstep)
    obtain ⟨hwf', hu⟩ := s.idle_keeps _ _ hd
    obtain ⟨hfused, htime⟩ := Prod.mk.inj hu
    exact ⟨hwf', hfused, htime⟩
  | cons c rest =>
    obtain ⟨-, hwf', hu⟩ := exec_keeps (s := { s with pending := rest }) hd ((step_of_cons hp).symm.trans hstep)
    obtain ⟨hfused, htime⟩ := Prod.mk.inj hu
    exact ⟨hwf', hfused, htime⟩

/-- Settles O1. -/
theorem stepRunsFront : Obligations.StepRunsFront := fun _ _ _ h => step_of_cons h

/-! ## The idle nanosecond -/

theorem Dev.each_nil {α : Type} (d : Dev) (g : α → Dev → Dev) : d.each [] g = d := rfl

/-- A step that changes nothing for any element of the list. -/
theorem Dev.each_eq_self {α : Type} (d : Dev) (l : List α) (g : α → Dev → Dev) (h : ∀ x ∈ l, g x d = d) : d.each l g = d := by
  unfold Dev.each
  induction l with
  | nil => rfl
  | cons x t ih =>
    rw [List.foldl_cons, h x List.mem_cons_self]
    exact ih fun y hy => h y (List.mem_cons_of_mem _ hy)

/-- Without an enabled counter, or without supplies, a nanosecond changes nothing. -/
theorem Dev.nanosecond_eq_self (d : Dev) (h : d.pwr.off ≠ 0 ∨ ∀ q < 4, d.pmcEnabled q = []) : d.nanosecond = d := by
  unfold Dev.nanosecond
  split
  · rfl
  · next hoff =>
    refine Dev.each_eq_self _ _ _ fun q hq => ?_
    rw [h.resolve_left hoff q (List.mem_range.1 (List.mem_filter.1 hq).1), Dev.each_nil]

/-- Settles O2: the idle step, and that its nanosecond changes nothing without an enabled counter. -/
theorem stepIdles : Obligations.StepIdles := by
  refine ⟨fun s hp => ⟨s.idle, step_of_nil hp, hp, rfl⟩, fun s hp h => ?_⟩
  rw [step_of_nil hp]
  simp only [State.idle, s.toDev.nanosecond_eq_self h]

/-! ## The state after reset -/

/-- Settles O6. -/
theorem resetCanonical : Obligations.ResetCanonical := ⟨rfl, rfl, rfl, rfl⟩

/-- Settles O7, by evaluation of the reset values of the registers at every place. -/
theorem resetValues : Obligations.ResetValues := by
  refine ⟨?_, ?_, ?_, ?_, ?_, ?_⟩ <;> decide +kernel

end Sys2Proof.Machine

/-! # Fields of a register word under writes, at reset and when shown (R8, R9, Table 0-5) -/

namespace Sys2Proof.Machine

/-- Bit i lies in the field. -/
def Fld.covers (f : Fld) (i : Nat) : Prop := f.lo ≤ i ∧ i < f.lo + f.w

/-- Bits outside the field. -/
theorem Fld.ins_outside {f : Fld} {x : Word} {v i : Nat} (h : f.lo + f.w ≤ 64) (hi : ¬ f.covers i) :
    (f.ins x v).getLsbD i = x.getLsbD i := by
  rw [Fld.ins_testBit f x v i h]
  exact if_neg hi

/-- Words that agree in the bits of a field agree in the field. -/
theorem Fld.of_congr {f : Fld} {x y : Word} (h : ∀ i, f.covers i → x.getLsbD i = y.getLsbD i) : f.of x = f.of y := by
  refine Nat.eq_of_testBit_eq fun i => ?_
  rw [Fld.of_testBit, Fld.of_testBit]
  by_cases hi : i < f.w
  · rw [h (f.lo + i) ⟨by omega, by omega⟩]
  · simp [hi]

/-! ## Fields one after another -/

section
variable {g : Word → Fld → Word} (hg : ∀ x f i, f.lo + f.w ≤ 64 → ¬ f.covers i → (g x f).getLsbD i = x.getLsbD i)
include hg

/-- Steps that each act on one field leave a bit of no field as it is. -/
theorem foldl_outside {l : List Fld} (hl : ∀ f ∈ l, f.lo + f.w ≤ 64) {i : Nat} (hi : ∀ f ∈ l, ¬ f.covers i) (x : Word) :
    (l.foldl g x).getLsbD i = x.getLsbD i := by
  induction l generalizing x with
  | nil => rfl
  | cons f t ih =>
    obtain ⟨hf, ht⟩ := List.forall_mem_cons.1 hl
    obtain ⟨hfi, hti⟩ := List.forall_mem_cons.1 hi
    exact (ih ht hti (g x f)).trans (hg x f i hf hfi)

/-- Steps that each act on one field, for disjoint fields: a field is what its own step makes of its old bits. -/
theorem foldl_field {l : List Fld} (hl : ∀ f ∈ l, f.lo + f.w ≤ 64)
    (hd : l.Pairwise (fun f h => f.lo + f.w ≤ h.lo ∨ h.lo + h.w ≤ f.lo)) {f : Fld} (hf : f ∈ l) (x : Word) :
    ∃ y : Word, (∀ i, f.covers i → y.getLsbD i = x.getLsbD i) ∧ f.of (l.foldl g x) = f.of (g y f) := by
  induction l generalizing x with
  | nil => cases hf
  | cons h t ih =>
    obtain ⟨hh, ht⟩ := List.forall_mem_cons.1 hl
    obtain ⟨hht, htt⟩ := List.pairwise_cons.1 hd
    obtain rfl | hf := List.mem_cons.1 hf
    · refine ⟨x, fun _ _ => rfl, Fld.of_congr fun i hi => foldl_outside hg ht (fun k hk hki => ?_) _⟩
      have := hht k hk
      unfold Fld.covers at hi hki
      omega
    · obtain ⟨y, hy, e⟩ := ih ht htt hf (g x h)
      refine ⟨y, fun i hi => (hy i hi).trans (hg x h i hh fun hhi => ?_), e⟩
      have := hht f hf
      unfold Fld.covers at hi hhi
      omega

end

/-! ## Writes (R8) -/

/-- A write of one field leaves the other bits of its register. -/
theorem Fld.write_outside (v x : Word) (f : Fld) (i : Nat) (h : f.lo + f.w ≤ 64) (hi : ¬ f.covers i) :
    (f.write x v).getLsbD i = x.getLsbD i := by
  have hm : f.mask.getLsbD i = false := by
    rw [Fld.mask_testBit]
    simpa [Fld.covers] using fun _ => not_and.1 hi
  unfold Fld.write
  split
  · exact Fld.ins_outside h hi
  · exact Fld.ins_outside h hi
  · by_cases hlt : i < 64
    · simp only [BitVec.getLsbD_and, BitVec.getLsbD_not, hm, hlt, decide_true, Bool.and_false, Bool.not_false, Bool.and_true]
    · rw [BitVec.getLsbD_of_ge _ _ (by omega), BitVec.getLsbD_of_ge _ _ (by omega)]
  · rfl

/-- What a put of another word's field leaves. -/
theorem Fld.of_ins_of {f : Fld} (h : f.lo + f.w ≤ 64) (x v : Word) : f.of (f.ins x (f.of v)) = f.of v := by
  rw [Fld.of_ins f x _ h]
  exact Nat.mod_mod _ _

/-- A write of 1 clears. -/
theorem Fld.of_clear {f : Fld} (h : f.lo + f.w ≤ 64) {x y : Word} (v : Word) (hy : ∀ i, f.covers i → y.getLsbD i = x.getLsbD i) :
    f.of (y &&& ~~~ (v &&& f.mask)) = f.of (x &&& ~~~ v) := by
  refine Fld.of_congr fun i hi => ?_
  have hm : f.mask.getLsbD i = true := by
    rw [Fld.mask_testBit]
    unfold Fld.covers at hi
    simp
    omega
  have hlt : i < 64 := by unfold Fld.covers at hi; omega
  simp only [BitVec.getLsbD_and, BitVec.getLsbD_not, hm, hlt, hy i hi, Bool.and_true]

/-- Settles O8: a field by its own write (`foldl_field`), a reserved bit by every field's (`foldl_outside`). -/
theorem fieldWrites : Obligations.FieldWrites := by
  intro r old v
  have hfit : ∀ f ∈ r.flds, f.lo + f.w ≤ 64 := fun f hf => (r.flds_fit f hf).2.1
  refine ⟨fun f hf => ?_, fun i hi => foldl_outside (Fld.write_outside v) hfit hi old⟩
  obtain ⟨y, hy, e⟩ := foldl_field (Fld.write_outside v) hfit r.flds_apart hf old
  refine e.trans ?_
  unfold Fld.write
  cases hacc : f.acc
  · exact Fld.of_congr hy
  · exact Fld.of_ins_of (hfit f hf) y v
  · exact Fld.of_ins_of (hfit f hf) y v
  · exact Fld.of_clear (hfit f hf) v hy
  · exact Fld.of_congr hy
  · exact Fld.of_congr hy

/-! ## Reset and reads (R9) -/

/-- The fields' reset values set no bit outside the fields. -/
theorem Reg.rstWord_reserved {r : Reg} {i : Nat} (hi : ∀ f ∈ r.flds, ¬ f.covers i) : r.rstWord.getLsbD i = false :=
  (foldl_outside (fun _ _ _ => Fld.ins_outside) (fun f hf => (r.flds_fit f hf).2.1) hi 0).trans (BitVec.getLsbD_zero ..)

/-- A field of the register put into a word leaves its reserved bits. -/
theorem Reg.ins_reserved {r : Reg} {i : Nat} (hi : ∀ f ∈ r.flds, ¬ f.covers i) {f : Fld} (hf : f ∈ r.flds) {x : Word} (v : Nat)
    (hx : x.getLsbD i = false) : (f.ins x v).getLsbD i = false :=
  (Fld.ins_outside (r.flds_fit f hf).2.1 (hi f hf)).trans hx

/-- A field put into the words of some places alone. -/
theorem insWhen_reserved {x y : Word} {i : Nat} {c : Prop} [Decidable c] (hx : x.getLsbD i = false) (hy : y.getLsbD i = false) :
    (if c then y else x).getLsbD i = false := by
  split
  · exact hy
  · exact hx

/-- The weights of Table 7-2 fill the 54 bits of FWD_VCW.WEIGHTS. -/
theorem vcwReset_reserved {i : Nat} (hi : ∀ f ∈ Reg.flds .FWD_VCW, ¬ f.covers i) : (BitVec.ofNat 64 vcwReset).getLsbD i = false := by
  have h54 : 54 ≤ i := by
    have := hi FWD_VCW_WEIGHTS (by decide)
    unfold Fld.covers at this
    change ¬ (0 ≤ i ∧ i < 0 + 54) at this
    omega
  have hlt : vcwReset < 2 ^ 54 := by decide
  rw [BitVec.getLsbD_ofNat, Nat.testBit_lt_two_pow (Nat.lt_of_lt_of_le hlt (Nat.pow_le_pow_right (by decide) h54)), Bool.and_false]

/-- Reserved bits of a reset word, for the values that the table gives and those that depend on the place. -/
theorem rstVal_reserved (r : Reg) (a : At) {i : Nat} (hi : ∀ f ∈ r.flds, ¬ f.covers i) : (rstVal r a).getLsbD i = false := by
  have hz := Reg.rstWord_reserved hi
  unfold rstVal
  split
  case h_1 => exact Reg.ins_reserved hi (by decide) _ (Reg.ins_reserved hi (by decide) _ hz)
  case h_6 => exact insWhen_reserved hz (Reg.ins_reserved hi (by decide) _ (Reg.ins_reserved hi (by decide) _ hz))
  case h_10 => exact vcwReset_reserved hi
  case h_11 =>
    iterate 6 refine Reg.ins_reserved hi (by decide) _ ?_
    exact BitVec.getLsbD_zero ..
  case h_12 => exact hz
  all_goals exact insWhen_reserved hz (Reg.ins_reserved hi (by decide) _ hz)

/-- A WO field of the word shown is zero. -/
theorem Dev.shown_wo (d : Dev) (r : Reg) (q i : Nat) {f : Fld} (hf : f ∈ r.flds) (hacc : f.acc = .wo) : f.of (d.shown r q i) = 0 := by
  have hg : ∀ (x : Word) (f : Fld) i, f.lo + f.w ≤ 64 → ¬ f.covers i → (if f.acc = .wo then f.ins x 0 else x).getLsbD i = x.getLsbD i := by
    intro x f i h hi
    split
    · exact Fld.ins_outside h hi
    · rfl
  obtain ⟨y, -, e⟩ := foldl_field hg (fun f hf => (r.flds_fit f hf).2.1) r.flds_apart hf _
  refine e.trans ?_
  rw [if_pos hacc, Fld.of_ins f y 0 (r.flds_fit f hf).2.1, Nat.zero_mod]

/-- Settles O9. -/
theorem reservedBitsReadZero : Obligations.ReservedBitsReadZero :=
  ⟨fun r a _ hi => rstVal_reserved r a hi, fun d r q i _ hf hacc => d.shown_wo r q i hf hacc⟩

end Sys2Proof.Machine

/-! # R36: which cluster maps are valid -/

namespace Sys2Proof.Machine

/-- Lane i of a map meets R36: a start is aligned, a lane inside a port is no start and every other lane is one. -/
def mapLaneOk (w i : Nat) : Prop :=
  (mapCode w i ≠ 0 → i % codeWidth (mapCode w i) = 0) ∧
  (mapCode w i = 0 → ∃ j < i, mapCode w j ≠ 0 ∧ i < j + codeWidth (mapCode w j)) ∧
  (∀ j < i, mapCode w j ≠ 0 → i < j + codeWidth (mapCode w j) → mapCode w i = 0)

/-- The walk stands before lane i with `left` lanes of the last started port to come: no port reaches further, and that port is
aligned. -/
def mapOpen (w i left : Nat) : Prop :=
  (∀ j < i, mapCode w j ≠ 0 → j + codeWidth (mapCode w j) ≤ i + left) ∧
  (0 < left → ∃ j < i, mapCode w j ≠ 0 ∧ j % codeWidth (mapCode w j) = 0 ∧ j + codeWidth (mapCode w j) = i + left)

/-- A port has one, two or four lanes. -/
theorem codeWidth_mapCode {w i : Nat} (h : mapCode w i ≠ 0) :
    codeWidth (mapCode w i) = 1 ∨ codeWidth (mapCode w i) = 2 ∨ codeWidth (mapCode w i) = 4 := by
  have hlt : mapCode w i < 4 := Nat.mod_lt _ (by decide)
  generalize mapCode w i = c at *
  match c, hlt with
  | 0, _ => exact absurd rfl h
  | 1, _ => exact .inl rfl
  | 2, _ => exact .inr (.inl rfl)
  | 3, _ => exact .inr (.inr rfl)

/-- An aligned port ends within the eight lanes. -/
theorem mapOpen_end {w left : Nat} (h : mapOpen w 8 left) : left = 0 := by
  refine (Nat.eq_zero_or_pos left).resolve_right fun hl => ?_
  obtain ⟨j, hj, hc, ha, he⟩ := h.2 hl
  obtain hw | hw | hw := codeWidth_mapCode hc <;> rw [hw] at ha he <;> omega

/-- A lane inside the open port. -/
theorem mapOpen_inside {w i left : Nat} (h : mapOpen w i left) (hl : 0 < left) :
    (mapLaneOk w i ↔ mapCode w i = 0) ∧ (mapCode w i = 0 → mapOpen w (i + 1) (left - 1)) := by
  obtain ⟨hreach, hlast⟩ := h
  obtain ⟨j, hj, hc, ha, he⟩ := hlast hl
  refine ⟨⟨fun ⟨_, _, h3⟩ => h3 j hj hc (by omega), fun h0 => ⟨fun hn => absurd h0 hn, fun _ => ⟨j, hj, hc, by omega⟩, fun _ _ _ _ => h0⟩⟩,
    fun h0 => ⟨fun k hk hck => ?_, fun _ => ⟨j, by omega, hc, ha, by omega⟩⟩⟩
  obtain hk | rfl := Nat.lt_succ_iff_lt_or_eq.1 hk
  · have := hreach k hk hck
    omega
  · exact absurd h0 hck

/-- A lane after the last port. -/
theorem mapOpen_outside {w i : Nat} (h : mapOpen w i 0) :
    (mapLaneOk w i ↔ mapCode w i ≠ 0 ∧ i % codeWidth (mapCode w i) = 0) ∧
    (mapCode w i ≠ 0 → i % codeWidth (mapCode w i) = 0 → mapOpen w (i + 1) (codeWidth (mapCode w i) - 1)) := by
  obtain ⟨hreach, -⟩ := h
  refine ⟨⟨fun ⟨h1, h2, _⟩ => ?_, fun ⟨hc, ha⟩ => ⟨fun _ => ha, fun h0 => absurd h0 hc, fun j hj hcj hin => ?_⟩⟩,
    fun hc ha => ⟨fun k hk hck => ?_, fun _ => ⟨i, i.lt_succ_self, hc, ha, ?_⟩⟩⟩
  · have hc : mapCode w i ≠ 0 := fun h0 => by
      obtain ⟨j, hj, hcj, hin⟩ := h2 h0
      have := hreach j hj hcj
      omega
    exact ⟨hc, h1 hc⟩
  · have := hreach j hj hcj
    omega
  · obtain hk | rfl := Nat.lt_succ_iff_lt_or_eq.1 hk
    · have := hreach k hk hck
      omega
    · omega
  · obtain hw | hw | hw := codeWidth_mapCode hc <;> omega

/-- The walk over the last n of the eight lanes. -/
theorem mapValidFrom_iff {w n i left : Nat} (hn : i + n = 8) (h : mapOpen w i left) :
    mapValidFrom w n i left = true ↔ ∀ k < 8, i ≤ k → mapLaneOk w k := by
  induction n generalizing i left with
  | zero =>
    obtain rfl : i = 8 := by omega
    simp only [mapValidFrom, mapOpen_end h, decide_true, true_iff]
    intro k hk hik
    omega
  | succ n ih =>
    have split_first : (∀ k < 8, i ≤ k → mapLaneOk w k) ↔ mapLaneOk w i ∧ ∀ k < 8, i + 1 ≤ k → mapLaneOk w k := by
      refine ⟨fun hk => ⟨hk i (by omega) (Nat.le_refl i), fun k h8 hik => hk k h8 (by omega)⟩, fun ⟨hi, hk⟩ k h8 hik => ?_⟩
      obtain rfl | hlt := Nat.eq_or_lt_of_le hik
      · exact hi
      · exact hk k h8 hlt
    rw [split_first]
    unfold mapValidFrom
    split
    · next hl =>
      obtain ⟨hok, hopen⟩ := mapOpen_inside h hl
      rw [hok, Bool.and_eq_true, decide_eq_true_eq]
      exact and_congr_right fun h0 => ih (by omega) (hopen h0)
    · next hl =>
      obtain rfl : left = 0 := by omega
      obtain ⟨hok, hopen⟩ := mapOpen_outside h
      rw [hok, Bool.and_eq_true, Bool.and_eq_true, decide_eq_true_eq, decide_eq_true_eq]
      exact and_congr_right fun ⟨hc, ha⟩ => ih (by omega) (hopen hc ha)

/-- Settles O35: the walk of the eight lanes, from lane 0 with no port open. -/
theorem mapsAreValid : Obligations.MapsAreValid := by
  intro w
  have hopen : mapOpen w 0 0 := ⟨fun j hj => absurd hj j.not_lt_zero, fun h => absurd h (Nat.lt_irrefl 0)⟩
  refine (mapValidFrom_iff rfl hopen).trans ⟨fun h => ?_, fun ⟨h1, h2, h3⟩ k hk _ => ⟨h1 k hk, h2 k hk, h3 k hk⟩⟩
  exact ⟨fun i hi => (h i hi i.zero_le).1, fun i hi => (h i hi i.zero_le).2.1, fun i hi => (h i hi i.zero_le).2.2⟩

end Sys2Proof.Machine

/-! # R39: the limits of the transmit coefficients -/

namespace Sys2Proof.Machine

/-- The place of a lane is on one of the four dies. -/
theorem onLane_die (l : Fin 512) : (onLane l.val).die < 4 := Nat.div_lt_of_lt_mul l.isLt

theorem eqOk_iff {pre post : Nat} : eqOk pre post = true ↔ pre ≤ 15 ∧ post ≤ 24 ∧ pre + post ≤ 24 := by
  simp [eqOk, and_assoc]

/-- What a write of LAN_TXEQ does before it judges the coefficients: OVR takes its bit, EQERR loses it. -/
def Dev.txeqFlags (d : Dev) (l : Nat) (v : Word) : Dev :=
  (d.put LAN_TXEQ_OVR (onLane l) (LAN_TXEQ_OVR.of v)).when (LAN_TXEQ_EQERR.of v = 1) (·.put LAN_TXEQ_EQERR (onLane l) 0)

theorem Dev.txeq_of_ok {d : Dev} {l : Nat} {v : Word} (h : eqOk (LAN_TXEQ_PRE.of v) (LAN_TXEQ_POST.of v) = true) :
    d.txeq l v = (d.txeqFlags l v).setEq l (LAN_TXEQ_PRE.of v) (LAN_TXEQ_POST.of v) := if_pos h

theorem Dev.txeq_of_bad {d : Dev} {l : Nat} {v : Word} (h : ¬ eqOk (LAN_TXEQ_PRE.of v) (LAN_TXEQ_POST.of v) = true) :
    d.txeq l v = (d.txeqFlags l v).put LAN_TXEQ_EQERR (onLane l) 1 := if_neg h

/-- Another field of the register than the two flags. -/
theorem Dev.get_txeqFlags (d : Dev) (l : Nat) (v : Word) (f : Fld) (hr : f.reg = .LAN_TXEQ) (h : f.lo + f.w ≤ 17) :
    (d.txeqFlags l v).get f (onLane l) = d.get f (onLane l) := by
  unfold Dev.txeqFlags Dev.when
  split
  · rw [Dev.get_put_field _ f LAN_TXEQ_EQERR _ _ hr (by decide) (.inl (Nat.le_trans h (by decide))),
      Dev.get_put_field _ f LAN_TXEQ_OVR _ _ hr (by decide) (.inl h)]
  · rw [Dev.get_put_field _ f LAN_TXEQ_OVR _ _ hr (by decide) (.inl h)]

/-- Settles O37: the flags, then the coefficients or the error. -/
theorem coefficientLimits : Obligations.CoefficientLimits := by
  intro d l v a
  have ha : a.die < 4 := onLane_die l
  dsimp only
  have hflags : d.onlyFields (d.txeqFlags l.val v)
      [(LAN_TXEQ_OVR, a), (LAN_TXEQ_EQERR, a), (LAN_TXEQ_PRE, a), (LAN_TXEQ_POST, a), (LAN_TXEQ_MAIN, a)] := by
    have h := (Dev.onlyFields_refl d [(LAN_TXEQ_OVR, a), (LAN_TXEQ_EQERR, a), (LAN_TXEQ_PRE, a), (LAN_TXEQ_POST, a), (LAN_TXEQ_MAIN, a)]).put
      LAN_TXEQ_OVR a (LAN_TXEQ_OVR.of v) (by decide) ha (by simp)
    exact h.when _ _ (h.put LAN_TXEQ_EQERR a 0 (by decide) ha (by simp))
  by_cases hok : eqOk (LAN_TXEQ_PRE.of v) (LAN_TXEQ_POST.of v) = true
  · rw [if_pos (eqOk_iff.1 hok), Dev.txeq_of_ok hok]
    refine ⟨((hflags.put LAN_TXEQ_PRE a _ (by decide) ha (by simp)).put LAN_TXEQ_POST a _ (by decide) ha (by simp)).put
      LAN_TXEQ_MAIN a _ (by decide) ha (by simp), ?_, ?_⟩
    · unfold Dev.setEq
      rw [Dev.get_put_field _ LAN_TXEQ_PRE LAN_TXEQ_MAIN a _ rfl (by decide) (.inl (by decide)),
        Dev.get_put_field _ LAN_TXEQ_PRE LAN_TXEQ_POST a _ rfl (by decide) (.inl (by decide)), Dev.get_put _ LAN_TXEQ_PRE a _ (by decide)]
      exact Nat.mod_mod _ _
    · unfold Dev.setEq
      rw [Dev.get_put_field _ LAN_TXEQ_POST LAN_TXEQ_MAIN a _ rfl (by decide) (.inl (by decide)), Dev.get_put _ LAN_TXEQ_POST a _ (by decide)]
      exact Nat.mod_mod _ _
  · rw [if_neg (mt eqOk_iff.2 hok), Dev.txeq_of_bad hok]
    refine ⟨hflags.put LAN_TXEQ_EQERR a 1 (by decide) ha (by simp), ?_, ?_, Dev.get_put _ LAN_TXEQ_EQERR a 1 (by decide)⟩
    · rw [Dev.get_put_field _ LAN_TXEQ_PRE LAN_TXEQ_EQERR a _ rfl (by decide) (.inl (by decide)), d.get_txeqFlags l.val v _ rfl (by decide)]
    · rw [Dev.get_put_field _ LAN_TXEQ_POST LAN_TXEQ_EQERR a _ rfl (by decide) (.inl (by decide)), d.get_txeqFlags l.val v _ rfl (by decide)]

end Sys2Proof.Machine

/-! # R66, R136: acknowledgements and releases of a port -/

namespace Sys2Proof.Machine

/-- The count that an ACK value asks for is the only one below 32,768 that fits. -/
theorem ackDistance_iff {o ack n : Nat} (ha : ack < 32768) (hn : n < 32768) :
    (ack + 32768 - o % 32768) % 32768 = n ↔ (o + n) % 32768 = ack := by omega

/-- Settles O38: the window is shorter than the numbers' range. -/
theorem acknowledgeWindow : Obligations.AcknowledgeWindow := by
  intro l ack ha hw
  refine ⟨fun n => ?_, fun n m hn hm en em => ?_⟩
  · unfold Link.ackCount
    dsimp only
    rw [Option.ite_none_right_eq_some, Option.some.injEq]
    constructor
    · rintro ⟨hle, rfl⟩
      exact ⟨hle, (ackDistance_iff ha (Nat.mod_lt _ (by decide))).1 rfl⟩
    · rintro ⟨hle, e⟩
      have hn := (ackDistance_iff ha (by omega)).2 e
      exact ⟨hn ▸ hle, hn⟩
  · exact ((ackDistance_iff ha (by omega)).2 en).symm.trans ((ackDistance_iff ha (by omega)).2 em)

/-- R136: a release of a port that is UP or draining. -/
theorem Dev.prtRelease_of_busy {d : Dev} {p scope : Nat} (hp : d.pexists p = true) (hs : scope ≠ 0)
    (hb : d.lstate p = UP ∨ d.draining p = true) : d.prtRelease p scope = d.put PRT_RELEASE_STATUS (onLane p) ST_BAD_STATE := by
  simp [Dev.prtRelease, hp, hs, hb]

/-- Settles O39. -/
theorem releaseRefused : Obligations.ReleaseRefused := by
  intro d p scope hp hlo _ hb
  rw [Dev.prtRelease_of_busy hp (by omega) hb]
  exact ⟨Dev.onlyFields_put d PRT_RELEASE_STATUS _ _ _ (by decide) (onLane_die p) (List.mem_singleton_self _),
    Dev.get_put d PRT_RELEASE_STATUS _ _ (by decide)⟩

end Sys2Proof.Machine

/-! # R13, R120: routes between dies, words of a route table -/

namespace Sys2Proof.Machine

/-- With every bridge up and no die away, every way over the four dies is open. -/
theorem Dev.pathUp_of_up {d : Dev} (hb : ∀ q e : Fin 4, d.bridgeUp q.val e.val = true) (ha : ∀ q : Fin 4, d.dieAway q.val = false) :
    ∀ l : List Nat, (∀ x ∈ l, x < 4) → d.pathUp l = true
  | [], _ => rfl
  | [_], _ => rfl
  | a :: b :: t, h => by
    have hab : d.bridgeUp a b = true := hb ⟨a, h a (by simp)⟩ ⟨b, h b (by simp)⟩
    have haway : d.dieAway b = false := ha ⟨b, h b (by simp)⟩
    have ht : d.pathUp (b :: t) = true := Dev.pathUp_of_up hb ha (b :: t) fun x hx => h x (List.mem_cons_of_mem _ hx)
    simp [Dev.pathUp, hab, haway, ht]

/-- R13: the first candidate is the route when every way is open. -/
theorem Dev.route_of_up {d : Dev} (hup : ∀ l : List Nat, (∀ x ∈ l, x < 4) → d.pathUp l = true) {a b : Nat} (ha : a < 4) (hb : b < 4)
    (hne : a ≠ b) (ing eg : Nat) :
    d.route a b ing eg 0 = some (if a ^^^ b = 3 then
      [a, if ones (ing ^^^ eg) % 2 = 0 then (if a = 0 ∨ a = 3 then 1 else 0) else 3 - (if a = 0 ∨ a = 3 then 1 else 0), b] else [a, b]) := by
  unfold Dev.route
  dsimp only
  rw [if_neg hne]
  split
  · refine List.find?_cons_of_pos ?_
    have hmid : (if ones (ing ^^^ eg) % 2 = 0 then (if a = 0 ∨ a = 3 then 1 else 0) else 3 - (if a = 0 ∨ a = 3 then 1 else 0)) < 4 := by
      repeat' split
      all_goals decide
    rw [hup _ (by simp only [List.forall_mem_cons]; exact ⟨ha, hmid, hb, nofun⟩)]
    rfl
  · refine List.find?_cons_of_pos ?_
    rw [hup _ (by simp [ha, hb])]
    rfl

/-- Settles O40: the first candidate, whose middle die is 1 or 2 between dies 0 and 3, and 0 or 3 between dies 1 and 2. -/
theorem bridgeRoutes : Obligations.BridgeRoutes := by
  intro d a b ing eg hne hb ha
  rw [Dev.route_of_up (Dev.pathUp_of_up hb ha) a.isLt b.isLt (fun h => hne (Fin.ext h))]
  by_cases hx : a.val ^^^ b.val = 3
  · rw [if_pos hx, if_neg (not_not_intro hx)]
    repeat' split
    all_goals rfl
  · rw [if_neg hx, if_pos hx]

/-- R123: a bank that is not valid takes every write. -/
theorem Dev.routeWrite_of_invalid {d : Dev} {q bank : Nat} (h : d.bankValid q bank = false) (w : Nat) (v : Word) :
    d.routeWrite q bank w v = d.putRoute q bank w v := by
  simp [Dev.routeWrite, h]

/-- The lower entry of a word. -/
theorem Dev.routeEntry_putRoute_low (d : Dev) (q bank w : Nat) (v : Word) :
    (d.putRoute q bank w v).routeEntry q bank (2 * w) = v.toNat % 2 ^ 32 :=
  (Tab.get_set_other _ _ _ _ _ _ (by omega)).trans (Tab.get_set_same ..)

/-- The upper entry of a word. -/
theorem Dev.routeEntry_putRoute_high (d : Dev) (q bank w : Nat) (v : Word) :
    (d.putRoute q bank w v).routeEntry q bank (2 * w + 1) = v.toNat / 2 ^ 32 := by
  unfold Dev.routeEntry
  rw [← Nat.add_assoc]
  refine (Tab.get_set_same ..).trans ?_
  rw [bits, Nat.shiftRight_eq_div_pow]
  have := v.isLt
  omega

/-- The entries of other words. -/
theorem Dev.routeEntry_putRoute_other (d : Dev) (q bank w : Nat) (v : Word) {x y n : Nat}
    (h0 : (x * 2 + y) * 131072 + n ≠ (q * 2 + bank) * 131072 + 2 * w) (h1 : (x * 2 + y) * 131072 + n ≠ (q * 2 + bank) * 131072 + 2 * w + 1) :
    (d.putRoute q bank w v).routeEntry x y n = d.routeEntry x y n :=
  (Tab.get_set_other _ _ _ _ _ _ h1).trans (Tab.get_set_other _ _ _ _ _ _ h0)

/-- Two halves of a word side by side. -/
theorem or_shiftLeft_32 {a : Nat} (b : Nat) (h : a < 2 ^ 32) : a ||| b <<< 32 = a + b * 2 ^ 32 := by
  rw [Nat.or_comm, ← Nat.shiftLeft_add_eq_or_of_lt h, Nat.shiftLeft_eq, Nat.add_comm]

/-- Settles O41: the write is taken, and what the entries read afterwards. -/
theorem routeReadsBack : Obligations.RouteReadsBack := by
  intro d q bank w v hv
  dsimp only
  rw [Dev.routeWrite_of_invalid hv]
  have hlow := d.routeEntry_putRoute_low q.val bank.val w.val v
  have hhigh := d.routeEntry_putRoute_high q.val bank.val w.val v
  refine ⟨hlow, hhigh, ?_, fun x y n hn => d.routeEntry_putRoute_other _ _ _ v ?_ ?_, rfl⟩
  · unfold Dev.readTbl
    dsimp only
    rw [hlow, hhigh, or_shiftLeft_32 _ (Nat.lt_trans (Nat.mod_lt _ (by decide : 0 < 2 ^ 16)) (by decide)), Nat.mod_mod_of_dvd _ (by decide)]
  all_goals
    intro he
    refine hn ⟨Fin.ext ?_, Fin.ext ?_, ?_⟩ <;> omega

end Sys2Proof.Machine

/-! # R213: fences -/

namespace Sys2Proof.Machine

theorem pairAbove_iff (a b : Nat × Nat) : pairAbove a b = true ↔ b.1 < a.1 ∨ (a.1 = b.1 ∧ b.2 < a.2) := by
  simp [pairAbove]

/-- A fence that supersedes nowhere is ignored. -/
theorem Dev.fenceSpread_of_none {d : Dev} {e gen orig : Nat}
    (h : ∀ q < 4, pairAbove (gen, orig) (d.fencePair q (epNode e)) = false) (node set : Bool) : d.fenceSpread e node set gen orig = d := by
  refine if_pos (List.filter_eq_nil_iff.2 fun q hq => ?_)
  rw [h q (List.mem_range.1 hq)]
  exact Bool.false_ne_true

/-- Settles O42: the order, the fence that is ignored, and the two tables that an applied one writes. -/
theorem fenceOrder : Obligations.FenceOrder := by
  refine ⟨pairAbove_iff, fun d e gen orig node set h => Dev.fenceSpread_of_none (fun q hq => h ⟨q, hq⟩) node set,
    fun d q e gen orig node set => ⟨Tab.get_set_same .., ?_, ?_⟩⟩
  all_goals
    cases node
  · rfl
  · exact Tab.get_set_same ..
  · exact Tab.get_set_same ..
  · rfl

end Sys2Proof.Machine

/-! # R250: admission to a completion queue -/

namespace Sys2Proof.Machine

/-- The completion queue of a queue stands in the table of queues. -/
theorem Dev.queue_of_cqOf {d : Dev} {q n : Nat} {x c : Queue} (h : d.cqOf q x = some (n, c)) : d.queue q kCQ n = some c := by
  simp only [Dev.cqOf, Dev.localQueue, Option.bind_eq_some_iff, Option.map_eq_some_iff, Prod.mk.injEq] at h
  obtain ⟨_, -, _, hq, rfl, rfl⟩ := h
  exact hq

/-- A queue that is changed reads as changed. -/
theorem Dev.queue_modQueue {d : Dev} {q k n : Nat} {x : Queue} (h : d.queue q k n = some x) (g : Queue → Queue) :
    (d.modQueue q k n g).queue q k n = some (g x) := by
  simp only [Dev.modQueue, h]
  exact Tab.find_put_same ..

/-- A queue's change leaves the registers. -/
theorem Dev.rd_modQueue (d : Dev) (q k n : Nat) (g : Queue → Queue) (r : Reg) (a : At) : (d.modQueue q k n g).rd r a = d.rd r a := by
  unfold Dev.modQueue
  split <;> rfl

/-- R476: a fixed counter after a count. -/
theorem Dev.toNat_rd_inc (d : Dev) (r : Reg) (a : At) :
    ((d.inc r a).rd r a).toNat = min (2 ^ 48 - 1) ((d.rd r a).toNat % 2 ^ 48 + 1) := by
  rw [Dev.inc, Dev.incBy, Dev.rd_wr, BitVec.toNat_ofNat]
  exact Nat.mod_eq_of_lt (Nat.lt_of_le_of_lt (Nat.min_le_left ..) (by decide))

/-- Settles O44. -/
theorem admissionBound : Obligations.AdmissionBound := by
  intro d q x c n h
  have hc : d.queue q.val kCQ n = some c := Dev.queue_of_cqOf h
  refine ⟨?_, ?_, ?_, ?_⟩
  · simp only [Dev.cqAdmits, h, decide_eq_true_eq]
    rfl
  · simp only [Dev.cqAdmit, h]
    exact Dev.queue_modQueue hc _
  · simp only [Dev.cqRefuse, h]
    exact Dev.queue_modQueue (d := d.inc .QUE_CQREFUSE (onDie q.val)) hc _
  · simp only [Dev.cqRefuse, h]
    rw [Dev.rd_modQueue]
    exact d.toNat_rd_inc ..

end Sys2Proof.Machine

/-! # R267, R269, R287: requests that do not execute, the choice of a posted receive -/

namespace Sys2Proof.Machine

/-- Opening a packet changes its covered bytes alone. -/
theorem Packet.opened_psn_type (k : Packet) (key nonce : Nat) : (k.opened key nonce).psn = k.psn ∧ (k.opened key nonce).type = k.type := by
  unfold Packet.opened Packet.recover
  split <;> exact ⟨rfl, rfl⟩

/-- What follows the checks sees the context, and the packet with its number and type. -/
theorem Dev.connIn_congr {d : Dev} {q : Nat} {k : Packet} {rsp : Bool} {x : Conn} (hx : d.ctxOf q k = some x)
    {g h : Conn → Packet → Dev → Dev} (hgh : ∀ j e, j.psn = k.psn → j.type = k.type → g x j e = h x j e) :
    d.connIn q k rsp g = d.connIn q k rsp h := by
  unfold Dev.connIn
  simp only [hx]
  rw [hgh k d rfl rfl]
  split
  · rw [hgh _ _ (Packet.opened_psn_type ..).1 (Packet.opened_psn_type ..).2]
  · rfl

/-- Settles O45: in each of the cases the branch of the target that is taken does not place the request. -/
theorem duplicatesNeverExecute : Obligations.DuplicatesNeverExecute := by
  intro d q k g h
  refine ⟨fun hx => ?_, fun x hx hdup ht => Dev.connIn_congr hx fun j e hp hj => ?_,
    fun x hx hdup hw => Dev.connIn_congr hx fun j e hp hj => ?_, fun x hx hs hdup => Dev.connIn_congr hx fun j e hp hj => ?_⟩
  · simp [Dev.requestIn, Dev.connIn, hx]
  · simp [hp, hj, hdup, ht]
  · simp [hp, hdup, hw]
  · simp [hp, hdup, hs]

/-- The posted receive i when the message matches it. -/
def Dev.postedTry (d : Dev) (context tag src i : Nat) : Option (Nat × Op) :=
  match d.op i with
  | some o => if keyMatches o.desc context tag src then some (i, o) else none
  | none => none

theorem Dev.postedMatch_eq (d : Dev) (q f context tag src : Nat) :
    d.postedMatch q f context tag src = (d.posted q f).findSome? (d.postedTry context tag src) := rfl

theorem Dev.postedTry_eq_some {d : Dev} {context tag src i j : Nat} {o : Op} (h : d.postedTry context tag src i = some (j, o)) :
    i = j ∧ d.op i = some o ∧ keyMatches o.desc context tag src = true := by
  unfold Dev.postedTry at h
  split at h
  · next p hp =>
    obtain ⟨hk, he⟩ := Option.ite_none_right_eq_some.1 h
    obtain ⟨rfl, rfl⟩ := Prod.mk.inj (Option.some.inj he)
    exact ⟨rfl, hp, hk⟩
  · cases h

theorem Dev.postedTry_eq_none {d : Dev} {context tag src i : Nat} (h : d.postedTry context tag src i = none) {o : Op}
    (ho : d.op i = some o) : keyMatches o.desc context tag src = false := by
  simpa [Dev.postedTry, ho] using h

/-- Settles O46: the scan answers the first entry that matches. -/
theorem lowestStampMatches : Obligations.LowestStampMatches := by
  intro d q f context tag src
  rw [d.postedMatch_eq]
  refine ⟨fun i o h => ?_, fun h j hj p hp => Dev.postedTry_eq_none (List.findSome?_eq_none_iff.1 h j hj) hp⟩
  obtain ⟨before, j, after, hl, hj, hb⟩ := List.findSome?_eq_some_iff.1 h
  obtain ⟨rfl, ho, hk⟩ := Dev.postedTry_eq_some hj
  exact ⟨ho, hk, before, after, hl, fun x hx p hp => Dev.postedTry_eq_none (hb x hx) hp⟩

end Sys2Proof.Machine

/-! # R311, R312: a loaded translation entry -/

namespace Sys2Proof.Machine

/-- Whether two pages overlap does not depend on which of them is asked. -/
theorem XEnt.overlaps_comm (x y : XEnt) :
    x.overlaps y.space y.va (y.va + 2 ^ y.size) = y.overlaps x.space x.va (x.va + 2 ^ x.size) := by
  have hx : 0 < 2 ^ x.size := Nat.two_pow_pos _
  have hy : 0 < 2 ^ y.size := Nat.two_pow_pos _
  rw [Bool.eq_iff_iff]
  simp only [XEnt.overlaps, Bool.and_eq_true, decide_eq_true_eq]
  omega

theorem dropFirst_sublist {α : Type} [DecidableEq α] (x : α) (l : List α) : (dropFirst x l).Sublist l := by
  induction l with
  | nil => exact List.Sublist.refl _
  | cons a t ih =>
    unfold dropFirst
    split
    · exact List.sublist_cons_self a t
    · exact ih.cons_cons a

/-- R310: the replacement takes an entry away. -/
theorem dropLru_sublist (l : List XEnt) : (dropLru l).Sublist l := by
  unfold dropLru
  dsimp only
  split
  · simpa using (dropFirst_sublist _ l.reverse).reverse
  · exact List.Sublist.refl _

theorem Dev.l2_setL2 (d : Dev) (q : Nat) (l : List XEnt) : (d.setL2 q l).l2 q = l := Tab.get_set_same ..

/-- A removal leaves the second-level entries that do not have the property. -/
theorem Dev.l2_removeEnts (d : Dev) (q : Nat) (p : XEnt → Bool) : (d.removeEnts q p).l2 q = (d.l2 q).filter (fun e => !p e) := by
  have hl1 (e : Dev) (g : Nat → Dev → List (Nat × Nat)) (l : List Nat) :
      (e.each l (fun i e => e.setL1 (q * 8 + i) (g i e))).xlt.l2 = e.xlt.l2 := by
    unfold Dev.each
    induction l generalizing e with
    | nil => rfl
    | cons i t ih => exact ih (e.setL1 (q * 8 + i) (g i e))
  unfold Dev.l2 Dev.removeEnts
  rw [hl1]
  exact Dev.l2_setL2 ..

/-- The second level after a load: the entry in front of those that it does not overlap, less one when the level is full. -/
theorem Dev.l2_loadEnt (d : Dev) (q : Nat) (e : XEnt) :
    ∃ g l, (d.loadEnt q e).l2 q = { e with guard := g } :: l ∧ l.Sublist ((d.l2 q).filter (fun x => !x.overlaps e.space e.va (e.va + 2 ^ e.size))) := by
  refine ⟨_, _, (Dev.l2_setL2 ..), ?_⟩
  rw [Dev.l2_removeEnts]
  split
  · exact List.Sublist.refl _
  · exact dropLru_sublist _

/-- Settles O47: the rest of the level is a part of what does not overlap the loaded entry. -/
theorem loadedPagesApart : Obligations.LoadedPagesApart := by
  intro d q e h
  obtain ⟨g, l, hl, hs⟩ := d.l2_loadEnt q e
  rw [hl]
  refine ⟨List.pairwise_cons.2 ⟨fun y hy => ?_, h.sublist (hs.trans List.filter_sublist)⟩, rfl⟩
  rw [XEnt.overlaps_comm]
  simpa using (List.mem_filter.1 (hs.subset hy)).2

end Sys2Proof.Machine

/-! # R376: protected flash -/

namespace Sys2Proof.Machine

/-- A field of another place than the one whose word is written. -/
theorem Dev.get_wr_other (d : Dev) {r : Reg} {a b : At} (x : Word) {f : Fld} (ha : a.die < 4) (hb : b.die < 4) (h : ¬ (f.reg = r ∧ b = a)) :
    (d.wr r a x).get f b = d.get f b := by
  unfold Dev.get
  rw [Dev.rd_wr_other _ _ _ _ _ _ fun hk => h (regKey_inj hb ha hk)]

/-- The slot of an address in one of the three ranges of 32 MiB. -/
theorem flashSlot_of_mem {a s : Nat} (hs : s < 3) (h1 : 0x100000 + s * 0x2000000 ≤ a) (h2 : a < 0x100000 + (s + 1) * 0x2000000) :
    flashSlot a = some s := by
  have hslot : (a - 0x100000) / 0x2000000 = s := by omega
  have hlo : 0x100000 ≤ a := by omega
  have hhi : a < 0x6100000 := by omega
  simp [flashSlot, hlo, hhi, hslot]

/-- FLASH_WE, the directory copies and the reserved area, and the slots that R376 protects. -/
theorem Dev.flashProtected_of {d : Dev} {a : Nat}
    (h : d.get CFG_CTRL_FLASH_WE onMod = 0 ∨ a < 0x100000 ∨
      (∃ s, 0x100000 + s * 0x2000000 ≤ a ∧ a < 0x100000 + (s + 1) * 0x2000000 ∧ s < 3 ∧
        ((s = 0 ∧ d.lifeCycle ≠ 1) ∨ s = d.boot.dir.active ∨ (d.boot.dir.trialState ≠ 0 ∧ s = d.boot.dir.trialSlot)))) :
    d.flashProtected a = true := by
  obtain hwe | hlow | ⟨s, h1, h2, hs, hp⟩ := h
  · simp [Dev.flashProtected, Dev.bit, hwe]
  · simp [Dev.flashProtected, hlow]
  · simpa [Dev.flashProtected, flashSlot_of_mem hs h1 h2, or_assoc] using .inr (.inr hp)

/-- A write of CFG_FLASHCMD does not change what is protected. -/
theorem Dev.flashProtected_wrFields (d : Dev) (v : Word) (a : Nat) :
    (d.wrFields .CFG_FLASHCMD onMod v).flashProtected a = d.flashProtected a := by
  have hwe : (d.wrFields .CFG_FLASHCMD onMod v).get CFG_CTRL_FLASH_WE onMod = d.get CFG_CTRL_FLASH_WE onMod :=
    d.get_wr_other _ (by decide) (by decide) (by decide)
  unfold Dev.flashProtected Dev.bit
  rw [hwe]
  rfl

/-- A program or erase of a protected address. -/
theorem Dev.flashStart_of_protected {d : Dev} {op a unit : Nat} {data : List Byte} (ha : a % unit = 0) (hp : d.flashProtected a = true) :
    d.flashStart op a unit data = d.flashStatus ST_NOT_PERMITTED := by
  simp [Dev.flashStart, ha, hp]

/-- Settles O49: the command is refused with its status, after the write of its register. -/
theorem flashProtected : Obligations.FlashProtected := by
  intro d v hbusy a hp g unit hg ha
  have hprot : (d.wrFields .CFG_FLASHCMD onMod v).flashProtected a = true :=
    (d.flashProtected_wrFields v a).trans (Dev.flashProtected_of hp)
  have he : d.flashCommand v g = (d.wrFields .CFG_FLASHCMD onMod v).flashStatus ST_NOT_PERMITTED := by
    unfold Dev.flashCommand
    rw [hbusy, if_neg Bool.false_ne_true]
    obtain ⟨rfl, rfl⟩ | ⟨rfl, rfl⟩ := hg
    · exact Dev.flashStart_of_protected ha hprot
    · exact Dev.flashStart_of_protected ha hprot
  rw [he]
  refine ⟨Dev.get_put _ CFG_FLASHCMD_STATUS onMod _ (by decide), rfl, fun f b _ hb hn => ?_⟩
  exact (Dev.get_wr_other _ _ (by decide) hb hn).trans (Dev.get_wr_other _ _ (by decide) hb hn)

end Sys2Proof.Machine

/-! # R414: the thermal limit -/

namespace Sys2Proof.Machine

/-- A put leaves the words of other keys. -/
theorem Dev.rd_put_other (d : Dev) (f : Fld) {a b : At} (v : Nat) {r : Reg} (h : regKey r b ≠ regKey f.reg a) :
    (d.put f a v).rd r b = d.rd r b :=
  Dev.rd_wr_other _ _ _ _ _ _ h

/-- The level of the cone changes PWR_STAT alone. -/
theorem Dev.rd_setCone (d : Dev) (n : Nat) {r : Reg} (h : regKey r onMod ≠ regKey .PWR_STAT onMod) : (d.setCone n).rd r onMod = d.rd r onMod := by
  unfold Dev.setCone Dev.putB
  dsimp only
  rw [Dev.rd_put_other _ PWR_STAT_LIMIT_OC _ h, Dev.rd_put_other _ PWR_STAT_LIMIT_SRC _ h, Dev.rd_put_other _ PWR_STAT_CONE _ h]

@[simp] theorem Dev.thermalLimit_setTj (d : Dev) (tj die : Nat) : (d.setTj tj die).thermalLimit = d.thermalLimit := by
  unfold Dev.thermalLimit Dev.setTj
  rw [Dev.get_put_field _ PWR_THERM_THERMLVL PWR_THERM_HOTDIE _ _ rfl (by decide) (.inl (by decide)),
    Dev.get_put_field _ PWR_THERM_THERMLVL PWR_THERM_TJ _ _ rfl (by decide) (.inr (by decide))]

/-- The limit reads the value that it takes. -/
theorem Dev.thermalLimit_setThermal (d : Dev) {n : Nat} (h : n ≤ 7) : (d.setThermal n).thermalLimit = n := by
  unfold Dev.thermalLimit Dev.get Dev.setThermal Dev.coneFall
  rw [Dev.rd_setCone _ _ (by decide)]
  refine (Dev.get_put_field _ PWR_THERM_THERMLVL PWR_THERM_THROTTLE _ _ rfl (by decide) (.inl (by decide))).trans ?_
  rw [Dev.get_put _ PWR_THERM_THERMLVL _ _ (by decide)]
  exact Nat.mod_eq_of_lt (Nat.lt_succ_of_le h)

/-- THROTTLE reads 1 while the limit is below 7. -/
theorem Dev.throttle_setThermal (d : Dev) (n : Nat) : (d.setThermal n).get PWR_THERM_THROTTLE onMod = if n < 7 then 1 else 0 := by
  unfold Dev.get Dev.setThermal Dev.coneFall
  rw [Dev.rd_setCone _ _ (by decide)]
  refine (Dev.get_put _ PWR_THERM_THROTTLE _ _ (by decide)).trans ?_
  by_cases h : n < 7 <;> simp [h, PWR_THERM_THROTTLE]

/-- The counter of R414 after a fall. -/
theorem Dev.rd_throttle_setThermal (d : Dev) (n : Nat) : (d.setThermal n).rd .PWR_THROTTLE onMod = d.rd .PWR_THROTTLE onMod := by
  unfold Dev.setThermal Dev.coneFall
  rw [Dev.rd_setCone _ _ (by decide)]
  unfold Dev.putB
  rw [Dev.rd_put_other _ _ _ (by decide), Dev.rd_put_other _ _ _ (by decide)]

/-- TJ is no part of the counter. -/
theorem Dev.rd_throttle_setTj (d : Dev) (tj die : Nat) : (d.setTj tj die).rd .PWR_THROTTLE onMod = d.rd .PWR_THROTTLE onMod := by
  unfold Dev.setTj
  rw [Dev.rd_put_other _ _ _ (by decide), Dev.rd_put_other _ _ _ (by decide)]

/-- A fall that lowers the limit. -/
theorem Dev.thermalFall_of_hot {d : Dev} {tj : Nat} (die : Nat) (h : 400 ≤ tj) (hl : 0 < d.thermalLimit) :
    d.thermalFall tj die = ((d.setTj tj die).inc .PWR_THROTTLE onMod).setThermal (d.thermalLimit - 1) := by
  simp [Dev.thermalFall, h, hl]

/-- A fall below 100 degrees, or at limit 0. -/
theorem Dev.thermalFall_of_not {d : Dev} {tj : Nat} (die : Nat) (h : ¬ (400 ≤ tj ∧ 0 < d.thermalLimit)) :
    d.thermalFall tj die = d.setTj tj die := by
  simpa [Dev.thermalFall] using fun h1 h2 => absurd ⟨h1, h2⟩ h

theorem Dev.thermalRise_of_cool {d : Dev} {tj : Nat} (die : Nat) (h : tj < 388) :
    d.thermalRise tj die = (d.setTj tj die).setThermal (min 7 (d.thermalLimit + 1)) := by
  simp [Dev.thermalRise, h]

theorem Dev.thermalRise_of_not {d : Dev} {tj : Nat} (die : Nat) (h : ¬ tj < 388) : d.thermalRise tj die = d.setTj tj die := by
  simp [Dev.thermalRise, h]

/-- Settles O50: the limit, THROTTLE and the counter after each of the two events. -/
theorem thermalLimitMoves : Obligations.ThermalLimitMoves := by
  intro d tj die h7
  refine ⟨?_, fun ht hl => ?_, ?_, fun ht => ?_⟩
  · by_cases h : 400 ≤ tj ∧ 0 < d.thermalLimit
    · rw [Dev.thermalFall_of_hot _ h.1 h.2, Dev.thermalLimit_setThermal _ (by omega), if_pos h.1]
    · rw [Dev.thermalFall_of_not _ h, Dev.thermalLimit_setTj]
      split
      · omega
      · rfl
  · rw [Dev.thermalFall_of_hot _ ht hl, Dev.throttle_setThermal, if_pos (by omega), Dev.rd_throttle_setThermal, Dev.toNat_rd_inc,
      Dev.rd_throttle_setTj]
    exact ⟨rfl, rfl⟩
  · by_cases h : tj < 388
    · rw [Dev.thermalRise_of_cool _ h, Dev.thermalLimit_setThermal _ (Nat.min_le_left ..), if_pos h]
    · rw [Dev.thermalRise_of_not _ h, Dev.thermalLimit_setTj, if_neg h]
  · rw [Dev.thermalRise_of_cool _ ht, Dev.throttle_setThermal]
    have hbelow : min 7 (d.thermalLimit + 1) < 7 ↔ d.thermalLimit < 6 := by omega
    simp only [hbelow]

end Sys2Proof.Machine

/-! # R356, R436, R442: the operator key, acknowledgements, FAULT_N -/

namespace Sys2Proof.Machine

theorem Dev.setOpkey_of_permitted {d : Dev} {q : Nat} (hb : d.tokBusy = false) (hl : d.lifeCycle = 2) (hk : d.sys.opkey = none) :
    d.setOpkey q .mgmt =
      ({ d with sys := { d.sys with opkey := some (ofBytes (d.bufBytes .SAG_TOKBUF q 6)) } } : Dev).tokStatus ST_OK := by
  simp [Dev.setOpkey, hb, hl, hk]

theorem Dev.setOpkey_of_refused {d : Dev} {q : Nat} {path : Path} (hb : d.tokBusy = false)
    (h : ¬ (path = .mgmt ∧ d.lifeCycle = 2 ∧ d.sys.opkey = none)) : d.setOpkey q path = d.tokStatus ST_NOT_PERMITTED := by
  unfold Dev.setOpkey
  rw [hb, if_neg Bool.false_ne_true]
  exact if_neg (by simpa [and_assoc] using h)

/-- Settles O48. -/
theorem operatorKeyOnce : Obligations.OperatorKeyOnce := by
  intro d q path hb
  refine ⟨fun hp hl hk => ?_, fun h => ?_⟩
  · subst hp
    rw [Dev.setOpkey_of_permitted hb hl hk]
    exact ⟨rfl, Dev.get_put _ SAG_TOKCMD_STATUS onMod _ (by decide)⟩
  · rw [Dev.setOpkey_of_refused hb h]
    exact ⟨Dev.onlyFields_put d SAG_TOKCMD_STATUS _ _ _ (by decide) (by decide) (List.mem_singleton_self _),
      Dev.get_put _ SAG_TOKCMD_STATUS onMod _ (by decide)⟩

theorem Dev.ackClear_of_unknown {d : Dev} {id : Nat} (h : d.recOf id = none) : d.ackClear id = d.ackStatus ST_BAD_STATE := by
  simp [Dev.ackClear, h]

theorem Dev.ackAct_of_unknown {d : Dev} {id : Nat} (h : d.recOf id = none) : d.ackAct id = d.ackStatus ST_BAD_STATE := by
  simp [Dev.ackAct, h]

/-- Settles O51: both acknowledgements record the status alone. -/
theorem acknowledgeUnknownRecord : Obligations.AcknowledgeUnknownRecord := by
  intro d id h e he
  have he : e = d.ackStatus ST_BAD_STATE := he.elim (·.trans (Dev.ackClear_of_unknown h)) (·.trans (Dev.ackAct_of_unknown h))
  subst he
  exact ⟨Dev.onlyFields_put d FLT_ACK_STATUS _ _ _ (by decide) (by decide) (List.mem_singleton_self _),
    Dev.get_put _ FLT_ACK_STATUS onMod _ (by decide)⟩

/-- The FAULT_N state takes the change; the output alone shows the pin. -/
theorem Dev.faultN_flt (d : Dev) (g : FltG → FltG) : (d.faultN g).flt = g d.flt := by
  unfold Dev.faultN Dev.when
  dsimp only
  split <;> rfl

theorem Dev.faultN_get (d : Dev) (g : FltG → FltG) (f : Fld) (a : At) : (d.faultN g).get f a = d.get f a := by
  unfold Dev.faultN Dev.when
  dsimp only
  split <;> rfl

theorem Dev.faultRelease_of_free {d : Dev} (h : d.flt.holding = false) : d.faultRelease = d.faultN (fun f => { f with latch := false }) := by
  simp [Dev.faultRelease, h]

theorem Dev.faultRelease_of_holding {d : Dev} (h : d.flt.holding = true) :
    d.faultRelease = { d with flt := { d.flt with pendRelease := true } } := by
  simp [Dev.faultRelease, h]

/-- Settles O52. -/
theorem faultPin : Obligations.FaultPin := by
  intro d
  refine ⟨fun h => ?_, fun h => ?_, fun on => ?_⟩
  · rw [Dev.faultRelease_of_free h, Dev.faultN_flt]
    exact ⟨rfl, by simp [FltG.pin, h]⟩
  · rw [Dev.faultRelease_of_holding h]
    exact ⟨rfl, by simp [FltG.pin, h]⟩
  · unfold Dev.faultForce
    rw [Dev.faultN_flt, Dev.faultN_get]
    refine ⟨rfl, rfl, rfl, rfl, (Dev.get_put _ FLT_FAULTN_FORCE onMod _ (by decide)).trans ?_⟩
    cases on <;> rfl

end Sys2Proof.Machine

/-! # R466, R467: accesses that their path does not allow -/

namespace Sys2Proof.Machine

/-- The fields of the record of refused accesses (Table 17-10). -/
def accErrFields : List (Fld × At) :=
  [(FLT_ACCERR_VALID, onMod), (FLT_ACCERR_PATH, onMod), (FLT_ACCERR_REASON, onMod), (FLT_ACCERR_ADDR, onMod), (FLT_ACCERR_COUNT, onMod)]

/-- A refusal changes the record of refused accesses alone. -/
theorem Dev.accErr_onlyFields (d : Dev) (path : Path) (a reason : Nat) : d.onlyFields (d.accErr path a reason) accErrFields := by
  have h0 := Dev.onlyFields_refl d accErrFields
  have hput {e : Dev} (h : d.onlyFields e accErrFields) {f : Fld} (v : Nat) (hf : f ∈ f.reg.flds) (hl : (f, onMod) ∈ accErrFields) :
      d.onlyFields (e.put f onMod v) accErrFields := h.put f onMod v hf (by decide) hl
  unfold Dev.accErr
  dsimp only
  split
  · exact hput h0 _ (by decide) (by decide)
  · exact hput (hput (hput (hput (hput h0 _ (by decide) (by decide)) _ (by decide) (by decide)) _ (by decide) (by decide)) _
      (by decide) (by decide)) _ (by decide) (by decide)

/-- A free record takes the reason. -/
theorem Dev.accErr_reason {d : Dev} {path : Path} {a reason : Nat} (hr : reason < 8) (h : d.get FLT_ACCERR_VALID onMod = 0) :
    (d.accErr path a reason).get FLT_ACCERR_REASON onMod = reason := by
  have hv : d.bit FLT_ACCERR_VALID onMod = false := by simp [Dev.bit, h]
  unfold Dev.accErr Dev.incF
  simp only [hv, Bool.false_eq_true, if_false]
  rw [Dev.get_put_field _ FLT_ACCERR_REASON FLT_ACCERR_COUNT _ _ rfl (by decide) (.inr (by decide)),
    Dev.get_put_field _ FLT_ACCERR_REASON FLT_ACCERR_ADDR _ _ rfl (by decide) (.inr (by decide)),
    Dev.get_put _ FLT_ACCERR_REASON _ _ (by decide)]
  exact Nat.mod_eq_of_lt hr

/-- R466: the path is checked before anything else. -/
theorem Dev.tryAccess_of_path {d : Dev} {x : Access} (h : d.pathMay x.path x.addr x.data.isSome = false) :
    d.tryAccess x = (d.accErr x.path x.addr 2, .refused ST_NOT_PERMITTED) := by
  simp [Dev.tryAccess, h]

/-- A register found in a block is placed there. -/
theorem regFind_blk {blk off : Nat} {r : Reg} {i : Nat} (h : regFind blk off = some (r, i)) : r.place.blk = blk := by
  obtain ⟨s, -, hs⟩ := List.exists_of_findSome?_eq_some h
  obtain ⟨hblk, hs⟩ := Option.ite_none_right_eq_some.1 hs
  obtain ⟨_, -, he⟩ := Option.map_eq_some_iff.1 hs
  obtain ⟨rfl, -⟩ := Prod.mk.inj he
  exact hblk

/-- CFG_SLOTCMD is not in the SAG block. -/
theorem regIs_slotcmd_of_sag {a : Nat} (h : adrBlk a = 0x20) : regIs a (fun r _ => r = .CFG_SLOTCMD) = false := by
  unfold regIs
  split
  · next r i hr =>
    refine decide_eq_false fun he => ?_
    have hblk := (regFind_blk hr).trans h
    rw [he] at hblk
    exact absurd hblk (by decide)
  · rfl

/-- Settles O53: the path before anything else; what a host port's window may write; the fused blocks. -/
theorem pathRefusal : Obligations.PathRefusal := by
  refine ⟨fun d x h => ?_, fun d h a ha => ?_, fun d path a v hs hlo hhi => ?_⟩
  · rw [Dev.tryAccess_of_path h]
    exact ⟨rfl, d.accErr_onlyFields .., Dev.accErr_reason (by decide)⟩
  · change hostWrites h.val a = false
    simp [hostWrites, regIs_slotcmd_of_sag ha, ha]
  · have hf : d.fusedOff (adrBlk a) = true := by simp [Dev.fusedOff, hs, hlo, hhi]
    exact ⟨by simp [Dev.writeAt, hf], by simp [Dev.readAt, hf]⟩

end Sys2Proof.Machine

/-! # R21, R26: how resets meet -/

namespace Sys2Proof.Machine

/-- A reset of Q0 is a reset of the module. -/
theorem Dev.reset_die_zero (d : Dev) (cause : Nat) (act : Option Nat) : d.reset (locDie 0) cause act = d.reset locModule cause act := by
  simp [Dev.reset, locDie, locModule]

/-- A reset within one that runs is recorded and does nothing else. -/
theorem Dev.reset_of_contained {d : Dev} {l : Loc} (cause : Nat) (act : Option Nat) (hl : l.level ≤ 3 ∨ (l.level = 4 ∧ l.die ≠ 0))
    (hr : ∃ r ∈ d.flt.resets, r.contains l = true) : d.reset l cause act = d.raise srcRESET l.level l cause := by
  have h5 : l.level ≠ 5 := by omega
  have hsame : ¬ (5 ≤ l.level ∨ (l.level = 4 ∧ l.die = 0)) := by omega
  have hany : d.flt.resets.any (fun r => r.contains l) = true := by simpa using hr
  simp [Dev.reset, hsame, hany, h5, Dev.when]

/-- Where nothing wakes, no wake ends. -/
theorem Dev.wakesEnd_of_none {d : Dev} {regions dies : List Nat} (hr : ∀ m ∈ regions, d.regionState m ≠ domWAKING)
    (hd : ∀ q ∈ dies, d.dieState q ≠ domWAKING) : d.wakesEnd regions dies = d := by
  have hdies : dies.filter (fun q => d.dieState q = domWAKING) = [] := List.filter_eq_nil_iff.2 fun q hq => by simpa using hd q hq
  have hregions : regions.filter (fun m => d.regionState m = domWAKING) = [] := List.filter_eq_nil_iff.2 fun m hm => by simpa using hr m hm
  unfold Dev.wakesEnd
  rw [hdies]
  exact congrArg (fun l => d.each l _) hregions

/-- Settles O54: the reset that takes over is the last; those that it does not contain stay. -/
theorem resetScopes : Obligations.ResetScopes := by
  refine ⟨Dev.reset_die_zero, fun d l cause act => Dev.reset_of_contained cause act, fun d l r hr hq => ?_⟩
  unfold Dev.resetBegins
  rw [Dev.wakesEnd_of_none (fun m hm => hr m (List.mem_range.1 (List.mem_filter.1 hm).1))
    (fun q hm => hq q (List.mem_range.1 (List.mem_filter.1 hm).1))]
  simp only [List.mem_append, List.mem_filter, List.mem_singleton, Bool.not_eq_true', or_comm]

end Sys2Proof.Machine

/-! # Tables 4-1 to 4-4, R93, R101: flit bodies, packets and their check -/

namespace Sys2Proof.Machine

/-! ## Bits of numbers and of bodies -/

theorem testBit_bits (x lo w i : Nat) : (bits x lo w).testBit i = (decide (i < w) && x.testBit (lo + i)) := by
  unfold bits
  rw [Nat.testBit_mod_two_pow, Nat.testBit_shiftRight]

/-- Numbers that agree in some bits. -/
theorem bits_congr {x y lo w : Nat} (h : ∀ i, lo ≤ i → i < lo + w → x.testBit i = y.testBit i) : bits x lo w = bits y lo w := by
  refine Nat.eq_of_testBit_eq fun i => ?_
  rw [testBit_bits, testBit_bits]
  by_cases hi : i < w
  · rw [h (lo + i) (by omega) (by omega)]
  · simp [hi]

theorem bits_or (x y lo w : Nat) : bits (x ||| y) lo w = bits x lo w ||| bits y lo w := by
  refine Nat.eq_of_testBit_eq fun i => ?_
  simp only [Nat.testBit_or, testBit_bits, Bool.and_or_distrib_left]

/-- A body holds a number's low 448 bits. -/
theorem fb_ofNat (x : Nat) {lo w : Nat} (h : lo + w ≤ 448) : fb (BitVec.ofNat 448 x) lo w = bits x lo w := by
  refine bits_congr fun i _ hi => ?_
  rw [BitVec.toNat_ofNat, Nat.testBit_mod_two_pow, decide_eq_true (by omega), Bool.true_and]

/-- The bits of a body with a field set. -/
theorem getLsbD_setFb (b : Body) {lo w : Nat} (v i : Nat) (h : lo + w ≤ 448) :
    (setFb b lo w v).getLsbD i = if lo ≤ i ∧ i < lo + w then v.testBit (i - lo) else b.getLsbD i := by
  unfold setFb
  rw [BitVec.getLsbD_or, BitVec.getLsbD_and, BitVec.getLsbD_not, BitVec.getLsbD_ofNat, BitVec.getLsbD_ofNat, Nat.testBit_shiftLeft,
    Nat.testBit_shiftLeft, Nat.testBit_two_pow_sub_one, Nat.testBit_mod_two_pow]
  by_cases hin : lo ≤ i ∧ i < lo + w
  · have h448 : i < 448 := by omega
    have hw : i - lo < w := by omega
    simp [hin, h448, hw]
  · rw [if_neg hin]
    by_cases h448 : i < 448
    · by_cases hlo : lo ≤ i
      · have hw : ¬ i - lo < w := by omega
        simp [h448, hw]
      · simp [h448, hlo]
    · have hb : b.getLsbD i = false := BitVec.getLsbD_of_ge _ _ (by omega)
      simp [hb, h448]

/-- A field below the one that is set. -/
theorem fb_setFb_below (b : Body) {lo w s u : Nat} (v : Nat) (hs : s + u ≤ 448) (h : lo + w ≤ s) : fb (setFb b s u v) lo w = fb b lo w := by
  refine bits_congr fun i _ hi => ?_
  change (setFb b s u v).getLsbD i = b.getLsbD i
  rw [getLsbD_setFb b v i hs, if_neg (by omega)]

/-! ## The check does not see the mutable fields -/

/-- STEP, CMARK, HOPS and AGE are taken as zero, whatever they hold. -/
theorem hImmutable_mutable (h : Body) (step cmark hops age : Nat) :
    hImmutable (setFb (setFb (setFb (setFb h 15 3 step) 23 1 cmark) 24 4 hops) 57 7 age) = hImmutable h := by
  refine BitVec.eq_of_getLsbD_eq fun i _ => ?_
  unfold hImmutable
  iterate 12 rw [getLsbD_setFb _ _ _ (by decide)]
  by_cases h1 : 57 ≤ i ∧ i < 57 + 7
  · rw [if_pos h1, if_pos h1]
  by_cases h2 : 24 ≤ i ∧ i < 24 + 4
  · simp only [if_neg h1, if_pos h2]
  by_cases h3 : 23 ≤ i ∧ i < 23 + 1
  · simp only [if_neg h1, if_neg h2, if_pos h3]
  by_cases h4 : 15 ≤ i ∧ i < 15 + 3
  · simp only [if_neg h1, if_neg h2, if_neg h3, if_pos h4]
  · simp only [if_neg h1, if_neg h2, if_neg h3, if_neg h4]

/-- Settles O60: the check sees the header through `hImmutable` alone. -/
theorem pcrcMutable : Obligations.PcrcMutable := by
  intro h t step cmark hops age _
  unfold pcrcOf
  dsimp only
  rw [hImmutable_mutable]

/-! ## Bytes -/

/-- Little-endian bytes of a number that bytes spell: the bytes, then zeros. -/
theorem toBytes_ofBytes (l : List Byte) : ∀ n, l.length ≤ n → toBytes n (ofBytes l) = l ++ List.replicate (n - l.length) 0 := by
  induction l with
  | nil =>
    intro n _
    simp only [ofBytes, List.nil_append, List.length_nil, Nat.sub_zero]
    induction n with
    | zero => rfl
    | succ n ih => simpa [toBytes, List.replicate_succ] using ih (Nat.zero_le _)
  | cons b t ih =>
    intro n hn
    obtain ⟨m, rfl⟩ : ∃ m, n = m + 1 := ⟨n - 1, by simp at hn; omega⟩
    have hlow : BitVec.ofNat 8 (b.toNat + 256 * ofBytes t) = b := by
      refine BitVec.eq_of_toNat_eq ?_
      rw [BitVec.toNat_ofNat]
      have := b.isLt
      omega
    have hrest : (b.toNat + 256 * ofBytes t) >>> 8 = ofBytes t := by
      rw [Nat.shiftRight_eq_div_pow]
      have := b.isLt
      omega
    simp only [toBytes, ofBytes, hlow, hrest, ih m (by simpa using hn), List.length_cons, Nat.add_sub_add_right, List.cons_append]

theorem ofBytes_lt (l : List Byte) : ofBytes l < 2 ^ (8 * l.length) := by
  induction l with
  | nil => decide
  | cons b t ih =>
    have hb := b.isLt
    have hp : 2 ^ (8 * (b :: t).length) = 256 * 2 ^ (8 * t.length) := by
      rw [List.length_cons, Nat.mul_add, Nat.pow_add, Nat.mul_comm]
    rw [hp]
    simp only [ofBytes]
    omega

/-- A flit's body spells the bytes that it was made of, then zeros. -/
theorem bodyBytes_bodyOf {l : List Byte} (h : l.length ≤ 56) : bodyBytes (bodyOf l) = l ++ List.replicate (56 - l.length) 0 := by
  unfold bodyBytes bodyOf
  rw [BitVec.toNat_ofNat, Nat.mod_eq_of_lt (Nat.lt_of_lt_of_le (ofBytes_lt l) (Nat.pow_le_pow_right (by decide) (by omega)))]
  exact toBytes_ofBytes l 56 h

/-- The payload flits spell the payload, then zeros. -/
theorem take_flatten_payloadBody (n : Nat) : ∀ l : List Byte, l.length ≤ 56 * n →
    (((List.range n).map (payloadBody l)).map bodyBytes).flatten.take l.length = l := by
  induction n with
  | zero =>
    intro l hl
    rw [List.length_eq_zero_iff.1 (Nat.le_zero.1 hl)]
    rfl
  | succ n ih =>
    intro l hl
    have hfirst : bodyBytes (payloadBody l 0) = l.take 56 ++ List.replicate (56 - (l.take 56).length) 0 :=
      bodyBytes_bodyOf (List.length_take_le ..)
    have hrest : (List.range n).map (payloadBody l ∘ Nat.succ) = (List.range n).map (payloadBody (l.drop 56)) := by
      refine List.map_congr_left fun i _ => ?_
      simp only [Function.comp, payloadBody, List.drop_drop, Nat.succ_eq_add_one, Nat.mul_add, Nat.mul_one, Nat.add_comm]
    rw [List.range_succ_eq_map, List.map_cons, List.map_map, hrest, List.map_cons, List.flatten_cons, hfirst]
    obtain hlt | hge := Nat.lt_or_ge l.length 56
    · rw [List.take_of_length_le (Nat.le_of_lt hlt), List.append_assoc, List.take_left]
    · have hlen : (l.take 56).length = 56 := List.length_take_of_le hge
      have hih := ih (l.drop 56) (by rw [List.length_drop]; omega)
      rw [List.length_drop] at hih
      rw [hlen, Nat.sub_self, List.replicate_zero, List.append_nil, List.take_append, hlen, hih,
        List.take_of_length_le (Nat.le_trans (Nat.le_of_eq hlen) hge), List.take_append_drop]

/-! ## Fields side by side -/

/-- A number made of fields at places (lowest bit, width). -/
def packed : List (Nat × Nat) → List Nat → Nat
  | (lo, w) :: p, v :: t => (v % 2 ^ w) <<< lo ||| packed p t
  | _, _ => 0

/-- Two places share no bit. -/
abbrev placesApart (p q : Nat × Nat) : Prop := p.1 + p.2 ≤ q.1 ∨ q.1 + q.2 ≤ p.1

/-- A field at its own place. -/
theorem bits_field_same (v lo w : Nat) : bits ((v % 2 ^ w) <<< lo) lo w = v % 2 ^ w := by
  unfold bits
  rw [Nat.shiftLeft_shiftRight, Nat.mod_mod]

/-- A field at another place. -/
theorem bits_field_other {v lo w lo' w' : Nat} (h : placesApart (lo, w) (lo', w')) : bits ((v % 2 ^ w) <<< lo) lo' w' = 0 := by
  refine Nat.eq_of_testBit_eq fun i => ?_
  rw [testBit_bits, Nat.testBit_shiftLeft, Nat.testBit_mod_two_pow, Nat.zero_testBit]
  by_cases hi : i < w'
  · by_cases hlo : lo ≤ lo' + i
    · have hw : ¬ lo' + i - lo < w := by
        simp only [placesApart] at h
        omega
      simp [hw]
    · simp [hlo]
  · simp [hi]

/-- No field stands at a place that every field's place is apart from. -/
theorem bits_packed_apart {p : List (Nat × Nat)} {lo w : Nat} (h : ∀ q ∈ p, placesApart q (lo, w)) (t : List Nat) :
    bits (packed p t) lo w = 0 := by
  induction p generalizing t with
  | nil => simp [packed, bits]
  | cons q p ih =>
    obtain ⟨hq, hp⟩ := List.forall_mem_cons.1 h
    cases t with
    | nil => simp [packed, bits]
    | cons v t =>
      simp only [packed]
      rw [bits_or, bits_field_other hq, ih hp, Nat.or_self]

/-- A field of places that share no bit reads back. -/
theorem bits_packed {p : List (Nat × Nat)} (hp : p.Pairwise placesApart) {t : List Nat} {i lo w v : Nat}
    (hi : p[i]? = some (lo, w)) (hv : t[i]? = some v) : bits (packed p t) lo w = v % 2 ^ w := by
  induction p generalizing t i with
  | nil => cases hi
  | cons q p ih =>
    obtain ⟨hq, hp⟩ := List.pairwise_cons.1 hp
    cases t with
    | nil => cases hv
    | cons u t =>
      simp only [packed]
      rw [bits_or]
      cases i with
      | zero =>
        obtain rfl := Option.some.inj hi
        obtain rfl := Option.some.inj hv
        rw [bits_field_same, bits_packed_apart (fun r hr => (hq r hr).symm), Nat.or_zero]
      | succ i =>
        rw [bits_field_other (hq _ (List.mem_of_getElem? hi)), Nat.zero_or]
        exact ih hp hi hv

/-! ## The header -/

/-- The places of the fields that both forms have: TYPE, FLITS, VN, TC, EPOCH, CMARK, MC, ENC, CONN, DEST, SRC, DCONN, OPFLAGS, PSN. -/
def headPlaces : List (Nat × Nat) :=
  [(0, 6), (6, 7), (13, 2), (18, 4), (22, 1), (23, 1), (28, 1), (29, 1), (30, 1), (32, 25), (64, 25), (96, 20), (121, 7), (128, 32)]

/-- Their values as a source writes them. -/
def Packet.headValues (k : Packet) : List Nat :=
  [k.type, k.flitCount, (typeVn k.type).getD 3, k.tc, k.epoch, 0, (typeMc k.type).toNat, k.enc.toNat, k.conn.toNat, k.dest, k.src, k.dconn,
    k.opflags, k.psn]

/-- OPLEN, the operands and the tag of a control packet; INC, PLEN and the operands of a data packet. -/
def controlPlaces : List (Nat × Nat) := [(116, 5), (160, 192), (352, 64)]
def dataPlaces : List (Nat × Nat) := [(160, 32), (192, 13), (256, 128)]
def Packet.controlValues (k : Packet) : List Nat := [k.oper.length, ofBytes (k.oper.take 24), k.tag]
def Packet.dataValues (k : Packet) : List Nat := [k.inc, k.payload.length, ofBytes (k.oper.take 16)]

theorem typeVn_lt (t : Nat) : (typeVn t).getD 3 < 4 := by
  unfold typeVn
  repeat' split
  all_goals decide

theorem packed_append (p q : List (Nat × Nat)) {t u : List Nat} (h : p.length = t.length) :
    packed (p ++ q) (t ++ u) = packed p t ||| packed q u := by
  induction p generalizing t with
  | nil =>
    obtain rfl := List.length_eq_zero_iff.1 h.symm
    simp [packed]
  | cons r p ih =>
    cases t with
    | nil => cases h
    | cons v t => simp only [List.cons_append, packed, ih (Nat.succ.inj h), Nat.or_assoc]

/-- The fields that both forms have stand side by side. -/
theorem Packet.packed_head (k : Packet) : packed headPlaces k.headValues =
    (k.prefixNat k.flitCount ||| (k.dconn % 2 ^ 20) <<< 96 ||| (k.opflags % 128) <<< 121 ||| (k.psn % 2 ^ 32) <<< 128) := by
  have hvn : (typeVn k.type).getD 3 % 2 ^ 2 = (typeVn k.type).getD 3 := Nat.mod_eq_of_lt (typeVn_lt _)
  have hbool (b : Bool) : b.toNat % 2 ^ 1 = b.toNat := by cases b <;> rfl
  simp only [headPlaces, Packet.headValues, packed, Packet.prefixNat, hvn, hbool, Nat.shiftLeft_zero, Nat.zero_mod, Nat.zero_shiftLeft,
    Nat.or_zero, Nat.zero_or, Nat.or_assoc] <;> rfl

/-- The fields that both forms have are in their ranges, and CMARK is zero, as a source writes it (R93). -/
structure Packet.HeadFits (k : Packet) : Prop where
  type : k.type < 64
  tc : k.tc < 16
  epoch : k.epoch < 2
  cmark : k.cmark = false
  dest : k.dest < 2 ^ 25
  src : k.src < 2 ^ 25
  dconn : k.dconn < 2 ^ 20
  opflags : k.opflags < 128
  psn : k.psn < 2 ^ 32

/-- A header that reads as its source wrote the fields that both forms have. -/
theorem Packet.head_reads {k : Packet} {b : Body} {p : List (Nat × Nat)} {t : List Nat} (hp : (headPlaces ++ p).Pairwise placesApart)
    (hb : ∀ lo w, lo + w ≤ 416 → fb b lo w = bits (packed (headPlaces ++ p) (k.headValues ++ t)) lo w)
    (hk : k.HeadFits) :
    hType b = k.type ∧ hFlits b = k.flitCount % 128 ∧ hTc b = k.tc ∧ hEpoch b = k.epoch ∧ decide (hCmark b = 1) = k.cmark ∧
    decide (hEnc b = 1) = k.enc ∧ decide (hConn b = 1) = k.conn ∧ hDest b = k.dest ∧ hSrc b = k.src ∧ hDconn b = k.dconn ∧
    hOpflags b = k.opflags ∧ hPsn b = k.psn := by
  have field {lo w v i : Nat} (h : lo + w ≤ 416) (hi : (headPlaces ++ p)[i]? = some (lo, w)) (hv : (k.headValues ++ t)[i]? = some v) :
      fb b lo w = v % 2 ^ w := (hb lo w h).trans (bits_packed hp hi hv)
  have hbool (c : Bool) : decide (c.toNat % 2 ^ 1 = 1) = c := by cases c <;> rfl
  refine ⟨?_, field (i := 1) (by decide) rfl rfl, ?_, ?_, ?_, ?_, ?_, ?_, ?_, ?_, ?_, ?_⟩
  · exact (field (i := 0) (by decide) rfl rfl).trans (Nat.mod_eq_of_lt hk.type)
  · exact (field (i := 3) (by decide) rfl rfl).trans (Nat.mod_eq_of_lt hk.tc)
  · exact (field (i := 4) (by decide) rfl rfl).trans (Nat.mod_eq_of_lt hk.epoch)
  · rw [hCmark, field (i := 5) (by decide) rfl rfl, hk.cmark]
    rfl
  · rw [hEnc, field (i := 7) (by decide) rfl rfl, hbool]
  · rw [hConn, field (i := 8) (by decide) rfl rfl, hbool]
  · exact (field (i := 9) (by decide) rfl rfl).trans (Nat.mod_eq_of_lt hk.dest)
  · exact (field (i := 10) (by decide) rfl rfl).trans (Nat.mod_eq_of_lt hk.src)
  · exact (field (i := 11) (by decide) rfl rfl).trans (Nat.mod_eq_of_lt hk.dconn)
  · exact (field (i := 12) (by decide) rfl rfl).trans (Nat.mod_eq_of_lt hk.opflags)
  · exact (field (i := 13) (by decide) rfl rfl).trans (Nat.mod_eq_of_lt hk.psn)

/-! ## The two forms -/

theorem controlPlaces_apart : (headPlaces ++ controlPlaces).Pairwise placesApart := by decide

theorem dataPlaces_apart : (headPlaces ++ dataPlaces).Pairwise placesApart := by decide

/-- The header of a packet with PCRC zero, in either form. -/
def Packet.headBody (k : Packet) : Body :=
  BitVec.ofNat 448 (if k.control then packed (headPlaces ++ controlPlaces) (k.headValues ++ k.controlValues)
    else packed (headPlaces ++ dataPlaces) (k.headValues ++ k.dataValues))

/-- Bytes that fill at most n bytes of a field are their own low bits. -/
theorem ofBytes_take_mod (l : List Byte) (n : Nat) : ofBytes (l.take n) % 2 ^ (8 * n) = ofBytes (l.take n) :=
  Nat.mod_eq_of_lt (Nat.lt_of_lt_of_le (ofBytes_lt _) (Nat.pow_le_pow_right (by decide) (Nat.mul_le_mul_left 8 (List.length_take_le ..))))

theorem Packet.rawBodies_of_control {k : Packet} (h : k.control = true) : k.rawBodies = [k.headBody] := by
  have hoper := ofBytes_take_mod k.oper 24
  simp only [Packet.rawBodies, Packet.headBody, h, if_true]
  rw [packed_append _ _ (by rfl), k.packed_head]
  simp only [controlPlaces, Packet.controlValues, packed, hoper, Nat.or_zero, Nat.or_assoc] <;> rfl

theorem Packet.rawBodies_of_data {k : Packet} (h : k.control = false) :
    k.rawBodies = k.headBody :: (List.range k.pf).map (payloadBody k.payload) ++ [BitVec.ofNat 448 (k.tag % 2 ^ 128)] := by
  have hoper := ofBytes_take_mod k.oper 16
  simp only [Packet.rawBodies, Packet.headBody, h, Bool.false_eq_true, if_false]
  rw [packed_append _ _ (by rfl), k.packed_head]
  simp only [dataPlaces, Packet.dataValues, packed, hoper, Nat.or_zero, Nat.or_assoc]
  rfl

/-- The PCRC goes into the last body. -/
theorem withPcrc_concat (l : List Body) (b : Body) : withPcrc (l ++ [b]) = l ++ [setFb b 416 32 (pcrcOf (l ++ [b]))] := by
  simp [withPcrc]

/-- The control packet's one flit. -/
theorem Packet.bodies_of_control {k : Packet} (h : k.control = true) : ∃ c, k.bodies = [setFb k.headBody 416 32 c] := by
  unfold Packet.bodies
  rw [Packet.rawBodies_of_control h]
  exact ⟨_, withPcrc_concat [] k.headBody⟩

/-- The data packet's header, payload flits and tag flit. -/
theorem Packet.bodies_of_data {k : Packet} (h : k.control = false) :
    ∃ c, k.bodies = k.headBody :: (List.range k.pf).map (payloadBody k.payload) ++ [setFb (BitVec.ofNat 448 (k.tag % 2 ^ 128)) 416 32 c] := by
  unfold Packet.bodies
  rw [Packet.rawBodies_of_data h]
  exact ⟨_, withPcrc_concat _ _⟩

/-- What a control packet's own fields read as. -/
theorem Packet.control_reads {k : Packet} {b : Body}
    (hb : ∀ lo w, lo + w ≤ 416 → fb b lo w = bits (packed (headPlaces ++ controlPlaces) (k.headValues ++ k.controlValues)) lo w)
    (hlen : k.oper.length ≤ 24) (htag : k.tag < 2 ^ 64) : toBytes (hOplen b) (fb b 160 192) = k.oper ∧ fb b 352 64 = k.tag := by
  have hoplen : hOplen b = k.oper.length :=
    ((hb _ _ (by decide)).trans (bits_packed controlPlaces_apart (i := 14) rfl rfl)).trans (Nat.mod_eq_of_lt (by omega))
  have hoper : fb b 160 192 = ofBytes (k.oper.take 24) :=
    ((hb _ _ (by decide)).trans (bits_packed controlPlaces_apart (i := 15) rfl rfl)).trans (ofBytes_take_mod k.oper 24)
  have ht : fb b 352 64 = k.tag :=
    ((hb _ _ (by decide)).trans (bits_packed controlPlaces_apart (i := 16) rfl rfl)).trans (Nat.mod_eq_of_lt htag)
  refine ⟨?_, ht⟩
  rw [hoplen, hoper, List.take_of_length_le hlen, toBytes_ofBytes _ _ (Nat.le_refl _), Nat.sub_self, List.replicate_zero, List.append_nil]

/-- What a data packet's own fields read as. -/
theorem Packet.data_reads {k : Packet} {b : Body}
    (hb : ∀ lo w, lo + w ≤ 416 → fb b lo w = bits (packed (headPlaces ++ dataPlaces) (k.headValues ++ k.dataValues)) lo w)
    (hinc : k.inc < 2 ^ 32) (hoper : k.oper.length = 16) (hpay : k.payload.length ≤ 4096) :
    hInc b = k.inc ∧ hPlen b = k.payload.length ∧ toBytes 16 (fb b 256 128) = k.oper := by
  have hop : fb b 256 128 = ofBytes (k.oper.take 16) :=
    ((hb _ _ (by decide)).trans (bits_packed dataPlaces_apart (i := 16) rfl rfl)).trans (ofBytes_take_mod k.oper 16)
  refine ⟨((hb _ _ (by decide)).trans (bits_packed dataPlaces_apart (i := 14) rfl rfl)).trans (Nat.mod_eq_of_lt hinc),
    ((hb _ _ (by decide)).trans (bits_packed dataPlaces_apart (i := 15) rfl rfl)).trans (Nat.mod_eq_of_lt (by omega)), ?_⟩
  rw [hop, List.take_of_length_le (Nat.le_of_eq hoper), toBytes_ofBytes _ _ (Nat.le_of_eq hoper), hoper, Nat.sub_self, List.replicate_zero, List.append_nil]

/-- A control packet reads back. -/
theorem Packet.ofBodies_of_control {k : Packet} (hk : k.HeadFits) (hcontrol : k.control = true) (hinc : k.inc = 0)
    (hlen : k.oper.length ≤ 24) (hpay : k.payload = []) (htag : k.tag < 2 ^ 64) : Packet.ofBodies k.bodies = k := by
  obtain ⟨c, hc⟩ := Packet.bodies_of_control hcontrol
  have hb : ∀ lo w, lo + w ≤ 416 → fb (setFb k.headBody 416 32 c) lo w =
      bits (packed (headPlaces ++ controlPlaces) (k.headValues ++ k.controlValues)) lo w := fun lo w h => by
    rw [fb_setFb_below _ _ (by decide) h, Packet.headBody, hcontrol, if_pos rfl, fb_ofNat _ (by omega)]
  obtain ⟨htype, hflits, htc, hepoch, hcmark, henc, hconn, hdest, hsrc, hdconn, hopflags, hpsn⟩ :=
    Packet.head_reads controlPlaces_apart hb hk
  obtain ⟨hoper, ht⟩ := Packet.control_reads hb hlen htag
  have hone : hFlits (setFb k.headBody 416 32 c) = 1 := by
    rw [hflits, Packet.flitCount, hcontrol]
    rfl
  rw [hc]
  unfold Packet.ofBodies
  simp only [List.headD_cons, hone, decide_true, if_true, htype, htc, hepoch, hdest, hsrc, hdconn, hopflags, hpsn, hoper, ht]
  cases k
  simp only [Packet.mk.injEq, true_and, and_true]
  exact ⟨hcmark, henc, hconn, hinc.symm, hcontrol.symm, hpay.symm⟩

/-- A data packet reads back. -/
theorem Packet.ofBodies_of_data {k : Packet} (hk : k.HeadFits) (hcontrol : k.control = false) (hinc : k.inc < 2 ^ 32)
    (holen : k.oper.length = 16) (hpay : k.payload.length ≤ 4096) (htag : k.tag < 2 ^ 128) : Packet.ofBodies k.bodies = k := by
  obtain ⟨c, hc⟩ := Packet.bodies_of_data hcontrol
  have hb : ∀ lo w, lo + w ≤ 416 → fb k.headBody lo w =
      bits (packed (headPlaces ++ dataPlaces) (k.headValues ++ k.dataValues)) lo w := fun lo w h => by
    rw [Packet.headBody, hcontrol, if_neg Bool.false_ne_true, fb_ofNat _ (by omega)]
  obtain ⟨htype, hflits, htc, hepoch, hcmark, henc, hconn, hdest, hsrc, hdconn, hopflags, hpsn⟩ :=
    Packet.head_reads dataPlaces_apart hb hk
  obtain ⟨hi, hplen, hoper⟩ := Packet.data_reads hb hinc holen hpay
  have hmany : hFlits k.headBody ≠ 1 := by
    rw [hflits, Packet.flitCount, hcontrol, if_neg Bool.false_ne_true, Packet.pf]
    omega
  have ht : fb (setFb (BitVec.ofNat 448 (k.tag % 2 ^ 128)) 416 32 c) 0 128 = k.tag := by
    rw [fb_setFb_below _ _ (by decide) (by decide), fb_ofNat _ (by decide), Nat.mod_eq_of_lt htag]
    exact Nat.mod_eq_of_lt htag
  have hpl := take_flatten_payloadBody k.pf k.payload (by unfold Packet.pf; omega)
  rw [hc]
  unfold Packet.ofBodies
  simp only [List.cons_append, List.headD_cons, hmany, decide_false, if_false, htype, htc, hepoch, hdest, hsrc, hdconn, hopflags, hpsn, hoper,
    hi, hplen, List.drop_succ_cons, List.drop_zero, List.dropLast_concat, hpl]
  rw [← List.cons_append, List.getLastD_concat, ht]
  cases k
  simp only [Packet.mk.injEq, true_and, and_true]
  exact ⟨hcmark, henc, hconn, hcontrol.symm⟩

/-- Settles O59: the two forms, whose fields, payload and tag stand apart from each other and from the PCRC. -/
theorem packetsReadBack : Obligations.PacketsReadBack := by
  intro k htype htc hepoch hcmark hdest hsrc hdconn hopflags hpsn hinc hform
  have hk : k.HeadFits := ⟨htype, htc, hepoch, hcmark, hdest, hsrc, hdconn, hopflags, hpsn⟩
  cases hcontrol : k.control with
  | true =>
    rw [hcontrol, if_pos rfl] at hform
    obtain ⟨hinc0, hlen, hpay, htag⟩ := hform
    exact Packet.ofBodies_of_control hk hcontrol hinc0 hlen hpay htag
  | false =>
    rw [hcontrol, if_neg Bool.false_ne_true] at hform
    obtain ⟨holen, hpay, htag⟩ := hform
    exact Packet.ofBodies_of_data hk hcontrol hinc holen hpay htag

end Sys2Proof.Machine

/-! # What lane commands and table writes leave unchanged -/

namespace Sys2Proof.Machine

/-- A command after which nothing is due has its own effect alone, or none while the module is off. -/
theorem State.run_quiet {s t : State} {f : Dev → Dev} (h : s.run f = .next t) (hq : (f s.toDev).quiet) :
    (s.pwr.off = 0 ∧ t = s.withDev (f s.toDev)) ∨ (s.pwr.off ≠ 0 ∧ t = s) := by
  obtain ⟨h0, ht⟩ | h := State.run_cases h
  · exact .inl ⟨h0, ht.trans (congrArg s.withDev hq)⟩
  · exact .inr h

/-- The frame of a command after which nothing is due is that of its own effect. -/
theorem State.run_onlyFields {s t : State} {f : Dev → Dev} {l : List (Fld × At)} (hf : s.toDev.onlyFields (f s.toDev) l)
    (h : s.run f = .next t) (hq : (f s.toDev).quiet) : t.pending = s.pending ∧ s.toDev.onlyFields t.toDev l := by
  obtain ⟨-, rfl⟩ | ⟨-, rfl⟩ := State.run_quiet h hq
  · exact ⟨rfl, hf⟩
  · exact ⟨rfl, Dev.onlyFields_refl ..⟩

section
variable {d e : Dev} {fs : List Fld} {a : At} (ha : a.die < 4)
include ha

/-- A put of a listed field, where every listed field is one of the same place. -/
theorem Dev.onlyFields.putAt (h : d.onlyFields e (fs.map (fun f => (f, a)))) (g : Fld) (v : Nat) (hg : g ∈ g.reg.flds ∧ g ∈ fs) :
    d.onlyFields (e.put g a v) (fs.map (fun f => (f, a))) :=
  h.put g a v hg.1 ha (List.mem_map_of_mem hg.2)

/-- A word of a register whose fields are all listed. -/
theorem Dev.onlyFields.wrAt (h : d.onlyFields e (fs.map (fun f => (f, a)))) (r : Reg) (x : Word) (hr : ∀ f ∈ r.flds, f ∈ fs) :
    d.onlyFields (e.wr r a x) (fs.map (fun f => (f, a))) :=
  h.wrAll r a x ha fun f hf => List.mem_map_of_mem (hr f hf)

end

/-! ## Lanes (R39, R43, R51, R54) -/

section
variable (d : Dev) {l : Nat} (hl : (onLane l).die < 4)
include hl

theorem Dev.txeq_frame (v : Word) : d.onlyFields (d.txeq l v) ((Reg.flds .LAN_TXEQ).map (fun f => (f, onLane l))) := by
  have h0 := (Dev.onlyFields_refl d ((Reg.flds .LAN_TXEQ).map (fun f => (f, onLane l)))).putAt hl LAN_TXEQ_OVR (LAN_TXEQ_OVR.of v) (by decide)
  have hflags : d.onlyFields (d.txeqFlags l v) ((Reg.flds .LAN_TXEQ).map (fun f => (f, onLane l))) :=
    h0.when _ _ (h0.putAt hl LAN_TXEQ_EQERR 0 (by decide))
  by_cases hok : eqOk (LAN_TXEQ_PRE.of v) (LAN_TXEQ_POST.of v) = true
  · rw [Dev.txeq_of_ok hok]
    exact ((hflags.putAt hl LAN_TXEQ_PRE _ (by decide)).putAt hl LAN_TXEQ_POST _ (by decide)).putAt hl LAN_TXEQ_MAIN _ (by decide)
  · rw [Dev.txeq_of_bad hok]
    exact hflags.putAt hl LAN_TXEQ_EQERR _ (by decide)

theorem Dev.acquireLock_frame (inv : Bool) (pk : Nat) :
    d.onlyFields (d.acquireLock l inv pk) ((Reg.flds .LAN_RXSTAT ++ Reg.flds .LAN_RXEQ).map (fun f => (f, onLane l))) := by
  have h0 := Dev.onlyFields_refl d ((Reg.flds .LAN_RXSTAT ++ Reg.flds .LAN_RXEQ).map (fun f => (f, onLane l)))
  have hsig := (h0.putAt hl LAN_RXSTAT_POL_INV (d.inversion l inv).toNat (by decide)).putAt hl LAN_RXSTAT_SIG_DET 1 (by decide)
  unfold Dev.acquireLock
  dsimp only
  split
  · exact h0
  · split
    · exact hsig
    · exact ((hsig.putAt hl LAN_RXSTAT_CDR_LOCK _ (by decide)).putAt hl LAN_RXEQ_CTLE_CUR _ (by decide)).putAt hl LAN_RXSTAT_ADAPT_STATE _
        (by decide)

theorem Dev.checkerLock_frame : d.onlyFields (d.checkerLock l) [(LAN_PATCTL_LOCK, onLane l)] := by
  have h0 := Dev.onlyFields_refl d [(LAN_PATCTL_LOCK, onLane l)]
  exact h0.when _ _ (h0.put LAN_PATCTL_LOCK _ 1 (by decide) hl (List.mem_singleton_self _))

theorem Dev.checkerLoss_frame (n : Nat) :
    d.onlyFields (d.checkerLoss l n) ((LAN_PATCTL_LOCK, onLane l) :: (Reg.flds .LAN_PATERR).map (fun f => (f, onLane l))) := by
  have h0 := Dev.onlyFields_refl d ((LAN_PATCTL_LOCK, onLane l) :: (Reg.flds .LAN_PATERR).map (fun f => (f, onLane l)))
  unfold Dev.checkerLoss
  dsimp only
  split
  · exact (h0.wrAll .LAN_PATERR _ _ hl fun f hf => List.mem_cons_of_mem _ (List.mem_map_of_mem hf)).put LAN_PATCTL_LOCK _ 0 (by decide) hl
      List.mem_cons_self
  · exact h0

theorem Dev.eyeStart_frame (v : Word) :
    d.onlyFields (d.eyeStart l v) ((Reg.flds .LAN_ESCTL ++ Reg.flds .LAN_ESSAMP ++ Reg.flds .LAN_ESERR).map (fun f => (f, onLane l))) := by
  have h0 := Dev.onlyFields_refl d ((Reg.flds .LAN_ESCTL ++ Reg.flds .LAN_ESSAMP ++ Reg.flds .LAN_ESERR).map (fun f => (f, onLane l)))
  have hwr := h0.wrAt hl .LAN_ESCTL ((Reg.written .LAN_ESCTL) (d.rd .LAN_ESCTL (onLane l)) v) (by decide)
  unfold Dev.eyeStart
  dsimp only
  split
  · exact h0
  · split
    · exact ((((hwr.putAt hl LAN_ESSAMP_SAMPLES 0 (by decide)).putAt hl LAN_ESERR_ERRORS 0 (by decide)).putAt hl LAN_ESCTL_BUSY 1
        (by decide)).putAt hl LAN_ESCTL_ABORTED 0 (by decide)).putAt hl LAN_ESCTL_DONE 0 (by decide)
    · exact (hwr.putAt hl LAN_ESCTL_ABORTED 1 (by decide)).putAt hl LAN_ESCTL_DONE 1 (by decide)

theorem Dev.eyeDone_frame (n : Nat) :
    d.onlyFields (d.eyeDone l n) ((Reg.flds .LAN_ESCTL ++ Reg.flds .LAN_ESSAMP ++ Reg.flds .LAN_ESERR).map (fun f => (f, onLane l))) := by
  have h0 := Dev.onlyFields_refl d ((Reg.flds .LAN_ESCTL ++ Reg.flds .LAN_ESSAMP ++ Reg.flds .LAN_ESERR).map (fun f => (f, onLane l)))
  unfold Dev.eyeDone
  dsimp only
  split
  · exact (((h0.putAt hl LAN_ESSAMP_SAMPLES _ (by decide)).putAt hl LAN_ESERR_ERRORS _ (by decide)).putAt hl LAN_ESCTL_BUSY 0
      (by decide)).putAt hl LAN_ESCTL_DONE 1 (by decide)
  · exact h0

end

/-- Settles O56: the frame of each command's own effect. -/
theorem laneFrames : Obligations.LaneFrames := by
  intro s t l
  have hl := onLane_die l
  exact ⟨fun v => State.run_onlyFields (f := fun d => d.txeq l.val v) (s.toDev.txeq_frame hl v),
    fun inv pk => State.run_onlyFields (f := fun d => d.acquireLock l.val inv pk.val) (s.toDev.acquireLock_frame hl inv pk.val),
    State.run_onlyFields (f := fun d => d.checkerLock l.val) (s.toDev.checkerLock_frame hl),
    fun n => State.run_onlyFields (f := fun d => d.checkerLoss l.val n) (s.toDev.checkerLoss_frame hl n),
    fun v => State.run_onlyFields (f := fun d => d.eyeStart l.val v) (s.toDev.eyeStart_frame hl v),
    fun n => State.run_onlyFields (f := fun d => d.eyeDone l.val n) (s.toDev.eyeDone_frame hl n)⟩

/-! ## Tables (R121, R123, R175, R188) -/

/-- A live write is taken, or refused. -/
theorem Dev.routeWrite_cases (d : Dev) (q bank w : Nat) (v : Word) :
    d.routeWrite q bank w v = d.putRoute q bank w v ∨ ∃ f, d.routeWrite q bank w v = d.liveReject q bank f := by
  unfold Dev.routeWrite
  dsimp only
  split
  · exact .inl rfl
  · split
    · exact .inr ⟨_, rfl⟩
    · exact .inr ⟨_, rfl⟩
    · exact .inl rfl

/-- A live write is taken, or refused. -/
theorem Dev.psetWrite_cases (d : Dev) (q bank n w : Nat) (v : Word) :
    d.psetWrite q bank n w v = d.putPset q bank n w v ∨ ∃ f, d.psetWrite q bank n w v = d.liveReject q bank f := by
  unfold Dev.psetWrite
  dsimp only
  split
  · exact .inl rfl
  · split
    · exact .inr ⟨_, rfl⟩
    · exact .inl rfl

/-- A refusal is counted, and recorded while the record is free. -/
theorem Dev.liveReject_frame (d : Dev) (q : Fin 4) (bank : Nat) (f : Nat × Nat × Nat) :
    d.onlyFields (d.liveReject q.val bank f) ((Reg.flds .RTE_LIVEREJ ++ Reg.flds .RTE_TBLERR).map (fun f => (f, onDie q.val))) := by
  have hq : (onDie q.val).die < 4 := q.isLt
  have hc := (Dev.onlyFields_refl d ((Reg.flds .RTE_LIVEREJ ++ Reg.flds .RTE_TBLERR).map (fun f => (f, onDie q.val)))).wrAt hq .RTE_LIVEREJ
    (BitVec.ofNat 64 (min (2 ^ 48 - 1) ((d.rd .RTE_LIVEREJ (onDie q.val)).toNat % 2 ^ 48 + 1))) (by decide)
  unfold Dev.liveReject Dev.tblErr
  dsimp only
  split
  · exact hc
  · exact ((((hc.putAt hq RTE_TBLERR_VALID _ (by decide)).putAt hq RTE_TBLERR_REASON _ (by decide)).putAt hq RTE_TBLERR_BANK _
      (by decide)).putAt hq RTE_TBLERR_TABLE _ (by decide)).putAt hq RTE_TBLERR_INDEX _ (by decide)

/-- Two words written one after another leave every other one. -/
theorem Tab.get_set_pair (t : Tab Nat) {j k : Nat} (x y : Nat) (h0 : j ≠ k) (h1 : j ≠ k + 1) :
    Tab.get (Tab.set (Tab.set t 0 k x) 0 (k + 1) y) 0 j = Tab.get t 0 j :=
  (Tab.get_set_other _ _ _ _ _ _ h1).trans (Tab.get_set_other _ _ _ _ _ _ h0)

/-- What changes registers alone leaves the table windows. -/
theorem Dev.onlyFields.win {d e : Dev} {l : List (Fld × At)} (h : d.onlyFields e l) : e.win = d.win :=
  show ({ e with regs := d.regs } : Dev).win = d.win from congrArg Dev.win h.1

theorem Dev.routeWrite_frame (d : Dev) (q : Fin 4) (bank w : Nat) (v : Word) :
    (∀ k, k / 2 ≠ (q.val * 2 + bank) * 65536 + w → Tab.get (d.routeWrite q.val bank w v).win.route 0 k = Tab.get d.win.route 0 k) ∧
    d.onlyFields { d.routeWrite q.val bank w v with win := { (d.routeWrite q.val bank w v).win with route := d.win.route } }
      ((Reg.flds .RTE_LIVEREJ ++ Reg.flds .RTE_TBLERR).map (fun f => (f, onDie q.val))) := by
  obtain h | ⟨f, h⟩ := d.routeWrite_cases q.val bank w v <;> rw [h]
  · exact ⟨fun k hk => Tab.get_set_pair _ _ _ (by omega) (by omega), Dev.onlyFields_refl ..⟩
  · have hr := d.liveReject_frame q bank f
    rw [← hr.win]
    exact ⟨fun _ _ => rfl, hr⟩

theorem Dev.psetWrite_frame (d : Dev) (q : Fin 4) (bank n w : Nat) (v : Word) :
    (∀ k, k / 2 ≠ ((q.val * 2 + bank) * 4096 + n) * 4 + w → Tab.get (d.psetWrite q.val bank n w v).win.pset 0 k = Tab.get d.win.pset 0 k) ∧
    d.onlyFields { d.psetWrite q.val bank n w v with win := { (d.psetWrite q.val bank n w v).win with pset := d.win.pset } }
      ((Reg.flds .RTE_LIVEREJ ++ Reg.flds .RTE_TBLERR).map (fun f => (f, onDie q.val))) := by
  obtain h | ⟨f, h⟩ := d.psetWrite_cases q.val bank n w v <;> rw [h]
  · exact ⟨fun k hk => Tab.get_set_pair _ _ _ (by omega) (by omega), Dev.onlyFields_refl ..⟩
  · have hr := d.liveReject_frame q bank f
    rw [← hr.win]
    exact ⟨fun _ _ => rfl, hr⟩

theorem Dev.groupWrite_frame (d : Dev) (q : Fin 4) (g w : Nat) (v : Word) :
    (∀ k, k ≠ (q.val * 65536 + g) * 16 + w → Tab.get (d.groupWrite q.val g w v).win.group 0 k = Tab.get d.win.group 0 k) ∧
    Tab.get (d.groupWrite q.val g w v).win.group 0 ((q.val * 65536 + g) * 16 + w) = v.toNat ∧
    d.onlyFields { d.groupWrite q.val g w v with win := { (d.groupWrite q.val g w v).win with group := d.win.group } }
      ((Reg.flds .MCG_LIVEWR).map (fun f => (f, onDie q.val))) := by
  have h0 := Dev.onlyFields_refl d ((Reg.flds .MCG_LIVEWR).map (fun f => (f, onDie q.val)))
  have hc : d.onlyFields (d.when (d.backed q.val g) (·.inc .MCG_LIVEWR (onDie q.val))) ((Reg.flds .MCG_LIVEWR).map (fun f => (f, onDie q.val))) :=
    h0.when _ _ (h0.wrAt q.isLt .MCG_LIVEWR _ (by decide))
  refine ⟨fun k hk => (Tab.get_set_other _ _ _ _ _ _ hk).trans ?_, Tab.get_set_same .., ?_⟩
  · rw [hc.win]
  · unfold Dev.groupWrite
    dsimp only
    rw [← hc.win]
    exact hc

theorem Dev.gateWrite_frame (d : Dev) (p : Fin 512) (l e : Nat) (v : Word) :
    (∀ k, k ≠ (p.val * 2 + l) * 256 + e → Tab.get (d.gateWrite p.val l e v).win.gate 0 k = Tab.get d.win.gate 0 k) ∧
    d.onlyFields { d.gateWrite p.val l e v with win := { (d.gateWrite p.val l e v).win with gate := d.win.gate } }
      ((Reg.flds .SCH_GATECTL).map (fun f => (f, onLane p.val))) := by
  have h0 := Dev.onlyFields_refl d ((Reg.flds .SCH_GATECTL).map (fun f => (f, onLane p.val)))
  have hst (st : Nat) : d.onlyFields (d.gateStatus p.val st) ((Reg.flds .SCH_GATECTL).map (fun f => (f, onLane p.val))) :=
    h0.putAt (onLane_die p) SCH_GATECTL_STATUS st (by decide)
  unfold Dev.gateWrite
  split
  · exact ⟨fun _ _ => rfl, h0⟩
  · split
    · exact ⟨fun _ _ => rfl, hst _⟩
    · exact ⟨fun k hk => Tab.get_set_other _ _ _ _ _ _ hk, hst _⟩

/-- Settles O58: the frame of each write's own effect. -/
theorem tableFrames : Obligations.TableFrames := by
  intro s t q
  refine ⟨fun bank w v h hq => ?_, fun bank n w v h hq => ?_, fun g w v h hq => ?_, fun p l e v h hq => ?_⟩
  · obtain ⟨-, rfl⟩ | ⟨-, rfl⟩ := State.run_quiet (f := fun d => d.routeWrite q.val bank.val w v) h hq
    · exact s.toDev.routeWrite_frame q bank.val w v
    · exact ⟨fun _ _ => rfl, Dev.onlyFields_refl ..⟩
  · obtain ⟨-, rfl⟩ | ⟨-, rfl⟩ := State.run_quiet (f := fun d => d.psetWrite q.val bank.val n w.val v) h hq
    · exact s.toDev.psetWrite_frame q bank.val n w.val v
    · exact ⟨fun _ _ => rfl, Dev.onlyFields_refl ..⟩
  · obtain ⟨h0, rfl⟩ | ⟨h0, rfl⟩ := State.run_quiet (f := fun d => d.groupWrite q.val g.val w.val v) h hq
    · obtain ⟨hother, hsame, hframe⟩ := s.toDev.groupWrite_frame q g.val w.val v
      exact ⟨hother, hsame.trans (if_pos h0).symm, hframe⟩
    · exact ⟨fun _ _ => rfl, (if_neg h0).symm, Dev.onlyFields_refl ..⟩
  · obtain ⟨-, rfl⟩ | ⟨-, rfl⟩ := State.run_quiet (f := fun d => d.gateWrite p.val l.val e.val v) h hq
    · exact s.toDev.gateWrite_frame p l.val e.val v
    · exact ⟨fun _ _ => rfl, Dev.onlyFields_refl ..⟩

end Sys2Proof.Machine

/-! # R453: the ROUTER cycles of a nanosecond -/

namespace Sys2Proof.Machine

/-! ## Which counters are enabled -/

theorem Tab.filter_put {α : Type} (t : Tab α) (k : Nat) (v : α) (p : Nat × α → Bool) (h : ∀ u, p (k, u) = false) :
    (Tab.put t k v).filter p = t.filter p := by
  induction t with
  | nil => simp [Tab.put, h]
  | cons e t ih =>
    obtain ⟨a, w⟩ := e
    simp only [Tab.put]
    split
    · rw [List.filter_cons_of_neg (by simp [h])]
    · split
      · next hka =>
        subst hka
        rw [List.filter_cons_of_neg (by simp [h]), List.filter_cons_of_neg (by simp [h])]
      · rw [List.filter_cons, List.filter_cons, ih]

theorem Tab.filter_del {α : Type} (t : Tab α) (k : Nat) (p : Nat × α → Bool) (h : ∀ u, p (k, u) = false) :
    (Tab.del t k).filter p = t.filter p := by
  unfold Tab.del
  rw [List.filter_filter]
  refine List.filter_congr fun e _ => ?_
  by_cases he : e.1 = k
  · obtain ⟨a, u⟩ := e
    obtain rfl : a = k := he
    simp [h]
  · simp [he]

/-- A write at a key that the filter leaves out. -/
theorem Tab.filter_set {α : Type} [DecidableEq α] (t : Tab α) (dflt : α) (k : Nat) (v : α) (p : Nat × α → Bool) (h : ∀ u, p (k, u) = false) :
    (Tab.set t dflt k v).filter p = t.filter p := by
  unfold Tab.set
  split
  · exact Tab.filter_del t k p h
  · exact Tab.filter_put t k v p h

theorem regKey_mod (r : Reg) (a : At) : regKey r a % 512 = r.ctorIdx := by
  have := Reg.ctorIdx_lt r
  unfold regKey
  omega

/-- Keys of different definitions differ. -/
theorem regKey_ne {r s : Reg} (h : r ≠ s) (a b : At) : regKey r a ≠ regKey s b := fun he =>
  h (Reg.ctorIdx_inj (by rw [← regKey_mod r a, he, regKey_mod]))

/-- Keys of different places of a definition differ. -/
theorem regKey_ne_idx {r : Reg} {a b : At} (h : a.idx ≠ b.idx) : regKey r a ≠ regKey r b := by
  have := Reg.ctorIdx_lt r
  unfold regKey
  omega

/-- The enabled counters are those that PMC_SEL enables. -/
theorem Dev.pmcEnabled_wr (d : Dev) {r : Reg} (h : r ≠ .PMC_SEL) (a : At) (x : Word) (q : Nat) : (d.wr r a x).pmcEnabled q = d.pmcEnabled q := by
  unfold Dev.pmcEnabled Dev.wr
  dsimp only
  rw [Tab.filter_set]
  intro u
  have hk : regKey r a % 512 ≠ Reg.PMC_SEL.ctorIdx := fun he => h (Reg.ctorIdx_inj ((regKey_mod r a).symm.trans he))
  simp [hk]

/-! ## What a wrap leaves -/

/-- The same counters are enabled, and counter k of die q holds the same value. -/
def Dev.sameCounter (q k : Nat) (d e : Dev) : Prop :=
  (∀ i, e.pmcEnabled i = d.pmcEnabled i) ∧ e.get PMC_CNT_VALUE ⟨q, k⟩ = d.get PMC_CNT_VALUE ⟨q, k⟩

/-- Only the registers count. -/
theorem Dev.sameCounter_of_regs {q k : Nat} {d e : Dev} (h : e.regs = d.regs) : d.sameCounter q k e := by
  simp [Dev.sameCounter, Dev.pmcEnabled, Dev.get, Dev.rd, h]

theorem Dev.sameCounter_refl (q k : Nat) (d : Dev) : d.sameCounter q k d := Dev.sameCounter_of_regs rfl

/-- A write elsewhere, after what changes neither. -/
theorem Dev.sameCounter.wr {q k : Nat} {d e : Dev} (h : d.sameCounter q k e) {r : Reg} {a : At} (x : Word) (hr : r ≠ .PMC_SEL)
    (hk : regKey .PMC_CNT ⟨q, k⟩ ≠ regKey r a) : d.sameCounter q k (e.wr r a x) :=
  ⟨fun i => (e.pmcEnabled_wr hr a x i).trans (h.1 i), (congrArg PMC_CNT_VALUE.of (Dev.rd_wr_other _ _ _ _ _ _ hk)).trans h.2⟩

/-- A step that happens when a condition holds. -/
theorem Dev.sameCounter.when {q k : Nat} {d e : Dev} (h : d.sameCounter q k e) {c : Bool} {g : Dev → Dev} (hg : e.sameCounter q k (g e)) :
    d.sameCounter q k (e.when c g) := by
  cases c
  · exact h
  · exact ⟨fun i => (hg.1 i).trans (h.1 i), hg.2.trans h.2⟩

theorem Dev.msixSend_regs (d : Dev) (q f v : Nat) : (d.msixSend q f v).regs = d.regs := by
  unfold Dev.msixSend
  dsimp only
  split <;> rfl

theorem Dev.snapTrigger_sameCounter (q k : Nat) (d : Dev) (cause : Nat) : d.sameCounter q k (d.snapTrigger cause) := by
  unfold Dev.snapTrigger
  split
  · exact Dev.sameCounter_refl ..
  · split
    · exact (Dev.sameCounter_refl ..).wr _ (by decide) (regKey_ne (by decide) _ _)
    · exact Dev.sameCounter_of_regs rfl

theorem Dev.pmcWrap_sameCounter (q k : Nat) (d : Dev) (q' k' : Nat) : d.sameCounter q k (d.pmcWrap q' k') := by
  unfold Dev.pmcWrap
  dsimp only
  have hovf := (d.sameCounter_refl q k).wr (r := .PMC_OVF) (a := ⟨q', k' / 64⟩)
    (d.rd .PMC_OVF ⟨q', k' / 64⟩ ||| BitVec.ofNat 64 (2 ^ (k' % 64))) (by decide) (regKey_ne (by decide) _ _)
  exact (hovf.when (Dev.sameCounter_of_regs (Dev.msixSend_regs ..))).when (Dev.snapTrigger_sameCounter ..)

/-- R454, R455: a counter takes its sum; what a wrap does besides leaves it. -/
theorem Dev.pmcAdd_sameCounter (d : Dev) (q k n : Nat) :
    (d.put PMC_CNT_VALUE ⟨q, k⟩ (d.get PMC_CNT_VALUE ⟨q, k⟩ + n)).sameCounter q k (d.pmcAdd q k n) := by
  unfold Dev.pmcAdd
  dsimp only
  split
  · exact Dev.sameCounter_refl ..
  · split
    · have hs (e : Dev) (c : Bool) : e.sameCounter q k (e.when c (·.snapTrigger 3)) :=
        (Dev.sameCounter_refl ..).when (Dev.snapTrigger_sameCounter ..)
      split
      · refine Dev.sameCounter.when (Dev.sameCounter.wr (hs _ _) _ (by decide) (regKey_ne_idx ?_)) (Dev.pmcWrap_sameCounter ..)
        exact Nat.ne_of_lt k.lt_succ_self
      · exact hs _ _
    · exact Dev.pmcWrap_sameCounter ..

/-! ## One enabled counter -/

/-- A counter that is not chained takes its cycles. -/
theorem Dev.cycleCount_eq {d : Dev} {q k : Nat} (hc : d.chained q k = false) (n : Nat) :
    let a : At := ⟨q, k⟩
    let x := d.cycleAmount q (d.get PMC_SEL_BLOCK a) (d.get PMC_SEL_INSTANCE a) (d.get PMC_SEL_EVENT a) (d.get PMC_SEL_FILTER a)
    d.cycleCount q n k = if x = 0 then d else d.pmcAdd q k (n * x) := by
  simp [Dev.cycleCount, hc]

/-- Counting cycles enables and disables no counter. -/
theorem Dev.pmcEnabled_cycleCount (d : Dev) (q n k i : Nat) : (d.cycleCount q n k).pmcEnabled i = d.pmcEnabled i := by
  unfold Dev.cycleCount
  dsimp only
  split
  · rfl
  · exact ((Dev.pmcAdd_sameCounter ..).1 i).trans (Dev.pmcEnabled_wr _ (by decide) _ _ i)

/-- A nanosecond of a module with one enabled counter, on a die that runs. -/
theorem Dev.nanosecond_of_one {d : Dev} {q k : Nat} (hq : q < 4) (hoff : d.pwr.off = 0) (hrun : d.dieState q ≠ domSTOP)
    (hone : ∀ i < 4, d.pmcEnabled i = if i = q then [k] else []) : d.nanosecond = d.cycleCount q (routerCycles d.now) k := by
  have hmem : q ∈ (List.range 4).filter (fun q => d.dieState q ≠ domSTOP) := by simp [hq, hrun]
  have hnodup : ((List.range 4).filter (fun q => d.dieState q ≠ domSTOP)).Nodup := List.nodup_range.filter _
  have hdie : ∀ i ∈ (List.range 4).filter (fun q => d.dieState q ≠ domSTOP), i < 4 := fun i hi => List.mem_range.1 (List.mem_filter.1 hi).1
  unfold Dev.nanosecond
  rw [if_neg (not_not_intro hoff)]
  generalize (List.range 4).filter (fun q => d.dieState q ≠ domSTOP) = l at *
  obtain ⟨l1, l2, rfl⟩ := List.append_of_mem hmem
  obtain ⟨-, hnd2, hdisj⟩ := List.nodup_append.1 hnodup
  have hidle (e : Dev) (he : ∀ i, e.pmcEnabled i = d.pmcEnabled i) (l : List Nat) (hl : ∀ i ∈ l, i < 4 ∧ i ≠ q) :
      e.each l (fun q e => e.each (e.pmcEnabled q) (fun k e => e.cycleCount q (routerCycles e.now) k)) = e :=
    Dev.each_eq_self _ _ _ fun i hi => by rw [he, hone i (hl i hi).1, if_neg (hl i hi).2, Dev.each_nil]
  have hl1 : ∀ i ∈ l1, i < 4 ∧ i ≠ q := fun i hi => ⟨hdie i (List.mem_append_left _ hi), hdisj i hi q List.mem_cons_self⟩
  have hl2 : ∀ i ∈ l2, i < 4 ∧ i ≠ q := fun i hi =>
    ⟨hdie i (List.mem_append_right _ (List.mem_cons_of_mem _ hi)), fun h => (List.nodup_cons.1 hnd2).1 (h ▸ hi)⟩
  have happ (e : Dev) (g : Nat → Dev → Dev) : e.each (l1 ++ q :: l2) g = (g q (e.each l1 g)).each l2 g := by
    simp only [Dev.each, List.foldl_append, List.foldl_cons]
  rw [happ, hidle d (fun _ => rfl) l1 hl1]
  have hq1 : d.each (d.pmcEnabled q) (fun k e => e.cycleCount q (routerCycles e.now) k) = d.cycleCount q (routerCycles d.now) k := by
    rw [hone q hq, if_pos rfl]
    rfl
  rw [hq1]
  exact hidle _ (fun i => d.pmcEnabled_cycleCount _ _ _ i) l2 hl2

/-- Five nanoseconds hold eight ROUTER cycles. -/
theorem routerCycles_five (t : Nat) :
    routerCycles t + routerCycles (t + 1) + routerCycles (t + 2) + routerCycles (t + 3) + routerCycles (t + 4) = 8 := by
  simp only [routerCycles, Nat.add_assoc, Nat.reduceAdd]
  omega

/-- The PWR event of a throttle in force. -/
theorem Dev.cycleAmount_throttle (d : Dev) (q f : Nat) : d.cycleAmount q blkPWR 0 1 f = if d.pwr.throttle = 0 then 0 else 1 := by
  simp [Dev.cycleAmount, blkPWR, blkLAN, blkLNK, blkRTE, blkFWD, blkSCH, blkBRG, blkCLV, blkHST, blkQUE, blkRMX, blkMTC, blkXLT, blkNOC, oneIf]

/-- A counter's value has 48 bits. -/
theorem Dev.get_pmcCnt_lt (d : Dev) (a : At) : d.get PMC_CNT_VALUE a < 2 ^ 48 := Nat.mod_lt _ (by decide)

/-- Settles O3: the one enabled counter takes its cycles, and nothing counts besides. -/
theorem cyclesCounted : Obligations.CyclesCounted := by
  refine ⟨routerCycles_five, fun d q k hoff hrun hone hc => ?_, Dev.cycleAmount_throttle⟩
  have hn := Dev.nanosecond_of_one q.isLt hoff hrun hone
  have hcount := Dev.cycleCount_eq hc (routerCycles d.now)
  dsimp only at hcount ⊢
  rw [hn, hcount]
  split
  · next hx =>
    rw [hx, Nat.mul_zero, Nat.add_zero, Nat.mod_eq_of_lt (d.get_pmcCnt_lt _)]
    exact ⟨rfl, fun _ => rfl⟩
  · next hx =>
    exact ⟨(Dev.pmcAdd_sameCounter ..).2.trans (Dev.get_put _ PMC_CNT_VALUE _ _ (by decide)), fun h => absurd h hx⟩

end Sys2Proof.Machine

/-! # How a command completes (spec/00_scope.md): its own effect, then what the change sets in motion -/

namespace Sys2Proof.Machine

variable {s : State} {f : Dev → Dev} {e : Dev}

/-- A command of a module that is on. -/
theorem State.run_of_on (h0 : s.pwr.off = 0) (he : f s.toDev = e) : s.run f = .next (s.withDev e.settleAll) := by
  rw [State.run, if_pos h0, he]

/-- A command of the host ports, on form N. -/
theorem State.runHost_of_on (h0 : s.pwr.off = 0) (hform : s.sys.formS = false) (he : f s.toDev = e) :
    s.runHost f = .next (s.withDev e.settleAll) :=
  State.run_of_on h0 ((if_neg (by simp [hform])).trans he)

/-- A command that Oasis serves. -/
theorem State.runOasis_of (he : f s.toDev = e) : s.runOasis f = .next (s.withDev (if e.pwr.off = 0 then e.settleAll else e)) := by
  rw [State.runOasis, he]

end Sys2Proof.Machine

/-! # The completion of the resets: O12 -/

namespace Sys2Proof.Machine

/-- A reset of less than the module, where none runs and its scope is awake. -/
theorem Dev.reset_of_awake {d : Dev} {l : Loc} {cause : Nat} {act : Option Nat} (hl : l.level ≤ 3 ∨ (l.level = 4 ∧ l.die ≠ 0))
    (hr : d.flt.resets = []) (ha : d.asleep l = false) :
    d.reset l cause act = (((d.resetBegins l).resetEffects l cause).resetRecords l act).raise srcRESET l.level l cause := by
  have hscope : (decide (l.level ≥ 5) || (decide (l.level = 4) && decide (l.die = 0))) = false := by
    simp only [Bool.or_eq_false_iff, Bool.and_eq_false_iff, decide_eq_false_iff_not]
    omega
  simp [Dev.reset, hscope, hr, ha]

/-- A reset of the module, where none runs. -/
theorem Dev.reset_module_of_none {d : Dev} {cause : Nat} {act : Option Nat} (hr : d.flt.resets = []) :
    d.reset locModule cause act =
      (((d.resetBegins locModule).resetModule cause).resetRecords locModule act).raise srcRESET 5 locModule cause := by
  simp [Dev.reset, Dev.asleep, Loc.region, locModule, Dev.resetEffects, hr]

/-- A unit has level 1. -/
theorem unitOf_level {q ukind i : Nat} {l : Loc} (h : unitOf q ukind i = some l) : l.level = 1 := by
  unfold unitOf at h
  repeat' split at h
  all_goals simp only [Option.some.injEq, reduceCtorEq] at h
  all_goals subst h; rfl

/-- A reset of a die. -/
theorem Dev.resetEffects_die (d : Dev) (q cause : Nat) : d.resetEffects (locDie q) cause = d.resetDie q := by
  simp only [Dev.resetEffects, locDie]

/-- A reset of a host port. -/
theorem Dev.resetEffects_host (d : Dev) (q cause : Nat) : d.resetEffects (locHost q) cause = d.resetHost q := rfl

/-- A reset of a host port, where none runs: no region or die of it sleeps. -/
theorem Dev.reset_host_of_none {d : Dev} {q cause : Nat} {act : Option Nat} (hr : d.flt.resets = []) :
    d.reset (locHost q) cause act =
      (((d.resetBegins (locHost q)).resetHost q).resetRecords (locHost q) act).raise srcRESET 1 (locHost q) cause := by
  have hlevel : (locHost q).level = 1 := rfl
  have hreset := Dev.reset_of_awake (cause := cause) (act := act) (.inl (by omega)) hr
    (show d.asleep (locHost q) = false by simp [Dev.asleep, locHost, locUnit, Loc.region])
  rwa [Dev.resetEffects_host, hlevel] at hreset

/-- Settles O12: each reset begins where none runs and its scope is awake, or ends one that runs. -/
theorem completionReset : Obligations.CompletionReset := by
  unfold Obligations.CompletionReset
  refine ⟨?_, ?_, ?_, ?_, ?_, ?_, ?_, ?_, ?_⟩
  · -- moduleReset
    intro s ns hoff hns hresets
    refine State.runOasis_of (f := fun d => d.resetContactAny ns) ?_
    rw [Dev.resetContactAny, if_neg hoff, Dev.resetContact, if_neg (by omega), if_pos (by simp [hns])]
    exact Dev.reset_module_of_none hresets
  · -- dieReset
    intro s q hon hq hresets hdieState
    refine State.run_of_on (f := fun d => d.reset (locDie q.val) 3 none) hon ?_
    have hlevel : (locDie q.val).level = 4 := rfl
    have hreset := Dev.reset_of_awake (cause := 3) (act := none) (.inr ⟨hlevel, hq⟩) hresets (by simp
      [Dev.asleep, locDie, Loc.region, hdieState])
    rwa [Dev.resetEffects_die, hlevel] at hreset
  · -- dieReset
    intro s q hon hq hresets
    refine State.run_of_on (f := fun d => d.reset (locDie q.val) 3 none) hon ?_
    rw [hq, Dev.reset_die_zero]
    exact Dev.reset_module_of_none hresets
  · -- regionReset
    intro s m hon hresets hregionState
    refine State.run_of_on (f := fun d => d.reset (locRegion m.val) 3 none) hon ?_
    exact Dev.reset_of_awake (.inl (Nat.le_refl 3)) hresets (by simp [Dev.asleep, locRegion, Loc.region,
      hregionState])
  · -- clusterReset
    intro s c hon hresets hregionState
    refine State.run_of_on (f := fun d => d.reset (locCluster c.val) 3 none) hon ?_
    refine (Dev.reset_of_awake (.inl (by decide : 2 ≤ 3)) hresets (by simp [Dev.asleep, locCluster,
      Loc.region, hregionState])).trans ?_
    rfl
  · -- unitReset
    intro s q ukind n l hon hunitOf hresets hasleep
    refine State.run_of_on (f := fun d => d.unitReset q.val ukind n) hon ?_
    have hl := unitOf_level hunitOf
    simp only [Dev.unitReset, hunitOf]
    rw [Dev.reset_of_awake (.inl (by omega)) hresets hasleep, hl]
    simp only [Dev.resetEffects, hl]
  · -- hostPortReset
    intro s q hon hresets
    refine State.run_of_on (f := fun d => d.hostPerst q.val) hon ?_
    rw [Dev.hostPerst, Dev.reset_host_of_none hresets]
  · -- mgmtPortReset
    intro s hon
    exact State.run_of_on (f := fun d => d.mgmtReset) hon rfl
  · -- resetComplete
    intro s level q ukind n hon hwipeHolds hcontains
    refine State.run_of_on (f := fun d => d.resetComplete (scopeLoc level q.val ukind n)) hon ?_
    rw [Dev.resetComplete, hwipeHolds, if_neg (by decide), Dev.resetEnds, if_pos hcontains]

end Sys2Proof.Machine

/-! # The completion of commands: O13 -/

namespace Sys2Proof.Machine

/-- Settles O13, command by command. -/
theorem completionLaneTraining : Obligations.CompletionLaneTraining := by
  unfold Obligations.CompletionLaneTraining
  refine ⟨?_, ?_, ?_, ?_, ?_, ?_, ?_, ?_, ?_, ?_, ?_, ?_, ?_, ?_, ?_, ?_, ?_, ?_, ?_⟩
  · -- bridgeDown
    intro s q e hon
    exact State.run_of_on (f := fun d => d.takeBridgeDown q.val e.val) hon rfl
  · -- bridgeFlitArrival
    intro s q e i n rest k f hon hpumpAll hbridges hpkt hflits
    refine State.run_of_on (f := fun d => (d.pumpAll).bridgeArrive q.val e.val) hon ?_
    rw [hpumpAll, Dev.bridgeArrive, hbridges]
    dsimp only
    rw [show Dev.pkt
        { s.toDev with
          rtr := { s.rtr with bridges := Tab.set s.rtr.bridges [] (acrossBridge q.val e.val * 2 + e.val) rest } } i = some k
      from hpkt]
    dsimp only
    rw [hflits]
  · -- clusterMapWrite
    intro s c v hon hmapValid hall
    refine State.run_of_on (f := fun d => d.clusterMap c.val v) hon ?_
    simp [Dev.clusterMap, hmapValid, hall]
  · -- txeqWrite
    intro s l v hon heqOk heqerr
    refine State.run_of_on (f := fun d => d.txeq l.val v) hon ?_
    simp [Dev.txeq, Dev.when, heqOk, heqerr]
  · -- laneCtrlWrite
    intro s l v hon hrxen htxen hportIdle hportIdle2
    refine State.run_of_on (f := fun d => d.laneCtrl l.val v) hon ?_
    simp [Dev.laneCtrl, Dev.when, hrxen, htxen, hportIdle2]
  · -- laneTrainingFrame
    intro s l ctl hon hinLanePhase hadapt hdecoded
    refine State.run_of_on (f := fun d => d.trainingFrame l.val ctl) hon ?_
    simp [Dev.trainingFrame, hinLanePhase, hadapt, hdecoded, aTRACK, aOFF, aFAIL, aHOLD]
  · -- acquireLock
    intro s l inverted peaking hon hadapt hinversion hovr
    refine State.run_of_on (f := fun d => d.acquireLock l.val inverted peaking.val) hon ?_
    simp [Dev.acquireLock, hadapt, hinversion, hovr]
  · -- acquireTimeout
    intro s l hon hadapt
    refine State.run_of_on (f := fun d => d.acquireTimeout l.val) hon ?_
    simp [Dev.acquireTimeout, Dev.when, hadapt]
  · -- adaptConverged
    rintro s l tap e hon hadapt rfl hinLanePhase
    refine State.run_of_on (f := fun d => d.adaptConverged l.val tap.val) hon ?_
    simp [Dev.adaptConverged, Dev.when, hadapt, hinLanePhase]
  · -- adaptConverged
    rintro s l tap e hon hadapt rfl hinLanePhase hportReady
    refine State.run_of_on (f := fun d => d.adaptConverged l.val tap.val) hon ?_
    simp [Dev.adaptConverged, Dev.when, hadapt, hinLanePhase, hportReady]
  · -- adaptTimeout
    intro s l hon hadapt
    refine State.run_of_on (f := fun d => d.adaptTimeout l.val) hon ?_
    simp [Dev.adaptTimeout, Dev.when, hadapt]
  · -- lossOfSignal
    rintro s l signal hon hadapt rfl
    refine State.run_of_on (f := fun d => d.lossOfSignal l.val false) hon ?_
    simp [Dev.lossOfSignal, Dev.when, hadapt]
  · -- lossOfSignal
    rintro s l signal e hon rfl rfl hadapt
    refine State.run_of_on (f := fun d => d.lossOfSignal l.val true) hon ?_
    exact if_neg (not_not_intro hadapt)
  · -- rxQuietEntry
    intro s l hon hadapt hlstate hidleMode hdly
    refine State.run_of_on (f := fun d => d.rxQuiet l.val) hon ?_
    simp [Dev.rxQuiet, hadapt, hlstate, hidleMode, hdly]
  · -- relock
    intro s l hon hadapt
    refine State.run_of_on (f := fun d => d.relocked l.val) hon ?_
    simp [Dev.relocked, hadapt]
  · -- relockTimeout
    intro s l hon hadapt
    refine State.run_of_on (f := fun d => d.relockFails l.val) hon ?_
    simp [Dev.relockFails, hadapt]
  · -- txQuietEntry
    intro s p hon hpexists hlstate hidleMode htoSend
    refine State.run_of_on (f := fun d => d.txQuiet p.val) hon ?_
    simp [Dev.txQuiet, hpexists, hlstate, hidleMode, htoSend]
  · -- txWakeDone
    intro s p hon hpexists
    refine State.run_of_on (f := fun d => d.txWake p.val) hon ?_
    simp [Dev.txWake, hpexists]
  · -- maintBurst
    intro s p hon hlinkUp hrxMostly
    refine State.run_of_on (f := fun d => d.maintBurst p.val) hon ?_
    simp [Dev.maintBurst, hlinkUp, hrxMostly]

end Sys2Proof.Machine

/-! # The completion of commands: O14 -/

namespace Sys2Proof.Machine

/-- Settles O14, command by command. -/
theorem completionLaneTest : Obligations.CompletionLaneTest := by
  unfold Obligations.CompletionLaneTest
  refine ⟨?_, ?_, ?_, ?_, ?_, ?_, ?_, ?_, ?_, ?_, ?_⟩
  · -- fecCodeword
    rintro s p result flits hon hpexists hgreenware rfl
    refine State.run_of_on (f := fun d => d.codeword p.val 1 flits) hon ?_
    simp [Dev.codeword, hpexists, hgreenware]
  · -- fecCodeword
    rintro s p result flits hon hpexists hgreenware rfl hflitsFlow
    refine State.run_of_on (f := fun d => d.codeword p.val 2 flits) hon ?_
    simp [Dev.codeword, Dev.when, hpexists, hgreenware, hflitsFlow]
  · -- fecCodeword
    rintro s p result flits hon hpexists hgreenware rfl hflitsFlow
    refine State.run_of_on (f := fun d => d.codeword p.val 2 flits) hon ?_
    simp [Dev.codeword, Dev.when, hpexists, hgreenware, hflitsFlow]
  · -- parityError
    intro s p hon hpexists hgreenware
    refine State.run_of_on (f := fun d => d.parityError p.val) hon ?_
    simp [Dev.parityError, hpexists, hgreenware]
  · -- loopbackWrite
    intro s p v hon hpexists hlstate hmode
    refine State.run_of_on (f := fun d => d.loopback p.val v) hon ?_
    simp [Dev.loopback, hpexists, hlstate, hmode]
  · -- patternCtrlWrite
    intro s l v hon hlstate
    refine State.run_of_on (f := fun d => d.patternCtrl l.val v) hon ?_
    simp [Dev.patternCtrl, hlstate]
  · -- checkerLock
    intro s l hon hen hpatternComes
    refine State.run_of_on (f := fun d => d.checkerLock l.val) hon ?_
    simp [Dev.checkerLock, Dev.when, hen, hpatternComes]
  · -- checkerLoss
    intro s l errors hon hen hlock
    refine State.run_of_on (f := fun d => d.checkerLoss l.val errors) hon ?_
    simp [Dev.checkerLoss, hen, hlock]
  · -- eyeScanStart
    intro s l v hon hbusy hadapt heye
    refine State.run_of_on (f := fun d => d.eyeStart l.val v) hon ?_
    simp [Dev.eyeStart, hbusy, hadapt, heye]
  · -- eyeScanStop
    intro s l hon hbusy
    refine State.run_of_on (f := fun d => d.eyeStop l.val) hon ?_
    simp [Dev.eyeStop, Dev.abortScan, Dev.when, hbusy]
  · -- eyeScanDone
    intro s l errors hon hbusy hadapt
    refine State.run_of_on (f := fun d => d.eyeDone l.val errors) hon ?_
    simp [Dev.eyeDone, hbusy, hadapt]

end Sys2Proof.Machine

/-! # What a flit of a link does where nothing stands in its way (R66 to R68) -/

namespace Sys2Proof.Machine

variable {d : Dev} {p : Nat} {c : Ctrl}

/-- R66: an ACK that acknowledges nothing new changes nothing. -/
theorem Dev.applyAck_of_zero {ack : Nat} (h : (d.link p).ackCount ack = some 0) : d.applyAck p ack = d := by
  rw [Dev.applyAck, h]
  split <;> rfl

/-- R68: a link that counts and discards nothing takes the flit that it expects. -/
theorem Dev.sequenced_of_expected (hd : (d.link p).discarding = false) (hn : (d.link p).incoming = (d.link p).expected)
    (take : Dev → Dev) : d.sequenced p take = take d := by
  simp [Dev.sequenced, hd, hn]

theorem Dev.lstate_of_linkUp (hu : d.linkUp p = true) : d.lstate p = UP := by
  simp only [Dev.linkUp, Bool.and_eq_true, decide_eq_true_eq] at hu
  exact hu.2

theorem Dev.pexists_of_linkUp (hu : d.linkUp p = true) : d.pexists p = true := by
  simp only [Dev.linkUp, Bool.and_eq_true] at hu
  exact hu.1

/-- A BYPASS message that is received in order. -/
theorem Dev.takeBypass_of_inOrder (h : d.inOrder p c) (hk : ctlKind c = 2) (hv : creditValid c = true) (take : Dev → Dev) :
    d.takeBypass p c take = take d := by
  obtain ⟨hup, hmark, -, hack, hdisc, hnext⟩ := h
  rw [Dev.takeBypass, Dev.receive_up hup hmark (by simp [hk, hv]), Dev.applyAck_of_zero hack]
  simp only [Dev.lstate_of_linkUp hup, if_true]
  exact Dev.sequenced_of_expected hdisc hnext take

/-- A BYPASS message of its command's code that is received in order: its sequence number and credits, then its meaning. -/
theorem Dev.bypassIn_of_inOrder {code : Nat} (h : d.inOrder p c) (hk : ctlKind c = 2) (hv : creditValid c = true) (hc : ctlFvc c = code)
    (act : Dev → Dev) : d.bypassIn p code c act = act (d.acceptSeq p c) := by
  rw [Dev.bypassIn, if_neg (not_not_intro hc)]
  exact Dev.takeBypass_of_inOrder h hk hv _

/-- A LINKCTL message of its command's subtype on a link that is UP. -/
theorem Dev.linkctlIn_up {sub : Nat} (hu : d.linkUp p = true) (hm : (d.link p).marked = 0) (hk : ctlKind c = 3) (hc : ctlCcnt c = 0)
    (hs : ctlFvc c = sub) (act : Dev → Dev) : d.linkctlIn p sub c act = act (d.applyAck p (ctlAck c)) := by
  rw [Dev.linkctlIn, if_neg (not_not_intro hs)]
  exact Dev.receive_up hu hm (by simp [hk, hc])

end Sys2Proof.Machine

/-! # The completion of commands: O15 -/

namespace Sys2Proof.Machine

/-- Settles O15, command by command. -/
theorem completionLinkFlits : Obligations.CompletionLinkFlits := by
  unfold Obligations.CompletionLinkFlits
  refine ⟨?_, ?_, ?_, ?_, ?_, ?_, ?_, ?_, ?_⟩
  · -- dataFlitReceived
    intro s p c b v hon hinOrder hinBisque hctlKind hcreditValid hvcIndex hframingFault
    refine State.run_of_on (f := fun d => d.dataFlit p.val c b) hon ?_
    obtain ⟨hup, hmark, -, hack, hdisc, hnext⟩ := hinOrder
    rw [Dev.dataFlit, hvcIndex]
    dsimp only
    rw [Dev.receive_up hup hmark (by simp [hctlKind, hcreditValid]), Dev.applyAck_of_zero hack, if_neg
      (not_not_intro (Dev.lstate_of_linkUp hup)), hinBisque, if_neg (by decide), Dev.sequenced_of_expected
      hdisc hnext, hframingFault]
    rfl
  · -- idleFlitReceived
    intro s p c hon hlinkUp hmarked hctlKind hctlCcnt hvcIndex
    refine State.run_of_on (f := fun d => d.idleFlit p.val c) hon ?_
    simp [Dev.idleFlit, Dev.receive, Dev.flitsFlow, hlinkUp, hmarked, hctlKind, hctlCcnt]
  · -- flitCrcError
    rintro s p crc e hon hlinkUp rfl hgreenware rfl hdiscarding
    refine State.run_of_on (f := fun d => d.badFlit p.val true) hon ?_
    have hup : (s.toDev.takeMark p.val).linkUp p.val = true := hlinkUp
    rw [Dev.badFlit, Dev.flitsFlow, hlinkUp, hgreenware, if_neg (by simp), if_pos (by simp), if_neg (by
      decide), Dev.crcFails, if_pos hup]
    exact if_neg (by simp [hdiscarding])
  · -- replayReq
    intro s p c b hon hlinkUp hmarked hctlKind hctlCcnt hctlFvc
    refine State.run_of_on (f := fun d => d.replayReqIn p.val c b) hon ?_
    simp [Dev.replayReqIn, Dev.linkctlIn, Dev.receiveLinkctl, Dev.receive, Dev.flitsFlow, hlinkUp, hmarked,
      hctlKind, hctlCcnt, hctlFvc]
  · -- replayStart
    intro s p c b hon hlinkUp hmarked hgreenware hctlKind hctlCcnt hctlFvc hackCount
    refine State.run_of_on (f := fun d => d.replayStartIn p.val c b) hon ?_
    rw [Dev.replayStartIn, Dev.linkctlIn_up hlinkUp hmarked hctlKind hctlCcnt hctlFvc, Dev.applyAck_of_zero
      hackCount, Dev.lstate_of_linkUp hlinkUp, hgreenware]
    rfl
  · -- replayTimeout
    intro s p hon hlinkUp hgreenware hwindow
    refine State.run_of_on (f := fun d => d.replayTimer p.val) hon ?_
    simp [Dev.replayTimer, hlinkUp, hgreenware, hwindow]
  · -- ackDue
    intro s p hon hlinkUp hackTimer
    refine State.run_of_on (f := fun d => d.ackFalls p.val) hon ?_
    simp [Dev.ackFalls, hlinkUp, hackTimer]
  · -- creditMessageDue
    intro s p hon hlinkUp hisSome
    refine State.run_of_on (f := fun d => d.creditFalls p.val) hon ?_
    simp [Dev.creditFalls, hlinkUp, hisSome]
  · -- transmitFlitSlot
    intro s p m rest hon hlinkUp htxState hlinkctl
    refine State.run_of_on (f := fun d => d.flitSlot p.val) hon ?_
    simp only [Dev.flitSlot, Dev.pexists_of_linkUp hlinkUp, Dev.lstate_of_linkUp hlinkUp, htxState,
      Dev.fillSlot, hlinkctl]
    rfl

end Sys2Proof.Machine

/-! # The completion of the life of a link: O16 -/

namespace Sys2Proof.Machine

/-- Signal that is detected on the lanes of a port changes neither its state nor its attempt. -/
theorem Dev.lstate_each_sigDet (d : Dev) (p : Nat) (l : List Nat) :
    (d.each l (fun k d => d.put LAN_RXSTAT_SIG_DET (onLane k) 1)).lstate p = d.lstate p :=
  Dev.get_each_put d l _ _ _ _ _ fun _ _ => regKey_ne (by decide) _ _

theorem Dev.inAttempt_each_sigDet (d : Dev) (p : Nat) (l : List Nat) :
    (d.each l (fun k d => d.put LAN_RXSTAT_SIG_DET (onLane k) 1)).inAttempt p = d.inAttempt p := by
  rw [Dev.inAttempt, Dev.link_each_put, Dev.inAttempt]

/-- Settles O16, command by command. -/
theorem completionLinkControl : Obligations.CompletionLinkControl := by
  unfold Obligations.CompletionLinkControl
  refine ⟨?_, ?_, ?_, ?_, ?_, ?_, ?_, ?_, ?_, ?_, ?_, ?_, ?_, ?_, ?_, ?_, ?_, ?_, ?_⟩
  · -- trainReceived
    intro s p c b hon hpexists hlstate hmarked htrainValid hphase hgotTrain htrainFails
    refine State.run_of_on (f := fun d => d.trainIn p.val c b) hon ?_
    rw [Dev.trainIn, hpexists, hlstate, hmarked, htrainValid, if_neg (by decide), if_neg (by decide), if_neg
      (by simp)]
    dsimp only
    rw [if_neg (not_not_intro hphase), hgotTrain, htrainFails]
    rfl
  · -- trainSend
    intro s p hon hpexists hphase
    refine State.run_of_on (f := fun d => d.trainSend p.val) hon ?_
    simp [Dev.trainSend, hpexists, hphase]
  · -- lanePhaseDone
    intro s p hon hpexists hinLanePhase hportReady
    refine State.run_of_on (f := fun d => d.lanePhaseDone p.val) hon ?_
    simp [Dev.lanePhaseDone, hpexists, hinLanePhase, hportReady]
  · -- alignmentDone
    intro s p hon hpexists hphase
    refine State.run_of_on (f := fun d => d.alignmentDone p.val) hon ?_
    simp [Dev.alignmentDone, hpexists, hphase]
  · -- trainTimeout
    intro s p hon hpexists hinAttempt
    refine State.run_of_on (f := fun d => d.trainTimeout p.val) hon ?_
    simp [Dev.trainTimeout, hpexists, hinAttempt]
  · -- retrainReq
    intro s p c hon hlinkUp hmarked hgreenware hctlKind hctlCcnt hctlFvc hackCount
    refine State.run_of_on (f := fun d => d.retrainReqIn p.val c) hon ?_
    simp [Dev.retrainReqIn, Dev.linkctlIn, Dev.receiveLinkctl, Dev.receive, Dev.applyAck, Dev.flitsFlow,
      hlinkUp, hmarked, hgreenware, hctlKind, hctlCcnt, hctlFvc, hackCount]
  · -- oosNotice
    intro s p c hon hlinkUp hmarked hgreenware hctlKind hctlCcnt hctlFvc hackCount
    refine State.run_of_on (f := fun d => d.oosNotice p.val c) hon ?_
    rw [Dev.oosNotice, Dev.linkctlIn_up hlinkUp hmarked hctlKind hctlCcnt hctlFvc, Dev.applyAck_of_zero
      hackCount, Dev.lstate_of_linkUp hlinkUp]
    rfl
  · -- drainedReceived
    intro s p c hon hlinkUp hmarked hgreenware hctlKind hctlCcnt hctlFvc hackCount hdraining
    refine State.run_of_on (f := fun d => d.drainedIn p.val c) hon ?_
    rw [Dev.drainedIn, Dev.linkctlIn_up hlinkUp hmarked hctlKind hctlCcnt hctlFvc, Dev.applyAck_of_zero
      hackCount, Dev.lstate_of_linkUp hlinkUp, hdraining]
    rfl
  · -- windowDrained
    intro s p hon hlinkUp hdraining hwindowEmpty hcommanding
    refine State.run_of_on (f := fun d => d.drainEnds p.val) hon ?_
    simp [Dev.drainEnds, Dev.when, Dev.lstate_of_linkUp hlinkUp, hdraining, hwindowEmpty, hcommanding]
  · -- drainTimeout
    intro s p hon hlinkUp hdraining hcommanding
    refine State.run_of_on (f := fun d => d.drainTimeout p.val) hon ?_
    simp [Dev.drainTimeout, Dev.pexists_of_linkUp hlinkUp, Dev.lstate_of_linkUp hlinkUp, hdraining,
      hcommanding]
  · -- downProbe
    intro s p hon hpexists hlstate hinAttempt hprobe
    refine State.run_of_on (f := fun d => d.downProbe p.val) hon ?_
    simp [Dev.downProbe, hpexists, hlstate, hinAttempt, hprobe]
  · -- signalDetected
    intro s p hon hpexists hlstate hinAttempt
    refine State.run_of_on (f := fun d => d.signalOn p.val) hon ?_
    simp [Dev.signalOn, Dev.lstate_each_sigDet, Dev.inAttempt_each_sigDet, hpexists, hlstate, hinAttempt]
  · -- signalDetected
    intro s p hon hpexists hlstate
    refine State.run_of_on (f := fun d => d.signalOn p.val) hon ?_
    have hstays : ¬ (s.toDev.lstate p.val = DOWN ∧ s.toDev.inAttempt p.val = false) := fun h => hlstate.elim
      (· h.1) (by simp [h.2])
    simp [Dev.signalOn, Dev.lstate_each_sigDet, Dev.inAttempt_each_sigDet, hpexists, hstays]
  · -- linkEnable
    intro s p v hon hpexists hinteg hen hlstate
    refine State.run_of_on (f := fun d => d.lnkCtrl p.val (v ||| 1#64)) hon ?_
    simp [Dev.lnkCtrl, Dev.when, hpexists, hinteg, hen, hlstate]
  · -- linkDisable
    intro s p v hon hpexists hinteg hen
    refine State.run_of_on (f := fun d => d.lnkCtrl p.val (v &&& ~~~ 1#64)) hon ?_
    rw [Dev.lnkCtrl, hpexists, hinteg, hen]
    rfl
  · -- integWrite
    intro s p v hon hpexists hinteg hgreenAllowed hen hlstate
    refine State.run_of_on (f := fun d => d.lnkCtrl p.val v) hon ?_
    rw [Dev.lnkCtrl, hpexists, hinteg, hgreenAllowed, hen]
    dsimp only
    rw [hlstate]
    rfl
  · -- lnkCmdRetrain
    intro s p hon hlinkUp
    refine State.run_of_on (f := fun d => d.cmdRetrain p.val) hon ?_
    rw [Dev.cmdRetrain, Dev.pexists_of_linkUp hlinkUp, Dev.lstate_of_linkUp hlinkUp]
    rfl
  · -- lnkCmdOutOfService
    intro s p hon hlinkUp hdraining
    refine State.run_of_on (f := fun d => d.cmdOos p.val) hon ?_
    rw [Dev.cmdOos, Dev.pexists_of_linkUp hlinkUp, Dev.lstate_of_linkUp hlinkUp, hdraining]
    rfl
  · -- lnkCmdInService
    intro s p hon hpexists hlstate hmode
    refine State.run_of_on (f := fun d => d.cmdInService p.val) hon ?_
    rw [Dev.cmdInService, hpexists, hlstate, hmode]
    rfl

end Sys2Proof.Machine

/-! # The completion of commands: O17 -/

namespace Sys2Proof.Machine

/-- Settles O17, command by command. -/
theorem completionLinkBypass : Obligations.CompletionLinkBypass := by
  unfold Obligations.CompletionLinkBypass
  refine ⟨?_, ?_, ?_, ?_, ?_, ?_, ?_⟩
  · -- creditReceived
    intro s p c b hon hinOrder hctlKind hcreditValid hctlFvc
    refine State.run_of_on (f := fun d => d.creditIn p.val c b) hon ?_
    exact Dev.bypassIn_of_inOrder hinOrder hctlKind hcreditValid hctlFvc _
  · -- auditReceived
    intro s p c b hon hinOrder hctlKind hcreditValid hctlFvc
    refine State.run_of_on (f := fun d => d.auditIn p.val c b) hon ?_
    rw [Dev.auditIn, if_neg (not_not_intro hctlFvc)]
    exact Dev.takeBypass_of_inOrder hinOrder hctlKind hcreditValid _
  · -- auditSend
    intro s p hon hlinkUp
    refine State.run_of_on (f := fun d => d.auditSend p.val) hon ?_
    simp [Dev.auditSend, hlinkUp]
  · -- timeReceived
    intro s p c b hon hinOrder hctlKind hcreditValid hctlFvc
    refine State.run_of_on (f := fun d => d.timeIn p.val c b) hon ?_
    exact Dev.bypassIn_of_inOrder hinOrder hctlKind hcreditValid hctlFvc _
  · -- timeSend
    intro s p hon hlinkUp
    refine State.run_of_on (f := fun d => d.timeSend p.val) hon ?_
    simp [Dev.timeSend, hlinkUp]
  · -- duneReceived
    intro s p c b hon hinOrder hctlKind hcreditValid hctlFvc
    refine State.run_of_on (f := fun d => d.duneIn p.val c b) hon ?_
    exact Dev.bypassIn_of_inOrder hinOrder hctlKind hcreditValid hctlFvc _
  · -- epochReceived
    intro s p c b hon hinOrder hctlKind hcreditValid hctlFvc
    refine State.run_of_on (f := fun d => d.epochIn p.val c b) hon ?_
    exact Dev.bypassIn_of_inOrder hinOrder hctlKind hcreditValid hctlFvc _

end Sys2Proof.Machine

/-! # The completion of commands: O18 -/

namespace Sys2Proof.Machine

/-- Settles O18, command by command. -/
theorem completionRouter : Obligations.CompletionRouter := by
  unfold Obligations.CompletionRouter
  refine ⟨?_, ?_, ?_, ?_, ?_, ?_, ?_, ?_, ?_, ?_, ?_, ?_, ?_⟩
  · -- admitWaitingPacket
    intro s p i rest k pp step hon hwait hpkt hegress hfits
    refine State.run_of_on (f := fun d => d.admitWaiting p.val 1) hon ?_
    simp [Dev.admitWaiting, hwait, hpkt, hegress, hfits]
  · -- injectPacket
    intro s q r fw k hon
    exact State.run_of_on (f := fun d => (d.offer q.val r.val fw k []).retryInj q.val r.val) hon rfl
  · -- injectionRelease
    intro s q r x rest hon hwaitingInj
    refine State.run_of_on (f := fun d => d.retryInj q.val r.val) hon ?_
    simp [Dev.retryInj, Dev.each, hwaitingInj]
  · -- cellFree
    intro s c x hon hcell hrefs
    refine State.run_of_on (f := fun d => d.freeRef c) hon ?_
    simp [Dev.freeRef, hcell, hrefs]
  · -- cellFree
    intro s c x hon hcell hrefs
    refine State.run_of_on (f := fun d => d.freeRef c) hon ?_
    simp [Dev.freeRef, hcell, show x.refs ≠ 0 by omega, show x.refs ≠ 1 by omega]
  · -- duneSend
    intro s q hon hen
    refine State.run_of_on (f := fun d => d.duneSend q.val) hon ?_
    simp [Dev.duneSend, hen]
  · -- epochValidate
    intro s q bank hon hbankValid hcheckingOn
    refine State.run_of_on (f := fun d => d.validateBank q.val bank.val) hon ?_
    simp [Dev.validateBank, hbankValid, hcheckingOn]
  · -- bankCheckDone
    intro s q b hon hchecking hbankFails
    refine State.run_of_on (f := fun d => d.bankCheckDone q.val) hon ?_
    simp [Dev.bankCheckDone, hchecking, hbankFails]
  · -- bankCheckDone
    intro s q b t i r hon hchecking hbankFails
    refine State.run_of_on (f := fun d => d.bankCheckDone q.val) hon ?_
    simp [Dev.bankCheckDone, hchecking, hbankFails]
  · -- epochRetire
    intro s q bank hon hstamp hcheckingOn
    refine State.run_of_on (f := fun d => d.retireBank q.val bank.val) hon ?_
    simp [Dev.retireBank, hstamp, hcheckingOn]
  · -- epochStamp
    intro s q e hon hbankValid
    refine State.run_of_on (f := fun d => d.stampWrite q.val e.val) hon ?_
    simp [Dev.stampWrite, hbankValid]
  · -- routeTableWrite
    intro s q bank w v hon hbankValid
    refine State.run_of_on (f := fun d => d.routeWrite q.val bank.val w v) hon ?_
    simp [Dev.routeWrite, hbankValid]
  · -- portSetWrite
    intro s q bank n w v hon hbankValid
    refine State.run_of_on (f := fun d => d.psetWrite q.val bank.val n w.val v) hon ?_
    simp [Dev.psetWrite, hbankValid]

end Sys2Proof.Machine

/-! # The completion of commands: O19 -/

namespace Sys2Proof.Machine

/-- Settles O19, command by command. -/
theorem completionRelease : Obligations.CompletionRelease := by
  unfold Obligations.CompletionRelease
  refine ⟨?_, ?_, ?_, ?_, ?_, ?_, ?_, ?_, ?_⟩
  · -- countRound
    intro s hon hrunning hbacked hroundHeld
    refine State.run_of_on (f := fun d => d.countRound) hon ?_
    simp [Dev.countRound, hrunning, hbacked, hroundHeld]
  · -- portDeadTimeout
    intro s p hon hpexists hdeadTimer
    refine State.run_of_on (f := fun d => d.portDies p.val) hon ?_
    simp [Dev.portDies, hpexists, hdeadTimer]
  · -- prtReleaseQueued
    intro s p hon hpexists hlstate hdraining
    refine State.run_of_on (f := fun d => d.prtRelease p.val 1) hon ?_
    simp [Dev.prtRelease, Dev.when, bits, hpexists, hlstate, hdraining]
  · -- prtReleaseHeld
    intro s p hon hpexists hlstate hdraining
    refine State.run_of_on (f := fun d => d.prtRelease p.val 2) hon ?_
    simp [Dev.prtRelease, Dev.when, bits, hpexists, hlstate, hdraining]
  · -- prtReleaseBoth
    intro s p hon hpexists hlstate hdraining
    refine State.run_of_on (f := fun d => d.prtRelease p.val 3) hon ?_
    simp [Dev.prtRelease, Dev.when, bits, hpexists, hlstate, hdraining]
  · -- heldTrafficRelease
    intro s p hon hpexists hdead hkeepsCount hlstate hdraining
    refine State.run_of_on (f := fun d => d.heldRelease p.val) hon ?_
    simp [Dev.heldRelease, Dev.prtRelease, Dev.when, bits, hpexists, hdead, hkeepsCount, hlstate, hdraining]
  · -- ledgerAudit
    intro s q hon hfilter hfilter2 hget
    refine State.run_of_on (f := fun d => d.ledgerAudit q.val) hon ?_
    simp only [Dev.ledgerAudit, hfilter, Dev.each, List.foldl_nil, hfilter2, Dev.when, hget, ne_eq,
      not_true_eq_false, decide_false, Bool.false_eq_true, if_false]
  · -- ledgerAudit
    intro s q hon hfilter hfilter2 hget
    refine State.run_of_on (f := fun d => d.ledgerAudit q.val) hon ?_
    simp only [Dev.ledgerAudit, hfilter, Dev.each, List.foldl_nil, hfilter2, Dev.when, hget, ne_eq,
      not_false_eq_true, decide_true, if_true]
  · -- ledgerAudit
    rintro s q bad e hon hfilter hfilter2 rfl hget
    refine State.run_of_on (f := fun d => d.ledgerAudit q.val) hon ?_
    simp only [Dev.ledgerAudit, hfilter, Dev.each_nil, hfilter2, Dev.when, hget, ne_eq, not_true_eq_false,
      decide_false, Bool.false_eq_true, if_false]

end Sys2Proof.Machine

/-! # The completion of commands: O20 -/

namespace Sys2Proof.Machine

/-- Settles O20, command by command. -/
theorem completionScheduling : Obligations.CompletionScheduling := by
  unfold Obligations.CompletionScheduling
  refine ⟨?_, ?_, ?_, ?_, ?_, ?_, ?_, ?_, ?_, ?_, ?_⟩
  · -- fwdShareWrite
    intro s l v hon hcells hcommitment
    refine State.run_of_on (f := fun d => d.shareWrite l.val v) hon ?_
    simp [Dev.shareWrite, Nat.not_lt_of_le hcells, Nat.not_lt_of_le hcommitment]
  · -- fwdInjWrite
    intro s q v hon hinj hbrg hcommitment
    refine State.run_of_on (f := fun d => d.fwdInj q.val v) hon ?_
    simp [Dev.fwdInj, Nat.not_lt_of_le hinj, Nat.not_lt_of_le hbrg, Nat.not_lt_of_le hcommitment]
  · -- shaperEligible
    intro s p t e hon hpexists hwait hwheel he
    refine State.run_of_on (f := fun d => d.shaperEligible p.val t.val) hon ?_
    simp [Dev.shaperEligible, hpexists, hwait, hwheel, he]
  · -- wheelTurn
    intro s q hon
    exact State.run_of_on (f := fun d => d.wheelTurn q.val) hon rfl
  · -- shapeWrite
    intro s p t v hon hpexists
    refine State.run_of_on (f := fun d => d.shapeWrite p.val t.val v) hon ?_
    simp [Dev.shapeWrite, hpexists]
  · -- shapeApply
    intro s p t b hon hpexists happlyAt hb
    refine State.run_of_on (f := fun d => d.shapeApply p.val t.val) hon ?_
    simp [Dev.shapeApply, hpexists, happlyAt, Nat.not_lt_of_le hb]
  · -- gateListWrite
    intro s p l e v hon hpexists hgateRunning hgatePending
    refine State.run_of_on (f := fun d => d.gateWrite p.val l.val e.val v) hon ?_
    simp [Dev.gateWrite, hpexists, hgateRunning, hgatePending]
  · -- gateCommit
    intro s p v hon hpexists hcancel hcommit hgatePending hgateListOk
    refine State.run_of_on (f := fun d => d.gateCtl p.val (v ||| SCH_GATECTL_COMMIT.mask)) hon ?_
    simp [Dev.gateCtl, hpexists, hcancel, hcommit, hgatePending, hgateListOk]
  · -- gateCancel
    intro s p v hon hpexists hcommit hcancel
    refine State.run_of_on (f := fun d => d.gateCtl p.val (v ||| SCH_GATECTL_CANCEL.mask)) hon ?_
    simp [Dev.gateCtl, Dev.when, hpexists, hcommit, hcancel]
  · -- gateTakeover
    intro s p hon hpexists hgatePending htakeoverTime
    refine State.run_of_on (f := fun d => d.gateTakeover p.val) hon ?_
    simp [Dev.gateTakeover, hpexists, hgatePending, htakeoverTime]
  · -- gateEntryEnd
    intro s p hon hpexists hgateRunning hentryEnd hgatePending
    refine State.run_of_on (f := fun d => d.gateEntryEnd p.val) hon ?_
    simp [Dev.gateEntryEnd, hpexists, hgateRunning, hentryEnd, hgatePending]

end Sys2Proof.Machine

/-! # The completion of the commands of groups and collectives: O21 -/

namespace Sys2Proof.Machine

/-- A packet of a group without Glaze opens as it is. -/
theorem Dev.colOpen_plain {d : Dev} {e g : Nat} {k : Packet} (hk : k.enc = false) (hg : d.gEnc e g = false) :
    d.colOpen e g k = some k := by
  simp [Dev.colOpen, hk, hg]

/-- A packet that the reduction engine of its group takes. -/
theorem Dev.engineIn_of_takes {d : Dev} {e t : Nat} {k : Packet} (h : d.engineTakes e t k) (down : Bool) (act : Packet → Dev → Dev) :
    d.engineIn e t down k act = act k (d.takeDlv e 257 k) := by
  obtain ⟨htype, henc, hon, hplain⟩ := h
  rw [Dev.engineIn, if_neg (not_not_intro htype)]
  dsimp only
  rw [hon, if_neg (by decide), Dev.colOpen_plain henc hplain, henc]
  rfl

/-- Settles O21, command by command. -/
theorem completionGroup : Obligations.CompletionGroup := by
  unfold Obligations.CompletionGroup
  refine ⟨?_, ?_, ?_, ?_, ?_, ?_, ?_, ?_, ?_, ?_, ?_, ?_, ?_, ?_, ?_, ?_, ?_, ?_, ?_, ?_, ?_⟩
  · -- groupEntryFetch
    intro s q g hon hany hbacked
    refine State.run_of_on (f := fun d => d.groupFetched q.val g.val) hon ?_
    simp [Dev.groupFetched, Dev.when, hany, hbacked]
  · -- groupEntryFetch
    intro s q g hon hany hbacked
    refine State.run_of_on (f := fun d => d.groupFetched q.val g.val) hon ?_
    simp [Dev.groupFetched, Dev.when, hany, hbacked]
  · -- groupValidate
    intro s q g hon hbacked hgroupFails
    refine State.run_of_on (f := fun d => d.groupValidate q.val g.val) hon ?_
    simp [Dev.groupValidate, hbacked, hgroupFails]
  · -- groupInvalidate
    intro s q g hon hgroupOpen
    refine State.run_of_on (f := fun d => d.groupInvalidate q.val g.val) hon ?_
    simp [Dev.groupInvalidate, hgroupOpen]
  · -- groupForce
    intro s q g hon
    exact State.run_of_on (f := fun d => d.groupForce q.val g.val) hon rfl
  · -- groupEntryWrite
    intro s q g w v hon hbacked
    refine State.run_of_on (f := fun d => d.groupWrite q.val g.val w.val v) hon ?_
    simp [Dev.groupWrite, Dev.when, hbacked]
  · -- groupEntryWrite
    intro s q g w v hon hbacked
    refine State.run_of_on (f := fun d => d.groupWrite q.val g.val w.val v) hon ?_
    simp [Dev.groupWrite, Dev.when, hbacked]
  · -- mcast
    rintro s q member k o hon hmeshHold htype rfl htype2 henc hgEnc
    refine State.run_of_on (f := fun d => d.meshFree q.val (fun d => d.mcastIn q.val member.val k)) hon ?_
    rw [Dev.meshFree, hmeshHold, if_neg (by decide), Dev.mcastIn, if_neg (not_not_intro htype)]
    dsimp only
    rw [Dev.colOpen_plain henc hgEnc]
    dsimp only
    rw [henc, if_neg (by decide), Dev.memberIn, if_neg (by rw [htype2]; decide), if_neg (by omega)]
  · -- redUp
    intro s q src k hon hengineTakes
    refine State.run_of_on (f := fun d => d.redUpIn q.val src k) hon ?_
    simp [Dev.redUpIn, Dev.engineIn, Dev.colOpen, hengineTakes]
  · -- redDown
    intro s q k hon hmeshHold hengineTakes hdest
    refine State.run_of_on (f := fun d => d.meshFree q.val (fun d => d.redDownMsg q.val k)) hon ?_
    simp [Dev.meshFree, Dev.redDownMsg, Dev.redDownIn, Dev.engineIn, Dev.colOpen, hmeshHold, hengineTakes,
      hdest]
  · -- colGrant
    rintro s q k e r ph chunks hon hengineTakes hopenOp hopenCrec rfl rfl hchunks
    refine State.run_of_on (f := fun d => d.grantIn q.val k) hon ?_
    rw [Dev.grantIn, Dev.engineIn_of_takes hengineTakes]
    dsimp only
    rw [hopenOp]
    dsimp only
    rw [hopenCrec]
    exact if_neg hchunks
  · -- bufferAssign
    intro s q g seq e r c ph hon hbufsInUse hopenOp hopenCrec hnextBuf hawaitPorts hmemsOf
    refine State.run_of_on (f := fun d => d.bufferAssign q.val g.val seq) hon ?_
    rw [Dev.bufferAssign, if_neg (by omega), hopenOp]
    dsimp only
    rw [hopenCrec]
    dsimp only
    rw [hnextBuf]
    dsimp only
    rw [hawaitPorts]
    simp only [Dev.when, ChunkBuf.fresh, ne_eq, not_true_eq_false, decide_false, Bool.false_eq_true, if_false]
    simp only [ChunkBuf.fresh] at hmemsOf
    rw [hmemsOf, Dev.each_nil]
  · -- barrierUp
    intro s q src k hon hengineTakes hcDir
    refine State.run_of_on (f := fun d => d.barrierUpIn q.val src k) hon ?_
    simp [Dev.barrierUpIn, Dev.engineIn, Dev.colOpen, hengineTakes, hcDir]
  · -- barrierDown
    intro s q k hon hengineTakes hcDir
    refine State.run_of_on (f := fun d => d.barrierDownIn q.val k) hon ?_
    simp [Dev.barrierDownIn, Dev.engineIn, Dev.colOpen, hengineTakes, hcDir]
  · -- epochCount
    rintro s q src k e r b hon hengineTakes hopenOp hopenCrec hbegun hagrees rfl hsrc hcontains
    refine State.run_of_on (f := fun d => d.epochCountIn q.val src k) hon ?_
    have hopen : ¬ ((r.begun && r.epoch.isNone) = true) := by
      cases he : r.epoch <;> simp_all
    rw [Dev.epochCountIn, Dev.engineIn_of_takes hengineTakes]
    dsimp only
    rw [hopenOp]
    dsimp only
    rw [hopenCrec]
    dsimp only
    rw [if_neg hopen, hagrees, if_neg (by decide), if_pos hsrc, hcontains, if_neg (by decide)]
  · -- operationTimeout
    rintro s q g seq r k hon hopenCrec hgRoot hbegun rfl hstagesOf
    refine State.run_of_on (f := fun d => d.operationTimeout q.val g.val seq) hon ?_
    simp [Dev.operationTimeout, hopenCrec, hgRoot, hbegun, hstagesOf]
  · -- operationTimeout
    rintro s q g seq r k hon hopenCrec hgRoot hbegun rfl hstagesOf
    refine State.run_of_on (f := fun d => d.operationTimeout q.val g.val seq) hon ?_
    simp [Dev.operationTimeout, hopenCrec, hgRoot, hbegun, hstagesOf]
  · -- memberTimeout
    intro s q g seq member m hon hfind hopenCrec
    refine State.run_of_on (f := fun d => d.memberTimeout q.val g.val seq member.val) hon ?_
    simp [Dev.memberTimeout, hfind, hopenCrec]
  · -- fenceReceived
    intro s p c b hon hinOrder hctlKind hcreditValid hctlFvc
    refine State.run_of_on (f := fun d => d.fenceIn p.val c b) hon ?_
    exact Dev.bypassIn_of_inOrder hinOrder hctlKind hcreditValid hctlFvc _
  · -- fenceGo
    rintro s q path v hon rfl
    refine State.run_of_on (f := fun d => d.fenceGo q.val (.mgmt) v) hon ?_
    simp [Dev.fenceGo]
  · -- fenceRefresh
    intro s m hon hrefresh hfilter
    refine State.run_of_on (f := fun d => d.fenceRefresh) hon ?_
    rw [Dev.fenceRefresh, if_neg hrefresh, hfilter]
    simp only [Dev.each, List.foldl_cons, List.foldl_nil]

end Sys2Proof.Machine

/-! # The completion of commands: O22 -/

namespace Sys2Proof.Machine

/-- Settles O22, command by command. -/
theorem completionHost : Obligations.CompletionHost := by
  unfold Obligations.CompletionHost
  refine ⟨?_, ?_, ?_, ?_, ?_, ?_, ?_, ?_, ?_, ?_, ?_, ?_, ?_, ?_, ?_, ?_, ?_, ?_, ?_, ?_, ?_, ?_, ?_⟩
  · -- producerDoorbell
    rintro s q k f n w ok g x hon hform hfuncOn rfl hglobalOf hqueue hstate hidx32 hfill hk
    refine State.runHost_of_on (f := fun d => d.whenFunc q.val f.val (fun d => d.producerDoorbell q.val k.val
      f.val n.val w true)) hon hform ?_
    rw [Dev.whenFunc, if_pos hfuncOn, Dev.producerDoorbell, if_pos rfl, hglobalOf]
    dsimp only
    rw [hqueue]
    dsimp only
    rw [hstate, if_neg (by decide), if_neg (by simp; omega), if_neg hk]
  · -- consumerDoorbell
    rintro s q k f n w ok g x hon hform hfuncOn rfl hglobalOf hqueue hidx32 hbits
    refine State.runHost_of_on (f := fun d => d.whenFunc q.val f.val (fun d => d.consumerDoorbell q.val k.val
      f.val n.val w true)) hon hform ?_
    simp [Dev.whenFunc, Dev.consumerDoorbell, hfuncOn, hglobalOf, hqueue, Nat.not_lt_of_le hidx32, hbits]
  · -- counterWrite
    intro s q n v hon hform
    exact State.runHost_of_on (f := fun d => d.counterWrite q.val n.val v) hon hform rfl
  · -- counterAtomic
    intro s q n op x y hon hform
    exact State.runHost_of_on (f := fun d => d.counterAtomic q.val n.val op.val x y) hon hform rfl
  · -- keyrightsWrite
    intro s q n v hon hform
    exact State.runHost_of_on (f := fun d => d.keyrightsWrite q.val n.val v) hon hform rfl
  · -- descriptorStart
    rintro s q k n desc shards ok y e a hon hform hmeshHold hk hqueue hfill hblocked hstate hmayStart
      hcqAdmits hfetch rfl rfl hdescBad hdTrig
    refine State.runHost_of_on (f := fun d => d.meshFree q.val (fun d => d.descriptorStart q.val k.val n.val
      desc shards true)) hon hform ?_
    have hopen : ¬ ((decide (y.fill = 0) || y.blocked || decide (k.val > kRQ)) = true) := by simp [hfill,
      hblocked, hk, kWQ, kRQ]
    rw [Dev.meshFree, hmeshHold, if_neg (by decide), Dev.descriptorStart, hqueue]
    dsimp only
    rw [if_neg hopen, if_neg (by rw [hstate]; decide), if_neg (not_not_intro hstate), if_neg
      (by rw [hk]; decide), Dev.startWork, hmayStart, hcqAdmits, hfetch]
    dsimp only
    rw [hdescBad, hdTrig]
    simp only [Bool.not_true, Bool.false_eq_true, if_false]
  · -- moderationEnd
    intro s q n x hon hform hqueue hmodBusy hirqDue
    refine State.runHost_of_on (f := fun d => d.moderationEnd q.val n.val) hon hform ?_
    simp [Dev.moderationEnd, Dev.when, hqueue, hmodBusy, hirqDue]
  · -- queueCreate
    intro s q f g hon hform hbusy hglobalOf hqueue hcreateOk
    refine State.runHost_of_on (f := fun d => d.queueCreate q.val f.val) hon hform ?_
    simp [Dev.queueCreate, Dev.queCmd, hbusy, hglobalOf, hqueue, hcreateOk]
  · -- queuePause
    intro s q f g x hon hform hbusy hlocalQueue himgKind hstate
    refine State.runHost_of_on (f := fun d => d.queuePause q.val f.val) hon hform ?_
    simp [Dev.queuePause, Dev.queCmd, hbusy, hlocalQueue, himgKind, hstate]
  · -- queuePauseDone
    intro s q k g x hon hform hqueue hcmd hinProgress
    refine State.runHost_of_on (f := fun d => d.queuePauseDone q.val k.val g.val) hon hform ?_
    simp [Dev.queuePauseDone, hqueue, hcmd, hinProgress]
  · -- queueResume
    intro s q f g x hon hform hbusy hlocalQueue himgKind hstate
    refine State.runHost_of_on (f := fun d => d.queueResume q.val f.val) hon hform ?_
    simp [Dev.queueResume, Dev.queCmd, hbusy, hlocalQueue, himgKind, hstate]
  · -- queueRecover
    intro s q f g x hon hform hbusy hlocalQueue himgKind hstate hflushed
    refine State.runHost_of_on (f := fun d => d.queueRecover q.val f.val) hon hform ?_
    simp [Dev.queueRecover, Dev.queCmd, hbusy, hlocalQueue, himgKind, hstate, hflushed]
  · -- queueDestroy
    intro s q f g x hon hform hbusy hlocalQueue himgKind
    refine State.runHost_of_on (f := fun d => d.queueDestroy q.val f.val) hon hform ?_
    rw [Dev.queueDestroy, Dev.queCmd, if_neg (by simp [hbusy]), hlocalQueue]
    dsimp only
    rw [if_neg (by rw [himgKind]; decide), if_neg (by rw [himgKind]; decide)]
  · -- queueQuery
    intro s q f g x hon hform hbusy hlocalQueue
    refine State.runHost_of_on (f := fun d => d.queueQuery q.val f.val) hon hform ?_
    simp [Dev.queueQuery, Dev.queCmd, hbusy, hlocalQueue]
  · -- flushComplete
    intro s q k g x hon hform hqueue hstate hflushed
    refine State.runHost_of_on (f := fun d => d.flushComplete q.val k.val g.val) hon hform ?_
    simp [Dev.flushComplete, hqueue, hstate, hflushed]
  · -- cqStallTimeout
    intro s q g c hon hform hqueue hstall
    refine State.runHost_of_on (f := fun d => d.cqStallTimeout q.val g.val) hon hform ?_
    simp [Dev.cqStallTimeout, hqueue, hstall]
  · -- functionLevelReset
    intro s q f hon hform hfuncOn
    refine State.runHost_of_on (f := fun d => d.whenFunc q.val f.val (fun d => d.functionReset q.val f.val))
      hon hform ?_
    simp [Dev.whenFunc, Dev.functionReset, hfuncOn]
  · -- d3hotToD0
    intro s q f hon hform hfuncOn
    refine State.runHost_of_on (f := fun d => d.whenFunc q.val f.val (fun d => d.functionReset q.val f.val))
      hon hform ?_
    simp [Dev.whenFunc, Dev.functionReset, hfuncOn]
  · -- hostLinkDown
    rintro s q hot hon hform rfl hresets
    refine State.runHost_of_on (f := fun d => d.hostLinkDown q.val false) hon hform ?_
    rw [Dev.hostLinkDown, Dev.reset_host_of_none hresets, Dev.when, if_pos (by decide)]
  · -- hostLinkUp
    intro s q rate width flit sris hon hform hstep hstep2 hbisque
    refine State.runHost_of_on (f := fun d => d.hostTrained q.val rate width flit sris) hon hform ?_
    simp [Dev.hostTrained, Nat.not_lt_of_le hstep, hstep2, hbisque]
  · -- fnqWrite
    intro s q f k v hon hform hany hbase hf hqueuesIn hqueuesIn2
    refine State.runHost_of_on (f := fun d => d.fnqWrite q.val f.val k.val v) hon hform ?_
    rw [Dev.fnqWrite]
    dsimp only
    rw [hany, hqueuesIn, hqueuesIn2, if_neg ?_, if_neg (by decide)]
    simp only [Bool.false_or, Bool.or_eq_true, Bool.and_eq_true, decide_eq_true_eq]
    omega
  · -- configurationRequest
    intro s q hon hform hstep hstep2
    refine State.runHost_of_on (f := fun d => d.configRequest q.val) hon hform ?_
    exact if_neg (by simp [hform, hstep2]; omega)
  · -- hostPortInternalError
    intro s q hon hform
    exact State.runHost_of_on (f := fun d => d.hostInternal q.val) hon hform rfl

end Sys2Proof.Machine

/-! # What a packet of a connection does where its context takes it (R255, R267, R271) -/

namespace Sys2Proof.Machine

variable {d : Dev} {q : Nat} {k : Packet} {x : Conn} {r : Req}

/-- A packet in plain of a context in plain passes the checks of context, Glaze and incarnation. -/
theorem Dev.connIn_of_plain (hx : d.ctxOf q k = some x) (hex : x.enc = false) (hek : k.enc = false)
    (hinc : k.control = true ∨ k.inc = x.inc) (rsp : Bool) (act : Conn → Packet → Dev → Dev) :
    d.connIn q k rsp act = act x k d := by
  have hpass : ¬ ((!k.control && decide (k.inc ≠ x.inc)) = true) := by
    rcases hinc with h | h <;> simp [h]
  rw [Dev.connIn, hx]
  dsimp only
  rw [hex, hek, if_neg (by decide), if_neg hpass]

/-- A new request in the receive window of its context executes. -/
theorem Dev.requestIn_of_accepts (h : d.accepts q k x) (execute : Conn → Packet → Bool → Dev → Dev) :
    d.requestIn q k execute = execute x k false d := by
  obtain ⟨hx, hex, hek, hinc, hopen, hnew, hwindow⟩ := h
  rw [Dev.requestIn, Dev.connIn_of_plain hx hex hek hinc]
  dsimp only
  rw [hopen, hnew, if_neg (by simp [connOPEN, connERROR]), if_neg (by simp), if_neg (by simpa using hwindow)]

/-- A response to an outstanding request acts on that request. -/
theorem Dev.responseIn_of_answers (h : (d.takeDlv q 512 k).answers q k x r) (act : Req → Packet → Dev → Dev) :
    d.responseIn q k act = act r k (d.takeDlv q 512 k) := by
  obtain ⟨hx, hex, hek, hinc, hreq⟩ := h
  rw [Dev.responseIn, Dev.connIn_of_plain hx hex hek hinc, hreq]

end Sys2Proof.Machine

/-! # The completion of the commands of remote memory: O23 -/

namespace Sys2Proof.Machine

/-- A command of a connection or region runs where none runs, no wipe covers its function and the index is of the function. -/
theorem Dev.rmxCmd_of_free {d e : Dev} {q f kind st : Nat} {v : Word} {act : Nat → Dev → Dev × Nat}
    (hb : d.bit RMX_CMD_BUSY ⟨q, f⟩ = false) (hw : (d.put RMX_CMD_INDEX ⟨q, f⟩ (RMX_CMD_INDEX.of v)).wiping q f = false)
    (hr : (d.put RMX_CMD_INDEX ⟨q, f⟩ (RMX_CMD_INDEX.of v)).inRange q f kind (RMX_CMD_INDEX.of v) = true)
    (ha : act (RMX_CMD_INDEX.of v) (d.put RMX_CMD_INDEX ⟨q, f⟩ (RMX_CMD_INDEX.of v)) = (e, st)) :
    d.rmxCmd q f kind v act = e.put RMX_CMD_STATUS ⟨q, f⟩ st := by
  rw [Dev.rmxCmd]
  dsimp only
  rw [hb, hw, hr, ha, if_neg (by decide), if_neg (by decide), if_neg (by decide)]

/-- A request of its command's type that its context takes. -/
theorem Dev.rmxArrive_of_accepts {d : Dev} {q t : Nat} {k : Packet} {x : Conn} (h : (d.takeDlv q 512 k).accepts q k x)
    (ht : k.type = t) :
    d.rmxArrive q t k =
      if t = tPUT then (d.takeDlv q 512 k).execPutAt q k k false
      else if t = tGET_REQ then (d.takeDlv q 512 k).execGetAt q k k x false false
      else if t = tATOMIC then (d.takeDlv q 512 k).execAtomicAt q k k x false
      else if t = tPUT_CTR then (d.takeDlv q 512 k).execPutCtrAt q k k x false
      else d.takeDlv q 512 k := by
  rw [Dev.rmxArrive, if_pos ht, Dev.rmxRequest, Dev.requestIn_of_accepts h, ht]

/-- Settles O23, command by command. -/
theorem completionRemote : Obligations.CompletionRemote := by
  unfold Obligations.CompletionRemote
  refine ⟨?_, ?_, ?_, ?_, ?_, ?_, ?_, ?_, ?_, ?_, ?_, ?_, ?_, ?_, ?_, ?_, ?_, ?_, ?_, ?_, ?_, ?_, ?_, ?_⟩
  · -- openConn
    rintro s q f v e n hon hform hbusy hwiping hinRange rfl rfl hconn hword0At48 hlastInc hword1At48
      hword1At482 hword0At52 hword3At28 hword0At45
    refine State.runHost_of_on (f := fun d => d.openConn q.val f.val v) hon hform ?_
    refine Dev.rmxCmd_of_free hbusy hwiping hinRange ?_
    dsimp only
    rw [hconn, hword0At48, hword0At45, if_neg (by decide), if_neg (by simp), if_neg ?_]
    · rfl
    · simp only [Bool.or_eq_true, Bool.and_eq_true, decide_eq_true_eq]
      omega
  · -- closeConn
    rintro s q f v e n x hon hform hbusy hwiping hinRange rfl rfl hconn hfunc hstate
    refine State.runHost_of_on (f := fun d => d.closeConn q.val f.val v) hon hform ?_
    simp [Dev.closeConn, Dev.rmxCmd, connERROR, hbusy, hwiping, hinRange, hconn, hfunc, hstate]
  · -- connectionFree
    intro s c x hon hform hconn hstate hconnBusy
    refine State.runHost_of_on (f := fun d => d.connectionFree c) hon hform ?_
    simp [Dev.connectionFree, hconn, hstate, hconnBusy]
  · -- queryConn
    rintro s q f v e n x hon hform hbusy hwiping hinRange rfl rfl hconn
    refine State.runHost_of_on (f := fun d => d.queryConn q.val f.val v) hon hform ?_
    simp [Dev.queryConn, Dev.rmxCmd, hbusy, hwiping, hinRange, hconn]
  · -- registerRegion
    rintro s q f v e n hon hform hbusy hwiping hinRange rfl rfl hisRndv hstate hword1At0 hword2At59 hword2At18
      hspaceOk hbase hword2At182
    refine State.runHost_of_on (f := fun d => d.registerRegion q.val f.val v) hon hform ?_
    refine Dev.rmxCmd_of_free hbusy hwiping hinRange ?_
    dsimp only
    rw [hisRndv, hword2At59, hspaceOk, if_neg (by decide), if_neg (not_not_intro hstate), if_neg
      (by simp; omega)]
    rfl
  · -- revokeRegion
    rintro s q f v e n hon hform hbusy hwiping hinRange rfl rfl hisRndv hstate
    refine State.runHost_of_on (f := fun d => d.revokeRegion q.val f.val v) hon hform ?_
    simp [Dev.revokeRegion, Dev.rmxCmd, regBAD, hbusy, hwiping, hinRange, hisRndv, hstate]
  · -- revokeDone
    intro s q n e hon hform hstate hinflight hbind
    refine State.runHost_of_on (f := fun d => d.revokeEnds q.val n.val) hon hform ?_
    rw [Dev.revokeEnds]
    dsimp only
    rw [if_neg (by simp [hstate, hinflight])]
    have hqueue : ∀ r, (s.toDev.region q.val n.val).eqn.bind (fun e => (s.toDev.setRegion q.val n.val
      r).globalOf q.val (s.toDev.region q.val n.val).owner kEQ e) = some e := fun _ => hbind
    rw [hqueue]
  · -- queryReg
    rintro s q f v e n hon hform hbusy hwiping hinRange rfl rfl hisRndv
    refine State.runHost_of_on (f := fun d => d.queryReg q.val f.val v) hon hform ?_
    simp [Dev.queryReg, Dev.rmxCmd, hbusy, hwiping, hinRange, hisRndv]
  · -- rmxPut
    rintro s q k e x t parts ents hon hform hmeshHold rfl haccepts htype hregionOk htranslateRange
    refine State.runHost_of_on (f := fun d => d.meshFree q.val (fun d => d.rmxArrive q.val tPUT k)) hon hform
      ?_
    rw [Dev.meshFree, hmeshHold, if_neg (by decide), Dev.rmxArrive_of_accepts haccepts htype, if_pos rfl,
      Dev.execPutAt, Dev.passes, hregionOk, if_neg (by decide), Dev.placeRegion, htranslateRange]
  · -- getReq
    rintro s q k e x t parts ents hon hform hmeshHold rfl haccepts htype hregionOk hcounter hcontains
      htranslateRange
    refine State.runHost_of_on (f := fun d => d.meshFree q.val (fun d => d.rmxArrive q.val tGET_REQ k)) hon
      hform ?_
    rw [Dev.meshFree, hmeshHold, if_neg (by decide), Dev.rmxArrive_of_accepts haccepts htype, if_neg (by
      decide), if_pos rfl, Dev.execGetAt]
    dsimp only
    rw [Dev.passes, hregionOk, hcounter, htranslateRange]
    dsimp only
    rw [if_neg (by decide), if_neg (by decide), if_neg (by simpa using hcontains)]
    rfl
  · -- atomic
    rintro s q k e x hon hform hmeshHold rfl haccepts htype hregionOk hkAop hcounter hslotFree
    refine State.runHost_of_on (f := fun d => d.meshFree q.val (fun d => d.rmxArrive q.val tATOMIC k)) hon
      hform ?_
    rw [Dev.meshFree, hmeshHold, if_neg (by decide), Dev.rmxArrive_of_accepts haccepts htype, if_neg (by
      decide), if_neg (by decide), if_pos rfl, Dev.execAtomicAt]
    dsimp only
    rw [Dev.passes, hregionOk, hcounter, hslotFree, if_neg (by decide), if_neg hkAop, if_pos rfl, if_neg (by
      decide)]
  · -- putCtr
    rintro s q k e x t parts ents hon hform hmeshHold rfl haccepts htype hregionOk hslotFree htranslateRange
    refine State.runHost_of_on (f := fun d => d.meshFree q.val (fun d => d.rmxArrive q.val tPUT_CTR k)) hon
      hform ?_
    rw [Dev.meshFree, hmeshHold, if_neg (by decide), Dev.rmxArrive_of_accepts haccepts htype, if_neg (by
      decide), if_neg (by decide), if_neg (by decide), if_pos rfl, Dev.execPutCtrAt]
    dsimp only
    rw [Dev.passes, hregionOk, hslotFree, if_neg (by decide), if_neg (by decide), Dev.placeRegion,
      htranslateRange]
  · -- hostReadComplete
    rintro s tag ok data q l c n k es e x hon hform hreads htype rfl rfl hconn hstate
    refine State.runHost_of_on (f := fun d => d.serveDone tag false true data) hon hform ?_
    have hopen : ¬ ((decide (x.state ≠ connOPEN) && decide (x.state ≠ connERROR)) = true) := by simp [hstate]
    rw [Dev.serveDone, hreads]
    dsimp only
    rw [if_neg (by simp [htype, tGET_REQ, tATOMIC]), hconn]
    dsimp only
    rw [if_neg hopen, if_neg (by decide), if_neg (by decide)]
  · -- hostAtomicComplete
    rintro s tag ok data q l c n k es e x hon hform hreads htype rfl rfl hconn hstate
    refine State.runHost_of_on (f := fun d => d.serveDone tag true true data) hon hform ?_
    have hopen : ¬ ((decide (x.state ≠ connOPEN) && decide (x.state ≠ connERROR)) = true) := by simp [hstate]
    rw [Dev.serveDone, hreads]
    dsimp only
    rw [if_neg (by simp [htype]), hconn]
    dsimp only
    rw [if_neg hopen, if_neg (by decide), if_pos rfl]
  · -- ackDelayExpiry
    intro s c tc x hon hform hconn hackN
    refine State.runHost_of_on (f := fun d => d.ackDelay c tc) hon hform ?_
    simp [Dev.ackDelay, Dev.flushAck, hconn, hackN]
  · -- rmxAck
    rintro s q k e x r hon hform rfl hanswers htype
    refine State.runHost_of_on (f := fun d => d.ackIn q.val k) hon hform ?_
    rw [Dev.ackIn, Dev.responseIn_of_answers hanswers]
    dsimp only
    rw [if_neg htype]
  · -- rmxNack
    rintro s q k e x r hon hform rfl hanswers hofBytes hopflags htryN
    refine State.runHost_of_on (f := fun d => d.nackIn q.val k) hon hform ?_
    rw [Dev.nackIn, Dev.responseIn_of_answers hanswers]
    dsimp only
    rw [hofBytes, if_neg (by decide), if_neg hopflags, if_neg (by omega), Dev.when, if_pos (by decide)]
  · -- getRsp
    rintro s q k e x r hon hform hmeshHold rfl hanswers hcontrol
    refine State.runHost_of_on (f := fun d => d.meshFree q.val (fun d => d.getRspIn q.val k)) hon hform ?_
    rw [Dev.meshFree, hmeshHold, if_neg (by decide), Dev.getRspIn, Dev.responseIn_of_answers hanswers]
    dsimp only
    rw [hcontrol, if_pos rfl, if_pos rfl] <;> rfl
  · -- atomicRsp
    rintro s q k e x r hon hform rfl hanswers
    refine State.runHost_of_on (f := fun d => d.atomicRspIn q.val k) hon hform ?_
    rw [Dev.atomicRspIn, Dev.responseIn_of_answers hanswers]
  · -- requestTimeout
    intro s c psn x r hon hform hconn hreq hhint hrereading htimed htryN
    refine State.runHost_of_on (f := fun d => d.requestTimeout c psn) hon hform ?_
    simp [Dev.requestTimeout, hconn, hreq, hhint, hrereading, htimed, htryN]
  · -- hintRetry
    intro s c psn r hon hform hbind hhint hrereading
    refine State.runHost_of_on (f := fun d => d.hintRetry c psn) hon hform ?_
    simp [Dev.hintRetry, hbind, hhint, hrereading]
  · -- pacingEligible
    rintro s c x y r e hon hform hconn hstate hnextReq hnextPsn htype rfl hconn2
    refine State.runHost_of_on (f := fun d => d.sendNext c) hon hform ?_
    have hhead : r.isHead = false := by simp [Req.isHead, htype, tPUT, tSEND, tRNDV_RTS]
    have hnumbered : r.numbered x.sendMsn = r := if_neg (by simp [hhead])
    have hslot : (if (decide (r.pkt.type = tATOMIC) || decide (r.pkt.type = tPUT_CTR)) = true then
      x.freeSpecial.getD 4 else 4) = 4 :=
      if_neg (by rw [htype]; decide)
    have hpaced : oneSided r.pkt.type = true := by rw [htype]; decide
    rw [Dev.sendNext, hconn]
    dsimp only
    rw [if_neg (not_not_intro hstate), hnextReq]
    dsimp only
    rw [if_neg (by omega), hnumbered, hslot, hhead, hpaced, if_neg (by decide : ¬ 4 < 4), Nat.or_zero, if_neg
      (by decide)]
    simp only [Dev.when, Bool.false_eq_true, if_false, if_true]
    rw [hconn2]
  · -- initiatorReadComplete
    rintro s tag ok data rd c r hon hform hreads huse rfl
    refine State.runHost_of_on (f := fun d => d.initiatorRead tag true data) hon hform ?_
    simp only [Dev.initiatorRead, hreads, huse]
    rfl
  · -- rmxFnresWrite
    intro s q f kind v hon hform hany hbase hresIn hresIn2
    refine State.runHost_of_on (f := fun d => d.fnresWrite q.val f.val kind.val v) hon hform ?_
    rw [Dev.fnresWrite]
    dsimp only
    rw [hany, hresIn, hresIn2, if_neg (by simpa using hbase), if_neg (by decide)]

end Sys2Proof.Machine

/-! # The completion of the commands of matching: O24 -/

namespace Sys2Proof.Machine

/-- A packet of a message that its context takes: its meaning, then the heads that it lets follow. -/
theorem Dev.mtcArrive_of_accepts {d : Dev} {q t : Nat} {fin control : Bool} {k : Packet} {x : Conn}
    (h : (d.takeDlv q 512 k).accepts q k x) (ht : k.type = t) (hf : kFin k = fin) (hc : k.control = control) :
    d.mtcArrive q t fin control k =
      ((if fin then (d.takeDlv q 512 k).finIn q k
        else if control then (d.takeDlv q 512 k).onHead q x k k false
        else (d.takeDlv q 512 k).sendPiece q k k).runHeld q k.dconn 65) := by
  rw [Dev.mtcArrive, if_pos (by simp [ht, hf, hc]), Dev.mtcRequest, Dev.requestIn_of_accepts h, hf, hc]

/-- A head in turn that no message of its number is bound for. -/
theorem Dev.onHead_in_turn {d : Dev} {q : Nat} {x : Conn} {k orig : Packet} {held : Bool} (hen : d.bit MTC_CTRL_EN (onDie q) = true)
    (hnone : (d.msgAt k.dconn (kMsn k)).filter (fun m => m.2.bound ≠ 0) = none) (hturn : kMsn k = x.nextMsn % 65536) :
    d.onHead q x k orig held = d.headInTurn q x k orig held := by
  rw [Dev.onHead, hen, if_neg (by decide)]
  dsimp only
  rw [hnone]
  dsimp only
  rw [if_neg (by omega), if_neg (by omega)]

/-- Settles O24, command by command. -/
theorem completionMatch : Obligations.CompletionMatch := by
  unfold Obligations.CompletionMatch
  refine ⟨?_, ?_, ?_, ?_, ?_, ?_, ?_, ?_, ?_⟩
  · -- mtcSend
    rintro s q k e x hon hform hmeshHold rfl haccepts htype hcontrol hkFin hen hfilter hkMsn
    refine State.runHost_of_on (f := fun d => d.meshFree q.val (fun d => d.mtcArrive q.val tSEND false true
      k)) hon hform ?_
    rw [Dev.meshFree, hmeshHold, if_neg (by decide), Dev.mtcArrive_of_accepts haccepts htype hkFin hcontrol,
      if_neg (by decide), if_pos rfl, Dev.onHead_in_turn hen hfilter hkMsn]
  · -- sendData
    rintro s q k e x i m hon hform hmeshHold rfl haccepts htype hcontrol hkFin hfilter
    refine State.runHost_of_on (f := fun d => d.meshFree q.val (fun d => d.mtcArrive q.val tSEND false false
      k)) hon hform ?_
    rw [Dev.meshFree, hmeshHold, if_neg (by decide), Dev.mtcArrive_of_accepts haccepts htype hkFin hcontrol,
      if_neg (by decide), if_neg (by decide), Dev.sendPiece, hfilter]
  · -- rndvRts
    rintro s q k e x hon hform hmeshHold rfl haccepts htype hcontrol hkFin hen hfilter hkMsn
    refine State.runHost_of_on (f := fun d => d.meshFree q.val (fun d => d.mtcArrive q.val tRNDV_RTS false
      true k)) hon hform ?_
    rw [Dev.meshFree, hmeshHold, if_neg (by decide), Dev.mtcArrive_of_accepts haccepts htype hkFin hcontrol,
      if_neg (by decide), if_pos rfl, Dev.onHead_in_turn hen hfilter hkMsn]
  · -- rndvFin
    rintro s q k e x hon hform hmeshHold rfl haccepts htype hcontrol hkFin hfind
    refine State.runHost_of_on (f := fun d => d.meshFree q.val (fun d => d.mtcArrive q.val tRNDV_RTS true true
      k)) hon hform ?_
    rw [Dev.meshFree, hmeshHold, if_neg (by decide), Dev.mtcArrive_of_accepts haccepts htype hkFin hcontrol,
      if_pos rfl, Dev.finIn, hfind]
  · -- rndvFin
    rintro s q k e x o hon hform hmeshHold rfl haccepts htype hcontrol hkFin hfind hgen
    refine State.runHost_of_on (f := fun d => d.meshFree q.val (fun d => d.mtcArrive q.val tRNDV_RTS true true
      k)) hon hform ?_
    rw [Dev.meshFree, hmeshHold, if_neg (by decide), Dev.mtcArrive_of_accepts haccepts htype hkFin hcontrol,
      if_pos rfl, Dev.finIn, hfind]
    dsimp only
    rw [if_pos hgen]
  · -- uxCopyComplete
    intro s tag ok data q n o i es hon hform hreads
    refine State.runHost_of_on (f := fun d => d.uxCopyComplete tag ok data) hon hform ?_
    simp [Dev.uxCopyComplete, hreads]
  · -- rndvRegionFree
    intro s q f i o n hon hform hfind hbyRendezvous hfreeRndv
    refine State.runHost_of_on (f := fun d => d.rndvFree q.val f.val) hon hform ?_
    simp [Dev.rndvFree, Dev.startSend, hfind, hbyRendezvous, hfreeRndv]
  · -- mtcPurge
    intro s q f e hon hform hwiping hfilter hkind
    refine State.runHost_of_on (f := fun d => d.purge q.val f.val) hon hform ?_
    rw [Dev.purge, if_neg (by simp [hwiping])]
    dsimp only
    rw [hfilter]
    simp only [Dev.each, List.foldl_cons, List.foldl_nil, Dev.when, hkind]
    rfl
  · -- mtcFnrndvWrite
    intro s q f v hon hform hany hcount hcount2 hresIn hresIn2
    refine State.runHost_of_on (f := fun d => d.fnrndvWrite q.val f.val v) hon hform ?_
    rw [Dev.fnrndvWrite]
    dsimp only
    rw [hany, hresIn, hresIn2, if_neg ?_, if_neg (by decide)]
    simp only [Bool.false_or, Bool.or_eq_true, Bool.and_eq_true, decide_eq_true_eq]
    omega

end Sys2Proof.Machine

/-! # The completion of the translation commands: O25 -/

namespace Sys2Proof.Machine

/-- A translation command runs where none runs and no wipe covers its function. -/
theorem Dev.xltCmd_of_idle {d : Dev} {q f : Nat} (hb : d.bit XLT_CMD_BUSY ⟨q, f⟩ = false) (hw : d.wiping q f = false)
    (act : Dev → Dev) : d.xltCmd q f act = act d := by
  simp [Dev.xltCmd, hb, hw]

/-- Settles O25, command by command. -/
theorem completionTranslation : Obligations.CompletionTranslation := by
  unfold Obligations.CompletionTranslation
  refine ⟨?_, ?_, ?_, ?_, ?_, ?_, ?_, ?_, ?_, ?_, ?_, ?_, ?_, ?_, ?_, ?_, ?_, ?_, ?_, ?_⟩
  · -- handlerMiss
    intro s q slot t e hon hform hmeshHold htrap hcause hhintWait hwalks hpageFailed hfind
    refine State.runHost_of_on (f := fun d => d.meshFree q.val (fun d => d.handlerMiss q.val slot.val)) hon
      hform ?_
    simp [Dev.meshFree, Dev.handlerMiss, Dev.missing, hmeshHold, htrap, hcause, hhintWait, hwalks,
      hpageFailed, hfind]
  · -- handlerMark
    intro s q slot found t e hon hform hmeshHold htrap hcause hhintWait hpageFailed hfind hwalked
    refine State.runHost_of_on (f := fun d => d.meshFree q.val (fun d => d.handlerMark q.val slot.val found))
      hon hform ?_
    simp [Dev.meshFree, Dev.handlerMark, hmeshHold, htrap, hcause, hhintWait, hpageFailed, hfind, hwalked]
  · -- walkReadComplete
    rintro s tag ok x q l slot level a es e t hon hform hreads rfl hwalks htrap rfl hbits
    refine State.runHost_of_on (f := fun d => d.walkReadDone tag true x) hon hform ?_
    simp only [Dev.walkReadDone, hreads, hwalks, htrap]
    rw [Dev.walkStep, if_neg (by decide), if_pos hbits]
  · -- trapRetry
    intro s q id slot t e a b hon hform htrapOf hhintWait htrap htranslate
    refine State.runHost_of_on (f := fun d => d.resolveTrap q.val id.val (fun slot d => d.slotRetry q.val
      slot)) hon hform ?_
    simp [Dev.resolveTrap, Dev.slotRetry, htrapOf, hhintWait, htrap, htranslate]
  · -- trapNotPresent
    intro s q id hint slot k n t hon hform htrapOf hhintWait htrap hcont
    refine State.runHost_of_on (f := fun d => d.resolveTrap q.val id.val (fun slot d => d.slotAbsent q.val
      slot hint.val)) hon hform ?_
    simp [Dev.resolveTrap, Dev.slotAbsent, htrapOf, hhintWait, htrap, hcont]
  · -- trapWalkError
    intro s q id slot t hon hform htrapOf hhintWait htrap
    refine State.runHost_of_on (f := fun d => d.resolveTrap q.val id.val (fun slot d => d.slotFail q.val slot
      ST_WALK_ERROR)) hon hform ?_
    simp [Dev.resolveTrap, Dev.slotFail, htrapOf, hhintWait, htrap]
  · -- trapNotPermitted
    intro s q id slot t hon hform htrapOf hhintWait htrap
    refine State.runHost_of_on (f := fun d => d.resolveTrap q.val id.val (fun slot d => d.slotFail q.val slot
      ST_NOT_PERMITTED)) hon hform ?_
    simp [Dev.resolveTrap, Dev.slotFail, htrapOf, hhintWait, htrap]
  · -- twaitTimeout
    intro s q slot t k n hon hform htrap hside hcont
    refine State.runHost_of_on (f := fun d => d.twaitTimeout q.val slot.val) hon hform ?_
    simp [Dev.twaitTimeout, Dev.slotAbsent, htrap, hside, hcont]
  · -- trapHintRetry
    intro s q slot t hon hform htrap hhintWait
    refine State.runHost_of_on (f := fun d => d.trapHintRetry q.val slot.val) hon hform ?_
    simp [Dev.trapHintRetry, htrap, hhintWait]
  · -- xltLoad
    rintro s q w hon hform rfl hentOk hspace hmayLock
    refine State.runHost_of_on (f := fun d => d.xltLoad q.val) hon hform ?_
    simp [Dev.xltLoad, hentOk, Nat.not_le_of_lt hspace, hmayLock]
  · -- xltRemove
    intro s q hon hform
    exact State.runHost_of_on (f := fun d => d.xltRemove q.val) hon hform rfl
  · -- xltMap
    rintro s q f w e hon hform hbusy hwiping rfl hentOk rfl hownsSpace hany hlength
    refine State.runHost_of_on (f := fun d => d.xltMap q.val f.val) hon hform ?_
    simp [Dev.xltMap, Dev.xltCmd, hbusy, hwiping, hentOk, hownsSpace, hany, Nat.not_le_of_lt hlength]
  · -- xltUnmap
    intro s q f hon hform hbusy hwiping hownsSpace
    refine State.runHost_of_on (f := fun d => d.xltUnmap q.val f.val) hon hform ?_
    simp [Dev.xltUnmap, Dev.xltCmd, hbusy, hwiping, hownsSpace]
  · -- xltInval
    intro s q f hon hform hbusy hwiping hownsSpace hxltWord hxltWord2
    refine State.runHost_of_on (f := fun d => d.xltInval q.val f.val) hon hform ?_
    rw [Dev.xltInval, Dev.xltCmd_of_idle hbusy hwiping]
    dsimp only
    rw [hownsSpace, if_neg (by decide), if_neg (by simp; omega)]
  · -- xltInvalSpace
    intro s q f hon hform hbusy hwiping hownsSpace
    refine State.runHost_of_on (f := fun d => d.xltInvalSpace q.val f.val) hon hform ?_
    simp [Dev.xltInvalSpace, Dev.xltCmd, hbusy, hwiping, hownsSpace]
  · -- xltInvalComplete
    intro s q f v hon hform hinvals husedBy
    refine State.runHost_of_on (f := fun d => d.invalComplete q.val f.val) hon hform ?_
    simp [Dev.invalComplete, hinvals, husedBy]
  · -- pgResp
    intro s q f s2 page hon hform hbusy hwiping hword0At32 hfilter
    refine State.runHost_of_on (f := fun d => d.pgResp q.val f.val) hon hform ?_
    rw [Dev.pgResp, Dev.xltCmd_of_idle hbusy hwiping]
    dsimp only
    rw [hfilter]
    exact if_pos hword0At32
  · -- pageRequestTimeout
    intro s q id s2 page hon hform hpreqs
    refine State.runHost_of_on (f := fun d => d.pageRequestTimeout q.val id) hon hform ?_
    rw [Dev.pageRequestTimeout, hpreqs]
  · -- xltSpaceWrite
    rintro s q n root v hon hform rfl hspaceInUse
    refine State.runHost_of_on (f := fun d => d.spaceWrite q.val n.val false v) hon hform ?_
    simp [Dev.spaceWrite, hspaceInUse]
  · -- xltSpaceWrite
    rintro s q n root v hon hform rfl hspaceInUse
    refine State.runHost_of_on (f := fun d => d.spaceWrite q.val n.val true v) hon hform ?_
    simp [Dev.spaceWrite, hspaceInUse]

end Sys2Proof.Machine

/-! # The completion of commands: O26 -/

namespace Sys2Proof.Machine

/-- Settles O26, command by command. -/
theorem completionMesh : Obligations.CompletionMesh := by
  unfold Obligations.CompletionMesh
  refine ⟨?_, ?_, ?_, ?_, ?_, ?_⟩
  · -- meshMessage
    rintro s m ecc m2 hon hsdie hnodeAbsent hmeshNormal hcls rfl hsdie2 hholdStops hregHolds hmeshBehind
    refine State.run_of_on (f := fun d => d.meshMessage m ecc.val) hon ?_
    simp [Dev.meshMessage, Dev.meshOffer, hnodeAbsent, hcls, hsdie2, hholdStops, hregHolds, hmeshBehind]
  · -- gatewayMessage
    rintro s m ecc m2 l hon hsdie hnodeAbsent hmeshNormal hcls rfl hsdie2 hcls2 hholdStops hregHolds
      hmeshBehind hroute hdieInReset
    refine State.run_of_on (f := fun d => d.gatewayMessage m ecc.val) hon ?_
    simp [Dev.gatewayMessage, Dev.meshOffer, Dev.meshCross, hsdie, hnodeAbsent, hmeshNormal, hcls, hsdie2,
      hcls2, hholdStops, hregHolds, hmeshBehind, hroute, hdieInReset]
  · -- meshSwitch
    intro s q v hon hmeshHold hswitch htarget
    refine State.run_of_on (f := fun d => d.switchWrite q.val v) hon ?_
    simp [Dev.switchWrite, Dev.nocModectl, hmeshHold, hswitch, htarget]
  · -- meshQuiesced
    intro s q hon hmeshHold houtstanding
    refine State.run_of_on (f := fun d => d.meshQuiesced q.val) hon ?_
    simp [Dev.meshQuiesced, Dev.meshSwitched, hmeshHold, houtstanding]
  · -- holdmaxTimeout
    intro s q hon hmeshHold
    refine State.run_of_on (f := fun d => d.holdmaxPasses q.val) hon ?_
    simp [Dev.holdmaxPasses, hmeshHold]
  · -- regulatorRelease
    intro s q node cls x hon hfilter
    refine State.run_of_on (f := fun d => d.regulatorRelease q.val node.val cls.val) hon ?_
    simp only [Dev.regulatorRelease, Dev.meshRetry, hfilter]
    rfl

end Sys2Proof.Machine

/-! # The completion of the commands of Saggar: O27 -/

namespace Sys2Proof.Machine

/-- A key command that no wipe holds off: what it does with its slot; the key buffers are cleared (R362). -/
theorem Dev.keyCmd_of_free {d e : Dev} {q f st : Nat} {v : Word} {act : Dev → Nat → Dev × Nat}
    (hw : (d.put SAG_KEYCMD_SLOT ⟨q, f⟩ (SAG_KEYCMD_SLOT.of v)).wipingKeys q f = false)
    (ha : act (d.put SAG_KEYCMD_SLOT ⟨q, f⟩ (SAG_KEYCMD_SLOT.of v)) (SAG_KEYCMD_SLOT.of v) = (e, st)) :
    d.keyCmd q f v act =
      (e.each (List.range 4) (fun w d => d.wr .SAG_KEYBUF ⟨q, f * 4 + w⟩ 0)).put SAG_KEYCMD_STATUS ⟨q, f⟩ st := by
  simp only [Dev.keyCmd, hw, ha, Bool.false_eq_true, if_false]

/-- Settles O27, command by command. -/
theorem completionSaggar : Obligations.CompletionSaggar := by
  unfold Obligations.CompletionSaggar
  refine ⟨?_, ?_, ?_, ?_, ?_, ?_, ?_, ?_, ?_, ?_, ?_⟩
  · -- challengeRead
    intro s path hon hcontains
    refine State.run_of_on (f := fun d => (d.emit (.readValue (pathOut path) (d.shown .SAG_CHAL 0
      0))).challengeRead) hon ?_
    simp only [Dev.challengeRead, Dev.emit_sag, hcontains, Bool.false_and, Bool.false_eq_true, if_false]
  · -- tokenPresent
    rintro s q path hon htokBusy rfl hwipes
    refine State.run_of_on (f := fun d => d.present q.val .mgmt) hon ?_
    simp [Dev.present, pathPresents, htokBusy, hwipes]
  · -- tokenVerified
    intro s t hon htoken
    refine State.run_of_on (f := fun d => d.tokenVerified) hon ?_
    simp only [Dev.tokenVerified, htoken] <;> rfl
  · -- setOpkey
    rintro s q path hon htokBusy rfl hlifeCycle hopkey
    refine State.run_of_on (f := fun d => d.setOpkey q.val (.mgmt)) hon ?_
    simp [Dev.setOpkey, htokBusy, hlifeCycle, hopkey]
  · -- debugLower
    intro s level hon hlevel hlevel2
    refine State.run_of_on (f := fun d => d.lowerLevel level.val) hon ?_
    simp [Dev.lowerLevel, hlevel, hlevel2]
  · -- installConn
    rintro s q owner v e n hon rfl rfl hwipingKeys howner hkeyState hkeyQuotaFull hkeysAllowed
    refine State.run_of_on (f := fun d => d.keyInstallConn q.val owner.val v) hon ?_
    exact Dev.keyCmd_of_free hwipingKeys (by simp [Dev.installConn, hkeyState, hkeyQuotaFull, hkeysAllowed,
      show ¬ 255 < owner.val by omega])
  · -- installGroup
    rintro s q owner v e n hon rfl rfl hwipingKeys howner hkeyState hkeysAllowed
    refine State.run_of_on (f := fun d => d.keyInstallGroup q.val owner.val v) hon ?_
    have hgroup : decide (owner.val ≠ 256) = false := by simp [howner]
    refine Dev.keyCmd_of_free hwipingKeys ?_
    simp only [Dev.installGroup, hgroup, hkeyState, hkeysAllowed]
    rfl
  · -- keyErase
    rintro s q owner v e n hon rfl rfl hwipingKeys hkeyState hkeyOwner hkeyInUse
    refine State.run_of_on (f := fun d => d.keyEraseCmd q.val owner.val v) hon ?_
    exact Dev.keyCmd_of_free hwipingKeys (by simp [Dev.keyErase, hkeyState, hkeyOwner, hkeyInUse])
  · -- entropyFail
    intro s q hon
    exact State.run_of_on (f := fun d => d.entropyFails q.val) hon rfl
  · -- entropyRecover
    intro s q hon hq
    refine State.run_of_on (f := fun d => d.entropyRecovers q.val) hon ?_
    simp [Dev.entropyRecovers, hq]
  · -- wipeDone
    intro s scope die part w hon hfind
    refine State.run_of_on (f := fun d => d.wipeDone scope die part) hon ?_
    rw [Dev.wipeDone, hfind]

end Sys2Proof.Machine

/-! # The completion of commands: O28 -/

namespace Sys2Proof.Machine

/-- Settles O28, command by command. -/
theorem completionBoot : Obligations.CompletionBoot := by
  unfold Obligations.CompletionBoot
  refine ⟨?_, ?_, ?_, ?_, ?_, ?_, ?_, ?_, ?_, ?_, ?_, ?_, ?_, ?_, ?_, ?_, ?_, ?_, ?_, ?_⟩
  · -- flashInit
    rintro s ok hon hstep hlifeCycle hlifeCycle2 rfl
    refine State.run_of_on (f := fun d => d.flashInit true) hon ?_
    simp [Dev.flashInit, hstep, hlifeCycle, hlifeCycle2]
  · -- flashInit
    rintro s ok hon hstep hlifeCycle hlifeCycle2 rfl
    refine State.run_of_on (f := fun d => d.flashInit false) hon ?_
    simp [Dev.flashInit, hstep, hlifeCycle, hlifeCycle2]
  · -- candidateChosen
    intro s unread e hon hstep he htried htrialState
    refine State.run_of_on (f := fun d => d.candidateChosen unread) hon ?_
    rw [Dev.candidateChosen, if_neg (by simp [hstep]), ← he]
    simp [htried, htrialState, Dev.each]
  · -- saggarImageLoaded
    rintro s ok hon hstep hupdate rfl
    refine State.run_of_on (f := fun d => d.saggarLoaded true) hon ?_
    cases h : s.imageSigned s.boot.slot 1 <;> simp [Dev.saggarLoaded, hstep, hupdate, h]
  · -- zoruriImageLoaded
    rintro s ok hon hstep hupdate rfl
    refine State.run_of_on (f := fun d => d.zoruriLoaded true) hon ?_
    cases h : s.imageSigned s.boot.slot 2 <;> cases h' : s.cfgAuthentic (s.cfgPart s.boot.slot) <;> simp
      [Dev.zoruriLoaded, hstep, hupdate, h, h'] <;> rfl
  · -- calibrationDone
    intro s q ports lanes brgh brgv banks chans tables other e hon hstep hcontains he hbooting
    refine State.run_of_on (f := fun d => d.calibrationDone q.val ports lanes brgh brgv banks chans tables
      other) hon ?_
    rw [Dev.calibrationDone, if_neg (by rw [hstep, hcontains]; decide), ← he]
    exact if_neg (not_not_intro hbooting)
  · -- phaseRun
    intro s words hon hstep hnodeValid hisolated hall
    refine State.run_of_on (f := fun d => d.phaseRun words) hon ?_
    simp [Dev.phaseRun, hstep, hnodeValid, hisolated, hall]
  · -- directoryUpdateDone
    intro s hon hupdate
    refine State.run_of_on (f := fun d => d.dirDone) hon ?_
    simp [Dev.dirDone, Dev.when, hupdate]
  · -- directoryUpdateDone
    intro s hon hupdate
    refine State.run_of_on (f := fun d => d.dirDone) hon ?_
    simp [Dev.dirDone, Dev.when, hupdate]
  · -- slotTrialA
    intro s hon hbusy htrialState hactive
    refine State.run_of_on (f := fun d => d.slotFree (fun d => d.slotTrial 1)) hon ?_
    simp [Dev.slotFree, Dev.slotTrial, hbusy, htrialState, hactive]
  · -- slotTrialB
    intro s hon hbusy htrialState hactive
    refine State.run_of_on (f := fun d => d.slotFree (fun d => d.slotTrial 2)) hon ?_
    simp [Dev.slotFree, Dev.slotTrial, hbusy, htrialState, hactive]
  · -- slotCommit
    rintro s path hon hbusy rfl htrialState
    refine State.run_of_on (f := fun d => d.slotFree (fun d => d.slotCommit (.mgmt))) hon ?_
    simp [Dev.slotFree, Dev.slotCommit, hbusy, htrialState]
  · -- slotRevert
    intro s hon hbusy htrialState
    refine State.run_of_on (f := fun d => d.slotFree Dev.slotRevert) hon ?_
    simp [Dev.slotFree, Dev.slotRevert, hbusy, htrialState]
  · -- slotReboot
    intro s hon hbusy
    refine State.run_of_on (f := fun d => d.slotFree Dev.slotReboot) hon ?_
    simp [Dev.slotFree, Dev.slotReboot, hbusy]
  · -- trialWatchdog
    intro s hon htrialState hisSome
    refine State.run_of_on (f := fun d => d.watchdogExpires) hon ?_
    simp [Dev.watchdogExpires, htrialState, hisSome]
  · -- autocommit
    intro s hon htrialState htrial hautocommit hstep hall hvalid hbanksValid
    refine State.run_of_on (f := fun d => d.autocommit) hon ?_
    simp [Dev.autocommit, htrialState, htrial, hautocommit, hstep, hall, hvalid, hbanksValid]
  · -- flashRead
    intro s v hon hbusy haddr
    refine State.run_of_on (f := fun d => d.flashCommand v Dev.flashRead) hon ?_
    simp [Dev.flashCommand, Dev.flashRead, hbusy, haddr]
  · -- flashProgram
    rintro s v e hon hbusy rfl haddr hflashProtected hflashSlot
    refine State.run_of_on (f := fun d => d.flashCommand v Dev.flashProgramCmd) hon ?_
    simp [Dev.flashCommand, Dev.flashProgramCmd, Dev.flashStart, hbusy, haddr, hflashProtected, hflashSlot]
  · -- flashErase
    rintro s v e hon hbusy rfl haddr hflashProtected hflashSlot
    refine State.run_of_on (f := fun d => d.flashCommand v Dev.flashEraseCmd) hon ?_
    simp [Dev.flashCommand, Dev.flashEraseCmd, Dev.flashStart, hbusy, haddr, hflashProtected, hflashSlot]
  · -- flashCmdDone
    intro s a data hon hflashCmd
    refine State.run_of_on (f := fun d => d.flashDone) hon ?_
    rw [Dev.flashDone, hflashCmd]
    rfl

end Sys2Proof.Machine

/-! # The completion of the messages and timers of Erg: O29 -/

namespace Sys2Proof.Machine

/-- A HELLO of an Erg type that is received in order where Erg runs. -/
theorem Dev.ergIn_of_inOrder {d : Dev} {p type : Nat} {c : Ctrl} {b : Body} (h : d.inOrder p c) (hk : ctlKind c = 2)
    (hv : creditValid c = true) (hc : ctlFvc c = byHELLO) (hr : (d.acceptSeq p c).ergRuns = true) (ht : hb b 8 1 = type)
    (act : Dev → Dev) : d.ergIn p type c b act = act (d.acceptSeq p c) := by
  rw [Dev.ergIn, Dev.bypassIn_of_inOrder h hk hv hc, hr, ht]
  exact if_pos (by simp)

/-- Settles O29, command by command. -/
theorem completionErg : Obligations.CompletionErg := by
  unfold Obligations.CompletionErg
  refine ⟨?_, ?_, ?_, ?_, ?_, ?_, ?_, ?_, ?_, ?_, ?_, ?_, ?_, ?_, ?_⟩
  · -- ergLinkSend
    intro s hon hergRuns
    refine State.run_of_on (f := fun d => d.linkSend) hon ?_
    simp [Dev.linkSend, hergRuns]
  · -- ergRefresh
    intro s hon hergRuns
    refine State.run_of_on (f := fun d => d.ergRefresh) hon ?_
    simp [Dev.ergRefresh, hergRuns]
  · -- ergLink
    rintro s p c b e hon hinOrder hctlKind hcreditValid hctlFvc rfl hergRuns hhb
    refine State.run_of_on (f := fun d => d.ergLink p.val c b) hon ?_
    exact Dev.ergIn_of_inOrder hinOrder hctlKind hcreditValid hctlFvc hergRuns hhb _
  · -- ergAssign
    rintro s p c b e hon hinOrder hctlKind hcreditValid hctlFvc rfl hergRuns hhb hhb2 hmapMode hassigns
      hleading
    refine State.run_of_on (f := fun d => d.ergAssign p.val c b) hon ?_
    rw [Dev.ergAssign, Dev.ergIn_of_inOrder hinOrder hctlKind hcreditValid hctlFvc hergRuns hhb]
    dsimp only
    rw [hassigns, hmapMode, if_neg (by simp [hhb2]), if_neg (by simp [Dev.mapErg, hleading])]
  · -- ergClaim
    rintro s p c b e hon hinOrder hctlKind hcreditValid hctlFvc rfl hergRuns hhb hhb2 hclaims hclaim
    refine State.run_of_on (f := fun d => d.ergClaim p.val c b) hon ?_
    rw [Dev.ergClaim, Dev.ergIn_of_inOrder hinOrder hctlKind hcreditValid hctlFvc hergRuns hhb]
    dsimp only
    rw [hclaims, if_neg (by simp [hhb2])]
    simp only [Dev.mapErg, hclaim]
  · -- ergLsa
    rintro s p c b e hon hinOrder hctlKind hcreditValid hctlFvc rfl hergRuns hhb hnodeValid hlsas
    refine State.run_of_on (f := fun d => d.ergLsa p.val c b) hon ?_
    rw [Dev.ergLsa, Dev.ergIn_of_inOrder hinOrder hctlKind hcreditValid hctlFvc hergRuns hhb]
    dsimp only
    simp only [hnodeValid, hlsas, Bool.false_and, Bool.or_self, Bool.not_true, Bool.not_false, Bool.or_true,
      Bool.false_eq_true, if_false]
  · -- ergGsum
    rintro s p c b e hon hinOrder hctlKind hcreditValid hctlFvc rfl hergRuns hhb hnodeValid hgsums
    refine State.run_of_on (f := fun d => d.ergGsum p.val c b) hon ?_
    rw [Dev.ergGsum, Dev.ergIn_of_inOrder hinOrder hctlKind hcreditValid hctlFvc hergRuns hhb]
    dsimp only
    rw [hgsums, if_neg (by simp [hnodeValid])]
    simp only [Bool.not_false, Bool.or_true]
  · -- claimWaitExpiry
    intro s g hon hergRuns hmapMode hleading hclaim
    refine State.run_of_on (f := fun d => d.claimWait) hon ?_
    simp [Dev.claimWait, hergRuns, hmapMode, hleading, hclaim]
  · -- settleExpiry
    rintro s ok need routes psets hon hergRuns hnodeValid hchanged rfl hneed htablesFit
    refine State.run_of_on (f := fun d => d.settleExpires true need routes psets) hon ?_
    simp [Dev.settleExpires, hergRuns, hnodeValid, hchanged, Nat.not_lt_of_le hneed, htablesFit]
  · -- neighbourAbsent
    intro s p hon
    exact State.run_of_on (f := fun d => d.neighbourAbsent p.val) hon rfl
  · -- originExpiry
    rintro s kind n hon rfl
    refine State.run_of_on (f := fun d => d.originExpires 2 n) hon ?_
    simp [Dev.originExpires]
  · -- originExpiry
    rintro s kind n hon rfl
    refine State.run_of_on (f := fun d => d.originExpires 1 n) hon ?_
    simp [Dev.originExpires]
  · -- memberLost
    intro s m hon hergRuns hleads hnodeValid hm hcontains hmemberSeen hcontains2
    refine State.run_of_on (f := fun d => d.memberLost m.val) hon ?_
    rw [Dev.memberLost, hergRuns, hleads, hnodeValid, hcontains, hmemberSeen, hcontains2]
    exact if_pos (by simp [hm])
  · -- fwMsg
    intro s q k e st r hon htype henc hofBytes hofBytes2 hfwServe
    refine State.run_of_on (f := fun d => d.fwMsgIn q.val k) hon ?_
    rw [Dev.fwMsgIn, if_neg (not_not_intro htype)]
    dsimp only
    rw [henc, if_neg (by decide), if_neg (by simp; omega), hfwServe]
  · -- fwRsp
    intro s q k o hon htype henc hoob hfabric htag
    refine State.run_of_on (f := fun d => d.fwRspIn q.val k) hon ?_
    rw [Dev.fwRspIn, if_neg (not_not_intro htype)]
    dsimp only
    rw [henc, if_neg (by decide), hoob]
    exact if_pos (by simp [hfabric, htag])

end Sys2Proof.Machine

/-! # The completion of the commands of the ring: O30 -/

namespace Sys2Proof.Machine

/-- A frame of the type that a module on the ring takes. -/
theorem Dev.frameIn_of {d : Dev} {type : Nat} {f : Frame} (hj : d.carJoined = true) (hc : frCrcOk f = true) (ht : frType f = type)
    (act : Dev → Dev) : d.frameIn type f act = act d := by
  simp [Dev.frameIn, hj, hc, ht]

/-- A frame that is addressed to this module. -/
theorem Dev.frameFor_own {d : Dev} {type : Nat} {f : Frame} (hj : d.carJoined = true) (hc : frCrcOk f = true) (ht : frType f = type)
    (hd : frDst f = d.carPos) (hp : d.carPos ≠ 255) (act : Dev → Dev) : d.frameFor type f act = act d := by
  rw [Dev.frameFor, Dev.frameIn_of hj hc ht]
  simp [hd, hp]

/-- Settles O30, command by command. -/
theorem completionCaravan : Obligations.CompletionCaravan := by
  unfold Obligations.CompletionCaravan
  refine ⟨?_, ?_, ?_, ?_, ?_, ?_, ?_, ?_, ?_, ?_, ?_, ?_, ?_, ?_⟩
  · -- caravanJoin
    intro s hon hstep hen hcarJoined
    refine State.run_of_on (f := fun d => d.carFollow) hon ?_
    simp [Dev.carFollow, hstep, hen, hcarJoined]
  · -- caravanLockLoss
    intro s hon hcarJoined
    refine State.run_of_on (f := fun d => d.carLockLoss) hon ?_
    simp [Dev.carLockLoss, hcarJoined]
  · -- caravanLockTimeout
    intro s hon hcarState hrate
    refine State.run_of_on (f := fun d => d.carLockTimeout) hon ?_
    simp [Dev.carLockTimeout, hcarState, hrate]
  · -- caravanElect
    intro s f hon hcarJoined hfrCrcOk hfrType hcarState hfrBytes
    refine State.run_of_on (f := fun d => d.ringElect f) hon ?_
    rw [Dev.ringElect, Dev.frameIn_of hcarJoined hfrCrcOk hfrType]
    simp only [hcarState, if_false, hfrBytes]
  · -- caravanPosition
    intro s f hon hcarJoined hfrCrcOk hfrType hfrBytes hcarMaster
    refine State.run_of_on (f := fun d => d.ringPosition f) hon ?_
    simp [Dev.ringPosition, Dev.frameIn, hcarJoined, hfrCrcOk, hfrType, hfrBytes, hcarMaster]
  · -- caravanTime
    intro s f res hon hcarJoined hfrCrcOk hfrType hcarMaster hhasTimeSource
    refine State.run_of_on (f := fun d => d.ringTime f res) hon ?_
    simp [Dev.ringTime, Dev.frameIn, hcarJoined, hfrCrcOk, hfrType, hcarMaster, hhasTimeSource]
  · -- caravanTimeSend
    intro s hon hcarMaster hcarState
    refine State.run_of_on (f := fun d => d.ringTimeSend) hon ?_
    simp [Dev.ringTimeSend, hcarMaster, hcarState]
  · -- caravanRead
    intro s f hon hcarJoined hfrCrcOk hfrType hfrDst hcarPos
    refine State.run_of_on (f := fun d => d.ringRead f) hon ?_
    rw [Dev.ringRead, Dev.ringAccess', Dev.frameFor_own hcarJoined hfrCrcOk hfrType hfrDst hcarPos, if_neg (by
      decide)]
  · -- caravanWrite
    intro s f hon hcarJoined hfrCrcOk hfrType hfrDst hcarPos
    refine State.run_of_on (f := fun d => d.ringWriteIn f) hon ?_
    rw [Dev.ringWriteIn, Dev.ringAccess', Dev.frameFor_own hcarJoined hfrCrcOk hfrType hfrDst hcarPos, if_pos
      rfl]
  · -- caravanResp
    intro s f o hon hcarJoined hfrCrcOk hfrType hfrDst hcarPos hoob hfabric htag
    refine State.run_of_on (f := fun d => d.ringResp f) hon ?_
    simp [Dev.ringResp, Dev.frameFor, Dev.frameIn, hcarJoined, hfrCrcOk, hfrType, hfrDst, hcarPos, hoob,
      hfabric, htag]
  · -- oobRead
    rintro s v e hon hoobBusy rfl hpath htarget hcarState
    refine State.run_of_on (f := fun d => d.oobStart v 1) hon ?_
    simp [Dev.oobStart, hoobBusy, hpath, htarget, hcarState]
  · -- oobWrite
    rintro s v e hon hoobBusy rfl hpath htarget hcarState
    refine State.run_of_on (f := fun d => d.oobStart v 2) hon ?_
    simp [Dev.oobStart, hoobBusy, hpath, htarget, hcarState]
  · -- oobTimeout
    intro s o hon hoob
    refine State.run_of_on (f := fun d => d.oobTimeout) hon ?_
    simp [Dev.oobTimeout, Dev.oobEnds, hoob]
  · -- fallbackTrainingPattern
    intro s hon hcarJoined hrate hcarState
    refine State.run_of_on (f := fun d => d.carPattern) hon ?_
    simp [Dev.carPattern, hcarJoined, hrate, hcarState]

end Sys2Proof.Machine

/-! # The completion of commands: O31 -/

namespace Sys2Proof.Machine

/-- Settles O31, command by command. -/
theorem completionPower : Obligations.CompletionPower := by
  unfold Obligations.CompletionPower
  refine ⟨?_, ?_, ?_, ?_, ?_, ?_, ?_, ?_, ?_, ?_, ?_, ?_, ?_, ?_, ?_, ?_, ?_, ?_, ?_, ?_, ?_, ?_, ?_⟩
  · -- vinWarn
    intro s mv hmv hwarn
    refine State.runOasis_of (f := fun d => d.vinWarn mv) ?_
    simp [Dev.vinWarn, hmv, hwarn]
  · -- vinWarnRelease
    intro s mv hwarnLevel hwarn
    refine State.runOasis_of (f := fun d => d.vinWarnEnds mv) ?_
    simp [Dev.vinWarnEnds, hwarnLevel, hwarn]
  · -- vinReset
    intro s
    exact State.runOasis_of (f := fun d => d.vinReset) rfl
  · -- vinOvervoltage
    intro s mv hmv hoff
    refine (exec_vinOvervoltage mv s).trans ((if_neg (by omega)).trans (State.runOasis_of ?_))
    exact if_neg hoff
  · -- vinReturn
    intro s hoff
    refine State.runOasis_of (f := fun d => d.vinReturn) ?_
    simp [Dev.vinReturn, hoff]
  · -- vstbyChange
    intro s on
    exact State.runOasis_of (f := fun d => d.vstbyChange on) rfl
  · -- overcurrent
    intro s hon
    exact State.run_of_on (f := fun d => d.overcurrent) hon rfl
  · -- powerSample
    intro s mv iin pin hon
    exact State.run_of_on (f := fun d => d.powerSample mv iin pin) hon rfl
  · -- coneRise
    intro s hon hiin
    refine State.run_of_on (f := fun d => d.coneRise) hon ?_
    simp [Dev.coneRise, hiin]
  · -- capmiss
    intro s hon hthrottle hconeCap
    refine State.run_of_on (f := fun d => d.capMiss) hon ?_
    simp [Dev.capMiss, hthrottle, hconeCap]
  · -- thermalFall
    intro s tj die hon htj hthermalLimit
    refine State.run_of_on (f := fun d => d.thermalFall tj die.val) hon ?_
    exact if_pos (by simp only [htj, hthermalLimit, decide_true, Bool.and_self])
  · -- thermalRise
    intro s tj die hon htj
    refine State.run_of_on (f := fun d => d.thermalRise tj die.val) hon ?_
    simp [Dev.thermalRise, htj]
  · -- thermalShutdown
    rintro s tj die e hon htj rfl hoff
    refine State.run_of_on (f := fun d => d.thermalShutdown tj die.val) hon ?_
    simp [Dev.thermalShutdown, htj, hoff]
  · -- thermalRestart
    intro s tj hoff hcycled htj
    refine State.runOasis_of (f := fun d => d.thermalRestart tj) ?_
    simp [Dev.thermalRestart, hoff, hcycled, htj]
  · -- domainStop
    intro s q scope hon hstopFails hscope
    refine State.run_of_on (f := fun d => d.domStop q.val scope) hon ?_
    simp [Dev.domStop, hstopFails, hscope]
  · -- domainWake
    intro s q scope hon hscope hscopeEntering hdomRunning
    refine State.run_of_on (f := fun d => d.domWake q.val scope) hon ?_
    simp [Dev.domWake, hscope, hscopeEntering, hdomRunning, show ¬ 4 < scope by omega]
  · -- stopEntryComplete
    rintro s q scope e hon hcmd hscope rfl hregionState
    refine State.run_of_on (f := fun d => d.stopComplete q.val) hon ?_
    simp [Dev.stopComplete, hcmd, hscope, hregionState]
  · -- stopEntryTimeout
    intro s q scope hon hcmd
    refine State.run_of_on (f := fun d => d.stopTimeout q.val) hon ?_
    simp [Dev.stopTimeout, hcmd]
  · -- wakeComplete
    intro s q scope hon hscope
    refine State.run_of_on (f := fun d => d.wakeComplete q.val scope) hon ?_
    simp [Dev.wakeComplete, hscope]
  · -- referenceLoss
    intro s hon href
    refine State.run_of_on (f := fun d => d.refLoss) hon ?_
    simp [Dev.refLoss, href]
  · -- referenceReturn
    intro s hon href hclkRec
    refine State.run_of_on (f := fun d => d.refReturn) hon ?_
    rw [Dev.refReturn, hon, href, if_neg (by decide)]
    dsimp only
    split
    case h_1 slot hrec => exact absurd (hrec.symm.trans hclkRec) nofun
    case h_2 => rfl
  · -- holdoverTimeout
    intro s slot hon hclkRec href
    refine State.run_of_on (f := fun d => d.holdoverTimeout) hon ?_
    simp [Dev.holdoverTimeout, hclkRec, href]
  · -- refclkArrival
    intro s hoff
    refine State.runOasis_of (f := fun d => d.refclkArrives) ?_
    simp [Dev.refclkArrives, hoff]

end Sys2Proof.Machine

/-! # The completion of commands: O32 -/

namespace Sys2Proof.Machine

/-- Settles O32, command by command. -/
theorem completionFault : Obligations.CompletionFault := by
  unfold Obligations.CompletionFault
  refine ⟨?_, ?_, ?_, ?_, ?_, ?_, ?_, ?_, ?_, ?_, ?_, ?_, ?_, ?_, ?_, ?_, ?_⟩
  · -- faultWindowExpiry
    intro s slot unserviced r hon hfrec hstate hrung hcondPresent
    refine State.run_of_on (f := fun d => d.windowExpires slot unserviced) hon ?_
    simp [Dev.windowExpires, hfrec, hstate, hrung, hcondPresent]
  · -- escalationTimeout
    intro s slot unserviced r n hon hfrec hstate hcondPresent hnextRung
    refine State.run_of_on (f := fun d => d.escalates slot unserviced) hon ?_
    simp [Dev.escalates, hfrec, hstate, hcondPresent, hnextRung]
  · -- faultClear
    intro s id slot r hon hrecOf
    refine State.run_of_on (f := fun d => d.ackClear id.val) hon ?_
    simp [Dev.ackClear, hrecOf]
  · -- faultActNow
    intro s id slot r hon hrecOf hstate hrung
    refine State.run_of_on (f := fun d => d.ackAct id.val) hon ?_
    simp [Dev.ackAct, hrecOf, hstate, hrung]
  · -- carryExpiry
    intro s n hon
    exact State.run_of_on (f := fun d => d.carryLapses n) hon rfl
  · -- faultnRelease
    intro s hon hholding
    refine State.run_of_on (f := fun d => d.faultRelease) hon ?_
    simp [Dev.faultRelease, hholding]
  · -- faultnRelease
    intro s hon hholding
    refine State.run_of_on (f := fun d => d.faultRelease) hon ?_
    simp [Dev.faultRelease, hholding]
  · -- faultnForce
    intro s on hon
    exact State.run_of_on (f := fun d => d.faultForce on) hon rfl
  · -- faultnHoldEnd
    intro s
    exact State.runOasis_of (f := fun d => d.faultHoldEnds) rfl
  · -- storeErase
    intro s hon
    exact State.run_of_on (f := fun d => d.storeErase) hon rfl
  · -- zoruriWatchdog
    intro s q hon
    exact State.run_of_on (f := fun d => d.zoruriHang q.val) hon rfl
  · -- zoruriException
    intro s q hon
    exact State.run_of_on (f := fun d => d.zoruriException q.val) hon rfl
  · -- saggarWatchdog
    intro s q hon
    exact State.run_of_on (f := fun d => d.saggarHang q.val) hon rfl
  · -- memoryError
    intro s q kind x y z hon hkind
    exact State.run_of_on (f := fun d => d.memoryError q.val kind x y z) hon (by subst hkind; rfl)
  · -- memoryError
    rintro s q kind x y z hon rfl
    refine State.run_of_on (f := fun d => d.memoryError q.val 2 x y z) hon ?_
    simp [Dev.memoryError]
  · -- kilnGo
    rintro s q v w e hon hgo rfl rfl hkilnFails
    refine State.run_of_on (f := fun d => d.kilnGo q.val (v ||| KLN_CMD_GO.mask)) hon ?_
    simp [Dev.kilnGo, hgo, hkilnFails]
  · -- kilnTestDone
    intro s q fails first tx rx t x n hon hkilnRun hfails
    refine State.run_of_on (f := fun d => d.kilnDone q.val fails first tx rx) hon ?_
    rw [hfails, Dev.kilnDone, hkilnRun]
    rfl

end Sys2Proof.Machine

/-! # The completion of commands: O33 -/

namespace Sys2Proof.Machine

/-- Settles O33, command by command. -/
theorem completionPmc : Obligations.CompletionPmc := by
  unfold Obligations.CompletionPmc
  refine ⟨?_, ?_, ?_, ?_, ?_, ?_, ?_, ?_, ?_⟩
  · -- pmcSelWrite
    intro s q k v m hon hformS hpmcEvent hfilter
    refine State.run_of_on (f := fun d => d.pmcSel q.val k.val v) hon ?_
    simp [Dev.pmcSel, hformS, hpmcEvent, hfilter]
  · -- pmcCntWrite
    intro s q k v hon
    exact State.run_of_on (f := fun d => d.pmcCntWrite q.val k.val v) hon rfl
  · -- pmcCntRead
    intro s path q k hon hk hchained
    refine State.run_of_on (f := fun d => (d.emit (.readValue (pathOut path) (d.shown .PMC_CNT q.val
      k.val))).pmcCntRead q.val k.val) hon ?_
    rw [Dev.pmcCntRead, hk, hchained]
    rfl
  · -- counterWrap
    intro s q k hon hen hchained
    refine State.run_of_on (f := fun d => d.pmcWraps q.val k.val) hon ?_
    simp [Dev.pmcWraps, hen, hchained]
  · -- pmcGo
    intro s hon
    exact State.run_of_on (f := fun d => d.pmcGo) hon rfl
  · -- snapshotPeriod
    intro s hon hperiod
    refine State.run_of_on (f := fun d => d.pmcPeriod) hon ?_
    simp [Dev.pmcPeriod, hperiod]
  · -- snapshotWritten
    rintro s ok s2 hon hsnap hstalled hwritten rfl
    refine State.run_of_on (f := fun d => d.snapWrite true) hon ?_
    simp [Dev.snapWrite, hsnap, hstalled, hwritten]
  · -- ringCiWrite
    intro s v hon hidx32
    refine State.run_of_on (f := fun d => d.ringCi v) hon ?_
    simp [Dev.ringCi, hidx32]
  · -- ringEnable
    rintro s v w hon rfl hpath hen
    refine State.run_of_on (f := fun d => d.ringCtl (v ||| PMC_RINGCTL_EN.mask)) hon ?_
    simp only [Dev.ringCtl, hpath, hen]
    rfl

end Sys2Proof.Machine

/-! # The completion of the register accesses: O34 -/

namespace Sys2Proof.Machine

/-- A write by a path of Table 19-1. -/
theorem Dev.registerWrite_of_not_bar {path : Path} (hp : path.isBar = false) (d : Dev) (a : Nat) (whole : Bool) (v : Word) :
    d.registerWrite path a whole v = d.regWriteCmd path a whole v := by
  cases path with
  | bar h f b => exact nomatch hp
  | _ => rfl

/-- A read by a path of Table 19-1. -/
theorem Dev.registerRead_of_not_bar {path : Path} (hp : path.isBar = false) (d : Dev) (a : Nat) (whole : Bool) :
    d.registerRead path a whole = d.regReadCmd path a whole := by
  cases path with
  | bar h f b => exact nomatch hp
  | _ => rfl

/-- An access that is served performs, and answers on its path. -/
theorem Dev.runAccess_of_serves {d e : Dev} {x : Access} {v : Word} (hstart : ¬ (x.path = .mgmt ∧ d.boot.step = 0)) (h : d.serves x)
    (he : (d.reachDomain x.addr).performAccess x = (e, .done v)) : d.runAccess x = e.accessEnds x (.done v) := by
  obtain ⟨hpath, halign, hdie, hdomain, hheld, hroute⟩ := h
  have htry : d.tryAccess x = (e, .done v) := by
    rw [Dev.tryAccess, hpath, hdie, hdomain, hroute, hheld, ← he, if_neg (by decide), if_neg (not_not_intro halign)]
    rfl
  rw [Dev.runAccess, if_neg (by simpa using hstart), htry]

/-- Settles O34: an access that its address serves performs, a narrow one is refused, and the windows and buses pass theirs on. -/
theorem completionAccess : Obligations.CompletionAccess := by
  unfold Obligations.CompletionAccess
  refine ⟨?_, ?_, ?_, ?_, ?_, ?_, ?_, ?_, ?_, ?_, ?_, ?_⟩
  · -- registerWrite
    intro s via a v hon hstart hbar hwhole hserves
    refine State.run_of_on (f := fun d => d.registerWrite via.path a via.whole v) hon ?_
    rw [Dev.registerWrite_of_not_bar hbar, Dev.regWriteCmd, hwhole, if_pos rfl]
    exact Dev.runAccess_of_serves hstart hserves rfl
  · -- registerWrite
    intro s via a v hon hbar hwhole
    refine State.run_of_on (f := fun d => d.registerWrite via.path a via.whole v) hon ?_
    rw [Dev.registerWrite_of_not_bar hbar, Dev.regWriteCmd, hwhole, if_neg (by decide)]
  · -- registerWrite
    intro s via a v h f b hon hpath
    refine State.run_of_on (f := fun d => d.registerWrite via.path a via.whole v) hon ?_
    simp [Dev.registerWrite, hpath]
  · -- rcRead
    intro s via a hon hstart hbar hwhole hserves
    refine State.run_of_on (f := fun d => d.registerRead via.path a via.whole) hon ?_
    rw [Dev.registerRead_of_not_bar hbar, Dev.regReadCmd, hwhole, if_pos rfl]
    exact Dev.runAccess_of_serves hstart hserves rfl
  · -- rcRead
    intro s via a hon hbar hwhole
    refine State.run_of_on (f := fun d => d.registerRead via.path a via.whole) hon ?_
    rw [Dev.registerRead_of_not_bar hbar, Dev.regReadCmd, hwhole, if_neg (by decide)]
  · -- rcRead
    intro s via a h f b hon hpath
    refine State.run_of_on (f := fun d => d.registerRead via.path a via.whole) hon ?_
    simp [Dev.registerRead, hpath]
  · -- windowDataRead
    rintro s w set whole a hon hlive hstart rfl rfl rfl
    refine State.run_of_on (f := fun d => d.windowRead w.val none true) hon ?_
    exact if_neg (by simpa [hlive] using of_eq_false hstart)
  · -- windowDataWrite
    rintro s w set whole v a hon hlive hstart rfl rfl rfl
    refine State.run_of_on (f := fun d => d.windowWrite w.val none true v) hon ?_
    exact if_neg (by simpa [hlive] using of_eq_false hstart)
  · -- regaccUpdate
    rintro s op addr v hon rfl
    refine State.run_of_on (f := fun d => d.regaccUpdate 1 addr v) hon ?_
    simp [Dev.regaccUpdate]
  · -- regaccUpdate
    rintro s op addr v hon rfl
    refine State.run_of_on (f := fun d => d.regaccUpdate 2 addr v) hon ?_
    simp [Dev.regaccUpdate]
  · -- regaccCapture
    intro s hon
    exact State.run_of_on (f := fun d => d.regaccCapture) hon rfl
  · -- smbusRead
    rintro s adr code rfl hvin
    refine State.runOasis_of (f := fun d => d.smbusRead (0x58 + s.toDev.sys.straps) code) ?_
    exact if_neg (by simp [hvin])

end Sys2Proof.Machine
